-- ==== Sys2Proof/Word.lean ====
section
/-! DEFINITION. Word: the byte and word types of the model (R3: little-endian structures of bytes and DWs). -/

namespace Sys2Proof

/-- One byte of a memory structure. -/
abbrev Byte := BitVec 8

/-- A 32-bit double word (DW). -/
abbrev DW := BitVec 32

/-- The BAR0 index of a register page (R56). -/
abbrev Page := Nat

/-- A partition number, 0 to 127 (R29, R32). -/
abbrev PartId := Nat

end Sys2Proof
end

