-- ==== Sys2Proof/Syntax.lean ====
section
/-! DEFINITION. Syntax: the commands and events of the AQ7160, one constructor per row of spec/opcode_table.json. Each
docstring names the rule that governs the row. Operands: `f` a PCIe function (partition 0 to 63) that reads or writes a
register, `p`, `asn` an accepted command, `g` a Head Link group by its first lane, `hv` what the host wrote since. -/

namespace Sys2Proof

/-- What the host did before the device reads its memory: cells written (key `partition * 2^64 + address`), ranges
(partition, address, length) whose accesses fail from now on, and the MSI-X table entries (function, vector) that are not
enabled from now on (R303). -/
structure HostView where
  writes : List Host.Cell := []
  fails : List (Nat × Nat × Nat) := []
  vectorsOff : List (Nat × Nat) := []
deriving DecidableEq, Repr

/-- A drive that arrives at a magazine port: serial number, capacity in 4 KiB LBAs, and its LBAs that are not zero. -/
structure Drive where
  serial : List Byte := []
  lbas : Nat := 0
  media : List (Nat × List Byte) := []
deriving DecidableEq, Repr

/-- Coding tools of HEVC and AV1 that the manual names (R257). -/
inductive Tool where
  | ctu64 | codingUnits | transformUnits | asymmetricPartitions | intra35 | transformSkip4 | merge | amvp | twoReferenceLists
  | quarterPel | deblocking | sao | slices | tiles | flatScaling | signDataHiding
  | wpp | pcm | weightedPrediction | crossComponent | customScaling
  | superblock64 | blocks | directional | smooth | chromaFromLuma | single | compound | switchableFilters | eighthPel | cdef | wiener
  | deltaQ | quantiserMatrices | palette | intraBlockCopy | obmc | warpedMotion | globalMotion | dualFilter | selfGuided | superres
  | filmGrain
deriving DecidableEq, Repr

/-- A motion vector that the search found: the reference picture and what each of the four steps of R266 came to: at 1/16 scale, at
1/4 scale, at full scale in samples, and the sub-pel part in eighths. -/
structure Motion where
  ref : Nat
  coarse : Int × Int := (0, 0)
  quarter : Int × Int := (0, 0)
  full : Int × Int := (0, 0)
  fine : Int × Int := (0, 0)
deriving DecidableEq, Repr

/-- How the pixel engine coded a CTU row: its QP where it is not the picture's, the estimate at the picture's QP where CCQ raised it,
the tools and motion vectors it used, and its reconstructed samples. -/
structure RowCode where
  qp : Option Nat := none
  atQuality : Nat := 0
  tools : List Tool := []
  motion : List Motion := []
  samples : List Nat := []
deriving DecidableEq, Repr

/-- What a decoder finds of a picture: its planes as far as they decode; `blocks`, its CTUs or superblocks (x, y, width, height) in
decoding order; `resync`, the numbers of those that begin an independent slice segment or a tile; `bad`, those at which a check
fails; `ended`, the one at which the unit ends early; whether its headers are damaged; whether it is an IRAP picture or key frame;
the pictures it references (picture order counts of its RPS, or AV1 slots), the AV1 slots it refreshes, what its headers say of output
(shown, an AV1 slot shown again), and its film grain. -/
structure Picture where
  w : Nat
  h : Nat
  chroma : Nat
  depth : Nat
  poc : Nat
  planes : List (List (List Nat))
  blocks : List (Nat × Nat × Nat × Nat) := []
  resync : List Nat := []
  bad : List Nat := []
  ended : Option Nat := none
  headerBad : Bool := false
  irap : Bool := false
  refs : List Nat := []
  refresh : List Nat := []
  isShown : Bool := true
  showSlot : Option Nat := none
  grain : Option (List Nat) := none
deriving DecidableEq, Repr

/-- The commands and events. -/
inductive Instr where
  /-- QUEUE_CREATE (R304). Admin command that creates an I/O queue pair with its depths, vector, weight and coalescing. -/
  | queueCreate (p : Nat) (asn : Nat) (hv : HostView)
  /-- QUEUE_DELETE (R304). Admin command that stops fetching from a queue pair and sends its later completions to the Orphan Completion log. -/
  | queueDelete (p : Nat) (asn : Nat) (hv : HostView)
  /-- IDENTIFY (R316). Admin command that writes 4,096 B of device or partition identity data to host memory. -/
  | identify (p : Nat) (asn : Nat) (hv : HostView)
  /-- LOG_READ (R316). Admin command that copies a log view (header and visible records) to host memory, optionally consuming Orphan Completion records. -/
  | logRead (p : Nat) (asn : Nat) (hv : HostView)
  /-- FEATURE_SET (R316). Admin command that sets a feature value such as admin burst, host hint or syslog mirror. -/
  | featureSet (p : Nat) (asn : Nat) (hv : HostView)
  /-- FEATURE_GET (R316). Admin command that returns one DW of a feature value. -/
  | featureGet (p : Nat) (asn : Nat) (hv : HostView)
  /-- FW_STAGE (R347). Admin command that writes a firmware chunk into a flash slot and verifies the image on the last chunk. -/
  | fwStage (p : Nat) (asn : Nat) (hv : HostView)
  /-- FW_ACTIVATE (R348). Admin command that starts a hot activation of a staged image on the standby pair, or sets a cold image as boot slot. -/
  | fwActivate (p : Nat) (asn : Nat) (hv : HostView)
  /-- PARTITION_CONFIG (R300). Partition 0 command that sets a partition's ENABLE, vector count and session limit. -/
  | partitionConfig (p : Nat) (asn : Nat) (hv : HostView)
  /-- PARTITION_SET_KEY (R300). PARTITION_CONFIG operation that installs a network partition's pre-shared RCT key. -/
  | partitionSetKey (p : Nat) (asn : Nat) (hv : HostView)
  /-- PARTITION_RESET (R335). PARTITION_CONFIG operation that resets a partition, deleting its queues, rings and sessions, optionally pausing its contexts. -/
  | partitionReset (p : Nat) (asn : Nat) (hv : HostView)
  /-- RESOURCE_ASSIGN (R301). Partition 0 command that moves an object to a partition and sets its reservation after range, busy and capacity checks. -/
  | resourceAssign (p : Nat) (asn : Nat) (hv : HostView)
  /-- EVENT_RING_SET (R316). Admin command that creates or replaces the partition's event ring or assist ring. -/
  | eventRingSet (p : Nat) (asn : Nat) (hv : HostView)
  /-- EVENT_RING_DELETE (R316). EVENT_RING_SET operation that removes the partition's ring of the given kind. -/
  | eventRingDelete (p : Nat) (asn : Nat) (hv : HostView)
  /-- RETURN_CAPTURE (R349). Partition 0 command that writes the signed return record to host memory and the journal store. -/
  | returnCapture (p : Nat) (asn : Nat) (hv : HostView)
  /-- ABORT (R314). Admin command that catches an accepted command by queue and CID if it is still within its catch window. -/
  | abort (p : Nat) (asn : Nat) (hv : HostView)
  /-- FLUSH (R313). I/O command that completes when every earlier store write and committed Take frame of the partition is durable. -/
  | flush (p : Nat) (asn : Nat) (hv : HostView)
  /-- WRITE (R310). I/O command that writes host data to store, parameter or calibration space under range locks. -/
  | write (p : Nat) (asn : Nat) (hv : HostView)
  /-- READ (R310). I/O command that reads store, parameter or calibration space to host memory under range locks. -/
  | read (p : Nat) (asn : Nat) (hv : HostView)
  /-- FRAME_READ (R239). I/O command that returns one plane or table entries of an indexed Take frame, repairing from redundancy where needed. -/
  | frameRead (p : Nat) (asn : Nat) (hv : HostView)
  /-- TAKE_OPEN (R233). I/O command that opens a Take recording one context onto a stripe set and reserves its table range. -/
  | takeOpen (p : Nat) (asn : Nat) (hv : HostView)
  /-- TAKE_CLOSE (R237). I/O command that stops indexing a Take now or at a Capture ID and completes when all indexed frames are final. -/
  | takeClose (p : Nat) (asn : Nat) (hv : HostView)
  /-- TAKE_ERASE (R237). TAKE_CLOSE STOP 2 operation that deallocates a closed Take's extents and marks it ERASED. -/
  | takeErase (p : Nat) (asn : Nat) (hv : HostView)
  /-- QUIRE_SEAL (R67). I/O command that seals a context's shadow bank as a Quire and resolves its target frame. -/
  | quireSeal (p : Nat) (asn : Nat) (hv : HostView)
  /-- LUT_LOAD (R206). I/O command that loads and checks a LUT library slot from host memory. -/
  | lutLoad (p : Nat) (asn : Nat) (hv : HostView)
  /-- LUT_INVALIDATE (R206). LUT_LOAD operation that marks a library slot INVALID without transferring data. -/
  | lutInvalidate (p : Nat) (asn : Nat) (hv : HostView)
  /-- DITHER_LOAD (R202). LUT_LOAD operation by partition 0 that loads and checks the device-wide dither table. -/
  | ditherLoad (p : Nat) (asn : Nat) (hv : HostView)
  /-- CONTEXT_BIND (R129). I/O command that binds a context to a Head ID and fixes its Section, path and declared rate. -/
  | contextBind (p : Nat) (asn : Nat) (hv : HostView)
  /-- CONTEXT_UNBIND (R130). CONTEXT_BIND operation that unbinds a context, cancelling its pending Quires and ending its taps. -/
  | contextUnbind (p : Nat) (asn : Nat) (hv : HostView)
  /-- TAP_ARM (R146). I/O command that arms a raw tap of a context onto a host ring. -/
  | tapArm (p : Nat) (asn : Nat) (hv : HostView)
  /-- TAP_DISARM (R146). TAP_ARM operation that disarms a tap, completing its outstanding arming with TAP_DISARMED. -/
  | tapDisarm (p : Nat) (asn : Nat) (hv : HostView)
  /-- RENDITION_SET (R208). I/O command that binds or changes a rendition's context, slot, petals and sinks after admission checks. -/
  | renditionSet (p : Nat) (asn : Nat) (hv : HostView)
  /-- RENDITION_DELETE (R209). RENDITION_SET operation that stops new passes of a rendition and frees it once its outputs are released. -/
  | renditionDelete (p : Nat) (asn : Nat) (hv : HostView)
  /-- ENC_CONFIG (R259). ENC_SUBMIT operation that loads an encoder context's configuration descriptor. -/
  | encConfig (p : Nat) (asn : Nat) (hv : HostView)
  /-- ENC_PICTURE (R261). ENC_SUBMIT operation that encodes one picture from host memory. -/
  | encPicture (p : Nat) (asn : Nat) (hv : HostView)
  /-- ENC_COLLECT (R263). ENC_SUBMIT operation that moves the oldest picture of the output queue to host memory. -/
  | encCollect (p : Nat) (asn : Nat) (hv : HostView)
  /-- ENC_FORCE_IRAP (R264). ENC_SUBMIT operation that codes the next picture as IDR or key frame. -/
  | encForceIrap (p : Nat) (asn : Nat) (hv : HostView)
  /-- ENC_END (R258). ENC_SUBMIT operation that codes every held picture and ends the sequence. -/
  | encEnd (p : Nat) (asn : Nat) (hv : HostView)
  /-- ENC_RELEASE (R258). ENC_SUBMIT operation that frees an encoder context's memory and configuration. -/
  | encRelease (p : Nat) (asn : Nat) (hv : HostView)
  /-- ENC_LTR (R264). ENC_SUBMIT operation that marks, refers to or clears a long-term reference slot. -/
  | encLtr (p : Nat) (asn : Nat) (hv : HostView)
  /-- ENC_SINK_READ (R262). ENC_SUBMIT operation that copies a MEMORY sink buffer with its Colophon to host memory. -/
  | encSinkRead (p : Nat) (asn : Nat) (hv : HostView)
  /-- DEC_CONFIG (R274). DEC_SUBMIT operation that loads a decoder context's configuration descriptor. -/
  | decConfig (p : Nat) (asn : Nat) (hv : HostView)
  /-- DEC_DECODE (R274). DEC_SUBMIT operation that queues one access unit or temporal unit for decoding. -/
  | decDecode (p : Nat) (asn : Nat) (hv : HostView)
  /-- DEC_DRAIN (R274). DEC_SUBMIT operation that outputs every picture still held. -/
  | decDrain (p : Nat) (asn : Nat) (hv : HostView)
  /-- DEC_RELEASE (R274). DEC_SUBMIT operation that releases a decoder context. -/
  | decRelease (p : Nat) (asn : Nat) (hv : HostView)
  /-- FRC_COMPRESS (R230). FRC_JOB operation that compresses one raw frame between host buffers. -/
  | frcCompress (p : Nat) (asn : Nat) (hv : HostView)
  /-- FRC_EXPAND (R231). FRC_JOB operation that expands one coded frame between host buffers, optionally concealing failed bands. -/
  | frcExpand (p : Nat) (asn : Nat) (hv : HostView)
  /-- ASSIST_REPLY (R55). I/O command that answers an outstanding assist request by tag. -/
  | assistReply (p : Nat) (asn : Nat) (hv : HostView)
  /-- COMMAND_FETCH (R309). The device fetches an available submission entry when CQ room and ledger space allow, accepting it with the next ASN. -/
  | commandFetch (p : Nat) (q : Nat) (hv : HostView)
  /-- CQ_COALESCE_TIMEOUT (R308). COAL_US expires after the first uninterrupted completion, sending the CQ interrupt. -/
  | cqCoalesceTimeout (p : Nat) (q : Nat)
  /-- SQ_TAIL (R306). Doorbell write that makes submission entries available for fetch. -/
  | sqTail (f : Nat) (q : Nat) (v : Nat) (n : Nat := 4)
  /-- CQ_HEAD (R306). Doorbell write that returns completion entries to the device. -/
  | cqHead (f : Nat) (q : Nat) (v : Nat) (n : Nat := 4)
  /-- EVT_HEAD (R306). Doorbell write that returns event ring entries to the device. -/
  | evtHead (f : Nat) (v : Nat) (n : Nat := 4)
  /-- AST_HEAD (R306). Doorbell write that returns assist ring entries to the device. -/
  | astHead (f : Nat) (v : Nat) (n : Nat := 4)
  /-- REGISTER_WRITE (R48). A write to a register with no behaviour of its own, checked against page ownership. -/
  | registerWrite (f : Nat) (pg : Nat) (o : Nat) (v : Nat) (n : Nat := 4)
  /-- BAR2_ACCESS (R26). A BAR2 access to a Parameter Block, translated by MMU1 and denied outside the partition's contexts. -/
  | bar2Access (f : Nat) (off : Nat) (write : Option (List (Option Byte))) (n : Nat)
  /-- LOW_DW_READ (R31). A read of the low DW of a 64-bit register latches the high DW for the same function. -/
  | lowDwRead (f : Nat) (pg : Nat) (o : Nat) (n : Nat := 4)
  /-- RC_READ (R42). A read of an RC field returns and clears it, restarting maxima and minima. -/
  | rcRead (f : Nat) (pg : Nat) (o : Nat) (n : Nat := 4)
  /-- FENCE_READ (R15). A read of a page's FENCE returns once the reader's earlier writes to the page have taken effect. -/
  | fenceRead (f : Nat) (pg : Nat)
  /-- BARRIER (R15). A write of SYS.BARRIER places a barrier in the function's write stream. -/
  | barrier (f : Nat)
  /-- PAGE_CTRL_EN (R37). A write of PAGE_CTRL.EN starts or stops the block taking new work. -/
  | pageCtrlEn (f : Nat) (pg : Nat) (v : Nat)
  /-- PAGE_DRAINED (R37). Accepted work of a disabled or resetting page finishes, so the page becomes IDLE or completes its soft reset. -/
  | pageDrained (pg : Nat)
  /-- SOFT_RST (R38). A write of PAGE_CTRL.SOFT_RST drains the page and returns its class A fields to reset. -/
  | softRst (f : Nat) (pg : Nat) (v : Nat)
  /-- PAGE_CTRL_MODE (R419). A write of PAGE_CTRL.MODE enters or leaves host-assisted mode, resolving outstanding requests on leaving. -/
  | pageCtrlMode (f : Nat) (pg : Nat) (v : Nat)
  /-- PAGE_OWNER (R50). A write of PAGE_OWNER by partition 0 changes the owner and clears class B fields. -/
  | pageOwner (f : Nat) (pg : Nat) (v : Nat)
  /-- INT_SET (R41). A write of INT_SET sets INT_STAT bits and may signal an interrupt. -/
  | intSet (f : Nat) (pg : Nat) (v : Nat)
  /-- RST_CTRL_DEV (R336). A write of SYS.RST_CTRL.DEV starts a device reset. -/
  | rstCtrlDev (f : Nat) (v : Nat)
  /-- HBM_RETIRE (R25). A write of HBMn.RETIRE retires a healthy stack under R23. -/
  | hbmRetire (f : Nat) (st : Nat) (v : Nat)
  /-- GRP_CTRL_EN (R92). A write of a Head Link group slot's EN enables or disables the group after configuration checks. -/
  | grpCtrlEn (f : Nat) (g : Nat) (v : Nat)
  /-- MAP_RESET (R122). A write of GRP_CTRL.MAP_RESET restores the identity lane map of a disabled group. -/
  | mapReset (f : Nat) (g : Nat) (v : Nat)
  /-- VCMAP_WRITE (R119). A write of a VCMAP entry, effective at the VC's next binding. -/
  | vcmapWrite (f : Nat) (g : Nat) (vc : Nat) (v : Nat)
  /-- VCMAP_UNBIND (R119). A write of VCMAP.UNBIND sends UNBIND and unbinds the VC at once. -/
  | vcmapUnbind (f : Nat) (g : Nat) (vc : Nat) (v : Nat)
  /-- LOOPBACK (R123). A write of near-end LOOPBACK or PRBS_GEN takes the lane's group to TEST, or back to DETECT. -/
  | loopback (f : Nat) (lane : Nat) (v : Nat)
  /-- FAR_END_LOOPBACK (R125). A write of LOOPBACK = 0b100 on an ACTIVE group sends TEST to the far end. -/
  | farEndLoopback (f : Nat) (lane : Nat) (v : Nat)
  /-- CREATE (R250). A write of SET_CTRL.CREATE labels BLANK magazines as a new OPTIMAL stripe set. -/
  | create (f : Nat) (x : Nat) (v : Nat)
  /-- ASSEMBLE (R250). A write of SET_CTRL.ASSEMBLE assembles a stripe set from magazine labels. -/
  | assemble (f : Nat) (x : Nat) (v : Nat)
  /-- KEY (R252). The write of the last KEY word of a stripe set loads its encryption key. -/
  | key (f : Nat) (x : Nat) (v : Nat)
  /-- DSP_COMMIT (R291). A write of DSPn.COMMIT requests promotion of the engine's RWQ fields at the next apply point. -/
  | dspCommit (f : Nat) (n : Nat) (v : Nat)
  /-- AUX_GO (R293). A write of DPXn.AUX_GO starts a DisplayPort AUX transaction. -/
  | auxGo (f : Nat) (n : Nat) (v : Nat)
  /-- FLOW_ENABLE (R326). A write of a flow's EN admits or stops an ST 2110-20 sender after rate checks. -/
  | flowEnable (f : Nat) (w : Nat) (v : Nat)
  /-- INCR (R351). A write of TMB.INCR changes the Timebase increment at the next tick if in range. -/
  | incr (f : Nat) (hi : Nat) (v : Nat)
  /-- STEP (R353). A write of STEP_CTRL.GO applies or refuses a Timebase step. -/
  | step (f : Nat) (v : Nat)
  /-- ARM (R354). A write of STEP_CTRL.ARM arms a forced step for 100 ms. -/
  | arm (f : Nat) (v : Nat)
  /-- NOW_NS_READ (R352). A read of NOW_NS low latches the high half and fraction per function. -/
  | nowNsRead (f : Nat)
  /-- SET_GO (R356). A write of PTPn.SET_GO loads the port time. -/
  | setGo (f : Nat) (n : Nat) (v : Nat)
  /-- ADJ_GO (R356). A write of PTPn.ADJ_GO adds a signed adjustment to port time. -/
  | adjGo (f : Nat) (n : Nat) (v : Nat)
  /-- RX_POP (R358). A write of RX_POP releases the shown received PTP frame. -/
  | rxPop (f : Nat) (n : Nat) (v : Nat)
  /-- TX_GO (R358). A write of TX_GO sends the PTP frame in TX_DATA ahead of other traffic. -/
  | txGo (f : Nat) (n : Nat) (v : Nat)
  /-- TS_POP (R358). A write of TS_POP releases the shown egress timestamp. -/
  | tsPop (f : Nat) (n : Nat) (v : Nat)
  /-- PRESET (R370). A write of PRESET.SET_GO loads a position channel's POS and REV. -/
  | preset (f : Nat) (n : Nat) (v : Nat)
  /-- Z_ARM (R370). A write of Z_ARM arms homing on the next index. -/
  | zArm (f : Nat) (n : Nat) (v : Nat)
  /-- CMP_PAIR_WRITE (R373). A write of a compare unit's CTRL or CMP pair re-evaluates its armed directions. -/
  | cmpPairWrite (f : Nat) (u : Nat) (k : Nat) (v : Nat)
  /-- LOCK (R42). A write of SCU.LOCK freezes every RWL field until power-on. -/
  | lock (f : Nat) (v : Nat)
  /-- XSP_COMMIT (R414). A write of XSP.COMMIT stores MAX_MHZ in the journal store. -/
  | xspCommit (f : Nat) (v : Nat)
  /-- I2C_TRANSFER (R415). A write of I2Cn CMD with GO starts a mailbox transfer. -/
  | i2cTransfer (f : Nat) (n : Nat) (v : Nat)
  /-- I2C_TRANSFER_END (R415). An I2C transfer ends at its stop or after SCL is held for 25 ms, setting DONE and RESULT. -/
  | i2cTransferEnd (n : Nat) (result : Nat) (count : Nat) (data : List Byte)
  /-- TX_DATA (R416). A write of UAR.TX_DATA queues a byte for transmission while the host owns the UART. -/
  | txData (f : Nat) (v : Nat)
  /-- RX_DATA (R416). A read of UAR.RX_DATA removes the oldest received byte. -/
  | rxData (f : Nat)
  /-- UART_RECEIVE (R416). A character arrives on the UART and enters the receive FIFO or is lost. -/
  | uartReceive (b : Byte) (framing : Bool)
  /-- BOOT_GO (R406). A write of SYS.BOOT_GO offers the host boot image. -/
  | bootGo (f : Nat) (v : Nat)
  /-- GRP_MAX (R379). A write of PWR.GRP_MAX limits a group's power state, waking it if deeper. -/
  | grpMax (f : Nat) (k : Nat) (v : Nat)
  /-- TJ_FAIL (R388). A write of THM.TJ_FAIL sets the broken-sensor temperature within its range. -/
  | tjFail (f : Nat) (v : Nat)
  /-- HIF_ENABLE (R303). A write of a function's HIF ENABLE creates or deletes its admin queue pair. -/
  | hifEnable (f : Nat) (n : Nat) (v : Nat)
  /-- SIGNAL_DETECT (R114). Signal is detected on every lane of an enabled group, leaving DETECT for LOCK. -/
  | signalDetect (g : Nat)
  /-- SYNC_LOCK (R97). A lane gains sync lock after 8 sync words at gathering spacing. -/
  | syncLock (lane : Nat) (inverted : Bool)
  /-- SYNC_LOSS (R97). A lane loses sync lock after 4 missing sync words, failing the group unless spared. -/
  | syncLoss (lane : Nat)
  /-- GATHERING (R100). A group gathering is received, checked and parsed, or discarded on failure. -/
  | gathering (g : Nat) (lines : List (Option (List Bool)))
  /-- TRAINING_TIMEOUT (R114). A training state timer runs out, failing the group into BACKOFF. -/
  | trainingTimeout (g : Nat)
  /-- BACKOFF_EXPIRY (R118). A group's backoff time ends and it returns to DETECT. -/
  | backoffExpiry (g : Nat)
  /-- FHDR (R135). A frame header arrives and is checked and announced, or discarded. -/
  | fhdr (g : Nat)
  /-- ROWS (R137). A ROWS packet writes samples into the open frame of its VC. -/
  | rows (g : Nat)
  /-- FTRL (R136). A frame trailer closes the open frame of its VC, or is discarded. -/
  | ftrl (g : Nat)
  /-- AUX (R138). An AUX packet is appended to its frame's auxiliary area, or discarded. -/
  | aux (g : Nat)
  /-- BIND_OFFER (R117). A far end offers a VC's head and the device accepts or refuses it. -/
  | bindOffer (g : Nat)
  /-- BIND_DONE (R115). The far end ends its offers, taking the group to ACTIVE. -/
  | bindDone (g : Nat)
  /-- STATUS (R121). The far end reports per-lane downstream CRC failures. -/
  | status (g : Nat)
  /-- SPARE_READY (R122). The far end confirms it sends a spared lane on both pairs. -/
  | spareReady (g : Nat)
  /-- TE_EVENT (R290). A head relays a tearing-effect instant. -/
  | teEvent (g : Nat) (hv : HostView)
  /-- ACK (R110). A CTRL acknowledgement arrives, retiring acknowledged messages. -/
  | ack (g : Nat)
  /-- ACK_TIMEOUT (R110). The oldest unacknowledged CTRL message times out and all are resent. -/
  | ackTimeout (g : Nat)
  /-- DREQ (R111). A head's delay request arrives and the device answers with DRESP. -/
  | dreq (g : Nat)
  /-- TIME_SYNC (R111). TIME_INTERVAL passes and the device sends a TIME SYNC packet. -/
  | timeSync (g : Nat) (ref : Nat)
  /-- LANE_SPARE_THRESH (R121). A lane's failure count reaches the threshold and sparing starts or is reported unavailable. -/
  | laneSpareThresh (lane : Nat)
  /-- SPARE_READY_TIMEOUT (R122). SPARE_READY does not arrive within 10 ms and the sparing is cancelled. -/
  | spareReadyTimeout (g : Nat)
  /-- SPARE_SWITCH (R122). The device switches a spared lane's receiver at a quiet gathering and sends SPARE_COMMIT. -/
  | spareSwitch (g : Nat)
  /-- SPARE_WAIT (R122). SPARE_WAIT passes with no quiet gathering, so the switch happens at the next gathering. -/
  | spareWait (g : Nat)
  /-- ROW_TIMEOUT (R136). ROW_TIMEOUT passes with no ROWS packet and the frame closes. -/
  | rowTimeout (h : Nat) (cid : Nat)
  /-- FRAME_TIMEOUT (R136). FRAME_TIMEOUT passes since ANNOUNCED and the frame closes. -/
  | frameTimeout (h : Nat) (cid : Nat)
  /-- COMPLETE (R136). Every declared row is received and ROW_TIMEOUT passes, closing the frame without a trailer. -/
  | complete (h : Nat) (cid : Nat)
  /-- ADMIT_RESEND (R132). 100 ms of configuration pass without admission and the configuration is resent. -/
  | admitResend (h : Nat)
  /-- ADMIT_STALL (R132). A head stays in CONFIG for 1 s and a WARN event is raised. -/
  | admitStall (h : Nat)
  /-- MIPI_FRAME_START (R144). A CSI-2 Frame Start acts as a synthesised FHDR. -/
  | mipiFrameStart (n : Nat) (corrected : Bool)
  /-- MIPI_LONG_PACKET (R145). A CSI-2 raw long packet becomes the next row, concealed on a payload CRC failure. -/
  | mipiLongPacket (n : Nat) (payload : List Byte) (crcOk : Bool) (corrected : Bool)
  /-- MIPI_EMBEDDED_DATA (R144). A CSI-2 embedded data packet is appended to the auxiliary area. -/
  | mipiEmbeddedData (n : Nat) (payload : List Byte) (corrected : Bool) (crcOk : Bool := true)
  /-- MIPI_FRAME_END (R144). A CSI-2 Frame End acts as an FTRL. -/
  | mipiFrameEnd (n : Nat) (corrected : Bool)
  /-- SECTION_PASS_START (R9). A Section starts a first, memory-path, stripe or respin pass chosen by its scheduler. -/
  | sectionPassStart (h : Nat) (cid : Nat)
  /-- RESPIN_PASS_START (R78). A respin pass of a frame starts from the retained raw with the newer generation. -/
  | respinPassStart (h : Nat) (cid : Nat) (member : Option Nat := none)
  /-- SECTION_PASS_END (R80). A Section pass ends and the frame becomes PROCESSED if its seal point has passed. -/
  | sectionPassEnd (h : Nat) (cid : Nat) (respin : Bool) (member : Option Nat := none)
  /-- SEAL_POINT (R75). INGESTED plus SEAL_GRACE passes and the frame becomes SEALED, completing its Quires. -/
  | sealPoint (h : Nat) (cid : Nat)
  /-- RELEASE_DEADLINE (R82). A frame's release deadline passes and REALTIME sinks take first-pass output or give up the frame. -/
  | releaseDeadline (h : Nat) (cid : Nat)
  /-- ECHO_LIMIT (R73). ECHO_LIMIT frames pass without an echo, so settings are resent or the Quire times out. -/
  | echoLimit (c : Nat) (id : Nat)
  /-- MISMATCH_RESEND (R73). MISMATCH_RESEND consecutive frames mismatch and the newest settings are resent. -/
  | mismatchResend (c : Nat)
  /-- CALIBRATION_APPLY (R154). A held calibration write is applied once no pass of the context runs. -/
  | calibrationApply (p : Nat) (asn : Nat)
  /-- ASSIST_DEADLINE (R53). An assist request reaches its deadline and its hardware default applies. -/
  | assistDeadline (part : Nat) (tag : Nat)
  /-- PETAL_JOB_START (R215). A petal starts its next rendition job, loading its LUT store if needed. -/
  | petalJobStart (h : Nat) (cid : Nat) (r : Nat) (first : Bool)
  /-- PETAL_JOB_END (R212). A rendition pass ends and its output passes each sink's release gate. -/
  | petalJobEnd (h : Nat) (cid : Nat) (r : Nat) (first : Bool)
  /-- FRC_CODING_START (R235). A free FRC engine starts coding a Take frame into the pending window. -/
  | frcCodingStart (n : Nat) (h : Nat) (cid : Nat)
  /-- FRC_CODING_END (R235). An FRC engine ends coding a Take frame. -/
  | frcCodingEnd (n : Nat) (bad : List Nat) (fault : Bool)
  /-- STRIPE_WRITE (R245). A stripe is full or its data is old and all its units are written to the members. -/
  | stripeWrite (x : Nat) (t : Nat)
  /-- STRIPE_DURABLE (R245). A stripe's writes complete on every live member and its entries become DURABLE. -/
  | stripeDurable (x : Nat) (t : Nat)
  /-- MAGAZINE_LINK_UP (R241). A magazine link comes up and the drive is identified and judged. -/
  | magazineLinkUp (n : Nat) (width : Nat) (gen : Nat) (drive : Option Drive) (fails : Nat)
  /-- MAG_COMMAND_TIMEOUT (R242). An NVMe command exceeds MAG_TIMEOUT and is aborted or the controller reset. -/
  | magCommandTimeout (n : Nat) (reset : Bool)
  /-- MAG_FAILED (R242). A magazine fails on link loss, write error or repeated reset, degrading its set. -/
  | magFailed (n : Nat) (link : Bool)
  /-- MAG_MEDIA_ERROR (R242). A read completes with a media error and is served from redundancy. -/
  | magMediaError (n : Nat) (lba : Nat)
  /-- REBUILD_DONE (R251). A stripe set rebuild ends and the set becomes OPTIMAL. -/
  | rebuildDone (x : Nat)
  /-- FLT_REBUILD (R249). After fetching opens the Frame Locator Table is rebuilt from set directories. -/
  | fltRebuild (x : Nat)
  /-- ENC_PICTURE_START (R265). An encoder's pixel engine starts a picture once its references have committed. -/
  | encPictureStart (n : Nat) (poc : Nat) (qp : Nat) (target : Nat) (hdr : Nat) (hv : HostView)
  /-- ENC_ROW_END (R267). The entropy engine ends a CTU row, running floor check and rollback. -/
  | encRowEnd (n : Nat) (b : Nat) (a : Nat) (fb : Nat) (plan : Nat) (floorRow : List Nat := [])
  /-- ENC_PICTURE_COMMIT (R258). A picture's last row commits and its bitstream is delivered. -/
  | encPictureCommit (n : Nat) (qp : Nat) (bs : List Byte) (hv : HostView)
  /-- DEC_UNIT_START (R274). A decoder engine starts decoding a unit of a context. -/
  | decUnitStart (g : Nat) (n : Nat) (sequence : Option (List Nat)) (bad : List Nat)
  /-- DEC_UNIT_END (R274). A decoder ends a unit and outputs its outputable pictures. -/
  | decUnitEnd (n : Nat) (pics : List Picture) (reorder : List Nat) (hv : HostView)
  /-- DEC_WATCHDOG (R278). A picture's cycle budget runs out and it is closed with concealment. -/
  | decWatchdog (g : Nat) (ix : Nat) (done : Nat := 0)
  /-- APPLY_POINT (R291). A scan-out engine promotes pending commits and latches layer buffers. -/
  | applyPoint (n : Nat) (hv : HostView := {})
  /-- DSP_FRAME_START (R289). Active video of a scan-out frame starts by free run, cadence or TE. -/
  | dspFrameStart (n : Nat) (hv : HostView)
  /-- TE_INPUT (R290). A tearing-effect edge arrives on TE_IN0 or TE_IN1. -/
  | teInput (ix : Nat)
  /-- TE_TIMEOUT (R290). No TE instant arrives within TE_TIMEOUT lines and the frame starts. -/
  | teTimeout (n : Nat) (hv : HostView)
  /-- DSP_UNDERRUN (R288). A layer line is not in the line buffer when needed and is transparent. -/
  | dspUnderrun (n : Nat) (l : Nat) (y : Nat) (x : Nat)
  /-- HOT_PLUG (R293). A DisplayPort sink is plugged or unplugged and the port retrains. -/
  | hotPlug (n : Nat) (present : Bool) (rate : Nat) (lanes : Nat) (adaptive : Bool) (fails : Bool)
  /-- FEED_LINE_SEND (R295). A head-return feed sends one line in a RETVID packet. -/
  | feedLineSend (n : Nat)
  /-- FUNCTION_LEVEL_RESET (R299). A PCIe FLR of a function resets its partition. -/
  | functionLevelReset (f : Nat)
  /-- VF_ENABLE (R297). The host sets VF Enable and NumVFs, creating virtual functions. -/
  | vfEnable (n : Nat)
  /-- OPEN_REQ (R318). An RCT client requests a session and receives a challenge. -/
  | openReq (port : Nat) (addr : Nat) (b : List Byte)
  /-- OPEN_PROVE (R318). An RCT client proves the key and the session opens or is refused. -/
  | openProve (port : Nat) (addr : Nat) (b : List Byte)
  /-- CHALLENGE_EXPIRY (R318). An RCT challenge is not proved within 1 s and is removed. -/
  | challengeExpiry (id : Nat)
  /-- RCT_COMMAND (R319). A COMMAND packet delivered in order is accepted as a submission. -/
  | rctCommand (port : Nat) (b : List Byte)
  /-- RCT_DATA (R320). A DATA packet fills an offered XFER_READY window. -/
  | rctData (port : Nat) (b : List Byte)
  /-- RCT_ACK (R319). An RCT ACK retires acknowledged packets. -/
  | rctAck (port : Nat) (b : List Byte)
  /-- RCT_CLOSE (R321). A client CLOSE moves a session to CLOSING. -/
  | rctClose (port : Nat) (b : List Byte)
  /-- RCT_RTO (R319). An RCT packet's retransmission timeout expires and it is resent. -/
  | rctRto (id : Nat) (seq : Nat)
  /-- SESSION_TIMEOUT (R319). An RCT session fails after sixteen timeouts or SESSION_TIMEOUT_MS of silence, entering HOLD. -/
  | sessionTimeout (id : Nat)
  /-- RESPONSE_HOLD_EXPIRY (R321). A held session is not taken over within RESPONSE_HOLD_MS and is removed. -/
  | responseHoldExpiry (id : Nat)
  /-- RCT_KEEPALIVE (R319). 100 ms pass with nothing to send and an ACK is sent. -/
  | rctKeepalive (id : Nat)
  /-- FLOW_FRAME_START (R323). A flow's frame-period instant arrives and a released frame is sent. -/
  | flowFrameStart (w : Nat)
  /-- ETHERNET_LINK_DOWN (R341). An Ethernet port loses its link or exceeds FCS errors and is taken out of service. -/
  | ethernetLinkDown (port : Nat) (ix : Nat) (fcs : Nat)
  /-- SHUTDOWN (R338). The pending image copy ends and the SHUTDOWN record is written. -/
  | shutdown (crc : Nat) (ms : Nat)
  /-- PWR_OK_RISE (R404). PWR_OK rises, a power-on that starts the boot ROM. -/
  | pwrOkRise (sel : Nat) (perst : Bool) (damaged : Bool := false) (repaired : Bool := false)
  /-- BOOT_SOURCE_TRY (R405). The boot ROM reads and verifies the next image source. -/
  | bootSourceTry (readOk : Bool) (hv : HostView)
  /-- AVS_RETRY (R400). 100 ms pass after an unacknowledged AVS command and it is retried. -/
  | avsRetry (mv : Nat) (ack : Bool)
  /-- MGMT_PAIR_FAILURE (R341). A management core pair fails and the standby takes over. -/
  | mgmtPairFailure (k : Nat)
  /-- SRAM_ERROR (R341). An SRAM word error is corrected or restarts the work that read it. -/
  | sramError (m : Nat) (row : Nat) (pg : Nat) (corrected : Bool) (spare : Bool) (lost : List (Nat × Nat × Nat))
      (unmapped : Option (Nat × Nat × Nat) := none)
  /-- HBM_ECC_ERROR (R25). A stack access finds an ECC error, corrected, spared, mirrored or dropping a frame. -/
  | hbmEccError (st : Nat) (row : Nat) (corrected : Bool) (kind : Nat) (a : Nat) (b : Nat)
  /-- MRAM_UNCORR (R341). An uncorrectable journal store error raises an ALARM. -/
  | mramUncorr (rec : Option Nat)
  /-- PLL_LOSS_OF_LOCK (R27). A PLL loses lock, holding its blocks and failing their links. -/
  | pllLossOfLock (n : Nat) (k : Nat)
  /-- PLL_RELOCK (R27). A PLL regains lock and its blocks resume. -/
  | pllRelock (n : Nat) (k : Nat)
  /-- EVENT_SUMMARY_POST (R345). Ring entries become free and coalesced summaries or EVENT_LOSS are posted. -/
  | eventSummaryPost (p : Nat)
  /-- CADENCE_INSTANT (R361). A running cadence takes its next grid instant or skips it. -/
  | cadenceInstant (c : Nat)
  /-- TLS_FRAME_INSTANT (R363). A tri-level sync frame instant arrives and refreshes locked cadences. -/
  | tlsFrameInstant (at_ : Nat)
  /-- TLS_HOLDOVER (R363). No TLS instant arrives within 1.5 periods and the cadence holds over. -/
  | tlsHoldover (c : Nat)
  /-- PTP_RX (R358). A PTP frame is received, timestamped and queued. -/
  | ptpRx (n : Nat) (subif : Nat) (frame : List Byte)
  /-- PTP_TX_DONE (R358). A PTP frame leaves the port and its egress timestamp is queued. -/
  | ptpTxDone (n : Nat)
  /-- QUADRATURE_EDGE (R367). A filtered quadrature edge counts one or is an illegal transition. -/
  | quadratureEdge (n : Nat) (t : Nat) (a : Bool) (b : Bool)
  /-- HALL_EDGE (R368). A Hall state change counts one or is an illegal transition. -/
  | hallEdge (n : Nat) (t : Nat) (u : Bool) (v : Bool) (w : Bool)
  /-- SSI_FRAME (R369). SSI_PERIOD_US passes and one SSI frame is read. -/
  | ssiFrame (n : Nat) (low : Bool) (v : Nat)
  /-- INDEX_EDGE (R370). A filtered rising edge of Z latches, homes or checks the position. -/
  | indexEdge (n : Nat)
  /-- ZERO_SPEED (R371). ZERO_MS pass with no count change and SPEED becomes 0. -/
  | zeroSpeed (n : Nat)
  /-- POSITION_SNAPSHOT (R372). HIST_US pass and a position snapshot is recorded. -/
  | positionSnapshot (n : Nat)
  /-- POSITION_LATCH (R372). The Timebase reaches a frame's exposure mid-point and the live position is latched. -/
  | positionLatch (h : Nat) (cid : Nat) (n : Nat)
  /-- SYNTH_STEP (R375). SYN_STEP_NS pass and the synthesised quadrature output advances one state. -/
  | synthStep (n : Nat)
  /-- GROUP_IDLE (R380). An island group becomes idle and the power manager chooses its state. -/
  | groupIdle (g : Nat) (timers : List (Nat × Nat))
  /-- CALENDAR_ENTRY_DUE (R381). A calendar entry's wake time arrives and sleeping groups start exit. -/
  | calendarEntryDue (g : Nat) (timers : List (Nat × Nat))
  /-- KEEP_ENTRY (R383). Keep conditions hold and the device enters PS4. -/
  | keepEntry (timers : List (Nat × Nat))
  /-- KEEP_WAKE (R384). A wake reason starts exit from PS4. -/
  | keepWake (reason : Nat)
  /-- SENSOR_SAMPLE (R386). Thistle samples every powered sensor and evaluates thresholds. -/
  | sensorSample (raw : List (Option Int))
  /-- THROTTLE_STEP (R391). THROT_STEP_US or RELEASE_STEP_US passes and a group's throttle level moves. -/
  | throttleStep (g : Nat)
  /-- GPIO_EDGE (R413). An enabled edge on a GPIO pin is timestamped and raises INT_STAT. -/
  | gpioEdge (ix : Nat) (high : Bool)
  /-- JTAG_INSTRUCTION (R417). A TAP instruction is loaded, falling back to BYPASS when restricted. -/
  | jtagInstruction (k : Nat)
  /-- BACKOFF_RESET (R118). A group has been ACTIVE for 10 s without a break and its backoff b returns to 1 ms. -/
  | backoffReset (g : Nat)
  /-- PRBS_LOCK (R124). A PRBS checker sees 256 consecutive correct bits, sets PRBS_LOCK and starts counting. -/
  | prbsLock (lane : Nat) (stream : List Bool)
  /-- PRBS_LOCK_LOSS (R124). A PRBS checker sees 64 or more errors within 256 bits, clears PRBS_LOCK, reseeds and increments LOCK_LOSS_CNT. -/
  | prbsLockLoss (lane : Nat) (stream : List Bool)
  /-- MIPI_DT_SKIP (R144). A CSI-2 packet of another data type or channel is discarded and counted in DT_SKIP_CNT. -/
  | mipiDtSkip (n : Nat) (corrected : Bool := false)
  /-- MIPI_HEADER_ERROR (R145). A CSI-2 packet header that cannot be corrected is counted, and every packet up to the next Frame End is discarded. -/
  | mipiHeaderError (n : Nat)
  /-- DATA_TRANSFER_END (R310). A data transfer between host memory and the device for a command (WRITE, READ, FRAME_READ, LUT_LOAD, FW_STAGE, PICTURE and the like) ends or fails, letting the command reach its effect and complete. -/
  | dataTransferEnd (p : Nat) (asn : Nat) (hv : HostView) (luma : Nat)
  /-- FRC_JOB_START (R232). A free FRC engine starts the next FRC_JOB of a class in ASN order, closing its ABORT window. -/
  | frcJobStart (n : Nat) (p : Nat) (asn : Nat)
  /-- FRC_JOB_END (R231). An FRC engine ends an FRC_JOB, which completes with SUCCESS, FRC_CONCEALED, FRC_CRC, FRC_SYNTAX or FRC_XFER. -/
  | frcJobEnd (n : Nat) (bad : List Nat) (fault : Bool) (hv : HostView)
  /-- PIXEL_ROW_END (R265). An encoder pixel engine ends a CTU row, filling the syntax buffer and, at the last row, freeing the SINK source buffer. -/
  | pixelRowEnd (n : Nat) (b : Nat) (e : Nat) (code : RowCode := {})
  /-- AUX_TRANSACTION_END (R293). A DisplayPort AUX transaction ends, setting AUX_DONE, AUX_RESULT and INT_STAT bit 2. -/
  | auxTransactionEnd (n : Nat) (r : Nat) (bs : List Byte)
  /-- CADENCE_EN (R360). A write of a cadence's EN starts it, or sets it waiting, or stops it, and sends SCHEDULE or STOP to the heads it drives. -/
  | cadenceEn (f : Nat) (c : Nat) (v : Nat)
  /-- HEAD_CAD (R364). A write of a TMB.HEAD_CAD entry sends SCHEDULE, or SCHEDULE with STOP, to the admitted head. -/
  | headCad (f : Nat) (h : Nat) (hi : Nat) (v : Nat)
  /-- PULSE_END (R374). PULSE_W ns after a compare fire, the unit stops pulsing and its selected repeater pins fall. -/
  | pulseEnd (u : Nat)
  /-- PERST_N_DEASSERT (R403). PERST_N deasserts: BOOT_SEL is sampled, the boot ROM may load its image, the host port must answer within 100 ms, and restricted JTAG instructions hold boot. -/
  | perstNDeassert (sel : Nat)
  /-- STACK_INTERFACE_LOSS (R25). The interface of a memory stack is lost and the stack is retired under R23. -/
  | stackInterfaceLoss (st : Nat)
  /-- MIRROR_RESTORED (R23). Copying of a retired stack's reserved regions onto the next live stack ends, restoring the mirror and ending recovery from the fault. -/
  | mirrorRestored (st : Nat)
  /-- SPINE_PARITY_ERROR (R17). A Spine link fails its parity check; the transfer is resent, and after three failures in succession the link is taken out of service with SPINE_LINK_DOWN. -/
  | spineParityError (n : Nat) (third : Bool)
  /-- ETHERNET_LINK_UP (R341). An Ethernet sub-interface's link comes up, updating LINK_UP, applying BREAKOUT and raising INT_STAT bit 0. -/
  | ethernetLinkUp (port : Nat) (ix : Nat)
  /-- PORT_IN_SERVICE (R341). An Ethernet port taken out of service has had its link up for 10 s and returns to service. -/
  | portInService (port : Nat)
  /-- AVS_COMMAND (R400). The device writes a new VOUT_COMMAND, first the fused target and then steps of at most 5 mV per ms, to follow temperature and ageing. -/
  | avsCommand (mv : Nat) (ack : Bool)
  /-- POWER_STATE_ENTRY_END (R315). A group's entry into PS2, PS3 or PS4 ends as its power switch opens, the point of no return. -/
  | powerStateEntryEnd (g : Nat)
  /-- POWER_STATE_EXIT_END (R385). A group's or the device's exit latency ends and it is in PS0, updating LAST_EXIT, EXIT_INFO and PWR.INT_STAT. -/
  | powerStateExitEnd (g : Nat)
  /-- ARMED_EXPIRY (R354). 100 ms pass without GO, so ARMED clears with no effect. -/
  | armedExpiry
  /-- PERST_N (R336). PERST_N asserts and starts a device reset. -/
  | perstN
  /-- PCIE_HOT_RESET (R336). A PCIe hot reset starts a device reset. -/
  | pcieHotReset
  /-- PWRFAIL_N (R338). PWRFAIL_N asserts and the power-loss sequence copies the pending window to MRAM. -/
  | pwrfailN
  /-- PWR_OK_FALL (R402). PWR_OK falls, an immediate power-on reset. -/
  | pwrOkFall
  /-- BROWN_OUT (R402). VDD_CORE or VDD_SRAM drops below its minimum for over 2 µs, acting as a fall of PWR_OK. -/
  | brownOut
  /-- HOST_WAIT_TIMEOUT (R406). HOST_WAIT_MS passes without BOOT_GO and the host source fails. -/
  | hostWaitTimeout
  /-- BOOT_BACKOFF (R404). The 1 s wait after all sources failed ends and boot restarts. -/
  | bootBackoff
  /-- STANDBY_READY (R348). The standby pair has loaded the new image and the seam begins. -/
  | standbyReady
  /-- HANDOVER (R348). The new firmware takes every management function and FW_ACTIVATE completes. -/
  | handover
  /-- HANDOVER_TIMEOUT (R348). 50 ms after the seam the new firmware has not taken over and the old resumes. -/
  | handoverTimeout
  /-- PPS_OUT (R352). The Timebase reaches a whole second and PPS_OUT rises. -/
  | ppsOut
  /-- PPS_IN (R352). A rising edge on PPS_IN is timestamped. -/
  | ppsIn
  /-- SHED_STEP (R392). SHED_STEP_US passes and the device shed level moves. -/
  | shedStep
  /-- PPS_OUT_FALL (R352). PPS_W_US after its rising edge, PPS_OUT falls. -/
  | ppsOutFall
  /-- PWRFAIL_N_DEASSERT (R338). PWRFAIL_N deasserts during the power-loss sequence, so that a device reset follows once the sequence completes. -/
  | pwrfailNDeassert
  /-- UART_CHARACTER_SENT (R416). The UART finishes sending a character, freeing FIFO space and setting INT_STAT bit 1 when the transmit FIFO becomes empty. -/
  | uartCharacterSent
  /-- SYSLOG_SEND_TIMEOUT (R346). A mirrored syslog message that could not be sent within 10 ms is dropped and counted in SYSLOG_DROP_CNT. -/
  | syslogSendTimeout
  /-- STANDBY_RESTART (R348). After a hot activation the other management core pair ends its restart with the new image and becomes the standby. -/
  | standbyRestart
deriving DecidableEq, Repr

end Sys2Proof
end

