-- ==== Sys2Proof/Decode.lean ====
section
/-! DEFINITION. Decode: the opcode table gives its rows no bits, so no word decodes to a command. -/

namespace Sys2Proof

/-- The command a word spells by the opcode table's bits: none, for no row gives any. -/
def decodeTableWord (_nbits _w : Nat) : Option Instr := none

end Sys2Proof
end

