-- ==== Sys2Proof/Machine/Bits.lean ====
section
/-! DEFINITION. Bits: bit fields, byte order, saturation and the checksums of the formats (R3, R6). -/

namespace Sys2Proof

/-- Bits `[lo+w-1:lo]` of a number. -/
def bits (x lo w : Nat) : Nat := (x / 2 ^ lo) % 2 ^ w

/-- Bit `i` of a number. -/
def bitAt (x i : Nat) : Bool := bits x i 1 == 1

/-- `x` with bits `[lo+w-1:lo]` replaced by `v`. -/
def setBits (x lo w v : Nat) : Nat :=
  x - bits x lo w * 2 ^ lo + (v % 2 ^ w) * 2 ^ lo

/-- A Boolean as a bit. -/
def b2n (b : Bool) : Nat := if b then 1 else 0

/-- The value of a two's complement field of `w` bits. -/
def sgn (w x : Nat) : Int :=
  if x % 2 ^ w < 2 ^ (w - 1) then (x % 2 ^ w : Nat) else ((x % 2 ^ w : Nat) : Int) - 2 ^ w

/-- An integer as a two's complement field of `w` bits. -/
def unsgn (w : Nat) (x : Int) : Nat := (x % (2 ^ w : Int)).toNat

/-- `sat(x, lo, hi)` of R6. -/
def sat (x lo hi : Int) : Int := if x < lo then lo else if hi < x then hi else x

/-- `n` divided by `d`, rounded up. -/
def ceilDiv (n d : Nat) : Nat := (n + d - 1) / d

/-- `n` divided by `d`, rounded half to even: where a rule names no rounding (R5). -/
def evenDiv (n d : Nat) : Nat :=
  let q := n / d
  if d < 2 * (n % d) ∨ (2 * (n % d) = d ∧ q % 2 = 1) then q + 1 else q

/-- The sum of fractions, and whether a fraction is at most a whole number. -/
def fracSum (l : List (Nat × Nat)) : Nat × Nat := l.foldl (fun a b => (a.1 * b.2 + b.1 * a.2, a.2 * b.2)) (0, 1)
def fracWithin (a : Nat × Nat) (n : Nat) : Bool := a.1 ≤ n * a.2

/-- `n` little-endian bytes of `x` (R3). -/
def leBytes : Nat → Nat → List Byte
  | 0, _ => []
  | n + 1, x => BitVec.ofNat 8 x :: leBytes n (x / 256)

/-- The number that little-endian bytes spell (R3). -/
def ofLe : List Byte → Nat
  | [] => 0
  | b :: r => b.toNat + 256 * ofLe r

/-- `n` big-endian bytes of `x` (network headers). -/
def be (n x : Nat) : List Byte := (leBytes n x).reverse

/-- DW `i` of a list of DWs, 0 beyond its end. -/
def dwAt (e : List Nat) (i : Nat) : Nat := e.getD i 0

/-- DWs `i` and `i + 1` as a 64-bit number (R31). -/
def dw64 (e : List Nat) (i : Nat) : Nat := dwAt e i + 2 ^ 32 * dwAt e (i + 1)

/-- The bytes of a list of DWs. -/
def dwBytes (e : List Nat) : List Byte := e.flatMap (leBytes 4)

/-- The DWs of a list of bytes. -/
def bytesDw : Nat → List Byte → List Nat
  | 0, _ => []
  | n + 1, bs => ofLe (bs.take 4) :: bytesDw n (bs.drop 4)

/-- One bit of a reflected CRC division by the reversed polynomial `p`. -/
def crcBit (p c : Nat) : Nat := if c % 2 = 1 then (c / 2) ^^^ p else c / 2

/-- One byte of such a CRC. -/
def crcByte (p c : Nat) (b : Byte) : Nat :=
  crcBit p (crcBit p (crcBit p (crcBit p (crcBit p (crcBit p (crcBit p (crcBit p (c ^^^ b.toNat))))))))

/-- A 32-bit reflected CRC, initial value and final XOR all ones. -/
def crc32 (p : Nat) (bs : List Byte) : Nat := (bs.foldl (crcByte p) 0xFFFFFFFF) ^^^ 0xFFFFFFFF

/-- CRC-32C (Castagnoli). -/
def crc32c (bs : List Byte) : Nat := crc32 0x82F63B78 bs

/-- A network frame with its FCS, the CRC-32 of IEEE 802.3 (R358, log 146). -/
def withFcs (bs : List Byte) : List Byte := bs ++ leBytes 4 (crc32 0xEDB88320 bs)

/-- The numbers from `a` to `a + n - 1`. -/
def seqFrom (a n : Nat) : List Nat := (List.range n).map (a + ·)

/-- The bytes of an ASCII text. -/
def ascii (s : String) : List Byte := s.toList.map fun c => BitVec.ofNat 8 c.toNat

/-- `n` zero bytes. -/
def zeros (n : Nat) : List Byte := List.replicate n 0

/-- A list of bytes cut or padded with zeros to `n`. -/
def fit (n : Nat) (bs : List Byte) : List Byte := bs.take n ++ zeros (n - bs.length)

/-- The bytes of a record in which each part lies at its own offset and the rest is 0. -/
def layout (n : Nat) (parts : List (Nat × List Byte)) : List Byte :=
  parts.foldl (fun acc p => fit p.1 acc ++ p.2 ++ acc.drop (p.1 + p.2.length)) (zeros n) |> fit n

end Sys2Proof
end

