-- ==== Sys2Proof/Machine/Float.lean ====
section
/-! DEFINITION. Float: exact rational rounding, binary16 and binary32 arithmetic on their codes (spec 00 R5, R6;
spec 06 R151). -/

namespace Sys2Proof

/-- rnd_div: `a / b` rounded half to even, for b > 0 (R151). -/
def rndDiv (a : Int) (b : Nat) : Int :=
  let q := a / b
  let r := a - q * b
  if 2 * r < b then q else if (b : Int) < 2 * r then q + 1 else if q % 2 = 0 then q else q + 1

/-- rnd(a, s) (R151). -/
def rnd (a : Int) (s : Nat) : Int := rndDiv a (2 ^ s)

/-- Saturation of the CFA and RGB integers of stages 2 to 7 (R151). -/
def satCfa (x : Int) : Int := sat x (-33554432) 33554431

/-- Largest s with s * s ≤ n, for n < 4 ^ bits. -/
def isqrt (bits n : Nat) : Nat :=
  (List.range bits).foldr (fun i s => if (s + 2 ^ i) * (s + 2 ^ i) ≤ n then s + 2 ^ i else s) 0

namespace Fp

/-- A floating-point format: precision, exponent of the least subnormal, width of the biased exponent. -/
structure Fmt where
  p : Nat
  q : Int
  ew : Nat

def f32 : Fmt := ⟨24, -149, 8⟩
def f16 : Fmt := ⟨11, -24, 5⟩

/-- A value: a NaN, an infinity, or ± m × 2^e. -/
inductive V where
  | nan
  | inf (neg : Bool)
  | fin (neg : Bool) (m : Nat) (e : Int)

/-- The sign bit's weight. -/
def Fmt.sign (f : Fmt) : Nat := 2 ^ (f.ew + f.p - 1)

/-- The code of infinity. -/
def Fmt.infCode (f : Fmt) : Nat := (2 ^ f.ew - 1) * 2 ^ (f.p - 1)

/-- The quiet NaN this model gives for every NaN result: no rule reads a NaN's payload. -/
def Fmt.nanCode (f : Fmt) : Nat := f.infCode + 2 ^ (f.p - 2)

def decode (f : Fmt) (c : Nat) : V :=
  let neg := c / f.sign % 2 = 1
  let e := c / 2 ^ (f.p - 1) % 2 ^ f.ew
  let m := c % 2 ^ (f.p - 1)
  if e = 2 ^ f.ew - 1 then (if m = 0 then .inf neg else .nan)
  else if e = 0 then .fin neg m f.q
  else .fin neg (m + 2 ^ (f.p - 1)) (f.q + (e : Int) - 1)

/-- The code nearest to ± num / den × 2^e, ties to even; overflow gives infinity. -/
def round (f : Fmt) (neg : Bool) (num den : Nat) (e : Int) : Nat :=
  let s := if neg then f.sign else 0
  if num = 0 ∨ den = 0 then s
  else
    let l0 : Int := (Nat.log2 num : Int) - (Nat.log2 den : Int)
    let below : Bool := if 0 ≤ l0 then num < den * 2 ^ l0.toNat else num * 2 ^ (-l0).toNat < den
    let l := (if below then l0 - 1 else l0) + e
    let q := max (l - ((f.p : Int) - 1)) f.q
    let sh := e - q
    let r := (if 0 ≤ sh then rndDiv (num * 2 ^ sh.toNat : Nat) den else rndDiv (num : Nat) (den * 2 ^ (-sh).toNat)).toNat
    let c := if r < 2 ^ (f.p - 1) then r else ((q - f.q).toNat + 1) * 2 ^ (f.p - 1) + (r - 2 ^ (f.p - 1))
    if f.infCode ≤ c then s + f.infCode else s + c

def encode (f : Fmt) : V → Nat
  | .nan => f.nanCode
  | .inf neg => (if neg then f.sign else 0) + f.infCode
  | .fin neg m e => round f neg m 1 e

/-- A signed integer times 2^e. -/
def ofInt (f : Fmt) (x : Int) (e : Int := 0) : Nat := round f (x < 0) x.natAbs 1 e

def addV : V → V → V
  | .nan, _ => .nan
  | _, .nan => .nan
  | .inf a, .inf b => if a = b then .inf a else .nan
  | .inf a, _ => .inf a
  | _, .inf b => .inf b
  | .fin na ma ea, .fin nb mb eb =>
    let e := min ea eb
    let a : Int := (ma * 2 ^ (ea - e).toNat : Nat)
    let b : Int := (mb * 2 ^ (eb - e).toNat : Nat)
    let x := (if na then -a else a) + (if nb then -b else b)
    if x = 0 then .fin (na && nb) 0 e else .fin (x < 0) x.natAbs e

def negV : V → V
  | .nan => .nan
  | .inf a => .inf !a
  | .fin n m e => .fin (!n) m e

def mulV : V → V → V
  | .nan, _ => .nan
  | _, .nan => .nan
  | .inf a, .inf b => .inf (xor a b)
  | .inf a, .fin n m _ => if m = 0 then .nan else .inf (xor a n)
  | .fin n m _, .inf a => if m = 0 then .nan else .inf (xor a n)
  | .fin na ma ea, .fin nb mb eb => .fin (xor na nb) (ma * mb) (ea + eb)

/-- binary32 operations on codes. -/
def add (a b : Nat) : Nat := encode f32 (addV (decode f32 a) (decode f32 b))
def sub (a b : Nat) : Nat := encode f32 (addV (decode f32 a) (negV (decode f32 b)))
def mul (a b : Nat) : Nat := encode f32 (mulV (decode f32 a) (decode f32 b))

def div (a b : Nat) : Nat :=
  match decode f32 a, decode f32 b with
  | .nan, _ => f32.nanCode
  | _, .nan => f32.nanCode
  | .inf _, .inf _ => f32.nanCode
  | .inf x, .fin n _ _ => encode f32 (.inf (xor x n))
  | .fin n _ _, .inf x => encode f32 (.fin (xor n x) 0 0)
  | .fin na ma ea, .fin nb mb eb =>
    if mb = 0 then (if ma = 0 then f32.nanCode else encode f32 (.inf (xor na nb)))
    else if ma = 0 then encode f32 (.fin (xor na nb) 0 0)
    else round f32 (xor na nb) ma mb (ea - eb)

/-- Correctly rounded square root. -/
def sqrt (a : Nat) : Nat :=
  match decode f32 a with
  | .nan => f32.nanCode
  | .inf n => if n then f32.nanCode else a
  | .fin n m e =>
    if m = 0 then a
    else if n then f32.nanCode
    else
      let k : Nat := if e % 2 = 0 then 60 else 61
      let x := m * 2 ^ k
      let s := isqrt 48 x
      round f32 false (2 * s + (if s * s = x then 0 else 1)) 2 ((e - k) / 2)

/-- Is a code a NaN? -/
def isNan (a : Nat) : Bool := match decode f32 a with
  | .nan => true
  | _ => false

/-- Order of two codes that are no NaN; a comparison with a NaN is false. -/
def lt (a b : Nat) : Bool :=
  match decode f32 a, decode f32 b with
  | .nan, _ => false
  | _, .nan => false
  | .inf x, .inf y => x && !y
  | .inf x, .fin .. => x
  | .fin .., .inf y => !y
  | .fin na ma ea, .fin nb mb eb =>
    let e := min ea eb
    let a : Int := (ma * 2 ^ (ea - e).toNat : Nat)
    let b : Int := (mb * 2 ^ (eb - e).toNat : Nat)
    (if na then -a else a) < (if nb then -b else b)

def le (a b : Nat) : Bool := !isNan a && !isNan b && !lt b a

def abs (a : Nat) : Nat := a % 2 ^ 31
def neg (a : Nat) : Nat := if a < 2 ^ 31 then a + 2 ^ 31 else a - 2 ^ 31

/-- sat of binary32 values (R6); a NaN stays. -/
def fsat (x lo hi : Nat) : Nat := if lt x lo then lo else if lt hi x then hi else x

/-- trunc to a signed integer of `w` bits, saturating; a NaN gives 0 (R151). -/
def truncTo (w : Nat) (a : Nat) : Int :=
  match decode f32 a with
  | .nan => 0
  | .inf n => if n then -(2 ^ (w - 1) : Int) else 2 ^ (w - 1) - 1
  | .fin n m e =>
    let x : Int := if 0 ≤ e then ((m * 2 ^ e.toNat : Nat) : Int) else ((m / 2 ^ (-e).toNat : Nat) : Int)
    sat (if n then -x else x) (-(2 ^ (w - 1) : Int)) (2 ^ (w - 1) - 1)

def trunc (a : Nat) : Int := truncTo 32 a

/-- The integer nearest to a value, ties to even, saturating to `w` signed bits; a NaN gives 0 (R5). -/
def toIntNearest (w : Nat) (a : Nat) : Int :=
  match decode f32 a with
  | .nan => 0
  | .inf n => if n then -(2 ^ (w - 1) : Int) else 2 ^ (w - 1) - 1
  | .fin n m e =>
    let s : Int := if n then -(m : Int) else m
    let x := if 0 ≤ e then s * 2 ^ e.toNat else rnd s (-e).toNat
    sat x (-(2 ^ (w - 1) : Int)) (2 ^ (w - 1) - 1)

/-- Conversion to binary16 with saturation; the flag says that F16_SAT_CNT counts (R151). -/
def to16V (v : V) : Nat × Bool :=
  match v with
  | .nan => (0, true)
  | .inf n => ((if n then 0x8000 else 0) + 0x7BFF, true)
  | .fin n m e =>
    let c := round f16 n m 1 e
    let excess : Bool := if 0 ≤ e then 65504 < m * 2 ^ e.toNat else 65504 * 2 ^ (-e).toNat < m
    if excess then ((if n then 0x8000 else 0) + 0x7BFF, true) else (c, false)

def to16 (a : Nat) : Nat × Bool := to16V (decode f32 a)

/-- A binary16 code as binary32, exact. -/
def of16 (c : Nat) : Nat := encode f32 (decode f16 c)

/-- rnd(z × 4,096) of a binary16 code, not below 0: q12 of R172. -/
def q12 (c : Nat) : Nat :=
  match decode f16 c with
  | .fin false m e => if 0 ≤ e + 12 then m * 2 ^ (e + 12).toNat else (rnd (m : Nat) (-(e + 12)).toNat).toNat
  | _ => 0

/-- binary32 constants. -/
def one : Nat := 0x3F800000
def quarter : Nat := 0x3E800000
def two : Nat := 0x40000000

end Fp
end Sys2Proof
end

