-- ==== Sys2Proof/Machine/Fld.lean ====
section
/-! DEFINITION. Fld: what a row of a register table says of a field (spec 00 and 02: access types, retention classes). -/

namespace Sys2Proof

/-- Access types (R42). -/
inductive Access where
  | ro | rw | w1c | w1s | wo | rc | rwl | rwq
deriving DecidableEq, Repr

/-- Retention classes (R43). -/
inductive Cls where
  | a | b | c | d | n
deriving DecidableEq, Repr

/-- Which half of a 64-bit register a field is (R31). -/
inductive Pair where
  | none | low | high
deriving DecidableEq, Repr

/-- Resets that the tables call "map": fixed by the instance. -/
inductive MapReset where
  | none | hbmRegions | hbmPool | hlqLogical | hllPhys | grpMax | pageEn
deriving DecidableEq, Repr

/-- A field of a register page: offset of its register, lowest bit and width, access, class, reset; arrays have
`cnt` elements `st` bytes apart, each of `cnt2` elements `st2` bytes apart. `wrap`: the counter is "modulo". -/
structure Fld where
  off : Nat
  lo : Nat
  width : Nat
  acc : Access
  cls : Cls
  rst : Nat := 0
  cnt : Nat := 1
  st : Nat := 0
  cnt2 : Nat := 1
  st2 : Nat := 0
  wrap : Bool := false
  pair : Pair := .none
  map : MapReset := .none
deriving DecidableEq, Repr

/-- The range rule a Parameter Block field has at promotion (R89). -/
inductive Rng where
  | any
  | nat (lo hi : Nat)
  | int (lo hi : Int)
  | f32
  | f32nn
  | aeTarget
deriving DecidableEq, Repr

/-- A field of a region of a Parameter Block bank (R33). -/
structure PFld where
  off : Nat
  lo : Nat
  width : Nat
  rst : Nat := 0
  cnt : Nat := 1
  st : Nat := 0
  cnt2 : Nat := 1
  st2 : Nat := 0
  rng : Rng := .any
deriving DecidableEq, Repr

/-- The byte offset of element `(i, j)` of a field. -/
def Fld.at (F : Fld) (i j : Nat) : Nat := F.off + F.st * i + F.st2 * j

def PFld.at (F : PFld) (i j : Nat) : Nat := F.off + F.st * i + F.st2 * j

end Sys2Proof
end

