-- ==== Sys2Proof/Machine/RegistersA.lean ====
section
/-! DEFINITION. Register fields of the pages: device pages, Head Link.
One descriptor per field of the register tables of spec/ (offset, bits, access, reset, class), under the
manual's page and field names; arrays carry count and stride. A 64-bit register is two descriptors (R31). -/

namespace Sys2Proof.Reg

def HDR.OWNER : Fld := { off := 0xC, lo := 0, width := 7, acc := .rw, cls := .n }
def HDR.EN : Fld := { off := 0x10, lo := 0, width := 1, acc := .rw, cls := .c, map := .pageEn }
def HDR.MODE : Fld := { off := 0x10, lo := 1, width := 2, acc := .rw, cls := .b }
def HDR.SOFT_RST : Fld := { off := 0x10, lo := 8, width := 1, acc := .wo, cls := .a }
def HDR.SHADOW_EN : Fld := { off := 0x10, lo := 16, width := 1, acc := .rw, cls := .c, rst := 0x1 }
def HDR.VIEW : Fld := { off := 0x10, lo := 17, width := 1, acc := .rw, cls := .a }
def HDR.BUSY : Fld := { off := 0x14, lo := 0, width := 1, acc := .ro, cls := .a }
def HDR.QUIESCED : Fld := { off := 0x14, lo := 1, width := 1, acc := .ro, cls := .a }
def HDR.STATE : Fld := { off := 0x14, lo := 4, width := 4, acc := .ro, cls := .a }
def HDR.EPOCH : Fld := { off := 0x14, lo := 16, width := 16, acc := .ro, cls := .a }
def HDR.INT_STAT : Fld := { off := 0x18, lo := 0, width := 31, acc := .w1c, cls := .a }
def HDR.INT_EN : Fld := { off := 0x1C, lo := 0, width := 32, acc := .rw, cls := .b }
def HDR.INT_SET : Fld := { off := 0x20, lo := 0, width := 31, acc := .wo, cls := .a }
def HDR.VECTOR : Fld := { off := 0x24, lo := 0, width := 11, acc := .rw, cls := .b }
def HDR.PART : Fld := { off := 0x24, lo := 16, width := 7, acc := .rw, cls := .b }
def HDR.EVT : Fld := { off := 0x24, lo := 31, width := 1, acc := .rw, cls := .b }
def HDR.ERR_STAT : Fld := { off := 0x28, lo := 0, width := 31, acc := .w1c, cls := .d }
def HDR.OVF : Fld := { off := 0x28, lo := 31, width := 1, acc := .w1c, cls := .d }
def HDR.ERR_CODE : Fld := { off := 0x2C, lo := 0, width := 8, acc := .ro, cls := .d }
def HDR.ERR_BIT : Fld := { off := 0x2C, lo := 8, width := 8, acc := .ro, cls := .d }
def HDR.ERR_DETAIL : Fld := { off := 0x2C, lo := 16, width := 16, acc := .ro, cls := .d }
def HDR.DEADLINE : Fld := { off := 0x30, lo := 0, width := 16, acc := .rw, cls := .b }
def HDR.FALLBACK : Fld := { off := 0x30, lo := 16, width := 1, acc := .rw, cls := .b, rst := 0x1 }
def HDR.TIMEOUT_CNT : Fld := { off := 0x34, lo := 0, width := 16, acc := .rc, cls := .b }
def HDR.LATE_CNT : Fld := { off := 0x34, lo := 16, width := 8, acc := .rc, cls := .b }
def HDR.FULL_CNT : Fld := { off := 0x34, lo := 24, width := 8, acc := .rc, cls := .b }
def HDR.SCRATCH : Fld := { off := 0x3C, lo := 0, width := 32, acc := .rw, cls := .b }

/-- Every field of a page header page. -/
def HDR.all : List Fld :=
  [HDR.OWNER, HDR.EN, HDR.MODE, HDR.SOFT_RST, HDR.SHADOW_EN, HDR.VIEW, HDR.BUSY, HDR.QUIESCED, HDR.STATE, HDR.EPOCH, HDR.INT_STAT, HDR.INT_EN] ++
  [HDR.INT_SET, HDR.VECTOR, HDR.PART, HDR.EVT, HDR.ERR_STAT, HDR.OVF, HDR.ERR_CODE, HDR.ERR_BIT, HDR.ERR_DETAIL, HDR.DEADLINE, HDR.FALLBACK, HDR.TIMEOUT_CNT] ++
  [HDR.LATE_CNT, HDR.FULL_CNT, HDR.SCRATCH]

def SYS.BARRIER_GO : Fld := { off := 0x140, lo := 0, width := 1, acc := .wo, cls := .a }
def SYS.DEV : Fld := { off := 0x148, lo := 0, width := 1, acc := .wo, cls := .a }
def SYS.EVENT_LOSS : Fld := { off := 0x150, lo := 0, width := 1, acc := .w1c, cls := .d }
def SYS.ORPHAN_LOSS : Fld := { off := 0x150, lo := 1, width := 1, acc := .w1c, cls := .d }
def SYS.HOLDUP_LOSS : Fld := { off := 0x150, lo := 2, width := 1, acc := .w1c, cls := .d }
def SYS.MRAM_UNCORR : Fld := { off := 0x150, lo := 3, width := 1, acc := .w1c, cls := .d }
def SYS.MGMT_FAILED : Fld := { off := 0x150, lo := 4, width := 1, acc := .ro, cls := .n }
def SYS.STAGE : Fld := { off := 0x180, lo := 0, width := 3, acc := .ro, cls := .c }
def SYS.BOOT_SEL : Fld := { off := 0x180, lo := 4, width := 2, acc := .ro, cls := .c }
def SYS.SOURCE : Fld := { off := 0x180, lo := 6, width := 2, acc := .ro, cls := .c }
def SYS.AVS_FAIL : Fld := { off := 0x180, lo := 8, width := 1, acc := .ro, cls := .c }
def SYS.FAIL_A : Fld := { off := 0x180, lo := 12, width := 4, acc := .ro, cls := .c }
def SYS.FAIL_B : Fld := { off := 0x180, lo := 16, width := 4, acc := .ro, cls := .c }
def SYS.FAIL_HOST : Fld := { off := 0x180, lo := 20, width := 4, acc := .ro, cls := .c }
def SYS.ATTEMPT_CNT : Fld := { off := 0x184, lo := 0, width := 32, acc := .ro, cls := .c, wrap := true }
def SYS.BOOT_IMG_ADDR_LO : Fld := { off := 0x188, lo := 0, width := 32, acc := .rw, cls := .c, pair := .low }
def SYS.BOOT_IMG_ADDR_HI : Fld := { off := 0x18C, lo := 0, width := 32, acc := .rw, cls := .c, pair := .high }
def SYS.BOOT_IMG_LEN : Fld := { off := 0x190, lo := 0, width := 32, acc := .rw, cls := .c }
def SYS.BOOT_GO : Fld := { off := 0x194, lo := 0, width := 1, acc := .wo, cls := .a }
def SYS.HOST_WAIT_MS : Fld := { off := 0x198, lo := 0, width := 16, acc := .rw, cls := .c, rst := 0x7D0 }
def SYS.AVS_MV : Fld := { off := 0x19C, lo := 0, width := 10, acc := .ro, cls := .c, rst := 0x2EE }

/-- Every field of a SYS page. -/
def SYS.all : List Fld :=
  [SYS.BARRIER_GO, SYS.DEV, SYS.EVENT_LOSS, SYS.ORPHAN_LOSS, SYS.HOLDUP_LOSS, SYS.MRAM_UNCORR, SYS.MGMT_FAILED, SYS.STAGE, SYS.BOOT_SEL, SYS.SOURCE, SYS.AVS_FAIL, SYS.FAIL_A] ++
  [SYS.FAIL_B, SYS.FAIL_HOST, SYS.ATTEMPT_CNT, SYS.BOOT_IMG_ADDR_LO, SYS.BOOT_IMG_ADDR_HI, SYS.BOOT_IMG_LEN, SYS.BOOT_GO, SYS.HOST_WAIT_MS, SYS.AVS_MV]

def RST.LAST_CAUSE : Fld := { off := 0x100, lo := 0, width := 4, acc := .ro, cls := .n }
def RST.POWER_ON_CNT : Fld := { off := 0x104, lo := 0, width := 32, acc := .ro, cls := .n, wrap := true }
def RST.DEV_RESET_CNT : Fld := { off := 0x108, lo := 0, width := 32, acc := .ro, cls := .n, wrap := true }
def RST.PART_RESET_CNT : Fld := { off := 0x10C, lo := 0, width := 32, acc := .ro, cls := .c, wrap := true }
def RST.PART_BUSY : Fld := { off := 0x110, lo := 0, width := 32, acc := .ro, cls := .a, cnt := 4, st := 0x4 }
def RST.LAST_PART : Fld := { off := 0x120, lo := 0, width := 7, acc := .ro, cls := .c }
def RST.LAST_PART_CAUSE : Fld := { off := 0x120, lo := 8, width := 2, acc := .ro, cls := .c }

/-- Every field of a RST page. -/
def RST.all : List Fld :=
  [RST.LAST_CAUSE, RST.POWER_ON_CNT, RST.DEV_RESET_CNT, RST.PART_RESET_CNT, RST.PART_BUSY, RST.LAST_PART, RST.LAST_PART_CAUSE]

def PWR.GUARD_US : Fld := { off := 0x100, lo := 0, width := 16, acc := .rw, cls := .c, rst := 0x64 }
def PWR.KEEP_EN : Fld := { off := 0x100, lo := 16, width := 1, acc := .rw, cls := .c }
def PWR.DEV_STATE : Fld := { off := 0x100, lo := 24, width := 3, acc := .ro, cls := .a }
def PWR.KEEP_RETRAIN_MS : Fld := { off := 0x104, lo := 0, width := 16, acc := .rw, cls := .c, rst := 0xC8 }
def PWR.CAL_USED : Fld := { off := 0x108, lo := 0, width := 9, acc := .ro, cls := .a }
def PWR.CAL_FULL : Fld := { off := 0x108, lo := 16, width := 1, acc := .ro, cls := .a }
def PWR.LATE_WAKE_CNT : Fld := { off := 0x10C, lo := 0, width := 16, acc := .rc, cls := .c }
def PWR.KEEP_DENY_CNT : Fld := { off := 0x10C, lo := 16, width := 16, acc := .rc, cls := .c }
def PWR.GRP_STATE : Fld := { off := 0x110, lo := 0, width := 32, acc := .ro, cls := .a, cnt := 4, st := 0x4 }
def PWR.GRP_MAX : Fld := { off := 0x120, lo := 0, width := 32, acc := .rw, cls := .c, rst := 0x33333333, cnt := 4, st := 0x4, map := .grpMax }
def PWR.LAST_STATE : Fld := { off := 0x130, lo := 0, width := 3, acc := .ro, cls := .a }
def PWR.LAST_GROUP : Fld := { off := 0x130, lo := 8, width := 5, acc := .ro, cls := .a }
def PWR.LAST_REASON : Fld := { off := 0x130, lo := 16, width := 4, acc := .ro, cls := .a }
def PWR.LAST_EXIT_US : Fld := { off := 0x134, lo := 0, width := 32, acc := .ro, cls := .a }
def PWR.KEEP_CNT : Fld := { off := 0x138, lo := 0, width := 32, acc := .ro, cls := .c, wrap := true }
def PWR.CAD_MASK : Fld := { off := 0x140, lo := 0, width := 32, acc := .rw, cls := .c, cnt := 16, st := 0x4 }
def PWR.HINT_MASK : Fld := { off := 0x180, lo := 0, width := 32, acc := .rw, cls := .c }
def PWR.PTP_INTERVAL_US : Fld := { off := 0x184, lo := 0, width := 32, acc := .rw, cls := .c, cnt := 2, st := 0x4 }
def PWR.TIMER_NS_LO : Fld := { off := 0x190, lo := 0, width := 32, acc := .rw, cls := .c, cnt := 8, st := 0x10, pair := .low }
def PWR.TIMER_NS_HI : Fld := { off := 0x194, lo := 0, width := 32, acc := .rw, cls := .c, cnt := 8, st := 0x10, pair := .high }
def PWR.TIMER_MASK : Fld := { off := 0x198, lo := 0, width := 32, acc := .rw, cls := .c, cnt := 8, st := 0x10 }
def PWR.EXIT_INFO : Fld := { off := 0x300, lo := 0, width := 32, acc := .w1c, cls := .c, cnt := 8, st := 0x4 }

/-- Every field of a PWR page. -/
def PWR.all : List Fld :=
  [PWR.GUARD_US, PWR.KEEP_EN, PWR.DEV_STATE, PWR.KEEP_RETRAIN_MS, PWR.CAL_USED, PWR.CAL_FULL, PWR.LATE_WAKE_CNT, PWR.KEEP_DENY_CNT, PWR.GRP_STATE, PWR.GRP_MAX, PWR.LAST_STATE, PWR.LAST_GROUP] ++
  [PWR.LAST_REASON, PWR.LAST_EXIT_US, PWR.KEEP_CNT, PWR.CAD_MASK, PWR.HINT_MASK, PWR.PTP_INTERVAL_US, PWR.TIMER_NS_LO, PWR.TIMER_NS_HI, PWR.TIMER_MASK, PWR.EXIT_INFO]

def THM.WARN_MODE : Fld := { off := 0x100, lo := 0, width := 1, acc := .rw, cls := .c }
def THM.THROT_MODE : Fld := { off := 0x100, lo := 1, width := 1, acc := .rw, cls := .c }
def THM.TRIP_MODE : Fld := { off := 0x100, lo := 2, width := 1, acc := .rwl, cls := .c }
def THM.WARN_C : Fld := { off := 0x104, lo := 0, width := 8, acc := .rw, cls := .c, rst := 0x69 }
def THM.THROT_C : Fld := { off := 0x104, lo := 8, width := 8, acc := .rw, cls := .c, rst := 0x76 }
def THM.TRIP_C : Fld := { off := 0x104, lo := 16, width := 8, acc := .rwl, cls := .c, rst := 0x84 }
def THM.HYST_C : Fld := { off := 0x104, lo := 24, width := 4, acc := .rw, cls := .c, rst := 0x4 }
def THM.WARN_RATE : Fld := { off := 0x108, lo := 0, width := 10, acc := .rw, cls := .c, rst := 0xC8 }
def THM.THROT_RATE : Fld := { off := 0x108, lo := 16, width := 10, acc := .rw, cls := .c, rst := 0x190 }
def THM.TRIP_RATE : Fld := { off := 0x10C, lo := 0, width := 10, acc := .rwl, cls := .c, rst := 0x3E8 }
def THM.RATE_HYST : Fld := { off := 0x10C, lo := 16, width := 10, acc := .rw, cls := .c, rst := 0x32 }
def THM.TJ_FAIL : Fld := { off := 0x110, lo := 0, width := 8, acc := .rw, cls := .c, rst := 0x77 }
def THM.THROT_STEP_US : Fld := { off := 0x114, lo := 0, width := 16, acc := .rw, cls := .c, rst := 0x3E8 }
def THM.RELEASE_STEP_US : Fld := { off := 0x114, lo := 16, width := 16, acc := .rw, cls := .c, rst := 0x2710 }
def THM.SHED_STEP_US : Fld := { off := 0x118, lo := 0, width := 16, acc := .rw, cls := .c, rst := 0x1388 }
def THM.SHED_LEVEL : Fld := { off := 0x118, lo := 16, width := 3, acc := .ro, cls := .a }
def THM.TJ_MAX : Fld := { off := 0x11C, lo := 0, width := 16, acc := .ro, cls := .a }
def THM.TJ_MAX_SENSOR : Fld := { off := 0x11C, lo := 16, width := 8, acc := .ro, cls := .a }
def THM.WARN : Fld := { off := 0x11C, lo := 24, width := 1, acc := .ro, cls := .a }
def THM.BROKEN_LO : Fld := { off := 0x120, lo := 0, width := 32, acc := .ro, cls := .d, pair := .low }
def THM.BROKEN_HI : Fld := { off := 0x124, lo := 0, width := 32, acc := .ro, cls := .d, pair := .high }
def THM.REFRESH_2X : Fld := { off := 0x128, lo := 0, width := 4, acc := .ro, cls := .a }
def THM.TRIP_SEEN : Fld := { off := 0x12C, lo := 0, width := 1, acc := .w1c, cls := .n }
def THM.THROT_STEP_CNT : Fld := { off := 0x130, lo := 0, width := 16, acc := .rc, cls := .c }
def THM.SHED_STEP_CNT : Fld := { off := 0x130, lo := 16, width := 16, acc := .rc, cls := .c }
def THM.SENSOR_FAIL_CNT : Fld := { off := 0x134, lo := 0, width := 8, acc := .rc, cls := .d }
def THM.LEVEL : Fld := { off := 0x200, lo := 0, width := 4, acc := .ro, cls := .a, cnt := 32, st := 0x4 }
def THM.GROUP_T : Fld := { off := 0x200, lo := 16, width := 16, acc := .ro, cls := .a, cnt := 32, st := 0x4 }
def THM.TEMP : Fld := { off := 0x400, lo := 0, width := 16, acc := .ro, cls := .a, cnt := 61, st := 0x4 }
def THM.BROKEN : Fld := { off := 0x400, lo := 16, width := 1, acc := .ro, cls := .d, cnt := 61, st := 0x4 }
def THM.STALE : Fld := { off := 0x400, lo := 17, width := 1, acc := .ro, cls := .a, cnt := 61, st := 0x4 }
def THM.CAUSE : Fld := { off := 0x400, lo := 18, width := 2, acc := .ro, cls := .d, cnt := 61, st := 0x4 }
def THM.GROUP : Fld := { off := 0x400, lo := 24, width := 5, acc := .ro, cls := .a, cnt := 61, st := 0x4 }

/-- Every field of a THM page. -/
def THM.all : List Fld :=
  [THM.WARN_MODE, THM.THROT_MODE, THM.TRIP_MODE, THM.WARN_C, THM.THROT_C, THM.TRIP_C, THM.HYST_C, THM.WARN_RATE, THM.THROT_RATE, THM.TRIP_RATE, THM.RATE_HYST, THM.TJ_FAIL] ++
  [THM.THROT_STEP_US, THM.RELEASE_STEP_US, THM.SHED_STEP_US, THM.SHED_LEVEL, THM.TJ_MAX, THM.TJ_MAX_SENSOR, THM.WARN, THM.BROKEN_LO, THM.BROKEN_HI, THM.REFRESH_2X, THM.TRIP_SEEN, THM.THROT_STEP_CNT] ++
  [THM.SHED_STEP_CNT, THM.SENSOR_FAIL_CNT, THM.LEVEL, THM.GROUP_T, THM.TEMP, THM.BROKEN, THM.STALE, THM.CAUSE, THM.GROUP]

def NVS.EPOCH : Fld := { off := 0x100, lo := 0, width := 32, acc := .ro, cls := .n }
def NVS.STATE : Fld := { off := 0x104, lo := 0, width := 4, acc := .ro, cls := .a }
def NVS.CLEAN_BOOT : Fld := { off := 0x104, lo := 8, width := 1, acc := .ro, cls := .c }
def NVS.HOLDUP_LOSS : Fld := { off := 0x104, lo := 9, width := 1, acc := .w1c, cls := .d }
def NVS.LEDGER_FREE : Fld := { off := 0x108, lo := 0, width := 21, acc := .ro, cls := .a, rst := 0x100000 }
def NVS.LEDGER_MIN : Fld := { off := 0x10C, lo := 0, width := 21, acc := .rc, cls := .c, rst := 0x100000 }
def NVS.RECORDS_CNT : Fld := { off := 0x110, lo := 0, width := 32, acc := .ro, cls := .n, wrap := true }
def NVS.REPLAY_MS : Fld := { off := 0x114, lo := 0, width := 16, acc := .ro, cls := .c }
def NVS.REWRITES : Fld := { off := 0x114, lo := 16, width := 16, acc := .ro, cls := .c }
def NVS.LEDGER_STALL_CNT : Fld := { off := 0x118, lo := 0, width := 16, acc := .rc, cls := .c }
def NVS.ECC_CORR_CNT : Fld := { off := 0x11C, lo := 0, width := 16, acc := .rc, cls := .d }
def NVS.ECC_UNCORR_CNT : Fld := { off := 0x11C, lo := 16, width := 8, acc := .rc, cls := .d }
def NVS.ROWS_SPARED : Fld := { off := 0x11C, lo := 24, width := 8, acc := .ro, cls := .n }
def NVS.PENDING_MIB : Fld := { off := 0x120, lo := 0, width := 9, acc := .ro, cls := .a }
def NVS.HOLDUP_MS : Fld := { off := 0x124, lo := 0, width := 8, acc := .ro, cls := .n }

/-- Every field of a NVS page. -/
def NVS.all : List Fld :=
  [NVS.EPOCH, NVS.STATE, NVS.CLEAN_BOOT, NVS.HOLDUP_LOSS, NVS.LEDGER_FREE, NVS.LEDGER_MIN, NVS.RECORDS_CNT, NVS.REPLAY_MS, NVS.REWRITES, NVS.LEDGER_STALL_CNT, NVS.ECC_CORR_CNT, NVS.ECC_UNCORR_CNT] ++
  [NVS.ROWS_SPARED, NVS.PENDING_MIB, NVS.HOLDUP_MS]

def EVT.FAULT_LOG_CNT : Fld := { off := 0x100, lo := 0, width := 32, acc := .ro, cls := .n, wrap := true }
def EVT.SYSLOG_DROP_CNT : Fld := { off := 0x104, lo := 0, width := 16, acc := .rc, cls := .c }
def EVT.TRACE_DROP_CNT : Fld := { off := 0x400, lo := 0, width := 16, acc := .rc, cls := .b, cnt := 128, st := 0x10 }
def EVT.COALESCE_CNT : Fld := { off := 0x400, lo := 16, width := 16, acc := .rc, cls := .b, cnt := 128, st := 0x10 }
def EVT.LOSS_CNT : Fld := { off := 0x404, lo := 0, width := 16, acc := .rc, cls := .d, cnt := 128, st := 0x10 }
def EVT.LOSS : Fld := { off := 0x404, lo := 16, width := 1, acc := .w1c, cls := .d, cnt := 128, st := 0x10 }
def EVT.ORPHAN_LOSS : Fld := { off := 0x404, lo := 17, width := 1, acc := .w1c, cls := .d, cnt := 128, st := 0x10 }
def EVT.ORPHAN_COUNT : Fld := { off := 0x408, lo := 0, width := 14, acc := .ro, cls := .n, cnt := 128, st := 0x10 }
def EVT.SUMMARY_SLOTS : Fld := { off := 0x408, lo := 16, width := 9, acc := .ro, cls := .a, cnt := 128, st := 0x10 }
def EVT.RING_FREE : Fld := { off := 0x40C, lo := 0, width := 16, acc := .ro, cls := .a, cnt := 128, st := 0x10 }

/-- Every field of a EVT page. -/
def EVT.all : List Fld :=
  [EVT.FAULT_LOG_CNT, EVT.SYSLOG_DROP_CNT, EVT.TRACE_DROP_CNT, EVT.COALESCE_CNT, EVT.LOSS_CNT, EVT.LOSS, EVT.ORPHAN_LOSS, EVT.ORPHAN_COUNT, EVT.SUMMARY_SLOTS, EVT.RING_FREE]

def FWM.ACTIVE_SLOT : Fld := { off := 0x100, lo := 0, width := 1, acc := .ro, cls := .c }
def FWM.BOOT_SLOT : Fld := { off := 0x100, lo := 1, width := 1, acc := .ro, cls := .n }
def FWM.PAIR0 : Fld := { off := 0x100, lo := 4, width := 2, acc := .ro, cls := .c }
def FWM.PAIR1 : Fld := { off := 0x100, lo := 6, width := 2, acc := .ro, cls := .c, rst := 0x1 }
def FWM.SLOT_A : Fld := { off := 0x104, lo := 0, width := 3, acc := .ro, cls := .n }
def FWM.SLOT_B : Fld := { off := 0x104, lo := 8, width := 3, acc := .ro, cls := .n }
def FWM.REV_A : Fld := { off := 0x108, lo := 0, width := 32, acc := .ro, cls := .n }
def FWM.REV_B : Fld := { off := 0x10C, lo := 0, width := 32, acc := .ro, cls := .n }
def FWM.ACT_STATE : Fld := { off := 0x110, lo := 0, width := 2, acc := .ro, cls := .a }
def FWM.FETCH_PAUSE_US : Fld := { off := 0x114, lo := 0, width := 16, acc := .ro, cls := .c }
def FWM.HANDOVER_MS : Fld := { off := 0x114, lo := 16, width := 16, acc := .ro, cls := .c }
def FWM.FAILOVER_CNT : Fld := { off := 0x118, lo := 0, width := 8, acc := .ro, cls := .n }
def FWM.ACT_FAIL_CNT : Fld := { off := 0x118, lo := 8, width := 8, acc := .rc, cls := .c }
def FWM.RUN_HOURS : Fld := { off := 0x11C, lo := 0, width := 32, acc := .ro, cls := .n }

/-- Every field of a FWM page. -/
def FWM.all : List Fld :=
  [FWM.ACTIVE_SLOT, FWM.BOOT_SLOT, FWM.PAIR0, FWM.PAIR1, FWM.SLOT_A, FWM.SLOT_B, FWM.REV_A, FWM.REV_B, FWM.ACT_STATE, FWM.FETCH_PAUSE_US, FWM.HANDOVER_MS, FWM.FAILOVER_CNT] ++
  [FWM.ACT_FAIL_CNT, FWM.RUN_HOURS]

def SCU.LOCK : Fld := { off := 0x100, lo := 0, width := 1, acc := .w1s, cls := .d }
def SCU.FACTORY_LOCKED : Fld := { off := 0x104, lo := 0, width := 1, acc := .ro, cls := .n, rst := 1 }
def SCU.VENDOR_SESSION : Fld := { off := 0x104, lo := 1, width := 1, acc := .ro, cls := .a }
def SCU.BOOT_KEY : Fld := { off := 0x104, lo := 4, width := 4, acc := .ro, cls := .n }
def SCU.KEY_REVOKED : Fld := { off := 0x104, lo := 8, width := 8, acc := .ro, cls := .n }
def SCU.VERIFY_FAIL_CNT : Fld := { off := 0x108, lo := 0, width := 16, acc := .rc, cls := .d }

/-- Every field of a SCU page. -/
def SCU.all : List Fld :=
  [SCU.LOCK, SCU.FACTORY_LOCKED, SCU.VENDOR_SESSION, SCU.BOOT_KEY, SCU.KEY_REVOKED, SCU.VERIFY_FAIL_CNT]

def CLK.LOCK : Fld := { off := 0x100, lo := 0, width := 1, acc := .ro, cls := .a, cnt := 8, st := 0x8 }
def CLK.REF_OK : Fld := { off := 0x100, lo := 1, width := 1, acc := .ro, cls := .a, cnt := 8, st := 0x8 }
def CLK.LOL_CNT : Fld := { off := 0x100, lo := 16, width := 16, acc := .rc, cls := .d, cnt := 8, st := 0x8 }
def CLK.FREQ_KHZ : Fld := { off := 0x104, lo := 0, width := 32, acc := .ro, cls := .a, cnt := 8, st := 0x8 }

/-- Every field of a CLK page. -/
def CLK.all : List Fld :=
  [CLK.LOCK, CLK.REF_OK, CLK.LOL_CNT, CLK.FREQ_KHZ]

def SPN.XFER_CNT : Fld := { off := 0x100, lo := 0, width := 32, acc := .ro, cls := .c, wrap := true }
def SPN.PARITY_ERR : Fld := { off := 0x104, lo := 0, width := 16, acc := .rc, cls := .d }
def SPN.STALL_MAX : Fld := { off := 0x104, lo := 16, width := 16, acc := .rc, cls := .c }
def SPN.LINK_DOWN : Fld := { off := 0x108, lo := 0, width := 8, acc := .ro, cls := .c }

/-- Every field of a SPN page. -/
def SPN.all : List Fld :=
  [SPN.XFER_CNT, SPN.PARITY_ERR, SPN.STALL_MAX, SPN.LINK_DOWN]

def HLQ.LOOPBACK : Fld := { off := 0x100, lo := 0, width := 3, acc := .rw, cls := .c, cnt := 4, st := 0x40 }
def HLQ.PRBS_GEN : Fld := { off := 0x100, lo := 4, width := 3, acc := .rw, cls := .c, cnt := 4, st := 0x40 }
def HLQ.PRBS_CHK : Fld := { off := 0x100, lo := 8, width := 3, acc := .rw, cls := .c, cnt := 4, st := 0x40 }
def HLQ.TX_POL : Fld := { off := 0x100, lo := 16, width := 1, acc := .rw, cls := .c, cnt := 4, st := 0x40 }
def HLQ.SIG_DET : Fld := { off := 0x104, lo := 0, width := 1, acc := .ro, cls := .a, cnt := 4, st := 0x40 }
def HLQ.CDR_LOCK : Fld := { off := 0x104, lo := 1, width := 1, acc := .ro, cls := .a, cnt := 4, st := 0x40 }
def HLQ.SYNC_LOCK : Fld := { off := 0x104, lo := 2, width := 1, acc := .ro, cls := .a, cnt := 4, st := 0x40 }
def HLQ.PRBS_LOCK : Fld := { off := 0x104, lo := 3, width := 1, acc := .ro, cls := .a, cnt := 4, st := 0x40 }
def HLQ.RX_INVERTED : Fld := { off := 0x104, lo := 4, width := 1, acc := .ro, cls := .a, cnt := 4, st := 0x40 }
def HLQ.FE_REFUSED : Fld := { off := 0x104, lo := 5, width := 1, acc := .ro, cls := .a, cnt := 4, st := 0x40 }
def HLQ.LOGICAL : Fld := { off := 0x104, lo := 16, width := 6, acc := .ro, cls := .c, cnt := 4, st := 0x40, map := .hlqLogical }
def HLQ.LOCK_LOSS_CNT : Fld := { off := 0x104, lo := 24, width := 6, acc := .rc, cls := .a, cnt := 4, st := 0x40 }
def HLQ.PRBS_ERR_LO : Fld := { off := 0x108, lo := 0, width := 32, acc := .rc, cls := .a, cnt := 4, st := 0x40, pair := .low }
def HLQ.PRBS_ERR_HI : Fld := { off := 0x10C, lo := 0, width := 16, acc := .rc, cls := .a, cnt := 4, st := 0x40, pair := .high }
def HLQ.PRBS_BITS_LO : Fld := { off := 0x110, lo := 0, width := 32, acc := .rc, cls := .a, cnt := 4, st := 0x40, pair := .low }
def HLQ.PRBS_BITS_HI : Fld := { off := 0x114, lo := 0, width := 16, acc := .rc, cls := .a, cnt := 4, st := 0x40, pair := .high }
def HLQ.TX_PRE : Fld := { off := 0x118, lo := 0, width := 5, acc := .rw, cls := .c, rst := 0x4, cnt := 4, st := 0x40 }
def HLQ.TX_POST : Fld := { off := 0x118, lo := 8, width := 5, acc := .rw, cls := .c, rst := 0x8, cnt := 4, st := 0x40 }
def HLQ.TX_SWING : Fld := { off := 0x118, lo := 16, width := 6, acc := .rw, cls := .c, rst := 0x30, cnt := 4, st := 0x40 }
def HLQ.FE_DURATION : Fld := { off := 0x11C, lo := 0, width := 16, acc := .rw, cls := .c, rst := 0x3E8, cnt := 4, st := 0x40 }
def HLQ.SSC_EN : Fld := { off := 0x200, lo := 0, width := 1, acc := .rw, cls := .c }
def HLQ.REF_OK : Fld := { off := 0x200, lo := 8, width := 1, acc := .ro, cls := .a }
def HLQ.SPARE_GROUP : Fld := { off := 0x300, lo := 0, width := 5, acc := .rw, cls := .c, cnt := 4, st := 0x4 }
def HLQ.SPARE_VALID : Fld := { off := 0x300, lo := 7, width := 1, acc := .rw, cls := .c, cnt := 4, st := 0x4 }
def HLQ.SPARE_REPLACED : Fld := { off := 0x300, lo := 8, width := 5, acc := .ro, cls := .c, cnt := 4, st := 0x4 }
def HLQ.SPARE_IN_USE : Fld := { off := 0x300, lo := 15, width := 1, acc := .ro, cls := .c, cnt := 4, st := 0x4 }

/-- Every field of a HLQ page. -/
def HLQ.all : List Fld :=
  [HLQ.LOOPBACK, HLQ.PRBS_GEN, HLQ.PRBS_CHK, HLQ.TX_POL, HLQ.SIG_DET, HLQ.CDR_LOCK, HLQ.SYNC_LOCK, HLQ.PRBS_LOCK, HLQ.RX_INVERTED, HLQ.FE_REFUSED, HLQ.LOGICAL, HLQ.LOCK_LOSS_CNT] ++
  [HLQ.PRBS_ERR_LO, HLQ.PRBS_ERR_HI, HLQ.PRBS_BITS_LO, HLQ.PRBS_BITS_HI, HLQ.TX_PRE, HLQ.TX_POST, HLQ.TX_SWING, HLQ.FE_DURATION, HLQ.SSC_EN, HLQ.REF_OK, HLQ.SPARE_GROUP, HLQ.SPARE_VALID] ++
  [HLQ.SPARE_REPLACED, HLQ.SPARE_IN_USE]

def HLL.EN : Fld := { off := 0x100, lo := 0, width := 1, acc := .rw, cls := .c, cnt := 4, st := 0x20 }
def HLL.LANES : Fld := { off := 0x100, lo := 1, width := 5, acc := .rw, cls := .c, rst := 0x1, cnt := 4, st := 0x20 }
def HLL.RATE : Fld := { off := 0x100, lo := 8, width := 3, acc := .rw, cls := .c, cnt := 4, st := 0x20 }
def HLL.SPARE_EN : Fld := { off := 0x100, lo := 16, width := 1, acc := .rw, cls := .c, cnt := 4, st := 0x20 }
def HLL.MAP_RESET : Fld := { off := 0x100, lo := 24, width := 1, acc := .wo, cls := .a, cnt := 4, st := 0x20 }
def HLL.STATE : Fld := { off := 0x104, lo := 0, width := 4, acc := .ro, cls := .a, cnt := 4, st := 0x20 }
def HLL.FAIL_STATE : Fld := { off := 0x104, lo := 4, width := 4, acc := .ro, cls := .c, cnt := 4, st := 0x20 }
def HLL.FAIL_CODE : Fld := { off := 0x104, lo := 8, width := 8, acc := .ro, cls := .c, cnt := 4, st := 0x20 }
def HLL.VC_BOUND : Fld := { off := 0x104, lo := 16, width := 16, acc := .ro, cls := .a, cnt := 4, st := 0x20 }
def HLL.ATTEMPT_CNT : Fld := { off := 0x108, lo := 0, width := 32, acc := .ro, cls := .c, cnt := 4, st := 0x20, wrap := true }
def HLL.FAIL_CNT : Fld := { off := 0x10C, lo := 0, width := 32, acc := .rc, cls := .c, cnt := 4, st := 0x20 }
def HLL.BACKOFF_MS : Fld := { off := 0x110, lo := 0, width := 10, acc := .ro, cls := .a, rst := 0x1, cnt := 4, st := 0x20 }
def HLL.CTRL_RETX_CNT : Fld := { off := 0x114, lo := 0, width := 16, acc := .rc, cls := .c, cnt := 4, st := 0x20 }
def HLL.DISCARD_CNT : Fld := { off := 0x114, lo := 16, width := 16, acc := .rc, cls := .c, cnt := 4, st := 0x20 }
def HLL.TX_ASYM_PS : Fld := { off := 0x118, lo := 0, width := 16, acc := .rw, cls := .c, cnt := 4, st := 0x20 }
def HLL.RX_ASYM_PS : Fld := { off := 0x118, lo := 16, width := 16, acc := .rw, cls := .c, cnt := 4, st := 0x20 }
def HLL.TIME_INTERVAL : Fld := { off := 0x11C, lo := 0, width := 16, acc := .rw, cls := .c, rst := 0x3E8, cnt := 4, st := 0x20 }
def HLL.ACK_TIMEOUT : Fld := { off := 0x11C, lo := 16, width := 8, acc := .rw, cls := .c, rst := 0xA, cnt := 4, st := 0x20 }
def HLL.SPARE_WAIT : Fld := { off := 0x11C, lo := 24, width := 8, acc := .rw, cls := .c, rst := 0x64, cnt := 4, st := 0x20 }
def HLL.PHYS : Fld := { off := 0x180, lo := 0, width := 6, acc := .ro, cls := .c, cnt := 4, st := 0x4, map := .hllPhys }
def HLL.RETIRED : Fld := { off := 0x180, lo := 6, width := 1, acc := .ro, cls := .d, cnt := 4, st := 0x4 }
def HLL.CRC_WIN : Fld := { off := 0x180, lo := 8, width := 8, acc := .ro, cls := .a, cnt := 4, st := 0x4 }
def HLL.CRC_CNT : Fld := { off := 0x180, lo := 16, width := 16, acc := .rc, cls := .c, cnt := 4, st := 0x4 }
def HLL.UNKNOWN_CNT : Fld := { off := 0x190, lo := 0, width := 16, acc := .rc, cls := .c }
def HLL.MALFORMED_CNT : Fld := { off := 0x190, lo := 16, width := 16, acc := .rc, cls := .c }
def HLL.HEAD_ID : Fld := { off := 0x200, lo := 0, width := 8, acc := .rw, cls := .c, cnt := 64, st := 0x4 }
def HLL.VALID : Fld := { off := 0x200, lo := 8, width := 1, acc := .rw, cls := .c, cnt := 64, st := 0x4 }
def HLL.UNBIND : Fld := { off := 0x200, lo := 9, width := 1, acc := .wo, cls := .a, cnt := 64, st := 0x4 }
def HLL.LANE_SPARE_THRESH : Fld := { off := 0x300, lo := 0, width := 16, acc := .rw, cls := .c, rst := 0x10 }
def HLL.WINDOW_LOG2 : Fld := { off := 0x300, lo := 16, width := 5, acc := .rw, cls := .c, rst := 0x14 }

/-- Every field of a HLL page. -/
def HLL.all : List Fld :=
  [HLL.EN, HLL.LANES, HLL.RATE, HLL.SPARE_EN, HLL.MAP_RESET, HLL.STATE, HLL.FAIL_STATE, HLL.FAIL_CODE, HLL.VC_BOUND, HLL.ATTEMPT_CNT, HLL.FAIL_CNT, HLL.BACKOFF_MS] ++
  [HLL.CTRL_RETX_CNT, HLL.DISCARD_CNT, HLL.TX_ASYM_PS, HLL.RX_ASYM_PS, HLL.TIME_INTERVAL, HLL.ACK_TIMEOUT, HLL.SPARE_WAIT, HLL.PHYS, HLL.RETIRED, HLL.CRC_WIN, HLL.CRC_CNT, HLL.UNKNOWN_CNT] ++
  [HLL.MALFORMED_CNT, HLL.HEAD_ID, HLL.VALID, HLL.UNBIND, HLL.LANE_SPARE_THRESH, HLL.WINDOW_LOG2]

def MIP.LANES : Fld := { off := 0x100, lo := 0, width := 3, acc := .rw, cls := .c, rst := 0x4 }
def MIP.VC : Fld := { off := 0x100, lo := 4, width := 4, acc := .rw, cls := .c }
def MIP.DT : Fld := { off := 0x100, lo := 8, width := 6, acc := .rw, cls := .c, rst := 0x2C }
def MIP.CONT_CLK : Fld := { off := 0x100, lo := 16, width := 1, acc := .rw, cls := .c }
def MIP.CFA_KIND : Fld := { off := 0x100, lo := 20, width := 4, acc := .rw, cls := .c }
def MIP.CFA_PHASE : Fld := { off := 0x100, lo := 24, width := 6, acc := .rw, cls := .c }
def MIP.RATE_MBPS : Fld := { off := 0x104, lo := 0, width := 13, acc := .rw, cls := .c, rst := 0x5DC }
def MIP.WIDTH : Fld := { off := 0x104, lo := 16, width := 16, acc := .rw, cls := .c, rst := 0x780 }
def MIP.TS_OFFSET : Fld := { off := 0x108, lo := 0, width := 32, acc := .rw, cls := .c }
def MIP.STOP_STATE : Fld := { off := 0x10C, lo := 0, width := 1, acc := .ro, cls := .a }
def MIP.HS_ACTIVE : Fld := { off := 0x10C, lo := 1, width := 1, acc := .ro, cls := .a }
def MIP.FRAME_OPEN : Fld := { off := 0x10C, lo := 2, width := 1, acc := .ro, cls := .a }
def MIP.ECC_CORR_CNT : Fld := { off := 0x110, lo := 0, width := 16, acc := .rc, cls := .c }
def MIP.ECC_UNCORR_CNT : Fld := { off := 0x110, lo := 16, width := 16, acc := .rc, cls := .c }
def MIP.CRC_ERR_CNT : Fld := { off := 0x114, lo := 0, width := 16, acc := .rc, cls := .c }
def MIP.DT_SKIP_CNT : Fld := { off := 0x114, lo := 16, width := 16, acc := .rc, cls := .c }
def MIP.CAPTURE_NEXT_LO : Fld := { off := 0x118, lo := 0, width := 32, acc := .rw, cls := .c, pair := .low }
def MIP.CAPTURE_NEXT_HI : Fld := { off := 0x11C, lo := 0, width := 16, acc := .rw, cls := .c, pair := .high }

/-- Every field of a MIP page. -/
def MIP.all : List Fld :=
  [MIP.LANES, MIP.VC, MIP.DT, MIP.CONT_CLK, MIP.CFA_KIND, MIP.CFA_PHASE, MIP.RATE_MBPS, MIP.WIDTH, MIP.TS_OFFSET, MIP.STOP_STATE, MIP.HS_ACTIVE, MIP.FRAME_OPEN] ++
  [MIP.ECC_CORR_CNT, MIP.ECC_UNCORR_CNT, MIP.CRC_ERR_CNT, MIP.DT_SKIP_CNT, MIP.CAPTURE_NEXT_LO, MIP.CAPTURE_NEXT_HI]

end Sys2Proof.Reg
end

