-- ==== Sys2Proof/Machine/RegistersB.lean ====
section
/-! DEFINITION. Register fields of the pages: ingest, Sections, Yarrow, recording.
One descriptor per field of the register tables of spec/ (offset, bits, access, reset, class), under the
manual's page and field names; arrays carry count and stride. A 64-bit register is two descriptors (R31). -/

namespace Sys2Proof.Reg

def ING.FRAMES_CNT : Fld := { off := 0x100, lo := 0, width := 32, acc := .ro, cls := .c, wrap := true }
def ING.SHORT_CNT : Fld := { off := 0x104, lo := 0, width := 16, acc := .rc, cls := .c }
def ING.LONG_CNT : Fld := { off := 0x104, lo := 16, width := 16, acc := .rc, cls := .c }
def ING.WIDTH_CNT : Fld := { off := 0x108, lo := 0, width := 16, acc := .rc, cls := .c }
def ING.CRC_ROW_CNT : Fld := { off := 0x108, lo := 16, width := 16, acc := .rc, cls := .c }
def ING.OFF_CNT : Fld := { off := 0x10C, lo := 0, width := 8, acc := .rc, cls := .c }
def ING.FHDR_BAD_CNT : Fld := { off := 0x10C, lo := 8, width := 8, acc := .rc, cls := .c }
def ING.PREADMIT_CNT : Fld := { off := 0x10C, lo := 16, width := 16, acc := .rc, cls := .c }
def ING.ORPHAN_CNT : Fld := { off := 0x110, lo := 0, width := 16, acc := .rc, cls := .c }
def ING.CID_ORDER_CNT : Fld := { off := 0x110, lo := 16, width := 16, acc := .rc, cls := .c }
def ING.NOBUF_CNT : Fld := { off := 0x114, lo := 0, width := 16, acc := .rc, cls := .c }
def ING.OOO_CNT : Fld := { off := 0x114, lo := 16, width := 16, acc := .rc, cls := .c }
def ING.TIMEOUT_CNT : Fld := { off := 0x118, lo := 0, width := 16, acc := .rc, cls := .c }
def ING.NO_TRAILER_CNT : Fld := { off := 0x118, lo := 16, width := 16, acc := .rc, cls := .c }
def ING.GEOMETRY_CNT : Fld := { off := 0x11C, lo := 0, width := 16, acc := .rc, cls := .c }
def ING.AUX_OVF_CNT : Fld := { off := 0x11C, lo := 16, width := 16, acc := .rc, cls := .c }
def ING.PIX_RATE : Fld := { off := 0x120, lo := 0, width := 32, acc := .ro, cls := .a }
def ING.DECLARED : Fld := { off := 0x124, lo := 0, width := 32, acc := .ro, cls := .c }
def ING.ADMIT : Fld := { off := 0x400, lo := 0, width := 2, acc := .ro, cls := .c, cnt := 256, st := 0x4 }
def ING.CONTEXT : Fld := { off := 0x400, lo := 8, width := 8, acc := .ro, cls := .c, cnt := 256, st := 0x4 }
def ING.BOUND : Fld := { off := 0x400, lo := 16, width := 1, acc := .ro, cls := .c, cnt := 256, st := 0x4 }
def ING.OPEN : Fld := { off := 0x400, lo := 17, width := 1, acc := .ro, cls := .a, cnt := 256, st := 0x4 }

/-- Every field of a ING page. -/
def ING.all : List Fld :=
  [ING.FRAMES_CNT, ING.SHORT_CNT, ING.LONG_CNT, ING.WIDTH_CNT, ING.CRC_ROW_CNT, ING.OFF_CNT, ING.FHDR_BAD_CNT, ING.PREADMIT_CNT, ING.ORPHAN_CNT, ING.CID_ORDER_CNT, ING.NOBUF_CNT, ING.OOO_CNT] ++
  [ING.TIMEOUT_CNT, ING.NO_TRAILER_CNT, ING.GEOMETRY_CNT, ING.AUX_OVF_CNT, ING.PIX_RATE, ING.DECLARED, ING.ADMIT, ING.CONTEXT, ING.BOUND, ING.OPEN]

def FE_CTL.INLINE_CTX : Fld := { off := 0x100, lo := 0, width := 8, acc := .ro, cls := .c }
def FE_CTL.INLINE_VALID : Fld := { off := 0x100, lo := 8, width := 1, acc := .ro, cls := .c }
def FE_CTL.GANG : Fld := { off := 0x100, lo := 9, width := 2, acc := .ro, cls := .c }
def FE_CTL.LOAD_KPIX : Fld := { off := 0x104, lo := 0, width := 32, acc := .ro, cls := .c }
def FE_CTL.FOLIO_CNT : Fld := { off := 0x108, lo := 0, width := 32, acc := .ro, cls := .a, wrap := true }
def FE_CTL.MEM_PASS_CNT : Fld := { off := 0x10C, lo := 0, width := 32, acc := .ro, cls := .a, wrap := true }
def FE_CTL.QUEUE : Fld := { off := 0x110, lo := 0, width := 16, acc := .ro, cls := .a }
def FE_CTL.QUEUE_MAX : Fld := { off := 0x110, lo := 16, width := 16, acc := .rc, cls := .c }
def FE_CTL.F16_SAT_CNT : Fld := { off := 0x114, lo := 0, width := 16, acc := .rc, cls := .c }
def FE_CTL.CAL_WAIT_CNT : Fld := { off := 0x114, lo := 16, width := 16, acc := .rc, cls := .c }
def FE_CTL.CAL_SEQ_LAST : Fld := { off := 0x118, lo := 0, width := 32, acc := .ro, cls := .c }

/-- Every field of a FE_CTL page. -/
def FE_CTL.all : List Fld :=
  [FE_CTL.INLINE_CTX, FE_CTL.INLINE_VALID, FE_CTL.GANG, FE_CTL.LOAD_KPIX, FE_CTL.FOLIO_CNT, FE_CTL.MEM_PASS_CNT, FE_CTL.QUEUE, FE_CTL.QUEUE_MAX, FE_CTL.F16_SAT_CNT, FE_CTL.CAL_WAIT_CNT, FE_CTL.CAL_SEQ_LAST]

def FE_BLK.OB_SKIP_CNT : Fld := { off := 0x100, lo := 0, width := 16, acc := .rc, cls := .c }

/-- Every field of a FE_BLK page. -/
def FE_BLK.all : List Fld :=
  [FE_BLK.OB_SKIP_CNT]

def FE_DPC.DYN_CNT : Fld := { off := 0x100, lo := 0, width := 32, acc := .ro, cls := .a }
def FE_DPC.MAP_SKIP_CNT : Fld := { off := 0x104, lo := 0, width := 16, acc := .rc, cls := .c }
def FE_DPC.CAND_FULL_CNT : Fld := { off := 0x104, lo := 16, width := 16, acc := .rc, cls := .c }

/-- Every field of a FE_DPC page. -/
def FE_DPC.all : List Fld :=
  [FE_DPC.DYN_CNT, FE_DPC.MAP_SKIP_CNT, FE_DPC.CAND_FULL_CNT]

def FE_NRD.NO_REF_CNT : Fld := { off := 0x100, lo := 0, width := 16, acc := .rc, cls := .c }

/-- Every field of a FE_NRD page. -/
def FE_NRD.all : List Fld :=
  [FE_NRD.NO_REF_CNT]

def FE_LNS.CLAMP_CNT : Fld := { off := 0x100, lo := 0, width := 32, acc := .rc, cls := .c }

/-- Every field of a FE_LNS page. -/
def FE_LNS.all : List Fld :=
  [FE_LNS.CLAMP_CNT]

def FE_STA.LOOP_Q_CNT : Fld := { off := 0x100, lo := 0, width := 16, acc := .rc, cls := .c }
def FE_STA.RING_SKIP_CNT : Fld := { off := 0x100, lo := 16, width := 16, acc := .rc, cls := .c }

/-- Every field of a FE_STA page. -/
def FE_STA.all : List Fld :=
  [FE_STA.LOOP_Q_CNT, FE_STA.RING_SKIP_CNT]

def FE_RSP.RESPIN_EN : Fld := { off := 0x100, lo := 0, width := 1, acc := .rw, cls := .c, rst := 0x1 }
def FE_RSP.RESPIN_CNT : Fld := { off := 0x104, lo := 0, width := 32, acc := .ro, cls := .c, wrap := true }
def FE_RSP.LATE_CNT : Fld := { off := 0x108, lo := 0, width := 16, acc := .rc, cls := .c }
def FE_RSP.DEFLECT_CNT : Fld := { off := 0x108, lo := 16, width := 16, acc := .rc, cls := .c }
def FE_RSP.DEADLINE_MISS_CNT : Fld := { off := 0x10C, lo := 0, width := 16, acc := .rc, cls := .c }
def FE_RSP.PROV_CNT : Fld := { off := 0x10C, lo := 16, width := 16, acc := .rc, cls := .c }
def FE_RSP.SSQ_MISMATCH_CNT : Fld := { off := 0x110, lo := 0, width := 16, acc := .rc, cls := .c }
def FE_RSP.ECHO_TIMEOUT_CNT : Fld := { off := 0x110, lo := 16, width := 16, acc := .rc, cls := .c }
def FE_RSP.GEN_LIVE : Fld := { off := 0x114, lo := 0, width := 16, acc := .ro, cls := .a }
def FE_RSP.GEN_MAX : Fld := { off := 0x114, lo := 16, width := 16, acc := .rc, cls := .c }

/-- Every field of a FE_RSP page. -/
def FE_RSP.all : List Fld :=
  [FE_RSP.RESPIN_EN, FE_RSP.RESPIN_CNT, FE_RSP.LATE_CNT, FE_RSP.DEFLECT_CNT, FE_RSP.DEADLINE_MISS_CNT, FE_RSP.PROV_CNT, FE_RSP.SSQ_MISMATCH_CNT, FE_RSP.ECHO_TIMEOUT_CNT, FE_RSP.GEN_LIVE, FE_RSP.GEN_MAX]

def YRC.OCC_RESERVED : Fld := { off := 0x100, lo := 0, width := 10, acc := .ro, cls := .c, cnt := 4, st := 0x4 }
def YRC.OCC_MEASURED : Fld := { off := 0x100, lo := 16, width := 10, acc := .ro, cls := .a, cnt := 4, st := 0x4 }
def YRC.DITHER_LOADED : Fld := { off := 0x200, lo := 0, width := 1, acc := .ro, cls := .c }
def YRC.DITHER_SEQ : Fld := { off := 0x200, lo := 16, width := 16, acc := .ro, cls := .c, wrap := true }
def YRC.BOUND : Fld := { off := 0x400, lo := 0, width := 1, acc := .ro, cls := .c, cnt := 12, st := 0x20 }
def YRC.ENABLED : Fld := { off := 0x400, lo := 1, width := 1, acc := .ro, cls := .c, cnt := 12, st := 0x20 }
def YRC.STREAM : Fld := { off := 0x400, lo := 2, width := 1, acc := .ro, cls := .c, cnt := 12, st := 0x20 }
def YRC.CONTEXT : Fld := { off := 0x400, lo := 8, width := 8, acc := .ro, cls := .c, cnt := 12, st := 0x20 }
def YRC.SLOT : Fld := { off := 0x400, lo := 16, width := 4, acc := .ro, cls := .c, cnt := 12, st := 0x20 }
def YRC.PETAL : Fld := { off := 0x400, lo := 20, width := 4, acc := .ro, cls := .c, cnt := 12, st := 0x20 }
def YRC.SPLIT_LOG2 : Fld := { off := 0x400, lo := 24, width := 3, acc := .ro, cls := .c, cnt := 12, st := 0x20 }
def YRC.PASS_CNT : Fld := { off := 0x404, lo := 0, width := 32, acc := .ro, cls := .c, cnt := 12, st := 0x20, wrap := true }
def YRC.DISCARD_CNT : Fld := { off := 0x408, lo := 0, width := 16, acc := .rc, cls := .c, cnt := 12, st := 0x20 }
def YRC.GIVEUP_CNT : Fld := { off := 0x408, lo := 16, width := 16, acc := .rc, cls := .c, cnt := 12, st := 0x20 }
def YRC.SIZE_CNT : Fld := { off := 0x40C, lo := 0, width := 16, acc := .rc, cls := .c, cnt := 12, st := 0x20 }
def YRC.MISMATCH_CNT : Fld := { off := 0x40C, lo := 16, width := 16, acc := .rc, cls := .c, cnt := 12, st := 0x20 }
def YRC.OVERRUN_CNT : Fld := { off := 0x410, lo := 0, width := 16, acc := .rc, cls := .c, cnt := 12, st := 0x20 }
def YRC.LUT_WAIT_CNT : Fld := { off := 0x410, lo := 16, width := 16, acc := .rc, cls := .c, cnt := 12, st := 0x20 }
def YRC.LAST_CID_LO : Fld := { off := 0x414, lo := 0, width := 32, acc := .ro, cls := .a, cnt := 12, st := 0x20 }
def YRC.LAST_CID_HI : Fld := { off := 0x418, lo := 0, width := 16, acc := .ro, cls := .a, cnt := 12, st := 0x20 }

/-- Every field of a YRC page. -/
def YRC.all : List Fld :=
  [YRC.OCC_RESERVED, YRC.OCC_MEASURED, YRC.DITHER_LOADED, YRC.DITHER_SEQ, YRC.BOUND, YRC.ENABLED, YRC.STREAM, YRC.CONTEXT, YRC.SLOT, YRC.PETAL, YRC.SPLIT_LOG2, YRC.PASS_CNT] ++
  [YRC.DISCARD_CNT, YRC.GIVEUP_CNT, YRC.SIZE_CNT, YRC.MISMATCH_CNT, YRC.OVERRUN_CNT, YRC.LUT_WAIT_CNT, YRC.LAST_CID_LO, YRC.LAST_CID_HI]

def YPT_A.JOB_STATE : Fld := { off := 0x100, lo := 0, width := 3, acc := .ro, cls := .a }
def YPT_A.RENDITION : Fld := { off := 0x100, lo := 8, width := 6, acc := .ro, cls := .a }
def YPT_A.EXCLUSIVE : Fld := { off := 0x100, lo := 16, width := 1, acc := .ro, cls := .c }
def YPT_A.JOB_CNT : Fld := { off := 0x104, lo := 0, width := 32, acc := .ro, cls := .a, wrap := true }
def YPT_A.F16_SAT_CNT : Fld := { off := 0x108, lo := 0, width := 16, acc := .rc, cls := .c }
def YPT_A.LATE_CNT : Fld := { off := 0x108, lo := 16, width := 16, acc := .rc, cls := .c }
def YPT_A.WAIT_MAX_US : Fld := { off := 0x10C, lo := 0, width := 32, acc := .rc, cls := .c }

/-- Every field of a YPT_A page. -/
def YPT_A.all : List Fld :=
  [YPT_A.JOB_STATE, YPT_A.RENDITION, YPT_A.EXCLUSIVE, YPT_A.JOB_CNT, YPT_A.F16_SAT_CNT, YPT_A.LATE_CNT, YPT_A.WAIT_MAX_US]

def YPT_B.HELD_SLOT : Fld := { off := 0x100, lo := 0, width := 9, acc := .ro, cls := .a }
def YPT_B.HELD_VALID : Fld := { off := 0x100, lo := 15, width := 1, acc := .ro, cls := .a }
def YPT_B.HELD_SEQ : Fld := { off := 0x100, lo := 16, width := 16, acc := .ro, cls := .a }
def YPT_B.LOAD_CNT : Fld := { off := 0x104, lo := 0, width := 16, acc := .rc, cls := .c }
def YPT_B.LOAD_US_LAST : Fld := { off := 0x104, lo := 16, width := 16, acc := .ro, cls := .a }
def YPT_B.ECC_CORR_CNT : Fld := { off := 0x108, lo := 0, width := 16, acc := .rc, cls := .d }
def YPT_B.ECC_UNCORR_CNT : Fld := { off := 0x108, lo := 16, width := 8, acc := .rc, cls := .d }
def YPT_B.ROWS_SPARED : Fld := { off := 0x108, lo := 24, width := 8, acc := .ro, cls := .d }

/-- Every field of a YPT_B page. -/
def YPT_B.all : List Fld :=
  [YPT_B.HELD_SLOT, YPT_B.HELD_VALID, YPT_B.HELD_SEQ, YPT_B.LOAD_CNT, YPT_B.LOAD_US_LAST, YPT_B.ECC_CORR_CNT, YPT_B.ECC_UNCORR_CNT, YPT_B.ROWS_SPARED]

def FRC.BLOCK_CNT : Fld := { off := 0x100, lo := 0, width := 32, acc := .ro, cls := .a, wrap := true }
def FRC.SAFE_CNT : Fld := { off := 0x104, lo := 0, width := 16, acc := .rc, cls := .c }
def FRC.VERIFY_CNT : Fld := { off := 0x104, lo := 16, width := 16, acc := .rc, cls := .d }
def FRC.CRC_ERR_CNT : Fld := { off := 0x108, lo := 0, width := 16, acc := .rc, cls := .c }
def FRC.SYNTAX_CNT : Fld := { off := 0x108, lo := 16, width := 16, acc := .rc, cls := .c }
def FRC.BUSY : Fld := { off := 0x10C, lo := 0, width := 10, acc := .ro, cls := .a }
def FRC.QUEUE : Fld := { off := 0x110, lo := 0, width := 16, acc := .ro, cls := .a }

/-- Every field of a FRC page. -/
def FRC.all : List Fld :=
  [FRC.BLOCK_CNT, FRC.SAFE_CNT, FRC.VERIFY_CNT, FRC.CRC_ERR_CNT, FRC.SYNTAX_CNT, FRC.BUSY, FRC.QUEUE]

def FRQ.TAKE_LOAD : Fld := { off := 0x100, lo := 0, width := 16, acc := .ro, cls := .c }
def FRQ.CLASS_LOAD : Fld := { off := 0x100, lo := 16, width := 16, acc := .ro, cls := .c }
def FRQ.RESERVED : Fld := { off := 0x400, lo := 0, width := 16, acc := .ro, cls := .c, cnt := 512, st := 0x4 }
def FRQ.QUEUED : Fld := { off := 0x400, lo := 16, width := 16, acc := .ro, cls := .a, cnt := 512, st := 0x4 }
def FRQ.DONE_CNT_EVEN : Fld := { off := 0xC00, lo := 0, width := 16, acc := .ro, cls := .c, cnt := 256, st := 0x4, wrap := true }
def FRQ.DONE_CNT_ODD : Fld := { off := 0xC00, lo := 16, width := 16, acc := .ro, cls := .c, cnt := 256, st := 0x4, wrap := true }

/-- Every field of a FRQ page. -/
def FRQ.all : List Fld :=
  [FRQ.TAKE_LOAD, FRQ.CLASS_LOAD, FRQ.RESERVED, FRQ.QUEUED, FRQ.DONE_CNT_EVEN, FRQ.DONE_CNT_ODD]

def MAG.STATE : Fld := { off := 0x100, lo := 0, width := 4, acc := .ro, cls := .c }
def MAG.SET : Fld := { off := 0x100, lo := 4, width := 3, acc := .ro, cls := .c }
def MAG.MEMBER : Fld := { off := 0x100, lo := 8, width := 3, acc := .ro, cls := .c }
def MAG.LINK_WIDTH : Fld := { off := 0x100, lo := 16, width := 3, acc := .ro, cls := .a }
def MAG.LINK_GEN : Fld := { off := 0x100, lo := 20, width := 3, acc := .ro, cls := .a }
def MAG.CAP_LBA_LO : Fld := { off := 0x108, lo := 0, width := 32, acc := .ro, cls := .c, pair := .low }
def MAG.CAP_LBA_HI : Fld := { off := 0x10C, lo := 0, width := 32, acc := .ro, cls := .c, pair := .high }
def MAG.TIMEOUT_CNT : Fld := { off := 0x110, lo := 0, width := 16, acc := .rc, cls := .c }
def MAG.MEDIA_ERR_CNT : Fld := { off := 0x110, lo := 16, width := 16, acc := .rc, cls := .d }
def MAG.RESET_CNT : Fld := { off := 0x114, lo := 0, width := 16, acc := .rc, cls := .c }
def MAG.TEMP : Fld := { off := 0x114, lo := 16, width := 8, acc := .ro, cls := .a }
def MAG.WRITE_MBPS : Fld := { off := 0x118, lo := 0, width := 32, acc := .ro, cls := .a }
def MAG.MAG_TIMEOUT : Fld := { off := 0x11C, lo := 0, width := 16, acc := .rw, cls := .c, rst := 0x7D0 }

/-- Every field of a MAG page. -/
def MAG.all : List Fld :=
  [MAG.STATE, MAG.SET, MAG.MEMBER, MAG.LINK_WIDTH, MAG.LINK_GEN, MAG.CAP_LBA_LO, MAG.CAP_LBA_HI, MAG.TIMEOUT_CNT, MAG.MEDIA_ERR_CNT, MAG.RESET_CNT, MAG.TEMP, MAG.WRITE_MBPS] ++
  [MAG.MAG_TIMEOUT]

def STR.N : Fld := { off := 0x400, lo := 0, width := 3, acc := .rw, cls := .c, rst := 0x1, cnt := 4, st := 0x100 }
def STR.MEMBERS : Fld := { off := 0x400, lo := 8, width := 8, acc := .rw, cls := .c, cnt := 4, st := 0x100 }
def STR.SPARES : Fld := { off := 0x400, lo := 16, width := 8, acc := .rw, cls := .c, cnt := 4, st := 0x100 }
def STR.ENC_EN : Fld := { off := 0x400, lo := 24, width := 1, acc := .rw, cls := .c, cnt := 4, st := 0x100 }
def STR.CREATE : Fld := { off := 0x400, lo := 28, width := 1, acc := .wo, cls := .a, cnt := 4, st := 0x100 }
def STR.ASSEMBLE : Fld := { off := 0x400, lo := 29, width := 1, acc := .wo, cls := .a, cnt := 4, st := 0x100 }
def STR.STATE : Fld := { off := 0x404, lo := 0, width := 4, acc := .ro, cls := .c, cnt := 4, st := 0x100 }
def STR.LOST_MEMBER : Fld := { off := 0x404, lo := 8, width := 3, acc := .ro, cls := .c, cnt := 4, st := 0x100 }
def STR.EPOCH : Fld := { off := 0x408, lo := 0, width := 32, acc := .ro, cls := .c, cnt := 4, st := 0x100 }
def STR.REBUILD_PROG : Fld := { off := 0x40C, lo := 0, width := 10, acc := .ro, cls := .a, cnt := 4, st := 0x100 }
def STR.REBUILD_SHARE : Fld := { off := 0x40C, lo := 16, width := 7, acc := .rw, cls := .c, rst := 0x19, cnt := 4, st := 0x100 }
def STR.EXTENTS : Fld := { off := 0x410, lo := 0, width := 32, acc := .ro, cls := .c, cnt := 4, st := 0x100 }
def STR.FREE_EXTENTS : Fld := { off := 0x414, lo := 0, width := 32, acc := .ro, cls := .c, cnt := 4, st := 0x100 }
def STR.PENDING_MIB : Fld := { off := 0x418, lo := 0, width := 16, acc := .ro, cls := .a, cnt := 4, st := 0x100 }
def STR.KCV : Fld := { off := 0x41C, lo := 0, width := 32, acc := .ro, cls := .c, cnt := 4, st := 0x100 }
def STR.KEY : Fld := { off := 0x420, lo := 0, width := 32, acc := .wo, cls := .a, cnt := 4, st := 0x100, cnt2 := 16, st2 := 0x4 }
def STR.STRIPE_WR_CNT : Fld := { off := 0x460, lo := 0, width := 32, acc := .ro, cls := .c, cnt := 4, st := 0x100, wrap := true }

/-- Every field of a STR page. -/
def STR.all : List Fld :=
  [STR.N, STR.MEMBERS, STR.SPARES, STR.ENC_EN, STR.CREATE, STR.ASSEMBLE, STR.STATE, STR.LOST_MEMBER, STR.EPOCH, STR.REBUILD_PROG, STR.REBUILD_SHARE, STR.EXTENTS] ++
  [STR.FREE_EXTENTS, STR.PENDING_MIB, STR.KCV, STR.KEY, STR.STRIPE_WR_CNT]

def FLT.USED : Fld := { off := 0x100, lo := 0, width := 23, acc := .ro, cls := .c }
def FLT.FREE_MAX : Fld := { off := 0x104, lo := 0, width := 23, acc := .ro, cls := .c, rst := 0x400000 }
def FLT.CACHE_HIT : Fld := { off := 0x108, lo := 0, width := 32, acc := .ro, cls := .a, wrap := true }
def FLT.CACHE_MISS : Fld := { off := 0x10C, lo := 0, width := 32, acc := .ro, cls := .a, wrap := true }

/-- Every field of a FLT page. -/
def FLT.all : List Fld :=
  [FLT.USED, FLT.FREE_MAX, FLT.CACHE_HIT, FLT.CACHE_MISS]

def ENC_PIX.CONTEXT : Fld := { off := 0x100, lo := 0, width := 8, acc := .ro, cls := .a }
def ENC_PIX.BUSY_PIC : Fld := { off := 0x100, lo := 8, width := 1, acc := .ro, cls := .a }
def ENC_PIX.AHEAD : Fld := { off := 0x100, lo := 16, width := 4, acc := .ro, cls := .a }
def ENC_PIX.PIC_CNT : Fld := { off := 0x104, lo := 0, width := 32, acc := .ro, cls := .a, wrap := true }
def ENC_PIX.ROLLBACK_CNT : Fld := { off := 0x108, lo := 0, width := 16, acc := .rc, cls := .c }
def ENC_PIX.SWITCH_CNT : Fld := { off := 0x108, lo := 16, width := 16, acc := .rc, cls := .c }
def ENC_PIX.OCC_RESERVED : Fld := { off := 0x10C, lo := 0, width := 10, acc := .ro, cls := .c }
def ENC_PIX.OCC_MEASURED : Fld := { off := 0x10C, lo := 16, width := 10, acc := .ro, cls := .a }
def ENC_PIX.SEAM_WAIT_MAX : Fld := { off := 0x110, lo := 0, width := 16, acc := .rc, cls := .c }

/-- Every field of a ENC_PIX page. -/
def ENC_PIX.all : List Fld :=
  [ENC_PIX.CONTEXT, ENC_PIX.BUSY_PIC, ENC_PIX.AHEAD, ENC_PIX.PIC_CNT, ENC_PIX.ROLLBACK_CNT, ENC_PIX.SWITCH_CNT, ENC_PIX.OCC_RESERVED, ENC_PIX.OCC_MEASURED, ENC_PIX.SEAM_WAIT_MAX]

end Sys2Proof.Reg
end

