-- ==== Sys2Proof/Machine/RegistersC.lean ====
section
/-! DEFINITION. Register fields of the pages: video, display, host.
One descriptor per field of the register tables of spec/ (offset, bits, access, reset, class), under the
manual's page and field names; arrays carry count and stride. A 64-bit register is two descriptors (R31). -/

namespace Sys2Proof.Reg

def ENC_ENT.SYNTAX_ROWS : Fld := { off := 0x100, lo := 0, width := 7, acc := .ro, cls := .a }
def ENC_ENT.SYNTAX_MAX : Fld := { off := 0x100, lo := 16, width := 7, acc := .rc, cls := .c }
def ENC_ENT.BITS_LO : Fld := { off := 0x104, lo := 0, width := 32, acc := .ro, cls := .a, wrap := true }
def ENC_ENT.STALL_CNT : Fld := { off := 0x108, lo := 0, width := 16, acc := .rc, cls := .c }

/-- Every field of a ENC_ENT page. -/
def ENC_ENT.all : List Fld :=
  [ENC_ENT.SYNTAX_ROWS, ENC_ENT.SYNTAX_MAX, ENC_ENT.BITS_LO, ENC_ENT.STALL_CNT]

def ENC_RC.FLOOR_CNT : Fld := { off := 0x100, lo := 0, width := 16, acc := .rc, cls := .c }
def ENC_RC.SOURCE_SKIP_CNT : Fld := { off := 0x100, lo := 16, width := 16, acc := .rc, cls := .c }
def ENC_RC.LAST_CAP : Fld := { off := 0x104, lo := 0, width := 32, acc := .ro, cls := .a }
def ENC_RC.LAST_BITS : Fld := { off := 0x108, lo := 0, width := 32, acc := .ro, cls := .a }

/-- Every field of a ENC_RC page. -/
def ENC_RC.all : List Fld :=
  [ENC_RC.FLOOR_CNT, ENC_RC.SOURCE_SKIP_CNT, ENC_RC.LAST_CAP, ENC_RC.LAST_BITS]

def DEC_ENT.CONTEXT : Fld := { off := 0x100, lo := 0, width := 6, acc := .ro, cls := .a }
def DEC_ENT.UNIT_CNT : Fld := { off := 0x104, lo := 0, width := 32, acc := .ro, cls := .a, wrap := true }

/-- Every field of a DEC_ENT page. -/
def DEC_ENT.all : List Fld :=
  [DEC_ENT.CONTEXT, DEC_ENT.UNIT_CNT]

def DEC_PIX.PIC_CNT : Fld := { off := 0x100, lo := 0, width := 32, acc := .ro, cls := .a, wrap := true }
def DEC_PIX.OCC_MEASURED : Fld := { off := 0x104, lo := 0, width := 10, acc := .ro, cls := .a }

/-- Every field of a DEC_PIX page. -/
def DEC_PIX.all : List Fld :=
  [DEC_PIX.PIC_CNT, DEC_PIX.OCC_MEASURED]

def DEC_ERR.CONCEAL_CNT : Fld := { off := 0x100, lo := 0, width := 16, acc := .rc, cls := .c }
def DEC_ERR.REF_SUBST_CNT : Fld := { off := 0x100, lo := 16, width := 16, acc := .rc, cls := .c }
def DEC_ERR.WD_CNT : Fld := { off := 0x104, lo := 0, width := 16, acc := .rc, cls := .c }
def DEC_ERR.UNSUPP_CNT : Fld := { off := 0x104, lo := 16, width := 16, acc := .rc, cls := .c }

/-- Every field of a DEC_ERR page. -/
def DEC_ERR.all : List Fld :=
  [DEC_ERR.CONCEAL_CNT, DEC_ERR.REF_SUBST_CNT, DEC_ERR.WD_CNT, DEC_ERR.UNSUPP_CNT]

def DSP.ROUTE_KIND : Fld := { off := 0x100, lo := 0, width := 3, acc := .rw, cls := .c }
def DSP.ROUTE_IDX : Fld := { off := 0x100, lo := 4, width := 3, acc := .rw, cls := .c }
def DSP.TIMING_SRC : Fld := { off := 0x100, lo := 8, width := 2, acc := .rwq, cls := .c }
def DSP.CHROMA : Fld := { off := 0x100, lo := 12, width := 2, acc := .rwq, cls := .c }
def DSP.DEPTH : Fld := { off := 0x100, lo := 16, width := 5, acc := .rwq, cls := .c, rst := 0xA }
def DSP.RANGE : Fld := { off := 0x100, lo := 21, width := 1, acc := .rwq, cls := .c }
def DSP.H_ACTIVE : Fld := { off := 0x104, lo := 0, width := 16, acc := .rwq, cls := .c, rst := 0x780 }
def DSP.V_ACTIVE : Fld := { off := 0x104, lo := 16, width := 16, acc := .rwq, cls := .c, rst := 0x438 }
def DSP.H_TOTAL : Fld := { off := 0x108, lo := 0, width := 16, acc := .rwq, cls := .c, rst := 0x898 }
def DSP.V_TOTAL : Fld := { off := 0x108, lo := 16, width := 16, acc := .rwq, cls := .c, rst := 0x465 }
def DSP.HS_START : Fld := { off := 0x10C, lo := 0, width := 16, acc := .rwq, cls := .c, rst := 0x7D8 }
def DSP.HS_WIDTH : Fld := { off := 0x10C, lo := 16, width := 16, acc := .rwq, cls := .c, rst := 0x2C }
def DSP.VS_START : Fld := { off := 0x110, lo := 0, width := 16, acc := .rwq, cls := .c, rst := 0x43C }
def DSP.VS_WIDTH : Fld := { off := 0x110, lo := 16, width := 16, acc := .rwq, cls := .c, rst := 0x5 }
def DSP.PCLK_KHZ : Fld := { off := 0x114, lo := 0, width := 22, acc := .rwq, cls := .c, rst := 0x24414 }
def DSP.KR : Fld := { off := 0x118, lo := 0, width := 32, acc := .rwq, cls := .c, rst := 0x3E59B3D0 }
def DSP.KB : Fld := { off := 0x11C, lo := 0, width := 32, acc := .rwq, cls := .c, rst := 0x3D93DD98 }
def DSP.BG : Fld := { off := 0x120, lo := 0, width := 30, acc := .rwq, cls := .c }
def DSP.PREFILL_LEAD : Fld := { off := 0x124, lo := 0, width := 12, acc := .rwq, cls := .c, rst := 0x64 }
def DSP.CADENCE : Fld := { off := 0x128, lo := 0, width := 4, acc := .rwq, cls := .c }
def DSP.LOCK_OFFSET : Fld := { off := 0x12C, lo := 0, width := 32, acc := .rwq, cls := .c }
def DSP.TE_SEL : Fld := { off := 0x130, lo := 0, width := 2, acc := .rwq, cls := .c }
def DSP.TE_HEAD : Fld := { off := 0x130, lo := 8, width := 8, acc := .rwq, cls := .c }
def DSP.TE_HSRC : Fld := { off := 0x130, lo := 16, width := 2, acc := .rwq, cls := .c }
def DSP.TE_DELAY : Fld := { off := 0x134, lo := 0, width := 32, acc := .rwq, cls := .c }
def DSP.TE_TIMEOUT : Fld := { off := 0x138, lo := 0, width := 16, acc := .rwq, cls := .c, rst := 0x40 }
def DSP.COMMIT : Fld := { off := 0x140, lo := 0, width := 16, acc := .wo, cls := .a }
def DSP.APPLIED_SEQ : Fld := { off := 0x144, lo := 0, width := 16, acc := .ro, cls := .c }
def DSP.PENDING : Fld := { off := 0x144, lo := 16, width := 1, acc := .ro, cls := .a }
def DSP.LAST_LATE : Fld := { off := 0x144, lo := 17, width := 1, acc := .ro, cls := .c }
def DSP.FRAME_CNT : Fld := { off := 0x148, lo := 0, width := 32, acc := .ro, cls := .a, wrap := true }
def DSP.UNDERRUN_CNT : Fld := { off := 0x14C, lo := 0, width := 16, acc := .rc, cls := .c }
def DSP.TE_MISS_CNT : Fld := { off := 0x14C, lo := 16, width := 16, acc := .rc, cls := .c }
def DSP.TE_LATE_CNT : Fld := { off := 0x150, lo := 0, width := 16, acc := .rc, cls := .c }
def DSP.TE_EARLY_CNT : Fld := { off := 0x150, lo := 16, width := 16, acc := .rc, cls := .c }
def DSP.FETCH_SKIP : Fld := { off := 0x154, lo := 0, width := 16, acc := .ro, cls := .a }
def DSP.RELOCK_CNT : Fld := { off := 0x154, lo := 16, width := 16, acc := .rc, cls := .c }
def DSP.L_EN : Fld := { off := 0x200, lo := 0, width := 1, acc := .rwq, cls := .c, cnt := 3, st := 0x40 }
def DSP.L3_EN : Fld := { off := 0x2C0, lo := 0, width := 1, acc := .rwq, cls := .c }
def DSP.L_OPAQUE : Fld := { off := 0x200, lo := 1, width := 1, acc := .rwq, cls := .c, cnt := 3, st := 0x40 }
def DSP.L_SRC : Fld := { off := 0x200, lo := 2, width := 2, acc := .rwq, cls := .c, cnt := 3, st := 0x40 }
def DSP.L_FMT : Fld := { off := 0x200, lo := 4, width := 3, acc := .rwq, cls := .c, cnt := 3, st := 0x40 }
def DSP.L_CONT16 : Fld := { off := 0x200, lo := 7, width := 1, acc := .rwq, cls := .c, cnt := 3, st := 0x40 }
def DSP.L_CHROMA : Fld := { off := 0x200, lo := 8, width := 2, acc := .rwq, cls := .c, rst := 0x2, cnt := 3, st := 0x40 }
def DSP.L_DEPTH : Fld := { off := 0x200, lo := 10, width := 5, acc := .rwq, cls := .c, rst := 0xA, cnt := 3, st := 0x40 }
def DSP.L_RANGE : Fld := { off := 0x200, lo := 15, width := 1, acc := .rwq, cls := .c, cnt := 3, st := 0x40 }
def DSP.L_GALPHA : Fld := { off := 0x200, lo := 16, width := 8, acc := .rwq, cls := .c, rst := 0xFF, cnt := 3, st := 0x40 }
def DSP.L_X : Fld := { off := 0x204, lo := 0, width := 16, acc := .rwq, cls := .c, cnt := 3, st := 0x40 }
def DSP.L_Y : Fld := { off := 0x204, lo := 16, width := 16, acc := .rwq, cls := .c, cnt := 3, st := 0x40 }
def DSP.L_W : Fld := { off := 0x208, lo := 0, width := 16, acc := .rwq, cls := .c, cnt := 3, st := 0x40 }
def DSP.L_H : Fld := { off := 0x208, lo := 16, width := 16, acc := .rwq, cls := .c, cnt := 3, st := 0x40 }
def DSP.L_KR : Fld := { off := 0x20C, lo := 0, width := 32, acc := .rwq, cls := .c, rst := 0x3E59B3D0, cnt := 3, st := 0x40 }
def DSP.L_KB : Fld := { off := 0x210, lo := 0, width := 32, acc := .rwq, cls := .c, rst := 0x3D93DD98, cnt := 3, st := 0x40 }
def DSP.L_ADDR_LO : Fld := { off := 0x218, lo := 0, width := 32, acc := .rwq, cls := .c, cnt := 3, st := 0x40, cnt2 := 3, st2 := 0x8, pair := .low }
def DSP.L_ADDR_HI : Fld := { off := 0x21C, lo := 0, width := 32, acc := .rwq, cls := .c, cnt := 3, st := 0x40, cnt2 := 3, st2 := 0x8, pair := .high }
def DSP.L_PITCH : Fld := { off := 0x230, lo := 0, width := 32, acc := .rwq, cls := .c, cnt := 3, st := 0x40 }
def DSP.L_REPEAT_CNT : Fld := { off := 0x234, lo := 0, width := 16, acc := .rc, cls := .c, cnt := 3, st := 0x40 }
def DSP.L_DROP_CNT : Fld := { off := 0x234, lo := 16, width := 16, acc := .rc, cls := .c, cnt := 3, st := 0x40 }
def DSP.L_MISMATCH_CNT : Fld := { off := 0x238, lo := 0, width := 16, acc := .rc, cls := .c, cnt := 3, st := 0x40 }
def DSP.L_STREAM_LATE_CNT : Fld := { off := 0x238, lo := 16, width := 16, acc := .rc, cls := .c, cnt := 3, st := 0x40 }
def DSP.L_LATCHED_CID : Fld := { off := 0x23C, lo := 0, width := 32, acc := .ro, cls := .a, cnt := 3, st := 0x40 }
def DSP.PAL : Fld := { off := 0x400, lo := 0, width := 32, acc := .rwq, cls := .c, cnt := 512, st := 0x4 }
def DSP.M_X0 : Fld := { off := 0xC00, lo := 0, width := 16, acc := .rwq, cls := .c, cnt := 16, st := 0x10 }
def DSP.M_Y0 : Fld := { off := 0xC00, lo := 16, width := 16, acc := .rwq, cls := .c, cnt := 16, st := 0x10 }
def DSP.M_X1 : Fld := { off := 0xC04, lo := 0, width := 16, acc := .rwq, cls := .c, cnt := 16, st := 0x10 }
def DSP.M_Y1 : Fld := { off := 0xC04, lo := 16, width := 16, acc := .rwq, cls := .c, cnt := 16, st := 0x10 }
def DSP.M_COLOUR : Fld := { off := 0xC08, lo := 0, width := 32, acc := .rwq, cls := .c, cnt := 16, st := 0x10 }
def DSP.M_THICK : Fld := { off := 0xC0C, lo := 0, width := 4, acc := .rwq, cls := .c, rst := 0x1, cnt := 16, st := 0x10 }
def DSP.M_EN : Fld := { off := 0xC0C, lo := 4, width := 1, acc := .rwq, cls := .c, cnt := 16, st := 0x10 }
def DSP.F_EN : Fld := { off := 0xE00, lo := 0, width := 1, acc := .rwq, cls := .c, cnt := 2, st := 0x20 }
def DSP.F_SRC : Fld := { off := 0xE00, lo := 1, width := 1, acc := .rwq, cls := .c, cnt := 2, st := 0x20 }
def DSP.F_FORMAT : Fld := { off := 0xE00, lo := 2, width := 3, acc := .rwq, cls := .c, cnt := 2, st := 0x20 }
def DSP.F_HEAD : Fld := { off := 0xE00, lo := 8, width := 8, acc := .rwq, cls := .c, cnt := 2, st := 0x20 }
def DSP.F_COLOUR : Fld := { off := 0xE00, lo := 16, width := 8, acc := .rwq, cls := .c, cnt := 2, st := 0x20 }
def DSP.F_WIDTH : Fld := { off := 0xE04, lo := 0, width := 16, acc := .rwq, cls := .c, rst := 0x780, cnt := 2, st := 0x20 }
def DSP.F_HEIGHT : Fld := { off := 0xE04, lo := 16, width := 16, acc := .rwq, cls := .c, rst := 0x438, cnt := 2, st := 0x20 }
def DSP.F_FPS_NUM : Fld := { off := 0xE08, lo := 0, width := 32, acc := .rwq, cls := .c, rst := 0x3C, cnt := 2, st := 0x20 }
def DSP.F_FPS_DEN : Fld := { off := 0xE0C, lo := 0, width := 32, acc := .rwq, cls := .c, rst := 0x1, cnt := 2, st := 0x20 }
def DSP.F_FEED_DROP_CNT : Fld := { off := 0xE10, lo := 0, width := 16, acc := .rc, cls := .c, cnt := 2, st := 0x20 }

/-- Every field of a DSP page. -/
def DSP.all : List Fld :=
  [DSP.ROUTE_KIND, DSP.ROUTE_IDX, DSP.TIMING_SRC, DSP.CHROMA, DSP.DEPTH, DSP.RANGE, DSP.H_ACTIVE, DSP.V_ACTIVE, DSP.H_TOTAL, DSP.V_TOTAL, DSP.HS_START, DSP.HS_WIDTH] ++
  [DSP.VS_START, DSP.VS_WIDTH, DSP.PCLK_KHZ, DSP.KR, DSP.KB, DSP.BG, DSP.PREFILL_LEAD, DSP.CADENCE, DSP.LOCK_OFFSET, DSP.TE_SEL, DSP.TE_HEAD, DSP.TE_HSRC] ++
  [DSP.TE_DELAY, DSP.TE_TIMEOUT, DSP.COMMIT, DSP.APPLIED_SEQ, DSP.PENDING, DSP.LAST_LATE, DSP.FRAME_CNT, DSP.UNDERRUN_CNT, DSP.TE_MISS_CNT, DSP.TE_LATE_CNT, DSP.TE_EARLY_CNT, DSP.FETCH_SKIP] ++
  [DSP.RELOCK_CNT, DSP.L_EN, DSP.L3_EN, DSP.L_OPAQUE, DSP.L_SRC, DSP.L_FMT, DSP.L_CONT16, DSP.L_CHROMA, DSP.L_DEPTH, DSP.L_RANGE, DSP.L_GALPHA, DSP.L_X, DSP.L_Y] ++
  [DSP.L_W, DSP.L_H, DSP.L_KR, DSP.L_KB, DSP.L_ADDR_LO, DSP.L_ADDR_HI, DSP.L_PITCH, DSP.L_REPEAT_CNT, DSP.L_DROP_CNT, DSP.L_MISMATCH_CNT, DSP.L_STREAM_LATE_CNT, DSP.L_LATCHED_CID] ++
  [DSP.PAL, DSP.M_X0, DSP.M_Y0, DSP.M_X1, DSP.M_Y1, DSP.M_COLOUR, DSP.M_THICK, DSP.M_EN, DSP.F_EN, DSP.F_SRC, DSP.F_FORMAT, DSP.F_HEAD] ++
  [DSP.F_COLOUR, DSP.F_WIDTH, DSP.F_HEIGHT, DSP.F_FPS_NUM, DSP.F_FPS_DEN, DSP.F_FEED_DROP_CNT]

def SDI.FORMAT : Fld := { off := 0x100, lo := 0, width := 3, acc := .rwq, cls := .c, rst := 0x3 }
def SDI.RATE : Fld := { off := 0x100, lo := 4, width := 3, acc := .rwq, cls := .c, rst := 0x7 }
def SDI.PID_EN : Fld := { off := 0x100, lo := 8, width := 1, acc := .rwq, cls := .c, rst := 0x1 }
def SDI.TX_ACTIVE : Fld := { off := 0x104, lo := 0, width := 1, acc := .ro, cls := .a }
def SDI.BLACK : Fld := { off := 0x104, lo := 1, width := 1, acc := .ro, cls := .a }
def SDI.FRAMES : Fld := { off := 0x108, lo := 0, width := 32, acc := .ro, cls := .a, wrap := true }

/-- Every field of a SDI page. -/
def SDI.all : List Fld :=
  [SDI.FORMAT, SDI.RATE, SDI.PID_EN, SDI.TX_ACTIVE, SDI.BLACK, SDI.FRAMES]

def DPX.LINK_RATE : Fld := { off := 0x100, lo := 0, width := 3, acc := .rw, cls := .c }
def DPX.LANES : Fld := { off := 0x100, lo := 4, width := 2, acc := .rw, cls := .c, rst := 0x2 }
def DPX.MST : Fld := { off := 0x100, lo := 8, width := 1, acc := .rw, cls := .c }
def DPX.HPD : Fld := { off := 0x104, lo := 0, width := 1, acc := .ro, cls := .a }
def DPX.TRAINED : Fld := { off := 0x104, lo := 1, width := 1, acc := .ro, cls := .a }
def DPX.RATE_TRAINED : Fld := { off := 0x104, lo := 2, width := 3, acc := .ro, cls := .a }
def DPX.LANES_TRAINED : Fld := { off := 0x104, lo := 5, width := 2, acc := .ro, cls := .a }
def DPX.ASYNC_CAP : Fld := { off := 0x104, lo := 7, width := 1, acc := .ro, cls := .a }
def DPX.TRAIN_FAIL_CNT : Fld := { off := 0x108, lo := 0, width := 16, acc := .rc, cls := .c }
def DPX.HPD_CNT : Fld := { off := 0x108, lo := 16, width := 16, acc := .rc, cls := .c }
def DPX.AUX_ADDR : Fld := { off := 0x10C, lo := 0, width := 20, acc := .rw, cls := .c }
def DPX.AUX_LEN : Fld := { off := 0x10C, lo := 24, width := 4, acc := .rw, cls := .c }
def DPX.AUX_READ : Fld := { off := 0x10C, lo := 28, width := 1, acc := .rw, cls := .c }
def DPX.AUX_GO : Fld := { off := 0x10C, lo := 31, width := 1, acc := .wo, cls := .a }
def DPX.AUX_DATA : Fld := { off := 0x110, lo := 0, width := 32, acc := .rw, cls := .a, cnt := 4, st := 0x4 }
def DPX.AUX_DONE : Fld := { off := 0x120, lo := 0, width := 1, acc := .ro, cls := .a }
def DPX.AUX_RESULT : Fld := { off := 0x120, lo := 1, width := 2, acc := .ro, cls := .a }
def DPX.HDR_SMD : Fld := { off := 0x140, lo := 0, width := 32, acc := .rwq, cls := .c, cnt := 4, st := 0x20, cnt2 := 6, st2 := 0x4 }
def DPX.HDR_SMD_LAST : Fld := { off := 0x158, lo := 0, width := 16, acc := .rwq, cls := .c, cnt := 4, st := 0x20 }
def DPX.HDR_EN : Fld := { off := 0x15C, lo := 0, width := 1, acc := .rwq, cls := .c, cnt := 4, st := 0x20 }

/-- Every field of a DPX page. -/
def DPX.all : List Fld :=
  [DPX.LINK_RATE, DPX.LANES, DPX.MST, DPX.HPD, DPX.TRAINED, DPX.RATE_TRAINED, DPX.LANES_TRAINED, DPX.ASYNC_CAP, DPX.TRAIN_FAIL_CNT, DPX.HPD_CNT, DPX.AUX_ADDR, DPX.AUX_LEN] ++
  [DPX.AUX_READ, DPX.AUX_GO, DPX.AUX_DATA, DPX.AUX_DONE, DPX.AUX_RESULT, DPX.HDR_SMD, DPX.HDR_SMD_LAST, DPX.HDR_EN]

def HIF.SPEED : Fld := { off := 0x100, lo := 0, width := 3, acc := .ro, cls := .a }
def HIF.WIDTH : Fld := { off := 0x100, lo := 4, width := 5, acc := .ro, cls := .a }
def HIF.FLIT : Fld := { off := 0x100, lo := 16, width := 1, acc := .ro, cls := .a }
def HIF.CORR_CNT : Fld := { off := 0x104, lo := 0, width := 16, acc := .rc, cls := .d }
def HIF.RETRAIN_CNT : Fld := { off := 0x104, lo := 16, width := 16, acc := .rc, cls := .d }
def HIF.NUM_VFS : Fld := { off := 0x108, lo := 0, width := 6, acc := .ro, cls := .a }
def HIF.MSIX_TOTAL : Fld := { off := 0x108, lo := 16, width := 14, acc := .ro, cls := .c, rst := 0x800 }
def HIF.ASQ_ADDR_LO : Fld := { off := 0x400, lo := 0, width := 32, acc := .rw, cls := .b, cnt := 16, st := 0x40, pair := .low }
def HIF.ASQ_ADDR_HI : Fld := { off := 0x404, lo := 0, width := 32, acc := .rw, cls := .b, cnt := 16, st := 0x40, pair := .high }
def HIF.ACQ_ADDR_LO : Fld := { off := 0x408, lo := 0, width := 32, acc := .rw, cls := .b, cnt := 16, st := 0x40, pair := .low }
def HIF.ACQ_ADDR_HI : Fld := { off := 0x40C, lo := 0, width := 32, acc := .rw, cls := .b, cnt := 16, st := 0x40, pair := .high }
def HIF.ASQ_DEPTH : Fld := { off := 0x410, lo := 0, width := 16, acc := .rw, cls := .b, rst := 0x3F, cnt := 16, st := 0x40 }
def HIF.ACQ_DEPTH : Fld := { off := 0x410, lo := 16, width := 16, acc := .rw, cls := .b, rst := 0x3F, cnt := 16, st := 0x40 }
def HIF.ENABLE : Fld := { off := 0x414, lo := 0, width := 1, acc := .rw, cls := .b, cnt := 16, st := 0x40 }
def HIF.READY : Fld := { off := 0x414, lo := 1, width := 1, acc := .ro, cls := .b, cnt := 16, st := 0x40 }
def HIF.REFUSED : Fld := { off := 0x414, lo := 2, width := 1, acc := .ro, cls := .b, cnt := 16, st := 0x40 }
def HIF.MSIX_SIZE : Fld := { off := 0x418, lo := 0, width := 12, acc := .ro, cls := .c, cnt := 16, st := 0x40 }
def HIF.FLR_CNT : Fld := { off := 0x41C, lo := 0, width := 16, acc := .rc, cls := .c, cnt := 16, st := 0x40 }

/-- Every field of a HIF page. -/
def HIF.all : List Fld :=
  [HIF.SPEED, HIF.WIDTH, HIF.FLIT, HIF.CORR_CNT, HIF.RETRAIN_CNT, HIF.NUM_VFS, HIF.MSIX_TOTAL, HIF.ASQ_ADDR_LO, HIF.ASQ_ADDR_HI, HIF.ACQ_ADDR_LO, HIF.ACQ_ADDR_HI, HIF.ASQ_DEPTH] ++
  [HIF.ACQ_DEPTH, HIF.ENABLE, HIF.READY, HIF.REFUSED, HIF.MSIX_SIZE, HIF.FLR_CNT]

def QMG.QUOTA : Fld := { off := 0x400, lo := 0, width := 16, acc := .ro, cls := .n, rst := 0x100, cnt := 32, st := 0x20 }
def QMG.IN_USE : Fld := { off := 0x400, lo := 16, width := 16, acc := .ro, cls := .b, cnt := 32, st := 0x20 }
def QMG.OUTSTANDING : Fld := { off := 0x404, lo := 0, width := 32, acc := .ro, cls := .a, cnt := 32, st := 0x20 }
def QMG.ASN_NEXT_LO : Fld := { off := 0x408, lo := 0, width := 32, acc := .ro, cls := .n, cnt := 32, st := 0x20, pair := .low }
def QMG.ASN_NEXT_HI : Fld := { off := 0x40C, lo := 0, width := 32, acc := .ro, cls := .n, cnt := 32, st := 0x20, pair := .high }
def QMG.FETCH_CNT : Fld := { off := 0x410, lo := 0, width := 32, acc := .ro, cls := .a, cnt := 32, st := 0x20, wrap := true }
def QMG.DB_INVALID_CNT : Fld := { off := 0x414, lo := 0, width := 16, acc := .rc, cls := .c, cnt := 32, st := 0x20 }
def QMG.CQ_HOLD_CNT : Fld := { off := 0x414, lo := 16, width := 16, acc := .rc, cls := .c, cnt := 32, st := 0x20 }
def QMG.SESSIONS : Fld := { off := 0x418, lo := 0, width := 11, acc := .ro, cls := .a, cnt := 32, st := 0x20 }
def QMG.QUEUE_FAILED : Fld := { off := 0x418, lo := 16, width := 1, acc := .ro, cls := .b, cnt := 32, st := 0x20 }

/-- Every field of a QMG page. -/
def QMG.all : List Fld :=
  [QMG.QUOTA, QMG.IN_USE, QMG.OUTSTANDING, QMG.ASN_NEXT_LO, QMG.ASN_NEXT_HI, QMG.FETCH_CNT, QMG.DB_INVALID_CNT, QMG.CQ_HOLD_CNT, QMG.SESSIONS, QMG.QUEUE_FAILED]

def RLK.IN_USE : Fld := { off := 0x100, lo := 0, width := 15, acc := .ro, cls := .a }
def RLK.PEAK : Fld := { off := 0x100, lo := 16, width := 15, acc := .rc, cls := .c }
def RLK.WAIT_CNT : Fld := { off := 0x104, lo := 0, width := 32, acc := .ro, cls := .a, wrap := true }
def RLK.FULL_STALL_CNT : Fld := { off := 0x108, lo := 0, width := 16, acc := .rc, cls := .c }
def RLK.QUOTA : Fld := { off := 0x400, lo := 0, width := 15, acc := .ro, cls := .n, rst := 0x80, cnt := 128, st := 0x4 }
def RLK.USED : Fld := { off := 0x400, lo := 16, width := 15, acc := .ro, cls := .a, cnt := 128, st := 0x4 }

/-- Every field of a RLK page. -/
def RLK.all : List Fld :=
  [RLK.IN_USE, RLK.PEAK, RLK.WAIT_CNT, RLK.FULL_STALL_CNT, RLK.QUOTA, RLK.USED]

end Sys2Proof.Reg
end

