-- ==== Sys2Proof/Machine/RegistersD.lean ====
section
/-! DEFINITION. Register fields of the pages: network, time, position, memory, board.
One descriptor per field of the register tables of spec/ (offset, bits, access, reset, class), under the
manual's page and field names; arrays carry count and stride. A 64-bit register is two descriptors (R31). -/

namespace Sys2Proof.Reg

def NETP.BREAKOUT : Fld := { off := 0x100, lo := 0, width := 2, acc := .rw, cls := .c }
def NETP.LINK_UP : Fld := { off := 0x104, lo := 0, width := 4, acc := .ro, cls := .a }
def NETP.RCT_PORT : Fld := { off := 0x108, lo := 0, width := 16, acc := .rw, cls := .c, rst := 0x1BF8 }
def NETP.RCT_RTO_US : Fld := { off := 0x10C, lo := 0, width := 16, acc := .rw, cls := .c, rst := 0x7D0 }
def NETP.SESSION_TIMEOUT_MS : Fld := { off := 0x10C, lo := 16, width := 16, acc := .rw, cls := .c, rst := 0x3E8 }
def NETP.RESPONSE_HOLD_MS : Fld := { off := 0x110, lo := 0, width := 16, acc := .rw, cls := .c, rst := 0x2710 }
def NETP.MAC_FAIL_CNT : Fld := { off := 0x114, lo := 0, width := 16, acc := .rc, cls := .c }
def NETP.AUTH_FAIL_CNT : Fld := { off := 0x114, lo := 16, width := 16, acc := .rc, cls := .c }
def NETP.RETX_CNT : Fld := { off := 0x118, lo := 0, width := 32, acc := .ro, cls := .c, wrap := true }
def NETP.FCS_ERR_CNT : Fld := { off := 0x11C, lo := 0, width := 32, acc := .rc, cls := .d }
def NETP.MAC_LO : Fld := { off := 0x200, lo := 0, width := 32, acc := .rw, cls := .c, cnt := 4, st := 0x40, pair := .low }
def NETP.MAC_HI : Fld := { off := 0x204, lo := 0, width := 16, acc := .rw, cls := .c, cnt := 4, st := 0x40, pair := .high }
def NETP.VLAN : Fld := { off := 0x208, lo := 0, width := 12, acc := .rw, cls := .c, cnt := 4, st := 0x40 }
def NETP.VLAN_EN : Fld := { off := 0x208, lo := 15, width := 1, acc := .rw, cls := .c, cnt := 4, st := 0x40 }
def NETP.V4_PREFIX : Fld := { off := 0x208, lo := 16, width := 8, acc := .rw, cls := .c, rst := 0x18, cnt := 4, st := 0x40 }
def NETP.V6_PREFIX : Fld := { off := 0x208, lo := 24, width := 8, acc := .rw, cls := .c, rst := 0x40, cnt := 4, st := 0x40 }
def NETP.IPV4 : Fld := { off := 0x20C, lo := 0, width := 32, acc := .rw, cls := .c, cnt := 4, st := 0x40 }
def NETP.IPV4_GW : Fld := { off := 0x210, lo := 0, width := 32, acc := .rw, cls := .c, cnt := 4, st := 0x40 }
def NETP.IPV6 : Fld := { off := 0x220, lo := 0, width := 32, acc := .rw, cls := .c, cnt := 4, st := 0x40, cnt2 := 4, st2 := 0x4 }

/-- Every field of a NETP page. -/
def NETP.all : List Fld :=
  [NETP.BREAKOUT, NETP.LINK_UP, NETP.RCT_PORT, NETP.RCT_RTO_US, NETP.SESSION_TIMEOUT_MS, NETP.RESPONSE_HOLD_MS, NETP.MAC_FAIL_CNT, NETP.AUTH_FAIL_CNT, NETP.RETX_CNT, NETP.FCS_ERR_CNT, NETP.MAC_LO, NETP.MAC_HI] ++
  [NETP.VLAN, NETP.VLAN_EN, NETP.V4_PREFIX, NETP.V6_PREFIX, NETP.IPV4, NETP.IPV4_GW, NETP.IPV6]

def NETF.EN : Fld := { off := 0x400, lo := 0, width := 1, acc := .rw, cls := .c, cnt := 24, st := 0x40 }
def NETF.DUAL : Fld := { off := 0x400, lo := 1, width := 1, acc := .rw, cls := .c, cnt := 24, st := 0x40 }
def NETF.ANC : Fld := { off := 0x400, lo := 2, width := 1, acc := .rw, cls := .c, cnt := 24, st := 0x40 }
def NETF.TPW : Fld := { off := 0x400, lo := 3, width := 1, acc := .rw, cls := .c, cnt := 24, st := 0x40 }
def NETF.FORMAT : Fld := { off := 0x400, lo := 4, width := 4, acc := .rw, cls := .c, cnt := 24, st := 0x40 }
def NETF.PORT_A : Fld := { off := 0x400, lo := 8, width := 1, acc := .rw, cls := .c, cnt := 24, st := 0x40 }
def NETF.SUBIF_A : Fld := { off := 0x400, lo := 10, width := 2, acc := .rw, cls := .c, cnt := 24, st := 0x40 }
def NETF.SUBIF_B : Fld := { off := 0x400, lo := 12, width := 2, acc := .rw, cls := .c, cnt := 24, st := 0x40 }
def NETF.WIDTH : Fld := { off := 0x404, lo := 0, width := 16, acc := .rw, cls := .c, rst := 0x780, cnt := 24, st := 0x40 }
def NETF.HEIGHT : Fld := { off := 0x404, lo := 16, width := 16, acc := .rw, cls := .c, rst := 0x438, cnt := 24, st := 0x40 }
def NETF.FPS_NUM : Fld := { off := 0x408, lo := 0, width := 32, acc := .rw, cls := .c, rst := 0x3C, cnt := 24, st := 0x40 }
def NETF.FPS_DEN : Fld := { off := 0x40C, lo := 0, width := 32, acc := .rw, cls := .c, rst := 0x1, cnt := 24, st := 0x40 }
def NETF.PT : Fld := { off := 0x410, lo := 0, width := 7, acc := .rw, cls := .c, rst := 0x60, cnt := 24, st := 0x40 }
def NETF.PT_ANC : Fld := { off := 0x410, lo := 8, width := 7, acc := .rw, cls := .c, rst := 0x64, cnt := 24, st := 0x40 }
def NETF.PKT_BYTES : Fld := { off := 0x410, lo := 16, width := 16, acc := .rw, cls := .c, rst := 0x4B0, cnt := 24, st := 0x40 }
def NETF.SSRC : Fld := { off := 0x414, lo := 0, width := 32, acc := .rw, cls := .c, cnt := 24, st := 0x40 }
def NETF.DST_A : Fld := { off := 0x418, lo := 0, width := 32, acc := .rw, cls := .c, cnt := 24, st := 0x40 }
def NETF.DST_B : Fld := { off := 0x41C, lo := 0, width := 32, acc := .rw, cls := .c, cnt := 24, st := 0x40 }
def NETF.UDP_A : Fld := { off := 0x420, lo := 0, width := 16, acc := .rw, cls := .c, rst := 0x138C, cnt := 24, st := 0x40 }
def NETF.UDP_B : Fld := { off := 0x420, lo := 16, width := 16, acc := .rw, cls := .c, rst := 0x138C, cnt := 24, st := 0x40 }
def NETF.DSCP : Fld := { off := 0x424, lo := 0, width := 6, acc := .rw, cls := .c, rst := 0x22, cnt := 24, st := 0x40 }
def NETF.TTL : Fld := { off := 0x424, lo := 8, width := 8, acc := .rw, cls := .c, rst := 0x40, cnt := 24, st := 0x40 }
def NETF.PKT_CNT : Fld := { off := 0x428, lo := 0, width := 32, acc := .ro, cls := .a, cnt := 24, st := 0x40, wrap := true }
def NETF.GIVEUP_CNT : Fld := { off := 0x42C, lo := 0, width := 16, acc := .rc, cls := .c, cnt := 24, st := 0x40 }
def NETF.LATE_CNT : Fld := { off := 0x42C, lo := 16, width := 16, acc := .rc, cls := .c, cnt := 24, st := 0x40 }
def NETF.RATE_MBPS : Fld := { off := 0x430, lo := 0, width := 32, acc := .ro, cls := .c, cnt := 24, st := 0x40 }

/-- Every field of a NETF page. -/
def NETF.all : List Fld :=
  [NETF.EN, NETF.DUAL, NETF.ANC, NETF.TPW, NETF.FORMAT, NETF.PORT_A, NETF.SUBIF_A, NETF.SUBIF_B, NETF.WIDTH, NETF.HEIGHT, NETF.FPS_NUM, NETF.FPS_DEN] ++
  [NETF.PT, NETF.PT_ANC, NETF.PKT_BYTES, NETF.SSRC, NETF.DST_A, NETF.DST_B, NETF.UDP_A, NETF.UDP_B, NETF.DSCP, NETF.TTL, NETF.PKT_CNT, NETF.GIVEUP_CNT] ++
  [NETF.LATE_CNT, NETF.RATE_MBPS]

def PTP.TIME_NS : Fld := { off := 0x100, lo := 0, width := 32, acc := .ro, cls := .d }
def PTP.TIME_SEC_LO : Fld := { off := 0x104, lo := 0, width := 32, acc := .ro, cls := .d, pair := .low }
def PTP.TIME_SEC_HI : Fld := { off := 0x108, lo := 0, width := 16, acc := .ro, cls := .d, pair := .high }
def PTP.SET_NS : Fld := { off := 0x10C, lo := 0, width := 32, acc := .rw, cls := .c }
def PTP.SET_SEC_LO : Fld := { off := 0x110, lo := 0, width := 32, acc := .rw, cls := .c, pair := .low }
def PTP.SET_SEC_HI : Fld := { off := 0x114, lo := 0, width := 16, acc := .rw, cls := .c, pair := .high }
def PTP.SET_GO : Fld := { off := 0x118, lo := 0, width := 1, acc := .wo, cls := .a }
def PTP.ADJ_GO : Fld := { off := 0x118, lo := 1, width := 1, acc := .wo, cls := .a }
def PTP.ADJ_NS_LO : Fld := { off := 0x120, lo := 0, width := 32, acc := .rw, cls := .c, pair := .low }
def PTP.ADJ_NS_HI : Fld := { off := 0x124, lo := 0, width := 32, acc := .rw, cls := .c, pair := .high }
def PTP.ADJ_FRAC : Fld := { off := 0x128, lo := 0, width := 32, acc := .rw, cls := .c }
def PTP.ING_ASYM_PS : Fld := { off := 0x12C, lo := 0, width := 16, acc := .rw, cls := .c }
def PTP.EGR_ASYM_PS : Fld := { off := 0x12C, lo := 16, width := 16, acc := .rw, cls := .c }
def PTP.TB_DIFF_NS_LO : Fld := { off := 0x130, lo := 0, width := 32, acc := .ro, cls := .d, pair := .low }
def PTP.TB_DIFF_NS_HI : Fld := { off := 0x134, lo := 0, width := 32, acc := .ro, cls := .d, pair := .high }
def PTP.TB_DIFF_FRAC : Fld := { off := 0x138, lo := 0, width := 32, acc := .ro, cls := .d }
def PTP.RX_VALID : Fld := { off := 0x140, lo := 0, width := 1, acc := .ro, cls := .a }
def PTP.RX_SUBIF : Fld := { off := 0x140, lo := 1, width := 2, acc := .ro, cls := .a }
def PTP.RX_DEPTH : Fld := { off := 0x140, lo := 8, width := 7, acc := .ro, cls := .a }
def PTP.RX_LEN : Fld := { off := 0x140, lo := 16, width := 16, acc := .ro, cls := .a }
def PTP.RX_TS_NS : Fld := { off := 0x144, lo := 0, width := 32, acc := .ro, cls := .a }
def PTP.RX_TS_SEC_LO : Fld := { off := 0x148, lo := 0, width := 32, acc := .ro, cls := .a }
def PTP.RX_TS_SEC_HI : Fld := { off := 0x14C, lo := 0, width := 16, acc := .ro, cls := .a }
def PTP.RX_TS_FRAC : Fld := { off := 0x14C, lo := 16, width := 16, acc := .ro, cls := .a }
def PTP.RX_POP : Fld := { off := 0x150, lo := 0, width := 1, acc := .wo, cls := .a }
def PTP.TX_LEN : Fld := { off := 0x160, lo := 0, width := 9, acc := .rw, cls := .c }
def PTP.TX_SUBIF : Fld := { off := 0x160, lo := 12, width := 2, acc := .rw, cls := .c }
def PTP.TX_TAG : Fld := { off := 0x160, lo := 16, width := 8, acc := .rw, cls := .c }
def PTP.TX_GO : Fld := { off := 0x160, lo := 31, width := 1, acc := .wo, cls := .a }
def PTP.BUSY : Fld := { off := 0x164, lo := 0, width := 1, acc := .ro, cls := .a }
def PTP.TS_VALID : Fld := { off := 0x164, lo := 1, width := 1, acc := .ro, cls := .a }
def PTP.TS_TAG : Fld := { off := 0x164, lo := 8, width := 8, acc := .ro, cls := .a }
def PTP.TX_TS_NS : Fld := { off := 0x168, lo := 0, width := 32, acc := .ro, cls := .a }
def PTP.TX_TS_SEC_LO : Fld := { off := 0x16C, lo := 0, width := 32, acc := .ro, cls := .a }
def PTP.TX_TS_SEC_HI : Fld := { off := 0x170, lo := 0, width := 16, acc := .ro, cls := .a }
def PTP.TX_TS_FRAC : Fld := { off := 0x170, lo := 16, width := 16, acc := .ro, cls := .a }
def PTP.TS_POP : Fld := { off := 0x174, lo := 0, width := 1, acc := .wo, cls := .a }
def PTP.RX_OVF_CNT : Fld := { off := 0x178, lo := 0, width := 16, acc := .rc, cls := .c }
def PTP.TX_TS_OVF_CNT : Fld := { off := 0x178, lo := 16, width := 16, acc := .rc, cls := .c }
def PTP.RX_DATA : Fld := { off := 0x400, lo := 0, width := 32, acc := .ro, cls := .a, cnt := 64, st := 0x4 }
def PTP.TX_DATA : Fld := { off := 0x600, lo := 0, width := 32, acc := .rw, cls := .a, cnt := 64, st := 0x4 }

/-- Every field of a PTP page. -/
def PTP.all : List Fld :=
  [PTP.TIME_NS, PTP.TIME_SEC_LO, PTP.TIME_SEC_HI, PTP.SET_NS, PTP.SET_SEC_LO, PTP.SET_SEC_HI, PTP.SET_GO, PTP.ADJ_GO, PTP.ADJ_NS_LO, PTP.ADJ_NS_HI, PTP.ADJ_FRAC, PTP.ING_ASYM_PS] ++
  [PTP.EGR_ASYM_PS, PTP.TB_DIFF_NS_LO, PTP.TB_DIFF_NS_HI, PTP.TB_DIFF_FRAC, PTP.RX_VALID, PTP.RX_SUBIF, PTP.RX_DEPTH, PTP.RX_LEN, PTP.RX_TS_NS, PTP.RX_TS_SEC_LO, PTP.RX_TS_SEC_HI, PTP.RX_TS_FRAC] ++
  [PTP.RX_POP, PTP.TX_LEN, PTP.TX_SUBIF, PTP.TX_TAG, PTP.TX_GO, PTP.BUSY, PTP.TS_VALID, PTP.TS_TAG, PTP.TX_TS_NS, PTP.TX_TS_SEC_LO, PTP.TX_TS_SEC_HI, PTP.TX_TS_FRAC] ++
  [PTP.TS_POP, PTP.RX_OVF_CNT, PTP.TX_TS_OVF_CNT, PTP.RX_DATA, PTP.TX_DATA]

def TMB.NOW_NS_LO : Fld := { off := 0x100, lo := 0, width := 32, acc := .ro, cls := .d, pair := .low }
def TMB.NOW_NS_HI : Fld := { off := 0x104, lo := 0, width := 32, acc := .ro, cls := .d, pair := .high }
def TMB.NOW_FRAC : Fld := { off := 0x108, lo := 0, width := 32, acc := .ro, cls := .d }
def TMB.INCR_LO : Fld := { off := 0x110, lo := 0, width := 32, acc := .rw, cls := .d, rst := 0x40000000, pair := .low }
def TMB.INCR_HI : Fld := { off := 0x114, lo := 0, width := 32, acc := .rw, cls := .d, rst := 0x1, pair := .high }
def TMB.STEP_NS_LO : Fld := { off := 0x118, lo := 0, width := 32, acc := .rw, cls := .c, pair := .low }
def TMB.STEP_NS_HI : Fld := { off := 0x11C, lo := 0, width := 32, acc := .rw, cls := .c, pair := .high }
def TMB.STEP_FRAC : Fld := { off := 0x120, lo := 0, width := 32, acc := .rw, cls := .c }
def TMB.GO : Fld := { off := 0x124, lo := 0, width := 1, acc := .wo, cls := .a }
def TMB.ARM : Fld := { off := 0x124, lo := 1, width := 1, acc := .w1s, cls := .a }
def TMB.ARMED : Fld := { off := 0x124, lo := 2, width := 1, acc := .ro, cls := .a }
def TMB.BUSY : Fld := { off := 0x124, lo := 3, width := 1, acc := .ro, cls := .a }
def TMB.REFUSED : Fld := { off := 0x124, lo := 8, width := 1, acc := .w1c, cls := .c }
def TMB.STEP_LIMIT : Fld := { off := 0x128, lo := 0, width := 32, acc := .rw, cls := .c, rst := 0x3E8 }
def TMB.STATE : Fld := { off := 0x12C, lo := 0, width := 1, acc := .rw, cls := .c }
def TMB.STEP_CNT : Fld := { off := 0x130, lo := 0, width := 16, acc := .rc, cls := .c }
def TMB.REFUSED_CNT : Fld := { off := 0x130, lo := 16, width := 16, acc := .rc, cls := .c }
def TMB.PPS_OUT_EN : Fld := { off := 0x140, lo := 0, width := 1, acc := .rw, cls := .c }
def TMB.PPS_W_US : Fld := { off := 0x140, lo := 8, width := 24, acc := .rw, cls := .c, rst := 0x186A0 }
def TMB.PPS_IN_NS_LO : Fld := { off := 0x144, lo := 0, width := 32, acc := .ro, cls := .a, pair := .low }
def TMB.PPS_IN_NS_HI : Fld := { off := 0x148, lo := 0, width := 32, acc := .ro, cls := .a, pair := .high }
def TMB.PPS_IN_CNT : Fld := { off := 0x14C, lo := 0, width := 32, acc := .ro, cls := .a, wrap := true }
def TMB.TLS_LINES : Fld := { off := 0x150, lo := 0, width := 11, acc := .rw, cls := .c, rst := 0x465 }
def TMB.TLS_LOCK : Fld := { off := 0x150, lo := 16, width := 1, acc := .ro, cls := .a }
def TMB.TLS_PERIOD : Fld := { off := 0x154, lo := 0, width := 32, acc := .ro, cls := .a }
def TMB.TLS_LAST_NS_LO : Fld := { off := 0x158, lo := 0, width := 32, acc := .ro, cls := .a, pair := .low }
def TMB.TLS_LAST_NS_HI : Fld := { off := 0x15C, lo := 0, width := 32, acc := .ro, cls := .a, pair := .high }
def TMB.SCHED_LEAD_US : Fld := { off := 0x160, lo := 0, width := 16, acc := .rw, cls := .c, rst := 0x7D0 }
def TMB.PTP_REF : Fld := { off := 0x160, lo := 16, width := 1, acc := .rw, cls := .c }
def TMB.CAD : Fld := { off := 0x800, lo := 0, width := 4, acc := .rw, cls := .c, cnt := 256, st := 0x8 }
def TMB.VALID : Fld := { off := 0x800, lo := 8, width := 1, acc := .rw, cls := .c, cnt := 256, st := 0x8 }
def TMB.EXP_OFS_NS : Fld := { off := 0x804, lo := 0, width := 32, acc := .rw, cls := .c, cnt := 256, st := 0x8 }
def TMB.C_EN : Fld := { off := 0x400, lo := 0, width := 1, acc := .rw, cls := .c, cnt := 16, st := 0x40 }
def TMB.C_SRC : Fld := { off := 0x400, lo := 1, width := 1, acc := .rw, cls := .c, cnt := 16, st := 0x40 }
def TMB.C_TRIG_WAIT : Fld := { off := 0x400, lo := 2, width := 1, acc := .rw, cls := .c, cnt := 16, st := 0x40 }
def TMB.C_WAITING : Fld := { off := 0x400, lo := 8, width := 1, acc := .ro, cls := .a, cnt := 16, st := 0x40 }
def TMB.C_HOLDOVER : Fld := { off := 0x400, lo := 9, width := 1, acc := .ro, cls := .a, cnt := 16, st := 0x40 }
def TMB.C_PERIOD_NUM : Fld := { off := 0x404, lo := 0, width := 32, acc := .rw, cls := .c, rst := 0x3E9, cnt := 16, st := 0x40 }
def TMB.C_PERIOD_DEN : Fld := { off := 0x408, lo := 0, width := 32, acc := .rw, cls := .c, rst := 0xEA60, cnt := 16, st := 0x40 }
def TMB.C_OFFSET_FRAC : Fld := { off := 0x40C, lo := 0, width := 32, acc := .rw, cls := .c, cnt := 16, st := 0x40 }
def TMB.C_OFFSET_NS_LO : Fld := { off := 0x410, lo := 0, width := 32, acc := .rw, cls := .c, cnt := 16, st := 0x40, pair := .low }
def TMB.C_OFFSET_NS_HI : Fld := { off := 0x414, lo := 0, width := 32, acc := .rw, cls := .c, cnt := 16, st := 0x40, pair := .high }
def TMB.C_BURST : Fld := { off := 0x418, lo := 0, width := 32, acc := .rw, cls := .c, cnt := 16, st := 0x40 }
def TMB.C_TRIG_LEAD_US : Fld := { off := 0x41C, lo := 0, width := 16, acc := .rw, cls := .c, rst := 0x3E8, cnt := 16, st := 0x40 }
def TMB.C_NEXT_NS_LO : Fld := { off := 0x420, lo := 0, width := 32, acc := .ro, cls := .a, cnt := 16, st := 0x40, pair := .low }
def TMB.C_NEXT_NS_HI : Fld := { off := 0x424, lo := 0, width := 32, acc := .ro, cls := .a, cnt := 16, st := 0x40, pair := .high }
def TMB.C_NEXT_FRAC : Fld := { off := 0x428, lo := 0, width := 32, acc := .ro, cls := .a, cnt := 16, st := 0x40 }
def TMB.C_TAKEN_CNT : Fld := { off := 0x42C, lo := 0, width := 32, acc := .ro, cls := .a, cnt := 16, st := 0x40, wrap := true }
def TMB.C_SKIP_CNT : Fld := { off := 0x430, lo := 0, width := 16, acc := .rc, cls := .c, cnt := 16, st := 0x40 }
def TMB.C_TRIG_IGN_CNT : Fld := { off := 0x430, lo := 16, width := 16, acc := .rc, cls := .c, cnt := 16, st := 0x40 }

/-- Every field of a TMB page. -/
def TMB.all : List Fld :=
  [TMB.NOW_NS_LO, TMB.NOW_NS_HI, TMB.NOW_FRAC, TMB.INCR_LO, TMB.INCR_HI, TMB.STEP_NS_LO, TMB.STEP_NS_HI, TMB.STEP_FRAC, TMB.GO, TMB.ARM, TMB.ARMED, TMB.BUSY] ++
  [TMB.REFUSED, TMB.STEP_LIMIT, TMB.STATE, TMB.STEP_CNT, TMB.REFUSED_CNT, TMB.PPS_OUT_EN, TMB.PPS_W_US, TMB.PPS_IN_NS_LO, TMB.PPS_IN_NS_HI, TMB.PPS_IN_CNT, TMB.TLS_LINES, TMB.TLS_LOCK] ++
  [TMB.TLS_PERIOD, TMB.TLS_LAST_NS_LO, TMB.TLS_LAST_NS_HI, TMB.SCHED_LEAD_US, TMB.PTP_REF, TMB.CAD, TMB.VALID, TMB.EXP_OFS_NS, TMB.C_EN, TMB.C_SRC, TMB.C_TRIG_WAIT, TMB.C_WAITING] ++
  [TMB.C_HOLDOVER, TMB.C_PERIOD_NUM, TMB.C_PERIOD_DEN, TMB.C_OFFSET_FRAC, TMB.C_OFFSET_NS_LO, TMB.C_OFFSET_NS_HI, TMB.C_BURST, TMB.C_TRIG_LEAD_US, TMB.C_NEXT_NS_LO, TMB.C_NEXT_NS_HI, TMB.C_NEXT_FRAC, TMB.C_TAKEN_CNT] ++
  [TMB.C_SKIP_CNT, TMB.C_TRIG_IGN_CNT]

def PFB.MODE : Fld := { off := 0x100, lo := 0, width := 2, acc := .rw, cls := .c }
def PFB.INVERT : Fld := { off := 0x100, lo := 2, width := 1, acc := .rw, cls := .c }
def PFB.FILTER : Fld := { off := 0x100, lo := 8, width := 8, acc := .rw, cls := .c }
def PFB.Z_MODE : Fld := { off := 0x100, lo := 16, width := 2, acc := .rw, cls := .c }
def PFB.SPD_AVG : Fld := { off := 0x100, lo := 24, width := 7, acc := .rw, cls := .c, rst := 0x8 }
def PFB.COUNTS_PER_REV : Fld := { off := 0x104, lo := 0, width := 32, acc := .rw, cls := .c }
def PFB.Z_VALUE : Fld := { off := 0x108, lo := 0, width := 32, acc := .rw, cls := .c }
def PFB.SSI_BITS : Fld := { off := 0x10C, lo := 0, width := 6, acc := .rw, cls := .c, rst := 0x19 }
def PFB.ST_BITS : Fld := { off := 0x10C, lo := 8, width := 6, acc := .rw, cls := .c, rst := 0xD }
def PFB.GRAY : Fld := { off := 0x10C, lo := 16, width := 1, acc := .rw, cls := .c, rst := 0x1 }
def PFB.SSI_KHZ : Fld := { off := 0x10C, lo := 20, width := 12, acc := .rw, cls := .c, rst := 0x3E8 }
def PFB.SSI_PERIOD_US : Fld := { off := 0x110, lo := 0, width := 16, acc := .rw, cls := .c, rst := 0x64 }
def PFB.ZERO_MS : Fld := { off := 0x110, lo := 16, width := 16, acc := .rw, cls := .c, rst := 0x64 }
def PFB.HIST_US : Fld := { off := 0x114, lo := 0, width := 10, acc := .rw, cls := .c, rst := 0x40 }
def PFB.POS_SET : Fld := { off := 0x118, lo := 0, width := 32, acc := .rw, cls := .c, pair := .low }
def PFB.REV_SET : Fld := { off := 0x11C, lo := 0, width := 32, acc := .rw, cls := .c, pair := .high }
def PFB.SET_GO : Fld := { off := 0x120, lo := 0, width := 1, acc := .wo, cls := .a }
def PFB.Z_ARM : Fld := { off := 0x120, lo := 1, width := 1, acc := .wo, cls := .a }
def PFB.POS : Fld := { off := 0x124, lo := 0, width := 32, acc := .ro, cls := .d }
def PFB.REV : Fld := { off := 0x128, lo := 0, width := 32, acc := .ro, cls := .d }
def PFB.SPEED : Fld := { off := 0x12C, lo := 0, width := 32, acc := .ro, cls := .a }
def PFB.SPEED_VALID : Fld := { off := 0x130, lo := 0, width := 1, acc := .ro, cls := .a }
def PFB.DIR : Fld := { off := 0x130, lo := 1, width := 1, acc := .ro, cls := .a }
def PFB.Z_HOMED : Fld := { off := 0x130, lo := 2, width := 1, acc := .ro, cls := .d }
def PFB.QERR_CNT : Fld := { off := 0x134, lo := 0, width := 16, acc := .rc, cls := .c }
def PFB.SSI_ERR_CNT : Fld := { off := 0x134, lo := 16, width := 16, acc := .rc, cls := .c }
def PFB.Z_POS : Fld := { off := 0x138, lo := 0, width := 32, acc := .ro, cls := .a }
def PFB.Z_REV : Fld := { off := 0x13C, lo := 0, width := 32, acc := .ro, cls := .a }
def PFB.Z_NS_LO : Fld := { off := 0x140, lo := 0, width := 32, acc := .ro, cls := .a, pair := .low }
def PFB.Z_NS_HI : Fld := { off := 0x144, lo := 0, width := 32, acc := .ro, cls := .a, pair := .high }
def PFB.Z_ERR_CNT : Fld := { off := 0x148, lo := 0, width := 16, acc := .rc, cls := .c }
def PFB.LATCH_LATE_CNT : Fld := { off := 0x148, lo := 16, width := 16, acc := .rc, cls := .c }
def PFB.PFO_MODE : Fld := { off := 0x150, lo := 0, width := 2, acc := .rw, cls := .c }
def PFB.SYN_STEP_NS : Fld := { off := 0x150, lo := 16, width := 16, acc := .rw, cls := .c, rst := 0x28 }
def PFB.SYN_LAG : Fld := { off := 0x154, lo := 0, width := 32, acc := .ro, cls := .a }
def PFB.PULSE_A : Fld := { off := 0x158, lo := 0, width := 32, acc := .rw, cls := .c }
def PFB.PULSE_B : Fld := { off := 0x15C, lo := 0, width := 32, acc := .rw, cls := .c }
def PFB.PULSE_Z : Fld := { off := 0x160, lo := 0, width := 32, acc := .rw, cls := .c }
def PFB.HEAD_MASK : Fld := { off := 0x180, lo := 0, width := 32, acc := .rw, cls := .c, cnt := 8, st := 0x4 }

/-- Every field of a PFB page. -/
def PFB.all : List Fld :=
  [PFB.MODE, PFB.INVERT, PFB.FILTER, PFB.Z_MODE, PFB.SPD_AVG, PFB.COUNTS_PER_REV, PFB.Z_VALUE, PFB.SSI_BITS, PFB.ST_BITS, PFB.GRAY, PFB.SSI_KHZ, PFB.SSI_PERIOD_US] ++
  [PFB.ZERO_MS, PFB.HIST_US, PFB.POS_SET, PFB.REV_SET, PFB.SET_GO, PFB.Z_ARM, PFB.POS, PFB.REV, PFB.SPEED, PFB.SPEED_VALID, PFB.DIR, PFB.Z_HOMED] ++
  [PFB.QERR_CNT, PFB.SSI_ERR_CNT, PFB.Z_POS, PFB.Z_REV, PFB.Z_NS_LO, PFB.Z_NS_HI, PFB.Z_ERR_CNT, PFB.LATCH_LATE_CNT, PFB.PFO_MODE, PFB.SYN_STEP_NS, PFB.SYN_LAG, PFB.PULSE_A] ++
  [PFB.PULSE_B, PFB.PULSE_Z, PFB.HEAD_MASK]

def PCM.EN : Fld := { off := 0x400, lo := 0, width := 1, acc := .rw, cls := .c, cnt := 16, st := 0x40 }
def PCM.MODE : Fld := { off := 0x400, lo := 1, width := 1, acc := .rw, cls := .c, cnt := 16, st := 0x40 }
def PCM.DIR_POS : Fld := { off := 0x400, lo := 2, width := 1, acc := .rw, cls := .c, cnt := 16, st := 0x40 }
def PCM.DIR_NEG : Fld := { off := 0x400, lo := 3, width := 1, acc := .rw, cls := .c, cnt := 16, st := 0x40 }
def PCM.ONESHOT : Fld := { off := 0x400, lo := 4, width := 1, acc := .rw, cls := .c, cnt := 16, st := 0x40 }
def PCM.CHANNEL : Fld := { off := 0x400, lo := 8, width := 4, acc := .rw, cls := .c, cnt := 16, st := 0x40 }
def PCM.ACT : Fld := { off := 0x400, lo := 12, width := 3, acc := .rw, cls := .c, cnt := 16, st := 0x40 }
def PCM.CAD : Fld := { off := 0x400, lo := 16, width := 4, acc := .rw, cls := .c, cnt := 16, st := 0x40 }
def PCM.CMP_POS : Fld := { off := 0x404, lo := 0, width := 32, acc := .rw, cls := .c, cnt := 16, st := 0x40, pair := .low }
def PCM.CMP_REV : Fld := { off := 0x408, lo := 0, width := 32, acc := .rw, cls := .c, cnt := 16, st := 0x40, pair := .high }
def PCM.HYST : Fld := { off := 0x40C, lo := 0, width := 16, acc := .rw, cls := .c, cnt := 16, st := 0x40 }
def PCM.PULSE_W : Fld := { off := 0x40C, lo := 16, width := 16, acc := .rw, cls := .c, rst := 0x64, cnt := 16, st := 0x40 }
def PCM.ARMED_POS : Fld := { off := 0x410, lo := 0, width := 1, acc := .ro, cls := .a, cnt := 16, st := 0x40 }
def PCM.ARMED_NEG : Fld := { off := 0x410, lo := 1, width := 1, acc := .ro, cls := .a, cnt := 16, st := 0x40 }
def PCM.BEHIND : Fld := { off := 0x410, lo := 2, width := 1, acc := .ro, cls := .a, cnt := 16, st := 0x40 }
def PCM.HELD : Fld := { off := 0x410, lo := 3, width := 1, acc := .ro, cls := .a, cnt := 16, st := 0x40 }
def PCM.FIRE_CNT : Fld := { off := 0x414, lo := 0, width := 32, acc := .ro, cls := .c, cnt := 16, st := 0x40, wrap := true }
def PCM.FIRE_NS_LO : Fld := { off := 0x418, lo := 0, width := 32, acc := .ro, cls := .a, cnt := 16, st := 0x40, pair := .low }
def PCM.FIRE_NS_HI : Fld := { off := 0x41C, lo := 0, width := 32, acc := .ro, cls := .a, cnt := 16, st := 0x40, pair := .high }
def PCM.FIRE_FRAC : Fld := { off := 0x420, lo := 0, width := 32, acc := .ro, cls := .a, cnt := 16, st := 0x40 }
def PCM.FIRE_POS : Fld := { off := 0x424, lo := 0, width := 32, acc := .ro, cls := .a, cnt := 16, st := 0x40 }
def PCM.FIRE_REV : Fld := { off := 0x428, lo := 0, width := 32, acc := .ro, cls := .a, cnt := 16, st := 0x40 }

/-- Every field of a PCM page. -/
def PCM.all : List Fld :=
  [PCM.EN, PCM.MODE, PCM.DIR_POS, PCM.DIR_NEG, PCM.ONESHOT, PCM.CHANNEL, PCM.ACT, PCM.CAD, PCM.CMP_POS, PCM.CMP_REV, PCM.HYST, PCM.PULSE_W] ++
  [PCM.ARMED_POS, PCM.ARMED_NEG, PCM.BEHIND, PCM.HELD, PCM.FIRE_CNT, PCM.FIRE_NS_LO, PCM.FIRE_NS_HI, PCM.FIRE_FRAC, PCM.FIRE_POS, PCM.FIRE_REV]

def HBM.STATE : Fld := { off := 0x100, lo := 0, width := 3, acc := .ro, cls := .c }
def HBM.REFRESH_2X : Fld := { off := 0x100, lo := 8, width := 1, acc := .ro, cls := .a }
def HBM.REGIONS : Fld := { off := 0x100, lo := 16, width := 6, acc := .ro, cls := .a, map := .hbmRegions }
def HBM.ECC_CORR_CNT : Fld := { off := 0x104, lo := 0, width := 16, acc := .rc, cls := .d }
def HBM.ECC_UNCORR_CNT : Fld := { off := 0x104, lo := 16, width := 16, acc := .rc, cls := .d }
def HBM.ROWS_SPARED : Fld := { off := 0x108, lo := 0, width := 16, acc := .ro, cls := .d }
def HBM.SPARES_LEFT : Fld := { off := 0x108, lo := 16, width := 16, acc := .ro, cls := .c, rst := 16 }
def HBM.READ_GBPS : Fld := { off := 0x10C, lo := 0, width := 16, acc := .ro, cls := .a }
def HBM.WRITE_GBPS : Fld := { off := 0x10C, lo := 16, width := 16, acc := .ro, cls := .a }
def HBM.POOL_MIB : Fld := { off := 0x110, lo := 0, width := 16, acc := .ro, cls := .c, map := .hbmPool }
def HBM.POOL_FREE_MIB : Fld := { off := 0x110, lo := 16, width := 16, acc := .ro, cls := .a }
def HBM.RETIRE : Fld := { off := 0x114, lo := 0, width := 1, acc := .wo, cls := .a }

/-- Every field of a HBM page. -/
def HBM.all : List Fld :=
  [HBM.STATE, HBM.REFRESH_2X, HBM.REGIONS, HBM.ECC_CORR_CNT, HBM.ECC_UNCORR_CNT, HBM.ROWS_SPARED, HBM.SPARES_LEFT, HBM.READ_GBPS, HBM.WRITE_GBPS, HBM.POOL_MIB, HBM.POOL_FREE_MIB, HBM.RETIRE]

def MMU.HIT_CNT : Fld := { off := 0x100, lo := 0, width := 32, acc := .ro, cls := .a, wrap := true }
def MMU.MISS_CNT : Fld := { off := 0x104, lo := 0, width := 32, acc := .ro, cls := .a, wrap := true }
def MMU.FAULT_CNT : Fld := { off := 0x108, lo := 0, width := 16, acc := .rc, cls := .d }
def MMU.DENY_CNT : Fld := { off := 0x108, lo := 16, width := 16, acc := .rc, cls := .c }
def MMU.FAULT_ADDR_LO : Fld := { off := 0x10C, lo := 0, width := 32, acc := .ro, cls := .d, pair := .low }
def MMU.FAULT_ADDR_HI : Fld := { off := 0x110, lo := 0, width := 32, acc := .ro, cls := .d, pair := .high }
def MMU.FAULT_PAGE : Fld := { off := 0x114, lo := 0, width := 8, acc := .ro, cls := .d }
def MMU.FAULT_PART : Fld := { off := 0x114, lo := 8, width := 7, acc := .ro, cls := .d }

/-- Every field of a MMU page. -/
def MMU.all : List Fld :=
  [MMU.HIT_CNT, MMU.MISS_CNT, MMU.FAULT_CNT, MMU.DENY_CNT, MMU.FAULT_ADDR_LO, MMU.FAULT_ADDR_HI, MMU.FAULT_PAGE, MMU.FAULT_PART]

def GPI.OUT : Fld := { off := 0x100, lo := 0, width := 16, acc := .rw, cls := .c }
def GPI.OE : Fld := { off := 0x104, lo := 0, width := 16, acc := .rw, cls := .c }
def GPI.IN : Fld := { off := 0x108, lo := 0, width := 16, acc := .ro, cls := .a }
def GPI.EDGE_RISE : Fld := { off := 0x10C, lo := 0, width := 16, acc := .rw, cls := .c }
def GPI.EDGE_FALL : Fld := { off := 0x10C, lo := 16, width := 16, acc := .rw, cls := .c }
def GPI.EDGE_NS_LO : Fld := { off := 0x200, lo := 0, width := 32, acc := .ro, cls := .a, cnt := 16, st := 0x8, pair := .low }
def GPI.EDGE_NS_HI : Fld := { off := 0x204, lo := 0, width := 32, acc := .ro, cls := .a, cnt := 16, st := 0x8, pair := .high }

/-- Every field of a GPI page. -/
def GPI.all : List Fld :=
  [GPI.OUT, GPI.OE, GPI.IN, GPI.EDGE_RISE, GPI.EDGE_FALL, GPI.EDGE_NS_LO, GPI.EDGE_NS_HI]

def XSP.MODE : Fld := { off := 0x100, lo := 0, width := 1, acc := .ro, cls := .a }
def XSP.CLK_MHZ : Fld := { off := 0x100, lo := 8, width := 8, acc := .ro, cls := .a, rst := 0x19 }
def XSP.JEDEC_ID : Fld := { off := 0x104, lo := 0, width := 24, acc := .ro, cls := .a }
def XSP.SIZE_MIB : Fld := { off := 0x108, lo := 0, width := 16, acc := .ro, cls := .a }
def XSP.OCTAL_OK : Fld := { off := 0x108, lo := 16, width := 1, acc := .ro, cls := .a }
def XSP.MAX_MHZ : Fld := { off := 0x10C, lo := 0, width := 8, acc := .rw, cls := .n, rst := 0xC8 }
def XSP.COMMIT : Fld := { off := 0x110, lo := 0, width := 1, acc := .wo, cls := .a }
def XSP.READ_ERR_CNT : Fld := { off := 0x114, lo := 0, width := 16, acc := .rc, cls := .d }
def XSP.PROG_ERR_CNT : Fld := { off := 0x114, lo := 16, width := 16, acc := .rc, cls := .d }
def XSP.ERASE_A : Fld := { off := 0x118, lo := 0, width := 16, acc := .ro, cls := .n }
def XSP.ERASE_B : Fld := { off := 0x118, lo := 16, width := 16, acc := .ro, cls := .n }

/-- Every field of a XSP page. -/
def XSP.all : List Fld :=
  [XSP.MODE, XSP.CLK_MHZ, XSP.JEDEC_ID, XSP.SIZE_MIB, XSP.OCTAL_OK, XSP.MAX_MHZ, XSP.COMMIT, XSP.READ_ERR_CNT, XSP.PROG_ERR_CNT, XSP.ERASE_A, XSP.ERASE_B]

def I2C.SPEED : Fld := { off := 0x100, lo := 0, width := 2, acc := .rw, cls := .c, rst := 0x1 }
def I2C.ADDR : Fld := { off := 0x104, lo := 0, width := 7, acc := .rw, cls := .a }
def I2C.WLEN : Fld := { off := 0x104, lo := 8, width := 5, acc := .rw, cls := .a }
def I2C.RLEN : Fld := { off := 0x104, lo := 16, width := 5, acc := .rw, cls := .a }
def I2C.GO : Fld := { off := 0x104, lo := 31, width := 1, acc := .wo, cls := .a }
def I2C.DATA : Fld := { off := 0x108, lo := 0, width := 32, acc := .rw, cls := .a, cnt := 4, st := 0x4 }
def I2C.DONE : Fld := { off := 0x118, lo := 0, width := 1, acc := .ro, cls := .a }
def I2C.BUSY : Fld := { off := 0x118, lo := 1, width := 1, acc := .ro, cls := .a }
def I2C.RESULT : Fld := { off := 0x118, lo := 2, width := 2, acc := .ro, cls := .a }
def I2C.COUNT : Fld := { off := 0x118, lo := 8, width := 5, acc := .ro, cls := .a }
def I2C.NACK_CNT : Fld := { off := 0x11C, lo := 0, width := 16, acc := .rc, cls := .c }
def I2C.STUCK_CNT : Fld := { off := 0x11C, lo := 16, width := 16, acc := .rc, cls := .c }

/-- Every field of a I2C page. -/
def I2C.all : List Fld :=
  [I2C.SPEED, I2C.ADDR, I2C.WLEN, I2C.RLEN, I2C.GO, I2C.DATA, I2C.DONE, I2C.BUSY, I2C.RESULT, I2C.COUNT, I2C.NACK_CNT, I2C.STUCK_CNT]

def UAR.HOST_OWN : Fld := { off := 0x100, lo := 0, width := 1, acc := .rw, cls := .c }
def UAR.BAUD : Fld := { off := 0x100, lo := 8, width := 24, acc := .rw, cls := .c, rst := 0x1C200 }
def UAR.TX_DATA : Fld := { off := 0x104, lo := 0, width := 8, acc := .wo, cls := .a }
def UAR.RX_DATA : Fld := { off := 0x108, lo := 0, width := 8, acc := .rc, cls := .a }
def UAR.RX_VALID : Fld := { off := 0x108, lo := 8, width := 1, acc := .ro, cls := .a }
def UAR.TX_FREE : Fld := { off := 0x10C, lo := 0, width := 7, acc := .ro, cls := .a, rst := 0x40 }
def UAR.RX_LEVEL : Fld := { off := 0x10C, lo := 8, width := 7, acc := .ro, cls := .a }
def UAR.RX_OVF_CNT : Fld := { off := 0x110, lo := 0, width := 16, acc := .rc, cls := .c }
def UAR.FRAME_ERR_CNT : Fld := { off := 0x110, lo := 16, width := 16, acc := .rc, cls := .c }

/-- Every field of a UAR page. -/
def UAR.all : List Fld :=
  [UAR.HOST_OWN, UAR.BAUD, UAR.TX_DATA, UAR.RX_DATA, UAR.RX_VALID, UAR.TX_FREE, UAR.RX_LEVEL, UAR.RX_OVF_CNT, UAR.FRAME_ERR_CNT]

end Sys2Proof.Reg
end

