-- ==== Sys2Proof/Config.lean ====
section
/-! DEFINITION. Config: what the manual leaves to the die, and the free values (spec 02 R418; notes/assumptions). -/

namespace Sys2Proof.Config

/-- The island that holds a page: fixed by the die and not tabulated (R418). Read through `Machine.islandOf`. -/
opaque island : Nat → Nat

/-- The power island group of an island: fixed by the die and not tabulated (R418). Read through `Machine.groupOf`. -/
opaque islandGroup : Nat → Nat

/-- The power island group of compute-die sensors 0 to 51: fixed by the die and not tabulated (spec 14 R386). -/
opaque sensorGroup : Nat → Nat

/-- A value the manual leaves open, fresh for each number of the counter `Dev.free`. -/
opaque freeValue : Nat → BitVec 64

/-- The 64-bit DEVICE_UID of this part: identity region of the journal store, no value given (R316, R349). -/
opaque deviceUid : BitVec 64

/-- ECDSA P-384 over SHA-384 against boot key `k` of the fuses: the keys are not in the manual (R347, R405). -/
opaque bootSignatureValid (key : Nat) (signed signature : List (BitVec 8)) : Bool

/-- ECDSA P-384 signature by the device identity key, which the manual keeps secret (R349). -/
opaque deviceSign (signed : List (BitVec 8)) : List (BitVec 8)

/-- Bytes of reference and output memory that an encoder configuration takes: no formula is given (R259). -/
opaque encMemory (descriptor : List (BitVec 8)) : Nat

/-- Filtered samples of a CTU row by the standard's in-loop filters, from its own reconstructed samples, the next row's and those of
the band on its left: the standard defines it, the manual does not (R257, R268, R272). -/
opaque inLoopFilter (codec : Nat) (own next left : List Nat) : List Nat

/-- A committed picture at 1/4 or 1/16 scale, for the motion search: the manual gives no filter (R266). -/
opaque scaled (factor : Nat) (bands : List (List (List Nat))) : List Nat

/-- The AV1 CDF tables after a picture, from those before it and its bitstream: the standard defines it (R273). -/
opaque cdfAfter (before bits : List (BitVec 8)) : List (BitVec 8)

/-- Film grain of the AV1 standard on a plane, by its parameters (R257, FG_EN). -/
opaque filmGrain (params : List Nat) (depth plane : Nat) (rows : List (List Nat)) : List (List Nat)

/-- Where the device places a frame-pool buffer whose stack no rule gives (R22): a free value for each buffer. -/
opaque bufferStack : Nat → Nat

/-- Where the pending window holds the data of the PLACE record with a SEQ: no rule gives it (R330). -/
opaque pendingWindow (seq : Nat) : BitVec 28

/-- The bytes of the configuration region without its keys, from the class N fields, the owners and the reservations of objects
that it holds: the manual names its contents and gives no layout (R349). -/
opaque configRegion (fields owner reserve : List (Nat × Nat)) : List (BitVec 8)

/-- Chroma siting of scan-out engines, horizontal and vertical, as H_SITING and V_SITING: not given (R284, R199). -/
opaque scanoutSiting : BitVec 2

/-- Random bytes the device draws (nonces of R318). -/
opaque random : Nat → List (BitVec 8)

end Sys2Proof.Config
end

