-- ==== Sys2Proof/Machine/ImageTypes.lean ====
section
/-! DEFINITION. ImageTypes: LUT tables, the output of a rendition pass, and rendition bindings (spec 07). -/

namespace Sys2Proof.Render

/-- A shaper or transfer table: domain kind, LO, HI and the three tables (R194, R205). -/
structure Table where
  kind : Nat
  lo : Nat
  hi : Nat
  t : List (List Nat)
deriving DecidableEq, Repr

/-- The tables of a VALID library slot (R205). -/
structure Lut where
  shaper : Option Table := none
  transfer : Option Table := none
  /-- lattice size and entries: R, G, B binary16 codes -/
  lattice : Option (Nat × List (List Nat)) := none
deriving DecidableEq, Repr

/-- What a rendition pass makes (R203). -/
structure Output where
  pack : Nat := 0
  chroma : Nat := 0
  depth : Nat := 0
  w : Nat := 0
  h : Nat := 0
  /-- codes of the planes after stage 11; binary16 codes with PACK 1 -/
  codes : List (List (List Nat)) := []
  /-- row pitch of the first plane -/
  pitch : Nat := 0
  /-- the planes packed, each at a 4 KiB-aligned offset -/
  bytes : List Byte := []
  planes : Nat := 0
  /-- binary16 saturations of PACK 1 in each output column -/
  sats : List Nat := []
deriving DecidableEq, Repr

end Sys2Proof.Render

namespace Sys2Proof.Machine

/-! ### Renditions (R188, R208) -/

/-- A sink descriptor. -/
structure Sink where
  kind : Nat := 0
  mode : Nat := 0
  object : Nat := 0
deriving DecidableEq, Repr

def MEMORY : Nat := 1
def FLOW : Nat := 2
def LAYER : Nat := 3
def FEED : Nat := 4
def HOST : Nat := 5

/-- A binding of a rendition. -/
structure Rend where
  rend : Nat
  owner : Nat
  ctx : Nat
  slot : Nat
  petal : Nat
  log2 : Nat
  enable : Bool
  stream : Bool
  rate : Nat
  lutKib : Nat
  sinks : List Sink
  maxSrc : Nat
  maxDst : Nat
  ringAddr : Nat := 0
  slotBytes : Nat := 0
  slots : Nat := 0
  /-- number of the RENDITION_SET that made it -/
  inst : Nat := 0
deriving DecidableEq, Repr

end Sys2Proof.Machine
end

