-- ==== Sys2Proof/Machine/FrameTypes.lean ====
section
/-! DEFINITION. FrameTypes: Head Link groups (spec 04), heads, contexts, Quires and frames (spec 03, 05). -/

namespace Sys2Proof.Machine

/-- A received packet: its header word, its payload words and the reference instant (2^-32 ns) of the group gathering
in which its header began (R101, R111). -/
structure Packet where
  header : Nat
  words : List Nat
  at_ : Nat := 0
deriving DecidableEq, Repr

/-- A downstream CTRL message not yet acknowledged (R110). -/
structure CtrlMsg where
  seq : Nat
  vc : Nat
  msg : Nat
  payload : List Nat
deriving DecidableEq, Repr

/-- A PRBS checker of a physical lane (R124). -/
structure Checker where
  history : Nat := 0
  filled : Nat := 0
  run : Nat := 0
  locked : Bool := false
  /-- error flags of the last 256 bits, newest first -/
  flags : List Bool := []
deriving DecidableEq, Repr

/-- A bound VC: what BIND_OFFER declared (R116). -/
structure Binding where
  head : Nat
  uid : Nat
  model : Nat := 0
  fwRev : Nat := 0
  pixelRate : Nat
  lead : Nat
  spareOk : Bool
  teCap : Bool
  retvidCap : Bool
  digest : Nat
  /-- a FEED_BUDGET event was raised for this binding (R112) -/
  budgetWarned : Bool := false
  /-- feeds of which a FEED_NOCAP event was raised for this binding (R294) -/
  nocap : List Nat := []
deriving DecidableEq, Repr

/-- Sparing of a logical lane in progress (R122). -/
structure Sparing where
  lane : Nat
  spare : Nat
  ready : Bool := false
  switched : Bool := false
  /-- the physical lane that is spared; it is driven until the ACK of SPARE_COMMIT -/
  old : Nat := 0
  /-- SEQ of SPARE_COMMIT once sent -/
  commitSeq : Option Nat := none
deriving DecidableEq, Repr

/-- A TEST message sent for far-end loopback: SEQ and lane mask (R125). -/
structure FarTest where
  seq : Nat
  mask : Nat
deriving DecidableEq, Repr

/-- What a lane group holds beside its registers (R94 to R125). -/
structure Group where
  /-- lanes and rate code in use since the last entry to DETECT (R92, R112) -/
  lanes : Nat := 1
  rate : Nat := 0
  /-- descrambler history of each lane, 58 bits (R95) -/
  history : List (Nat × Nat) := []
  /-- lanes whose first gathering after sync lock is still to be discarded (R95) -/
  fresh : List Nat := []
  goodRun : Nat := 0
  dataRun : Nat := 0
  discardRun : Nat := 0
  /-- header, words received and reference instant of a packet that spans gatherings (R98) -/
  partialPkt : Option Packet := none
  /-- parsing waits for a FIRST (R100) -/
  resync : Bool := true
  /-- packets received and not yet handled, oldest first -/
  rx : List Packet := []
  /-- group gatherings discarded while each VC's row was open are noted in the frame; count of all discards -/
  discards : Nat := 0
  lastGseq : Option Nat := none
  txSeq : Nat := 0
  rxSeq : Nat := 0
  unacked : List CtrlMsg := []
  /-- messages waiting for the 64-message window (R110) -/
  waiting : List CtrlMsg := []
  timeouts : Nat := 0
  vcs : List (Nat × Binding) := []
  /-- open frame of each VC: frame key (R134) -/
  openFrames : List (Nat × Nat) := []
  /-- VCs whose present frame was discarded at FHDR, with its Capture ID (R135, R138) -/
  dropping : List (Nat × Nat) := []
  /-- VCs offered and answered since BIND (R114) -/
  offered : Nat := 0
  sparing : Option Sparing := none
  /-- failures of each lane (by group index) in the present window and gatherings of the window (R121) -/
  window : List (Nat × Nat) := []
  windowPos : Nat := 0
  /-- lanes of which SPARE_UNAVAILABLE was raised in their present window -/
  spareWarned : List Nat := []
  /-- lanes whose sparing failed, with whether that window has ended: they are tried again at the end of the next window that
  reaches the threshold (R122) -/
  spareFailed : List (Nat × Bool) := []
  test : Option FarTest := none
  /-- SEQ of the next SYNC and reference instant of the one before, SEQ of the next DRESP (R111) -/
  sync : Nat := 0
  syncAt : Option Nat := none
  dresp : Nat := 0
  /-- consecutive failures, for the backoff (R118) -/
  failures : Nat := 0
  /-- VCs of which a packet of a frame came since their last FTRL: they are between FHDR and FTRL (R106, R122) -/
  between : List Nat := []
  /-- the transmitter: GSEQ of the next group gathering, scrambler history of each lane (R95, R98), words left of the packet
  being sent, packets that wait with their priorities (R113), and how many messages of the device were queued here -/
  gseq : Nat := 0
  scrambler : List Nat := []
  sending : List Nat := []
  toSend : List (Nat × List Nat) := []
  queued : Nat := 0
deriving DecidableEq, Repr

/-- A head's admission and settings state (R71, R132). -/
structure Head where
  /-- group (first lane) and VC, while bound; MIPI heads have none -/
  vc : Option (Nat × Nat) := none
  /-- last SSQ sent (R71) -/
  ssq : Nat := 0
  /-- resend SSQ and CRC of the settings area of the configuration sequence -/
  cfg : Option (Nat × Nat) := none
  /-- SEQs of the sequence's messages still unacknowledged -/
  cfgWait : List Nat := []
  rebound : Bool := false
  lastCid : Option Nat := none
  noCtxWarned : Option Nat := none
  /-- SSQs of Quires that timed out (R73) -/
  dead : List Nat := []
  /-- Capture IDs whose FHDR was discarded under R135 (R138) -/
  dropped : List Nat := []
  /-- the SCHEDULE last sent: (FIRST_START, period) in 2^-32 ns (R364) -/
  schedule : Option (Int × Nat) := none
deriving DecidableEq, Repr

/-- TARGET of a Quire once AUTO is resolved (R66, R67): the context's frame number `o` in order of announcement, a Capture
ID not yet resolved, or the frame that echoes the Quire's settings. -/
inductive QTarget where
  | frame (o : Nat)
  | cid (n : Nat)
  | echo
deriving DecidableEq, Repr

/-- A Quire accepted and not yet completed (R62 to R76). -/
structure Quire where
  id : Nat
  /-- the partition that sealed it, and its ASN; 0 and 0 for a loop Quire -/
  part : Nat := 0
  asn : Nat
  loop : Bool := false
  target : QTarget
  sendHead : Bool := false
  noRespin : Bool := false
  /-- the SSQ assigned at acceptance, and that of the second send (R73) -/
  ssq : Nat := 0
  resent : Nat := 0
  /-- contents: DWs of the bank that differ from reset; for a loop Quire the loop-owned DWs only -/
  bank : List (Nat × Nat)
  /-- Capture ID of the frame it is aimed at, once known -/
  aim : Nat := 0
  /-- effective frame (number in order of announcement), once known; its generation exists -/
  eff : Option Nat := none
  made : Bool := false
  /-- applied later than its resolved target (R69); counted in LATE_CNT and in DEFLECT_CNT (R76) -/
  late : Bool := false
  moved : Bool := false
  deflected : Bool := false
  respun : Bool := false
  /-- frames announced since its settings were sent, and whether they were sent again (R73) -/
  waited : Nat := 0
  again : Bool := false
  /-- a loop Quire carries exposure and gain, or white balance; it was issued at an assist deadline (R184) -/
  ae : Bool := true
  awb : Bool := true
  dflt : Bool := false
deriving DecidableEq, Repr

/-- A parameter generation (R61): bank contents and the Quire it came from. -/
structure Gen where
  qid : Nat := 0
  part : Nat := 0
  asn : Nat := 0
  /-- effective frame (number in order of announcement); `none` for the generation a context starts with -/
  eff : Option Nat := none
  /-- SSQ of the head settings it records, and the head that numbered it -/
  ssq : Nat := 0
  head : Option Nat := none
  bank : List (Nat × Nat) := []
deriving DecidableEq, Repr

/-- A raw tap of a context (R146 to R148). -/
structure Tap where
  point : Nat
  ring : Nat
  slotBytes : Nat
  slots : Nat
  decimate : Nat
  count : Nat
  x0 : Nat
  y0 : Nat
  w : Nat
  h : Nat
  part : Nat
  asn : Nat
  armedAt : Nat
  slot : Nat := 0
  delivered : Nat := 0
  skipped : Nat := 0
  seen : Nat := 0
  xferWarned : Option Nat := none
deriving DecidableEq, Repr

/-- Position of a host ring (R148). -/
structure RingPos where
  slot : Nat := 0
  seq : Nat := 0
  skipped : Nat := 0
  warned : Option Nat := none
deriving DecidableEq, Repr

/-- The statistics ring of a context (R178): address, slots and slot bytes of the ring under way, and its position. -/
structure StatsRing where
  ring : Option (Nat × Nat × Nat) := none
  pos : RingPos := {}
deriving DecidableEq, Repr

/-- A pipeline context (R33, R61, R129). -/
structure Ctx where
  head : Option Nat := none
  inl : Bool := false
  gang : Nat := 0
  section_ : Nat := 0
  rate : Nat := 0
  /-- shadow bank: DW index to value, unlisted DWs at reset -/
  shadow : List (Nat × Nat) := []
  /-- active bank: the generation of the most recent first pass (R61) -/
  active : Gen := {}
  /-- generations that frames were processed with: number and Capture ID of the first such frame (R61, R69) -/
  applied : List (Gen × Nat × Nat) := []
  /-- frames announced: the number of the next one -/
  ord : Nat := 0
  quires : List Quire := []
  /-- generations in promotion order, oldest first -/
  gens : List Gen := [{}]
  paused : Bool := false
  mismatchRun : Nat := 0
  /-- ECHO_LIMIT and MISMATCH_RESEND of the newest frame announced (R90) -/
  limits : Nat × Nat := (8, 3)
  geometryWarned : Bool := false
  taps : List (Nat × Tap) := []
  /-- the newest frame announced since binding: the temporal reference of the next (R79) -/
  prev : Option Nat := none
  stats : StatsRing := {}
  /-- next stack for a raw buffer; R22 gives the order of successive frames: the stack of a context's first frame, 0, is a
  DESIGN CHOICE (log 91) -/
  nextStack : Nat := 0
  /-- ANNOUNCED instant of the newest frame since binding, and the interval before it (R20, R154) -/
  lastArrival : Option Nat := none
  period : Option Nat := none
  /-- positions detected and not marked, with the consecutive final passes that detected them (R160) -/
  candidates : List (Nat × Nat) := []
  /-- calibration writes applied (R154) -/
  calSeq : Nat := 0
deriving DecidableEq, Repr

/-- Frame states (R59). -/
inductive FrameState where
  | announced | ingesting | ingested | sealed | processed | released | retired
deriving DecidableEq, Repr

/-- What an FHDR says (R103). -/
structure Fhdr where
  cid : Nat
  ssq : Nat
  expStart : Nat
  expEnd : Nat
  exposureNs : Nat
  gain : Nat
  readout : Nat
  width : Nat
  rows : Nat
  depth : Nat
  cfaKind : Nat
  cfaPhase : Nat
  digest : Nat
deriving DecidableEq, Repr

/-- What a pass over a frame makes (R8, R86, R147): the developed image (binary16 codes), the outputs of tap stages 1 to
3, both as planes of rows, the statistics record and its summary, what the loop computes, and the photosites detected and
not marked. -/
structure PassOut where
  developed : List (List (List Int)) := []
  stages : List (Nat × List (List (List Int))) := []
  stats : List Byte := []
  summary : List Byte := []
  /-- new EXPOSURE_NS and ANALOG_GAIN; new WB_R and WB_B (R182, R183) -/
  ae : Option (Nat × Nat) := none
  awb : Option (Nat × Nat) := none
  found : List Nat := []
  detected : Nat := 0
  /-- the record's device address, once published (R180) -/
  addr : Nat := 0
  noRef : Bool := false
  /-- the row term of stage 2 was omitted (R157) -/
  obSkip : Bool := false
  tnrRef : Nat := 0
deriving DecidableEq, Repr

/-- A frame (R57 to R60, R88). Instants are Timebase values in 2^-32 ns. -/
structure Frame where
  head : Nat
  ctx : Nat
  owner : Nat
  hdr : Fhdr
  /-- number in the order in which the context's frames were announced -/
  ord : Nat := 0
  state : FrameState := .announced
  ing : Nat := 0
  cfgW : Nat
  cfgH : Nat
  /-- generation of ingest (R131) -/
  ingGen : Gen
  inl : Bool
  gang : Nat
  section_ : Nat
  stack : Nat
  /-- the stack of the developed image and of the pre-warp buffer beside it (R22, R171) -/
  devStack : Option Nat := none
  tAnn : Nat
  /-- the free-running clock at ANNOUNCED, from which deadlines and intervals count (R355) -/
  arrived : Nat := 0
  tIng : Nat := 0
  tSeal : Nat := 0
  tProc : Nat := 0
  ssqSent : Nat := 0
  ptp : Nat := 0
  flags : Nat := 0
  /-- received samples: row * 65536 + column to code; complete and dense once closed -/
  raw : List (Nat × Nat) := []
  row : Option Nat := none
  longRows : List Nat := []
  widthRows : List Nat := []
  /-- rows open while a group gathering of the VC's group was discarded (R139) -/
  hurt : List Nat := []
  /-- columns of a row whose CSI-2 payload CRC failed: (row, first column, columns) (R145) -/
  bad : List (Nat × Nat × Nat) := []
  crcRows : Nat := 0
  received : Nat := 0
  missingFirst : Nat := 0
  missingCount : Nat := 0
  aux : List Byte := []
  auxOvf : Bool := false
  /-- folios handed to the Section (R141) -/
  folios : Nat := 0
  firstGen : Option Gen := none
  curGen : Option Gen := none
  /-- instant of the first pass's start -/
  tFirst : Nat := 0
  /-- the temporal reference: the context's previous frame (R79) -/
  ref : Option Nat := none
  /-- the generation of a respin pass that runs (R78); the gang members that run their share of it, and those whose share waits
  for their Section (R10) -/
  pass : Option Gen := none
  runs : List Nat := []
  waits : List Nat := []
  firstOut : Option PassOut := none
  out : Option PassOut := none
  /-- newest generation a respin waits for, with the kind: true Section respin (R77) -/
  pending : Option (Gen × Bool) := none
  respins : Nat := 0
  reserved : Bool := false
  inject : Option (List Byte × Nat) := none
  injectWait : Bool := false
  /-- POSITION entries latched, by channel (R372) -/
  pos : List (Nat × List Byte) := []
  take : Nat := 0
  takeIndex : Nat := 0xFFFFFFFF
  /-- the bindings that govern the frame: rendition to binding (R209) -/
  binds : List (Nat × Rend) := []
  /-- sinks served or given up: (rendition, sink) -/
  served : List (Nat × Nat) := []
  /-- renditions of which some sink gave the frame up -/
  gaveUp : List Nat := []
  /-- outputs of rendition passes under the governing generation; none: given up at every sink -/
  outputs : List (Nat × Option Render.Output) := []
  firstOutputs : List (Nat × Option Render.Output) := []
  deadlinePassed : Bool := false
deriving DecidableEq, Repr

/-- A calibration write that waits (R154, R160, R162): bytes by offset, or defect-map entries to be inserted; the command
that gave it. -/
structure CalWrite where
  part : Nat
  asn : Nat
  ctx : Nat
  cells : List (Nat × Byte) := []
  insert : List Nat := []
  software : Bool := true
deriving DecidableEq, Repr

/-- Head Link, ingest, contexts and frames. -/
structure CaptureSt where
  /-- raw samples written within a second: (unit, elapsed tick, samples) -/
  written : List (Nat × Nat × Nat) := []
  /-- PRBS checkers by physical lane -/
  prbs : List (Nat × Checker) := []
  /-- last 31 bits of the PRBS generator of a physical lane that sends one (R123) -/
  prbsGen : List (Nat × Nat) := []
  /-- feeds whose RETVID_CFG is not acknowledged: feed to (group, SEQ) (R296) -/
  feedWait : List (Nat × (Nat × Nat)) := []
  groups : List (Nat × Group) := []
  heads : List (Nat × Head) := []
  ctxs : List (Nat × Ctx) := []
  /-- frames by `head * 2^48 + Capture ID` -/
  frames : List (Nat × Frame) := []
  /-- open frame of a MIPI port; ports whose present frame R135 refused; ports that discard until Frame End after a header
  that could not be corrected (R145) -/
  mipOpen : List (Nat × Nat) := []
  mipSkip : List Nat := []
  mipLost : List Nat := []
  /-- next row of a MIPI port's open frame -/
  mipRow : List (Nat × Nat) := []
  /-- calibration space of each context: byte offset to byte, unlisted 0 (R154, R334) -/
  calib : List (Nat × List (Nat × Byte)) := []
  /-- calibration writes held until no pass of the context runs (R154) -/
  calHeld : List CalWrite := []
deriving DecidableEq, Repr

end Sys2Proof.Machine
end

