-- ==== Sys2Proof/Machine/HostTypes.lean ====
section
/-! DEFINITION. HostTypes: the state of partitions, queues, rings, sessions, flows and the journal (spec 11 and 12)
that is not held in a register. -/

namespace Sys2Proof.Machine

/-- An event or assist ring of a partition (R316). `head` and `tail` are indices; `phase` is the bit written next. -/
structure Ring where
  base : Nat
  depth : Nat
  classes : Nat := 0
  vector : Nat := 0
  irqEn : Bool := false
  head : Nat := 0
  tail : Nat := 0
  phase : Bool := true
  /-- Records of a network partition's ring, oldest first, not yet acknowledged (R316, R320). -/
  kept : List (List Byte) := []
  /-- records of the ring before it whose acknowledgement is still to come: they return nothing to this one -/
  skip : Nat := 0
deriving DecidableEq, Repr

/-- A summary slot of a partition (R345 step 2), in order of its first event. -/
structure Summary where
  page : Nat
  code : Nat
  cls : Nat
  count : Nat
  first : Nat
  last : Nat
deriving DecidableEq, Repr

/-- A record of an Orphan Completion log (R339). -/
structure Orphan where
  entry : List Nat
  asn : Nat
  opcode : Nat
  reason : Nat
  ms : Nat
deriving DecidableEq, Repr

/-- What the journal store and the queue engine keep of a partition (R300, R302, R309, R316, R345). -/
structure PartRec where
  enable : Bool
  msix : Nat
  msixNext : Nat
  maxSessions : Nat
  key : Option (List Byte) := none
  keyId : Nat := 0
  asnNext : Nat := 1
  paused : Bool := false
  burst : Nat := 8
  hint : Nat := 0
  evt : Option Ring := none
  ast : Option Ring := none
  summaries : List Summary := []
  lost : Nat := 0
  orphans : List Orphan := []
  orphansLost : Nat := 0
  dbWarned : Option Nat := none
  nextTag : Nat := 0
deriving DecidableEq, Repr

/-- The record a partition has at first power-on (R300, R302). -/
def PartRec.initial (p : Nat) : PartRec :=
  { enable := p < 64, msix := if p = 0 then 2048 else if p < 64 then 64 else 0,
    msixNext := if p = 0 then 2048 else if p < 64 then 64 else 0,
    maxSessions := if 64 ≤ p then 16 else 0 }

/-- A queue pair (R303, R304, R306 to R308). -/
structure Queue where
  sqBase : Nat
  cqBase : Nat
  sqDepth : Nat
  cqDepth : Nat
  vector : Nat := 0
  irqEn : Bool := true
  weight : Nat := 0
  coalCount : Nat := 1
  coalUs : Nat := 0
  sqHead : Nat := 0
  sqTail : Nat := 0
  cqHead : Nat := 0
  cqTail : Nat := 0
  phase : Bool := true
  failed : Bool := false
  sinceIrq : Nat := 0
deriving DecidableEq, Repr

/-- How far an accepted command has come. -/
inductive Phase where
  /-- accepted, not started (it may be held by BARRIER, a lock, a block or a queue of its chapter) -/
  | waiting
  /-- started; its data moves between host and device (DATA_TRANSFER_END ends this) -/
  | moving
  /-- started and past its catch window, waiting for what completes it -/
  | running
deriving DecidableEq, Repr

/-- An accepted, uncompleted command (R309). -/
structure Cmd where
  part : Nat
  queue : Nat
  asn : Nat
  cid : Nat
  idx : Nat
  entry : List Nat
  /-- SQ depth at acceptance, for SQ_HEAD of an Orphan Completion (R339) -/
  depth : Nat := 2
  /-- REASON of the Orphan Completion should its queue be gone (R339) -/
  reason : Nat := 0
  /-- its queue pair was deleted; one made later under the same ID is another (R304) -/
  gone : Bool := false
  phase : Phase := .waiting
  /-- the EFFECT record exists (R332) -/
  effect : Bool := false
  /-- RESULT of the completion to be given -/
  result : Nat := 0
  status : Nat := 0
  /-- network partitions: bytes that the client is to send for PTR0, and those received (offset, byte) (R320) -/
  want : Nat := 0
  rx : List (Nat × Byte) := []
  /-- network partitions: the window offered and not yet filled (R320) -/
  window : Option (Nat × Nat) := none
  /-- data the command holds until its effect -/
  data : List Byte := []
  /-- the shadow bank as it stood at acceptance of QUIRE_SEAL (R34) -/
  snap : List (Nat × Nat) := []
  /-- the free-running clock at acceptance (R355) -/
  time : Nat := 0
deriving DecidableEq, Repr

/-- An entry of the range-lock table (R311). -/
structure RangeLock where
  part : Nat
  set : Nat
  asn : Nat
  lo : Nat
  len : Nat
  write : Bool
  /-- the lock of a placement that replay writes again (R333 step 7) -/
  replayed : Bool := false
deriving DecidableEq, Repr

/-- RCT session states (R321). -/
inductive SessState where
  | challenged | opened | closing | hold
deriving DecidableEq, Repr

/-- A packet that a session sends, with the Orphan Completion that a completion in it becomes should the session's hold
expire first (R321). -/
structure RctPacket where
  type : Nat
  payload : List Byte
  seq : Nat := 0
  /-- marked in SACK -/
  sack : Bool := false
  /-- consecutive timeouts without progress (R319) -/
  tries : Nat := 0
  orphan : Option Orphan := none
deriving DecidableEq, Repr

/-- An RCT session (R317 to R321). -/
structure Session where
  port : Nat
  addr : Nat
  part : Nat
  queue : Nat
  keyId : Nat
  dataKib : Nat
  nc : List Byte
  nd : List Byte
  state : SessState := .challenged
  key : List Byte := []
  /-- next SEQ this end sends -/
  txSeq : Nat := 1
  /-- unacknowledged packets -/
  unacked : List RctPacket := []
  /-- packets waiting for the 256-packet window -/
  waiting : List RctPacket := []
  /-- next SEQ expected (ACK) -/
  rxNext : Nat := 1
  /-- packets received out of order: (SEQ, TYPE, payload) -/
  early : List (Nat × Nat × List Byte) := []
  /-- DATA packets outside an offered window (R320) -/
  discarded : Nat := 0
  /-- queued RESPONSEs while in HOLD, with the DATA that precedes them (R321) -/
  queued : List RctPacket := []
deriving DecidableEq, Repr

/-- State of an ST 2110 sender (R323). -/
structure Flow where
  /-- output and Colophon of the released frame that waits for its start -/
  next : Option (Render.Output × List Byte) := none
  seq : Nat := 0
  ancSeq : Nat := 0
  pathWarned : Bool := false
deriving DecidableEq, Repr

/-- The host interface (spec 11). -/
structure HostSt where
  /-- virtual functions that exist (R297), shown in HIF0.NUM_VFS -/
  numVfs : Nat := 0
  queues : List (Nat × Queue) := []
  cmds : List (Nat × Cmd) := []
  parts : List (Nat × PartRec) := []
  /-- owner of object `kind * 65536 + object`; unlisted: partition 0 (R302) -/
  owner : List (Nat × Nat) := []
  /-- reservation of object `kind * 65536 + object`; unlisted: 0 (R302) -/
  reserve : List (Nat × Nat) := []
  /-- the partition whose turn it is at the admin queues and its entries fetched in this turn (R307, R316) -/
  adminTurn : Nat × Nat := (0, 0)
  /-- the partition whose turn it is at the I/O queues, and the entries of each of its queues fetched in this turn (R307) -/
  turn : Nat := 0
  turnSpent : List (Nat × Nat) := []
  locks : List RangeLock := []
  sessions : List (Nat × Session) := []
  /-- AUTH_FAIL results per source address: (address, elapsed ticks) (R318) -/
  authFails : List (Nat × List Nat) := []
  /-- addresses ignored until a count of elapsed ticks (R318) -/
  ignored : List (Nat × Nat) := []
  flows : List (Nat × Flow) := []
  /-- BREAKOUT in use of each port: taken at link-up (spec 11 NET registers) -/
  breakout : Nat × Nat := (0, 0)
  /-- Ethernet ports out of service (R341) -/
  portsDown : List Nat := []
  /-- syslog mirror: DW9 to DW11 of feature 0x03 (R346) -/
  syslog : Nat × Nat × Nat := (0, 0, 0)
  /-- mirrored messages waiting to be sent (R346) -/
  syslogQueue : List (List Byte) := []
  /-- fetching is stopped on every queue: by the power-loss sequence or for a seam (R338, R348) -/
  fetchStopped : Bool := false
deriving DecidableEq, Repr

/-- What a ledger record says (R330). -/
inductive Body where
  | accept (queue idx : Nat) (entry : List Nat)
  /-- `blocks`: of each 4 KiB of a WRITE's data the pending-window address and the CRC-32C -/
  | effect (opcode status result : Nat) (blocks : List (Nat × Nat))
  | place (set stripe unit offset len window : Nat)
  | stripeDurable (set stripe writeSeq : Nat)
  | frameCommit (set take index first planes : Nat)
  | fltUpdate (index : Nat) (entry : List Byte)
  | complete (entry : List Nat) (orphan : Bool) (reason : Nat)
  | posted
  /-- `dir`: the 64 B directory entry -/
  | takeState (take set state : Nat) (dir : List Byte)
  | shutdown (len crc : Nat)
  | epoch (old new : Nat)
deriving DecidableEq, Repr

/-- A ledger record (R330); `ok` is false where an uncorrectable error made its CRC fail. -/
structure LedgerRec where
  part : Nat
  seq : Nat
  asn : Nat
  time : Nat
  body : Body
  ok : Bool := true
deriving DecidableEq, Repr

/-- An event record (R344). -/
structure Event where
  time : Nat
  page : Nat
  cls : Nat
  summary : Bool := false
  code : Nat
  count : Nat := 1
  data : List Byte := []
deriving DecidableEq, Repr

/-- A firmware image slot (R347). -/
structure FwSlot where
  image : List (Nat × Byte) := []
deriving DecidableEq, Repr

/-- An activation in progress (R348): the command and the slot. -/
structure Activation where
  part : Nat
  asn : Nat
  slot : Nat
  persist : Bool
  /-- the pair that loads the image -/
  pair : Nat
  /-- elapsed ticks at the seam, and the microseconds that fetching pauses -/
  seam : Nat := 0
  pause : Nat := 0
deriving DecidableEq, Repr

/-- The journal store, events and firmware (spec 12). -/
structure JournalSt where
  ledger : List LedgerRec := []
  nextSeq : Nat := 0
  /-- fault history, newest first: event, device epoch, target partition (R340) -/
  faults : List (Event × Nat × Nat) := []
  faultsLost : Nat := 0
  /-- thermal trip records, newest first (R397) -/
  trips : List (List Byte) := []
  tripsLost : Nat := 0
  /-- the pending image: present after SHUTDOWN (R338) -/
  image : Bool := false
  lastReturn : List Byte := []
  slotA : FwSlot := {}
  slotB : FwSlot := {}
  activation : Option Activation := none
  /-- management core pairs that have failed, for good (R341) -/
  failedPairs : List Nat := []
  /-- a cold image waits for the next device reset (R347) -/
  cold : Bool := false
  /-- ledger records lost to hold-up (R349 ledger statistics): replays, stalls, hold-up losses, lowest LEDGER_FREE -/
  replays : Nat := 0
  stalls : Nat := 0
  holdupLosses : Nat := 0
  lowest : Nat := 1048576
  /-- SRAM rows with a corrected error: (array, row, elapsed ticks) (R341) -/
  sramRows : List (Nat × Nat × Nat) := []
  /-- memory rows with a corrected error, and each stack's last uncorrectable error: (stack, row, elapsed ticks) (R25) -/
  hbmRows : List (Nat × Nat × Nat) := []
  hbmLast : List (Nat × Nat × Nat) := []
  /-- power-loss sequence running (R338) and whether PWRFAIL_N deasserted meanwhile -/
  powerLoss : Bool := false
  powerLossReset : Bool := false
  /-- LAST_CAUSE of a reset that waits for the sequence's end; 0: none does (R28, R338) -/
  waitingCause : Nat := 0
  /-- Timebase clocks counted while clocks run, of which FWM.RUN_HOURS shows the hours -/
  powered : Nat := 0
deriving DecidableEq, Repr

end Sys2Proof.Machine
end

