-- ==== Sys2Proof/Machine/PipeTypes.lean ====
section
/-! DEFINITION. PipeTypes: renditions, LUT library, recording, magazines, video coding and display (spec 07 to 10) beside
their registers, and assist requests (spec 02 R51 to R55). -/

namespace Sys2Proof.Machine

/-! ### Assist (R51 to R55) -/

/-- An outstanding assist request. -/
structure Assist where
  part : Nat
  tag : Nat
  func : Nat
  page : Nat
  object : Nat
  cid : Nat := 0
  head : Nat := 0
  /-- DW9 to DW15 of the proposal -/
  proposal : List Nat := []
  /-- frame, Take or picture the decision concerns, and what the decision installs -/
  key : Nat := 0
  extra : List (Nat × Nat) := []
deriving DecidableEq, Repr

/-- How a request that no reply governed was resolved: by its deadline, or under R419. -/
inductive Resolved where
  | late | off
deriving DecidableEq, Repr

/-! ### Renditions (R188, R208) -/

/-- State of a LUT library slot: 0 INVALID, 1 LOADING, 2 VALID (R206). -/
structure LutSlot where
  state : Nat := 0
  seq : Nat := 0
  lut : Render.Lut := {}
deriving DecidableEq, Repr

/-- A rendition pass, waiting or running (R210, R215). -/
structure Job where
  frame : Nat
  bind : Rend
  gen : Gen
  /-- over the first-pass developed image, as part of the first pass -/
  first : Bool
  /-- its output belongs to the generation that governs the frame at present -/
  final : Bool := true
  started : Bool := false
  /-- it was counted as waiting for a LOADING slot -/
  waited : Bool := false
  /-- dither table in use at the start -/
  dither : Option (List Nat) := none
  made : Nat := 0
  /-- reserved work (R20), judged when it was made -/
  reserved : Bool := false
deriving DecidableEq, Repr

/-- A buffer of a MEMORY sink's ring (R212, R260). -/
structure MemBuf where
  frame : Nat
  head : Nat
  cid : Nat
  output : Render.Output
  colophon : List Byte
  /-- the memory stack it lies in (R22) -/
  stack : Nat := 0
  /-- a Take has still to copy it -/
  take : Bool := false
  /-- encoder contexts that have still to read it -/
  encs : List Nat := []
  /-- SINK_READ commands that copy from it: (partition, ASN) -/
  reads : List (Nat × Nat) := []
deriving DecidableEq, Repr

/-! ### Recording (spec 08) -/

/-- A Frame Locator Table entry (R238). -/
structure FltEntry where
  cid : Nat := 0
  plane : Nat := 0
  status : Nat := 0
  addr : Nat := 0
  set : Nat := 0
  flags : Nat := 0
  length : Nat := 0
  crc : Nat := 0
  asn : Nat := 0
deriving DecidableEq, Repr

/-- Stages of a Take frame on its way to commit (R235). -/
inductive Coding where
  /-- before INGESTED -/
  | notYet
  | waiting
  | coding (engine : Nat)
  | done (bytes : List Byte) (verify : Bool)
deriving DecidableEq, Repr

/-- A frame that a Take has given an index and not yet committed. -/
structure TakeFrame where
  index : Nat
  frame : Nat
  cid : Nat
  coding : Coding := .notYet
  /-- recorded rendition number to its output, none when it gave the frame up -/
  rends : List (Nat × Option (List Byte)) := []
deriving DecidableEq, Repr

/-- How a Take ends (R237). -/
inductive TakeStop where
  | running
  | now
  | at_ (cid : Nat)
deriving DecidableEq, Repr

/-- A Take. -/
structure Take where
  set : Nat
  takeId : Nat
  ctx : Nat
  owner : Nat
  ratio : Nat
  dyn : Bool
  startMode : Nat
  startCid : Nat := 0
  compare : Nat := 0
  /-- TRIGGER: the compare unit has fired -/
  fired : Bool := false
  rends : List Nat := []
  planes : Nat
  base : Nat
  maxFrames : Nat
  rate : Nat := 0
  started : Bool := false
  count : Nat := 0
  stop : TakeStop := .running
  /-- 0 OPEN, 1 CLOSED, 2 ERASED -/
  state : Nat := 0
  /-- TAKE_CLOSE commands that wait: (partition, ASN) -/
  close : List (Nat × Nat) := []
  frames : List TakeFrame := []
  extents : List Nat := []
  /-- next set data address, while the extents held have room -/
  pos : Option Nat := none
  lastSeg : Nat := 0
  /-- slot of the directory -/
  slot : Nat := 0
  /-- the header has been placed -/
  headed : Bool := false
  /-- offsets in the table range of final entries not yet in an index segment, in the order they became final -/
  finals : List Nat := []
  /-- how many of them are still to be written of the 127 that were due (R248) -/
  batch : Nat := 0
  /-- (W, H, D, PH, PV, CFA kind, CFA phase, head) of the first frame -/
  shape : List Nat := []
  /-- the same of the frames that differ from it, by index -/
  shapes : List (Nat × List Nat) := []
  behindWarned : Option Nat := none
  fullWarned : Bool := false
  limitWarned : Bool := false
  /-- an extent request waits for its reply (R244) -/
  asking : Bool := false
deriving DecidableEq, Repr

/-- Data placed in one stripe of a set and not yet durable (R245). `flt` is 1 + the table entry it belongs to, `take`
the Take number of headers, index segments and planes, `dir` marks directory entries. -/
structure Place where
  set : Nat
  addr : Nat
  bytes : List Byte
  part : Nat := 0
  asn : Nat := 0
  take : Nat := 0
  flt : Nat := 0
  dir : Bool := false
  /-- table entries that an index segment holds, by number -/
  holds : List Nat := []
  /-- its stripe's writes run (STRIPE_WRITE) -/
  going : Bool := false
  /-- its 4 KiB blocks that no longer have the CRC of their EFFECT record (R333) -/
  bad : List Nat := []
deriving DecidableEq, Repr

/-- A stripe set beside its registers (R243 to R252). -/
structure StripeSet where
  setId : Nat := 0
  n : Nat := 1
  /-- port of each member -/
  members : List Nat := []
  /-- member indices that are live -/
  live : List Nat := []
  enc : Bool := false
  key : Option (List Byte) := none
  /-- KEY words written since the last load: (i, word) -/
  keyWords : List (Nat × Nat) := []
  stripes : Nat := 0
  /-- extents in use: (extent, 0 directory, 1 + Take number, or 2^32 + partition of store space) -/
  extents : List (Nat × Nat) := []
  lastExtent : Nat := 0
  /-- a rebuild runs onto this port -/
  rebuild : Option Nat := none
  /-- the Frame Locator Table has been rebuilt from the set's directory (R249) -/
  indexed : Bool := false
  /-- directory slots of Takes that found no table range: the next assembly tries them again (R249) -/
  unindexed : List Nat := []
  /-- the labels' KCV (R252) -/
  kcv : Nat := 0
  /-- pending placements from before a reset have still to be judged under R247 -/
  replay : Bool := false
deriving DecidableEq, Repr

/-- A magazine beside its registers. -/
structure Magazine where
  /-- LBA contents that differ from zeros -/
  media : List (Nat × List Byte) := []
  serial : List Byte := []
  lbas : Nat := 0
  resetAt : Option Nat := none
  /-- LBAs whose reads fail -/
  bad : List Nat := []
deriving DecidableEq, Repr

/-- What an FRC engine works on. -/
inductive FrcWork where
  | job (part asn : Nat)
  | take (take index : Nat)
deriving DecidableEq, Repr

/-! ### Video coding (spec 09) -/

/-- A source picture of an encoder context (R260, R261). -/
structure EncSrc where
  frame : Nat := 0
  cid : Nat := 0
  pts : Nat := 0
  colophon : List Byte := []
  /-- MEMORY buffer: (rendition, sink) -/
  buf : Option (Nat × Nat) := none
  /-- PICTURE command: (partition, ASN) -/
  host : Option (Nat × Nat) := none
  /-- judged reserved work when it arrived (R20) -/
  reserved : Bool := false
  /-- R273, in 2^-32 ns -/
  deadline : Nat := 0
deriving DecidableEq, Repr

/-- A source with its place in the mini-GOP structure (R264): type 0 IDR or key, 1 I, 2 P, 3 B. -/
structure EncNext where
  num : Nat
  src : EncSrc
  type : Nat
  /-- numbers of the pictures it references -/
  refs : List Nat := []
deriving DecidableEq, Repr

/-- What one encoder does to its part of a picture (R267, R270). -/
structure Band where
  /-- CTU columns -/
  ctus : Nat := 0
  /-- the band's shares of CAP and T (R272) -/
  cap : Nat := 0
  target : Nat := 0
  /-- rows that the pixel engine has ended -/
  pix : Nat := 0
  /-- rows that the entropy engine has ended -/
  row : Nat := 0
  /-- E of the rows that the pixel engine has ended -/
  est : List Nat := []
  err : Int := 0
  rb : Int := -1
  spent : Nat := 0
  floored : Bool := false
  /-- bits of the picture header, in the first band -/
  hdr : Nat := 0
  /-- A of the rows that the entropy engine has ended, and QP of and basis(n) behind the rows that the pixel engine has ended -/
  acts : List Nat := []
  qps : List Nat := []
  basis : List Nat := []
  /-- the row store: samples of the rows that wait for their commit (R268) -/
  store : List (List Nat) := []
  /-- samples of the rows committed, and the filtered rows written to the reference picture -/
  recs : List (List Nat) := []
  written : List (List Nat) := []
  /-- rows that wait for the seam on the left edge: (row, instant) (R272) -/
  seam : List (Nat × Nat) := []
deriving DecidableEq, Repr

/-- A picture that an encoder codes. -/
structure EncPic where
  num : Nat
  src : EncSrc
  type : Nat
  refs : List Nat := []
  poc : Nat := 0
  qp : Nat := 0
  /-- every row keeps the QP -/
  fixed : Bool := false
  /-- long-term slots that MARK names for it -/
  marks : List Nat := []
  cap : Nat := 0
  target : Nat := 0
  rolled : Bool := false
  bands : List Band := []
deriving DecidableEq, Repr

/-- A committed picture in the frame pool: the filtered rows of its bands, and the scaled pictures made of it (R266, R268). -/
structure RefPic where
  bands : List (List (List Nat)) := []
  quarter : List Nat := []
  sixteenth : List Nat := []
deriving DecidableEq, Repr

/-- An encoder context (R258 to R273). -/
structure EncCtx where
  cfg : Option (List Byte) := none
  /-- CONFIG that waits for pictures in flight: (partition, ASN, descriptor) -/
  nextCfg : Option (Nat × Nat × List Byte) := none
  /-- the MEMORY sink that a SINK context reads: (rendition, sink) -/
  source : Option (Nat × Nat) := none
  /-- sources of the open mini-GOP, by number -/
  held : List (Nat × EncSrc) := []
  /-- pictures to be coded, in coding order -/
  ready : List EncNext := []
  pics : List EncPic := []
  queue : List (List Byte) := []
  ring : RingPos := {}
  /-- buffer fullness F of R269, bits -/
  fullness : Nat := 0
  nextNum : Nat := 0
  /-- short-term references, newest first (R264) -/
  anchors : List Nat := []
  /-- pictures since the last IDR, in input order -/
  sinceIdr : Nat := 0
  /-- FORCE_IRAP names the next picture -/
  force : Bool := false
  /-- the next picture starts a new sequence -/
  fresh : Bool := true
  /-- long-term slot to picture -/
  ltr : List (Nat × Nat) := []
  /-- AV1: reference slot to picture (R264) -/
  slots : List (Nat × Nat) := []
  /-- committed pictures that may be referenced -/
  recons : List (Nat × RefPic) := []
  /-- AV1 CDF tables of the context (R273) -/
  cdf : List Byte := []
  /-- what the present sequence signals: codec, profile, level, tier, width, height, chroma, depth (R256) -/
  sequence : List Nat := []
  /-- LTR operations on the next picture coded: (action, slot) -/
  ltrActs : List (Nat × Nat) := []
  skipped : Nat := 0
  /-- SINK sources that arrive while an END or CONFIG waits -/
  later : List EncSrc := []
  /-- END that waits: (partition, ASN) -/
  ending : Option (Nat × Nat) := none
  /-- arrival of the last source, in 2^-32 ns -/
  lastTime : Option Nat := none
  /-- RELEASE was given: the configuration goes when nothing is in flight -/
  releasing : Bool := false
  /-- FUNC 0x02 was posted for this picture and not yet resolved -/
  asked : Option Nat := none
  /-- what governs the next picture (R271): its number, QP, FIXED, target and cap -/
  plan : Option (Nat × Nat × Bool × Nat × Nat) := none
deriving DecidableEq, Repr

/-- A decoded picture (R275 to R277): its planes as codes, and its flags. -/
structure DecPic where
  w : Nat
  h : Nat
  /-- 1 4:2:0, 2 4:2:2, 3 4:4:4 -/
  chroma : Nat
  depth : Nat
  poc : Nat
  planes : List (List (List Nat))
  flags : Nat := 0
  /-- FUNC 0x03 chose not to output it -/
  hide : Bool := false
  /-- parameters of its film grain, which its output carries (FG_EN) -/
  grain : Option (List Nat) := none
deriving DecidableEq, Repr

/-- A DECODE that waits for an engine (R274). -/
structure DecUnit where
  part : Nat
  asn : Nat
  /-- judged reserved work (R20) -/
  reserved : Bool
deriving DecidableEq, Repr

/-- A unit on an engine, or past it while its pictures wait for ring space. -/
structure DecRun where
  part : Nat
  asn : Nat
  tag : Nat
  engine : Option Nat
  /-- pictures of the unit for which FUNC 0x03 waits; choices made -/
  asking : List Nat := []
  choices : List (Nat × Nat) := []
  /-- pictures closed by the cycle budget, with the number of their blocks decoded by then -/
  closed : List (Nat × Nat) := []
  /-- start on the free-running clock; the engine left the unit when its budget ran out (R278) -/
  started : Nat := 0
  freed : Bool := false
  output : Nat := 0
  /-- deliveries that failed -/
  failed : Nat := 0
  flags : Nat := 0
deriving DecidableEq, Repr

/-- The engine that works on a unit. -/
def DecRun.on (r : DecRun) : Option Nat := if r.freed then none else r.engine

/-- A decoder context (R274 to R278). -/
structure DecCtx where
  cfg : Option (List Byte) := none
  ring : RingPos := {}
  units : List DecUnit := []
  run : Option DecRun := none
  /-- decoded pictures not yet output -/
  held : List DecPic := []
  /-- pictures under output, with TAG -/
  blocked : List (DecPic × Nat) := []
  /-- most recent decoded picture (R277) -/
  last : Option DecPic := none
  /-- pictures that may be referenced: by picture order count, or by AV1 slot -/
  dpb : List (Nat × DecPic) := []
  /-- headers were damaged: every picture is concealed up to the next IRAP picture or key frame (R276) -/
  lost : Bool := false
  /-- the newest sequence: profile, chroma, depth, width, height -/
  sequence : List Nat := []
  /-- the sequence is outside the profile or the maxima (R276) -/
  unsupported : Bool := false
  /-- the engine of the newest unit decoded -/
  ran : Nat := 0
  /-- acceptance of the last DECODE, in ns -/
  lastTime : Option Nat := none
deriving DecidableEq, Repr

/-! ### Display (spec 10) -/

/-- A buffer of a layer's set. -/
structure LayerBuf where
  cid : Nat
  w : Nat
  h : Nat
  planes : List Byte
  /-- row pitch of the first plane -/
  pitch : Nat := 0
  /-- the copy of the Colophon that came with a rendition's output (R84) -/
  colophon : List Byte := []
  /-- a streamed rendition still writes it (R283) -/
  growing : Bool := false
deriving DecidableEq, Repr

/-- A layer's buffer set (R282). -/
structure Layer where
  alloc : Bool := false
  complete : List LayerBuf := []
  latched : Option LayerBuf := none
  /-- the buffer latched before a streamed one (R283) -/
  prev : Option LayerBuf := none
deriving DecidableEq, Repr

/-- A layer of one frame whose buffer a streamed rendition still wrote when the frame began: the lines not yet written when
their fetch was due, which the previous buffer gives (R283). -/
structure Streamed where
  cid : Nat
  late : List Nat := []
  prev : Option LayerBuf := none
deriving DecidableEq, Repr

/-- What governs one scan-out frame, latched at its apply point: the registers of the engine's page, the layers' planes as
(pitch, bytes), and the lines whose layer is transparent from a column on (R282, R288, R291). -/
structure Shot where
  page : Nat
  regs : List (Nat × Nat) := []
  imgs : List (Nat × List (Nat × List Byte)) := []
  under : List (Nat × Nat × Nat) := []
  /-- R292: the SDI port sends black -/
  black : Bool := false
  /-- layer 0's buffer is a streamed one whose pass has not ended -/
  stream : Option Streamed := none
deriving DecidableEq, Repr

/-- A scan-out engine beside its registers. -/
structure Dsp where
  /-- COMMITs that wait for the next apply point: (SEQ, late) -/
  commits : List (Nat × Bool) := []
  /-- the apply point of the next frame has passed -/
  applied : Bool := false
  locked : Bool := false
  /-- a TE instant that waits: the frame starts at it plus TE_DELAY -/
  te : Option Nat := none
  /-- start of the active video of the frame shown -/
  start : Option Nat := none
  underrunWarned : Option Nat := none
  next : Option Shot := none
  shown : Option Shot := none
  /-- the DisplayPort stream does not fit its link (R293) -/
  blanked : Bool := false
deriving DecidableEq, Repr

/-- A head-return feed (R294 to R296). -/
structure Feed where
  /-- lines that wait: (feed frame, line, packed words) -/
  rows : List (Nat × Nat × List Nat) := []
  frame : Nat := 0
  seq : Nat := 0
  /-- the copy of the Colophon that came with the newest rendition output (R84) -/
  colophon : List Byte := []
deriving DecidableEq, Repr

/-- Everything behind the Sections. -/
structure PipeSt where
  assists : List Assist := []
  /-- requests resolved without a reply, by (partition, tag), with function and page -/
  resolved : List (Nat × Nat × Nat × Nat × Resolved) := []
  rends : List (Nat × Rend) := []
  nextInst : Nat := 1
  /-- HOST ring positions by RENDITION_SET number -/
  hostRings : List (Nat × RingPos) := []
  luts : List (Nat × LutSlot) := []
  /-- what each petal's LUT store holds: library slot and its LUT_SEQ (R207) -/
  stores : List (Nat × (Nat × Nat)) := []
  dither : Option (List Nat) := none
  jobs : List Job := []
  /-- last pass of each rendition judged under R20: ANNOUNCED instant -/
  lastJob : List (Nat × Nat) := []
  /-- MEMORY buffers by `rendition * 4 + sink`, in order of release -/
  bufs : List (Nat × List MemBuf) := []
  flt : List (Nat × FltEntry) := []
  takes : List (Nat × Take) := []
  nextTake : Nat := 1
  places : List Place := []
  sets : List (Nat × StripeSet) := []
  mags : List (Nat × Magazine) := []
  engines : List (Nat × FrcWork) := []
  /-- FRC jobs judged reserved work: (partition, ASN); newest acceptance of each job class in ns (R20) -/
  reservedJobs : List (Nat × Nat) := []
  lastClass : List (Nat × Nat) := []
  encs : List (Nat × EncCtx) := []
  /-- the context whose state each encoder holds, once it has coded a picture (R273) -/
  encState : List (Nat × Nat) := []
  decs : List (Nat × DecCtx) := []
  layers : List (Nat × Layer) := []
  dsps : List (Nat × Dsp) := []
  feeds : List (Nat × Feed) := []
  /-- DisplayPort ports whose AUX transaction runs -/
  auxBusy : List Nat := []
  /-- ends of petals' newest LUT store loads on the free-running clock (R207) -/
  loads : List (Nat × Nat) := []
  /-- spans of elapsed ticks, newest first, in which the blocks of pages that report their busy time were busy -/
  spans : List (Nat × List (Nat × Nat)) := []
  /-- ports whose AUX transaction waits for the page's EN (R37) -/
  auxHeld : List Nat := []
deriving DecidableEq, Repr

end Sys2Proof.Machine
end

