-- ==== Sys2Proof/Machine/PowerTypes.lean ====
section
/-! DEFINITION. PowerTypes: power states, sensors, boot and board interfaces beside their registers (spec 01 R27; spec 14;
spec 15). -/

namespace Sys2Proof.Machine

/-- An exit from a power state that runs (R380, R385): the state left, the wake reason, its start in elapsed ticks, and the
calendar time that caused it in Timebase ns. -/
structure PowerExit where
  state : Nat
  reason : Nat
  start : Nat
  due : Option Nat := none
deriving DecidableEq, Repr

/-- A thermal sensor beside its registers (R386, R387). -/
structure Sensor where
  /-- last raw code, and the consecutive samples that gave it -/
  code : Option Int := none
  same : Nat := 0
  /-- consecutive samples without an answer -/
  silent : Nat := 0
  /-- consecutive samples while powered -/
  powered : Nat := 0
deriving DecidableEq, Repr

/-- Power and heat (spec 14), and PLLs out of lock (R27). Group 32 stands for the device (PS4). -/
structure PowerSt where
  /-- groups that are not in PS0, with their state (GRP_STATE) -/
  groups : List (Nat × Nat) := []
  /-- entries that run: group to target state (R315); the group is in PS1 meanwhile -/
  entering : List (Nat × Nat) := []
  leaving : List (Nat × PowerExit) := []
  /-- pages that an entry cost a field, shown in EXIT_INFO after the exit (R44) -/
  marks : List Nat := []
  /-- register file keys of RO fields that PS3 or PS4 cost, which read their reset value until the block changes the value
  that stands beside the key (R44, R45) -/
  blank : List (Nat × Nat) := []
  /-- the device epoch that groups in PS3, and the islands of PS4 (group 32), went to sleep with, kept over a device reset until
  their reinitialisation ends (R46, R343) -/
  stamps : List (Nat × Nat) := []
  /-- last PTP frame received of each port, Timebase ns (R381) -/
  ptpSeen : List (Nat × Nat) := []
  sensors : List (Nat × Sensor) := []
  /-- TJ_MAX and GROUP_T of up to 200 samples before the present one, newest first (R389) -/
  history : List (Int × List (Nat × Int)) := []
  /-- groups whose throttle condition is asserted; and on their sensors that are not broken (R389, R391, R392) -/
  hot : List Nat := []
  hotTrue : List Nat := []
  tripped : Bool := false
  /-- PWR_OK is low (R402) -/
  off : Bool := false
  /-- a brown-out detector took PWR_OK for low -/
  brown : Bool := false
  /-- PLLs out of lock: (CLK page number, k) (R27) -/
  lost : List (Nat × Nat) := []
deriving DecidableEq, Repr

/-- Boot, AVS and the board interfaces (spec 15). -/
structure BoardSt where
  /-- boot stage of the boot ROM (R404), shown in SYS.STAGE -/
  stage : Nat := 0
  /-- PERST_N is asserted -/
  perst : Bool := false
  /-- an AVS command has been acknowledged since power-on (R400) -/
  avsAcked : Bool := false
  /-- boot sources not yet tried in this attempt: 0 slot A, 1 slot B, 2 host (R403) -/
  sources : List Nat := []
  /-- a BOOT_GO that waits for HOST_WAIT (R406) -/
  bootGo : Bool := false
  /-- IMAGE_REV of the host image that runs -/
  hostRev : Nat := 0
  /-- the TAP instruction in force (R417): 0 BYPASS, 1 IDCODE, 2 SAMPLE/PRELOAD, 3 EXTEST, 4 CLAMP, 5 HIGHZ, 6
  EXTEST_PULSE, 7 EXTEST_TRAIN -/
  jtag : Nat := 0
  /-- the next Capture-IR shifts out 0b101 (R417) -/
  jtagFell : Bool := false
  /-- MAX_MHZ as committed to the journal store (R414) -/
  maxMhz : Nat := 200
  /-- FIFOs of the UART, oldest first (R416) -/
  uartTx : List (BitVec 8) := []
  uartRx : List (BitVec 8) := []
  /-- transfers that run on I2C0 and I2C1: (ADDR, WLEN, RLEN) (R415) -/
  i2c : List (Nat × Nat × Nat × Nat) := []
  /-- masters whose transfer waits for the page's EN, and the newest UART characters that do (R37) -/
  i2cHeld : List Nat := []
  uartHeld : Nat := 0
deriving DecidableEq, Repr

end Sys2Proof.Machine
end

