-- ==== Sys2Proof/Machine/Store.lean ====
section
/-! DEFINITION. Store: lists of (key, value) pairs in rising key order, in two kinds: `Sparse`, where an unlisted key
reads as a default and no entry equals it, and `Assoc`, where an unlisted key is absent. -/

namespace Sys2Proof

/-- The value listed at a key. -/
def Assoc.find {α : Type} (l : List (Nat × α)) (k : Nat) : Option α :=
  match l with
  | [] => none
  | e :: r => if e.1 = k then some e.2 else Assoc.find r k

/-- List `v` at `k`, keeping the keys in rising order. -/
def Assoc.put {α : Type} (l : List (Nat × α)) (k : Nat) (v : α) : List (Nat × α) :=
  match l with
  | [] => [(k, v)]
  | e :: r => if e.1 < k then e :: Assoc.put r k v else if e.1 = k then (k, v) :: r else (k, v) :: e :: r

/-- Unlist a key. -/
def Assoc.del {α : Type} (l : List (Nat × α)) (k : Nat) : List (Nat × α) := l.filter fun e => e.1 ≠ k

/-- Change the value at a listed key. -/
def Assoc.upd {α : Type} (l : List (Nat × α)) (k : Nat) (f : α → α) : List (Nat × α) :=
  match Assoc.find l k with
  | none => l
  | some v => Assoc.put l k (f v)

/-- Is the key listed? -/
def Assoc.has {α : Type} (l : List (Nat × α)) (k : Nat) : Bool := (Assoc.find l k).isSome

/-- The value at a key of a sparse store. -/
def Sparse.get {α : Type} (l : List (Nat × α)) (k : Nat) (dflt : α) : α := (Assoc.find l k).getD dflt

/-- Write a sparse store: writing the default unlists the key. -/
def Sparse.set {α : Type} [DecidableEq α] (l : List (Nat × α)) (k : Nat) (v dflt : α) : List (Nat × α) :=
  if v = dflt then Assoc.del l k else Assoc.put l k v

/-- The keys of a list strictly rise. -/
def Store.rising {α : Type} : List (Nat × α) → Bool
  | [] => true
  | [_] => true
  | a :: b :: r => a.1 < b.1 && Store.rising (b :: r)

/-- Unlisted keys read as `dflt`: the canonical form of a sparse store. -/
def Sparse.wf {α : Type} [DecidableEq α] (l : List (Nat × α)) (dflt : Nat → α) : Bool :=
  Store.rising l && l.all fun e => e.2 ≠ dflt e.1

end Sys2Proof
end

