-- ==== Sys2Proof/Machine/TimeTypes.lean ====
section
/-! DEFINITION. TimeTypes: PTP ports, cadences, position channels and compare units (spec 13) beside their registers.
Instants are in 2^-32 ns. -/

namespace Sys2Proof.Machine

/-- A received PTP frame with its ingress timestamp in port time (R357, R358). -/
structure PtpFrame where
  subif : Nat
  ts : Nat
  bytes : List Byte
deriving DecidableEq, Repr

/-- A PTP port (R356, R358): port time in 2^-32 ns modulo 2^48 s. -/
structure PtpPort where
  time : Nat := 0
  rx : List PtpFrame := []
  /-- the frame being sent: (sub-interface, TAG, port time at which its sending began) -/
  tx : Option (Nat × Nat × Nat) := none
  /-- its bytes, while the frame waits for the page's EN (R37) -/
  held : Option (List Byte) := none
  /-- egress timestamps: (TAG, time), oldest first -/
  ts : List (Nat × Nat) := []
  warned : Option Nat := none
deriving DecidableEq, Repr

/-- A cadence beside its registers (R360 to R363). -/
structure Cadence where
  running : Bool := false
  /-- instant 0 of a triggered cadence, or the last TLS instant of a locked one -/
  origin : Option Nat := none
  /-- the k of the next instant to be taken -/
  nextK : Int := 0
  /-- the instant last taken, moved by every Timebase step since, so that differences are elapsed time (R361) -/
  last : Option Int := none
  burst : Nat := 0
  /-- SRC = 1: intervals in 0.25 ns, newest first; consecutive good ones; locked; P_m -/
  tls : List Nat := []
  good : Nat := 0
  locked : Bool := false
  period : Nat := 0
  /-- SRC = 1: a trigger came before lock (R363, log 144) -/
  fired : Bool := false
deriving DecidableEq, Repr

/-- A snapshot of a position channel (R372). -/
structure Snapshot where
  at_ : Nat
  pos : Nat
  rev : Int
  speed : Int
  valid : Bool
  qerr : Nat
  /-- a preset took effect since the snapshot before -/
  preset : Bool := false
deriving DecidableEq, Repr

/-- A position channel beside its registers (R366 to R375). -/
structure Channel where
  /-- filtered levels of A, B and Z -/
  a : Bool := false
  b : Bool := false
  z : Bool := false
  /-- elapsed 4 ns ticks of the previous counted edge -/
  lastEdge : Option Nat := none
  /-- kept intervals, or SSI differences, newest first (R371) -/
  window : List Int := []
  /-- direction of the previous count -/
  dir : Int := 0
  zArmed : Bool := false
  /-- newest first, at most 16,384 -/
  hist : List Snapshot := []
  preset : Bool := false
  /-- QERR_CNT total as counted, for STATUS [2] -/
  qerrs : Nat := 0
  /-- qerrs at the previous latch of each head -/
  lastQerr : List (Nat × Nat) := []
  synth : Int := 0
  /-- counts since power-on, which the synthesised output follows -/
  total : Int := 0
  warned : List (Nat × Nat) := []
  /-- SSI: previous value, for wraps and differences -/
  prevSsi : Option Int := none
deriving DecidableEq, Repr

/-- Timebase, PTP, cadences and position. -/
structure TimeSt where
  ports : List (Nat × PtpPort) := []
  cads : List (Nat × Cadence) := []
  chans : List (Nat × Channel) := []
  /-- compare units that are pulsing -/
  pulsing : List Nat := []
  ppsOut : Bool := false
  /-- a step between GO and its tick, in 2^-32 ns; the DATA of TMB_STEP_FORCED of a forced one (R353, R354) -/
  step : Option (Int × Option (List (BitVec 8))) := none
  /-- last TLS frame instant -/
  tlsLast : Option Nat := none
  /-- latches of frames still to come: (frame key, channel, instant) (R372) -/
  latches : List (Nat × Nat × Nat) := []
deriving DecidableEq, Repr

end Sys2Proof.Machine
end

