-- ==== Sys2Proof/Machine/State.lean ====
section
/-! DEFINITION. State: the device as plain data, with the queue of commands that wait (spec: every register page of R56,
the Parameter Block banks, and what the chapters give the machine beside its registers). -/

namespace Sys2Proof.Machine

/-- What the device sends to the outside: messages, packets, pins. -/
inductive Out where
  | msix (fn vector : Nat)
  | syslog (port subif dst udp : Nat) (text : List Byte)
  | rct (port : Nat) (addr : Nat) (packet : List Byte)
  | ctrl (group : Nat) (m : CtrlMsg)
  | ack (group nextSeq : Nat)
  | time (group kind seq : Nat) (payload : List Nat)
  | retvid (group : Nat) (header : Nat) (payload : List Nat)
  /-- line bits that a Head Link transmitter sends, in order: a lane gathering, or bits of a PRBS sequence (R98, R123) -/
  | line (phys : Nat) (sent : List Bool)
  | ptp (port subif : Nat) (frame : List Byte)
  /-- a frame that a scan-out engine sent on its route: planes of codes, and what goes with it: on SDI whether the ST 352
  payload identifier is inserted (R292); on DisplayPort what the VSC SDP says, then the static HDR metadata (R293) -/
  | video (engine kind index : Nat) (planes : List (List (List Nat))) (side : List Nat)
  /-- an AUX transaction of a DisplayPort port: read or write, address, bytes, data (R293) -/
  | aux (port : Nat) (read : Bool) (addr len : Nat) (data : List Byte)
  /-- an RTP packet of a flow on path 0 or 1, to its destination address and UDP port (R322 to R325) -/
  | flow (flow path dst udp : Nat) (packet : List Byte)
  | pin (name index : Nat) (high : Bool)
  /-- a character on the UART; and a text line of the device's own (R416), whose wording the manual does not give: kind 0
  a stage, 1 a failure code, 2 an event code -/
  | uart (b : Byte)
  /-- a mailbox transfer on I2C master `n`: the address, the bytes written, and how many are read then (R415) -/
  | i2c (n addr : Nat) (data : List Byte) (read : Nat)
  | console (kind value : Nat)
  | unsupported (fn : Nat)
deriving DecidableEq, Repr

/-- The device. Registers have one home, `regs` (and `act`, the active copies of RWQ fields); the rest is what the
manual names and no register holds. -/
structure Dev where
  regs : List (Nat × Nat) := []
  act : List (Nat × Nat) := []
  latched : List (Nat × Nat) := []
  lowHeld : List (Nat × Nat) := []
  hostMem : List Host.Cell := []
  hostFails : List (Nat × Nat × Nat) := []
  /-- MSI-X table entries (function, vector) that the host has not enabled (R303) -/
  vectorsOff : List (Nat × Nat) := []
  reply : List Nat := []
  outs : List Out := []
  free : Nat := 0
  elapsed : Nat := 0
  tb : BitVec 96 := 0
  hst : HostSt := {}
  jnl : JournalSt := {}
  cap : CaptureSt := {}
  tim : TimeSt := {}
  pip : PipeSt := {}
  pow : PowerSt := {}
  brd : BoardSt := {}
deriving DecidableEq, Repr

/-- The machine: the device and the commands that wait, first in first out. -/
structure State where
  pending : List Instr := []
  dev : Dev := {}
deriving DecidableEq, Repr

/-- Why the machine stops: it never does. A block answers every command, one that names no object of the part (a function above
63, a lane above 35) by doing nothing (log 8). -/
inductive Fault where
deriving DecidableEq, Repr

/-- Why a command has no meaning. -/
inductive Refusal where
  /-- The command is not modelled yet. Raised by its arm of `exec`. Safe. -/
  | notModelled (mnemonic : String)
deriving DecidableEq, Repr

/-- The machine after reset: every register at its reset value, nothing waiting. -/
def State.reset : State := {}

end Sys2Proof.Machine
end

