-- ==== Sys2Proof/Machine/Pages.lean ====
section
/-! DEFINITION. Pages: the page map (R56), what PAGE_ID and PAGE_CAP report (R36, R418), and the register file:
reading and writing a field, counters (R42), and clearing by retention class (R43). -/

namespace Sys2Proof.Pg

def SYS : Page := 0x00
def RST : Page := 0x01
def PWR : Page := 0x02
def THM : Page := 0x03
def NVS : Page := 0x04
def EVT : Page := 0x05
def FWM : Page := 0x06
def SCU : Page := 0x07
def CLK (n : Nat) : Page := 0x08 + n % 4
def SPN (n : Nat) : Page := 0x0C + n % 4
def HLQ (n : Nat) : Page := 0x10 + n % 9
def HLL (n : Nat) : Page := 0x20 + n % 8
def MIP (n : Nat) : Page := 0x28 + n % 4
def ING (n : Nat) : Page := 0x2C + n % 4
/-- FEn subpage `k`, in the order CTL, BLK, DPC, SHD, HLR, DMS, WBM, NRD, LNS, STA, TAP, RSP. -/
def FE (n k : Nat) : Page := 0x30 + 12 * (n % 4) + k % 12
def YRC (n : Nat) : Page := 0x60 + n % 4
def YPTA (n : Nat) : Page := 0x64 + 2 * (n % 16)
def YPTB (n : Nat) : Page := 0x65 + 2 * (n % 16)
def FRC (n : Nat) : Page := 0x84 + n % 4
def FRQ : Page := 0x88
def MAG (n : Nat) : Page := 0x89 + n % 8
def STR (n : Nat) : Page := 0x91 + n % 2
def FLT : Page := 0x93
def ENCPIX (n : Nat) : Page := 0x94 + 3 * (n % 6)
def ENCENT (n : Nat) : Page := 0x95 + 3 * (n % 6)
def ENCRC (n : Nat) : Page := 0x96 + 3 * (n % 6)
def DECENT (n : Nat) : Page := 0xA6 + 3 * (n % 2)
def DECPIX (n : Nat) : Page := 0xA7 + 3 * (n % 2)
def DECERR (n : Nat) : Page := 0xA8 + 3 * (n % 2)
def DSP (n : Nat) : Page := 0xAC + n % 16
def SDI (n : Nat) : Page := 0xBC + n % 8
def DPX (n : Nat) : Page := 0xC4 + n % 2
def HIF (n : Nat) : Page := 0xC6 + n % 4
def QMG (n : Nat) : Page := 0xCA + n % 4
def RLK : Page := 0xCE
def NET (n : Nat) : Page := 0xCF + n % 4
def PTP (n : Nat) : Page := 0xD3 + n % 2
def TMB : Page := 0xD5
def PFB (n : Nat) : Page := 0xD6 + n % 16
def PCM (n : Nat) : Page := 0xE6 + n % 2
def HBM (n : Nat) : Page := 0xE8 + n % 4
def MMU (n : Nat) : Page := 0xEC + n % 2
def GPI : Page := 0xEE
def XSP : Page := 0xEF
def I2C (n : Nat) : Page := 0xF0 + n % 2
def UAR : Page := 0xF2

/-- Does the index hold a page (R31, R56)? -/
def isPage (pg : Page) : Bool := pg < 0xF3 && !(0x19 ≤ pg && pg < 0x20)

/-- Every page of the map. -/
def allPages : List Page := (List.range 0xF3).filter isPage

/-- FAMILY code and INSTANCE of a page (R56). -/
def family (pg : Page) : Nat × Nat :=
  if pg < 0x08 then (pg + 1, 0)
  else if pg < 0x0C then (0x10, pg - 0x08)
  else if pg < 0x10 then (0x11, pg - 0x0C)
  else if pg < 0x19 then (0x20, pg - 0x10)
  else if pg < 0x20 then (0, 0)
  else if pg < 0x28 then (0x21, pg - 0x20)
  else if pg < 0x2C then (0x22, pg - 0x28)
  else if pg < 0x30 then (0x23, pg - 0x2C)
  else if pg < 0x60 then (0x30 + (pg - 0x30) % 12, (pg - 0x30) / 12)
  else if pg < 0x64 then (0x40, pg - 0x60)
  else if pg < 0x84 then (0x41 + pg % 2, (pg - 0x64) / 2)
  else if pg < 0x88 then (0x50, pg - 0x84)
  else if pg = 0x88 then (0x51, 0)
  else if pg < 0x91 then (0x52, pg - 0x89)
  else if pg < 0x93 then (0x53, pg - 0x91)
  else if pg = 0x93 then (0x54, 0)
  else if pg < 0xA6 then (0x60 + (pg - 0x94) % 3, (pg - 0x94) / 3)
  else if pg < 0xAC then (0x63 + (pg - 0xA6) % 3, (pg - 0xA6) / 3)
  else if pg < 0xBC then (0x70, pg - 0xAC)
  else if pg < 0xC4 then (0x71, pg - 0xBC)
  else if pg < 0xC6 then (0x72, pg - 0xC4)
  else if pg < 0xCA then (0x80, pg - 0xC6)
  else if pg < 0xCE then (0x81, pg - 0xCA)
  else if pg = 0xCE then (0x82, 0)
  else if pg < 0xD3 then (0x83, pg - 0xCF)
  else if pg < 0xD5 then (0x84, pg - 0xD3)
  else if pg = 0xD5 then (0x90, 0)
  else if pg < 0xE6 then (0x91, pg - 0xD6)
  else if pg < 0xE8 then (0x92, pg - 0xE6)
  else if pg < 0xEC then (0xA0, pg - 0xE8)
  else if pg < 0xEE then (0xA1, pg - 0xEC)
  else if pg = 0xEE then (0xB0, 0)
  else if pg = 0xEF then (0xB1, 0)
  else if pg < 0xF2 then (0xB2, pg - 0xF0)
  else if pg = 0xF2 then (0xB3, 0)
  else (0, 0)

/-- OWN_KIND: 0 device, 1 ownable, 2 per-object (R56). -/
def ownKind (pg : Page) : Nat :=
  let f := (family pg).1
  if f ∈ [0x22, 0x70, 0x71, 0x72, 0x91] then 1
  else if f ∈ [0x06, 0x51, 0x53, 0x80, 0x81, 0x83, 0x90, 0x92] then 2 else 0

/-- ASSIST_CAP: the pages of the table of assisted functions (R54). -/
def assistCap (pg : Page) : Bool := (family pg).1 ∈ [0x39, 0x62, 0x65, 0x32, 0x33, 0x23, 0x53, 0x03, 0x04]

/-- FUNC of the page that posts assist requests (R54). -/
def assistFunc (pg : Page) : Nat :=
  match (family pg).1 with
  | 0x39 => 1 | 0x62 => 2 | 0x65 => 3 | 0x32 => 4 | 0x33 => 5 | 0x23 => 6 | 0x53 => 7 | 0x03 => 8 | 0x04 => 9 | _ => 0

/-- SHADOW_CAP: the pages with RWQ fields: the FE subpages but TAP, whose region holds none (R186), stand for Parameter Block
fields; DSP, SDI and DPX hold RWQ registers. -/
def shadowCap (pg : Page) : Bool := let f := (family pg).1; (0x30 ≤ f && f ≤ 0x3B && f ≠ 0x3A) || f ∈ [0x70, 0x71, 0x72]

/-- Pages that report GROUP 0 (R418). -/
def groupZero (pg : Page) : Bool := (family pg).1 ∈ [0x03, 0x04, 0x90, 0x91, 0x92]

/-- PAGE_CAP.ISLAND (R418). -/
def islandOf (pg : Page) : Nat := Config.island pg % 248

/-- PAGE_CAP.GROUP (R418): 0 for the pages named and for every page on an island that holds one of them. -/
def groupOf (pg : Page) : Nat :=
  if groupZero pg then 0
  else if (allPages.filter groupZero).any (fun q => islandOf q = islandOf pg) then 0
  else Config.islandGroup (islandOf pg) % 32

/-- PAGE_ID (R36). -/
def pageId (pg : Page) : Nat := 1 + (family pg).2 * 2 ^ 8 + (family pg).1 * 2 ^ 16

/-- Block fields of a page. -/
def block (pg : Page) : List Fld :=
  match (family pg).1 with
  | 0x01 => Reg.SYS.all | 0x02 => Reg.RST.all | 0x03 => Reg.PWR.all | 0x04 => Reg.THM.all
  | 0x05 => Reg.NVS.all | 0x06 => Reg.EVT.all | 0x07 => Reg.FWM.all | 0x08 => Reg.SCU.all
  | 0x10 => Reg.CLK.all | 0x11 => Reg.SPN.all | 0x20 => if (family pg).2 = 0 then Reg.HLQ.all else Reg.HLQ.all.filter fun F => F ≠ Reg.HLQ.SSC_EN && F ≠ Reg.HLQ.REF_OK
  | 0x21 => Reg.HLL.all
  | 0x22 => Reg.MIP.all | 0x23 => Reg.ING.all | 0x30 => Reg.FE_CTL.all | 0x31 => Reg.FE_BLK.all
  | 0x32 => Reg.FE_DPC.all | 0x37 => Reg.FE_NRD.all | 0x38 => Reg.FE_LNS.all | 0x39 => Reg.FE_STA.all
  | 0x3B => Reg.FE_RSP.all | 0x40 => Reg.YRC.all | 0x41 => Reg.YPT_A.all | 0x42 => Reg.YPT_B.all
  | 0x50 => Reg.FRC.all | 0x51 => Reg.FRQ.all | 0x52 => Reg.MAG.all | 0x53 => Reg.STR.all
  | 0x54 => Reg.FLT.all | 0x60 => Reg.ENC_PIX.all | 0x61 => Reg.ENC_ENT.all | 0x62 => Reg.ENC_RC.all
  | 0x63 => Reg.DEC_ENT.all | 0x64 => Reg.DEC_PIX.all | 0x65 => Reg.DEC_ERR.all | 0x70 => Reg.DSP.all
  | 0x71 => Reg.SDI.all | 0x72 => Reg.DPX.all | 0x80 => Reg.HIF.all | 0x81 => Reg.QMG.all
  | 0x82 => Reg.RLK.all | 0x83 => if (family pg).2 % 2 = 0 then Reg.NETP.all else Reg.NETF.all
  | 0x84 => Reg.PTP.all | 0x90 => Reg.TMB.all | 0x91 => Reg.PFB.all | 0x92 => Reg.PCM.all
  | 0xA0 => Reg.HBM.all | 0xA1 => Reg.MMU.all | 0xB0 => Reg.GPI.all | 0xB1 => Reg.XSP.all
  | 0xB2 => Reg.I2C.all | 0xB3 => Reg.UAR.all | _ => []

/-- Every field of a page, header first. -/
def fields (pg : Page) : List Fld := Reg.HDR.all ++ block pg

end Sys2Proof.Pg

namespace Sys2Proof

/-- The element of `F` that lies at byte offset `o`, if one does. -/
def Fld.elem (F : Fld) (o : Nat) : Option (Nat × Nat) :=
  if o < F.off then none
  else
    let i := if F.st = 0 then 0 else (o - F.off) / F.st
    let rest := o - F.off - F.st * i
    let j := if F.st2 = 0 then 0 else rest / F.st2
    if i < F.cnt ∧ j < F.cnt2 ∧ rest = F.st2 * j then some (i, j) else none

/-- Fields of a page in the DW at byte offset `o`, with the element. -/
def Pg.inDw (pg : Page) (o : Nat) : List (Fld × Nat × Nat) :=
  (Pg.fields pg).filterMap fun F => (F.elem o).map fun e => (F, e)

/-- Key of a field of a page in the register file; an element number stays within the field, as a page number within its
family, so that no write leaves its page. -/
def regKey (pg : Page) (F : Fld) (i j : Nat) : Nat := (pg * 1024 + F.at (i % F.cnt) (j % F.cnt2) / 4) * 32 + F.lo

/-- The page and byte offset of a register file key. -/
def keyPage (k : Nat) : Page := k / 32 / 1024

def keyOff (k : Nat) : Nat := k / 32 % 1024 * 4

/-- The field a register file key names. -/
def keyField (k : Nat) : Option (Fld × Nat × Nat) :=
  (Pg.inDw (keyPage k) (keyOff k)).find? fun e => e.1.lo = k % 32

/-- The reset value of element `i` of a field, those the tables call "map" included (R36, R25, R21). -/
def resetVal (pg : Page) (F : Fld) (i : Nat) : Nat :=
  match F.map with
  | .none => F.rst
  | .hbmRegions => if (pg - 0xE8) % 2 = 0 then 0xF else 0x30
  | .hbmPool => if (pg - 0xE8) % 2 = 0 then 23616 else 23040
  | .hlqLogical => let n := 4 * (pg - 0x10) + i; if n < 32 then n else 0x3F
  | .hllPhys => 4 * (pg - 0x20) + i
  | .grpMax => if i = 0 then 0x33333330 else 0x33333333
  | .pageEn => if 0xAC ≤ pg ∧ pg < 0xBC ∨ 0x28 ≤ pg ∧ pg < 0x2C then 0 else 1

namespace Machine

/-- Read element `(i, j)` of a field: of an RWQ field the shadow copy (R42). -/
def Dev.rd (d : Dev) (pg : Page) (F : Fld) (i : Nat := 0) (j : Nat := 0) : Nat :=
  Sparse.get d.regs (regKey pg F i j) (resetVal pg F i)

/-- Write element `(i, j)` of a field: the value is cut to the field's width. -/
def Dev.wr (d : Dev) (pg : Page) (F : Fld) (v : Nat) (i : Nat := 0) (j : Nat := 0) : Dev :=
  { d with regs := Sparse.set d.regs (regKey pg F i j) (v % 2 ^ F.width) (resetVal pg F i) }

/-- The active copy of an RWQ field (R42). -/
def Dev.rdA (d : Dev) (pg : Page) (F : Fld) (i : Nat := 0) (j : Nat := 0) : Nat :=
  Sparse.get d.act (regKey pg F i j) (resetVal pg F i)

def Dev.wrA (d : Dev) (pg : Page) (F : Fld) (v : Nat) (i : Nat := 0) (j : Nat := 0) : Dev :=
  { d with act := Sparse.set d.act (regKey pg F i j) (v % 2 ^ F.width) (resetVal pg F i) }

/-- A one-bit field as a Bool. -/
def Dev.on (d : Dev) (pg : Page) (F : Fld) (i : Nat := 0) : Bool := d.rd pg F i = 1

/-- Add to a counter: it saturates unless its meaning says "modulo" (R42). -/
def Dev.bump (d : Dev) (pg : Page) (F : Fld) (i : Nat := 0) (n : Nat := 1) : Dev :=
  d.wr pg F (if F.wrap then d.rd pg F i + n else min (d.rd pg F i + n) (2 ^ F.width - 1)) i

/-- A 64-bit register pair (R31). -/
def Dev.rd64 (d : Dev) (pg : Page) (L H : Fld) (i : Nat := 0) : Nat := d.rd pg L i + 2 ^ 32 * d.rd pg H i

def Dev.wr64 (d : Dev) (pg : Page) (L H : Fld) (v : Nat) (i : Nat := 0) : Dev :=
  (d.wr pg L v i).wr pg H (v / 2 ^ 32) i

/-- Return the fields that `sel` picks to their reset values, both copies (R43). -/
def Dev.clearRegs (d : Dev) (sel : Page → Fld → Nat → Bool) : Dev :=
  let keep := fun (e : Nat × Nat) => match keyField e.1 with
    | none => true
    | some (F, i, _) => !sel (keyPage e.1) F i
  { d with regs := d.regs.filter keep, act := d.act.filter keep }

end Machine
end Sys2Proof
end

