-- ==== Sys2Proof/Machine/Ops.lean ====
section
/-! DEFINITION. Ops: host memory, interrupts, errors, RCT packets, events and the journal: the operations the meanings
share (spec 02 R40, R41; spec 11 R317 to R320; spec 12 R330, R344, R345). -/

namespace Sys2Proof.Machine

/-- The Timebase in whole nanoseconds, modulo 2^64 (R350). -/
def Dev.ns (d : Dev) : Nat := d.tb.toNat / 2 ^ 32

/-- The free-running clock in 2^-32 ns, which no step moves: it measures intervals (R355). -/
def Dev.clock (d : Dev) : Nat := d.elapsed * (5 * 2 ^ 30)

/-- An interval of that clock in whole units of `unit` ns (R5). -/
def intervalIn (unit t : Nat) : Nat := evenDiv t (unit * 2 ^ 32)

/-- FWM.RUN_HOURS: the hours that clocks have run, at 800 MHz. -/
def Dev.runHours (d : Dev) : Nat := d.jnl.powered / 2880000000000

/-- Send something to the outside. -/
def Dev.emit (d : Dev) (o : Out) : Dev := { d with outs := o :: d.outs }

/-- The device's own text line on the UART, unless the host owns it (R416). -/
def Dev.console (d : Dev) (kind value : Nat) : Dev :=
  if d.on Pg.UAR Reg.UAR.HOST_OWN then d else d.emit (.console kind value)

/-- A free value of `w` bits; each call on a new state of the counter gives its own. -/
def Dev.freeNow (d : Dev) (w : Nat) : Nat := (Config.freeValue d.free).toNat % 2 ^ w

/-- Move on to the next free value. -/
def Dev.freeStep (d : Dev) : Dev := { d with free := d.free + 1 }

/-- A warning raised at most once per second is due again: `last` is the elapsed tick count of the one before. -/
def Dev.due (d : Dev) (last : Option Nat) : Bool :=
  match last with
  | none => true
  | some t => t + 800000000 ≤ d.elapsed

/-- The device shed level (R392). -/
def Dev.shed (d : Dev) : Nat := d.rd Pg.THM Reg.THM.SHED_LEVEL

/-- Does the PLL `e` (CLK page number, k) clock a page's block (R27)? SDI ports run from the PLL of their rate; the management
core pairs show in FWM. -/
def Dev.clockedBy (d : Dev) (e : Nat × Nat) (pg : Page) : Bool :=
  let (fam, inst) := Pg.family pg
  match e with
  | (0, 0) | (0, 1) => true
  | (0, 2) => fam = 0x05 || fam = 0x07 || fam = 0xB1
  | (1, 0) => fam = 0x20 && inst ≤ 4
  | (1, 1) => fam = 0x20 && 5 ≤ inst
  | (1, 2) => (fam = 0x83 && inst < 2) || (fam = 0x84 && inst = 0)
  | (1, 3) => (fam = 0x83 && 2 ≤ inst) || (fam = 0x84 && inst = 1)
  | (2, 0) => fam = 0x80
  | (2, 1) => fam = 0x52 && inst < 4
  | (2, 2) => fam = 0x52 && 4 ≤ inst
  | (3, 0) => fam = 0x71 && !(d.rdA pg Reg.SDI.RATE ∈ [0, 3, 6])
  | (3, 1) => fam = 0x71 && d.rdA pg Reg.SDI.RATE ∈ [0, 3, 6]
  | (3, 2) => fam = 0x72 && inst = 0
  | (3, 3) => fam = 0x72 && inst = 1
  | (3, 4) => fam = 0x70
  | _ => false

/-- Is a page's block held by a PLL that has lost lock (R27)? -/
def Dev.held (d : Dev) (pg : Page) : Bool := d.pow.lost.any fun e => d.clockedBy e pg

/-- No clock runs: power is off, the device has tripped, it rests after SHUTDOWN, or its core clocks are lost. -/
def Dev.stopped (d : Dev) : Bool :=
  d.pow.off || d.pow.tripped || d.jnl.image || d.pow.lost.contains (0, 0) || d.pow.lost.contains (0, 1)

/-- Does a page's block take new work: EN, and neither resetting, in FAULT, retired nor held (R27, R37, R38)? The register
store's STATE is 0 but in the states 3, 4, 6 and 7; what a read shows else follows from EN and the work in flight. -/
def Dev.works (d : Dev) (pg : Page) : Bool := d.on pg Reg.HDR.EN && d.rd pg Reg.HDR.STATE = 0 && !d.held pg

/-! ### Partitions and functions -/

def Dev.part (d : Dev) (p : PartId) : PartRec := Sparse.get d.hst.parts p (PartRec.initial p)

def Dev.setPart (d : Dev) (p : PartId) (r : PartRec) : Dev :=
  { d with hst := { d.hst with parts := Sparse.set d.hst.parts p r (PartRec.initial p) } }

def Dev.updPart (d : Dev) (p : PartId) (f : PartRec → PartRec) : Dev := d.setPart p (f (d.part p))

/-- Partition `p`'s queue registers: page and element of QMG. -/
def qmg (p : PartId) : Page × Nat := (Pg.QMG (p / 32), p % 32)

/-- Function `f`'s registers: page and element of HIF. -/
def hif (f : Nat) : Page × Nat := (Pg.HIF (f / 16), f % 16)

/-- Is the host link up: PERST_N is high and its PLL is locked (R27, R403)? -/
def Dev.hostLink (d : Dev) : Bool := !d.brd.perst && !d.pow.lost.contains (2, 0)

/-- Does the PCIe function of a partition exist, with the host link up (R297)? -/
def Dev.hasFn (d : Dev) (p : PartId) : Bool := d.hostLink && (p = 0 || (p < 64 && p ≤ d.hst.numVfs))

/-- Owner of object `o` of RESOURCE_ASSIGN kind `k` (R302). -/
def Dev.ownerOf (d : Dev) (k o : Nat) : PartId := Sparse.get d.hst.owner (k * 65536 + o) 0

/-- Reservation of object `o` of kind `k` (R301, R302). -/
def Dev.reserved (d : Dev) (k o : Nat) : Nat := Sparse.get d.hst.reserve (k * 65536 + o) 0

/-! ### Host memory -/

/-- The host-memory cell of byte `a` of partition `p`'s host. -/
def hostKey (p : PartId) (a : Nat) : Nat := p * 2 ^ 64 + a % 2 ^ 64

def Dev.hostByte (d : Dev) (p : PartId) (a : Nat) : Byte := Sparse.get d.hostMem (hostKey p a) 0

/-- `n` bytes of the host memory of partition `p` from address `a`. -/
def Dev.hostRead (d : Dev) (p : PartId) (a n : Nat) : List Byte := (List.range n).map fun i => d.hostByte p (a + i)

def Dev.hostPut (d : Dev) (p : PartId) (a : Nat) (b : Byte) : Dev :=
  { d with hostMem := Sparse.set d.hostMem (hostKey p a) b 0 }

/-- Write bytes to the host memory of partition `p` from address `a`. -/
def Dev.hostWrite (d : Dev) (p : PartId) (a : Nat) : List Byte → Dev
  | [] => d
  | b :: r => (d.hostPut p a b).hostWrite p (a + 1) r

/-- Does an access of `n` bytes at `a` reach the host's memory? -/
def Dev.hostOk (d : Dev) (p : PartId) (a n : Nat) : Bool :=
  d.hasFn p && !d.hostFails.any fun f => f.1 = p && f.2.1 < a + n && a < f.2.1 + f.2.2

/-! ### Interrupts and errors -/

/-- An MSI-X message: sent when the function exists, has the vector, and its table has it enabled (R41, R298, R303). -/
def Dev.msix (d : Dev) (fn vector : Nat) : Dev :=
  if d.hasFn fn ∧ vector < (d.part fn).msix ∧ !d.vectorsOff.contains (fn, vector) then d.emit (.msix fn vector) else d

/-- An access of `n` bytes to BAR0 or BAR4: one that is not 32 bits wide is unsupported and has no effect (R30). -/
def Dev.sized (d : Dev) (f n : Nat) (k : Dev → Dev) : Dev :=
  if n = 4 then k d else if d.hasFn f then d.emit (.unsupported f) else d

/-- INT_STAT as read: bit 31 is 1 while any ERR_STAT bit is 1 (R36). -/
def Dev.intStat (d : Dev) (pg : Page) : Nat :=
  d.rd pg Reg.HDR.INT_STAT + (if d.rd pg Reg.HDR.ERR_STAT ≠ 0 ∨ d.rd pg Reg.HDR.OVF ≠ 0 then 2 ^ 31 else 0)

/-- INT_STAT & INT_EN is non-zero (R41). -/
def Dev.intPending (d : Dev) (pg : Page) : Bool := d.intStat pg &&& d.rd pg Reg.HDR.INT_EN != 0

/-! ### The ledger -/

/-- Append a ledger record (R330). -/
def Dev.record (d : Dev) (p : PartId) (asn : Nat) (b : Body) : Dev :=
  let r : LedgerRec := { part := p, seq := d.jnl.nextSeq, asn := asn, time := d.ns, body := b }
  let free := 1048576 - (d.jnl.ledger.length + 1)
  let d := { d with jnl := { d.jnl with ledger := d.jnl.ledger ++ [r], nextSeq := (d.jnl.nextSeq + 1) % 2 ^ 32,
                                        lowest := min d.jnl.lowest free } }
  let d := d.bump Pg.NVS Reg.NVS.RECORDS_CNT
  d.wr Pg.NVS Reg.NVS.LEDGER_MIN (min (d.rd Pg.NVS Reg.NVS.LEDGER_MIN) free)

/-- Is every PLACE record of an ASN followed by a STRIPE_DURABLE of its stripe (R331)? -/
def allPlaced (p asn : Nat) : List LedgerRec → Bool
  | [] => true
  | r :: l => (match r.body with
    | .place set stripe _ _ _ _ => !(r.part = p && r.asn = asn) || l.any (fun q => match q.body with
        | .stripeDurable s t _ => s = set && t = stripe
        | _ => false)
    | _ => true) && allPlaced p asn l

/-- May the records of an ASN be reclaimed: a POSTED record exists, or a FRAME_COMMIT that has no completion, and every
placement is durable (R331)? -/
def reclaimable (l : List LedgerRec) (p asn : Nat) : Bool :=
  l.any (fun r => r.part = p && r.asn = asn && (match r.body with
    | .posted => true
    | .frameCommit _ _ _ _ _ => true
    | _ => false)) && allPlaced p asn l

/-- Is a record of the kind that R249 keeps until an index segment holds its entry? -/
def Body.isFlt : Body → Bool
  | .fltUpdate _ _ => true
  | _ => false

/-- Drop STRIPE_DURABLE records that no PLACE record needs. -/
def dropDurable (l : List LedgerRec) : List LedgerRec :=
  l.filter fun r => match r.body with
    | .stripeDurable s t _ => l.any fun q => match q.body with
      | .place set stripe _ _ _ _ => s = set && t = stripe
      | _ => false
    | _ => true

/-- Reclaim the records of an ASN when R331 allows it; R249 keeps table entries. -/
def Dev.reclaim (d : Dev) (p asn : Nat) : Dev :=
  if reclaimable d.jnl.ledger p asn then
    { d with jnl := { d.jnl with ledger := dropDurable (d.jnl.ledger.filter fun r =>
        !(r.part = p && r.asn = asn) || r.body.isFlt) } }
  else d

/-- Free ledger records (NVS.LEDGER_FREE). -/
def Dev.ledgerFree (d : Dev) : Nat := 1048576 - d.jnl.ledger.length

/-! ### RCT packets -/

/-- SACK of a session: bit i says that SEQ ACK + 1 + i has been received (R317). -/
def Session.sack (s : Session) : Nat :=
  s.early.foldl (fun a e => if s.rxNext < e.1 ∧ e.1 - s.rxNext - 1 < 64 then a ||| 2 ^ (e.1 - s.rxNext - 1) else a) 0

/-- The 24 B header of an RCT packet (R317). -/
def rctHeader (type sess len seq ack sack : Nat) : List Byte :=
  leBytes 2 0x4352 ++ leBytes 1 1 ++ leBytes 1 type ++ leBytes 2 sess ++ leBytes 2 len ++ leBytes 4 seq ++
    leBytes 4 ack ++ leBytes 8 sack

/-- A packet with its MAC (R317, R318); OPEN packets carry a MAC of zeros. -/
def rctPacket (s : Session) (id type seq : Nat) (payload : List Byte) : List Byte :=
  let h := rctHeader type id payload.length seq (if 0x10 ≤ type ∧ type ≤ 0x13 then 0 else s.rxNext)
    (if 0x10 ≤ type ∧ type ≤ 0x13 then 0 else s.sack)
  let m := if 0x10 ≤ type ∧ type ≤ 0x13 then zeros 16 else (Crypto.hmac s.key (h ++ payload)).take 16
  h ++ payload ++ m

/-- Does a packet type take a SEQ (R319)? -/
def rctNumbered (type : Nat) : Bool := type ∈ [0x01, 0x02, 0x03, 0x04, 0x14]

def Dev.setSession (d : Dev) (id : Nat) (s : Session) : Dev :=
  { d with hst := { d.hst with sessions := Assoc.put d.hst.sessions id s } }

/-- A numbered packet leaves. -/
def Dev.rctIssue (d : Dev) (id : Nat) (s : Session) (x : RctPacket) : Dev :=
  (d.setSession id { s with txSeq := s.txSeq + 1, unacked := s.unacked ++ [{ x with seq := s.txSeq }] }).emit
    (.rct s.port s.addr (rctPacket s id x.type s.txSeq x.payload))

/-- Send a packet of a session: numbered packets take the next SEQ, at most 256 stay unacknowledged (R319), and a
session in HOLD queues its RESPONSEs and the DATA that precedes them (R321), as every session does once the power-loss
sequence has stopped the network (R338). -/
def Dev.rctSend (d : Dev) (id type : Nat) (payload : List Byte) (orphan : Option Orphan := none) : Dev :=
  let x : RctPacket := { type := type, payload := payload, orphan := orphan }
  match Assoc.find d.hst.sessions id with
  | none => d
  | some s =>
    if s.state = .hold ∨ d.jnl.powerLoss = true then (if type = 0x04 ∨ type = 0x03 then d.setSession id { s with queued := s.queued ++ [x] } else d)
    else if !rctNumbered type then d.emit (.rct s.port s.addr (rctPacket s id type 0 payload))
    else if 256 ≤ s.unacked.length then d.setSession id { s with waiting := s.waiting ++ [x] }
    else d.rctIssue id s x

/-- The session attached to a queue pair of a network partition. -/
def Dev.sessionOf (d : Dev) (p q : Nat) : Option Nat :=
  (d.hst.sessions.find? fun e => e.2.part = p && e.2.queue = q && e.2.state ≠ .challenged).map (·.1)

/-- A RESPONSE carrying a record: RKIND 0 completion, 1 event record, 2 assist request (R317). -/
def rctResponse (rkind : Nat) (rec : List Byte) : List Byte := leBytes 1 rkind ++ zeros 7 ++ rec

/-! ### Rings and events -/

/-- Unreturned records a ring holds. -/
def Ring.used (r : Ring) : Nat := (r.tail + r.depth - r.head) % r.depth

/-- Put a record into a ring: `rec` gets the record's bytes from the phase bit (R308, R316). -/
def Dev.ringPut (d : Dev) (p : PartId) (r : Ring) (size rkind : Nat) (rec : Bool → List Byte) : Dev × Ring :=
  let bytes := rec r.phase
  let t := (r.tail + 1) % r.depth
  let r' := { r with tail := t, phase := if t = 0 then !r.phase else r.phase }
  if p < 64 then
    let d := if d.hostOk p (r.base + size * r.tail) size then d.hostWrite p (r.base + size * r.tail) bytes else d
    (if r.irqEn then d.msix p r.vector else d, r')
  else
    let d := match d.sessionOf p 0 with
      | none => d
      | some id => d.rctSend id 0x04 (rctResponse rkind bytes)
    (d, { r' with kept := r'.kept ++ [bytes] })

/-- The 32 B event record (R344). -/
def Event.bytes (e : Event) (phase : Bool) : List Byte :=
  leBytes 8 e.time ++ leBytes 1 e.page ++ leBytes 1 (e.cls + 8 * b2n e.summary + 128 * b2n phase) ++
    leBytes 2 e.code ++ leBytes 4 e.count ++ fit 16 e.data

/-- Is the class posted: ALARM and FAULT always, the others by CLASSES (R316)? -/
def Ring.takes (r : Ring) (cls : Nat) : Bool := cls ≤ 1 || bitAt r.classes (cls - 2)

/-- Step 2 of R345: count an INFO or WARN event in a summary slot, or in the catch-all when 256 are in use. -/
def coalesce (l : List Summary) (e : Event) : List Summary :=
  let hit := fun (s : Summary) => s.page = e.page && s.code = e.code
  let bump := fun (s : Summary) => { s with count := s.count + 1, last := e.time }
  if l.any hit then l.map fun s => if hit s then bump s else s
  else
    let all := fun (s : Summary) => s.page = 0xFF && s.code = 0
    if (l.filter fun s => !all s).length < 256 then l ++ [⟨e.page, e.code, e.cls, 1, e.time, e.time⟩]
    else if l.any all then l.map fun s => if all s then bump s else s
    else l ++ [⟨0xFF, 0, e.cls, 1, e.time, e.time⟩]

/-- Step 4 of R345: the reserved entries are full and a FAULT or ALARM event is lost to the ring. The interrupt that INT_STAT
bit 0 may cause follows once the event has gone its way (Dev.lossInterrupt). -/
def Dev.loseEvent (d : Dev) (p : PartId) : Dev :=
  let d := (d.bump Pg.EVT Reg.EVT.LOSS_CNT p).wr Pg.EVT Reg.EVT.LOSS 1 p
  let d := d.wr Pg.SYS Reg.SYS.EVENT_LOSS 1
  let d := d.wr Pg.EVT Reg.HDR.INT_STAT (d.rd Pg.EVT Reg.HDR.INT_STAT ||| 1)
  d.updPart p fun r => { r with lost := r.lost + 1 }

/-- Give an event to a partition: post it, or shed it under R345; the first entry to become free is EVENT_LOSS's. -/
def Dev.postEvent (d : Dev) (p : PartId) (e : Event) : Dev :=
  let r := d.part p
  let take := match r.evt with
    | none => e.cls ≤ 4
    | some g => g.takes e.cls
  if !take then d
  else
    let room := match r.evt with
      | none => false
      | some g => r.lost = 0 && g.used + 1 < g.depth && (e.cls ≤ 1 || g.used + 1 + min 64 (g.depth / 2) < g.depth)
    match r.evt, room with
    | some g, true =>
      let (d, g) := d.ringPut p g 32 1 e.bytes
      d.updPart p fun r => { r with evt := some g }
    | _, _ =>
      if e.cls = 4 then d.bump Pg.EVT Reg.EVT.TRACE_DROP_CNT p
      else if 2 ≤ e.cls then
        (d.bump Pg.EVT Reg.EVT.COALESCE_CNT p).updPart p fun r => { r with summaries := coalesce r.summaries e }
      else d.loseEvent p

/-- Hexadecimal text of `n` digits. -/
def hexText (n v : Nat) : List Byte :=
  ascii (String.ofList ((List.range n).map fun i => Nat.digitChar (v / 16 ^ (n - 1 - i) % 16)))

/-- The RFC 5424 message of a mirrored event (R346): facility 16, nil timestamp, host name and process. -/
def syslogText (e : Event) : List Byte :=
  let sev := match e.cls with | 0 => 1 | 1 => 3 | 2 => 4 | 3 => 6 | _ => 7
  ascii ("<" ++ toString (16 * 8 + sev) ++ ">1 - - AQ7160 - ") ++ hexText 4 e.code ++ ascii " - " ++ hexText 2 e.page ++
    ascii " " ++ hexText 8 e.count ++ ascii " " ++ (fit 16 e.data).flatMap fun b => hexText 2 b.toNat

/-- Send a mirrored message (R346). -/
def Dev.sendSyslog (d : Dev) (text : List Byte) : Dev :=
  let (c, dst, udp) := d.hst.syslog
  d.emit (.syslog (bits c 4 1) (bits c 5 2) dst (if udp % 65536 = 0 then 514 else udp % 65536) text)

/-- May a message go out through a sub-interface: its link is up, its port in service, and the network not stopped (R338, R341)? -/
def Dev.mayMirror (d : Dev) (port subif : Nat) : Bool :=
  bitAt (d.rd (Pg.NET (2 * port)) Reg.NETP.LINK_UP) subif && !d.hst.portsDown.contains port && !d.jnl.powerLoss

/-- Mirror an event to syslog (R346): sent when the sub-interface can carry it, else it waits (SYSLOG_SEND_TIMEOUT). -/
def Dev.mirror (d : Dev) (e : Event) : Dev :=
  let c := d.hst.syslog.1
  if bits c 0 1 = 0 ∨ bits c 1 3 < e.cls then d
  else if d.mayMirror (bits c 4 1) (bits c 5 2) then d.sendSyslog (syslogText e)
  else { d with hst := { d.hst with syslogQueue := d.hst.syslogQueue ++ [syslogText e] } }

/-- The interrupt of page EVT when events are lost: its message and, with INT_ROUTE.EVT, an INFO event, which loses nothing
further (R36, R41, R345). -/
def Dev.lossInterrupt (d : Dev) : Dev :=
  let p := d.rd Pg.EVT Reg.HDR.PART
  let d := d.msix p (d.rd Pg.EVT Reg.HDR.VECTOR)
  if d.on Pg.EVT Reg.HDR.EVT then
    let e : Event := { time := d.ns, page := Pg.EVT, cls := 3, code := 0x0103, data := leBytes 4 (d.intStat Pg.EVT) }
    (d.postEvent p e).mirror e
  else d

/-- Raise an event for partition `p` (R344): FAULT and ALARM enter the fault history (R340), an ALARM also goes to
partition 0. Where the manual gives the event no DATA (`data` is empty), DATA is a free value. -/
def Dev.event (d : Dev) (p : PartId) (pg : Page) (cls code : Nat) (data : List Byte := []) (count : Nat := 1) : Dev :=
  let (d, data) := if data = [] then
      (d.freeStep.freeStep, leBytes 8 (d.freeNow 64) ++ leBytes 8 (d.freeStep.freeNow 64))
    else (d, data)
  let e : Event := { time := d.ns, page := pg, cls := cls, code := code, count := count, data := data }
  let d := if cls ≤ 1 then
      let d : Dev := { d with jnl := { d.jnl with
        faults := ((e, d.rd Pg.NVS Reg.NVS.EPOCH, p) :: d.jnl.faults).take 262144,
        faultsLost := if d.jnl.faults.length < 262144 then d.jnl.faultsLost else d.jnl.faultsLost + 1 } }
      (d.bump Pg.EVT Reg.EVT.FAULT_LOG_CNT).console 2 code
    else d
  let was := d.intPending Pg.EVT
  let d := d.postEvent p e
  let d := if cls = 0 ∧ p ≠ 0 then d.postEvent 0 e else d
  if !was && d.intPending Pg.EVT then (d.mirror e).lossInterrupt else d.mirror e

/-- Classes of events (R344). -/
def ALARM : Nat := 0
def FAULT : Nat := 1
def WARN : Nat := 2
def INFO : Nat := 3

/-- The interrupt of a page: its message and, with INT_ROUTE.EVT, an INFO event (R41, R36). -/
def Dev.interrupt (d : Dev) (pg : Page) : Dev :=
  let p := d.rd pg Reg.HDR.PART
  let d := d.msix p (d.rd pg Reg.HDR.VECTOR)
  if d.on pg Reg.HDR.EVT then d.event p pg INFO 0x0103 (leBytes 4 (d.intStat pg)) else d

/-- Apply a change to a page; it signals an interrupt when INT_STAT & INT_EN becomes non-zero (R41). -/
def Dev.watch (d : Dev) (pg : Page) (f : Dev → Dev) : Dev :=
  let d' := f d
  if !d.intPending pg && d'.intPending pg then d'.interrupt pg else d'

/-- A block goes out of service: STATE FAULT, and a FAULT event (R36, R341). -/
def Dev.blockFault (d : Dev) (pg : Page) : Dev := (d.wr pg Reg.HDR.STATE 6).event 0 pg FAULT 0x0907 [BitVec.ofNat 8 pg]

/-- `n` free bytes, and the state after they are drawn. -/
def Dev.freeBytes (d : Dev) (n : Nat) : Dev × List Byte :=
  ({ d with free := d.free + n }, (List.range n).map fun i => (Config.freeValue (d.free + i)).truncate 8)

/-- Set an INT_STAT bit of a page (R36, R41). -/
def Dev.raise (d : Dev) (pg : Page) (bit : Nat) : Dev :=
  d.watch pg fun d => d.wr pg Reg.HDR.INT_STAT (d.rd pg Reg.HDR.INT_STAT ||| 2 ^ bit)

/-- An error of a page (R40): the first error after ERR_STAT was all zero is captured, a later one sets OVF. The
manual gives no block error codes and no details: CODE and DETAIL are free values. Once every ERR_STAT bit has been cleared,
ERR_INFO keeps showing the old capture until the next error: R40 gives no value (DESIGN CHOICE, log 127). -/
def Dev.error (d : Dev) (pg : Page) (bit : Nat) : Dev :=
  d.watch pg fun d =>
    let clear := d.rd pg Reg.HDR.ERR_STAT = 0 ∧ d.rd pg Reg.HDR.OVF = 0
    let d1 := d.wr pg Reg.HDR.ERR_STAT (d.rd pg Reg.HDR.ERR_STAT ||| 2 ^ bit)
    if clear then
      (((d1.wr pg Reg.HDR.ERR_CODE (d1.freeNow 8)).wr pg Reg.HDR.ERR_BIT bit).wr pg Reg.HDR.ERR_DETAIL
        (d1.freeNow 24 / 2 ^ 8)).freeStep
    else d1.wr pg Reg.HDR.OVF 1

/-- Append a ledger record; a ledger stall begins when fewer than 65,536 records are left free (R330, R331). -/
def Dev.journal (d : Dev) (p asn : Nat) (b : Body) : Dev :=
  let d' := d.record p asn b
  if 65536 ≤ d.ledgerFree ∧ d'.ledgerFree < 65536 then
    let d' : Dev := { d' with jnl := { d'.jnl with stalls := d'.jnl.stalls + 1 } }
    (d'.bump Pg.NVS Reg.NVS.LEDGER_STALL_CNT).raise Pg.NVS 1
  else d'

/-- A completion has left in a RESPONSE: its POSTED record is written (R330). -/
def Dev.rctPosted (d : Dev) (p : PartId) (o : Option Orphan) : Dev :=
  match o with
  | some o => (d.journal p o.asn .posted).reclaim p o.asn
  | none => d

/-- Send a completion to a network partition: it is posted when its RESPONSE leaves (R320, R330). -/
def Dev.rctReply (d : Dev) (id type : Nat) (payload : List Byte) (o : Option Orphan) : Dev :=
  let seq := fun (d : Dev) => (Assoc.find d.hst.sessions id).map (·.txSeq)
  let d' := d.rctSend id type payload o
  match Assoc.find d.hst.sessions id with
  | some s => if seq d = seq d' then d' else d'.rctPosted s.part o
  | none => d'

/-- An uncorrectable error of the journal store is counted and reported (R341). -/
def Dev.mramReport (d : Dev) : Dev :=
  let d := (d.bump Pg.NVS Reg.NVS.ECC_UNCORR_CNT).error Pg.NVS 0
  (d.wr Pg.SYS Reg.SYS.MRAM_UNCORR 1).event 0 Pg.NVS ALARM 0x090A

end Sys2Proof.Machine
end

