-- ==== Sys2Proof/Machine/ParamFields.lean ====
section
/-! DEFINITION. Parameter Block fields (R33): the per-context regions of a bank and the rendition slot,
with the range rule each field has at promotion (R89, R131, R186, R189, R204). Offsets lie within the
4 KiB region; every field is RWQ, class C. Resets that are no single number (DCMP_T, M, WM, OM, RW, WT,
CH, CV, Z2_RGB) are completed by `Sys2Proof.Pb.resetDw`. -/

namespace Sys2Proof.Pb

def CTL.EXPOSURE_NS_LO : PFld := { off := 0x800, lo := 0, width := 32 }
def CTL.EXPOSURE_NS_HI : PFld := { off := 0x804, lo := 0, width := 32 }
def CTL.ANALOG_GAIN : PFld := { off := 0x808, lo := 0, width := 32, rst := 0x10000 }
def CTL.READOUT_MODE : PFld := { off := 0x80C, lo := 0, width := 16 }
def CTL.ND_STEP : PFld := { off := 0x80C, lo := 16, width := 8 }
def CTL.WIDTH : PFld := { off := 0x810, lo := 0, width := 16 }
def CTL.HEIGHT : PFld := { off := 0x810, lo := 16, width := 16 }
def CTL.ROI_X : PFld := { off := 0x814, lo := 0, width := 16 }
def CTL.ROI_Y : PFld := { off := 0x814, lo := 16, width := 16 }
def CTL.BIT_DEPTH : PFld := { off := 0x818, lo := 0, width := 5 }
def CTL.HEAD_DATA : PFld := { off := 0x820, lo := 0, width := 32, cnt := 56, st := 0x4 }
def CTL.CFG_WIDTH : PFld := { off := 0x900, lo := 0, width := 16, rst := 0x1000, rng := .nat 1 32768 }
def CTL.CFG_HEIGHT : PFld := { off := 0x900, lo := 16, width := 16, rst := 0x870, rng := .nat 1 16384 }
def CTL.SHORT_POLICY : PFld := { off := 0x904, lo := 0, width := 1 }
def CTL.INJECT_REQ : PFld := { off := 0x904, lo := 8, width := 1 }
def CTL.FRAME_TIMEOUT : PFld := { off := 0x908, lo := 0, width := 24, rst := 0x186A0, rng := .nat 1000 16777215 }
def CTL.ROW_TIMEOUT : PFld := { off := 0x90C, lo := 0, width := 20, rst := 0x7D0, rng := .nat 10 1048575 }
def CTL.FILL0 : PFld := { off := 0x910, lo := 0, width := 16 }
def CTL.FILL1 : PFld := { off := 0x910, lo := 16, width := 16 }
def CTL.FILL2 : PFld := { off := 0x914, lo := 0, width := 16 }
def CTL.FILL3 : PFld := { off := 0x914, lo := 16, width := 16 }
def CTL.DCMP_EN : PFld := { off := 0x400, lo := 0, width := 1 }
def CTL.DCMP_T : PFld := { off := 0x600, lo := 0, width := 20, cnt := 65, st := 0x4 }

/-- Every field of the CTL region. -/
def CTL.all : List PFld :=
  [CTL.EXPOSURE_NS_LO, CTL.EXPOSURE_NS_HI, CTL.ANALOG_GAIN, CTL.READOUT_MODE, CTL.ND_STEP, CTL.WIDTH, CTL.HEIGHT, CTL.ROI_X, CTL.ROI_Y, CTL.BIT_DEPTH, CTL.HEAD_DATA, CTL.CFG_WIDTH] ++
  [CTL.CFG_HEIGHT, CTL.SHORT_POLICY, CTL.INJECT_REQ, CTL.FRAME_TIMEOUT, CTL.ROW_TIMEOUT, CTL.FILL0, CTL.FILL1, CTL.FILL2, CTL.FILL3, CTL.DCMP_EN, CTL.DCMP_T]

def BLK.BLK_EN : PFld := { off := 0x400, lo := 0, width := 1, rst := 0x1 }
def BLK.COLFPN_EN : PFld := { off := 0x400, lo := 1, width := 1 }
def BLK.ROWFPN_EN : PFld := { off := 0x400, lo := 2, width := 1 }
def BLK.OB_X0 : PFld := { off := 0x404, lo := 0, width := 15 }
def BLK.OB_LOG2 : PFld := { off := 0x404, lo := 16, width := 4, rst := 0x4, rng := .nat 3 8 }
def BLK.ROW_LIMIT : PFld := { off := 0x408, lo := 0, width := 16, rst := 0x1000 }
def BLK.BLK_OFS : PFld := { off := 0x500, lo := 0, width := 20, cnt := 64, st := 0x4 }

/-- Every field of the BLK region. -/
def BLK.all : List PFld :=
  [BLK.BLK_EN, BLK.COLFPN_EN, BLK.ROWFPN_EN, BLK.OB_X0, BLK.OB_LOG2, BLK.ROW_LIMIT, BLK.BLK_OFS]

def DPC.MAP_EN : PFld := { off := 0x400, lo := 0, width := 1 }
def DPC.DYN_EN : PFld := { off := 0x400, lo := 1, width := 1 }
def DPC.MAP_COUNT : PFld := { off := 0x404, lo := 0, width := 19, rng := .nat 0 262144 }
def DPC.DYN_ABS : PFld := { off := 0x408, lo := 0, width := 24, rst := 0x10000 }
def DPC.DYN_REL : PFld := { off := 0x40C, lo := 0, width := 8, rst := 0x40 }
def DPC.PROMOTE : PFld := { off := 0x40C, lo := 8, width := 8, rst := 0x8, rng := .nat 1 255 }

/-- Every field of the DPC region. -/
def DPC.all : List PFld :=
  [DPC.MAP_EN, DPC.DYN_EN, DPC.MAP_COUNT, DPC.DYN_ABS, DPC.DYN_REL, DPC.PROMOTE]

def SHD.SHD_EN : PFld := { off := 0x400, lo := 0, width := 1 }
def SHD.CAL_ARM : PFld := { off := 0x400, lo := 1, width := 1 }
def SHD.GW : PFld := { off := 0x404, lo := 0, width := 8, rst := 0x2, rng := .nat 2 129 }
def SHD.GH : PFld := { off := 0x404, lo := 8, width := 8, rst := 0x2, rng := .nat 2 65 }
def SHD.GX_STEP : PFld := { off := 0x408, lo := 0, width := 32 }
def SHD.GY_STEP : PFld := { off := 0x40C, lo := 0, width := 32 }
def SHD.PLANE : PFld := { off := 0x500, lo := 0, width := 32, cnt := 8, st := 0x4 }

/-- Every field of the SHD region. -/
def SHD.all : List PFld :=
  [SHD.SHD_EN, SHD.CAL_ARM, SHD.GW, SHD.GH, SHD.GX_STEP, SHD.GY_STEP, SHD.PLANE]

def HLR.HLR_EN : PFld := { off := 0x400, lo := 0, width := 1 }
def HLR.CLIP_L : PFld := { off := 0x404, lo := 0, width := 20, rst := 0xFFFFF, cnt := 4, st := 0x4 }
def HLR.NORM : PFld := { off := 0x414, lo := 0, width := 16, rst := 0x1000, cnt := 4, st := 0x4 }
def HLR.INV : PFld := { off := 0x414, lo := 16, width := 16, rst := 0x1000, cnt := 4, st := 0x4 }

/-- Every field of the HLR region. -/
def HLR.all : List PFld :=
  [HLR.HLR_EN, HLR.CLIP_L, HLR.NORM, HLR.INV]

def DMS.ALG : PFld := { off := 0x400, lo := 0, width := 2, rst := 0x1 }
def DMS.CUST_H : PFld := { off := 0x400, lo := 8, width := 4, rst := 0x2, rng := .nat 1 8 }
def DMS.CUST_W : PFld := { off := 0x400, lo := 12, width := 4, rst := 0x2, rng := .nat 1 8 }
def DMS.RES_SHIFT : PFld := { off := 0x400, lo := 16, width := 4, rst := 0xC }
def DMS.CUST_PAT : PFld := { off := 0x410, lo := 0, width := 32, cnt := 4, st := 0x4 }
def DMS.WT : PFld := { off := 0x420, lo := 0, width := 32, cnt := 4, st := 0x4 }

/-- Every field of the DMS region. -/
def DMS.all : List PFld :=
  [DMS.ALG, DMS.CUST_H, DMS.CUST_W, DMS.RES_SHIFT, DMS.CUST_PAT, DMS.WT]

def WBM.WB_R : PFld := { off := 0x400, lo := 0, width := 16, rst := 0x1000 }
def WBM.WB_G : PFld := { off := 0x400, lo := 16, width := 16, rst := 0x1000 }
def WBM.WB_B : PFld := { off := 0x404, lo := 0, width := 16, rst := 0x1000 }
def WBM.M : PFld := { off := 0x410, lo := 0, width := 32, cnt := 9, st := 0x4 }
def WBM.O : PFld := { off := 0x440, lo := 0, width := 32, cnt := 3, st := 0x4 }
def WBM.MTX_EXP : PFld := { off := 0x44C, lo := 0, width := 8, rng := .int (-20) (20) }

/-- Every field of the WBM region. -/
def WBM.all : List PFld :=
  [WBM.WB_R, WBM.WB_G, WBM.WB_B, WBM.M, WBM.O, WBM.MTX_EXP]

def NRD.SNR_EN : PFld := { off := 0x400, lo := 0, width := 1 }
def NRD.TNR_EN : PFld := { off := 0x400, lo := 1, width := 1 }
def NRD.NR_SSTR : PFld := { off := 0x404, lo := 0, width := 32, rst := 0x3F800000, rng := .f32nn }
def NRD.NR_RSCALE : PFld := { off := 0x408, lo := 0, width := 32, rst := 0x42800000, rng := .f32nn }
def NRD.NR_TSCALE : PFld := { off := 0x40C, lo := 0, width := 32, rst := 0x42800000, rng := .f32nn }
def NRD.SPW : PFld := { off := 0x410, lo := 0, width := 32, rst := 0x3F800000, cnt := 9, st := 0x4, rng := .f32nn }
def NRD.RW : PFld := { off := 0x480, lo := 0, width := 32, cnt := 32, st := 0x4, rng := .f32nn }
def NRD.TW : PFld := { off := 0x500, lo := 0, width := 32, cnt := 32, st := 0x4, rng := .f32nn }

/-- Every field of the NRD region. -/
def NRD.all : List PFld :=
  [NRD.SNR_EN, NRD.TNR_EN, NRD.NR_SSTR, NRD.NR_RSCALE, NRD.NR_TSCALE, NRD.SPW, NRD.RW, NRD.TW]

def LNS.LNS_EN : PFld := { off := 0x400, lo := 0, width := 1 }
def LNS.LW : PFld := { off := 0x404, lo := 0, width := 7, rst := 0x2, rng := .nat 2 65 }
def LNS.LH : PFld := { off := 0x404, lo := 8, width := 6, rst := 0x2, rng := .nat 2 37 }
def LNS.LX_STEP : PFld := { off := 0x408, lo := 0, width := 32 }
def LNS.LY_STEP : PFld := { off := 0x40C, lo := 0, width := 32 }
def LNS.REACH : PFld := { off := 0x410, lo := 0, width := 10, rst := 0x40, rng := .nat 0 512 }

/-- Every field of the LNS region. -/
def LNS.all : List PFld :=
  [LNS.LNS_EN, LNS.LW, LNS.LH, LNS.LX_STEP, LNS.LY_STEP, LNS.REACH]

def STA.AE_EN : PFld := { off := 0x400, lo := 1, width := 1 }
def STA.AWB_EN : PFld := { off := 0x400, lo := 2, width := 1 }
def STA.SUB_LOG2 : PFld := { off := 0x400, lo := 4, width := 2 }
def STA.ZW : PFld := { off := 0x404, lo := 0, width := 8, rst := 0x20, rng := .nat 1 128 }
def STA.ZH : PFld := { off := 0x404, lo := 8, width := 8, rst := 0x12, rng := .nat 1 72 }
def STA.HIST_BASE : PFld := { off := 0x404, lo := 16, width := 8, rst := 0xF2, rng := .int (-14) (-5) }
def STA.FOC_WIN_LO : PFld := { off := 0x480, lo := 0, width := 32, cnt := 16, st := 0x8 }
def STA.FOC_WIN_HI : PFld := { off := 0x484, lo := 0, width := 32, cnt := 16, st := 0x8 }
def STA.FLK_FREQ : PFld := { off := 0x500, lo := 0, width := 32, cnt := 4, st := 0x4 }
def STA.FLK_STEP : PFld := { off := 0x510, lo := 0, width := 32, cnt := 4, st := 0x4 }
def STA.FLK_MIN_DEPTH : PFld := { off := 0x520, lo := 0, width := 32, rst := 0x3CA3D70A, rng := .f32nn }
def STA.AE_TARGET : PFld := { off := 0x530, lo := 0, width := 32, rst := 0x3E3851EC, rng := .aeTarget }
def STA.AE_GAIN : PFld := { off := 0x534, lo := 0, width := 32, rst := 0x3F000000, rng := .f32nn }
def STA.AE_STEP_MAX : PFld := { off := 0x538, lo := 0, width := 32, rst := 0x3F800000, rng := .f32nn }
def STA.AE_DEAD : PFld := { off := 0x53C, lo := 0, width := 32, rst := 0x3D4CCCCD, rng := .f32nn }
def STA.AE_EXP_MIN_LO : PFld := { off := 0x540, lo := 0, width := 32, rst := 0x3E8 }
def STA.AE_EXP_MIN_HI : PFld := { off := 0x544, lo := 0, width := 32 }
def STA.AE_EXP_MAX_LO : PFld := { off := 0x548, lo := 0, width := 32, rst := 0xF42400 }
def STA.AE_EXP_MAX_HI : PFld := { off := 0x54C, lo := 0, width := 32 }
def STA.AE_GAIN_MAX : PFld := { off := 0x550, lo := 0, width := 32, rst := 0x100000 }
def STA.AE_ZONE : PFld := { off := 0x554, lo := 0, width := 32, rst := 0x1118070E }
def STA.AE_OUT_W : PFld := { off := 0x558, lo := 0, width := 32, rst := 0x3E800000, rng := .f32nn }
def STA.AWB_GAIN : PFld := { off := 0x560, lo := 0, width := 32, rst := 0x3F000000, rng := .f32nn }
def STA.AWB_LO : PFld := { off := 0x564, lo := 0, width := 32, rst := 0x3C23D70A, rng := .f32 }
def STA.AWB_HI : PFld := { off := 0x568, lo := 0, width := 32, rst := 0x3F666666, rng := .f32 }
def STA.RING_ADDR_LO : PFld := { off := 0x580, lo := 0, width := 32 }
def STA.RING_ADDR_HI : PFld := { off := 0x584, lo := 0, width := 32 }
def STA.RING_SLOTS : PFld := { off := 0x588, lo := 0, width := 16, rng := .nat 0 256 }
def STA.RING_SLOT_BYTES : PFld := { off := 0x58C, lo := 0, width := 32 }

/-- Every field of the STA region. -/
def STA.all : List PFld :=
  [STA.AE_EN, STA.AWB_EN, STA.SUB_LOG2, STA.ZW, STA.ZH, STA.HIST_BASE, STA.FOC_WIN_LO, STA.FOC_WIN_HI, STA.FLK_FREQ, STA.FLK_STEP, STA.FLK_MIN_DEPTH, STA.AE_TARGET] ++
  [STA.AE_GAIN, STA.AE_STEP_MAX, STA.AE_DEAD, STA.AE_EXP_MIN_LO, STA.AE_EXP_MIN_HI, STA.AE_EXP_MAX_LO, STA.AE_EXP_MAX_HI, STA.AE_GAIN_MAX, STA.AE_ZONE, STA.AE_OUT_W, STA.AWB_GAIN, STA.AWB_LO] ++
  [STA.AWB_HI, STA.RING_ADDR_LO, STA.RING_ADDR_HI, STA.RING_SLOTS, STA.RING_SLOT_BYTES]

def RSP.SEAL_GRACE : PFld := { off := 0x400, lo := 0, width := 16, rst := 0x1F4 }
def RSP.RELEASE_LATENCY : PFld := { off := 0x404, lo := 0, width := 20, rst := 0x8235, rng := .nat 1000 1048575 }
def RSP.ECHO_LIMIT : PFld := { off := 0x408, lo := 0, width := 8, rst := 0x8, rng := .nat 1 255 }
def RSP.MISMATCH_RESEND : PFld := { off := 0x408, lo := 8, width := 8, rst := 0x3, rng := .nat 1 255 }
def RSP.RESPIN_MAX : PFld := { off := 0x40C, lo := 0, width := 2, rst := 0x2, rng := .nat 0 2 }

/-- Every field of the RSP region. -/
def RSP.all : List PFld :=
  [RSP.SEAL_GRACE, RSP.RELEASE_LATENCY, RSP.ECHO_LIMIT, RSP.MISMATCH_RESEND, RSP.RESPIN_MAX]

def REND.SRC_X : PFld := { off := 0x0, lo := 0, width := 16 }
def REND.SRC_Y : PFld := { off := 0x0, lo := 16, width := 16 }
def REND.SRC_W : PFld := { off := 0x4, lo := 0, width := 16 }
def REND.SRC_H : PFld := { off := 0x4, lo := 16, width := 16 }
def REND.DST_W : PFld := { off := 0x8, lo := 0, width := 16, rst := 0x780, rng := .nat 1 16384 }
def REND.DST_H : PFld := { off := 0x8, lo := 16, width := 16, rst := 0x438, rng := .nat 1 16384 }
def REND.COEF_EN : PFld := { off := 0xC, lo := 0, width := 1 }
def REND.WMTX_EN : PFld := { off := 0xC, lo := 1, width := 1 }
def REND.CDL_EN : PFld := { off := 0xC, lo := 2, width := 1 }
def REND.CDL_EXT : PFld := { off := 0xC, lo := 3, width := 1 }
def REND.CDL_CCT : PFld := { off := 0xC, lo := 4, width := 1 }
def REND.SHAPER_EN : PFld := { off := 0xC, lo := 5, width := 1 }
def REND.LUT3D_EN : PFld := { off := 0xC, lo := 6, width := 1 }
def REND.OMTX_EN : PFld := { off := 0xC, lo := 7, width := 1 }
def REND.TRANSFER : PFld := { off := 0x10, lo := 0, width := 3 }
def REND.ANALYSIS : PFld := { off := 0x10, lo := 4, width := 2 }
def REND.CHROMA : PFld := { off := 0x10, lo := 8, width := 2 }
def REND.H_SITING : PFld := { off := 0x10, lo := 10, width := 1 }
def REND.V_SITING : PFld := { off := 0x10, lo := 11, width := 1 }
def REND.RANGE : PFld := { off := 0x10, lo := 12, width := 1 }
def REND.DITHER : PFld := { off := 0x10, lo := 13, width := 2 }
def REND.DEPTH : PFld := { off := 0x10, lo := 16, width := 5, rst := 0xA, rng := .nat 8 16 }
def REND.PACK : PFld := { off := 0x10, lo := 24, width := 3, rng := .nat 0 5 }
def REND.LUT_SLOT : PFld := { off := 0x14, lo := 0, width := 9 }
def REND.EXP_GAIN : PFld := { off := 0x18, lo := 0, width := 32, rst := 0x3F800000, rng := .f32 }
def REND.CDL_SAT : PFld := { off := 0x1C, lo := 0, width := 32, rst := 0x3F800000, rng := .f32 }
def REND.KR : PFld := { off := 0x20, lo := 0, width := 32, rst := 0x3E59B3D0, rng := .f32 }
def REND.KB : PFld := { off := 0x24, lo := 0, width := 32, rst := 0x3D93DD98, rng := .f32 }
def REND.PQ_NITS : PFld := { off := 0x28, lo := 0, width := 32, rst := 0x42C80000, rng := .f32 }
def REND.HLG_SCALE : PFld := { off := 0x2C, lo := 0, width := 32, rst := 0x3F800000, rng := .f32 }
def REND.WM : PFld := { off := 0x30, lo := 0, width := 32, cnt := 12, st := 0x4, rng := .f32 }
def REND.OM : PFld := { off := 0x60, lo := 0, width := 32, cnt := 12, st := 0x4, rng := .f32 }
def REND.SLOPE : PFld := { off := 0x90, lo := 0, width := 32, rst := 0x3F800000, cnt := 3, st := 0x4, rng := .f32 }
def REND.OFFSET : PFld := { off := 0x9C, lo := 0, width := 32, cnt := 3, st := 0x4, rng := .f32 }
def REND.POWER : PFld := { off := 0xA8, lo := 0, width := 32, rst := 0x3F800000, cnt := 3, st := 0x4, rng := .f32 }
def REND.FC_T : PFld := { off := 0xC0, lo := 0, width := 32, cnt := 15, st := 0x4, rng := .f32 }
def REND.FC_RGB : PFld := { off := 0x100, lo := 0, width := 32, cnt := 16, st := 0x10, cnt2 := 3, st2 := 0x4, rng := .f32 }
def REND.FC_EN : PFld := { off := 0x10C, lo := 0, width := 1, cnt := 16, st := 0x10 }
def REND.Z1_LO : PFld := { off := 0x200, lo := 0, width := 32, rst := 0x3F733333, rng := .f32 }
def REND.Z1_HI : PFld := { off := 0x204, lo := 0, width := 32, rst := 0x477FE000, rng := .f32 }
def REND.Z2_LO : PFld := { off := 0x208, lo := 0, width := 32, rst := 0x3F333333, rng := .f32 }
def REND.Z2_HI : PFld := { off := 0x20C, lo := 0, width := 32, rst := 0x3F4CCCCD, rng := .f32 }
def REND.Z1_RGB : PFld := { off := 0x210, lo := 0, width := 32, cnt2 := 3, st2 := 0x4, rng := .f32 }
def REND.Z2_RGB : PFld := { off := 0x220, lo := 0, width := 32, cnt2 := 3, st2 := 0x4, rng := .f32 }
def REND.Z1_EN : PFld := { off := 0x230, lo := 0, width := 1, rst := 0x1 }
def REND.Z2_EN : PFld := { off := 0x230, lo := 1, width := 1 }
def REND.Z_ANIM : PFld := { off := 0x230, lo := 2, width := 1, rst := 0x1 }
def REND.CH : PFld := { off := 0x400, lo := 0, width := 32, cnt := 256, st := 0x4 }
def REND.CV : PFld := { off := 0x800, lo := 0, width := 32, cnt := 192, st := 0x4 }

/-- Every field of a rendition slot. -/
def REND.all : List PFld :=
  [REND.SRC_X, REND.SRC_Y, REND.SRC_W, REND.SRC_H, REND.DST_W, REND.DST_H, REND.COEF_EN, REND.WMTX_EN, REND.CDL_EN, REND.CDL_EXT, REND.CDL_CCT, REND.SHAPER_EN] ++
  [REND.LUT3D_EN, REND.OMTX_EN, REND.TRANSFER, REND.ANALYSIS, REND.CHROMA, REND.H_SITING, REND.V_SITING, REND.RANGE, REND.DITHER, REND.DEPTH, REND.PACK, REND.LUT_SLOT] ++
  [REND.EXP_GAIN, REND.CDL_SAT, REND.KR, REND.KB, REND.PQ_NITS, REND.HLG_SCALE, REND.WM, REND.OM, REND.SLOPE, REND.OFFSET, REND.POWER, REND.FC_T] ++
  [REND.FC_RGB, REND.FC_EN, REND.Z1_LO, REND.Z1_HI, REND.Z2_LO, REND.Z2_HI, REND.Z1_RGB, REND.Z2_RGB, REND.Z1_EN, REND.Z2_EN, REND.Z_ANIM, REND.CH] ++
  [REND.CV]

end Sys2Proof.Pb
end

