-- ==== Sys2Proof/Machine/Params.lean ====
section
/-! DEFINITION. Params: Parameter Block banks: fields of a generation, promotion ranges (R33, R61, R89, R186, R189). -/

namespace Sys2Proof.Pb

/-- DW index in a bank of byte `off` of FE region `k` (order CTL, BLK, ... RSP) (R33). -/
def feDw (k off : Nat) : Nat := (0x1000 * (k + 1) + off) / 4

/-- DW index in a bank of byte `off` of rendition slot `s` (R33). -/
def slotDw (s off : Nat) : Nat := (0x10000 + 0x1000 * s + off) / 4

def one : Nat := 0x3F800000

/-- The cubic weights W[p][0 … 3] of R161, 14 fraction bits. -/
def cubic (p k : Nat) : Int :=
  let p : Int := p
  let w0 := rnd (-p * p * p + 128 * p * p - 4096 * p) 5
  let w2 := rnd (-3 * p * p * p + 256 * p * p + 4096 * p) 5
  let w3 := rnd (p * p * p - 64 * p * p) 5
  match k with
  | 0 => w0 | 2 => w2 | 3 => w3 | _ => 16384 - w0 - w2 - w3

/-- The default horizontal (8 taps) and vertical (6 taps) coefficients of R191. -/
def defaultH (p k : Nat) : Int := if 2 ≤ k ∧ k < 6 then cubic p (k - 2) else 0

def defaultV (p k : Nat) : Int := if 1 ≤ k ∧ k < 5 then cubic p (k - 1) else 0

/-- Two 16-bit coefficients as a DW. -/
def pair16 (a b : Int) : Nat := unsgn 16 a + 2 ^ 16 * unsgn 16 b

/-- Reset values that are no constant of a field: the identity decompanding table, the identity matrices, the noise
weights, the identity zone levels, the R191 coefficients (spec 06 and 07). -/
def specialDw (dw : Nat) : Option Nat :=
  let o := dw * 4
  if o < 0x10000 then
    let k := o / 0x1000
    let x := o % 0x1000
    if k = 1 ∧ 0x600 ≤ x ∧ x < 0x704 then some (min ((x - 0x600) / 4 * 16384) 1048575)
    else if k = 7 ∧ x ∈ [0x410, 0x420, 0x430] then some 0x100000
    else if k = 8 ∧ x = 0x480 then some one
    else if k = 6 ∧ 0x420 ≤ x ∧ x < 0x430 then
      some ([0x5A80B4FF, 0x17202D40, 0x06080B10, 0x01020304].getD ((x - 0x420) / 4) 0)
    else none
  else if o < 0x20000 then
    let x := o % 0x1000
    if x ∈ [0x30, 0x44, 0x58, 0x60, 0x74, 0x88] then some one
    else if x ∈ [0x220, 0x224, 0x228] then some one
    else if 0x400 ≤ x ∧ x < 0x800 then
      let i := (x - 0x400) / 4
      some (pair16 (defaultH (i / 4) (2 * (i % 4))) (defaultH (i / 4) (2 * (i % 4) + 1)))
    else if 0x800 ≤ x ∧ x < 0xB00 then
      let i := (x - 0x800) / 4
      some (pair16 (defaultV (i / 3) (2 * (i % 3))) (defaultV (i / 3) (2 * (i % 3) + 1)))
    else none
  else none

/-- Fields of a bank's DW, with the element: those of its FE region or of its rendition slot. -/
def inDw (dw : Nat) : List (PFld × Nat × Nat) :=
  let o := dw * 4
  let x := o % 0x1000
  let table := if o < 0x1000 then [] else if o < 0xD000 then (match o / 0x1000 - 1 with
      | 0 => CTL.all | 1 => BLK.all | 2 => DPC.all | 3 => SHD.all | 4 => HLR.all | 5 => DMS.all | 6 => WBM.all
      | 7 => NRD.all | 8 => LNS.all | 9 => STA.all | 11 => RSP.all | _ => [])
    else if o < 0x10000 then [] else REND.all
  table.filterMap fun F =>
    if x < F.off then none
    else
      let i := if F.st = 0 then 0 else (x - F.off) / F.st
      let rest := x - F.off - F.st * i
      let j := if F.st2 = 0 then 0 else rest / F.st2
      if i < F.cnt ∧ j < F.cnt2 ∧ rest = F.st2 * j then some (F, i, j) else none

/-- The reset value of a bank's DW. -/
def resetDw (dw : Nat) : Nat :=
  match specialDw dw with
  | some v => v
  | none => (inDw dw).foldl (fun a e => a ||| e.1.rst * 2 ^ e.1.lo) 0

/-- A DW of a bank; unlisted DWs read their reset. -/
def dw (b : List (Nat × Nat)) (i : Nat) : Nat := Sparse.get b i (resetDw i)

def setDw (b : List (Nat × Nat)) (i v : Nat) : List (Nat × Nat) := Sparse.set b i (v % 2 ^ 32) (resetDw i)

/-- The bits of a DW that hold fields; the others are reserved and read 0 (R4). -/
def mask (i : Nat) : Nat := (inDw i).foldl (fun a e => a ||| ((2 ^ e.1.width - 1) * 2 ^ e.1.lo)) 0

/-- Byte `o` of a bank. -/
def byte (b : List (Nat × Nat)) (o : Nat) : Byte := BitVec.ofNat 8 (dw b (o / 4) / 2 ^ (8 * (o % 4)))

/-- Write byte `o` of a bank: reserved bits stay 0. -/
def setByte (b : List (Nat × Nat)) (o : Nat) (v : Byte) : List (Nat × Nat) :=
  setDw b (o / 4) (setBits (dw b (o / 4)) (8 * (o % 4)) 8 v.toNat &&& mask (o / 4))

/-- Field `F`, element `(i, j)`, of the region that starts at DW `base`. -/
def field (b : List (Nat × Nat)) (base : Nat) (F : PFld) (i : Nat := 0) (j : Nat := 0) : Nat :=
  let k := base + F.at i j / 4
  match Assoc.find b k with
  | some v => bits v F.lo F.width
  | none => match specialDw k with
    | some v => bits v F.lo F.width
    | none => F.rst

/-- Field of FE region `k`. -/
def fe (b : List (Nat × Nat)) (k : Nat) (F : PFld) (i : Nat := 0) (j : Nat := 0) : Nat := field b (feDw k 0) F i j

/-- Field of rendition slot `s`. -/
def slot (b : List (Nat × Nat)) (s : Nat) (F : PFld) (i : Nat := 0) (j : Nat := 0) : Nat := field b (slotDw s 0) F i j

/-- A binary32 code that is a NaN or an infinity. -/
def notFinite (v : Nat) : Bool := bits v 23 8 = 255

/-- A field's value as promotion leaves it (R89, R131, R186, R189, R204). -/
def clamp (r : Rng) (w v : Nat) : Nat :=
  match r with
  | .any => v
  | .nat lo hi => max lo (min hi v)
  | .int lo hi => unsgn w (sat (sgn w v) lo hi)
  | .f32 => if notFinite v then 0 else v
  | .f32nn => if notFinite v then 0 else if bitAt v 31 then 0 else v
  | .aeTarget =>
    let v := if notFinite v then 0 else v
    if bitAt v 31 then 0x33800000 else max 0x33800000 (min 0x477FE000 v)

/-- A DW as promotion leaves it. -/
def clampDw (i v : Nat) : Nat :=
  (inDw i).foldl (fun a e => setBits a e.1.lo e.1.width (clamp e.1.rng e.1.width (bits v e.1.lo e.1.width))) 0

/-- A bank as promotion leaves it. -/
def clampBank (b : List (Nat × Nat)) : List (Nat × Nat) := b.foldl (fun a e => setDw a e.1 (clampDw e.1 e.2)) []

/-- `b` with the DWs of `from` on indices that `sel` picks (R64, R65). -/
def graft (b src : List (Nat × Nat)) (idx : List Nat) : List (Nat × Nat) :=
  idx.foldl (fun a i => setDw a i (dw src i)) b

/-- DW indices of the head-settings area (R64). -/
def headArea : List Nat := seqFrom (feDw 0 0x800) 64

/-- The 256 bytes of the head-settings area (R108). -/
def headBytes (b : List (Nat × Nat)) : List Byte := headArea.flatMap fun i => leBytes 4 (dw b i)

/-- The 4 KiB regions in which two banks differ (R77): FE regions, then rendition slots. -/
def differs (a b : List (Nat × Nat)) (lo hi : Nat) : Bool :=
  (a ++ b).any fun e => lo ≤ e.1 && e.1 < hi && dw a e.1 != dw b e.1

def differsFe (a b : List (Nat × Nat)) : Bool := differs a b (feDw 0 0) (feDw 12 0)

def differsSlot (a b : List (Nat × Nat)) (s : Nat) : Bool := differs a b (slotDw s 0) (slotDw (s + 1) 0)

/-- The 128 KiB of a generation (R88 PARAM_DIGEST). The bytes of the bank's 4 KiB header in it
(R33) are zeros: DESIGN CHOICE (log 97). -/
def bankBytes (b : List (Nat × Nat)) : List Byte := (List.range 32768).flatMap fun i => leBytes 4 (dw b i)

end Sys2Proof.Pb
end

