-- ==== Sys2Proof/Machine/Host.lean ====
section
/-! DEFINITION. Host: submission entries, completions, host data (spec 11 R303 to R309, R320; spec 12 R330, R331, R339). -/

namespace Sys2Proof.Machine

/-- Generic status codes (spec 11) and those of spec 12. -/
inductive Status where
  | SUCCESS | INVALID_OPCODE | WRONG_QUEUE | INVALID_FIELD | INVALID_TARGET | NOT_PERMITTED | ABORTED | XFER_ERROR
  | SGL_INVALID | QUEUE_INVALID | RESOURCE_LIMIT | OBJECT_BUSY | RANGE_INVALID
  | RESET_ABORTED | FW_IMAGE | FW_SLOT | FW_BUSY | FW_ACT_FAILED | FW_COLD
  /-- a code of another chapter's space, with its notice bit -/
  | code (n : Nat) (notice : Bool)
deriving DecidableEq, Repr

/-- STATUS and NOTICE of a status. -/
def Status.value : Status → Nat × Bool
  | .SUCCESS => (0x00, false) | .INVALID_OPCODE => (0x01, false) | .WRONG_QUEUE => (0x02, false)
  | .INVALID_FIELD => (0x03, false) | .INVALID_TARGET => (0x04, false) | .NOT_PERMITTED => (0x05, false)
  | .ABORTED => (0x06, false) | .XFER_ERROR => (0x07, false) | .SGL_INVALID => (0x08, false)
  | .QUEUE_INVALID => (0x09, false) | .RESOURCE_LIMIT => (0x0A, false) | .OBJECT_BUSY => (0x0B, false)
  | .RANGE_INVALID => (0x0C, false) | .RESET_ABORTED => (0x20, false) | .FW_IMAGE => (0x21, false)
  | .FW_SLOT => (0x22, false) | .FW_BUSY => (0x23, false) | .FW_ACT_FAILED => (0x24, false) | .FW_COLD => (0x28, true)
  | .code n b => (n, b)

/-- Field `[lo+w-1:lo]` of DW `i` of a submission entry. -/
def sf (e : List Nat) (i lo w : Nat) : Nat := bits (dwAt e i) lo w

/-- OPCODE of an entry. -/
def opcode (e : List Nat) : Nat := sf e 0 0 8

def queueKey (p q : Nat) : Nat := p * 65536 + q

def cmdKey (p asn : Nat) : Nat := p * 2 ^ 64 + asn

def Dev.queue? (d : Dev) (p q : Nat) : Option Queue := Assoc.find d.hst.queues (queueKey p q)

def Dev.setQueue (d : Dev) (p q : Nat) (x : Queue) : Dev :=
  { d with hst := { d.hst with queues := Assoc.put d.hst.queues (queueKey p q) x } }

def Dev.cmd? (d : Dev) (p asn : Nat) : Option Cmd := Assoc.find d.hst.cmds (cmdKey p asn)

def Dev.setCmd (d : Dev) (c : Cmd) : Dev :=
  { d with hst := { d.hst with cmds := Assoc.put d.hst.cmds (cmdKey c.part c.asn) c } }

def Dev.delCmd (d : Dev) (p asn : Nat) : Dev :=
  { d with hst := { d.hst with cmds := Assoc.del d.hst.cmds (cmdKey p asn) } }

/-- Queue pairs a partition has. -/
def Dev.queuesOf (d : Dev) (p : PartId) : Nat := (d.hst.queues.filter fun e => e.1 / 65536 = p).length

/-- Accepted, uncompleted commands of a partition. -/
def Dev.cmdsOf (d : Dev) (p : PartId) : List Cmd := (d.hst.cmds.filter fun e => e.2.part = p).map (·.2)

/-! ### Completions -/

/-- The four DWs of a completion entry (spec 11). -/
def completionEntry (result asn sqHead q cid : Nat) (phase : Bool) (st : Status) : List Nat :=
  [result % 2 ^ 32, asn % 2 ^ 32, sqHead % 65536 + q % 65536 * 65536,
   cid % 65536 + b2n phase * 2 ^ 16 + b2n st.value.2 * 2 ^ 17 + st.value.1 * 2 ^ 24]

/-- Insert a record in ASN order (R339). -/
def insertOrphan (o : Orphan) : List Orphan → List Orphan
  | [] => [o]
  | x :: r => if o.asn < x.asn then o :: x :: r else x :: insertOrphan o r

/-- Put a record into a partition's Orphan Completion log; a full log loses its oldest record (R339). -/
def Dev.orphan (d : Dev) (p : PartId) (o : Orphan) : Dev :=
  let r := d.part p
  if r.orphans.length < 8192 then d.setPart p { r with orphans := insertOrphan o r.orphans }
  else
    let d := d.setPart p { r with orphans := insertOrphan o (r.orphans.drop 1), orphansLost := (r.orphansLost + 1) % 2 ^ 32 }
    let d := (d.wr Pg.EVT Reg.EVT.ORPHAN_LOSS 1 p).wr Pg.SYS Reg.SYS.ORPHAN_LOSS 1
    d.event p Pg.EVT WARN 0x0902

/-- The interrupt of a completion queue: coalescing starts again (R308). -/
def Dev.cqInterrupt (d : Dev) (p q : Nat) : Dev :=
  match d.queue? p q with
  | none => d
  | some x =>
    (d.setQueue p q { x with sinceIrq := 0 }).msix p x.vector

/-- Entries posted and not yet returned by CQ_HEAD. -/
def Queue.unreturned (x : Queue) : Nat := (x.cqTail + x.cqDepth - x.cqHead) % x.cqDepth

/-- Post a completion entry to the CQ of a PCIe partition (R308). -/
def Dev.postCq (d : Dev) (p q : Nat) (x : Queue) (e : List Nat) : Dev :=
  let a := x.cqBase + 16 * x.cqTail
  let t := (x.cqTail + 1) % x.cqDepth
  let x' := { x with cqTail := t, phase := if t = 0 then !x.phase else x.phase, sinceIrq := x.sinceIrq + 1 }
  let d := if d.hostOk p a 16 then d.hostWrite p a (dwBytes e) else d
  let d := d.setQueue p q x'
  if x.irqEn ∧ (max 1 x.coalCount ≤ x'.sinceIrq ∨ x.coalUs = 0) then d.cqInterrupt p q else d

/-- Form the completion of an accepted command, give it to its queue or to the Orphan Completion log, and let the
ledger reclaim the command's records (R309, R330, R331, R339). -/
def Dev.complete (d : Dev) (c : Cmd) (st : Status) (result : Nat := 0) : Dev :=
  let d := d.delCmd c.part c.asn
  let d := { d with hst := { d.hst with locks := d.hst.locks.filter fun l => !(l.part = c.part && l.asn = c.asn && !l.replayed) } }
  let gone := fun (reason : Nat) => ({
    entry := completionEntry result c.asn ((c.idx + 1) % c.depth) c.queue c.cid false st, asn := c.asn,
    opcode := opcode c.entry, reason := reason, ms := d.ns / 1000000 % 2 ^ 32 } : Orphan)
  let toOrphan := fun (d : Dev) (o : Orphan) =>
    ((((d.journal c.part c.asn (.complete o.entry true o.reason)).orphan c.part o).journal c.part c.asn .posted).reclaim
      c.part c.asn)
  match if c.gone then none else d.queue? c.part c.queue with
  | none => toOrphan d (gone c.reason)
  | some x =>
    let e := completionEntry result c.asn x.sqHead c.queue c.cid x.phase st
    if c.part < 64 then
      ((((d.journal c.part c.asn (.complete e false 0)).postCq c.part c.queue x e).journal c.part c.asn .posted).reclaim
        c.part c.asn)
    else match d.sessionOf c.part c.queue with
      | none => toOrphan d (gone 4)
      | some id =>
        let t := (x.cqTail + 1) % x.cqDepth
        let d := d.setQueue c.part c.queue { x with cqTail := t, cqHead := t, phase := if t = 0 then !x.phase else x.phase }
        (d.journal c.part c.asn (.complete e false 0)).rctReply id 0x04 (rctResponse 0 (dwBytes e)) (some (gone 4))

/-- Write a command's EFFECT record (R332). -/
def Dev.effect (d : Dev) (c : Cmd) (st : Status) (result : Nat := 0) : Dev :=
  d.journal c.part c.asn (.effect (opcode c.entry) st.value.1 result [])

/-- Make a command's effect and complete it with success. -/
def Dev.succeed (d : Dev) (c : Cmd) (result : Nat := 0) (st : Status := .SUCCESS) : Dev :=
  (d.effect c st result).complete c st result

/-! ### Which fields an entry may set (R4) -/

/-- The DWs and bits of DW1 to DW15 that an opcode's fields use: (DW, lowest bit, width). -/
def entryFields (op : Nat) : List (Nat × Nat × Nat) :=
  let ptr0 := [(2, 0, 32), (3, 0, 32)]
  let ptr1 := [(4, 0, 32), (5, 0, 32)]
  match op with
  | 0x01 => [(1, 0, 16)] ++ ptr0 ++ ptr1 ++ [(8, 0, 32), (9, 0, 11), (9, 16, 1), (9, 20, 4), (10, 0, 32)]
  | 0x02 => [(1, 0, 16)]
  | 0x03 => ptr0 ++ [(6, 0, 32), (8, 0, 1)]
  | 0x04 => ptr0 ++ [(6, 0, 32), (8, 0, 8), (9, 0, 32), (10, 0, 1)]
  | 0x05 => [(8, 0, 8), (9, 0, 32), (10, 0, 32), (11, 0, 32), (12, 0, 32)]
  | 0x06 => [(8, 0, 8), (9, 0, 2)]
  | 0x08 => ptr0 ++ [(6, 0, 32), (8, 0, 3), (9, 0, 32)]
  | 0x09 => [(8, 0, 2)]
  | 0x0A => [(1, 0, 7)] ++ ptr0 ++ [(6, 0, 32), (8, 0, 4), (9, 0, 12), (10, 0, 32)]
  | 0x0B => [(1, 0, 7), (8, 0, 4), (8, 16, 16), (9, 0, 32)]
  | 0x0C => ptr0 ++ [(8, 0, 2), (8, 8, 3), (9, 0, 16), (10, 0, 11), (10, 16, 1)]
  | 0x0D => ptr0 ++ [(6, 0, 32)]
  | 0x0E => [(8, 0, 32)]
  | 0x81 | 0x82 => [(1, 0, 32)] ++ ptr0 ++ [(6, 0, 32), (8, 0, 2), (8, 8, 1), (10, 0, 32), (11, 0, 32)]
  | 0x80 => []
  | 0x83 => [(1, 0, 3)] ++ ptr0 ++ [(6, 0, 32), (8, 0, 32), (9, 0, 32), (10, 0, 32), (11, 0, 4), (11, 8, 2), (12, 0, 32), (13, 0, 32)]
  | 0x84 => [(1, 0, 3), (1, 8, 8), (8, 0, 32), (9, 0, 32), (10, 0, 6), (10, 8, 4), (10, 16, 5), (11, 0, 32), (12, 0, 32),
             (13, 0, 16), (14, 0, 32)]
  | 0x85 => [(1, 0, 3), (8, 0, 32), (9, 0, 32), (10, 0, 2), (11, 0, 32), (12, 0, 16)]
  | 0x88 => [(1, 0, 8), (8, 0, 32), (9, 0, 2), (9, 4, 1), (9, 8, 1), (10, 0, 32), (11, 0, 16)]
  | 0x89 => [(1, 0, 9), (1, 31, 1)] ++ ptr0 ++ [(6, 0, 32), (8, 0, 1)]
  | 0x8A => [(1, 0, 8), (8, 0, 14), (9, 0, 32)]
  | 0x8B => [(1, 0, 11), (1, 16, 2)] ++ ptr0 ++ [(6, 0, 32), (7, 0, 16), (8, 0, 1), (8, 8, 8), (9, 0, 32), (10, 0, 32), (11, 0, 32)]
  | 0x8C => [(1, 0, 6)] ++ ptr0 ++ [(6, 0, 32), (7, 0, 16), (8, 0, 3), (8, 8, 19), (9, 0, 32), (14, 0, 32), (15, 0, 32)] ++
            [10, 11, 12, 13].flatMap fun i => [(i, 0, 3), (i, 4, 2), (i, 8, 8)]
  | 0x90 => [(1, 0, 8)] ++ ptr0 ++ ptr1 ++ [(6, 0, 32), (7, 0, 32), (8, 0, 4), (8, 8, 2), (8, 12, 2), (8, 16, 1), (9, 0, 32),
             (10, 0, 6), (10, 8, 2), (11, 0, 32), (12, 0, 16), (13, 0, 32), (14, 0, 32)]
  | 0x91 => [(1, 0, 6)] ++ ptr0 ++ [(6, 0, 32), (8, 0, 2), (9, 0, 32), (10, 0, 32)]
  | 0x92 => [(1, 0, 2)] ++ ptr0 ++ ptr1 ++ [(6, 0, 32), (7, 0, 32), (8, 0, 3), (8, 4, 3), (8, 8, 5), (8, 16, 4), (9, 0, 32),
             (10, 0, 32), (11, 0, 32)]
  | 0x98 => [(1, 0, 24), (6, 0, 32)] ++ (seqFrom 8 8).map fun i => (i, 0, 32)
  | _ => []

/-- Does an entry read or write STORE space (R310)? -/
def storeEntry (e : List Nat) : Bool := (opcode e = 0x81 || opcode e = 0x82) && sf e 8 0 2 = 0

/-- Every bit of an entry outside its opcode's fields is 0 (R4). -/
def reservedClear (op : Nat) (e : List Nat) : Bool :=
  bits (dwAt e 0) 10 6 = 0 &&
  (seqFrom 1 15).all fun i =>
    let mask := ((entryFields op).filter fun f => f.1 = i).foldl (fun m f => m ||| ((2 ^ f.2.2 - 1) * 2 ^ f.2.1)) 0
    dwAt e i &&& mask == dwAt e i

/-- Opcodes of the admin queue and of I/O queues (spec 11). -/
def adminOp (op : Nat) : Bool := op ∈ [0x01, 0x02, 0x03, 0x04, 0x05, 0x06, 0x08, 0x09, 0x0A, 0x0B, 0x0C, 0x0D, 0x0E]

def ioOp (op : Nat) : Bool :=
  op ∈ [0x80, 0x81, 0x82, 0x83, 0x84, 0x85, 0x88, 0x89, 0x8A, 0x8B, 0x8C, 0x90, 0x91, 0x92, 0x98]

/-- May the opcode use SGL: it has an "in" or "out" pointer (R305)? -/
def sglOp (op : Nat) : Bool := op ∈ [0x03, 0x04, 0x08, 0x0A, 0x0D, 0x81, 0x82, 0x83, 0x89, 0x90, 0x91, 0x92, 0x98]

/-- Opcodes whose PTR0 is an "in" pointer. -/
def sglIn (op : Nat) : Bool := op ∈ [0x08, 0x0A, 0x81, 0x89, 0x90, 0x91, 0x92, 0x98]

/-- Opcodes reserved to partition 0. -/
def privileged (op : Nat) : Bool := op ∈ [0x08, 0x09, 0x0A, 0x0B, 0x0D]

/-! ### Host data: scatter lists, RCT data -/

/-- The runs of a scatter list: at most `fuel` descriptors, the reserved bits of DW3 0 (R4, R305). -/
def Dev.sglRuns (d : Dev) (p : PartId) : Nat → Nat → Except Status (List (Nat × Nat))
  | 0, _ => .error .SGL_INVALID
  | fuel + 1, a =>
    if !d.hostOk p a 16 then .error .XFER_ERROR
    else
      let x := ofLe (d.hostRead p a 8)
      let n := ofLe (d.hostRead p (a + 8) 4)
      let f := ofLe (d.hostRead p (a + 12) 4)
      if 4 ≤ f then .error .SGL_INVALID
      else if bitAt f 0 then d.sglRuns p fuel x
      else if bitAt f 1 then .ok [(x, n)]
      else match d.sglRuns p fuel (a + 16) with
        | .error s => .error s
        | .ok r => .ok ((x, n) :: r)

/-- LEN of pointer DW `i`: LEN0 or LEN1; ASSIST_REPLY's data has the length of its own field, `len`. -/
def Cmd.ptrLen (c : Cmd) (i len : Nat) : Nat :=
  if opcode c.entry = 0x98 then len else if i = 4 then dwAt c.entry 7 else dwAt c.entry 6

/-- The runs of host memory for `len` bytes at pointer DW `i`: without SGL the bytes at the pointer; a list must sum to the
pointer's LEN and have room for them (R305). -/
def Dev.runs (d : Dev) (c : Cmd) (i len : Nat) : Except Status (List (Nat × Nat)) :=
  if sf c.entry 0 8 1 = 0 then .ok [(dw64 c.entry i, len)]
  else match d.sglRuns c.part 4096 (dw64 c.entry i) with
    | .error s => .error s
    | .ok r =>
      let sum := (r.map (·.2)).foldl (· + ·) 0
      if sum = c.ptrLen i len ∧ len ≤ sum then .ok r else .error .SGL_INVALID

/-- Does the scatter list of pointer DW `i` break R305? It is looked at before any data moves. -/
def Dev.chainBad (d : Dev) (c : Cmd) (i : Nat) : Bool :=
  c.part < 64 && sf c.entry 0 8 1 = 1 && (match d.runs c i 0 with
    | .error .SGL_INVALID => true
    | _ => false)

/-- `len` bytes that the host gives at pointer DW `i` (R305), or for a network partition the bytes received (R320); bytes that
its client can send no more fail the transfer (R321). -/
def Dev.dataIn (d : Dev) (c : Cmd) (i len : Nat) : Except Status (List Byte) :=
  if c.part < 64 then
    match d.runs c i len with
    | .error s => .error s
    | .ok r =>
      if r.all fun x => d.hostOk c.part x.1 x.2 then .ok ((r.flatMap fun x => d.hostRead c.part x.1 x.2).take len)
      else .error .XFER_ERROR
  else if c.rx.length < len then .error .XFER_ERROR
  else .ok ((List.range len).map fun k => Sparse.get c.rx k 0)

/-- Write data over runs of host memory. -/
def Dev.writeRuns (d : Dev) (p : PartId) : List (Nat × Nat) → List Byte → Dev
  | [], _ => d
  | r :: rs, bs => (d.hostWrite p r.1 (bs.take r.2)).writeRuns p rs (bs.drop r.2)

/-- Send data to a network partition's client: DATA packets with DIR 1 (R317, R320). -/
def Dev.dataPackets (d : Dev) (id chunk cid asn : Nat) : Nat → Nat → List Byte → Dev
  | 0, _, _ => d
  | n + 1, off, bs =>
    if bs = [] then d
    else
      let h := leBytes 2 cid ++ leBytes 1 1 ++ zeros 1 ++ leBytes 4 asn ++ leBytes 4 off ++ zeros 4
      (d.rctSend id 0x03 (h ++ bs.take chunk)).dataPackets id chunk cid asn n (off + chunk) (bs.drop chunk)

/-- Give data to the host at pointer DW `i`, whose length field is `len`. -/
def Dev.dataOut (d : Dev) (c : Cmd) (i len : Nat) (bs : List Byte) : Except Status Dev :=
  if c.part < 64 then
    match d.runs c i len with
    | .error s => .error s
    | .ok r =>
      if r.all fun x => d.hostOk c.part x.1 x.2 then .ok (d.writeRuns c.part r bs) else .error .XFER_ERROR
  else match if c.gone then none else d.sessionOf c.part c.queue with
    | none => .error .XFER_ERROR
    | some id =>
      let chunk := match Assoc.find d.hst.sessions id with
        | some s => s.dataKib * 1024
        | none => 1024
      .ok (d.dataPackets id chunk c.cid c.asn (bs.length + 1) 0 bs)

/-- Offer the next XFER_READY window of at most 1 MiB for the bytes not yet received (R320). -/
def Dev.offer (d : Dev) (c : Cmd) : Dev :=
  match if c.gone then none else d.sessionOf c.part c.queue with
  | none => d
  | some id =>
    let off := c.rx.length
    let n := min (c.want - off) (2 ^ 20)
    if n = 0 then d.setCmd { c with window := none }
    else (d.setCmd { c with window := some (off, n) }).rctSend id 0x02
      (leBytes 2 c.cid ++ zeros 2 ++ leBytes 4 c.asn ++ leBytes 4 off ++ leBytes 4 n)

/-- Start the data transfer of a command: its data moves until DATA_TRANSFER_END (R310, R320). -/
def Dev.startMove (d : Dev) (c : Cmd) (inLen : Nat) : Dev :=
  let c := { c with phase := .moving, want := inLen }
  if c.part < 64 ∨ inLen = 0 then d.setCmd c else (d.setCmd c).offer c

/-- Has a network partition's client sent every byte of an "in" pointer? -/
def Cmd.received (c : Cmd) (len : Nat) : Bool := c.part < 64 || c.rx.length = len

/-- Can the client of a network partition's command send no more: its queue pair or its session is gone (R304, R321)? -/
def Dev.cut (d : Dev) (c : Cmd) : Bool := 64 ≤ c.part && (c.gone || (d.sessionOf c.part c.queue).isNone)

/-- What the host did before the device reads its memory: cells written, and the ranges whose accesses fail, and the MSI-X
table entries that are not enabled, from now on. -/
def Dev.see (d : Dev) (hv : HostView) : Dev :=
  { hv.writes.foldl (fun (d : Dev) c => { d with hostMem := Sparse.set d.hostMem c.1 c.2 0 }) d with
    hostFails := hv.fails, vectorsOff := hv.vectorsOff }

/-! ### Starting a command -/

/-- Is a command held: by BARRIER while an earlier accepted command of its SQ has not completed, or an admin command while the
management core pairs have no clock (R27)? -/
def Dev.barred (d : Dev) (c : Cmd) : Bool :=
  (c.queue = 0 && d.held Pg.FWM) || (sf c.entry 0 9 1 = 1 &&
    d.hst.cmds.any fun e => e.2.part = c.part && e.2.queue = c.queue && e.2.gone = c.gone && e.2.asn < c.asn)

/-- What makes an entry fail before its own checks: reserved fields (R4), SGL where it does not apply and pointers of
network partitions (R305, R320). -/
def entryFault (c : Cmd) : Option Status :=
  let op := opcode c.entry
  if privileged op ∧ c.part ≠ 0 then some .NOT_PERMITTED
  else if !reservedClear op c.entry then some .INVALID_FIELD
  else if sf c.entry 0 8 1 = 1 ∧ (!sglOp op ∨ 64 ≤ c.part) then some .INVALID_FIELD
  else if 64 ≤ c.part ∧ op ≠ 0x01 ∧ (dw64 c.entry 2 ≠ 0 ∨ dw64 c.entry 4 ≠ 0) then some .INVALID_FIELD
  else none

/-- Run an accepted command that waits to start: `f` is its meaning once the generic checks pass. A row that names no
such command leaves the device as it is. -/
def Dev.start (d : Dev) (p asn op : Nat) (f : Dev → Cmd → Dev) : Dev :=
  match d.cmd? p asn with
  | none => d
  | some c =>
    if opcode c.entry = op ∧ c.phase = .waiting ∧ !d.barred c then
      match entryFault c with
      | some s => d.complete c s
      | none => f d c
    else d

end Sys2Proof.Machine
end

