-- ==== Sys2Proof/Machine/Wake.lean ====
section
/-! DEFINITION. Wake: island groups that sleep and what wakes them (spec 02 R47; spec 11 R315; spec 14 R379, R380, R384).
A wake never changes what a block computes (R381): the work that wakes a group takes effect at once, and the exit that it
starts is part of the state. -/

namespace Sys2Proof.Machine

/-- Power state of a group; group 32 stands for the device, whose state is PS4 or none (R378). -/
def Dev.powerState (d : Dev) (g : Nat) : Nat := (Assoc.find d.pow.groups g).getD 0

/-- Is the device in PS4 or leaving it (R384)? -/
def Dev.keep (d : Dev) : Bool := d.pow.groups.any (·.1 = 32)

/-- Does every group run? -/
def Dev.allAwake (d : Dev) : Bool := d.pow.groups = [] && d.pow.entering = []

/-- Start the exit of a group; an entry that runs is cancelled, and the group is in PS0 (R315). -/
def Dev.wakeGroup (d : Dev) (g reason : Nat) (due : Option Nat := none) : Dev :=
  if Assoc.has d.pow.entering g then
    { d with pow := { d.pow with entering := Assoc.del d.pow.entering g, groups := Assoc.del d.pow.groups g } }
  else match Assoc.find d.pow.groups g with
    | none => d
    | some s =>
      if Assoc.has d.pow.leaving g then d
      else { d with pow := { d.pow with leaving := Assoc.put d.pow.leaving g ⟨s, reason, d.elapsed, due⟩ } }

/-- Work arrives for pages (R380); wake reason 3 for a group, `reason` for the device (R384, R398). -/
def Dev.wake (d : Dev) (pages : List Page) (reason : Nat := 3) : Dev :=
  if d.allAwake then d
  else (pages.map Pg.groupOf).eraseDups.foldl (fun (d : Dev) g => d.wakeGroup g 3) (d.wakeGroup 32 reason)

/-- A BAR0 access to a page: denied while the device is in PS4 or leaving it, unless the page is of group 0 (R384). -/
def Dev.keepDenies (d : Dev) (pg : Page) : Bool := d.keep && Pg.groupOf pg ≠ 0

/-- An access that R384 denies: counted, and exit starts. -/
def Dev.keepDeny (d : Dev) : Dev := (d.bump Pg.PWR Reg.PWR.KEEP_DENY_CNT).wakeGroup 32 2

/-- Pages whose groups a command needs, by its opcode (R315). -/
def opPages (op : Nat) : List Page :=
  let store := [Pg.NVS, Pg.STR 0, Pg.STR 1] ++ (List.range 8).map Pg.MAG ++ (List.range 4).map Pg.HBM
  let fe := (List.range 48).map fun i => 0x30 + i
  let host := [Pg.HIF 0, Pg.QMG 0]
  host ++ match op with
    | 0x81 | 0x82 | 0x80 | 0x83 | 0x84 | 0x85 => store ++ [Pg.FLT, Pg.RLK]
    | 0x88 | 0x8A | 0x8B => fe
    | 0x89 | 0x8C => (List.range 36).map fun i => 0x60 + i
    | 0x90 => (List.range 18).map fun i => 0x94 + i
    | 0x91 => (List.range 6).map fun i => 0xA6 + i
    | 0x92 => Pg.FRQ :: (List.range 4).map Pg.FRC
    | _ => []

end Sys2Proof.Machine
end

