-- ==== Sys2Proof/Machine/CodecCfg.lean ====
section
/-! DEFINITION. CodecCfg: encoder and decoder configurations, the mini-GOP structure, floors, caps and occupancy of video
coding (spec 09 R254 to R274). -/

namespace Sys2Proof.Machine

/-! ### Statuses of spec 09 -/

def ENC_PARAM : Status := .code 0x80 false
def ENC_PROFILE : Status := .code 0x81 false
def ENC_CAPACITY : Status := .code 0x82 false
def ENC_NOMEM : Status := .code 0x83 false
def ENC_STATE : Status := .code 0x84 false
def ENC_SOURCE : Status := .code 0x85 false
def ENC_SPACE : Status := .code 0x86 false
def ENC_EMPTY : Status := .code 0x87 false
def DEC_PARAM : Status := .code 0x88 false
def DEC_CAPACITY : Status := .code 0x89 false
def DEC_UNSUPPORTED : Status := .code 0x8A false
def ENC_FLOOR : Status := .code 0x90 true
def DEC_CONCEALED : Status := .code 0x98 true
def DEC_REF_SUBST : Status := .code 0x99 true
def DEC_WATCHDOG : Status := .code 0x9A true

/-! ### Configurations (R259, R274) -/

/-- A byte, half word or word of a configuration descriptor. -/
def at_ (c : List Byte) (off n : Nat) : Nat := ofLe ((c.drop off).take n)

/-- The same of a configuration that may be absent. -/
def cfgAt (c : Option (List Byte)) (off n : Nat) : Nat := at_ (c.getD []) off n

/-- Rendition CHROMA of a codec's CHROMA code: 1 4:2:0, 2 4:2:2, 3 4:4:4. -/
def encChroma (c : Nat) : Nat := match c with | 1 => 3 | 2 => 2 | _ => 1

/-- Twice the chroma factor K (R254). -/
def k2 (chroma : Nat) : Nat := if chroma = 3 then 3 else 2

/-- CHROMA codes and depths of a profile (R255). -/
def profile (codec p : Nat) : Option (List Nat × List Nat) :=
  match codec, p with
  | 0, 0 => some ([1], [8]) | 0, 1 => some ([1], [8, 10]) | 0, 2 => some ([1, 2], [8, 10])
  | 0, 3 => some ([1, 2, 3], [8, 10]) | 0, 4 => some ([1, 2], [8, 10, 12])
  | 1, 0 => some ([1], [8, 10]) | 1, 1 => some ([1, 3], [8, 10]) | 1, 2 => some ([1, 2, 3], [8, 10, 12])
  | _, _ => none

/-- Limits of a level: luma samples of a picture, largest width and height, luma samples per second, and bit rate in kbit/s
in tier 0 and tier 1. -/
structure Level where
  ps : Nat
  maxW : Nat
  maxH : Nat
  rate : Nat
  br : Nat
  brHigh : Nat
deriving DecidableEq, Repr

/-- Levels of HEVC by general_level_idc: ITU-T H.265 Tables A.8 and A.9, the widths and heights the square root of 8 times
the picture size (PRESUMED: the standard that R255 names; notes/assumptions). -/
def hevcLevel (l : Nat) : Option Level :=
  match l with
  | 30 => some ⟨36864, 543, 543, 552960, 128, 0⟩
  | 60 => some ⟨122880, 991, 991, 3686400, 1500, 0⟩
  | 63 => some ⟨245760, 1402, 1402, 7372800, 3000, 0⟩
  | 90 => some ⟨552960, 2103, 2103, 16588800, 6000, 0⟩
  | 93 => some ⟨983040, 2804, 2804, 33177600, 10000, 0⟩
  | 120 => some ⟨2228224, 4222, 4222, 66846720, 12000, 30000⟩
  | 123 => some ⟨2228224, 4222, 4222, 133693440, 20000, 50000⟩
  | 150 => some ⟨8912896, 8444, 8444, 267386880, 25000, 100000⟩
  | 153 => some ⟨8912896, 8444, 8444, 534773760, 40000, 160000⟩
  | 156 => some ⟨8912896, 8444, 8444, 1069547520, 60000, 240000⟩
  | 180 => some ⟨35651584, 16888, 16888, 1069547520, 60000, 240000⟩
  | 183 => some ⟨35651584, 16888, 16888, 2139095040, 120000, 480000⟩
  | 186 => some ⟨35651584, 16888, 16888, 4278190080, 240000, 800000⟩
  | _ => none

/-- Levels of AV1 by seq_level_idx: Annex A of the AV1 specification (PRESUMED, as above). -/
def av1Level (l : Nat) : Option Level :=
  match l with
  | 0 => some ⟨147456, 2048, 1152, 4423680, 1500, 0⟩
  | 1 => some ⟨278784, 2816, 1584, 8363520, 3000, 0⟩
  | 4 => some ⟨665856, 4352, 2448, 19975680, 6000, 0⟩
  | 5 => some ⟨1065024, 5504, 3096, 31950720, 10000, 0⟩
  | 8 => some ⟨2359296, 6144, 3456, 70778880, 12000, 30000⟩
  | 9 => some ⟨2359296, 6144, 3456, 141557760, 20000, 50000⟩
  | 12 => some ⟨8912896, 8192, 4352, 267386880, 30000, 100000⟩
  | 13 => some ⟨8912896, 8192, 4352, 534773760, 40000, 160000⟩
  | 14 => some ⟨8912896, 8192, 4352, 1069547520, 60000, 240000⟩
  | 15 => some ⟨8912896, 8192, 4352, 1069547520, 60000, 240000⟩
  | 16 => some ⟨35651584, 16384, 8704, 1069547520, 60000, 240000⟩
  | 17 => some ⟨35651584, 16384, 8704, 2139095040, 100000, 480000⟩
  | 18 => some ⟨35651584, 16384, 8704, 4278190080, 160000, 800000⟩
  | 19 => some ⟨35651584, 16384, 8704, 4278190080, 160000, 800000⟩
  | _ => none

/-- Fields of an encoder descriptor by their names in the manual. -/
structure EncCfg where
  codec : Nat
  prof : Nat
  level : Nat
  tier : Nat
  w : Nat
  h : Nat
  chroma : Nat
  depth : Nat
  source : Nat
  sink : Nat
  rend : Nat
  engine : Nat
  split : Nat
  gop : Nat
  idr : Nat
  refs : Nat
  ltr : Nat
  sliceRows : Nat
  ahead : Nat
  mode : Nat
  qpMin : Nat
  qpMax : Nat
  qpI : Nat
  qpP : Nat
  qpB : Nat
  quality : Nat
  target : Nat
  peak : Nat
  vbv : Nat
  init : Nat
  tol : Nat
  num : Nat
  den : Nat
  cap : Nat
  ringAddr : Nat
  slotBytes : Nat
  slots : Nat
  depthOut : Nat
  flags : Nat
deriving DecidableEq, Repr

/-- Read an encoder descriptor (R259). -/
def encCfg (c : List Byte) : EncCfg where
  codec := at_ c 0 1
  prof := at_ c 1 1
  level := at_ c 2 1
  tier := at_ c 3 1
  w := at_ c 4 2
  h := at_ c 6 2
  chroma := at_ c 8 1
  depth := at_ c 9 1
  source := at_ c 0xA 1
  sink := at_ c 0xB 1
  rend := at_ c 0xC 1
  engine := at_ c 0xD 1
  split := at_ c 0xE 1
  gop := at_ c 0xF 1
  idr := at_ c 0x10 4
  refs := at_ c 0x14 1
  ltr := at_ c 0x15 1
  sliceRows := at_ c 0x16 1
  ahead := at_ c 0x17 1
  mode := at_ c 0x18 1
  qpMin := at_ c 0x19 1
  qpMax := at_ c 0x1A 1
  qpI := at_ c 0x1B 1
  qpP := at_ c 0x1C 1
  qpB := at_ c 0x1D 1
  quality := at_ c 0x1E 1
  target := at_ c 0x20 4
  peak := at_ c 0x24 4
  vbv := at_ c 0x28 4
  init := at_ c 0x2C 1
  tol := at_ c 0x2D 1
  num := at_ c 0x30 4
  den := at_ c 0x34 4
  cap := at_ c 0x38 4
  ringAddr := at_ c 0x40 8
  slotBytes := at_ c 0x48 4
  slots := at_ c 0x4C 2
  depthOut := at_ c 0x4E 1
  flags := at_ c 0x50 1

def EncCtx.cfg! (x : EncCtx) : EncCfg := encCfg (x.cfg.getD [])

/-- Registers of an encoder context: those of its first engine (R279). -/
def EncCtx.pageRc (x : EncCtx) : Page := Pg.ENCRC x.cfg!.engine

/-- One frame period of the configuration in 2^-32 ns (R273). -/
def EncCtx.period (x : EncCtx) : Nat := x.cfg!.den * 10 ^ 9 * 2 ^ 32 / max 1 x.cfg!.num

/-- Reserved bytes of the descriptor are 0 (R4). -/
def encReserved (c : List Byte) : Bool := at_ c 0x1F 1 = 0 && at_ c 0x2E 2 = 0 && at_ c 0x3C 4 = 0 && at_ c 0x4F 1 = 0 && at_ c 0x51 47 = 0

/-- The largest QP or base_q_idx. -/
def EncCfg.qpTop (x : EncCfg) : Nat := if x.codec = 0 then 51 + 6 * (x.depth - 8) else 255

/-- Field ranges, with the chroma and depth of PROFILE (R259, first check). -/
def EncCfg.inRange (x : EncCfg) : Bool :=
  x.codec ≤ 1 && x.tier ≤ 1 && 64 ≤ x.w && x.w ≤ 16384 && x.w % 2 = 0 && 64 ≤ x.h && x.h ≤ 8704 && x.h % 2 = 0 &&
  x.chroma ∈ [1, 2, 3] && x.depth ∈ [8, 10, 12] && x.source ≤ 1 && x.sink ≤ 3 && x.rend < 48 && x.engine ≤ 5 &&
  1 ≤ x.split && x.split ≤ 6 && x.engine + x.split ≤ 6 && x.gop ∈ [1, 2, 4, 8] && 1 ≤ x.refs && x.refs ≤ 4 && x.ltr ≤ 4 &&
  1 ≤ x.ahead && x.ahead ≤ 8 && x.mode ≤ 3 &&
  [x.qpMin, x.qpMax, x.qpI, x.qpP, x.qpB, x.quality].all (fun q => q ≤ x.qpTop) && x.qpMin ≤ x.qpMax && x.target ≤ x.peak &&
  10 ≤ x.init && x.init ≤ 100 && 4 ≤ x.tol && x.tol ≤ 255 && 1 ≤ x.num && 1 ≤ x.den && x.flags < 8 &&
  (if x.codec = 0 then x.level ≤ 186 || x.level = 255 else x.level ≤ 19 || x.level = 31) &&
  (if x.ringAddr ≠ 0 then x.ringAddr % 4096 = 0 && x.slotBytes % 4096 = 0 && 12288 ≤ x.slotBytes && 1 ≤ x.slots && x.slots ≤ 256
   else 1 ≤ x.depthOut && x.depthOut ≤ 16) &&
  (match profile x.codec x.prof with
   | some (cs, ds) => x.chroma ∈ cs && x.depth ∈ ds
   | none => true)

/-- Bit-rate and buffer factor of an HEVC profile in thousandths (PRESUMED, as the levels). -/
def hevcFactor (p : Nat) : Nat := match p with | 2 => 1667 | 3 => 2500 | 4 => 2000 | _ => 1000

/-- Largest number of tile columns of a level (PRESUMED, as the levels). -/
def tileCols (codec level : Nat) : Nat :=
  if codec = 0 then (if level ≤ 63 then 1 else if level ≤ 90 then 2 else if level ≤ 93 then 3 else if level ≤ 123 then 5
    else if level ≤ 156 then 10 else 20)
  else if level ≤ 1 then 4 else if level ≤ 5 then 6 else 8

/-- Largest number of slice segments of an HEVC level's picture, and of tiles and frame headers per second of an AV1 level
(PRESUMED, as the levels). -/
def hevcSegments (level : Nat) : Nat :=
  if level ≤ 60 then 16 else if level ≤ 63 then 20 else if level ≤ 90 then 30 else if level ≤ 93 then 40 else if level ≤ 123 then 75
  else if level ≤ 156 then 200 else 600

def av1Tiles (level : Nat) : Nat := if level ≤ 1 then 8 else if level ≤ 5 then 16 else if level ≤ 9 then 32 else if level ≤ 15 then 64 else 128

def av1Headers (level : Nat) : Nat := if level ≤ 5 then 150 else 300

/-- Decoded pictures that an HEVC level's buffer holds, by picture size (PRESUMED, as the levels). -/
def dpbSize (ps size : Nat) : Nat :=
  if 4 * size ≤ ps then 16 else if 2 * size ≤ ps then 12 else if 4 * size ≤ 3 * ps then 8 else 6

/-! ### Bands, floors and caps (R269 to R272) -/

/-- CTU columns and rows. -/
def EncCfg.cols (x : EncCfg) : Nat := ceilDiv x.w 64
def EncCfg.rows (x : EncCfg) : Nat := ceilDiv x.h 64

/-- First column of band `c`, and its columns (R272). -/
def EncCfg.colStart (x : EncCfg) (c : Nat) : Nat := c * x.cols / max 1 x.split
def EncCfg.bandCols (x : EncCfg) (c : Nat) : Nat := x.colStart (c + 1) - x.colStart c

/-- Columns of the widest band. -/
def EncCfg.widest (x : EncCfg) : Nat := ((List.range x.split).map x.bandCols).foldl max 0

/-- Width in samples of the widest band, cut at WIDTH (R273). -/
def EncCfg.bandWidth (x : EncCfg) : Nat := min x.w (64 * x.widest)

/-- Tile rows of AV1: the fewest that keep every tile within 9,437,184 samples (R272). -/
def EncCfg.tileRowsFrom (x : EncCfg) : Nat → Nat → Nat
  | 0, n => n
  | k + 1, n => if 64 * x.widest * (64 * ceilDiv x.rows n) ≤ 9437184 then n else x.tileRowsFrom k (n + 1)

def EncCfg.tileRows (x : EncCfg) : Nat := if x.codec = 0 then 1 else x.tileRowsFrom x.rows 1

/-- Does row `m` start a slice or tile (R270)? -/
def EncCfg.startsPart (x : EncCfg) (m : Nat) : Bool :=
  if x.codec = 0 then (if x.sliceRows = 0 then m = 0 else m % x.sliceRows = 0)
  else (List.range x.tileRows).any fun t => t * x.rows / x.tileRows = m

/-- Slices of a tile (R257). -/
def EncCfg.slicesPerTile (x : EncCfg) : Nat := if x.sliceRows = 0 then 1 else ceilDiv x.rows x.sliceRows

/-- Profile, level and tier (R255, R256): picture size and rate, bit rate and decoder buffer, tiles, slices,
frame headers, reference pictures. -/
def EncCfg.profileOk (x : EncCfg) : Bool :=
  (profile x.codec x.prof).isSome &&
  ((x.codec = 0 && x.level = 255) || (x.codec = 1 && x.level = 31) ||
   (match (if x.codec = 0 then hevcLevel x.level else av1Level x.level) with
    | none => false
    | some l =>
      let br := if x.tier = 1 then l.brHigh else l.br
      let k := if x.codec = 0 then hevcFactor x.prof else 1000 * (x.prof + 1)
      let cpb := if x.codec = 0 ∧ x.level = 30 then 350 else br
      x.w * x.h ≤ l.ps && x.w ≤ l.maxW && x.h ≤ l.maxH && x.w * x.h * x.num ≤ l.rate * x.den && br ≠ 0 &&
      x.split ≤ tileCols x.codec x.level && (x.codec = 1 || x.refs + x.ltr + 1 ≤ dpbSize l.ps (x.w * x.h)) &&
      (if x.codec = 0 then x.split * x.slicesPerTile ≤ hevcSegments x.level
       else x.split * x.tileRows ≤ av1Tiles x.level && x.num ≤ av1Headers x.level * x.den) &&
      (x.mode = 0 || ((if x.mode = 1 then x.target else x.peak) * 1000 ≤ br * k && x.vbv * 1000 ≤ cpb * k))))

def HDR_SLICE : Nat := 1024
def PIC_HDR : Nat := 8192

/-- F_CTU of R270. -/
def EncCfg.fCtu (x : EncCfg) (intra : Bool) : Nat :=
  if x.codec = 0 then (if intra then 96 else 6) else (if intra then 112 else 8)

/-- floor_row(m) of a band of `n` CTU columns (R270). -/
def EncCfg.floorRow (x : EncCfg) (intra : Bool) (n m : Nat) : Nat := n * x.fCtu intra + if x.startsPart m then HDR_SLICE else 0

/-- reserve of R270 before row `m`: the floor of rows `m` to the last. -/
def EncCfg.reserve (x : EncCfg) (intra : Bool) (n m : Nat) : Nat :=
  (seqFrom m (x.rows - m)).foldl (fun a i => a + x.floorRow intra n i) 0

/-- PIC_HDR and the floor of the whole picture, every band of it (R270). -/
def EncCfg.wholeFloor (x : EncCfg) (intra : Bool) : Nat :=
  PIC_HDR + (List.range x.split).foldl (fun a c => a + x.reserve intra (x.bandCols c) 0) 0

/-- r of R269: bits per picture period, rounded half to even (R5). -/
def EncCfg.perPicture (x : EncCfg) : Nat := (rndDiv ((if x.mode = 1 then x.target else x.peak) * 1000 * x.den : Nat) (max 1 x.num)).toNat

/-- The initial fullness (R269). -/
def EncCfg.initF (x : EncCfg) : Nat := x.vbv * 10 * x.init

/-- CAP of the next picture (R269). -/
def EncCtx.capNow (x : EncCtx) : Nat :=
  let c := x.cfg!
  if c.mode = 0 then c.cap * 1000 else min (c.cap * 1000) x.fullness

/-- The configuration's floor fits (R270). -/
def EncCfg.floorFits (x : EncCfg) : Bool :=
  let n := x.wholeFloor true
  n ≤ x.cap * 1000 && (x.mode = 0 || (n ≤ x.perPicture && n ≤ x.initF))

/-- T of a picture (R269): none in CQP and CCQ; in CBR the bits per picture, corrected toward F = VBV ÷ 2 by an amount that is the
rate controller's; in VBR the rate controller's share. -/
def EncCtx.targetFor (x : EncCtx) (t : Nat) : Nat :=
  let y := x.cfg!
  match y.mode with
  | 1 =>
    if y.vbv * 1000 < 2 * x.fullness then max y.perPicture t else if 2 * x.fullness < y.vbv * 1000 then min y.perPicture t else y.perPicture
  | 2 => t
  | _ => 0

/-- CAP or T divided among the bands: by CTU counts, rounded down, the remainder to band 0 (R272). -/
def EncCfg.bandCaps (x : EncCfg) (cap : Nat) : List Nat :=
  let l := (List.range x.split).map fun c => cap * x.bandCols c / max 1 x.cols
  let rest := cap - l.foldl (· + ·) 0
  l.zipIdx.map fun e => e.1 + if e.2 = 0 then rest else 0

/-! ### Coding tools and motion (R257, R266) -/

/-- Does the encoder use a tool (R257)? -/
def encoderUses (codec : Nat) (t : Tool) : Bool :=
  if codec = 0 then t ∈ [.ctu64, .codingUnits, .transformUnits, .asymmetricPartitions, .intra35, .transformSkip4, .merge, .amvp,
    .twoReferenceLists, .quarterPel, .deblocking, .sao, .slices, .tiles, .flatScaling, .signDataHiding]
  else t ∈ [.superblock64, .blocks, .directional, .smooth, .chromaFromLuma, .single, .compound, .switchableFilters, .quarterPel,
    .eighthPel, .deblocking, .cdef, .wiener, .tiles, .deltaQ]

/-- Are both parts of a step within its window? -/
def inWindow (v : Int × Int) (x y : Nat) : Bool := v.1.natAbs ≤ x && v.2.natAbs ≤ y

/-- Could the four steps of the search come to this (R266)? -/
def reachable (m : Motion) (codec : Nat) : Bool :=
  inWindow m.coarse 64 32 && inWindow m.quarter 8 8 && inWindow m.full 4 4 && inWindow m.fine 7 7 &&
  (codec = 1 || (m.fine.1 % 2 = 0 && m.fine.2 % 2 = 0))

/-- The vector in eighths of a sample. -/
def motionVector (m : Motion) : Int × Int :=
  (8 * (16 * m.coarse.1 + 4 * m.quarter.1 + m.full.1) + m.fine.1, 8 * (16 * m.coarse.2 + 4 * m.quarter.2 + m.full.2) + m.fine.2)

/-! ### Occupancy (R273) -/

/-- F × t of a context as a fraction of ns per second; `shared`: its engine carries two or more contexts. -/
def EncCfg.load (x : EncCfg) (shared : Bool) : Nat × Nat :=
  (x.num * (ceilDiv (x.bandWidth * x.h * k2 x.chroma) 3 + if shared then 20000 else 0), max 1 x.den)

def EncCfg.engines (x : EncCfg) : List Nat := seqFrom x.engine x.split

/-- Occupancy of engine `n` under a list of configurations, as a fraction. -/
def engineLoad (l : List EncCfg) (n : Nat) : Nat × Nat :=
  let on := l.filter fun x => n ∈ x.engines
  fracSum (on.map fun x => x.load (2 ≤ on.length))

end Sys2Proof.Machine
end

