-- ==== Sys2Proof/Machine/Objects.lean ====
section
/-! DEFINITION. Objects: the parts that registers, commands and events name by number: heads, ingest units, sets, scan-out
engines, PTP ports; and what of a frame's life other parts ask (spec 03, 05, 08, 10, 13). -/

namespace Sys2Proof.Machine

def Dev.head (d : Dev) (h : Nat) : Head := Sparse.get d.cap.heads h {}

def Dev.setHead (d : Dev) (h : Nat) (x : Head) : Dev :=
  { d with cap := { d.cap with heads := Sparse.set d.cap.heads h x {} } }

/-- The ingest unit of a head: MIPI heads by number, others by their group (R126). -/
def Dev.unitOf (d : Dev) (h : Nat) : Nat :=
  if 252 ≤ h then h - 252 else match (d.head h).vc with
    | some (g, _) => g / 8
    | none => 0

/-- Is a memory stack live? -/
def Dev.stackLive (d : Dev) (s : Nat) : Bool := d.rd (Pg.HBM s) Reg.HBM.STATE < 3

/-- The first live stack from `s` on, in the order 0 to 3. -/
def Dev.liveFrom (d : Dev) (s : Nat) : Option Nat := ((List.range 4).map fun i => (s + i) % 4).find? d.stackLive

/-- The Sections of a path (R10). -/
def sectionsOf (gang section_ : Nat) : List Nat := match gang with | 0 => [section_] | 1 => [0, 1] | 2 => [2, 3] | _ => [0, 1, 2, 3]

/-- Does the frame get no Section pass (R140)? -/
def Frame.recordOnly (f : Frame) : Bool := bitAt f.flags 0 && Pb.fe f.ingGen.bank 0 Pb.CTL.SHORT_POLICY = 1

/-- Is the frame closed? -/
def Frame.isClosed (f : Frame) : Bool := f.state ∉ [.announced, .ingesting]

/-- The first pass runs. -/
def Frame.firstRunning (f : Frame) : Bool := f.firstGen.isSome && f.firstOut.isNone && !f.recordOnly

/-- The Sections that process a frame; both stripes of a wide frame run on one, of a gang on its first member (R143). -/
def Frame.sections (f : Frame) : List Nat :=
  if 16384 < f.cfgW then (sectionsOf f.gang f.section_).take 1 else sectionsOf f.gang f.section_

/-- STR page and element of a set. -/
def setAt (s : Nat) : Page × Nat := (Pg.STR (s / 4), s % 4)

def Dev.sset (d : Dev) (s : Nat) : StripeSet := Sparse.get d.pip.sets s {}

def Dev.dsp (d : Dev) (n : Nat) : Dsp := (Assoc.find d.pip.dsps n).getD {}

def Dev.port (d : Dev) (p : Nat) : PtpPort := Sparse.get d.tim.ports p {}

def Dev.setPort (d : Dev) (p : Nat) (x : PtpPort) : Dev :=
  { d with tim := { d.tim with ports := Sparse.set d.tim.ports p x {} } }

end Sys2Proof.Machine
end

