-- ==== Sys2Proof/Machine/Busy.lean ====
section
/-! DEFINITION. Busy: accepted work in flight on a page's block, and the reset of a page once it has drained (spec 02 R36 to
R38, R43). -/

namespace Sys2Proof.Machine

/-- Is accepted work in flight on a page's block (PAGE_STAT.BUSY, R37)? -/
def Dev.busy (d : Dev) (pg : Page) : Bool :=
  let (fam, n) := Pg.family pg
  let on := fun (P : Page × Nat) => decide (P.1 = pg)
  match fam with
  | 0x05 => d.pip.places ≠ []
  | 0x07 => d.jnl.activation.isSome
  | 0x22 => Assoc.has d.cap.mipOpen n
  | 0x23 => d.cap.frames.any fun e => !e.2.isClosed && d.unitOf e.2.head = n
  | 0x40 => d.pip.jobs.any fun j => j.started && j.bind.petal / 4 = n
  | 0x41 | 0x42 => d.pip.jobs.any fun j => j.started && j.bind.petal ≤ n && n < j.bind.petal + 2 ^ j.bind.log2
  | 0x50 => Assoc.has d.pip.engines n
  | 0x52 => d.pip.places.any fun p => p.going && (d.sset p.set).members.contains n
  | 0x53 => d.pip.places.any fun p => p.going && on (setAt p.set)
  | 0x60 | 0x61 | 0x62 => d.pip.encs.any fun e => e.2.pics ≠ [] && e.2.cfg.isSome && e.2.cfg!.engines.contains n
  | 0x63 | 0x64 | 0x65 => d.pip.decs.any fun e => (e.2.run.bind DecRun.on) = some n
  | 0x70 => (d.dsp n).shown.isSome
  | 0x72 => d.pip.auxBusy.contains n
  | 0x81 => d.hst.cmds.any fun e => e.2.part / 32 = n
  | 0x84 => (d.port n).tx.isSome && (d.port n).held.isNone
  | 0x90 => d.tim.step.isSome
  | 0xB2 => Assoc.has d.brd.i2c n && !d.brd.i2cHeld.contains n
  | 0xB3 => d.brd.uartHeld < d.brd.uartTx.length
  | k => if 0x30 ≤ k ∧ k ≤ 0x3B then d.cap.frames.any fun e => n ∈ e.2.sections && (e.2.pass.isSome || e.2.firstRunning)
         else false

/-- Class A fields that show a condition which a page reset does not change: a link, a pin, a level of heat, a grid, work
under way. A reset returns what they read to the reset value, and they show the condition again when the block next changes it
(R38, R43). -/
def showsLive (pg : Page) (F : Fld) : Bool :=
  let live := fun (l : List Fld) => l.contains F
  match (Pg.family pg).1 with
  | 0x04 => live [Reg.THM.SHED_LEVEL, Reg.THM.WARN, Reg.THM.REFRESH_2X, Reg.THM.LEVEL]
  | 0x05 => live [Reg.NVS.STATE]
  | 0x07 => live [Reg.FWM.ACT_STATE]
  | 0x20 => live [Reg.HLQ.SIG_DET, Reg.HLQ.CDR_LOCK, Reg.HLQ.SYNC_LOCK, Reg.HLQ.PRBS_LOCK, Reg.HLQ.RX_INVERTED, Reg.HLQ.REF_OK]
  | 0x21 => live [Reg.HLL.STATE, Reg.HLL.VC_BOUND, Reg.HLL.BACKOFF_MS]
  | 0x22 => live [Reg.MIP.STOP_STATE, Reg.MIP.HS_ACTIVE, Reg.MIP.FRAME_OPEN]
  | 0x23 => live [Reg.ING.OPEN]
  | 0x30 => live [Reg.FE_CTL.QUEUE]
  | 0x3B => live [Reg.FE_RSP.GEN_LIVE]
  | 0x41 => live [Reg.YPT_A.JOB_STATE, Reg.YPT_A.RENDITION]
  | 0x50 => live [Reg.FRC.BUSY, Reg.FRC.QUEUE]
  | 0x51 => live [Reg.FRQ.QUEUED]
  | 0x52 => live [Reg.MAG.LINK_WIDTH, Reg.MAG.LINK_GEN, Reg.MAG.TEMP]
  | 0x53 => live [Reg.STR.REBUILD_PROG, Reg.STR.PENDING_MIB]
  | 0x60 => live [Reg.ENC_PIX.CONTEXT, Reg.ENC_PIX.BUSY_PIC, Reg.ENC_PIX.AHEAD]
  | 0x61 => live [Reg.ENC_ENT.SYNTAX_ROWS]
  | 0x63 => live [Reg.DEC_ENT.CONTEXT]
  | 0x70 => live [Reg.DSP.PENDING]
  | 0x71 => live [Reg.SDI.TX_ACTIVE, Reg.SDI.BLACK]
  | 0x72 => live [Reg.DPX.HPD, Reg.DPX.TRAINED, Reg.DPX.RATE_TRAINED, Reg.DPX.LANES_TRAINED, Reg.DPX.ASYNC_CAP]
  | 0x80 => live [Reg.HIF.SPEED, Reg.HIF.WIDTH, Reg.HIF.FLIT]
  | 0x83 => live [Reg.NETP.LINK_UP]
  | 0x90 => live [Reg.TMB.TLS_LOCK, Reg.TMB.C_WAITING, Reg.TMB.C_HOLDOVER, Reg.TMB.C_NEXT_NS_LO, Reg.TMB.C_NEXT_NS_HI,
      Reg.TMB.C_NEXT_FRAC]
  | 0x91 => live [Reg.PFB.SPEED, Reg.PFB.SPEED_VALID, Reg.PFB.DIR, Reg.PFB.SYN_LAG]
  | 0x92 => live [Reg.PCM.ARMED_POS, Reg.PCM.ARMED_NEG, Reg.PCM.BEHIND, Reg.PCM.HELD]
  | 0xA0 => live [Reg.HBM.REFRESH_2X, Reg.HBM.REGIONS]
  | 0xB0 => live [Reg.GPI.IN]
  | 0xB1 => live Reg.XSP.all
  | 0xB2 => live [Reg.I2C.BUSY]
  | _ => false

/-- The fields among `sel` that show a condition read their reset value until the block changes them. -/
def Dev.blankLive (d : Dev) (sel : Page → Fld → Nat → Bool) : Dev :=
  let shown := d.regs.filter fun e => match keyField e.1 with
    | some (F, i, _) => F.acc = .ro && showsLive (keyPage e.1) F && sel (keyPage e.1) F i
    | none => false
  { d with pow := { d.pow with blank := shown ++ d.pow.blank.filter fun e => !shown.any fun x => x.1 = e.1 } }

/-- The class A fields among `sel` return to their reset values (R38, R43). -/
def Dev.clearShown (d : Dev) (sel : Page → Fld → Nat → Bool) : Dev :=
  (d.clearRegs fun q F i => F.cls = .a && !showsLive q F && F ≠ Reg.HDR.STATE && sel q F i).blankLive fun q F i =>
    F.cls = .a && sel q F i

/-- What a page reset empties beside registers: the FIFOs of a PTP port and of the UART, whose depths class A fields show. -/
def Dev.pageEmptied (d : Dev) (pg : Page) : Dev :=
  let (fam, n) := Pg.family pg
  match fam with
  | 0x84 => d.setPort n { d.port n with rx := [], ts := [] }
  | 0xB3 => { d with brd := { d.brd with uartRx := [] } }
  | _ => d

/-- Every class A field of a page returns to its reset value (R38, R43). -/
def Dev.pageReset (d : Dev) (pg : Page) : Dev := (d.clearShown fun q _ _ => q = pg).pageEmptied pg

/-- The end of a SOFT_RST: what was in flight has finished (R38). -/
def Dev.pageDrained (d : Dev) (pg : Page) : Dev :=
  if d.rd pg Reg.HDR.STATE = 3 ∧ !d.busy pg then (d.pageReset pg).wr pg Reg.HDR.STATE 0 else d

end Sys2Proof.Machine
end

