-- ==== Sys2Proof/Machine/Control.lean ====
section
/-! DEFINITION. Control: register access by partition and the write of a register with no behaviour of its own
(spec 02 R30, R31, R36 to R50). -/

namespace Sys2Proof.Machine

/-- The owner of the object whose registers hold byte offset `o` of a per-object page (R48, R327, R376). -/
def Dev.objectOwner (d : Dev) (pg : Page) (o : Nat) : Option PartId :=
  if o < 0x400 then none
  else
    let (fam, inst) := Pg.family pg
    match fam with
    | 0x06 => let p := (o - 0x400) / 0x10; if p < 128 then some p else none
    | 0x51 => if o < 0xC00 then some ((o - 0x400) / 4 / 4) else some ((o - 0xC00) / 4 / 2)
    | 0x53 => let k := (o - 0x400) / 0x100; if k < 4 then some (d.ownerOf 7 (4 * inst + k)) else none
    | 0x80 => let i := (o - 0x400) / 0x40; if i < 16 then some (16 * inst + i) else none
    | 0x81 => let i := (o - 0x400) / 0x20; if i < 32 then some (32 * inst + i) else none
    | 0x83 => let i := (o - 0x400) / 0x40
              if inst % 2 = 1 ∧ i < 24 then some (d.ownerOf 8 (24 * (inst / 2) + i)) else none
    | 0x90 => let i := (o - 0x400) / 0x40; if o < 0x800 ∧ i < 16 then some (d.ownerOf 9 i) else none
    | 0x92 => let i := (o - 0x400) / 0x40; if i < 16 then some (d.ownerOf 10 (16 * inst + i)) else none
    | _ => none

/-- The partition a page belongs to (R48). -/
def Dev.pageOwner (d : Dev) (pg : Page) : PartId := if Pg.ownKind pg = 1 then d.rd pg Reg.HDR.OWNER else 0

/-- Firmware runs: the boot is at stage 5 or 6 (R404, R407). -/
def Dev.running (d : Dev) : Bool := d.brd.stage = 5 || d.brd.stage = 6

/-- May partition `f` access offset `o` of a page (R48)? Until firmware runs only SYS answers (R404). -/
def Dev.mayAccess (d : Dev) (f : PartId) (pg : Page) (o : Nat) (write : Bool) : Bool :=
  if pg = Pg.SYS ∧ o = 0x140 then write || f = 0
  else if o ∈ [0x000, 0x004, 0x008, 0x038] then !write
  else if f = 0 then true
  else if o = 0x00C ∧ write then false
  else match Pg.ownKind pg with
    | 1 => d.rd pg Reg.HDR.OWNER = f
    | 2 => d.objectOwner pg o = some f
    | _ => false

/-- A denied write: a WARN event ACCESS_DENIED to the writer (R49). -/
def Dev.deny (d : Dev) (f : PartId) (pg : Page) (bar off : Nat) : Dev :=
  d.event f pg WARN 0x0101 (leBytes 1 bar ++ zeros 3 ++ leBytes 4 off)

/-- Is the field's value as written taken (R41, R42, R144, R323, R360, R415)? -/
def Dev.takesWrite (d : Dev) (pg : Page) (F : Fld) (i v : Nat) : Bool :=
  let (fam, inst) := Pg.family pg
  if F = Reg.HDR.PART then v = 0 || v = d.pageOwner pg
  else if F.acc = .rwl then !d.on Pg.SCU Reg.SCU.LOCK
  else if fam = 0x83 ∧ inst % 2 = 1 ∧ 0x400 ≤ F.off then !d.on pg Reg.NETF.EN i
  else if fam = 0x90 ∧ 0x400 ≤ F.off ∧ F.off < 0x800 then !d.on pg Reg.TMB.C_EN i
  else if fam = 0xB2 ∧ F = Reg.I2C.SPEED then inst ≠ 0
  else if fam = 0x70 ∧ (F = Reg.DSP.ROUTE_KIND ∨ F = Reg.DSP.ROUTE_IDX) then !d.on pg Reg.HDR.EN
  else if F = Reg.MIP.CAPTURE_NEXT_LO ∨ F = Reg.MIP.CAPTURE_NEXT_HI then fam ≠ 0x22 || !d.on pg Reg.HDR.EN
  else true

/-- Values that are taken as another (R110, R121). -/
def adjustWrite (pg : Page) (F : Fld) (v : Nat) : Nat :=
  if (Pg.family pg).1 = 0x21 ∧ F = Reg.HLL.ACK_TIMEOUT then max 5 v
  else if (Pg.family pg).1 = 0x21 ∧ F = Reg.HLL.LANE_SPARE_THRESH then max 1 v
  else v

/-- Write one field by its access type (R42). A write of SHADOW_EN = 0 changes no active copy of an RWQ field: each keeps its
old value until the field is next written or promoted. R39 leaves open which value a block that is not IDLE samples:
DESIGN CHOICE (log 93). -/
def Dev.writeField (d : Dev) (pg : Page) (F : Fld) (i j v : Nat) : Dev :=
  if !d.takesWrite pg F i v then d
  else
    let v := adjustWrite pg F v
    match F.acc with
    | .rw | .rwl => d.wr pg F v i j
    | .w1c => d.wr pg F (d.rd pg F i j - (d.rd pg F i j &&& v)) i j
    | .w1s => d.wr pg F (d.rd pg F i j ||| v) i j
    | .rwq => if d.on pg Reg.HDR.SHADOW_EN then d.wr pg F v i j else (d.wr pg F v i j).wrA pg F v i j
    | _ => d

/-- Key of a DW in a function's held and latched halves (R31). -/
def halfKey (f : PartId) (pg : Page) (o : Nat) : Nat := (f * 256 + pg) * 1024 + o / 4

/-- Write every field of a DW by its access type; the low half of a pair waits for its high half (R31). A high half with no
low half held is written alone: DESIGN CHOICE (log 92). -/
def Dev.plainWrite (d : Dev) (f : PartId) (pg : Page) (o v : Nat) : Dev :=
  let fs := Pg.inDw pg o
  let apply := fun (d : Dev) (fs : List (Fld × Nat × Nat)) (v : Nat) =>
    fs.foldl (fun d e => d.writeField pg e.1 e.2.1 e.2.2 (bits v e.1.lo e.1.width)) d
  if fs.any fun e => e.1.pair = .low ∧ e.1.acc ≠ .ro ∧ e.1.acc ≠ .rc then
    { d with lowHeld := Assoc.put d.lowHeld (halfKey f pg o) v }
  else if fs.any fun e => e.1.pair = .high then
    match Assoc.find d.lowHeld (halfKey f pg (o - 4)) with
    | some lo => apply (apply { d with lowHeld := Assoc.del d.lowHeld (halfKey f pg (o - 4)) } (Pg.inDw pg (o - 4)) lo) fs v
    | none => apply d fs v
  else apply d fs v

/-- A register write of partition `f`'s function that R48 checks: denied (R49), which wakes the device from PS4 and no group (R47 is
silent on a denied access: DESIGN CHOICE, log 94), or `k`
runs, after the reset that an earlier SOFT_RST drained for (R38). Writes of INT_STAT, INT_EN, INT_SET and ERR_STAT may signal
the page's interrupt (R41); other changes raise their own. Offsets that hold no page are ignored (R4, R31), an access that
is not a 32-bit aligned DW is unsupported (R30). -/
def Dev.checkedWrite (d : Dev) (f : PartId) (pg : Page) (o : Nat) (k : Dev → Dev) : Dev :=
  if o % 4 ≠ 0 then d.emit (.unsupported f)
  else if !d.hasFn f ∨ !Pg.isPage pg then d
  else if !d.running ∧ pg ≠ Pg.SYS then d
  else if d.keepDenies pg then d.keepDeny
  else if d.mayAccess f pg o true then
    let d := (d.wake [pg] 2).pageDrained pg
    if o ∈ [0x018, 0x01C, 0x020, 0x028] then d.watch pg k else k d
  else (d.wake [] 2).deny f pg 0 o

end Sys2Proof.Machine
end

