-- ==== Sys2Proof/Machine/Grid.lean ====
section
/-! DEFINITION. Grid: cadence grids and the SCHEDULE they give a head (spec 13 R360 to R364; spec 04 R109). Instants are
Timebase values in 2^-32 ns. -/

namespace Sys2Proof.Machine

/-- The Timebase in 2^-32 ns. -/
def Dev.now (d : Dev) : Nat := d.tb.toNat

def Dev.cad (d : Dev) (c : Nat) : Cadence := Sparse.get d.tim.cads c {}

def Dev.setCad (d : Dev) (c : Nat) (x : Cadence) : Dev :=
  { d with tim := { d.tim with cads := Sparse.set d.tim.cads c x {} } }

/-- OFFSET of a cadence, signed 64-bit ns with its fraction. -/
def Dev.cadOffset (d : Dev) (c : Nat) : Int :=
  sgn 64 (d.rd64 Pg.TMB Reg.TMB.C_OFFSET_NS_LO Reg.TMB.C_OFFSET_NS_HI c) * 2 ^ 32 + (d.rd Pg.TMB Reg.TMB.C_OFFSET_FRAC c : Nat)

/-- Numerator and denominator of the period in 2^-32 ns: PERIOD_NUM and PERIOD_DEN, or P_m of a TLS cadence (R363). -/
def Dev.cadPeriod (d : Dev) (c : Nat) : Nat × Nat :=
  if d.on Pg.TMB Reg.TMB.C_SRC c then ((d.cad c).period * 2 ^ 30, 1)
  else (d.rd Pg.TMB Reg.TMB.C_PERIOD_NUM c * 10 ^ 9 * 2 ^ 32, d.rd Pg.TMB Reg.TMB.C_PERIOD_DEN c)

/-- The grid's origin (R360, R362, R363). -/
def Dev.cadOrigin (d : Dev) (c : Nat) : Int :=
  match (d.cad c).origin with
  | some o => if d.on Pg.TMB Reg.TMB.C_SRC c then (o : Int) + d.cadOffset c else o
  | none => d.cadOffset c

/-- t_k of R360. -/
def Dev.instant (d : Dev) (c : Nat) (k : Int) : Int := d.cadOrigin c + (k * (d.cadPeriod c).1).fdiv (d.cadPeriod c).2

/-- The smallest k whose instant is at least `t`. -/
def Dev.firstK (d : Dev) (c : Nat) (t : Int) : Int :=
  -((-((t - d.cadOrigin c) * (d.cadPeriod c).2)).fdiv (d.cadPeriod c).1)

/-- Does the cadence take instants: running, and locked or holding over when it follows TLS_IN (R363)? -/
def Dev.cadTaking (d : Dev) (c : Nat) : Bool :=
  (d.cad c).running && !d.on Pg.TMB Reg.TMB.C_WAITING c &&
  (!d.on Pg.TMB Reg.TMB.C_SRC c || (d.cad c).locked || d.on Pg.TMB Reg.TMB.C_HOLDOVER c) &&
  (d.cadPeriod c).1 != 0 && (d.cadPeriod c).2 != 0

/-- SCHED_LEAD_US in 2^-32 ns. -/
def Dev.schedLead (d : Dev) : Nat := d.rd Pg.TMB Reg.TMB.SCHED_LEAD_US * 1000 * 2 ^ 32

/-- The payload of SCHEDULE for head `h` (R109, R364): STOP when its entry is not VALID or its cadence takes no
instants. `trig`: the send follows a trigger, so FIRST_START counts from instant 0. -/
def Dev.schedulePayload (d : Dev) (h : Nat) (trig : Bool) : List Nat :=
  let c := d.rd Pg.TMB Reg.TMB.CAD h
  if !d.on Pg.TMB Reg.TMB.VALID h ∨ !d.cadTaking c then [0, 0, 0, c + 2 ^ 8]
  else
    let k := if trig then 0 else max (d.cad c).nextK (d.firstK c (d.now + d.schedLead))
    let t := (d.instant c k + sgn 32 (d.rd Pg.TMB Reg.TMB.EXP_OFS_NS h) * 2 ^ 32) % 2 ^ 96
    let (n, m) := if d.on Pg.TMB Reg.TMB.C_SRC c then ((d.cad c).period, 4000000000)
      else (d.rd Pg.TMB Reg.TMB.C_PERIOD_NUM c, d.rd Pg.TMB Reg.TMB.C_PERIOD_DEN c)
    [t.toNat / 2 ^ 32, t.toNat % 2 ^ 32, n % 2 ^ 32 + m % 2 ^ 32 * 2 ^ 32, c]

/-- FIRST_START of a SCHEDULE payload, in 2^-32 ns. -/
def scheduleStart (p : List Nat) : Int := (dwAt p 0 * 2 ^ 32 + dwAt p 1 : Nat)

end Sys2Proof.Machine
end

