-- ==== Sys2Proof/Machine/Capture.lean ====
section
/-! DEFINITION. Capture: groups, heads, contexts and frames: CTRL messages, settings, Quires and closing a frame
(spec 03 R57 to R80; spec 04 R110; spec 05 R132 to R140). -/

namespace Sys2Proof.Machine

/-! ### Access -/

def Dev.group (d : Dev) (g : Nat) : Group := Sparse.get d.cap.groups g {}

def Dev.setGroup (d : Dev) (g : Nat) (x : Group) : Dev :=
  { d with cap := { d.cap with groups := Sparse.set d.cap.groups g x {} } }

def Dev.ctx (d : Dev) (c : Nat) : Ctx := Sparse.get d.cap.ctxs c {}

def Dev.setCtx (d : Dev) (c : Nat) (x : Ctx) : Dev :=
  { d with cap := { d.cap with ctxs := Sparse.set d.cap.ctxs c x {} } }

def Dev.updCtx (d : Dev) (c : Nat) (f : Ctx → Ctx) : Dev := d.setCtx c (f (d.ctx c))

def frameKey (h cid : Nat) : Nat := h * 2 ^ 48 + cid

def Frame.key (f : Frame) : Nat := frameKey f.head f.hdr.cid

def Dev.frame? (d : Dev) (k : Nat) : Option Frame := Assoc.find d.cap.frames k

def Dev.setFrame (d : Dev) (f : Frame) : Dev :=
  { d with cap := { d.cap with frames := Assoc.put d.cap.frames f.key f } }

def Dev.delFrame (d : Dev) (k : Nat) : Dev := { d with cap := { d.cap with frames := Assoc.del d.cap.frames k } }

def Dev.updFrame (d : Dev) (k : Nat) (g : Frame → Frame) : Dev :=
  match d.frame? k with
  | none => d
  | some f => d.setFrame (g f)

/-- Group slot registers: page and element of the group that starts at lane `g`. -/
def slotOf (g : Nat) : Page × Nat := (Pg.HLL (g / 4), g % 4)

def Dev.grp (d : Dev) (g : Nat) (F : Fld) : Nat := d.rd (slotOf g).1 F (slotOf g).2

def Dev.setGrp (d : Dev) (g : Nat) (F : Fld) (v : Nat) : Dev := d.wr (slotOf g).1 F v (slotOf g).2

/-- The Section page subpage `k` that counts for a context: its lowest-numbered member (spec 03). -/
def lowestSection (gang section_ : Nat) : Nat := match gang with | 0 => section_ | 2 => 2 | _ => 0

def Ctx.section0 (c : Ctx) : Nat := lowestSection c.gang c.section_

/-- FEn_RSP of a context. -/
def Dev.rspPage (d : Dev) (c : Nat) : Page := Pg.FE (d.ctx c).section0 11

/-- Is the Head ID bound to a context, and which? -/
def Dev.ctxOfHead (d : Dev) (h : Nat) : Option Nat :=
  (d.cap.ctxs.find? fun e => e.2.head = some h).map (·.1)

/-- Put a frame among frames in the order of their announcement. -/
def insertFrame (f : Frame) : List Frame → List Frame
  | [] => [f]
  | g :: r => if f.ord ≤ g.ord then f :: g :: r else g :: insertFrame f r

/-- Frames of a context not yet RETIRED, in the order of their announcement. -/
def Dev.framesOf (d : Dev) (c : Nat) : List Frame :=
  ((d.cap.frames.filter fun e => e.2.ctx = c).map (·.2)).foldr insertFrame []

def Dev.updQuire (d : Dev) (c i : Nat) (g : Quire → Quire) : Dev := d.updCtx c fun x => { x with quires := x.quires.modify i g }

/-- SSQ `a` is newer than `b` (R71). -/
def ssqNewer (a b : Nat) : Bool := let x := (a + 65536 - b) % 65536; 1 ≤ x && x ≤ 32767

/-- The SSQ after `s` (R71): 0 is skipped. -/
def nextSsq (s : Nat) : Nat := if s % 65536 = 65535 then 1 else s % 65536 + 1

/-- Admission states (R132). -/
def Dev.admission (d : Dev) (h : Nat) : Nat :=
  if 252 ≤ h then (if d.on (Pg.MIP (h - 252)) Reg.HDR.EN then 2 else 0)
  else d.rd (Pg.ING (d.unitOf h)) Reg.ING.ADMIT h

def Dev.setAdmit (d : Dev) (h v : Nat) : Dev := d.wr (Pg.ING (d.unitOf h)) Reg.ING.ADMIT v h

/-! ### CTRL messages (R107, R110) -/

/-- Send a CTRL message on a group: it takes the next SEQ, and waits while 64 are unacknowledged. -/
def Dev.ctrlSend (d : Dev) (g vc msg : Nat) (payload : List Nat) : Dev :=
  let x := d.group g
  let m : CtrlMsg := ⟨x.txSeq, vc, msg, payload⟩
  let x := { x with txSeq := (x.txSeq + 1) % 65536 }
  if x.unacked.length < 64 then (d.setGroup g { x with unacked := x.unacked ++ [m] }).emit (.ctrl g m)
  else d.setGroup g { x with waiting := x.waiting ++ [m] }

/-- The settings area as words W1 to W32 of SETTINGS. -/
def settingsWords (b : List (Nat × Nat)) : List Nat :=
  (List.range 32).map fun i => Pb.dw b (Pb.feDw 0 0x800 + 2 * i) + Pb.dw b (Pb.feDw 0 0x800 + 2 * i + 1) * 2 ^ 32

/-- Send a settings area to a head under the next SSQ (R71, R73); a head that no VC carries gets no message. -/
def Dev.sendSettings (d : Dev) (h : Nat) (b : List (Nat × Nat)) : Dev :=
  let x := d.head h
  let s := nextSsq x.ssq
  let d := d.setHead h { x with ssq := s, dead := x.dead.filter (· ≠ s) }
  match x.vc with
  | none => d
  | some (g, vc) => d.ctrlSend g vc 0x04 (s :: settingsWords b)

/-- Send SCHEDULE to an admitted head or in its configuration sequence (R364). -/
def Dev.sendSchedule (d : Dev) (h : Nat) (trig : Bool := false) : Dev :=
  match (d.head h).vc with
  | none => d
  | some (g, vc) =>
    let p := d.schedulePayload h trig
    let x := d.head h
    let (n, m) := d.cadPeriod (d.rd Pg.TMB Reg.TMB.CAD h)
    (d.setHead h { x with schedule := some (scheduleStart p, n / m) }).ctrlSend g vc 0x05 p

/-! ### Generations and Quires (R61 to R80) -/

/-- The generation R63 fixes for the frame announced as number `n`. -/
def genFor (gs : List Gen) (n : Nat) : Gen :=
  gs.foldl (fun a g => match g.eff with
    | none => g
    | some e => if e ≤ n then g else a) {}

/-- The newest generation of a context. -/
def Ctx.newest (c : Ctx) : Gen := c.gens.getLast?.getD {}

/-- APPLIED_CID of the active bank: the Capture ID of the first frame processed with it (R33, R61). -/
def Ctx.appliedCid (c : Ctx) : Nat := ((c.applied.find? fun e => e.1 = c.active).map (·.2.2)).getD 0

/-- A frame is processed with a generation: APPLIED_CID names the first such frame in order of announcement (R69). -/
def Ctx.noteApplied (c : Ctx) (g : Gen) (n cid : Nat) : Ctx :=
  match c.applied.find? fun e => e.1 = g with
  | none => { c with applied := c.applied ++ [(g, n, cid)] }
  | some (_, m, _) => if m ≤ n then c else { c with applied := c.applied.map fun e => if e.1 = g then (g, n, cid) else e }

/-- DWs of the loop-owned exposure fields (R65, R108). -/
def exposureDws : List Nat := seqFrom (Pb.feDw 0 0x800) 3

def aeEn (b : List (Nat × Nat)) : Bool := Pb.fe b 9 Pb.STA.AE_EN = 1

def awbEn (b : List (Nat × Nat)) : Bool := Pb.fe b 9 Pb.STA.AWB_EN = 1

/-- WB_R and WB_B of `src` put into `b`. -/
def graftWb (b src : List (Nat × Nat)) : List (Nat × Nat) :=
  let b := Pb.setDw b (Pb.feDw 6 0x400) (setBits (Pb.dw b (Pb.feDw 6 0x400)) 0 16 (Pb.fe src 6 Pb.WBM.WB_R))
  Pb.setDw b (Pb.feDw 6 0x404) (setBits (Pb.dw b (Pb.feDw 6 0x404)) 0 16 (Pb.fe src 6 Pb.WBM.WB_B))

/-- Contents of the generation a Quire makes after generation `prev` (R64, R65, R87). -/
def Quire.contents (q : Quire) (prev : List (Nat × Nat)) : List (Nat × Nat) :=
  if q.loop then
    let b := if aeEn prev ∧ q.ae = true then Pb.graft prev q.bank exposureDws else prev
    Pb.clampBank (if awbEn prev ∧ q.awb = true then graftWb b q.bank else b)
  else
    let b := if q.sendHead then q.bank else Pb.graft q.bank prev Pb.headArea
    let b := if aeEn q.bank then Pb.graft b prev exposureDws else b
    Pb.clampBank (if awbEn q.bank then graftWb b prev else b)

/-- The bank that the Quires not yet promoted lead to: what the head was last sent, and the contents of the next one. -/
def Ctx.projected (c : Ctx) : List (Nat × Nat) :=
  (c.quires.filter fun q => q.eff.isNone && !q.made).foldl (fun b q => q.contents b) c.newest.bank

/-- The place of a Quire of partition `p` with ASN `asn` among Quires or generations, given their partitions and ASNs: before
the first one of the partition with a higher ASN (R62, R63); loop Quires have no ASN, that is 0. -/
def asnPlace (l : List (Nat × Nat)) (p asn : Nat) : Nat :=
  if asn = 0 then l.length else (l.findIdx? fun a => a.1 = p && asn < a.2).getD l.length

/-- Promote Quire number `i` of a context at frame `n` (R62, R63); one that moves keeps the generation it made (R420). -/
def Ctx.promote (c : Ctx) (i n : Nat) : Ctx :=
  match c.quires[i]? with
  | none => c
  | some q =>
    let qs := c.quires.modify i fun x => { x with eff := some n, made := true }
    if q.made then { c with quires := qs }
    else
      let own := q.sendHead || q.loop
      let at_ := asnPlace (c.gens.map fun g => (g.part, g.asn)) q.part q.asn
      let prev := (c.gens.take at_).getLast?.getD {}
      let g : Gen := { qid := q.id, part := q.part, asn := q.asn, eff := some n, ssq := if own then q.ssq else prev.ssq,
                       head := if own then c.head else prev.head, bank := q.contents prev.bank }
      { c with quires := qs, gens := c.gens.take at_ ++ g :: c.gens.drop at_ }

/-- RESPIN_MAX for a frame: of its first-pass generation, or before that of the generation R63 gives it (R90). -/
def Dev.respinMax (d : Dev) (f : Frame) : Nat :=
  Pb.fe (f.firstGen.getD (genFor (d.ctx f.ctx).gens f.ord)).bank 11 Pb.RSP.RESPIN_MAX

/-- May the frame take a respin: fewer than RESPIN_MAX so far, where a pass that has not started counts none and takes
further Quires (R75, R78)? -/
def Dev.respinRoom (d : Dev) (f : Frame) : Bool := f.respins - b2n f.pending.isSome < d.respinMax f

/-- Has the frame passed its seal point? -/
def Frame.pastSeal (f : Frame) : Bool := f.state ∈ [.sealed, .processed, .released, .retired]

/-- The classification of R75 for a Quire aimed at frame `f`: on time, respin or late. -/
inductive Placement where
  | onTime | respin | late
deriving DecidableEq, Repr

def Dev.classify (d : Dev) (f : Frame) (noRespin : Bool) : Placement :=
  if f.pastSeal then .late
  else if f.firstGen.isNone ∨ f.recordOnly then .onTime
  else if d.respinRoom f ∧ !noRespin ∧ d.on (d.rspPage f.ctx) Reg.FE_RSP.RESPIN_EN then .respin
  else .late

/-- Is a QUIRE_SEAL of the same context with a lower ASN accepted and still held back (R62)? -/
def Dev.sealHeld (d : Dev) (c : Nat) (q : Quire) : Bool :=
  !q.loop && d.hst.cmds.any fun e => e.2.part = q.part && e.2.asn < q.asn && opcode e.2.entry = 0x88 && sf e.2.entry 1 0 8 = c &&
    e.2.phase = .waiting

/-- Ask for a respin of a frame with a newer generation (R77, R78): what differs decides the kind; a respin not yet
started is merged with it, a running one is abandoned. -/
def Dev.askRespin (d : Dev) (k : Nat) (g : Gen) : Dev :=
  match d.frame? k with
  | none => d
  | some f =>
    let old := match f.pending with
      | some (p, _) => p
      | none => match f.pass with
        | some r => r
        | none => f.curGen.getD {}
    let section_ := Pb.differsFe old.bank g.bank
    let slots := (List.range 16).any fun s => Pb.differsSlot old.bank g.bank s
    let running := f.pass.isSome
    let wasSection := match f.pending with
      | some (_, b) => b
      | none => running
    if !section_ ∧ !slots then
      let d := if f.pending.isSome then d else d.updCtx f.ctx fun x => x.noteApplied g f.ord f.hdr.cid
      match f.pending with
      | some (_, b) => d.setFrame { f with pending := some (g, b) }
      | none => if running then d.setFrame { f with pass := some g } else d.setFrame { f with curGen := some g }
    else if f.pending.isSome then d.setFrame { f with pending := some (g, section_ || wasSection) }
    else d.setFrame { f with pending := some (g, section_ || wasSection), respins := f.respins + 1,
                             pass := if running then none else f.pass, flags := f.flags ||| 2 ^ 4 }

/-- Quire `i` of a context is moved to a later frame, from frame `cid` of head `h` (R76): flags of that frame, counts and
the INFO event. `limit`: its respins are used up. -/
def Dev.noteLate (d : Dev) (c i h cid : Nat) (limit : Bool) : Dev :=
  match (d.ctx c).quires[i]? with
  | none => d
  | some q =>
    let pg := d.rspPage c
    let d := d.updFrame (frameKey h cid) fun f => { f with flags := f.flags ||| 2 ^ 7 ||| (if limit then 2 ^ 9 else 0) }
    let d := if q.moved then d else d.bump pg Reg.FE_RSP.LATE_CNT
    let d := if limit && !q.deflected then (d.bump pg Reg.FE_RSP.DEFLECT_CNT).raise pg 3 else d
    let d := d.updQuire c i fun q => { q with late := true, moved := true, deflected := q.deflected || limit }
    d.event (d.ownerOf 0 c) pg INFO 0x0203 (leBytes 1 h ++ zeros 7 ++ leBytes 8 cid)

/-- The Head ID that the events of a context name. -/
def Ctx.headId (x : Ctx) : Nat := x.head.getD 0xFF

/-- Is a later frame one to which R76 moves a Quire: before its seal point, and with fewer than RESPIN_MAX respins? -/
def Dev.takesLate (d : Dev) (f : Frame) : Bool := !f.pastSeal && d.respinRoom f

/-- Place Quire `i` of context `c` on the first of the frames `fs` (in order of announcement) that takes it: R75, and R76
when it is late. `moving`: it was late before. A Quire that may not respin and meets a used-up respin limit counts as moved
for that limit: DESIGN CHOICE (log 99). -/
def Dev.place (d : Dev) (c i : Nat) (moving : Bool) : List Frame → Dev
  | [] => d.updQuire c i fun q => { q with target := .frame (d.ctx c).ord }
  | f :: rest =>
    if moving ∧ !d.takesLate f then d.place c i moving rest
    else
      let nr := match (d.ctx c).quires[i]? with
        | some q => q.noRespin
        | none => false
      let reach := fun (d : Dev) => d.updCtx c fun x => ({ x with quires := x.quires.modify i fun q =>
        { q with late := q.late || (match q.target with
          | .frame o => o < f.ord
          | _ => false) } } : Ctx).promote i f.ord
      let reach := fun (d : Dev) => if ((d.ctx c).quires[i]?.map fun q => q.loop && q.dflt) = some true then
          (reach d).updFrame f.key fun f => { f with flags := f.flags ||| 2 ^ 15 } else reach d
      match d.classify f nr with
      | .onTime => reach d
      | .respin =>
        let d := reach d
        let d := d.askRespin f.key (genFor (d.ctx c).gens f.ord)
        d.updQuire c i fun q => { q with respun := ((d.frame? f.key).bind (·.pending)).isSome }
      | .late =>
        (d.noteLate c i f.head f.hdr.cid (f.firstGen.isSome && !f.pastSeal && !d.respinRoom f)).place c i true rest

/-- Place a Quire whose target is frame `t`: it waits while that frame is to come, and is late when it has gone. -/
def Dev.placeAt (d : Dev) (c i t : Nat) : Dev :=
  let x := d.ctx c
  let gone := fun (d : Dev) (fs : List Frame) =>
    (d.noteLate c i x.headId ((x.quires[i]?.map (·.aim)).getD 0) false).place c i true fs
  if x.ord ≤ t then d
  else match (d.framesOf c).filter fun f => t ≤ f.ord with
    | [] => gone d []
    | f :: r => if f.ord = t then d.place c i false (f :: r) else gone d (f :: r)

/-- Effective frames already given to Quires before number `i`: none of theirs is unknown, and the latest (R62). -/
def Ctx.ahead (c : Ctx) (i : Nat) : Option Nat :=
  ((c.quires.take i).filter fun q => !q.loop).foldl (fun a q => match a, q.eff with
    | some m, some e => some (max m e)
    | _, _ => none) (some 0)

/-- Resolve a target Capture ID `n` of Quire `i`: that frame; or, when a greater one was announced, the first frame with a
greater Capture ID, and the Quire is late (R67). -/
def Dev.resolveCid (d : Dev) (c i n : Nat) : Dev :=
  let x := d.ctx c
  let fs := (d.framesOf c).filter fun f => some f.head = x.head
  match fs.find? fun f => f.hdr.cid = n with
  | some f => d.updQuire c i fun q => { q with target := .frame f.ord, aim := n }
  | none => match x.head.bind fun h => (d.head h).lastCid with
    | some l =>
      if l < n then d
      else
        let o := ((fs.find? fun f => n < f.hdr.cid).map (·.ord)).getD x.ord
        (d.noteLate c i x.headId n false).updQuire c i fun q => { q with target := .frame o, aim := n }
    | none => d

/-- Give Quire `i` of a context its effective frame if R62, R67 and R75 already decide it. -/
def Dev.resolve (d : Dev) (c i : Nat) : Dev :=
  match (d.ctx c).quires[i]?, (d.ctx c).ahead i with
  | some q, some m =>
    if q.eff.isSome ∨ q.loop ∨ d.sealHeld c q then d
    else
      let d := match q.target with
        | .cid n => d.resolveCid c i n
        | _ => d
      match (d.ctx c).quires[i]? with
      | some q => (match q.target with
        | .frame o => d.placeAt c i (max o m)
        | _ => d)
      | none => d
  | _, _ => d

/-- An SSQ echo that is not acceptable to a context (R73): newer than the last one sent, older than that of the generation
in use, or of a Quire that timed out. -/
def Dev.echoBad (d : Dev) (c ssq : Nat) : Bool :=
  let x := d.ctx c
  match x.head with
  | none => false
  | some h =>
    let g := genFor x.gens x.ord
    ssqNewer ssq (d.head h).ssq || (g.head = some h && g.ssq ≠ 0 && ssqNewer g.ssq ssq) || (d.head h).dead.contains ssq

/-- A frame with Capture ID `n` and SSQ echo `ssq` is announced: the Quires that wait for it reach it, in promotion order
(R62, R67, R73). -/
def Dev.announceQuires (d : Dev) (c n ssq : Nat) : Dev :=
  let o := (d.ctx c).ord
  let bad := d.echoBad c ssq
  (List.range (d.ctx c).quires.length).foldl (fun (d : Dev) i =>
    let x := d.ctx c
    match x.quires[i]? with
    | none => d
    | some q =>
      if q.eff.isSome then d
      else
        let echoed := !bad && (q.ssq = ssq || ssqNewer ssq q.ssq)
        let reach := fun (d : Dev) (late : Bool) => d.updCtx c fun x =>
          ({ x with quires := x.quires.modify i fun y => { y with late := y.late || late } } : Ctx).promote i o
        let ready := q.loop || ((x.ahead i).isSome && !d.sealHeld c q)
        match q.target with
        | .echo => if ready && echoed then reach d false else d.updQuire c i fun y => { y with waited := y.waited + 1 }
        | .frame t =>
          let room : Bool := !q.moved || 0 < Pb.fe (genFor x.gens o).bank 11 Pb.RSP.RESPIN_MAX
          if ready && room then reach d (t < o) else if t = o then d.updQuire c i fun y => { y with aim := n } else d
        | .cid m =>
          if n < m then d
          else
            let d := if m < n then d.noteLate c i x.headId m false else d
            let d := d.updQuire c i fun y => { y with target := .frame o, aim := m }
            if ready then reach d false else d) d

/-- Complete and remove the Quires of a context that `sel` picks, each with its status and DW0 (R69). -/
def Dev.endQuires (d : Dev) (c : Nat) (sel : Quire → Option (Status × Nat)) : Dev :=
  let x := d.ctx c
  let d := d.setCtx c { x with quires := x.quires.filter fun q => (sel q).isNone }
  x.quires.foldl (fun d q => match sel q with
    | none => d
    | some (st, r) =>
      if q.loop then d
      else match d.hst.cmds.find? (fun e => e.2.part = q.part && e.2.asn = q.asn && opcode e.2.entry = 0x88 && sf e.2.entry 1 0 8 = c) with
        | some e => if st.value.2 ∨ st = .SUCCESS then d.succeed e.2 r st else d.complete e.2 st r
        | none => d) d

/-- Statuses of QUIRE_SEAL (R69). -/
def QUIRE_LATE : Status := .code 0x40 true
def QUIRE_SUPERSEDED : Status := .code 0x41 true
def QUIRE_RESPUN : Status := .code 0x42 true
def QUIRE_TARGET : Status := .code 0x48 false
def QUIRE_UNBOUND : Status := .code 0x49 false
def QUIRE_FULL : Status := .code 0x4A false
def QUIRE_ECHO_TIMEOUT : Status := .code 0x4B false
def QUIRE_CANCELLED : Status := .code 0x4C false

/-- A context is unbound or bound to another head: Quires with no effective frame end (R73). -/
def Dev.cancelQuires (d : Dev) (c : Nat) : Dev :=
  d.endQuires c fun q => if q.eff.isNone then some (QUIRE_CANCELLED, 0) else none

/-- A Quire whose effective frame was dropped before its seal point moves on (R420). -/
def Dev.rehomeQuires (d : Dev) (f : Frame) : Dev :=
  if f.pastSeal then d
  else
    let c := f.ctx
    (List.range (d.ctx c).quires.length).foldl (fun d i =>
      match (d.ctx c).quires[i]? with
      | none => d
      | some q =>
        if q.eff = some f.ord then
          let d := d.updQuire c i fun q => { q with eff := none }
          (d.noteLate c i f.head f.hdr.cid false).place c i true ((d.framesOf c).filter fun g => f.ord < g.ord)
        else d) d

/-- A FINAL sink takes a frame, or its Take commits it, after the release deadline: RELEASE_LATE, once (R82). -/
def Dev.finalRelease (d : Dev) (k : Nat) : Dev :=
  match d.frame? k with
  | none => d
  | some f =>
    if f.deadlinePassed ∧ !bitAt f.flags 10 then
      let pg := d.rspPage f.ctx
      let d := (d.setFrame { f with flags := f.flags ||| 2 ^ 10 }).event f.owner pg WARN 0x0204
        (leBytes 1 f.head ++ zeros 7 ++ leBytes 8 f.hdr.cid)
      (d.bump pg Reg.FE_RSP.DEADLINE_MISS_CNT).raise pg 0
    else d

/-! ### Closing a frame (R136, R139) -/

/-- Vertical period of a CFA (R139): 2 Bayer (kind 0), 4 quad-Bayer (1) and RGBW (2), 1 monochrome (3), CUST_H for a
custom one (4). -/
def cfaPeriod (kind : Nat) (b : List (Nat × Nat)) : Nat :=
  match kind with
  | 0 => 2 | 1 => 4 | 2 => 4 | 3 => 1 | _ => max 1 (Pb.fe b 5 Pb.DMS.CUST_H)

/-- The fill code of photosite (r, c) (R131). -/
def fillCode (b : List (Nat × Nat)) (depth r c : Nat) : Nat :=
  let F := match r % 2, c % 2 with
    | 0, 0 => Pb.CTL.FILL0 | 0, _ => Pb.CTL.FILL1 | _, 0 => Pb.CTL.FILL2 | _, _ => Pb.CTL.FILL3
  min (Pb.fe b 0 F) (2 ^ depth - 1)

/-- One photosite as completed: its code, whether it was filled as WIDTH, and whether it was concealed. -/
structure Done where
  code : Nat
  width : Bool := false
  conceal : Bool := false

/-- Was the photosite of a sample (row * 65536 + column) carried by a packet whose CRC failed? It counts as not received
(R145). -/
def Frame.failed (f : Frame) (e : Nat) : Bool := f.bad.any fun b => b.1 = e / 65536 && b.2.1 ≤ e % 65536 && e % 65536 < b.2.1 + b.2.2

/-- The completed rows of a frame, newest first, `n` rows from row `r` (R139). -/
def completeRows (f : Frame) (rlim : Nat) (rmax : Option Nat) (period : Nat) : Nat → Nat → List (List Done) → List (List Done)
  | 0, _, acc => acc
  | n + 1, r, acc =>
    let cols := (f.raw.filter fun e => e.1 / 65536 = r).map fun e => (e.1 % 65536, e.2)
    let isBad := fun (c : Nat) => f.failed (r * 65536 + c)
    let came := f.raw.any fun e => e.1 / 65536 = r && !f.failed e.1
    let last := cols.foldl (fun m e => max m (e.1 + 1)) 0
    let row := (List.range f.cfgW).map fun c =>
      let got := if isBad c then none else Assoc.find cols c
      match got with
      | some v => (⟨v, false, false⟩ : Done)
      | none =>
        let fill := fillCode f.ingGen.bank f.hdr.depth r c
        let inside := r < rlim && (match rmax with
          | some m => r ≤ m
          | none => false)
        if !inside then ⟨fill, false, false⟩
        else if came ∧ last ≤ c ∧ r ∉ f.hurt ∧ !isBad c then ⟨fill, true, false⟩
        else if r < period then ⟨fill, false, true⟩
        else ⟨(((acc.getD (period - 1) []).getD c ⟨0, false, false⟩).code), false, true⟩
    completeRows f rlim rmax period n (r + 1) (row :: acc)

/-- Why a frame closes (R136). -/
inductive CloseCause where
  | trailer | complete | nextHeader | rowTimeout | frameTimeout | unbound
deriving DecidableEq, Repr

/-- The frame as it stands once closed: completed raw, flags and counts (R139). -/
def Frame.closed (f : Frame) (now : Nat) : Frame × Bool :=
  let rlim := min f.hdr.rows f.cfgH
  let got := ((f.raw.filter fun e => !f.failed e.1).map fun e => e.1 / 65536).eraseDups
  let rmax := (got.filter (· < rlim)).foldl (fun m r => some (max (m.getD 0) r)) (none : Option Nat)
  let rows := (completeRows f rlim rmax (cfaPeriod f.hdr.cfaKind f.ingGen.bank) f.cfgH 0 []).reverse
  let wrows := (rows.zipIdx.filter fun e => e.1.any (·.width)).map (·.2)
  let crc := (rows.filter fun r => r.any (·.conceal)).length
  let widthRows := (f.widthRows ++ wrows).eraseDups
  let first := match rmax with
    | some m => m + 1
    | none => 0
  let missing := rlim - first
  let geometry := rlim < f.cfgH && (rows.drop rlim).zipIdx.any fun e =>
    (f.raw.filter fun x => x.1 / 65536 = rlim + e.2).length < f.cfgW
  let flags := f.flags ||| (if 0 < missing then 1 else 0) ||| (if f.longRows ≠ [] then 2 else 0) |||
    (if widthRows ≠ [] then 4 else 0) ||| (if 0 < crc then 8 else 0)
  ({ f with
      state := .ingested, tIng := now, row := none, widthRows := widthRows, crcRows := crc, received := got.length,
      missingFirst := if 0 < missing then first else 0, missingCount := missing, flags := flags,
      raw := rows.zipIdx.flatMap fun e => e.1.zipIdx.map fun x => (e.2 * 65536 + x.2, x.1.code) }, geometry)

/-- Head ID and Capture ID as event DATA. -/
def frameData (h cid : Nat) : List Byte := leBytes 1 h ++ zeros 7 ++ leBytes 8 cid

/-- Close a frame that is open (R136, R139, R140): it becomes INGESTED. -/
def Dev.closeFrame (d : Dev) (k : Nat) (cause : CloseCause) : Dev :=
  match d.frame? k with
  | none => d
  | some f =>
    if f.state ≠ .announced ∧ f.state ≠ .ingesting then d
    else
      let (f', geometry) := f.closed d.now
      let pg := Pg.ING f.ing
      let d := d.setFrame f'
      let d := { d with cap := { d.cap with
        mipOpen := d.cap.mipOpen.filter fun e => e.2 ≠ k,
        groups := d.cap.groups.map fun e => (e.1, { e.2 with openFrames := e.2.openFrames.filter fun o => o.2 ≠ k }) } }
      let d := match cause with
        | .rowTimeout | .frameTimeout => (d.bump pg Reg.ING.TIMEOUT_CNT).event f.owner pg WARN 0x0405 (frameData f.head f.hdr.cid)
        | .complete | .nextHeader => d.bump pg Reg.ING.NO_TRAILER_CNT
        | _ => d
      let has := fun b => bitAt f'.flags b
      let d := if has 0 then ((d.bump pg Reg.ING.SHORT_CNT).raise pg 0).event f.owner pg WARN 0x0407
          (leBytes 1 f.head ++ zeros 1 ++ leBytes 2 f'.missingFirst ++ leBytes 2 f'.missingCount ++ zeros 2 ++ leBytes 8 f.hdr.cid)
        else d
      let d := if has 1 then d.bump pg Reg.ING.LONG_CNT else d
      let d := if has 2 then d.bump pg Reg.ING.WIDTH_CNT else d
      let d := if has 1 ∨ has 2 then d.event f.owner pg WARN 0x0408 (frameData f.head f.hdr.cid) else d
      let d := if has 3 then (d.bump pg Reg.ING.CRC_ROW_CNT).event f.owner pg INFO 0x0409 (frameData f.head f.hdr.cid) else d
      let d := if geometry then d.bump pg Reg.ING.GEOMETRY_CNT else d
      let d := if geometry ∧ !(d.ctx f.ctx).geometryWarned then
          (d.updCtx f.ctx fun x => { x with geometryWarned := true }).event f.owner pg WARN 0x0406 (frameData f.head f.hdr.cid)
        else d
      let d := if has 1 ∨ has 2 ∨ geometry then d.raise pg 1 else d
      d

/-- Unbind a VC (R133): its open frame closes with cause UNBOUND and its head returns to UNBOUND. -/
def Dev.unbindVc (d : Dev) (g vc : Nat) : Dev :=
  let x := d.group g
  match Assoc.find x.vcs vc with
  | none => d
  | some b =>
    let d := match Assoc.find x.openFrames vc with
      | some k => d.closeFrame k .unbound
      | none => d
    let d := d.setAdmit b.head 0
    let h := d.head b.head
    let d := d.setHead b.head { h with vc := none, cfg := none, cfgWait := [], schedule := none }
    let x := d.group g
    let d := d.setGroup g { x with vcs := Assoc.del x.vcs vc, openFrames := Assoc.del x.openFrames vc,
                                   dropping := Assoc.del x.dropping vc, between := x.between.filter (· ≠ vc) }
    d.setGrp g Reg.HLL.VC_BOUND (d.grp g Reg.HLL.VC_BOUND - (d.grp g Reg.HLL.VC_BOUND &&& 2 ^ vc))

/-- Unbind every VC of a group. -/
def Dev.unbindAll (d : Dev) (g : Nat) : Dev := (List.range 16).foldl (fun d v => d.unbindVc g v) d

/-- The interval between the two newest ANNOUNCED instants of a context in 2^-32 ns, 100 ms where there are not two (R154); and
in µs (R5). -/
def Dev.framePeriod (d : Dev) (c : Nat) : Nat := (d.ctx c).period.getD (100000000 * 2 ^ 32)

def Dev.framePeriodUs (d : Dev) (c : Nat) : Nat := intervalIn 1000 (d.framePeriod c)

end Sys2Proof.Machine
end

