-- ==== Sys2Proof/Machine/Cadence.lean ====
section
/-! DEFINITION. Cadence: cadences, the Timebase's steps, tri-level sync, PTP ports and PPS (spec 13 R350 to R364). -/

namespace Sys2Proof.Machine

/-! ### Cadences (R360 to R364) -/

/-- Owner of a cadence (R301). -/
def Dev.cadOwner (d : Dev) (c : Nat) : PartId := d.ownerOf 9 c

/-- Admitted heads whose HEAD_CAD entry is VALID and names the cadence (R364). -/
def Dev.cadHeads (d : Dev) (c : Nat) : List Nat :=
  (List.range 256).filter fun h => d.on Pg.TMB Reg.TMB.VALID h && d.rd Pg.TMB Reg.TMB.CAD h = c && d.admission h = 2

/-- Send SCHEDULE to every head that the cadence drives (R364). -/
def Dev.cadSend (d : Dev) (c : Nat) (trig : Bool := false) : Dev :=
  (d.cadHeads c).foldl (fun d h => d.sendSchedule h trig) d

/-- NEXT_NS and NEXT_FRAC: the next instant to be taken. -/
def Dev.cadShow (d : Dev) (c : Nat) : Dev :=
  if d.cadTaking c then
    let t := (d.instant c (d.cad c).nextK % 2 ^ 96).toNat
    (d.wr64 Pg.TMB Reg.TMB.C_NEXT_NS_LO Reg.TMB.C_NEXT_NS_HI (t / 2 ^ 32) c).wr Pg.TMB Reg.TMB.C_NEXT_FRAC t c
  else d

/-- The instant SCHED_LEAD_US from now is the earliest a starting cadence takes (R361). -/
def Dev.cadBegin (d : Dev) (c : Nat) : Dev :=
  let d := d.setCad c { d.cad c with nextK := d.firstK c (d.now + d.schedLead), last := none,
                                     burst := d.rd Pg.TMB Reg.TMB.C_BURST c }
  (d.cadShow c).cadSend c

/-- EN becomes 1 (R360 to R363): the cadence starts, or waits for a trigger or for TLS lock. -/
def Dev.cadStart (d : Dev) (c : Nat) : Dev :=
  let src := d.on Pg.TMB Reg.TMB.C_SRC c
  let wait := d.on Pg.TMB Reg.TMB.C_TRIG_WAIT c || (src && !(d.cad c).locked)
  let d := d.setCad c { d.cad c with running := true, origin := if src then (d.cad c).origin else none, last := none }
  let d := d.wr Pg.TMB Reg.TMB.C_WAITING (b2n wait) c
  if wait then d.cadSend c else d.cadBegin c

/-- Scan-out engines that follow the cadence lose their lock (R289). -/
def Dev.dspUnlock (d : Dev) (c : Nat) : Dev :=
  let f : Nat × Dsp → Nat × Dsp := fun e =>
    if d.rdA (Pg.DSP e.1) Reg.DSP.CADENCE = c then (e.1, { e.2 with locked := false }) else e
  { d with pip := { d.pip with dsps := d.pip.dsps.map f } }

/-- TLS_LOCK: some cadence meets the lock rule. -/
def Dev.tlsShow (d : Dev) : Dev :=
  let on := (List.range 16).any fun c => (d.cad c).locked
  if d.on Pg.TMB Reg.TMB.TLS_LOCK = on then d else (d.wr Pg.TMB Reg.TMB.TLS_LOCK (b2n on)).raise Pg.TMB 4

/-- EN becomes 0: SCHEDULE with STOP goes to the heads (R364). A cadence that does not run follows no TLS_IN: it locks anew,
to the period then configured, when it runs again (R363). -/
def Dev.cadStop (d : Dev) (c : Nat) : Dev :=
  let d := ((d.wr Pg.TMB Reg.TMB.C_EN 0 c).wr Pg.TMB Reg.TMB.C_WAITING 0 c).wr Pg.TMB Reg.TMB.C_HOLDOVER 0 c
  let x := { d.cad c with running := false, last := none, locked := false, good := 0, tls := [], period := 0, fired := false }
  (((d.setCad c x).dspUnlock c).cadSend c).tlsShow

/-- BURST instants were taken (R361): the cadence stops, or waits again. -/
def Dev.cadBurstOver (d : Dev) (c : Nat) : Dev :=
  if d.on Pg.TMB Reg.TMB.C_TRIG_WAIT c then (d.wr Pg.TMB Reg.TMB.C_WAITING 1 c).cadSend c else d.cadStop c

/-- Skipped instants: counted, with an INFO event (R361). -/
def Dev.cadSkipped (d : Dev) (c n : Nat) : Dev :=
  if n = 0 then d
  else ((d.bump Pg.TMB Reg.TMB.C_SKIP_CNT c n).event (d.cadOwner c) Pg.TMB INFO 0x0A03 [BitVec.ofNat 8 c] n).raise Pg.TMB 3

/-- The next instant: taken, or skipped when it falls less than half a period of elapsed time after the one before
(R361). -/
def Dev.cadNext (d : Dev) (c : Nat) : Dev :=
  if !d.cadTaking c then d
  else
    let x := d.cad c
    let t := d.instant c x.nextK
    let near := match x.last with
      | some l => 2 * (t - l) * (d.cadPeriod c).2 < (d.cadPeriod c).1
      | none => false
    if near = true then ((d.setCad c { x with nextK := x.nextK + 1 }).cadSkipped c 1).cadShow c
    else
      let d := d.bump Pg.TMB Reg.TMB.C_TAKEN_CNT c
      let b := x.burst - 1
      let d := d.setCad c { x with nextK := x.nextK + 1, last := some t, burst := b }
      if 0 < x.burst ∧ b = 0 then d.cadBurstOver c else d.cadShow c

/-- Does the cadence follow TLS_IN without lock or holdover, so that it takes no instants (R363)? -/
def Dev.cadUnlocked (d : Dev) (c : Nat) : Bool :=
  d.on Pg.TMB Reg.TMB.C_SRC c && !(d.cad c).locked && !d.on Pg.TMB Reg.TMB.C_HOLDOVER c

/-- A trigger of a compare unit that fired at instant `t` (R362). A cadence that has not locked to TLS_IN keeps it and starts at
its lock (log 144). -/
def Dev.cadTrigger (d : Dev) (c : Nat) (t : Int) : Dev :=
  if !(d.on Pg.TMB Reg.TMB.C_EN c && d.on Pg.TMB Reg.TMB.C_TRIG_WAIT c && d.on Pg.TMB Reg.TMB.C_WAITING c) || (d.cad c).fired then
    d.bump Pg.TMB Reg.TMB.C_TRIG_IGN_CNT c
  else if d.cadUnlocked c then d.setCad c { d.cad c with fired := true }
  else
    let o := t + (d.rd Pg.TMB Reg.TMB.C_TRIG_LEAD_US c * 1000 * 2 ^ 32 : Nat)
    let o := if d.on Pg.TMB Reg.TMB.C_SRC c then o - d.cadOffset c else o
    let d := d.wr Pg.TMB Reg.TMB.C_WAITING 0 c
    let d := d.setCad c { d.cad c with origin := some o.toNat, nextK := 0, last := none, burst := d.rd Pg.TMB Reg.TMB.C_BURST c }
    (d.cadShow c).cadSend c true

/-- A write of a cadence's CTRL register (R360): fields other than EN hold while EN = 1; a cadence enabled while the page is
not starts when the page's EN returns to 1 (R37). -/
def Dev.cadCtrl (d : Dev) (c v : Nat) : Dev :=
  if d.on Pg.TMB Reg.TMB.C_EN c then (if bitAt v 0 then d else d.cadStop c)
  else
    let d := (d.wr Pg.TMB Reg.TMB.C_SRC (bits v 1 1) c).wr Pg.TMB Reg.TMB.C_TRIG_WAIT (bits v 2 1) c
    if !bitAt v 0 then d
    else if d.on Pg.TMB Reg.HDR.EN then (d.wr Pg.TMB Reg.TMB.C_EN 1 c).cadStart c
    else d.wr Pg.TMB Reg.TMB.C_EN 1 c

/-- EN of page TMB returns to 1: the cadences enabled meanwhile start (R37). -/
def Dev.cadResume (d : Dev) : Dev :=
  (List.range 16).foldl (fun (d : Dev) c => if d.on Pg.TMB Reg.TMB.C_EN c ∧ !(d.cad c).running then d.cadStart c else d) d

def Dev.cadenceEn (d : Dev) (f c v : Nat) : Dev := d.checkedWrite f Pg.TMB (0x400 + 0x40 * c) fun d => d.cadCtrl c v

/-- A write of a DW of a HEAD_CAD entry: an admitted head gets SCHEDULE when the entry changes (R364). -/
def Dev.headCad (d : Dev) (f h hi v : Nat) : Dev :=
  d.checkedWrite f Pg.TMB (0x800 + 8 * h + 4 * hi) fun d =>
    let show_ := fun (d : Dev) => (d.rd Pg.TMB Reg.TMB.CAD h, d.rd Pg.TMB Reg.TMB.VALID h, d.rd Pg.TMB Reg.TMB.EXP_OFS_NS h)
    let d' := if hi = 0 then (d.wr Pg.TMB Reg.TMB.CAD (bits v 0 4) h).wr Pg.TMB Reg.TMB.VALID (bits v 8 1) h
      else d.wr Pg.TMB Reg.TMB.EXP_OFS_NS v h
    if show_ d ≠ show_ d' ∧ d'.admission h = 2 then d'.sendSchedule h else d'

/-! ### Tri-level sync (R363) -/

/-- Is an interval, in 0.25 ns, within 100 ppm of the cadence's configured period? -/
def Dev.tlsGood (d : Dev) (c i : Nat) : Bool :=
  let n : Int := d.rd Pg.TMB Reg.TMB.C_PERIOD_NUM c * 4000000000
  let m : Int := d.rd Pg.TMB Reg.TMB.C_PERIOD_DEN c
  ((i * m - n) * 1000000).natAbs ≤ (100 * n).natAbs

/-- Does an exposure start lie more than 10 ns from the nearest of the schedule last sent, (FIRST_START, period) (R364)? -/
def gridMoved (sent : Option (Int × Nat)) (start : Int) : Bool :=
  match sent with
  | none => true
  | some (first, n) =>
    let r := (start - first) % (n : Int)
    n = 0 || 10 * 2 ^ 32 < min r (n - r)

/-- The grid of a locked cadence moves to a TLS instant: the next instant is the one nearest to the old grid's next. A head
whose schedule it leaves by more than 10 ns gets a new one (R364). -/
def Dev.tlsRefresh (d : Dev) (c t : Nat) : Dev :=
  let x := d.cad c
  let next := d.instant c x.nextK
  let d := d.setCad c { x with origin := some t }
  let (n, m) := d.cadPeriod c
  let k := if n = 0 then 0 else (2 * (next - d.cadOrigin c) * m + n).fdiv (2 * n)
  let d := (d.setCad c { d.cad c with nextK := k }).cadShow c
  if !d.cadTaking c then d
  else
    (d.cadHeads c).foldl (fun d h =>
      if gridMoved (d.head h).schedule (scheduleStart (d.schedulePayload h false)) then d.sendSchedule h else d) d

/-- One cadence that follows TLS_IN meets a TLS frame instant `t`, `i` quarter nanoseconds after the one before. -/
def Dev.tlsCadence (d : Dev) (c t : Nat) (i : Option Nat) : Dev :=
  let x := d.cad c
  if !x.running ∨ !d.on Pg.TMB Reg.TMB.C_SRC c then d
  else
    let good := match i with
      | some i => if d.tlsGood c i then x.good + 1 else 0
      | none => 0
    let tls := match i with
      | some i => (i :: x.tls).take 16
      | none => x.tls
    let mean := if tls = [] then x.period else rndDiv (tls.foldl (· + ·) 0 : Nat) tls.length |>.toNat
    if x.locked then (d.setCad c { x with good := good, tls := tls, period := mean }).tlsRefresh c t
    else if good < 4 then d.setCad c { x with good := good, tls := if good = 0 then [] else tls }
    else
      let hold := d.on Pg.TMB Reg.TMB.C_HOLDOVER c
      let d := d.setCad c { x with good := good, tls := tls, locked := true, period := mean,
                                   origin := if hold then x.origin else some t }
      if hold then
        let d := (d.wr Pg.TMB Reg.TMB.C_HOLDOVER 0 c).event (d.cadOwner c) Pg.TMB INFO 0x0A05 [BitVec.ofNat 8 c]
        d.tlsRefresh c t
      else if d.on Pg.TMB Reg.TMB.C_TRIG_WAIT c ∧ x.fired = false then d
      else ((d.setCad c { d.cad c with fired := false }).wr Pg.TMB Reg.TMB.C_WAITING 0 c).cadBegin c

/-- A TLS frame instant at Timebase instant `t` (R363). -/
def Dev.tlsInstant (d : Dev) (t : Nat) : Dev :=
  let i := d.tim.tlsLast.bind fun l => if l < t then some (evenDiv (t - l) (2 ^ 30)) else none
  let d := { d with tim := { d.tim with tlsLast := some t } }
  let d := d.wr64 Pg.TMB Reg.TMB.TLS_LAST_NS_LO Reg.TMB.TLS_LAST_NS_HI (t / 2 ^ 32)
  let d := match i with
    | some i => d.wr Pg.TMB Reg.TMB.TLS_PERIOD (min i (2 ^ 32 - 1))
    | none => d
  ((List.range 16).foldl (fun d c => d.tlsCadence c t i) d).tlsShow

/-- No TLS instant within 1.5 periods: the cadence holds over at its last P_m (R363). -/
def Dev.tlsHoldover (d : Dev) (c : Nat) : Dev :=
  let x := d.cad c
  if x.locked ∧ x.running ∧ d.on Pg.TMB Reg.TMB.C_SRC c then
    let d := d.setCad c { x with locked := false, good := 0, tls := [] }
    ((d.wr Pg.TMB Reg.TMB.C_HOLDOVER 1 c).event (d.cadOwner c) Pg.TMB WARN 0x0A04 [BitVec.ofNat 8 c]).tlsShow
  else d

/-! ### PTP ports (R356 to R358) -/

/-- Port time wraps with its 48-bit seconds. -/
def portWrap : Nat := 2 ^ 48 * 10 ^ 9 * 2 ^ 32

/-- Move a port's time by a signed amount (R356). -/
def Dev.portMove (d : Dev) (p : Nat) (by_ : Int) : Dev :=
  let x := d.port p
  d.setPort p { x with time := (((x.time : Int) + by_) % (portWrap : Int)).toNat }

/-- A write of SET_CTRL of a port: SET_GO loads, ADJ_GO adds (R356). -/
def Dev.portSet (d : Dev) (p v : Nat) : Dev :=
  let pg := Pg.PTP p
  let d := if bitAt v 0 then
      d.setPort p { d.port p with time :=
        ((d.rd64 pg Reg.PTP.SET_SEC_LO Reg.PTP.SET_SEC_HI * 10 ^ 9 + d.rd pg Reg.PTP.SET_NS) * 2 ^ 32) % portWrap }
    else d
  if bitAt v 1 then
    d.portMove p (sgn 64 (d.rd64 pg Reg.PTP.ADJ_NS_LO Reg.PTP.ADJ_NS_HI) * 2 ^ 32 + (d.rd pg Reg.PTP.ADJ_FRAC : Nat))
  else d

def Dev.portSetWrite (d : Dev) (f p v : Nat) : Dev := d.checkedWrite f (Pg.PTP p) 0x118 fun d => d.portSet p v

/-- Port time minus Timebase, in 2^-32 ns (R356). -/
def Dev.tbDiff (d : Dev) (p : Nat) : Int := (d.port p).time - (d.now : Int)

/-- Does a UDP datagram's destination make it PTP: the groups of R357 or the sub-interface's own address? -/
def ptpAddress (own : List (List Byte)) (dst : List Byte) : Bool :=
  dst ∈ own ||
  dst ∈ [be 4 0xE0000181, be 4 0xE000006B, be 16 0xFF0E0000000000000000000000000181, be 16 0xFF02000000000000000000000000006B]

/-- The UDP datagram in an IPv6 payload whose first header is of type `next`, behind its extension headers; none in a
fragment other than the first (R357). -/
def udp6 : Nat → Nat → List Byte → Option (List Byte)
  | 0, _, _ => none
  | n + 1, next, b =>
    let len := Crypto.ofBe ((b.drop 1).take 1)
    let then_ := Crypto.ofBe (b.take 1)
    if next = 17 then some b
    else if next = 0 ∨ next = 43 ∨ next = 60 then udp6 n then_ (b.drop (8 * (len + 1)))
    else if next = 51 then udp6 n then_ (b.drop (4 * (len + 2)))
    else if next = 44 ∧ Crypto.ofBe ((b.drop 2).take 2) / 8 = 0 then udp6 n then_ (b.drop 8)
    else none

/-- R357: Ethertype 0x88F7, or UDP to port 319 or 320 over IPv4 or IPv6, with at most one VLAN tag. -/
def isPtp (own : List (List Byte)) (fr : List Byte) : Bool :=
  let at2 := fun (l : List Byte) (o : Nat) => Crypto.ofBe ((l.drop o).take 2)
  let body := if at2 fr 12 = 0x8100 then fr.drop 16 else fr.drop 12
  let type := at2 body 0
  let ip := body.drop 2
  if type = 0x88F7 then true
  else if type = 0x0800 then
    let n := 4 * (Crypto.ofBe (ip.take 1) % 16)
    Crypto.ofBe ((ip.drop 9).take 1) = 17 && at2 ip 6 % 8192 = 0 && ptpAddress own ((ip.drop 16).take 4) && (at2 ip (n + 2) = 319 || at2 ip (n + 2) = 320)
  else if type = 0x86DD then
    ptpAddress own ((ip.drop 24).take 16) &&
    match udp6 fr.length (Crypto.ofBe ((ip.drop 6).take 1)) (ip.drop 40) with
    | some u => at2 u 2 = 319 || at2 u 2 = 320
    | none => false
  else false

/-- Overflow of the receive FIFO: counted, warned at most once per second (R358). -/
def Dev.ptpOverflow (d : Dev) (p : Nat) : Dev :=
  let d := d.bump (Pg.PTP p) Reg.PTP.RX_OVF_CNT
  let x := d.port p
  let d := if d.due x.warned then
      (d.setPort p { x with warned := some d.elapsed }).event 0 (Pg.PTP p) WARN 0x0A06 [BitVec.ofNat 8 p]
    else d
  d.raise (Pg.PTP p) 2

/-- The IPv4 and IPv6 addresses of a sub-interface of port `p` (R357); 0 is none. -/
def Dev.netOwn (d : Dev) (p subif : Nat) : List (List Byte) :=
  let pg := Pg.NET (2 * p)
  let v4 := d.rd pg Reg.NETP.IPV4 subif
  let v6 := (List.range 4).foldl (fun a j => a + d.rd pg Reg.NETP.IPV6 subif j * 2 ^ (32 * j)) 0
  (if v4 = 0 then [] else [be 4 v4]) ++ if v6 = 0 then [] else [be 16 v6]

/-- A timestamp: the port time of the pin instant corrected by `ps` picoseconds, in 2^-32 ns at a resolution of 2^-16 ns (R357,
R5). -/
def portStamp (time : Nat) (ps : Int) : Nat :=
  (rndDiv ((time : Int) * 1000 + ps * 2 ^ 32) (1000 * 2 ^ 16) * 2 ^ 16 % (portWrap : Int)).toNat

/-- A frame arrives on a sub-interface; `own` are the addresses of the sub-interface (R357, R358). -/
def Dev.ptpReceive (d : Dev) (p subif : Nat) (own : List (List Byte)) (fr : List Byte) : Dev :=
  if !isPtp own fr then d
  else
    let x := d.port p
    if 64 ≤ x.rx.length then d.ptpOverflow p
    else
      let d : Dev := { d with pow := { d.pow with ptpSeen := Assoc.put d.pow.ptpSeen p d.ns } }
      let ts := portStamp x.time (-sgn 16 (d.rd (Pg.PTP p) Reg.PTP.ING_ASYM_PS))
      (d.setPort p { x with rx := x.rx ++ [⟨subif, ts, fr⟩] }).raise (Pg.PTP p) 0

/-- A write of RX_POP (R358). -/
def Dev.ptpPop (d : Dev) (f p v : Nat) : Dev :=
  d.checkedWrite f (Pg.PTP p) 0x150 fun d =>
    if bitAt v 0 then d.setPort p { d.port p with rx := (d.port p).rx.drop 1 } else d

/-- A frame without FCS begins to be sent: the device appends the FCS (R358). -/
def Dev.ptpBegin (d : Dev) (p subif tag : Nat) (bytes : List Byte) : Dev :=
  (d.setPort p { d.port p with tx := some (subif, tag, (d.port p).time), held := none }).emit (.ptp p subif (withFcs bytes))

/-- A write of TX_CTRL: the frame in TX_DATA is sent, or waits while EN = 0 (R37); ignored while BUSY (R358). -/
def Dev.ptpSend (d : Dev) (f p v : Nat) : Dev :=
  let pg := Pg.PTP p
  d.checkedWrite f pg 0x160 fun d =>
    let d := ((d.wr pg Reg.PTP.TX_LEN (bits v 0 9)).wr pg Reg.PTP.TX_SUBIF (bits v 12 2)).wr pg Reg.PTP.TX_TAG (bits v 16 8)
    if !bitAt v 31 ∨ (d.port p).tx.isSome then d
    else
      let bytes := ((List.range 64).flatMap fun i => leBytes 4 (d.rd pg Reg.PTP.TX_DATA i)).take (bits v 0 9)
      if d.on pg Reg.HDR.EN then d.ptpBegin p (bits v 12 2) (bits v 16 8) bytes
      else d.setPort p { d.port p with tx := some (bits v 12 2, bits v 16 8, 0), held := some bytes }

/-- EN of a port's page returns to 1: the frame that waited is sent (R37). -/
def Dev.ptpResume (d : Dev) (p : Nat) : Dev :=
  let x := d.port p
  match x.held, x.tx with
  | some bytes, some (subif, tag, _) => d.ptpBegin p subif tag bytes
  | _, _ => d

/-- The frame left the port: its egress timestamp is queued (R358). The pin instant of its start-of-frame delimiter lies between
the beginning and now: which it is, is a free value (R357, log 145). -/
def Dev.ptpSent (d : Dev) (p : Nat) : Dev :=
  let x := d.port p
  match if x.held.isSome then none else x.tx with
  | none => d
  | some (_, tag, since) =>
    let took := (x.time + portWrap - since) % portWrap
    let pin := since + (Config.freeValue d.free).toNat % (took + 1)
    let ts := portStamp pin (sgn 16 (d.rd (Pg.PTP p) Reg.PTP.EGR_ASYM_PS))
    let full := 16 ≤ x.ts.length
    let d := d.freeStep.setPort p { x with tx := none, ts := (if full then x.ts.drop 1 else x.ts) ++ [(tag, ts)] }
    let d := if full then (d.bump (Pg.PTP p) Reg.PTP.TX_TS_OVF_CNT).raise (Pg.PTP p) 2 else d
    d.raise (Pg.PTP p) 1

/-- A write of TS_POP (R358). -/
def Dev.ptpTsPop (d : Dev) (f p v : Nat) : Dev :=
  d.checkedWrite f (Pg.PTP p) 0x174 fun d =>
    if bitAt v 0 then d.setPort p { d.port p with ts := (d.port p).ts.drop 1 } else d

/-! ### The Timebase (R350 to R354) -/

/-- A write of a half of INCR: the pair takes effect with its high half, if it is in range (R351). -/
def Dev.incrWrite (d : Dev) (f hi v : Nat) : Dev :=
  d.checkedWrite f Pg.TMB (0x110 + 4 * hi) fun d =>
    let k := halfKey f Pg.TMB 0x110
    if hi = 0 then { d with lowHeld := Assoc.put d.lowHeld k v }
    else
      let lo := (Assoc.find d.lowHeld k).getD (d.rd Pg.TMB Reg.TMB.INCR_LO)
      let x := lo + 2 ^ 32 * v
      let d := { d with lowHeld := Assoc.del d.lowHeld k }
      if 0x13FAE147B ≤ x ∧ x ≤ 0x14051EB85 then d.wr64 Pg.TMB Reg.TMB.INCR_LO Reg.TMB.INCR_HI x
      else d.error Pg.TMB 0

/-- The step that is requested, in 2^-32 ns. -/
def Dev.stepAmount (d : Dev) : Int :=
  sgn 64 (d.rd64 Pg.TMB Reg.TMB.STEP_NS_LO Reg.TMB.STEP_NS_HI) * 2 ^ 32 + (d.rd Pg.TMB Reg.TMB.STEP_FRAC : Nat)

/-- A step moves the cadence's notion of elapsed time and passes over instants (R361). -/
def Dev.cadStepped (d : Dev) (c : Nat) (by_ : Int) : Dev :=
  let x := d.cad c
  let d := d.setCad c { x with last := x.last.map (· + by_) }
  if !d.cadTaking c ∨ by_ ≤ 0 then d
  else
    let k := d.firstK c (d.now + 1)
    if k ≤ x.nextK then d
    else ((d.setCad c { d.cad c with nextK := k }).cadSkipped c (k - x.nextK).toNat).cadShow c

/-- Apply a step to the Timebase and the port times (R353, R356). -/
def Dev.applyStep (d : Dev) (s : Int) : Dev :=
  let d := { d with tb := d.tb + BitVec.ofInt 96 s }
  let d := { d with tim := { d.tim with tlsLast := d.tim.tlsLast.map fun t => ((t : Int) + s).toNat } }
  let d := (d.portMove 0 s).portMove 1 s
  let d := (d.bump Pg.TMB Reg.TMB.STEP_CNT).raise Pg.TMB 1
  (List.range 16).foldl (fun d c => d.cadStepped c s) d

/-- GO (R353, R354). -/
def Dev.stepGo (d : Dev) : Dev :=
  let s := d.stepAmount
  let armed := d.on Pg.TMB Reg.TMB.ARMED
  let data := leBytes 8 (d.rd64 Pg.TMB Reg.TMB.STEP_NS_LO Reg.TMB.STEP_NS_HI) ++ leBytes 4 (d.rd Pg.TMB Reg.TMB.STEP_FRAC)
  if d.on Pg.TMB Reg.TMB.STATE ∧ d.rd Pg.TMB Reg.TMB.STEP_LIMIT * 2 ^ 32 < s.natAbs ∧ !armed then
    let d := (d.wr Pg.TMB Reg.TMB.REFUSED 1).bump Pg.TMB Reg.TMB.REFUSED_CNT
    (d.event 0 Pg.TMB WARN 0x0A01 data).raise Pg.TMB 0
  else
    let d := (d.wr Pg.TMB Reg.TMB.BUSY 1).wr Pg.TMB Reg.TMB.ARMED 0
    { d with tim := { d.tim with step := some (s, if armed then some data else none) } }

/-- A step that waits takes effect at the tick (R353); a forced one raises TMB_STEP_FORCED (R354). -/
def Dev.stepDue (d : Dev) : Dev :=
  match d.tim.step with
  | none => d
  | some (s, forced) =>
    let d := (({ d with tim := { d.tim with step := none } } : Dev).wr Pg.TMB Reg.TMB.BUSY 0).applyStep s
    match forced with
    | some data => d.event 0 Pg.TMB WARN 0x0A02 data
    | none => d

/-- A write of STEP_CTRL (R353, R354). -/
def Dev.stepCtrl (d : Dev) (v : Nat) : Dev :=
  let d := if bitAt v 8 then d.wr Pg.TMB Reg.TMB.REFUSED 0 else d
  let d := if bitAt v 1 then d.wr Pg.TMB Reg.TMB.ARMED 1 else d
  if !bitAt v 0 then d
  else if d.tim.step.isSome then d.error Pg.TMB 1
  else d.stepGo

def Dev.stepCtrlWrite (d : Dev) (f v : Nat) : Dev := d.checkedWrite f Pg.TMB 0x124 fun d => d.stepCtrl v

/-- 100 ms passed without GO (R354). -/
def Dev.armedExpiry (d : Dev) : Dev := d.wr Pg.TMB Reg.TMB.ARMED 0

/-- The Timebase reaches a whole second (R352). -/
def Dev.ppsOut (d : Dev) : Dev :=
  if d.on Pg.TMB Reg.TMB.PPS_OUT_EN then { d with tim := { d.tim with ppsOut := true } }.emit (.pin 0 0 true) else d

def Dev.ppsOutFall (d : Dev) : Dev :=
  if d.tim.ppsOut then { d with tim := { d.tim with ppsOut := false } }.emit (.pin 0 0 false) else d

/-- A rising edge on PPS_IN (R352). -/
def Dev.ppsIn (d : Dev) : Dev :=
  ((d.wr64 Pg.TMB Reg.TMB.PPS_IN_NS_LO Reg.TMB.PPS_IN_NS_HI d.ns).bump Pg.TMB Reg.TMB.PPS_IN_CNT).raise Pg.TMB 2

end Sys2Proof.Machine
end

