-- ==== Sys2Proof/Machine/Position.lean ====
section
/-! DEFINITION. Position: position channels, latching into frames, compare units and repeater outputs (spec 13 R366 to
R375). -/

namespace Sys2Proof.Machine

def Dev.chan (d : Dev) (n : Nat) : Channel := Sparse.get d.tim.chans n {}

def Dev.setChan (d : Dev) (n : Nat) (x : Channel) : Dev :=
  { d with tim := { d.tim with chans := Sparse.set d.tim.chans n x {} } }

def Dev.updChan (d : Dev) (n : Nat) (f : Channel → Channel) : Dev := d.setChan n (f (d.chan n))

def Dev.pfb (d : Dev) (n : Nat) (F : Fld) : Nat := d.rd (Pg.PFB n) F

/-- Counts per revolution (R369, R370). -/
def Dev.cpr (d : Dev) (n : Nat) : Nat :=
  if d.pfb n Reg.PFB.MODE = 3 then 2 ^ d.pfb n Reg.PFB.ST_BITS
  else if d.pfb n Reg.PFB.COUNTS_PER_REV = 0 then 2 ^ 32 else d.pfb n Reg.PFB.COUNTS_PER_REV

/-- U = REV × CPR + POS (R372). -/
def Dev.absolute (d : Dev) (n : Nat) : Int := sgn 32 (d.pfb n Reg.PFB.REV) * d.cpr n + d.pfb n Reg.PFB.POS

/-- Owner of a channel's page. -/
def Dev.chanOwner (d : Dev) (n : Nat) : PartId := d.pageOwner (Pg.PFB n)

/-- A WARN event of a channel, at most once per second for each code. -/
def Dev.chanWarn (d : Dev) (n code : Nat) : Dev :=
  let x := d.chan n
  if d.due (Assoc.find x.warned code) then
    (d.setChan n { x with warned := Assoc.put x.warned code d.elapsed }).event (d.chanOwner n) (Pg.PFB n) WARN code
      [BitVec.ofNat 8 n]
  else d

/-! ### Compare units (R373, R374) -/

/-- PCM page and element of a compare unit. -/
def unitAt (u : Nat) : Page × Nat := (Pg.PCM (u / 16), u % 16)

def Dev.cmp (d : Dev) (u : Nat) (F : Fld) : Nat := d.rd (unitAt u).1 F (unitAt u).2

def Dev.setCmp (d : Dev) (u : Nat) (F : Fld) (v : Nat) : Dev := d.wr (unitAt u).1 F v (unitAt u).2

/-- Is a compare unit enabled, on a page that is (R37, R373)? -/
def Dev.unitOn (d : Dev) (u : Nat) : Bool := d.on (unitAt u).1 Reg.HDR.EN && d.cmp u Reg.PCM.EN = 1

def Dev.unitOwner (d : Dev) (u : Nat) : PartId := d.ownerOf 10 u

/-- C = CMP_REV × CPR + CMP_POS. -/
def Dev.cmpAbs (d : Dev) (u : Nat) : Int :=
  sgn 32 (d.cmp u Reg.PCM.CMP_REV) * d.cpr (d.cmp u Reg.PCM.CHANNEL) + d.cmp u Reg.PCM.CMP_POS

/-- The arming conditions of R373: positive and negative direction. -/
def Dev.armable (d : Dev) (u : Nat) : Bool × Bool :=
  let n := d.cmp u Reg.PCM.CHANNEL
  let h : Int := d.cmp u Reg.PCM.HYST
  if d.cmp u Reg.PCM.MODE = 1 then
    (d.absolute n ≤ d.cmpAbs u - 1 - h, d.cmpAbs u + 1 + h ≤ d.absolute n)
  else
    let m : Int := d.cpr n
    let f := ((d.cmp u Reg.PCM.CMP_POS : Int) - d.pfb n Reg.PFB.POS) % m
    let b := ((d.pfb n Reg.PFB.POS : Int) - d.cmp u Reg.PCM.CMP_POS) % m
    (1 + h ≤ f && f ≤ m / 2, 1 + h ≤ b && b ≤ m / 2)

/-- Is the unit held: its channel's page, or its cadence for TRIGGER, has another owner (R374)? -/
def Dev.cmpHeld (d : Dev) (u : Nat) : Bool :=
  d.cmp u Reg.PCM.EN = 1 &&
  (d.chanOwner (d.cmp u Reg.PCM.CHANNEL) != d.unitOwner u ||
   (bitAt (d.cmp u Reg.PCM.ACT) 1 && d.cadOwner (d.cmp u Reg.PCM.CAD) != d.unitOwner u))

/-- Set which directions are armed; BEHIND and HELD follow (R373, R374). -/
def Dev.setArms (d : Dev) (u : Nat) (pos neg : Bool) : Dev :=
  let en := d.cmp u Reg.PCM.EN = 1
  let pos : Bool := en && d.cmp u Reg.PCM.DIR_POS = 1 && pos
  let neg : Bool := en && d.cmp u Reg.PCM.DIR_NEG = 1 && neg
  let held := d.cmpHeld u
  let d := ((d.setCmp u Reg.PCM.ARMED_POS (b2n pos)).setCmp u Reg.PCM.ARMED_NEG (b2n neg)).setCmp u Reg.PCM.BEHIND
    (b2n (en && !pos && !neg))
  let was := d.cmp u Reg.PCM.HELD = 1
  let d := d.setCmp u Reg.PCM.HELD (b2n held)
  if held = true ∧ !was then d.error (unitAt u).1 0 else d

/-- An owner has changed: HELD of every unit follows (R374). -/
def Dev.judgeHeld (d : Dev) : Dev :=
  (List.range 32).foldl (fun d u =>
    let h := d.cmpHeld u
    if d.cmp u Reg.PCM.HELD = b2n h then d
    else if h then (d.setCmp u Reg.PCM.HELD 1).error (unitAt u).1 0 else d.setCmp u Reg.PCM.HELD 0) d

/-- A write of CTRL or of the CMP pair: the directions are judged anew (R373). -/
def Dev.rearm (d : Dev) (u : Nat) : Dev := let a := d.armable u; d.setArms u a.1 a.2

/-- A count change: a direction whose condition holds becomes armed (R373). -/
def Dev.armMore (d : Dev) (u : Nat) : Dev :=
  let a := d.armable u
  d.setArms u (d.cmp u Reg.PCM.ARMED_POS = 1 || a.1) (d.cmp u Reg.PCM.ARMED_NEG = 1 || a.2)

/-- A unit fires; `rev` is the revolution of the compare position (R374). A fire ends PS4 (R384). -/
def Dev.fire (d : Dev) (u : Nat) (rev : Int) : Dev :=
  let n := d.cmp u Reg.PCM.CHANNEL
  let d := if d.cmp u Reg.PCM.ONESHOT = 1 then d.setCmp u Reg.PCM.EN 0 else d
  let t := (((d.now : Int) - d.pfb n Reg.PFB.FILTER * 4 * 2 ^ 32) % 2 ^ 96).toNat
  let (pg, i) := unitAt u
  let d := ((d.wr64 pg Reg.PCM.FIRE_NS_LO Reg.PCM.FIRE_NS_HI (t / 2 ^ 32) i).wr pg Reg.PCM.FIRE_FRAC t i).wr pg
    Reg.PCM.FIRE_POS (d.cmp u Reg.PCM.CMP_POS) i
  let d := ((d.wr pg Reg.PCM.FIRE_REV (unsgn 32 rev) i).bump pg Reg.PCM.FIRE_CNT i).raise pg i
  let act := d.cmp u Reg.PCM.ACT
  let d := if bitAt act 0 then
      { d with tim := { d.tim with pulsing := if u ∈ d.tim.pulsing then d.tim.pulsing else u :: d.tim.pulsing } }
    else d
  let d := if bitAt act 1 then d.cadTrigger (d.cmp u Reg.PCM.CAD) t else d
  let d := (if bitAt act 2 then d.event (d.unitOwner u) pg INFO 0x0A0A else d).wakeGroup 32 6
  { d with pip := { d.pip with takes := d.pip.takes.map fun e =>
      (e.1, if e.2.startMode = 2 ∧ e.2.compare = u then { e.2 with fired := true } else e.2) } }

/-- The present count moved from `u0` to `u1`, `by_` counts in its direction: does an armed direction fire? The
revolution of the compare position that was passed, if so (R374). -/
def Dev.passes (d : Dev) (u : Nat) (u0 u1 by_ : Int) : Option (Bool × Int) :=
  let n := d.cmp u Reg.PCM.CHANNEL
  let m : Int := d.cpr n
  let c := d.cmpAbs u
  let pos : Bool := d.cmp u Reg.PCM.ARMED_POS = 1
  let neg : Bool := d.cmp u Reg.PCM.ARMED_NEG = 1
  if d.cmpHeld u then none
  else if d.cmp u Reg.PCM.MODE = 1 then
    if pos ∧ 0 < by_ ∧ u0 < c ∧ c ≤ u1 then some (true, sgn 32 (d.cmp u Reg.PCM.CMP_REV))
    else if neg ∧ by_ < 0 ∧ c < u0 ∧ u1 ≤ c then some (false, sgn 32 (d.cmp u Reg.PCM.CMP_REV))
    else none
  else
    let p : Int := d.cmp u Reg.PCM.CMP_POS
    let f := (p - u0 - 1) % m + 1
    let b := (u0 - p - 1) % m + 1
    if pos ∧ 0 < by_ ∧ f ≤ by_ then some (true, (u0 + f) / m)
    else if neg ∧ by_ < 0 ∧ b ≤ -by_ then some (false, (u0 - b) / m)
    else none

/-- Every unit that watches channel `n` sees a count change (R373, R374). -/
def Dev.compareAll (d : Dev) (n : Nat) (u0 u1 by_ : Int) : Dev :=
  (List.range 32).foldl (fun d u =>
    if d.unitOn u ∧ d.cmp u Reg.PCM.CHANNEL = n then
      let d := match d.passes u u0 u1 by_ with
        | some (true, rev) => (d.setCmp u Reg.PCM.ARMED_POS 0).fire u rev
        | some (false, rev) => (d.setCmp u Reg.PCM.ARMED_NEG 0).fire u rev
        | none => d
      d.armMore u
    else d) d

/-- EN of a PCM page returns to 1: its units are judged (R37, R373). -/
def Dev.unitsResume (d : Dev) (n : Nat) : Dev := (List.range 16).foldl (fun (d : Dev) i => d.rearm (16 * n + i)) d

/-- A write of a unit's CTRL (`k` = 0) or of a half of its CMP pair (R373). -/
def Dev.cmpWrite (d : Dev) (f u k v : Nat) : Dev :=
  let (pg, i) := unitAt u
  let o := 0x400 + 0x40 * i + 4 * k
  d.checkedWrite f pg o fun d =>
    let d := d.plainWrite f pg o v
    if k = 1 then d else d.rearm u

/-- PULSE_W after a fire (R374). -/
def Dev.pulseEnd (d : Dev) (u : Nat) : Dev :=
  { d with tim := { d.tim with pulsing := d.tim.pulsing.filter (· ≠ u) } }

/-! ### Counting and speed (R367 to R371) -/

/-- The speed window restarts (R371). -/
def Dev.clearWindow (d : Dev) (n : Nat) : Dev :=
  (d.updChan n fun x => { x with window := [], lastEdge := none, dir := 0 }).wr (Pg.PFB n) Reg.PFB.SPEED_VALID 0

/-- The channel is enabled anew: by its page's EN, or by its mode (R37, R371). -/
def Dev.chanEnable (d : Dev) (n : Nat) : Dev := (d.clearWindow n).updChan n fun x => { x with prevSsi := none }

/-- A write of CFG: a change of MODE enables the channel in its new mode (R371). -/
def Dev.cfgWrite (d : Dev) (f n v : Nat) : Dev :=
  let was := d.pfb n Reg.PFB.MODE
  let d := d.plainWrite f (Pg.PFB n) 0x100 v
  if d.pfb n Reg.PFB.MODE = was then d else d.chanEnable n

/-- Does channel `n` count in mode `m`: that is its MODE, and its page is enabled (R37)? -/
def Dev.counting (d : Dev) (n m : Nat) : Bool := d.on (Pg.PFB n) Reg.HDR.EN && d.pfb n Reg.PFB.MODE = m

/-- Keep an interval or difference and show SPEED (R371). -/
def Dev.showSpeed (d : Dev) (n : Nat) : Dev :=
  let x := d.chan n
  let k := max 1 (min 64 (d.pfb n Reg.PFB.SPD_AVG))
  let w := x.window.take k
  let sum := w.foldl (· + ·) 0
  let pg := Pg.PFB n
  let put := fun (v : Int) => (d.wr pg Reg.PFB.SPEED (unsgn 32 (sat v (-(2 ^ 31 - 1)) (2 ^ 31 - 1)))).wr pg Reg.PFB.SPEED_VALID 1
  if w = [] then d.wr pg Reg.PFB.SPEED_VALID 0
  else if d.pfb n Reg.PFB.MODE = 3 then put (rndDiv (sum * 1000000) (w.length * d.pfb n Reg.PFB.SSI_PERIOD_US))
  else put ((if x.dir < 0 then -1 else 1) * rndDiv (w.length * 250000000) sum.toNat)

/-- Channel `n` moves to count `u1`, by `by_` counts: registers, the synthesised output's lag, and compare units. -/
def Dev.moveTo (d : Dev) (n : Nat) (u1 by_ : Int) : Dev :=
  let u0 := d.absolute n
  let m : Int := d.cpr n
  let pg := Pg.PFB n
  let d := (d.wr pg Reg.PFB.POS (u1 % m).toNat).wr pg Reg.PFB.REV (unsgn 32 (u1 / m))
  let d := if by_ = 0 then d else d.wr pg Reg.PFB.DIR (b2n (by_ < 0))
  let x := d.chan n
  let total := x.total + by_
  let synth := if d.pfb n Reg.PFB.PFO_MODE = 2 then x.synth else total
  let lag := (total - synth).natAbs
  let d := (d.setChan n { x with total := total, synth := synth }).wr pg Reg.PFB.SYN_LAG (min lag (2 ^ 32 - 1))
  let d := if 1024 < lag then d.chanWarn n 0x0A0B else d
  d.compareAll n u0 u1 by_

/-- A count of ±1 at 4 ns sample `t` (R367, R370, R371). -/
def Dev.countOne (d : Dev) (n t : Nat) (up : Bool) : Dev :=
  let dir : Int := if up then 1 else -1
  let x := d.chan n
  let same := x.dir = dir
  let w := match x.lastEdge with
    | some l => if same then (((max 1 (t - l) : Nat) : Int) :: x.window).take 64 else []
    | none => []
  let d := d.setChan n { x with window := w, lastEdge := some t, dir := dir }
  (d.showSpeed n).moveTo n (d.absolute n + dir) dir

/-- An illegal transition (R367, R368). -/
def Dev.illegal (d : Dev) (n : Nat) : Dev :=
  let d := (d.bump (Pg.PFB n) Reg.PFB.QERR_CNT).updChan n fun x => { x with qerrs := x.qerrs + 1 }
  ((d.clearWindow n).chanWarn n 0x0A07).raise (Pg.PFB n) 0

/-- Position of a quadrature state in the sequence (A, B) = 00, 10, 11, 01. -/
def quadPos (a b : Bool) : Nat := match a, b with | false, false => 0 | true, false => 1 | true, true => 2 | false, true => 3

/-- The filtered levels of A and B at 4 ns sample `t` (R367). -/
def Dev.quadEdge (d : Dev) (n t : Nat) (a b : Bool) : Dev :=
  if !d.counting n 1 then d.updChan n fun x => { x with a := a, b := b }
  else
    let x := d.chan n
    let d := d.setChan n { x with a := a, b := b }
    let step := (quadPos a b + 4 - quadPos x.a x.b) % 4
    let inv := d.on (Pg.PFB n) Reg.PFB.INVERT
    if step = 0 then d
    else if step = 2 then d.illegal n
    else d.countOne n t ((step = 1) != inv)

/-- Position of a Hall state in the sequence of R368. -/
def hallPos (u v w : Bool) : Option Nat :=
  match b2n u * 4 + b2n v * 2 + b2n w with | 4 => some 0 | 6 => some 1 | 2 => some 2 | 3 => some 3 | 1 => some 4 | 5 => some 5 | _ => none

/-- The filtered levels of U, V and W at 4 ns sample `t` (R368). -/
def Dev.hallEdge (d : Dev) (n t : Nat) (u v w : Bool) : Dev :=
  let x := d.chan n
  let d := d.setChan n { x with a := u, b := v, z := w }
  if !d.counting n 2 ∨ (x.a = u ∧ x.b = v ∧ x.z = w) then d
  else
    let inv := d.on (Pg.PFB n) Reg.PFB.INVERT
    match hallPos x.a x.b x.z, hallPos u v w with
    | _, none => d.illegal n
    | none, some _ => d
    | some i, some j =>
      let step := (j + 6 - i) % 6
      if step = 1 then d.countOne n t !inv
      else if step = 5 then d.countOne n t inv
      else d.illegal n

/-- Gray code to binary. -/
def gray : Nat → Nat → Nat
  | 0, _ => 0
  | k + 1, v => v ^^^ gray k (v / 2)

/-- The value nearest to 0 that is congruent to `x` modulo `m`. -/
def shortWay (x m : Int) : Int := let r := x % m; if m < 2 * r then r - m else r

/-- One SSI frame is read: `low` says that the data line was low before the first clock edge, `v` are the bits (R369). -/
def Dev.ssiFrame (d : Dev) (n : Nat) (low : Bool) (v : Nat) : Dev :=
  if !d.counting n 3 then d
  else if low then
    let d := (d.bump (Pg.PFB n) Reg.PFB.SSI_ERR_CNT).clearWindow n
    ((d.updChan n fun x => { x with prevSsi := none }).chanWarn n 0x0A08).raise (Pg.PFB n) 2
  else
    let all := d.pfb n Reg.PFB.SSI_BITS
    let st := d.pfb n Reg.PFB.ST_BITS
    let v := v % 2 ^ all
    let v := if d.on (Pg.PFB n) Reg.PFB.GRAY then gray all v else v
    let u0 := d.absolute n
    let p := v % 2 ^ st
    let u1 : Int := if st < all then v else u0 + shortWay ((p : Int) - u0) (2 ^ st)
    let by_ := if st < all then shortWay ((v : Int) - u0) (2 ^ all) else u1 - u0
    let x := d.chan n
    let flips := by_ ≠ 0 ∧ x.dir ≠ 0 ∧ (0 < by_) ≠ (0 < x.dir)
    let w := if x.prevSsi.isNone then [] else (by_ :: (if flips then [] else x.window)).take 64
    let d := d.setChan n { x with window := w, prevSsi := some v, dir := if by_ = 0 then x.dir else if 0 < by_ then 1 else -1 }
    let d := d.showSpeed n
    if by_ = 0 then d else d.moveTo n u1 by_

/-- ZERO_MS passed with no count change (R371): the window is cleared; the interval of the next counted edge is kept,
since R371 names neither the standstill nor ZERO_MS among the events after which none is. -/
def Dev.zeroSpeed (d : Dev) (n : Nat) : Dev :=
  if d.pfb n Reg.PFB.MODE = 0 ∨ !d.on (Pg.PFB n) Reg.HDR.EN then d
  else ((d.updChan n fun x => { x with window := [] }).wr (Pg.PFB n) Reg.PFB.SPEED 0).wr (Pg.PFB n) Reg.PFB.SPEED_VALID 1

/-- A write of PRESET (R370): SET_GO loads the pair and is no count, Z_ARM arms homing. A POS_SET outside the revolution
gives an open position. -/
def Dev.preset (d : Dev) (n v : Nat) : Dev :=
  let pg := Pg.PFB n
  let d := if bitAt v 1 then d.updChan n fun x => { x with zArmed := true } else d
  if bitAt v 0 then
    let p := d.pfb n Reg.PFB.POS_SET
    let (p, d) := if p < d.cpr n then (p, d) else (d.freeNow 32 % d.cpr n, d.freeStep)
    let d := (d.wr pg Reg.PFB.POS p).wr pg Reg.PFB.REV (d.pfb n Reg.PFB.REV_SET)
    (d.clearWindow n).updChan n fun x => { x with preset := true }
  else d

def Dev.presetWrite (d : Dev) (f n v : Nat) : Dev := d.checkedWrite f (Pg.PFB n) 0x120 fun d => d.preset n v

/-- A filtered rising edge of Z (R370). -/
def Dev.indexEdge (d : Dev) (n : Nat) : Dev :=
  let pg := Pg.PFB n
  let z := d.pfb n Reg.PFB.Z_MODE
  if !d.counting n 1 ∨ z = 0 then d
  else
    let d := (d.wr pg Reg.PFB.Z_POS (d.pfb n Reg.PFB.POS)).wr pg Reg.PFB.Z_REV (d.pfb n Reg.PFB.REV)
    let d := (d.wr64 pg Reg.PFB.Z_NS_LO Reg.PFB.Z_NS_HI d.ns).raise pg 1
    if z = 2 ∧ (d.chan n).zArmed then
      let d := (d.wr pg Reg.PFB.POS (d.pfb n Reg.PFB.Z_VALUE)).wr pg Reg.PFB.Z_HOMED 1
      d.updChan n fun x => { x with zArmed := false, preset := true }
    else if z = 3 ∧ d.pfb n Reg.PFB.POS ≠ d.pfb n Reg.PFB.Z_VALUE then (d.bump pg Reg.PFB.Z_ERR_CNT).raise pg 4
    else d

/-! ### Latching into frames (R372) -/

/-- The 16 B POSITION entry (R88), and the head's memory of QERR_CNT. -/
def Dev.putPosition (d : Dev) (k n pos : Nat) (rev speed : Int) (valid : Bool) (qerr : Nat) : Dev :=
  let h := k / 2 ^ 48
  let x := d.chan n
  let moved := match Assoc.find x.lastQerr h with
    | some q => q ≠ qerr
    | none => false
  let d := d.setChan n { x with lastQerr := Assoc.put x.lastQerr h qerr }
  let e := leBytes 4 pos ++ leBytes 4 (unsgn 32 rev) ++ leBytes 4 (unsgn 32 speed) ++
    leBytes 4 (1 + 2 * b2n valid + 4 * b2n moved)
  d.updFrame k fun f => { f with pos := Assoc.put f.pos n e }

/-- The present state of a channel as a snapshot. -/
def Dev.snapshotOf (d : Dev) (n : Nat) : Snapshot :=
  { at_ := d.now, pos := d.pfb n Reg.PFB.POS, rev := sgn 32 (d.pfb n Reg.PFB.REV), speed := sgn 32 (d.pfb n Reg.PFB.SPEED),
    valid := d.on (Pg.PFB n) Reg.PFB.SPEED_VALID, qerr := (d.chan n).qerrs, preset := (d.chan n).preset }

/-- The entry of frame `k` for the past instant `tm`, once a later snapshot exists (R372). -/
def Dev.interpolate (d : Dev) (k n tm : Nat) : Dev :=
  let x := d.chan n
  let after := x.hist.filter fun s => tm < s.at_
  match after.getLast?, (x.hist.filter fun s => s.at_ ≤ tm).head? with
  | some t1, some t0 =>
    let m : Int := d.cpr n
    let u0 := t0.rev * m + t0.pos
    let u1 := t1.rev * m + t1.pos
    let near := if (tm : Int) - t0.at_ ≤ (t1.at_ : Int) - tm then t0 else t1
    if t1.preset then d.putPosition k n t0.pos t0.rev t0.speed t0.valid t0.qerr
    else
      let um := u0 + rndDiv ((u1 - u0) * ((tm : Int) - t0.at_)) (t1.at_ - t0.at_)
      d.putPosition k n (um % m).toNat (um / m) near.speed near.valid t0.qerr
  | some t1, none =>
    let d := d.putPosition k n t1.pos t1.rev t1.speed false t1.qerr
    let d := (d.bump (Pg.PFB n) Reg.PFB.LATCH_LATE_CNT).event (d.chanOwner n) (Pg.PFB n) WARN 0x0A09
      (frameData (k / 2 ^ 48) (k % 2 ^ 48))
    d.raise (Pg.PFB n) 3
  | none, _ => d

/-- Entries that wait for a later snapshot of the channel, or for the Timebase to reach their instant. -/
def Dev.settleLatches (d : Dev) (n : Nat) : Dev :=
  let past := fun (l : Nat × Nat × Nat) => match d.frame? l.1 with
    | some f => decide (l.2.2 ≤ f.tAnn)
    | none => true
  let ready := d.tim.latches.filter fun l => l.2.1 = n && past l && (d.chan n).hist.any fun s => l.2.2 < s.at_
  let d := { d with tim := { d.tim with latches := d.tim.latches.filter fun l => l ∉ ready } }
  ready.foldl (fun d l => d.interpolate l.1 n l.2.2) d

/-- HIST_US passed (R372). -/
def Dev.positionSnapshot (d : Dev) (n : Nat) : Dev :=
  let s := d.snapshotOf n
  (d.updChan n fun x => { x with hist := (s :: x.hist).take 16384, preset := false }).settleLatches n

/-- A frame is announced: every channel whose HEAD_MASK has its head latches at the exposure's mid-point (R372). -/
def Dev.latchFrame (d : Dev) (f : Frame) : Dev :=
  let tm := ((f.hdr.expStart : Int) + rndDiv ((f.hdr.expEnd : Int) - f.hdr.expStart) 2).toNat
  (List.range 16).foldl (fun d n =>
    if bitAt (d.rd (Pg.PFB n) Reg.PFB.HEAD_MASK (f.head / 32)) (f.head % 32) then
      ({ d with tim := { d.tim with latches := d.tim.latches ++ [(f.key, n, tm)] } } : Dev).settleLatches n
    else d) d

/-- The Timebase reaches the mid-point of a frame whose latch was still to come (R372). -/
def Dev.positionLatch (d : Dev) (h cid n : Nat) : Dev :=
  let k := frameKey h cid
  match d.tim.latches.find? fun l => l.1 = k && l.2.1 = n with
  | none => d
  | some l =>
    match d.frame? k with
    | none => { d with tim := { d.tim with latches := d.tim.latches.filter (· ≠ l) } }
    | some f =>
      if l.2.2 ≤ f.tAnn then d
      else
        let d := { d with tim := { d.tim with latches := d.tim.latches.filter (· ≠ l) } }
        let s := d.snapshotOf n
        d.putPosition k n s.pos s.rev s.speed s.valid s.qerr

/-! ### Repeater outputs (R375) -/

/-- SYN_STEP_NS passed: the synthesised output advances one state towards the count (R375). -/
def Dev.synthStep (d : Dev) (n : Nat) : Dev :=
  if d.pfb n Reg.PFB.PFO_MODE ≠ 2 then d
  else
    let x := d.chan n
    let s := if x.synth < x.total then x.synth + 1 else if x.total < x.synth then x.synth - 1 else x.synth
    let lag := (x.total - s).natAbs
    let d := (d.setChan n { x with synth := s }).wr (Pg.PFB n) Reg.PFB.SYN_LAG (min lag (2 ^ 32 - 1))
    if 1024 < lag then d.chanWarn n 0x0A0B else d

/-- Levels of PFOn_A, PFOn_B and PFOn_Z (R375). -/
def Dev.repeater (d : Dev) (n : Nat) : Bool × Bool × Bool :=
  let x := d.chan n
  match d.pfb n Reg.PFB.PFO_MODE with
  | 1 => (x.a, x.b, x.z)
  | 2 =>
    let q := x.synth % 4
    (q = 1 ∨ q = 2, q = 2 ∨ q = 3, (d.absolute n - (x.total - x.synth)) % (d.cpr n : Int) = 0)
  | 3 =>
    let p := fun (F : Fld) => d.tim.pulsing.any fun u => bitAt (d.pfb n F) u
    (p Reg.PFB.PULSE_A, p Reg.PFB.PULSE_B, p Reg.PFB.PULSE_Z)
  | _ => (false, false, false)

end Sys2Proof.Machine
end

