-- ==== Sys2Proof/Machine/Assist.lean ====
section
/-! DEFINITION. Assist: posting a host-assist request (spec 02 R51 to R54), and the Colophon of a frame (spec 03 R84,
R88). -/

namespace Sys2Proof.Machine

/-- Is the page in host-assisted mode (R51)? -/
def Dev.assisted (d : Dev) (pg : Page) : Bool := d.rd pg Reg.HDR.MODE = 1

/-- The effective deadline of R53. A limit above 65,535 µs (a frame period of FUNC 1) is cut to what the 16 bits of the
record's DEADLINE hold: DESIGN CHOICE (log 95). -/
def Dev.assistDeadline (d : Dev) (pg : Page) (limit : Nat) : Nat :=
  let x := d.rd pg Reg.HDR.DEADLINE
  if x = 0 then min limit 65535 else min x limit

/-- The first tag from `t` on that no outstanding request of the partition carries. -/
def freeTag (used : List Nat) : Nat → Nat → Nat
  | 0, t => t
  | n + 1, t => if t ∈ used then freeTag used n ((t + 1) % 65536) else t

/-- The 64 B request record (R52). -/
def assistRecord (a : Assist) (posted deadline : Nat) (phase : Bool) : List Byte :=
  leBytes 4 (a.func + 256 * a.page + 65536 * b2n phase) ++ leBytes 2 a.tag ++ leBytes 2 a.object ++ leBytes 6 a.cid ++
    leBytes 1 a.head ++ zeros 1 ++ leBytes 8 posted ++ leBytes 2 deadline ++ zeros 2 ++ zeros 8 ++
    fit 28 (dwBytes a.proposal)

/-- Post a request to the assist ring of `a.part`; with no ring, or a full one, the decision takes its default at once
and FULL_CNT counts it (R51, R54). Answers whether the request was posted. -/
def Dev.postAssist (d : Dev) (a : Assist) (limit : Nat) : Dev × Bool :=
  let r := d.part a.part
  match r.ast with
  | none => (d.bump a.page Reg.HDR.FULL_CNT, false)
  | some g =>
    if g.depth ≤ g.used + 1 then (d.bump a.page Reg.HDR.FULL_CNT, false)
    else
      let used := (d.pip.assists.filter fun x => x.part = a.part).map (·.tag)
      let t := freeTag used (used.length + 1) (r.nextTag % 65536)
      let a := { a with tag := t }
      let (d, g) := d.ringPut a.part g 64 2 (assistRecord a d.ns (d.assistDeadline a.page limit))
      let d := d.updPart a.part fun r => { r with ast := some g, nextTag := (t + 1) % 65536 }
      ({ d with pip := { d.pip with assists := d.pip.assists ++ [a],
                                    resolved := d.pip.resolved.filter fun e => !(e.1 = a.part && e.2.1 = t) } }, true)

/-! ### The Colophon (R88) -/

/-- A Timebase instant as 8 B of nanoseconds, 4 B of fraction and 4 reserved bytes. -/
def instant16 (t : Nat) : List Byte := leBytes 8 (t / 2 ^ 32) ++ leBytes 4 t ++ zeros 4

/-- The Colophon of a frame with its CRC: a PROVISIONAL copy describes the first pass, every other one the final pass
(R84). The generation of a frame with no pass over it (RECORD_ONLY) is the one at its ingest: DESIGN CHOICE (log 98). -/
def Dev.colophon (d : Dev) (f : Frame) (prov : Bool) : List Byte :=
  let first := f.firstGen.getD f.ingGen
  let gen := if prov then first else f.curGen.getD first
  let out := (if prov then f.firstOut else f.out).getD {}
  let noRef := b2n out.noRef * 2 ^ 14
  let base := f.flags ||| noRef
  let clear := fun (x b : Nat) => x - (x &&& 2 ^ b)
  let flags := if prov then clear (clear (clear base 4) 10) 13 ||| 2 ^ 5 else clear base 5
  let inj : List (Nat × List Byte) := match f.inject with
    | some (bs, o) => if prov then [] else [(0x400 + o, bs)]
    | none => []
  let body := layout 4092 ([
    (0x000, leBytes 4 0xC010F0A7 ++ leBytes 2 0x0100 ++ leBytes 2 0x1000 ++ leBytes 1 f.head ++ leBytes 1 f.ctx ++
      leBytes 1 f.owner),
    (0x010, leBytes 6 f.hdr.cid), (0x018, leBytes 8 f.take), (0x020, leBytes 4 f.takeIndex),
    (0x028, leBytes 8 Config.deviceUid.toNat),
    (0x040, instant16 f.hdr.expStart), (0x050, instant16 f.hdr.expEnd), (0x060, instant16 f.tAnn),
    (0x070, instant16 f.tIng), (0x080, instant16 f.tSeal), (0x090, if prov then zeros 16 else instant16 f.tProc),
    (0x0A0, leBytes 6 (f.ptp / 10 ^ 9)), (0x0A6, leBytes 4 (f.ptp % 10 ^ 9)),
    (0x0C0, leBytes 4 gen.qid ++ leBytes 2 f.hdr.ssq ++ leBytes 2 f.ssqSent ++ leBytes 8 gen.asn ++
      leBytes 4 first.qid ++ leBytes 1 (if prov then 0 else f.respins)),
    (0x0D8, leBytes 4 out.tnrRef), (0x0E0, leBytes 8 f.hdr.exposureNs), (0x0E8, leBytes 4 f.hdr.gain),
    (0x0EC, leBytes 2 f.hdr.readout), (0x0F0, (Crypto.sha256 (Pb.bankBytes gen.bank)).take 8),
    (0x100, leBytes 2 f.cfgW ++ leBytes 2 f.cfgH ++ leBytes 2 f.hdr.rows ++ leBytes 2 f.received ++
      leBytes 1 f.hdr.depth ++ leBytes 1 f.hdr.cfaKind ++ leBytes 1 f.hdr.cfaPhase ++
      leBytes 1 (if 16384 < f.cfgW then 2 else 1) ++ leBytes 2 f.missingFirst ++ leBytes 2 f.missingCount ++
      leBytes 4 f.longRows.length ++ leBytes 4 f.widthRows.length ++ leBytes 4 f.crcRows),
    (0x140, leBytes 8 flags), (0x300, fit 128 out.summary)] ++
    (f.pos.map fun e => (0x200 + 16 * e.1, fit 16 e.2)) ++ inj)
  body ++ leBytes 4 (crc32c body)

end Sys2Proof.Machine
end

