-- ==== Sys2Proof/Machine/Trans.lean ====
section
/-! DEFINITION. Trans: pow, log2, exp2, ln and the transfer functions of the renditions, each the binary32 value nearest
to one exact function of its argument (spec 07 R189, R193, R194, R196).

A value is computed in fixed point with 320 fraction bits, cut to 220 significant bits and then rounded to binary32.
DEDUCED: no argument brings an inexact result within 2^-200 of a tie, so this is the correct rounding. -/

namespace Sys2Proof.Tr

/-- Fraction bits of the fixed-point values. -/
def K : Nat := 320

def unit : Nat := 2 ^ K

/-- Product and quotient of fixed-point values. -/
def fmul (a b : Int) : Int := a * b / (unit : Int)

def fdiv (a b : Int) : Int := if b = 0 then 0 else a * (unit : Int) / b

/-- z + z^3/3 + z^5/5 + … for `n` terms from term `k`, `pw` being z^(2k+1) and `z2` the square of z. -/
def atanhSeries (z2 : Int) : Nat → Nat → Int → Int
  | 0, _, _ => 0
  | n + 1, k, pw => pw / ((2 * k + 1 : Nat) : Int) + atanhSeries z2 n (k + 1) (fmul pw z2)

/-- ln of num / den, for 2/3 ≤ num / den ≤ 3/2, in fixed point. -/
def lnNear (num den : Nat) : Int :=
  let z : Int := ((num : Int) - den) * (unit : Int) / ((num + den : Nat) : Int)
  2 * atanhSeries (fmul z z) 80 0 z

/-- ln 2 = 2 ln(4/3) + ln(9/8) in fixed point. -/
def ln2 : Int := 2 * lnNear 4 3 + lnNear 9 8

/-- log2 of num / den > 0 in fixed point: num / den is brought to 2/3 … 4/3 by a power of two. -/
def log2 (num den : Nat) : Int :=
  let k : Int := (Nat.log2 num : Int) - (Nat.log2 den : Int)
  let n := if 0 ≤ k then num else num * 2 ^ (-k).toNat
  let m := if 0 ≤ k then den * 2 ^ k.toNat else den
  let (n, m, k) := if 4 * m < 3 * n then (n, 2 * m, k + 1) else if 3 * n < 2 * m then (2 * n, m, k - 1) else (n, m, k)
  k * (unit : Int) + fdiv (lnNear n m) ln2

/-- 1 + x + x²/2 + … for `n` terms from term `k`, `t` being the term. -/
def expSeries (x : Int) : Nat → Nat → Int → Int
  | 0, _, _ => 0
  | n + 1, k, t => t + expSeries x n (k + 1) (fmul t x / ((k + 1 : Nat) : Int))

/-- 2^y for a fixed-point y with |y| ≤ 300, as (m, e): m × 2^e. -/
def exp2 (y : Int) : Nat × Int :=
  let k := y / (unit : Int)
  let f := y - k * (unit : Int)
  ((expSeries (fmul f ln2) 100 0 unit).toNat, k - K)

/-- The binary32 code nearest to ± m × 2^e, `m` cut to 220 significant bits. -/
def nearest (neg : Bool) (m : Nat) (e : Int) : Nat :=
  let l := Nat.log2 m
  if l < 220 then Fp.round Fp.f32 neg m 1 e
  else Fp.round Fp.f32 neg (rnd (m : Nat) (l - 219)).toNat 1 (e + (l - 219 : Nat))

/-- The code nearest to a fixed-point value. -/
def ofFixed (x : Int) : Nat := nearest (x < 0) x.natAbs (-(K : Int))

/-- Numerator and denominator of m × 2^e. -/
def ratio (m : Nat) (e : Int) : Nat × Nat := if 0 ≤ e then (m * 2 ^ e.toNat, 1) else (m, 2 ^ (-e).toNat)

/-- The exact value of a finite code as a signed fraction. -/
def frac : Fp.V → Option (Int × Nat)
  | .fin n m e => let r := ratio m e; some (if n then -(r.1 : Int) else r.1, r.2)
  | _ => none

/-- 2^y as a code, for any fixed-point y. -/
def exp2Code (y : Int) : Nat :=
  if (300 * unit : Nat) < y then Fp.f32.infCode
  else if y < -(300 * unit : Nat) then 0
  else let r := exp2 y; nearest false r.1 r.2

/-- log2 of a positive code. -/
def log2Code (x : Nat) : Nat :=
  match Fp.decode Fp.f32 x with
  | .fin false m e => let r := ratio m e; ofFixed (log2 r.1 r.2)
  | .inf false => x
  | _ => Fp.f32.nanCode

/-- t^p for a positive code t. -/
def powCode (t p : Nat) : Nat :=
  match Fp.decode Fp.f32 t, Fp.decode Fp.f32 p with
  | .fin false m e, .fin pn pm pe =>
    let r := ratio m e
    let q := ratio pm pe
    let y := log2 r.1 r.2 * (if pn then -(q.1 : Int) else q.1) / (q.2 : Int)
    exp2Code y
  | .inf false, .fin pn pm _ => if pm = 0 then Fp.one else if pn then 0 else Fp.f32.infCode
  | _, _ => Fp.f32.nanCode

/-- num / den to the power pn / pd as a fixed-point value, for 0 ≤ num / den ≤ 2^200; 0 stays 0. -/
def powFixed (num den pn pd : Nat) : Int :=
  if num = 0 then 0
  else
    let r := exp2 (log2 num den * (pn : Int) / (pd : Int))
    if 0 ≤ r.2 + K then (r.1 * 2 ^ (r.2 + K).toNat : Nat) else (r.1 / 2 ^ (-(r.2 + K)).toNat : Nat)

/-- The code nearest to the square root of num / den. -/
def sqrtCode (num den : Nat) : Nat :=
  let x := num * 2 ^ 320 / den
  let s := Nat.sqrt x
  Fp.round Fp.f32 false (2 * s + (if s * s = x ∧ num * 2 ^ 320 % den = 0 then 0 else 1)) 1 (-161)

/-- ACEScct (R196 code 6). -/
def acescct (x : Nat) : Nat :=
  match Fp.decode Fp.f32 x with
  | .nan => Fp.f32.nanCode
  | .inf true => x
  | .inf false => x
  | v =>
    match frac v with
    | none => Fp.f32.nanCode
    | some (n, d) =>
      if n * 10000000 ≤ 78125 * (d : Int) then
        let a : Int := 105402377416545 * n * 1000 + 729055341958355 * (d : Int)
        Fp.round Fp.f32 (a < 0) a.natAbs (d * 10 ^ 16) 0
      else ofFixed ((log2 n.toNat d + 972 * (unit : Int) / 100) * 100 / 1752)

/-- The inverse of ACEScct (R193). -/
def acescctInv (v : Nat) : Nat :=
  match Fp.decode Fp.f32 v with
  | .nan => Fp.f32.nanCode
  | .inf true => v
  | .inf false => 0x477FE000
  | w =>
    match frac w with
    | none => Fp.f32.nanCode
    | some (n, d) =>
      if n * 10 ^ 15 ≤ 155251141552511 * (d : Int) then
        let a : Int := n * 10 ^ 16 - 729055341958355 * (d : Int)
        Fp.round Fp.f32 (a < 0) (a.natAbs * 10 ^ 13) (d * 105402377416545 * 10 ^ 16) 0
      else
        let y := (1752 * n * (unit : Int) / (d : Int) - 972 * (unit : Int)) / 100
        if 16 * (unit : Int) ≤ y then 0x477FE000 else Fp.fsat (exp2Code y) 0 0x477FE000

/-- PQ (R196 code 1) of x × nits / 10,000. -/
def pq (x nits : Nat) : Nat :=
  match Fp.mulV (Fp.decode Fp.f32 x) (Fp.decode Fp.f32 nits) with
  | .nan => Fp.f32.nanCode
  | v =>
    let (n, d) := match v with
      | .inf neg => if neg then (0, 1) else (1, 1)
      | .fin true _ _ => (0, 1)
      | .fin false m e => let r := ratio m e; if r.2 * 10000 ≤ r.1 then (1, 1) else (r.1, r.2 * 10000)
      | .nan => (0, 1)
    let ym := powFixed n d 2610 16384
    let top := 3424 * (unit : Int) / 4096 + 2413 * 32 * ym / 4096
    let bot := (unit : Int) + 2392 * 32 * ym / 4096
    ofFixed (powFixed top.toNat bot.toNat (2523 * 128) 4096)

/-- HLG (R196 code 2) of x × scale. -/
def hlg (x scale : Nat) : Nat :=
  match Fp.mulV (Fp.decode Fp.f32 x) (Fp.decode Fp.f32 scale) with
  | .nan => Fp.f32.nanCode
  | v =>
    let (n, d) := match v with
      | .inf neg => if neg then (0, 1) else (1, 1)
      | .fin true _ _ => (0, 1)
      | .fin false m e => let r := ratio m e; if r.2 ≤ r.1 then (1, 1) else r
      | .nan => (0, 1)
    if 12 * n ≤ d then (if n = 0 then 0 else sqrtCode (3 * n) d)
    else
      let u := 12 * n * 10 ^ 8 - 28466892 * d
      let l := fmul (log2 u (d * 10 ^ 8)) ln2
      ofFixed ((17883277 * l + 55991073 * (unit : Int)) / 10 ^ 8)

/-- a × L^(pn/pd) − b above `lim`, else slope × L, for L = max(x, 0); constants as fractions of 10^8. -/
def gamma (x lim slope a b pn pd : Nat) : Nat :=
  match Fp.decode Fp.f32 x with
  | .nan => Fp.f32.nanCode
  | .inf neg => if neg then 0 else Fp.f32.infCode
  | .fin true _ _ => 0
  | .fin false m e =>
    let (n, d) := ratio m e
    if m = 0 then 0
    else if (if lim = 1800000 then n * 10 ^ 8 < lim * d else n * 10 ^ 8 ≤ lim * d) then
      Fp.round Fp.f32 false (slope * n) (d * 10 ^ 8) 0
    else ofFixed ((a * powFixed n d pn pd - b * (unit : Int)) / 10 ^ 8)

/-- BT.1886 inverse, black level 0 (code 3). -/
def bt1886 (x : Nat) : Nat := gamma x 0 0 (10 ^ 8) 0 5 12

/-- BT.709 OETF (code 4). -/
def bt709 (x : Nat) : Nat := gamma x 1800000 450000000 109900000 9900000 9 20

/-- sRGB (code 5). -/
def srgb (x : Nat) : Nat := gamma x 313080 1292000000 105500000 5500000 5 12

end Sys2Proof.Tr
end

