-- ==== Sys2Proof/Machine/Render.lean ====
section
/-! DEFINITION. Render: the twelve rendition stages and the content of a LUT library slot (spec 07 R190 to R203, R205). -/

namespace Sys2Proof.Render

/-- Rows of binary32 codes, and an image of planes. -/
abbrev Plane := List (List Nat)

def Plane.at (p : Plane) (y x : Nat) : Nat := (p.getD y []).getD x 0

/-- A plane from its samples' rule. -/
def plane (h w : Nat) (f : Nat → Nat → Nat) : Plane := (List.range h).map fun y => (List.range w).map fun x => f y x

/-! ### LUT library content (R205) -/

def u8 (b : List Byte) (o : Nat) : Nat := ofLe ((b.drop o).take 1)
def u16 (b : List Byte) (o : Nat) : Nat := ofLe ((b.drop o).take 2)
def u32 (b : List Byte) (o : Nat) : Nat := ofLe ((b.drop o).take 4)

/-- Split a list into pieces of `n`. -/
def pieces {α : Type} (n : Nat) : Nat → List α → List (List α)
  | 0, _ => []
  | k + 1, l => l.take n :: pieces n k (l.drop n)

/-- A table read from content bytes. -/
def table (b : List Byte) (off kind lo hi : Nat) : Table :=
  ⟨kind, lo, hi, pieces 4096 3 (bytesDw 12288 ((b.drop off).take 49152))⟩

/-- A code that is finite: binary32, and binary16. -/
def finite32 (v : Nat) : Bool := bits v 23 8 != 255
def finite16 (v : Nat) : Bool := bits v 10 5 != 31

/-- BYTES of R205. -/
def contentBytes (flags n : Nat) : Nat :=
  if bitAt flags 2 then 0x18100 + n * n * n * 6 else if bitAt flags 1 then 0x18100 else if bitAt flags 0 then 0xC100 else 0x100

/-- The tables of a content, when every check of R206 passes and its reserved bytes are 0 (R4). -/
def parseLut (b : List Byte) : Option Lut :=
  let flags := u16 b 6
  let n := u8 b 0xC
  let has := fun i => bitAt flags i
  let tb := fun (i kind lo off : Nat) => if has i then some (table b off (u8 b kind) (u32 b lo) (u32 b (lo + 4))) else none
  let sh := tb 0 0xD 0x10 0x100
  let tr := tb 1 0xE 0x18 0xC100
  let la := if has 2 then some (n, (pieces 6 (n * n * n) (b.drop 0x18100)).map fun e => [u16 e 0, u16 e 2, u16 e 4]) else none
  let goodT : Option Table → Bool := fun t => match t with
    | none => true
    | some t => finite32 t.lo && finite32 t.hi && Fp.lt t.lo t.hi && t.t.all fun c => c.all finite32
  let goodL : Bool := match la with
    | none => true
    | some (_, l) => l.all fun e => e.all finite16
  let reserved : Bool := u8 b 0xF = 0 && ((b.drop 0x20).take 0xDC).all (· = 0)
  if reserved ∧ u32 b 0 = 0x3154554C ∧ u16 b 4 = 0x0100 ∧ flags < 8 ∧ 2 ≤ n ∧ n ≤ 65 ∧ u8 b 0xD ≤ 2 ∧ u8 b 0xE ≤ 2 ∧
      u32 b 8 = contentBytes flags n ∧ b.length = u32 b 8 ∧
      crc32c (b.take 0xFC ++ b.drop 0x100) = u32 b 0xFC ∧ goodT sh = true ∧ goodT tr = true ∧ goodL = true then some ⟨sh, tr, la⟩ else none

/-- A dither table from content bytes: each value 0 to 4,095 exactly once (R202). -/
def parseDither (b : List Byte) : Option (List Nat) :=
  let t := (List.range 4096).map fun i => u16 (b.drop (2 * i)) 0
  if b.length = 8192 ∧ (List.range 4096).all fun v => v ∈ t then some t else none

/-- Entry (y, x) of the ordered pattern that the dither table holds at power-on (R202). -/
def orderedDither (y x : Nat) : Nat :=
  ((List.range 6).map fun k => (2 * bits (x ^^^ y) k 1 + bits y k 1) * 4 ^ (5 - k)).foldl (· + ·) 0

/-- Entry (y, x) of the dither table in use; none stands for the ordered pattern. -/
def ditherAt (t : Option (List Nat)) (y x : Nat) : Nat :=
  match t with
  | none => orderedDither (y % 64) (x % 64)
  | some l => l.getD (y % 64 * 64 + x % 64) 0

/-! ### The pass's sizes (R190, R191) -/

/-- The cut source window and the output size of a pass over a `w` × `h` frame: (SW, SH, DST_W, DST_H). -/
def sizes (b : List (Nat × Nat)) (s w h : Nat) : Nat × Nat × Nat × Nat :=
  let f := fun F => Pb.slot b s F
  let cut := fun (at_ len edge : Nat) => (if len = 0 then edge else min (at_ + len) edge) - at_
  let sw := cut (f Pb.REND.SRC_X) (f Pb.REND.SRC_W) w
  let sh := cut (f Pb.REND.SRC_Y) (f Pb.REND.SRC_H) h
  let lim := fun (d n : Nat) => min (max (ceilDiv n 64) (min (8 * n) d)) 16384
  (sw, sh, lim (f Pb.REND.DST_W) sw, lim (f Pb.REND.DST_H) sh)

/-! ### Stages 1 to 9 on one pixel or plane -/

/-- Coefficient `k` of phase `p`: the slot's tables or the defaults (R191). -/
def coefH (b : List (Nat × Nat)) (s p k : Nat) : Int :=
  if Pb.slot b s Pb.REND.COEF_EN = 0 then Pb.defaultH p k
  else sgn 16 (bits (Pb.slot b s Pb.REND.CH (4 * p + k / 2)) (16 * (k % 2)) 16)

def coefV (b : List (Nat × Nat)) (s p k : Nat) : Int :=
  if Pb.slot b s Pb.REND.COEF_EN = 0 then Pb.defaultV p k
  else sgn 16 (bits (Pb.slot b s Pb.REND.CV (3 * p + k / 2)) (16 * (k % 2)) 16)

/-- Σ (float(coefficient) × 2^−14) × sample over the taps, in order. -/
def taps (n : Nat) (coef : Nat → Int) (at_ : Nat → Nat) : Nat :=
  (List.range n).foldl (fun h k => Fp.add h (Fp.mul (Fp.ofInt Fp.f32 (coef k) (-14)) (at_ k))) 0

/-- Source position of output index `j`: integer part and phase (R190). -/
def position (org step j : Nat) : Int × Nat :=
  let p : Int := (org * 2 ^ 16 + j * step + step / 2 : Nat) - 2 ^ 15
  (p / 2 ^ 16, (p / 2 ^ 10 % 64).toNat)

/-- Crop and scale one plane of `w` × `h` binary32 codes (R190). -/
def scale (b : List (Nat × Nat)) (s w h : Nat) (d : Plane) : Plane :=
  let (sw, sh, dw, dh) := sizes b s w h
  let hstep := (rndDiv (sw * 2 ^ 16 : Nat) dw).toNat
  let vstep := (rndDiv (sh * 2 ^ 16 : Nat) dh).toNat
  let wide : Plane := d.map fun row => (List.range dw).map fun j =>
    let (i, ph) := position (Pb.slot b s Pb.REND.SRC_X) hstep j
    taps 8 (coefH b s ph) fun k => row.getD (sat (i - 3 + k) 0 (w - 1 : Nat)).toNat 0
  (List.range dh).map fun r => (List.range dw).map fun j =>
    let (i, ph) := position (Pb.slot b s Pb.REND.SRC_Y) vstep r
    taps 6 (coefV b s ph) fun k => wide.at (sat (i - 2 + k) 0 (h - 1 : Nat)).toNat j

/-- A 3 × 4 matrix (R192). -/
def matrix (b : List (Nat × Nat)) (s : Nat) (F : PFld) (x : List Nat) : List Nat :=
  (List.range 3).map fun i =>
    let m := fun j => Pb.slot b s F (4 * i + j)
    Fp.add (Fp.add (Fp.add (Fp.mul (m 0) (x.getD 0 0)) (Fp.mul (m 1) (x.getD 1 0))) (Fp.mul (m 2) (x.getD 2 0))) (m 3)

/-- The ASC CDL (R193). -/
def cdl (b : List (Nat × Nat)) (s : Nat) (x : List Nat) : List Nat :=
  let f := fun F => Pb.slot b s F
  let ext := f Pb.REND.CDL_EXT = 1
  let cct := f Pb.REND.CDL_CCT = 1
  let q := x.zipIdx.map fun e =>
    let v := if cct then Tr.acescct e.1 else e.1
    let t := Fp.add (Fp.mul v (Pb.slot b s Pb.REND.SLOPE e.2)) (Pb.slot b s Pb.REND.OFFSET e.2)
    let t := if ext then t else Fp.fsat t 0 Fp.one
    if Fp.lt 0 t then Tr.powCode t (Pb.slot b s Pb.REND.POWER e.2)
    else if Fp.isNan t then t else if ext then t else 0
  let y := Fp.add (Fp.add (Fp.mul 0x3E59B3D0 (q.getD 0 0)) (Fp.mul 0x3F371759 (q.getD 1 0))) (Fp.mul 0x3D93DD98 (q.getD 2 0))
  q.map fun c =>
    let o := Fp.add y (Fp.mul (f Pb.REND.CDL_SAT) (Fp.sub c y))
    let o := if ext then o else Fp.fsat o 0 Fp.one
    if cct then Tr.acescctInv o else o

/-- A table lookup of channel `c` (R194). -/
def lookup (t : Table) (c x : Nat) : Nat :=
  let f := match t.kind with
    | 0 => x
    | 1 => if Fp.lt 0 x then Tr.log2Code x else t.lo
    | _ => Tr.acescct x
  let u := Fp.fsat (Fp.mul (Fp.div (Fp.sub f t.lo) (Fp.sub t.hi t.lo)) (Fp.ofInt Fp.f32 4095)) 0 (Fp.ofInt Fp.f32 4095)
  let i := min (Fp.trunc u).toNat 4094
  let fr := Fp.sub u (Fp.ofInt Fp.f32 i)
  let l := t.t.getD c []
  Fp.add (l.getD i 0) (Fp.mul fr (Fp.sub (l.getD (i + 1) 0) (l.getD i 0)))

/-- Tetrahedral interpolation in the lattice (R195). -/
def lut3d (n : Nat) (l : List (List Nat)) (x : List Nat) : List Nat :=
  let a := x.map fun v => Fp.mul (Fp.fsat v 0 Fp.one) (Fp.ofInt Fp.f32 (n - 1 : Nat))
  let i := a.map fun v => min (Fp.trunc v).toNat (n - 2)
  let f := (a.zip i).map fun e => Fp.sub e.1 (Fp.ofInt Fp.f32 e.2)
  let fc := fun c => f.getD c 0
  -- channels in descending order of f; a tie keeps the order R, G, B
  let before := fun (c d : Nat) => Fp.lt (fc d) (fc c) || (!Fp.lt (fc c) (fc d) && c < d)
  let rank := fun c => ((List.range 3).filter fun d => before d c).length
  let at_ := fun k => ((List.range 3).filter fun c => rank c = k).headD 0
  let entry := fun (p : List Nat) => l.getD ((p.getD 2 0 * n + p.getD 1 0) * n + p.getD 0 0) []
  let up := fun (p : List Nat) (c : Nat) => p.zipIdx.map fun e => if e.2 = c then e.1 + 1 else e.1
  let p1 := up i (at_ 0)
  let p2 := up p1 (at_ 1)
  let p3 := i.map (· + 1)
  (List.range 3).map fun c =>
    let v := fun p => Fp.of16 ((entry p).getD c 0)
    let t := fun k p q => Fp.mul (fc (at_ k)) (Fp.sub (v p) (v q))
    Fp.add (Fp.add (Fp.add (v i) (t 0 p1 i)) (t 1 p2 p1)) (t 2 p3 p2)

/-- Stage 8 on channel `c` (R196). -/
def transfer (b : List (Nat × Nat)) (s : Nat) (lut : Lut) (c x : Nat) : Nat :=
  match Pb.slot b s Pb.REND.TRANSFER with
  | 0 => x
  | 1 => Tr.pq x (Pb.slot b s Pb.REND.PQ_NITS)
  | 2 => Tr.hlg x (Pb.slot b s Pb.REND.HLG_SCALE)
  | 3 => Tr.bt1886 x
  | 4 => Tr.bt709 x
  | 5 => Tr.srgb x
  | 6 => Tr.acescct x
  | _ => match lut.transfer with
    | none => x
    | some t => lookup t c x

/-- Y′ of R197, for given KR and KB. -/
def lumaOf (kr kb : Nat) (x : List Nat) : Nat :=
  Fp.add (Fp.add (Fp.mul kr (x.getD 0 0)) (Fp.mul (Fp.sub (Fp.sub Fp.one kr) kb) (x.getD 1 0))) (Fp.mul kb (x.getD 2 0))

def luma (b : List (Nat × Nat)) (s : Nat) (x : List Nat) : Nat := lumaOf (Pb.slot b s Pb.REND.KR) (Pb.slot b s Pb.REND.KB) x

/-- Stage 9 (R197, R198) at output pixel (x, y). -/
def analysis (b : List (Nat × Nat)) (s cid y x : Nat) (v : List Nat) : List Nat :=
  let f := fun F => Pb.slot b s F
  let an := f Pb.REND.ANALYSIS
  let l := luma b s v
  let band := ((List.range 15).filter fun n => Fp.le (Pb.slot b s Pb.REND.FC_T n) l).length
  let v := if an % 2 = 1 ∧ Pb.slot b s Pb.REND.FC_EN band = 1 then
      (List.range 3).map fun c => Pb.slot b s Pb.REND.FC_RGB band c
    else v
  let ph := if f Pb.REND.Z_ANIM = 1 then 2 * (cid % 8) else 0
  let hit := fun en lo hi k => 2 ≤ an && f en == 1 && Fp.le (f lo) l && Fp.le l (f hi) && (x + k * y + ph) % 16 < 8
  let v := if hit Pb.REND.Z1_EN Pb.REND.Z1_LO Pb.REND.Z1_HI 1 then
      (List.range 3).map fun c => Pb.slot b s Pb.REND.Z1_RGB 0 c
    else v
  if hit Pb.REND.Z2_EN Pb.REND.Z2_LO Pb.REND.Z2_HI 15 then
    (List.range 3).map fun c => Pb.slot b s Pb.REND.Z2_RGB 0 c
  else v

/-- Stages 2 to 9 on one pixel. -/
def pixel (b : List (Nat × Nat)) (s cid : Nat) (lut : Lut) (y x : Nat) (v : List Nat) : List Nat :=
  let on := fun F => Pb.slot b s F = 1
  let v := if on Pb.REND.WMTX_EN then matrix b s Pb.REND.WM v else v
  let v := v.map fun c => Fp.mul c (Pb.slot b s Pb.REND.EXP_GAIN)
  let v := if on Pb.REND.CDL_EN then cdl b s v else v
  let v := match lut.shaper with
    | some t => if on Pb.REND.SHAPER_EN then v.zipIdx.map (fun e => lookup t e.2 e.1) else v
    | none => v
  let v := match lut.lattice with
    | some (n, l) => if on Pb.REND.LUT3D_EN then lut3d n l v else v
    | none => v
  let v := if on Pb.REND.OMTX_EN then matrix b s Pb.REND.OM v else v
  analysis b s cid y x (v.zipIdx.map fun e => transfer b s lut e.2 e.1)

/-! ### Stages 10 to 12 -/

/-- CHROMA and DEPTH as PACK allows them (R203). -/
def packFormat (b : List (Nat × Nat)) (s : Nat) : Nat × Nat × Nat :=
  let pk := min 5 (Pb.slot b s Pb.REND.PACK)
  let ch := Pb.slot b s Pb.REND.CHROMA
  let dp := Pb.slot b s Pb.REND.DEPTH
  let (cs, ds) : List Nat × List Nat := match pk with
    | 0 => ([0], [10]) | 1 => ([0], []) | 2 => ([2, 3], [8]) | 3 => ([2, 3], [10, 12]) | 4 => ([0, 1], [8])
    | _ => ([0, 1], [10, 12, 16])
  (pk, if ch ∈ cs then ch else cs.headD 0, if dp ∈ ds then dp else ds.headD dp)

/-- Horizontal, then vertical chroma filters (R199). -/
def half (siting : Nat) (c : Nat → Nat) (n top : Nat) : Nat :=
  let at_ := fun (i : Int) => c (sat i 0 (top - 1 : Nat)).toNat
  let i : Int := 2 * n
  if siting = 0 then Fp.add (Fp.add (Fp.mul Fp.quarter (at_ (i - 1))) (Fp.mul 0x3F000000 (at_ i))) (Fp.mul Fp.quarter (at_ (i + 1)))
  else Fp.add (Fp.mul 0x3F000000 (at_ i)) (Fp.mul 0x3F000000 (at_ (i + 1)))

/-- How an image is encoded (R199, R200). -/
structure Encoding where
  kr : Nat
  kb : Nat
  full : Bool
  hSite : Nat
  vSite : Nat
deriving DecidableEq, Repr

/-- The encoding of a rendition slot. -/
def encoding (b : List (Nat × Nat)) (s : Nat) : Encoding :=
  let f := fun F => Pb.slot b s F
  ⟨f Pb.REND.KR, f Pb.REND.KB, f Pb.REND.RANGE = 1, f Pb.REND.H_SITING, f Pb.REND.V_SITING⟩

def subsample (e : Encoding) (chroma w h : Nat) (p : Plane) : Plane :=
  if chroma < 2 then p
  else
    let p2 : Plane := p.map fun row => (List.range ((w + 1) / 2)).map fun n => half e.hSite (fun i => row.getD i 0) n w
    if chroma = 2 then p2
    else plane ((h + 1) / 2) ((w + 1) / 2) fun m x => half e.vSite (fun i => p2.at i x) m h

/-- The planes after stage 10, as code values in binary32 (R199, R200). -/
def chroma (e : Encoding) (chroma depth w h : Nat) (im : List Plane) : List Plane :=
  let at_ := fun y x => im.map fun p => p.at y x
  let i := fun (n : Nat) => Fp.ofInt Fp.f32 n
  let yv := fun v => if e.full then Fp.mul v (i (2 ^ depth - 1)) else Fp.mul (Fp.add (Fp.mul (i 219) v) (i 16)) (i (2 ^ (depth - 8)))
  let cv := fun v => if e.full then Fp.add (Fp.mul v (i (2 ^ depth - 1))) (i (2 ^ (depth - 1)))
    else Fp.mul (Fp.add (Fp.mul (i 224) v) (i 128)) (i (2 ^ (depth - 8)))
  if chroma = 0 then im.map fun p => p.map fun r => r.map yv
  else
    let y := plane h w fun y x => lumaOf e.kr e.kb (at_ y x)
    let diff := fun (c k : Nat) => plane h w fun r x =>
      Fp.div (Fp.sub ((at_ r x).getD c 0) (y.at r x)) (Fp.mul (Fp.sub Fp.one k) Fp.two)
    [y.map fun r => r.map yv, (subsample e chroma w h (diff 2 e.kb)).map fun r => r.map cv,
     (subsample e chroma w h (diff 0 e.kr)).map fun r => r.map cv]

/-- The code nearest to a value, without dither (R201). -/
def quantise (depth q : Nat) : Nat :=
  (sat (Fp.toIntNearest 32 (Fp.fsat q (Fp.neg Fp.one) (Fp.ofInt Fp.f32 (2 ^ depth)))) 0 (2 ^ depth - 1)).toNat

/-- The code of plane `c` (0 Y′ or R′, 1 Cb or G′, 2 Cr or B′) at (x, y) (R201). -/
def dither (b : List (Nat × Nat)) (s depth cid : Nat) (t : Option (List Nat)) (c y x q : Nat) : Nat :=
  let top : Int := 2 ^ depth - 1
  let m := Pb.slot b s Pb.REND.DITHER
  if m = 0 then quantise depth q
  else
    let n := Fp.toIntNearest 64 (Fp.mul (Fp.fsat q (Fp.neg Fp.one) (Fp.ofInt Fp.f32 (2 ^ depth))) (Fp.ofInt Fp.f32 8192))
    let (ox, oy) := if m = 1 then (0, 0) else (17 * cid % 64, 29 * cid % 64)
    let e := ditherAt t (y + oy + (if c = 2 then 32 else 0)) (x + ox + (if c = 1 then 32 else 0))
    (sat ((n + 2 * (e : Int) + 1) / 2 ^ 13) 0 top).toNat

/-- Rows of a plane, each padded to the pitch. -/
def rows (rs : List (List Byte)) : List Byte :=
  rs.flatMap fun r => fit (ceilDiv r.length 256 * 256) r

/-- Planes, each padded to 4 KiB; the last one is not padded. -/
def joinPlanes : List (List Byte) → List Byte
  | [] => []
  | [p] => p
  | p :: r => fit (ceilDiv p.length 4096 * 4096) p ++ joinPlanes r

/-- Pack codes (R203). -/
def packBytes (pk : Nat) (codes : List Plane) : List (List (List Byte)) :=
  let p := fun i => codes.getD i []
  let zip := fun (f : Nat → Nat → List Byte) => (List.range (p 0).length).map fun y =>
    (List.range ((p 0).getD y []).length).flatMap fun x => f y x
  let c := fun i y x => (p i).at y x
  match pk with
  | 0 => [zip fun y x => leBytes 4 (c 0 y x + c 1 y x * 2 ^ 10 + c 2 y x * 2 ^ 20 + 3 * 2 ^ 30)]
  | 1 => [zip fun y x => leBytes 2 (c 0 y x) ++ leBytes 2 (c 1 y x) ++ leBytes 2 (c 2 y x) ++ leBytes 2 0x3C00]
  | 2 => [(p 0).map fun r => r.flatMap (leBytes 1), (p 1).zipIdx.map fun e => e.1.zipIdx.flatMap fun v =>
      leBytes 1 v.1 ++ leBytes 1 (c 2 e.2 v.2)]
  | 3 => [(p 0).map fun r => r.flatMap (leBytes 2), (p 1).zipIdx.map fun e => e.1.zipIdx.flatMap fun v =>
      leBytes 2 v.1 ++ leBytes 2 (c 2 e.2 v.2)]
  | 4 => codes.map fun p => p.map fun r => r.flatMap (leBytes 1)
  | _ => codes.map fun p => p.map fun r => r.flatMap (leBytes 2)

/-- One rendition pass over a developed image: three planes of binary16 codes. -/
def render (b : List (Nat × Nat)) (s cid : Nat) (lut : Lut) (dith : Option (List Nat)) (w h : Nat) (im : List Plane) : Output :=
  let (_, _, dw, dh) := sizes b s w h
  let (pk, ch, dp) := packFormat b s
  let sc := im.map fun p => scale b s w h (p.map fun r => r.map Fp.of16)
  let px := (List.range dh).map fun y => (List.range dw).map fun x => pixel b s cid lut y x (sc.map fun p => p.at y x)
  let pl := (List.range 3).map fun c => (px.map fun r => r.map fun v => v.getD c 0 : Plane)
  let (codes, sats) := if pk = 1 then
      (pl.map fun p => p.map fun r => r.map fun v => (Fp.to16 v).1,
        (List.range dw).map fun x => (pl.map fun p => (p.filter fun r => (Fp.to16 (r.getD x 0)).2).length).foldl (· + ·) 0)
    else ((chroma (encoding b s) ch dp dw dh pl).zipIdx.map fun e => e.1.zipIdx.map fun r => r.1.zipIdx.map fun v =>
      dither b s dp cid dith e.2 r.2 v.2 v.1, [])
  let packed := packBytes pk codes
  { pack := pk, chroma := ch, depth := dp, w := dw, h := dh, codes := codes, sats := sats, planes := packed.length,
    pitch := ceilDiv ((packed.getD 0 []).getD 0 []).length 256 * 256, bytes := joinPlanes (packed.map rows) }

/-- Does the pass use the library slot: a stage 5, 6 or 8 that takes a table (R206, R207)? -/
def usesLut (b : List (Nat × Nat)) (s : Nat) : Bool :=
  Pb.slot b s Pb.REND.SHAPER_EN = 1 || Pb.slot b s Pb.REND.LUT3D_EN = 1 || Pb.slot b s Pb.REND.TRANSFER = 7

/-- Does the pass use a table of the slot: a stage that takes one finds it present (R207)? -/
def usesTable (b : List (Nat × Nat)) (s : Nat) (l : Lut) : Bool :=
  (Pb.slot b s Pb.REND.SHAPER_EN = 1 && l.shaper.isSome) || (Pb.slot b s Pb.REND.LUT3D_EN = 1 && l.lattice.isSome) ||
    (Pb.slot b s Pb.REND.TRANSFER = 7 && l.transfer.isSome)

end Sys2Proof.Render
end

