-- ==== Sys2Proof/Machine/Develop.lean ====
section
/-! DEFINITION. Develop: stages 1 to 10 of a Section: from the completed raw to the developed image
(spec 06 R150 to R171). Gangs, paths and stripes do not enter: the result does not depend on them (R153). -/

namespace Sys2Proof.Develop

/-- A plane of samples, row by row. -/
abbrev Plane := List (List Int)

def Plane.at (p : Plane) (y x : Nat) : Int := (p.getD y []).getD x 0

/-- A plane from its samples' rule. -/
def mk (h w : Nat) (f : Nat → Nat → Int) : Plane := (List.range h).map fun y => (List.range w).map fun x => f y x

/-! ### Colour filter arrays (R150) -/

/-- Colour classes. -/
def R : Nat := 0
def G : Nat := 1
def B : Nat := 2
def W : Nat := 3

/-- A colour filter array: its pattern and the phase of the top-left photosite. -/
structure Cfa where
  pv : Nat
  ph : Nat
  pat : List (List Nat)
  py : Nat
  px : Nat
  mono : Bool
deriving DecidableEq, Repr

/-- Entry (r, c) of CUST_PAT. -/
def custPat (b : List (Nat × Nat)) (r c : Nat) : Nat :=
  let k := 2 * (8 * r + c)
  bits (Pb.fe b 5 Pb.DMS.CUST_PAT (k / 32)) (k % 32) 2

/-- The array of a frame. -/
def cfa (b : List (Nat × Nat)) (kind phase : Nat) : Cfa :=
  let (pv, ph, pat) : Nat × Nat × List (List Nat) := match kind with
    | 0 => (2, 2, [[R, G], [G, B]])
    | 1 => (4, 4, [[R, R, G, G], [R, R, G, G], [G, G, B, B], [G, G, B, B]])
    | 2 => (4, 4, [[W, R, W, G], [R, W, G, W], [W, G, W, B], [G, W, B, W]])
    | 3 => (1, 1, [[W]])
    | _ =>
      let h := Pb.fe b 5 Pb.DMS.CUST_H
      let w := Pb.fe b 5 Pb.DMS.CUST_W
      (h, w, (List.range h).map fun r => (List.range w).map fun c => custPat b r c)
  { pv := pv, ph := ph, pat := pat, py := bits phase 3 3, px := bits phase 0 3, mono := kind = 3 }

/-- The colour of a photosite; outside a window it is the one the pattern gives there. -/
def Cfa.colour (c : Cfa) (y x : Int) : Nat :=
  (c.pat.getD ((y + c.py) % c.pv).toNat []).getD ((x + c.px) % c.ph).toNat 0

def Cfa.phase (c : Cfa) (y x : Nat) : Nat := (y + c.py) % c.pv * 8 + (x + c.px) % c.ph

/-- The guide colour γ. -/
def Cfa.guide (c : Cfa) : Nat := if c.pat.any (fun r => r.any (· = W)) then W else G

/-! ### Windows and the edge rule (R152) -/

/-- The index that stands for `i` in `lo … lo + n - 1` under the edge rule with period `p`. -/
def edge (lo n p : Nat) (i : Int) : Nat :=
  let k := i - lo
  if 0 ≤ k ∧ k < n then k.toNat
  else if k < 0 then (let r := (k % (p : Int)).toNat; if r < n then r else 0)
  else
    let last : Int := n - 1
    let r := last - ((last - k) % (p : Int))
    if 0 ≤ r then r.toNat else n - 1

/-- A window: rows `y0 … y0 + h - 1` of a frame `w` wide. -/
structure Win where
  y0 : Nat
  h : Nat
  w : Nat

/-- Read a plane of a window at frame coordinates, with periods `pv`, `ph`. -/
def Win.get (n : Win) (pv ph : Nat) (p : Plane) (y x : Int) : Int := p.at (edge n.y0 n.h pv y) (edge 0 n.w ph x)

/-- A plane of the window from a rule over frame coordinates. -/
def Win.mk' (n : Win) (f : Nat → Nat → Int) : Plane := Develop.mk n.h n.w fun y x => f (n.y0 + y) x

/-- Rows of folio `i` out of a plane of its window. -/
def Win.keep (n : Win) (i : Nat) (p : Plane) : Plane := (p.drop (64 * i - n.y0)).take 64

/-- The window of folio `i` of a frame of `h` rows. -/
def folioWin (h w i : Nat) : Win :=
  let y0 := 64 * i - 4
  { y0 := y0, h := min h (64 * i + 68) - y0, w := w }

/-! ### Stage 1 (R155, R156) -/

/-- The linear value of a raw code of depth `depth`. -/
def decompand (b : List (Nat × Nat)) (depth code : Nat) : Nat :=
  let u := code * 2 ^ (16 - depth)
  if Pb.fe b 0 Pb.CTL.DCMP_EN = 1 then
    let i := u / 1024
    let f := u % 1024
    let t0 : Int := Pb.fe b 0 Pb.CTL.DCMP_T i
    let t1 : Int := Pb.fe b 0 Pb.CTL.DCMP_T (i + 1)
    (sat (t0 + rnd ((t1 - t0) * f) 10) 0 1048575).toNat
  else u * 16

/-! ### Stage 2 (R157) -/

/-- COLOFS of column x, from calibration space. -/
def colofs (cal : Nat → Byte) (x : Nat) : Int :=
  sgn 16 ((cal (0x100000 + 2 * x)).toNat + 256 * (cal (0x100000 + 2 * x + 1)).toNat)

/-- Do the optically black columns fit the frame? -/
def obFits (b : List (Nat × Nat)) (w : Nat) : Bool := Pb.fe b 1 Pb.BLK.OB_X0 + 2 ^ Pb.fe b 1 Pb.BLK.OB_LOG2 ≤ w

def stage2 (b : List (Nat × Nat)) (cal : Nat → Byte) (c : Cfa) (lin : Plane) (n : Win) : Plane :=
  let ofs := fun φ => (Pb.fe b 1 Pb.BLK.BLK_OFS φ : Int)
  if Pb.fe b 1 Pb.BLK.BLK_EN = 0 then n.mk' fun y x => lin.at y x
  else
    let x0 := Pb.fe b 1 Pb.BLK.OB_X0
    let lg := Pb.fe b 1 Pb.BLK.OB_LOG2
    let lim : Int := Pb.fe b 1 Pb.BLK.ROW_LIMIT
    let row := (List.range n.h).map fun k =>
      let y := n.y0 + k
      if Pb.fe b 1 Pb.BLK.ROWFPN_EN = 1 ∧ obFits b n.w then
        let s := (List.range (2 ^ lg)).foldl (fun a j => a + (lin.at y (x0 + j) - ofs (c.phase y (x0 + j)))) (0 : Int)
        sat (rnd s lg) (-lim) lim
      else 0
    n.mk' fun y x =>
      let b0 := lin.at y x - ofs (c.phase y x)
      let b0 := if Pb.fe b 1 Pb.BLK.COLFPN_EN = 1 then b0 - colofs cal x else b0
      satCfa (b0 - row.getD (y - n.y0) 0)

/-! ### Stage 3 (R158, R159) -/

/-- Photosites marked by the map (keys 65536 y + x), and the entries ignored. -/
def marks (b : List (Nat × Nat)) (cal : Nat → Byte) (h w : Nat) : List Nat × Nat :=
  if Pb.fe b 2 Pb.DPC.MAP_EN = 0 then ([], 0)
  else
    let added := (cal 0x170000).toNat + 256 * (cal 0x170001).toNat + 65536 * (cal 0x170002).toNat + 16777216 * (cal 0x170003).toNat
    let n := min (Pb.fe b 2 Pb.DPC.MAP_COUNT + added) 262144
    let (m, skip, _) := (List.range n).foldl (fun (a : List Nat × Nat × Nat) i =>
      let (m, skip, last) := a
      let e := (cal (4 * i)).toNat + 256 * (cal (4 * i + 1)).toNat + 65536 * (cal (4 * i + 2)).toNat + 16777216 * (cal (4 * i + 3)).toNat
      let x := bits e 0 15
      let y := bits e 15 14
      let ps : List (Nat × Nat) := match bits e 29 3 with
        | 0 => [(y, x)]
        | 1 => [(y, x), (y, x + 1)]
        | 2 => [(y, x), (y + 1, x)]
        | _ => []
      let ps : List Nat := (ps.filter fun p => p.1 < h ∧ p.2 < w).map fun p => p.1 * 65536 + p.2
      let key := y * 65536 + x
      if ps = [] ∨ key < last then (m, skip + 1, last) else (m ++ ps, skip, key)) ([], 0, 0)
    (m, skip)

/-- Insert into an ascending list. -/
def insertInt (x : Int) : List Int → List Int
  | [] => [x]
  | y :: r => if x ≤ y then x :: y :: r else y :: insertInt x r

/-- A list in ascending order. -/
def sortInt (l : List Int) : List Int := l.foldr insertInt []

/-- Stage 3 at one photosite: its output and whether it was detected. -/
def defect (b : List (Nat × Nat)) (c : Cfa) (mk : List Nat) (n : Win) (p : Plane) (y x : Nat) : Int × Bool :=
  let at_ := fun (dy dx : Int) => n.get c.pv c.ph p (y + dy * c.pv) (x + dx * c.ph)
  let marked := fun (dy dx : Int) =>
    (n.y0 + edge n.y0 n.h c.pv (y + dy * c.pv)) * 65536 + edge 0 n.w c.ph (x + dx * c.ph) ∈ mk
  let v := p.at (y - n.y0) x
  let N := [at_ (-1) (-1), at_ (-1) 0, at_ (-1) 1, at_ 0 (-1), at_ 0 1, at_ 1 (-1), at_ 1 0, at_ 1 1]
  let mx := N.foldl max (at_ (-1) (-1))
  let mn := N.foldl min (at_ (-1) (-1))
  let abs_ : Int := Pb.fe b 2 Pb.DPC.DYN_ABS
  let rel : Int := Pb.fe b 2 Pb.DPC.DYN_REL
  let thi := abs_ + (rel * max mx 0) / 256
  let tlo := abs_ + (rel * max mn 0) / 256
  let detected := Pb.fe b 2 Pb.DPC.DYN_EN = 1 && (v - mx > thi || mn - v > tlo)
  let key := y * 65536 + x
  if key ∈ mk ∨ detected then
    let S := sortInt (([((-1 : Int), (0 : Int)), (0, -1), (0, 1), (1, 0)].filter fun d => !marked d.1 d.2).map fun d => at_ d.1 d.2)
    let out := match S with
      | [a] => a
      | [a, e] => rnd (a + e) 1
      | [_, a, _] => a
      | [_, a, e, _] => rnd (a + e) 1
      | _ => v
    (satCfa out, detected)
  else (v, detected)

/-! ### Stage 4 (R161) -/

/-- The cubic weights W[p][0 … 3], 14 fraction bits. -/
def cubic (p k : Nat) : Int := Pb.cubic p k

/-- Shading plane of a phase. -/
def plane (b : List (Nat × Nat)) (φ : Nat) : Nat := bits (Pb.fe b 3 Pb.SHD.PLANE (φ / 8)) (4 * (φ % 8)) 4

/-- Node (j, i) of a shading plane. -/
def shadeNode (b : List (Nat × Nat)) (cal : Nat → Byte) (pl j i : Nat) : Nat :=
  let a := 0x110000 + 20480 * pl + j * Pb.fe b 3 Pb.SHD.GW * 2 + i * 2
  (cal a).toNat + 256 * (cal (a + 1)).toNat

def shadeGain (b : List (Nat × Nat)) (cal : Nat → Byte) (pl y x : Nat) : Int :=
  let gx := x * Pb.fe b 3 Pb.SHD.GX_STEP
  let gy := y * Pb.fe b 3 Pb.SHD.GY_STEP
  let px := gx / 2 ^ 18 % 64
  let py := gy / 2 ^ 18 % 64
  let node := fun (j i : Nat) => (shadeNode b cal pl
    (sat ((gy / 2 ^ 24 : Nat) - 1 + j) 0 (Pb.fe b 3 Pb.SHD.GH - 1 : Nat)).toNat
    (sat ((gx / 2 ^ 24 : Nat) - 1 + i) 0 (Pb.fe b 3 Pb.SHD.GW - 1 : Nat)).toNat : Int)
  let acc := (List.range 4).foldl (fun a j => (List.range 4).foldl (fun a i =>
    a + cubic py j * cubic px i * node j i) a) (0 : Int)
  sat (rnd acc 28) 0 65535

def stage4 (b : List (Nat × Nat)) (cal : Nat → Byte) (c : Cfa) (n : Win) (p : Plane) : Plane :=
  if Pb.fe b 3 Pb.SHD.SHD_EN = 0 then p
  else n.mk' fun y x => satCfa (rnd (p.at (y - n.y0) x * shadeGain b cal (plane b (c.phase y x)) y x) 12)

/-! ### Stage 5 (R163) -/

def stage5 (b : List (Nat × Nat)) (c : Cfa) (clip : Plane) (n : Win) (p : Plane) : Plane :=
  if Pb.fe b 4 Pb.HLR.HLR_EN = 0 then p
  else n.mk' fun y x =>
    let v := p.at (y - n.y0) x
    let clipped := fun (yy xx : Nat) => clip.at (n.y0 + yy) xx = 1
    if !clipped (y - n.y0) x then v
    else
      let cy : Int := y - ((y + c.py) % c.pv : Nat)
      let cx : Int := x - ((x + c.px) % c.ph : Nat)
      let cell := (List.range c.pv).flatMap fun (j : Nat) => (List.range c.ph).map fun (i : Nat) =>
        (cy + j, cx + i)
      let q := cell.filter fun e => !clipped (edge n.y0 n.h c.pv e.1) (edge 0 n.w c.ph e.2)
      let q := if q = [] then cell else q
      let val := fun (e : Int × Int) => n.get c.pv c.ph p e.1 e.2 * (Pb.fe b 4 Pb.HLR.NORM (c.colour e.1 e.2) : Int)
      let best := match q with
        | [] => 0
        | e :: r => r.foldl (fun m f => max m (val f)) (val e)
      satCfa (max v (rnd (rnd best 12 * (Pb.fe b 4 Pb.HLR.INV (c.colour y x) : Int)) 12))

/-! ### Stage 6 (R164, R165) -/

/-- Offsets -r … r. -/
def around (r : Nat) : List Int := (List.range (2 * r + 1)).map fun (i : Nat) => (i : Int) - r

/-- The ring mean of `u` over colour `k` at (y, x). -/
def ringMean (n : Win) (c : Cfa) (u : Int → Int → Int) (k : Nat) (y x : Int) : Int :=
  let sq := fun r => (around r).flatMap fun dy => ((around r).filter fun dx => c.colour (y + dy) (x + dx) = k).map
    fun dx => u (y + dy) (x + dx)
  match ([1, 2, 3, 4].map sq).find? fun l => l ≠ [] with
  | some l => rndDiv (l.foldl (· + ·) 0) l.length
  | none => 0

/-- The nearest distance 1 … r in direction (dy, dx) at which colour `k` lies. -/
def nearest (n : Win) (c : Cfa) (k r : Nat) (y x dy dx : Int) : Option Int :=
  ((List.range r).map fun (i : Nat) => (i : Int) + 1).find? fun t => c.colour (y + t * dy) (x + t * dx) = k

/-- Interpolation and gradient of the guide along one axis. -/
def axis (n : Win) (c : Cfa) (v : Int → Int → Int) (y x dy dx : Int) : Option (Int × Int) :=
  let γ := c.guide
  let k := c.colour y x
  match nearest n c γ 4 y x (-dy) (-dx), nearest n c γ 4 y x dy dx, nearest n c k 8 y x (-dy) (-dx), nearest n c k 8 y x dy dx with
  | some a, some b, some sa, some sb =>
    let va := v (y - a * dy) (x - a * dx)
    let vb := v (y + b * dy) (x + b * dx)
    let h := rndDiv (va * b + vb * a) (a + b).toNat
    let g := ((va - vb).natAbs : Int) + (v y x - v (y - sa * dy) (x - sa * dx)).natAbs + (v y x - v (y + sb * dy) (x + sb * dx)).natAbs
    some (h, g)
  | _, _, _, _ => none

/-- The guide Γ at (y, x). -/
def guideAt (n : Win) (c : Cfa) (v : Int → Int → Int) (y x : Int) : Int :=
  if c.colour y x = c.guide then v y x
  else match axis n c v y x 0 1, axis n c v y x 1 0 with
    | some (h, gh), some (w, gv) => if 4 * gh < 3 * gv then h else if 4 * gv < 3 * gh then w else rnd (h + w) 1
    | some (h, _), none => h
    | none, some (w, _) => w
    | none, none => ringMean n c v c.guide y x

/-- Entry of WT. -/
def wt (b : List (Nat × Nat)) (i : Nat) : Nat := bits (Pb.fe b 5 Pb.DMS.WT (i / 4)) (8 * (i % 4)) 8

/-- Output channel `k` at (y, x). -/
def demosaicAt (b : List (Nat × Nat)) (n : Win) (c : Cfa) (v Γ : Int → Int → Int) (k : Nat) (y x : Int) : Int :=
  if c.mono then v y x
  else if c.colour y x = k then v y x
  else
    let diff := fun yy xx => v yy xx - Γ yy xx
    let edge1 := satCfa (if k = c.guide then Γ y x else Γ y x + ringMean n c diff k y x)
    match Pb.fe b 5 Pb.DMS.ALG with
    | 0 => satCfa (ringMean n c v k y x)
    | 1 => if c.pat.any (fun r => r.any (· = k)) then edge1 else 0
    | _ =>
      if !c.pat.any (fun r => r.any (· = k)) then 0
      else if k = c.guide then edge1
      else
        let q := (around 4).flatMap fun dy => ((around 4).filter fun dx => c.colour (y + dy) (x + dx) = k).map
          fun dx => (y + dy, x + dx)
        let w := fun (p : Int × Int) => (wt b (min 15 ((Γ p.1 p.2 - Γ y x).natAbs / 2 ^ Pb.fe b 5 Pb.DMS.RES_SHIFT)) : Int)
        let sw := (q.map w).foldl (· + ·) 0
        if sw = 0 then edge1
        else satCfa (Γ y x + rndDiv ((q.map fun p => w p * diff p.1 p.2).foldl (· + ·) 0) sw.toNat)

def stage6 (b : List (Nat × Nat)) (c : Cfa) (n : Win) (p : Plane) : List Plane :=
  let v := n.get c.pv c.ph p
  let gp := n.mk' fun y x => guideAt n c v y x
  let Γ := n.get c.pv c.ph gp
  [R, G, B].map fun k => n.mk' fun y x => demosaicAt b n c v Γ k y x

/-! ### Stages 7 and 8 (R166, R167) -/

def stage7 (b : List (Nat × Nat)) (n : Win) (rgb : List Plane) : List Plane :=
  let wb := [Pb.fe b 6 Pb.WBM.WB_R, Pb.fe b 6 Pb.WBM.WB_G, Pb.fe b 6 Pb.WBM.WB_B]
  (rgb.zip wb).map fun e => n.mk' fun y x => satCfa (rnd (e.1.at (y - n.y0) x * (e.2 : Int)) 12)

/-- Output channel i of the matrix: a binary16 code and whether it saturated. -/
def matrixAt (b : List (Nat × Nat)) (i : Nat) (cs : List Int) : Nat × Bool :=
  let acc := (List.range 3).foldl (fun a j => a + sgn 32 (Pb.fe b 6 Pb.WBM.M (3 * i + j)) * cs.getD j 0) (0 : Int)
  let acc := acc + sgn 32 (Pb.fe b 6 Pb.WBM.O i) * 2 ^ 20
  Fp.to16V (.fin (acc < 0) acc.natAbs (sgn 8 (Pb.fe b 6 Pb.WBM.MTX_EXP) - 40))

def stage8 (b : List (Nat × Nat)) (n : Win) (rgb : List Plane) : List (List (List (Nat × Bool))) :=
  (List.range 3).map fun i => (List.range n.h).map fun y => (List.range n.w).map fun x =>
    matrixAt b i (rgb.map fun p => p.at y x)

/-! ### Stage 9 (R168, R169) -/

def luma (r g b : Nat) : Nat := Fp.mul (Fp.add (Fp.add r g) (Fp.add g b)) Fp.quarter

/-- A developed image: three planes of binary16 codes. -/
abbrev Rgb := List Plane

def Rgb.at (im : Rgb) (k y x : Nat) : Nat := ((im.getD k []).at y x).toNat

/-- An index into a table of 32 binary32 entries. -/
def index32 (a : Nat) : Nat := (sat (Fp.trunc a) 0 31).toNat

/-- Stage 9 spatial: binary32 codes over the window. -/
def spatial (b : List (Nat × Nat)) (n : Win) (im : Rgb) : Rgb :=
  let im := im.map fun p => p.map fun r => r.map fun (v : Int) => (Fp.of16 v.toNat : Int)
  if Pb.fe b 7 Pb.NRD.SNR_EN = 0 then im
  else
    let get := fun (k : Nat) (y x : Int) => (n.get 1 1 (im.getD k []) y x).toNat
    let lumaP := n.mk' fun y x => luma (get 0 y x) (get 1 y x) (get 2 y x)
    let scale := Pb.fe b 7 Pb.NRD.NR_RSCALE
    let one := fun (y x : Nat) =>
      let yp := (n.get 1 1 lumaP y x).toNat
      let (nums, den) := (around 2).foldl (fun a dy => (around 2).foldl (fun (a : List Nat × Nat) dx =>
        let yq := (n.get 1 1 lumaP (y + dy) (x + dx)).toNat
        let w := Fp.mul (Pb.fe b 7 Pb.NRD.SPW (3 * dy.natAbs + dx.natAbs))
          (Pb.fe b 7 Pb.NRD.RW (index32 (Fp.mul (Fp.abs (Fp.sub yq yp)) scale)))
        (a.1.zipIdx.map fun e => Fp.add e.1 (Fp.mul w (get e.2 (y + dy) (x + dx))), Fp.add a.2 w)) a) ([0, 0, 0], 0)
      (List.range 3).map fun k =>
        let x0 := get k y x
        if Fp.lt 0 den then Fp.add x0 (Fp.mul (Pb.fe b 7 Pb.NRD.NR_SSTR) (Fp.sub (Fp.div (nums.getD k 0) den) x0)) else x0
    let px := (List.range n.h).map fun y => (List.range n.w).map fun x => one (n.y0 + y) x
    (List.range 3).map fun k => px.map fun r => r.map fun v => (v.getD k 0 : Int)

/-- Value `v` of lens grid node (j, i) (R170). -/
def lensNode (b : List (Nat × Nat)) (cal : Nat → Byte) (j i v : Nat) : Int :=
  let lw := Pb.fe b 8 Pb.LNS.LW
  let lh := Pb.fe b 8 Pb.LNS.LH
  let a := 0x160000 + (min j (lh - 1) * lw + min i (lw - 1)) * 16 + 2 * v
  sgn 16 ((cal a).toNat + 256 * (cal (a + 1)).toNat)

/-- Value `v` of the lens grid interpolated at pixel (y, x) (R170). -/
def lens (b : List (Nat × Nat)) (cal : Nat → Byte) (y x v : Nat) : Int :=
  let gx := x * Pb.fe b 8 Pb.LNS.LX_STEP
  let gy := y * Pb.fe b 8 Pb.LNS.LY_STEP
  let ix := gx / 2 ^ 24
  let iy := gy / 2 ^ 24
  let tx : Int := (gx / 256 % 65536 : Nat)
  let ty : Int := (gy / 256 % 65536 : Nat)
  let n := fun j i => lensNode b cal (iy + j) (ix + i) v
  rnd ((n 0 0 * (65536 - tx) + n 0 1 * tx) * (65536 - ty) + (n 1 0 * (65536 - tx) + n 1 1 * tx) * ty) 32

/-- Stage 9 temporal over the window, from the reference image (R169). -/
def temporal (b : List (Nat × Nat)) (cal : Nat → Byte) (h : Nat) (n : Win) (s : Rgb) (ref : Option Rgb) : Rgb :=
  match ref with
  | none => s
  | some ref =>
    let get := fun (k : Nat) (y x : Int) => (n.get 1 1 (s.getD k []) y x).toNat
    let rget := fun (k : Nat) (y x : Int) =>
      Fp.of16 (ref.at k (sat y 0 (h - 1 : Nat)).toNat (sat x 0 (n.w - 1 : Nat)).toNat)
    let one := fun (y x : Nat) =>
      let (vy, vx) : Int × Int := if Pb.fe b 8 Pb.LNS.LNS_EN = 0 then (0, 0)
        else (rnd (lens b cal y x 7) 6, rnd (lens b cal y x 6) 6)
      let m := (around 1).foldl (fun m dy => (around 1).foldl (fun m dx =>
        let ls := luma (get 0 (y + dy) (x + dx)) (get 1 (y + dy) (x + dx)) (get 2 (y + dy) (x + dx))
        let ry := y + dy + vy
        let rx := x + dx + vx
        Fp.add m (Fp.abs (Fp.sub ls (luma (rget 0 ry rx) (rget 1 ry rx) (rget 2 ry rx))))) m) 0
      let m := Fp.mul m 0x3DE38E39
      let a := Pb.fe b 7 Pb.NRD.TW (index32 (Fp.mul m (Pb.fe b 7 Pb.NRD.NR_TSCALE)))
      (List.range 3).map fun k =>
        let sk := get k y x
        Fp.add sk (Fp.mul a (Fp.sub (rget k (y + vy) (x + vx)) sk))
    let px := (List.range n.h).map fun y => (List.range n.w).map fun x => one (n.y0 + y) x
    (List.range 3).map fun k => px.map fun r => r.map fun v => (v.getD k 0 : Int)

/-! ### Stage 10 (R170) -/

/-- The developed pixel at (y, x) from the pre-warp image: its channels with their saturation flags, and whether a
displacement was limited. -/
def warpAt (b : List (Nat × Nat)) (cal : Nat → Byte) (h w : Nat) (t : Rgb) (y x : Nat) : List (Nat × Bool) × Bool :=
  let reach : Int := Pb.fe b 8 Pb.LNS.REACH
  let d := fun v => lens b cal y x v
  let dxG := d 0
  let dyG := d 1
  let disp := [(dxG + d 2, dyG + d 3), (dxG, dyG), (dxG + d 4, dyG + d 5)]
  let limited := disp.any fun e => sat e.1 (-32768) 32767 ≠ e.1 || sat e.2 (-64 * reach) (64 * reach) ≠ e.2
  let out := disp.zipIdx.map fun e =>
    let sx := 64 * (x : Int) + sat e.1.1 (-32768) 32767
    let sy := 64 * (y : Int) + sat e.1.2 (-64 * reach) (64 * reach)
    let (ix, iy) := (sx / 64, sy / 64)
    let (px, py) := ((sx % 64).toNat, (sy % 64).toNat)
    let acc := (List.range 4).foldl (fun a j => (List.range 4).foldl (fun a (i : Nat) =>
      let wy := Fp.ofInt Fp.f32 (cubic py j) (-14)
      let wx := Fp.ofInt Fp.f32 (cubic px i) (-14)
      Fp.add a (Fp.mul (Fp.mul wy wx) (t.at e.2 (sat (iy - 1 + j) 0 (h - 1 : Nat)).toNat (sat (ix - 1 + i) 0 (w - 1 : Nat)).toNat))) a) 0
    Fp.to16 acc
  (out, limited)

/-! ### A whole pass -/

/-- What stages 1 to 10 make of a frame. -/
structure Result where
  linear : Plane
  clip : Plane
  black : Plane
  defect : Plane
  demosaic : List Plane
  image : Rgb
  /-- counts: binary16 saturations, limited pixels, map entries skipped -/
  sats : Nat
  clamps : Nat
  skips : Nat
  obSkip : Bool
  /-- keys 65536 y + x of detected photosites, and of marked ones -/
  detected : List Nat
  marked : List Nat

/-- One folio: stages 2 to 9. -/
def folio (b : List (Nat × Nat)) (cal : Nat → Byte) (c : Cfa) (lin clip : Plane) (mk : List Nat) (h w : Nat)
    (ref : Option Rgb) (i : Nat) : Plane × Plane × List Plane × Rgb × Nat × List Nat :=
  let n := folioWin h w i
  let s2 := stage2 b cal c lin n
  let s3 := (List.range n.h).map fun y => (List.range n.w).map fun x => defect b c mk n s2 (n.y0 + y) x
  let s3p : Plane := s3.map fun r => r.map (·.1)
  let s5 := stage5 b c clip n (stage4 b cal c n s3p)
  let s6 := stage6 b c n s5
  let s8 := stage8 b n (stage7 b n s6)
  let im : Rgb := s8.map fun p => p.map fun r => r.map fun v => (v.1 : Int)
  let s9 := temporal b cal h n (spatial b n im) ref
  let off := 64 * i - n.y0
  let kept := fun {α : Type} (p : List α) => (p.drop off).take 64
  let sats := ((s8.map fun p => ((kept p).map fun r => (r.filter (·.2)).length).foldl (· + ·) 0)).foldl (· + ·) 0
  let det := (kept s3).zipIdx.flatMap fun r => (r.1.zipIdx.filter fun e => e.1.2).map fun e => (64 * i + r.2) * 65536 + e.2
  (kept s2, kept s3p, s6.map kept, s9.map kept, sats, det)

/-- Develop a frame of `h` rows and `w` columns from its completed raw codes. `ref` is the temporal reference; it is
used only when TNR_EN = 1. -/
def develop (b : List (Nat × Nat)) (cal : Nat → Byte) (kind phase depth h w : Nat) (raw : Plane) (ref : Option Rgb) : Result :=
  let c := cfa b kind phase
  let lin : Plane := raw.map fun r => r.map fun v => (decompand b depth v.toNat : Int)
  let clip := mk h w fun y x => if (Pb.fe b 4 Pb.HLR.CLIP_L (c.colour y x) : Int) ≤ lin.at y x then 1 else 0
  let (mk_, skips) := marks b cal h w
  let ref := if Pb.fe b 7 Pb.NRD.TNR_EN = 1 then ref else none
  let fs := (List.range ((h + 63) / 64)).map fun i => folio b cal c lin clip mk_ h w ref i
  let t : Rgb := (List.range 3).map fun k => fs.flatMap fun f => f.2.2.2.1.getD k []
  let px := (List.range h).map fun y => (List.range w).map fun x =>
    if Pb.fe b 8 Pb.LNS.LNS_EN = 1 then warpAt b cal h w t y x
    else ((List.range 3).map fun k => Fp.to16 (t.at k y x), false)
  let sats10 := (px.map fun r => (r.map fun e => (e.1.filter (·.2)).length).foldl (· + ·) 0).foldl (· + ·) 0
  { linear := lin, clip := clip, black := fs.flatMap (·.1), defect := fs.flatMap (·.2.1),
    demosaic := (List.range 3).map fun k => fs.flatMap fun f => f.2.2.1.getD k [],
    image := (List.range 3).map fun k => px.map fun r => r.map fun e => ((e.1.getD k (0, false)).1 : Int),
    sats := (fs.map (·.2.2.2.2.1)).foldl (· + ·) 0 + sats10,
    clamps := (px.map fun r => (r.filter (·.2)).length).foldl (· + ·) 0,
    skips := skips,
    obSkip := Pb.fe b 1 Pb.BLK.BLK_EN = 1 && Pb.fe b 1 Pb.BLK.ROWFPN_EN = 1 && !obFits b w,
    detected := fs.flatMap (·.2.2.2.2.2), marked := mk_ }

/-! ### Shading proposals (R162) -/

/-- Phases that the pattern has. -/
def Cfa.phases (c : Cfa) : List Nat := (List.range c.pv).flatMap fun r => (List.range c.ph).map fun k => r * 8 + k

/-- Sum and count of stage 3 outputs of a plane's photosites nearest to each node: (node key j * 256 + i, sum, count). -/
def nodeSums (b : List (Nat × Nat)) (c : Cfa) (s3 : Plane) (pl : Nat) : List (Nat × Int × Nat) :=
  let gw := Pb.fe b 3 Pb.SHD.GW
  let gh := Pb.fe b 3 Pb.SHD.GH
  s3.zipIdx.foldl (fun a r => r.1.zipIdx.foldl (fun a e =>
    if plane b (c.phase r.2 e.2) = pl then
      let j := min (rnd (r.2 * Pb.fe b 3 Pb.SHD.GY_STEP : Nat) 24).toNat (gh - 1)
      let i := min (rnd (e.2 * Pb.fe b 3 Pb.SHD.GX_STEP : Nat) 24).toNat (gw - 1)
      let old := (Assoc.find a (j * 256 + i)).getD (0, 0)
      Assoc.put a (j * 256 + i) (old.1 + e.1, old.2 + 1)
    else a) a) []

/-- The proposed calibration bytes: (offset, byte) of every node of every plane in use. -/
def shadeProposal (b : List (Nat × Nat)) (c : Cfa) (s3 : Plane) : List (Nat × Byte) :=
  let gw := Pb.fe b 3 Pb.SHD.GW
  let gh := Pb.fe b 3 Pb.SHD.GH
  ((c.phases.map (plane b)).eraseDups).flatMap fun pl =>
    let sums := nodeSums b c s3 pl
    let m := fun (j i : Nat) => match Assoc.find sums (j * 256 + i) with
      | some (s, n) => rndDiv s n
      | none => 0
    let M := (List.range gh).foldl (fun a j => (List.range gw).foldl (fun a i => max a (m j i)) a) 0
    (List.range gh).flatMap fun j => (List.range gw).flatMap fun i =>
      let g : Int := if m j i ≤ 0 then 4096 else sat (rndDiv (M * 4096) (m j i).toNat) 4096 65535
      let a := 0x110000 + 20480 * pl + j * gw * 2 + i * 2
      [(a, BitVec.ofNat 8 g.toNat), (a + 1, BitVec.ofNat 8 (g.toNat / 256))]

end Sys2Proof.Develop
end

