-- ==== Sys2Proof/Machine/Frc.lean ====
section
/-! DEFINITION. Frc: Fixed-Ratio Raw Coding: budgets, prediction, tables, blocks, bands, encoder and decoder
(spec 08 R217 to R229). Bits of a block stand as a list, bit 0 first (R223). -/

namespace Sys2Proof.Frc

/-- Divisor of a ratio code (R217). -/
def divisor (ratio : Nat) : Option Nat := [2, 3, 4, 5, 6, 8][ratio]?

/-- Block budget B, none for RATIO NONE and for a combination that R218 refuses. -/
def budget (d ratio : Nat) : Option Nat :=
  match divisor ratio with
  | none => none
  | some r => let b := 16 * d / r / 4 * 4; if b < 20 then none else some b

/-- RATIO NONE. -/
def NONE : Nat := 7

/-- Bytes of a plane (R218, R235). -/
def planeSize (w h d ratio : Nat) : Nat :=
  if ratio = NONE then h * w * 2 + 4 * ceilDiv h 64
  else 36 * ceilDiv h 64 + (budget d ratio).getD 0 * ceilDiv w 32 * ceilDiv h 4

/-- A sample of the padded frame (R218). -/
def padded (w h ph pv : Nat) (at_ : Nat → Nat → Nat) (y x : Nat) : Nat :=
  let x' := if x < w then x else x - ph * ((x - w) / ph + 1)
  let y' := if y < h then y else y - pv * ((y - h) / pv + 1)
  at_ y' x'

/-! ### Prediction and quantiser (R220) -/

/-- Reconstructed sample `k` of a block, from the list of those done so far, newest first. -/
def recAt (rec : List Int) (n k : Nat) : Int := rec.getD (n - 1 - k) 0

/-- Prediction of sample n = 32 j + i. -/
def predict (d ph pv : Nat) (rec : List Int) (n : Nat) : Int :=
  let j := n / 32
  let i := n % 32
  let at_ := fun (j i : Nat) => recAt rec n (32 * j + i)
  if j < pv ∧ i < ph then 2 ^ (d - 1)
  else if j < pv then at_ j (i - ph)
  else if i < ph then at_ (j - pv) i
  else
    let a := at_ j (i - ph)
    let b := at_ (j - pv) i
    let c := at_ (j - pv) (i - ph)
    if max a b ≤ c then min a b else if c ≤ min a b then max a b else a + b - c

/-- k of R220 for a prediction error. -/
def quant (q : Nat) (e : Int) : Int :=
  if q = 0 then e
  else
    let k : Int := ((e.natAbs + 2 ^ (q - 1)) / 2 ^ q : Nat)
    if e < 0 then -k else k

/-- m of R220, and k of an m. -/
def fold (k : Int) : Nat := if 0 ≤ k then (2 * k).toNat else (-2 * k - 1).toNat

def unfold_ (m : Nat) : Int := if m % 2 = 0 then (m / 2 : Nat) else -((m + 1) / 2 : Nat)

/-- Reconstruction from a prediction and k. -/
def recon (d q : Nat) (p k : Int) : Int := sat (p + k * 2 ^ q) 0 (2 ^ d - 1)

/-- Code the samples of a block from number `n` on: the values m, and the reconstruction newest first. -/
def code (d q ph pv : Nat) : Nat → List Int → List Nat → List Nat × List Int
  | _, rec, [] => ([], rec)
  | n, rec, x :: xs =>
    let p := predict d ph pv rec n
    let k := quant q (x - p)
    let r := code d q ph pv (n + 1) (recon d q p k :: rec) xs
    (fold k :: r.1, r.2)

/-- Rebuild the samples from the values m, newest first. -/
def rebuild (d q ph pv : Nat) : Nat → List Int → List Nat → List Int
  | _, rec, [] => rec
  | n, rec, m :: ms => rebuild d q ph pv (n + 1) (recon d q (predict d ph pv rec n) (unfold_ m) :: rec) ms

/-! ### Code tables (R221, R222) -/

/-- `n` bits of `v`, most significant first. -/
def msb (n v : Nat) : List Bool := (List.range n).reverse.map fun i => v / 2 ^ i % 2 = 1

/-- Symbol, extra bit count and extra bits of m (R222). -/
def symbol (m : Nat) : Nat × Nat × Nat := if m < 16 then (m, 0, 0) else (12 + Nat.log2 m, Nat.log2 m, m - 2 ^ Nat.log2 m)

/-- Canonical codes of a length set: (symbol, length, code) (R222). -/
def canonical (L : List Nat) : List (Nat × Nat × Nat) :=
  ((seqFrom 1 15).foldl (fun (a : List (Nat × Nat × Nat) × Nat) len =>
    let (l, c) := (List.range 32).foldl (fun (b : List (Nat × Nat × Nat) × Nat) s =>
      if L.getD s 0 = len then (b.1 ++ [(s, len, b.2)], b.2 + 1) else b) a
    (l, 2 * c)) ([], 0)).1

/-- A code table: static t, or the dynamic codes. -/
inductive Table where
  | rice (t : Nat)
  | dyn (codes : List (Nat × Nat × Nat))
deriving DecidableEq, Repr

/-- The bits of m, none when a symbol has no code. -/
def Table.bits : Table → Nat → Option (List Bool)
  | .rice t, m =>
    let u := m / 2 ^ t
    some (if u < 24 then List.replicate u true ++ [false] ++ msb t m else List.replicate 24 true ++ msb 17 m)
  | .dyn c, m =>
    let (s, n, ex) := symbol m
    (c.find? fun e => e.1 = s).map fun e => msb e.2.1 e.2.2 ++ msb n ex

/-- Length of the code of m. -/
def Table.len : Table → Nat → Option Nat
  | .rice t, m => some (let u := m / 2 ^ t; if u < 24 then u + 1 + t else 41)
  | .dyn c, m => (c.find? fun e => e.1 = (symbol m).1).map fun e => e.2.1 + (symbol m).2.1

/-- Take a number of `n` bits, most significant first. -/
def take : Nat → List Bool → Option (Nat × List Bool)
  | 0, l => some (0, l)
  | _ + 1, [] => none
  | n + 1, b :: l => (take n l).map fun r => (b2n b * 2 ^ n + r.1, r.2)

/-- Take a run of at most `n` ones and the zero that ends a shorter one: (ones, rest). -/
def ones : Nat → List Bool → Option (Nat × List Bool)
  | 0, l => some (0, l)
  | _ + 1, [] => none
  | _ + 1, false :: l => some (0, l)
  | n + 1, true :: l => (ones n l).map fun r => (r.1 + 1, r.2)

/-- Take a canonical code: `n` lengths still to try. -/
def takeSym (c : List (Nat × Nat × Nat)) : Nat → Nat → Nat → List Bool → Option (Nat × List Bool)
  | 0, _, _, _ => none
  | _ + 1, _, _, [] => none
  | n + 1, len, code, b :: l =>
    let code := 2 * code + b2n b
    match c.find? fun e => e.2.1 = len + 1 ∧ e.2.2 = code with
    | some e => some (e.1, l)
    | none => takeSym c n (len + 1) code l

/-- Take the code of one m; a value above 2^17 − 2 fails (R229). -/
def Table.take (t : Table) (l : List Bool) : Option (Nat × List Bool) :=
  let r := match t with
    | .rice t => match ones 24 l with
      | none => none
      | some (u, l) => if u = 24 then Frc.take 17 l else (Frc.take t l).map fun r => (u * 2 ^ t + r.1, r.2)
    | .dyn c => match takeSym c 15 0 0 l with
      | none => none
      | some (s, l) => if s < 16 then some (s, l) else (Frc.take (s - 12) l).map fun r => (2 ^ (s - 12) + r.1, r.2)
  match r with
  | none => none
  | some (m, l) => if m ≤ 2 ^ 17 - 2 then some (m, l) else none

/-- Take `n` codes. -/
def takeAll (t : Table) : Nat → List Bool → Option (List Nat × List Bool)
  | 0, l => some ([], l)
  | n + 1, l => match t.take l with
    | none => none
    | some (m, l) => (takeAll t n l).map fun r => (m :: r.1, r.2)

/-! ### Blocks (R223, R224) -/

/-- Bytes of a list of bits, first bit most significant. -/
def toBytes : Nat → List Bool → List Byte
  | 0, _ => []
  | n + 1, l => BitVec.ofNat 8 (((List.range 8).map fun i => b2n (l.getD i false) * 2 ^ (7 - i)).foldl (· + ·) 0) :: toBytes n (l.drop 8)

def ofBytes (bs : List Byte) : List Bool := bs.flatMap fun b => msb 8 b.toNat

/-- T of R224. -/
def safeBits (d b : Nat) : Nat := min d ((8 * b - 2) / 128)

/-- The bits of a safe block. -/
def safeBlock (d b : Nat) (xs : List Nat) : List Bool :=
  let t := safeBits d b
  msb 2 1 ++ xs.flatMap fun x => msb t (x / 2 ^ (d - t))

/-- The sample a safe block gives back. -/
def safeSample (d b v : Nat) : Nat :=
  let s := d - safeBits d b
  v * 2 ^ s + (if s = 0 then 0 else 2 ^ (s - 1))

/-- TBL of a table. -/
def Table.tbl : Table → Nat
  | .rice t => t
  | .dyn _ => 8

/-- Bits of a block with these values under a table, none when a symbol has no code. -/
def Table.size (t : Table) (ms : List Nat) : Option Nat :=
  ms.foldl (fun a m => match a, t.len m with
    | some a, some n => some (a + n)
    | _, _ => none) (some 10)

/-- The tables a block may use (R226). -/
def tables (dyn : Option (List (Nat × Nat × Nat))) : List Table :=
  (List.range 8).map Table.rice ++ (match dyn with
    | none => []
    | some c => [.dyn c])

/-- The table with the fewest bits among those that fit, the lowest TBL on a tie (R226). -/
def best (b : Nat) (ts : List Table) (ms : List Nat) : Option (Table × Nat) :=
  ts.foldl (fun a t => match t.size ms with
    | none => a
    | some n => if 8 * b < n then a else match a with
      | none => some (t, n)
      | some (u, k) => if n < k then some (t, n) else some (u, k)) none

/-- The first q from `q` on, of `n` left to try, for which a table fits: (q, table, values). -/
def search (d b ph pv : Nat) (ts : List Table) (xs : List Nat) : Nat → Nat → Option (Nat × Table × List Nat)
  | 0, _ => none
  | n + 1, q =>
    let ms := (code d q ph pv 0 [] xs).1
    match best b ts ms with
    | some (t, _) => some (q, t, ms)
    | none => search d b ph pv ts xs n (q + 1)

/-- A coded block: its bits, and the values m unless it is a safe block. -/
def encodeBlock (d b ph pv : Nat) (dyn : Option (List (Nat × Nat × Nat))) (xs : List Nat) : List Bool × Option (List Nat) :=
  match search d b ph pv (tables dyn) xs (min 15 (d - 1) + 1) 0 with
  | some (q, t, ms) => (msb 2 0 ++ msb 4 q ++ msb 4 t.tbl ++ ms.flatMap fun m => (t.bits m).getD [], some ms)
  | none => (safeBlock d b xs, none)

/-- Decode a block of `b` bytes to its 128 samples in raster order; none is a syntax error (R223, R224, R229). -/
def decodeBlock (d b ph pv : Nat) (dyn : Option (List (Nat × Nat × Nat))) (l : List Bool) : Option (List Nat) :=
  match take 2 l with
  | some (0, l) => match take 4 l with
    | none => none
    | some (q, l) => match take 4 l with
      | none => none
      | some (t, l) =>
        let table : Option Table := if t < 8 then some (.rice t) else if t = 8 then dyn.map .dyn else none
        match table with
        | none => none
        | some t =>
          if min 15 (d - 1) < q then none
          else match takeAll t 128 l with
            | none => none
            | some (ms, rest) =>
              if rest.any id then none else some ((rebuild d q ph pv 0 [] ms).reverse.map Int.toNat)
  | some (1, l) =>
    let t := safeBits d b
    let vs := (List.range 128).map fun i => take t (l.drop (t * i))
    if (l.drop (t * 128)).any id then none
    else some (vs.map fun v => safeSample d b ((v.getD (0, [])).1))
  | _ => none

/-! ### Bands (R225, R227) -/

/-- The table that the symbol counts of the band before give (R227). -/
def dynLengths (counts : List Nat) : Option (List Nat) :=
  let t := counts.foldl (· + ·) 0
  if t = 0 then none
  else
    let c := (List.range 29).map fun s => max 1 (counts.getD s 0 * 16384 / t)
    let t2 := c.foldl (· + ·) 0
    some (c.map (fun v => ((List.range 16).find? fun n => t2 ≤ v * 2 ^ n).getD 15) ++ [0, 0, 0])

/-- Counts of the symbols of R222 over the values of a band. -/
def symbolCounts (ms : List Nat) : List Nat :=
  let ss := ms.map fun m => (symbol m).1
  (List.range 29).map fun s => (ss.filter (· = s)).length

/-- log2 of a period. -/
def lg (p : Nat) : Nat := Nat.log2 p

/-- The 32 B band header. -/
def bandHeader (band flags ratio ph pv d cid : Nat) (L : List Nat) : List Byte :=
  leBytes 4 0x444E4142 ++ leBytes 2 band ++ leBytes 1 flags ++ leBytes 1 (ratio + 8 * lg ph + 32 * lg pv) ++
    ((List.range 16).flatMap fun i => leBytes 1 (L.getD (2 * i) 0 + 16 * L.getD (2 * i + 1) 0)) ++
    leBytes 1 d ++ zeros 3 ++ leBytes 4 cid

/-- What an encoder reports: blocks coded, blocks in safe mode, blocks recoded under R228. -/
structure Report where
  blocks : Nat := 0
  safe : Nat := 0
  verify : Nat := 0
deriving DecidableEq, Repr

/-- The 128 samples of block (j, i) of a band that starts at row `y0`. -/
def blockSamples (at_ : Nat → Nat → Nat) (y0 j i : Nat) : List Nat :=
  (List.range 128).map fun k => at_ (y0 + 4 * j + k / 32) (32 * i + k % 32)

/-- Code the bands from `band` on. `bad` names the blocks (counted from 0 in the frame) whose self-verification found a
difference (R228); `at_` reads the padded frame. -/
def encodeBands (w h d ratio ph pv : Nat) (dynEn : Bool) (cid : Nat) (bad : List Nat) (at_ : Nat → Nat → Nat) (b : Nat) :
    Nat → Nat → Option (List Nat) → List Byte × Report
  | 0, _, _ => ([], {})
  | n + 1, band, counts =>
    let L := if dynEn ∧ band ≠ 0 then counts.bind dynLengths else none
    let dyn := L.map canonical
    let rows := ceilDiv (min 64 (h - 64 * band)) 4
    let cols := ceilDiv w 32
    let first := 16 * band * cols
    let coded := (List.range (rows * cols)).map fun k =>
      let xs := blockSamples at_ (64 * band) (k / cols) (k % cols)
      if (first + k) ∈ bad then (safeBlock d b xs, none) else encodeBlock d b ph pv dyn xs
    let safe := (coded.filter fun c => c.2.isNone).length
    let recoded := (bad.filter fun k => first ≤ k ∧ k < first + rows * cols).length
    let flags := b2n L.isSome + (if safe = 0 then 0 else 2) + (if recoded = 0 then 0 else 4)
    let body := bandHeader band flags ratio ph pv d cid (L.getD []) ++ coded.flatMap fun c => toBytes b c.1
    let r := encodeBands w h d ratio ph pv dynEn cid bad at_ b n (band + 1)
      (some (symbolCounts (coded.flatMap fun c => c.2.getD [])))
    (body ++ leBytes 4 (crc32c body) ++ r.1,
      ⟨r.2.blocks + rows * cols, r.2.safe + (safe - recoded), r.2.verify + recoded⟩)

/-- The bands of RATIO NONE: rows of 16-bit containers, then their CRC (R225). -/
def plainBands (w h : Nat) (at_ : Nat → Nat → Nat) : List Byte :=
  (List.range (ceilDiv h 64)).flatMap fun band =>
    let body := (List.range (min 64 (h - 64 * band))).flatMap fun r => (List.range w).flatMap fun x => leBytes 2 (at_ (64 * band + r) x)
    body ++ leBytes 4 (crc32c body)

/-- Code a plane. -/
def encode (w h d ratio ph pv : Nat) (dynEn : Bool) (cid : Nat) (bad : List Nat) (at_ : Nat → Nat → Nat) : List Byte × Report :=
  if ratio = NONE then (plainBands w h at_, {})
  else encodeBands w h d ratio ph pv dynEn cid bad (padded w h ph pv at_) ((budget d ratio).getD 20) (ceilDiv h 64) 0 none

/-! ### Decoding (R229, R231) -/

/-- Why a band fails. -/
inductive Bad where
  | crc | syntax_
deriving DecidableEq, Repr

/-- Decode one band of `n` rows; its bytes include the CRC. -/
def decodeBand (w n d ratio ph pv cid band b : Nat) (bs : List Byte) : Except Bad (List (List Nat)) :=
  let body := bs.take (bs.length - 4)
  let crc := ofLe (bs.drop (bs.length - 4))
  if ratio = NONE then
    if crc32c body = crc then
      .ok ((List.range n).map fun r => (List.range w).map fun x => ofLe ((body.drop (2 * (r * w + x))).take 2))
    else .error .crc
  else
    let u := fun (o k : Nat) => ofLe ((bs.drop o).take k)
    let flags := u 6 1
    let L := (List.range 32).map fun s => bits (u (8 + s / 2) 1) (4 * (s % 2)) 4
    let kraft := (L.map fun l => if l = 0 then 0 else 2 ^ (15 - l)).foldl (· + ·) 0
    if u 0 4 ≠ 0x444E4142 ∨ u 4 2 ≠ band ∨ u 7 1 ≠ ratio + 8 * lg ph + 32 * lg pv ∨ u 0x18 1 ≠ d then .error .syntax_
    else if crc32c body ≠ crc then .error .crc
    else if 8 ≤ flags ∨ u 0x19 3 ≠ 0 ∨ u 0x1C 4 ≠ cid % 2 ^ 32 then .error .syntax_
    else if bitAt flags 0 ∧ (2 ^ 15 < kraft ∨ (L.drop 29).any (· ≠ 0)) then .error .syntax_
    else if !bitAt flags 0 ∧ L.any (· ≠ 0) then .error .syntax_
    else
      let dyn := if bitAt flags 0 then some (canonical L) else none
      let cols := ceilDiv w 32
      let blocks := (List.range (ceilDiv n 4 * cols)).map fun k =>
        decodeBlock d b ph pv dyn (ofBytes ((bs.drop (32 + b * k)).take b))
      if blocks.any (·.isNone) then .error .syntax_
      else .ok ((List.range n).map fun r => (List.range w).map fun x =>
        ((blocks.getD (r / 4 * cols + x / 32) none).getD []).getD (32 * (r % 4) + x % 32) 0)

/-- Bytes of a band of `n` rows. -/
def bandBytes (w n ratio b : Nat) : Nat := if ratio = NONE then n * w * 2 + 4 else 36 + b * ceilDiv w 32 * ceilDiv n 4

/-- What decoding a plane gives: its rows, and the failed bands in order. -/
structure Decoded where
  rows : List (List Nat) := []
  failed : List (Nat × Bad) := []

/-- Decode a plane; a failed band is concealed from the rows above (R231). -/
def decode (w h d ratio ph pv cid : Nat) (bs : List Byte) : Decoded :=
  let b := (budget d ratio).getD 20
  (List.range (ceilDiv h 64)).foldl (fun a band =>
    let n := min 64 (h - 64 * band)
    let part := (bs.drop (band * bandBytes w 64 ratio b)).take (bandBytes w n ratio b)
    match decodeBand w n d ratio ph pv cid band b part with
    | .ok rows => { a with rows := a.rows ++ rows }
    | .error e =>
      { rows := (List.range n).foldl (fun rs _ =>
          rs ++ [if rs.length < pv then List.replicate w 0 else rs.getD (rs.length - pv) []]) a.rows,
        failed := a.failed ++ [(band, e)] }) {}

end Sys2Proof.Frc
end

