-- ==== Sys2Proof/Machine/Sets.lean ====
section
/-! DEFINITION. Sets: stripe sets and magazines: addresses, unit headers, labels, redundancy, encryption, placing data and
writing stripes (spec 08 R240 to R252). -/

namespace Sys2Proof.Machine

/-- Payload bytes of a unit (R243). -/
def PAY : Nat := 1044480

def Dev.setReg (d : Dev) (s : Nat) (F : Fld) : Nat := d.rd (setAt s).1 F (setAt s).2

def Dev.setSetReg (d : Dev) (s : Nat) (F : Fld) (v : Nat) : Dev := d.wr (setAt s).1 F v (setAt s).2

def Dev.setSset (d : Dev) (s : Nat) (x : StripeSet) : Dev :=
  { d with pip := { d.pip with sets := Sparse.set d.pip.sets s x {} } }

def Dev.updSset (d : Dev) (s : Nat) (f : StripeSet → StripeSet) : Dev := d.setSset s (f (d.sset s))

def Dev.mag (d : Dev) (p : Nat) : Magazine := Sparse.get d.pip.mags p {}

def Dev.setMag (d : Dev) (p : Nat) (x : Magazine) : Dev :=
  { d with pip := { d.pip with mags := Sparse.set d.pip.mags p x {} } }

def Dev.updMag (d : Dev) (p : Nat) (f : Magazine → Magazine) : Dev := d.setMag p (f (d.mag p))

/-- States of a set and of a magazine (spec 08, STR and MAG registers). -/
def OPTIMAL : Nat := 2
def DEGRADED : Nat := 3
def REBUILDING : Nat := 4
def FAILED : Nat := 5
def KEY_WAIT : Nat := 6
def ABSENT : Nat := 0
def BLANK : Nat := 2
def MEMBER : Nat := 3
def SPARE : Nat := 4
def STALE : Nat := 6
def MFAILED : Nat := 7
def UNSUITABLE : Nat := 8

def Dev.setState (d : Dev) (s : Nat) : Nat := d.setReg s Reg.STR.STATE

/-- Does the set take data: OPTIMAL, DEGRADED or REBUILDING? -/
def Dev.setUp (d : Dev) (s : Nat) : Bool := OPTIMAL ≤ d.setState s && d.setState s ≤ REBUILDING

def Dev.setOwner (d : Dev) (s : Nat) : PartId := d.ownerOf 7 s

def Dev.magState (d : Dev) (p : Nat) : Nat := d.rd (Pg.MAG p) Reg.MAG.STATE

/-- A change of a magazine's STATE (MAGn.INT_STAT bit 0). -/
def Dev.setMagState (d : Dev) (p v : Nat) : Dev :=
  if d.magState p = v then d else (d.wr (Pg.MAG p) Reg.MAG.STATE v).raise (Pg.MAG p) 0

/-! ### Blocks -/

/-- Member index of data unit `k` of stripe `t` (R243). -/
def StripeSet.memberOf (x : StripeSet) (t k : Nat) : Nat := (t % (x.n + 1) + 1 + k) % (x.n + 1)

/-- First LBA of unit `t` (R243). -/
def unitLba (t : Nat) : Nat := 256 + 256 * t

def zeroBlock : List Byte := zeros 4096

def Magazine.block (m : Magazine) (lba : Nat) : List Byte := Sparse.get m.media lba zeroBlock

def Dev.magWrite (d : Dev) (p lba : Nat) (bs : List Byte) : Dev :=
  d.updMag p fun m => { m with media := Sparse.set m.media lba (fit 4096 bs) zeroBlock, bad := m.bad.filter (· ≠ lba) }

/-- An LBA of member `m` as its drive gives it: none when the member is not live or the drive reports an error. -/
def Dev.direct (d : Dev) (s m lba : Nat) : Option (List Byte) :=
  let x := d.sset s
  let p := x.members.getD m 0
  if m ∈ x.live ∧ lba ∉ (d.mag p).bad then some ((d.mag p).block lba) else none

def xorBytes (a b : List Byte) : List Byte := List.zipWith (· ^^^ ·) a b

/-- The same LBA rebuilt as the XOR of the other members' (R251). -/
def Dev.rebuilt (d : Dev) (s m lba : Nat) : Option (List Byte) :=
  let x := d.sset s
  ((List.range (x.n + 1)).filter (· ≠ m)).foldl (fun a i => match a, d.direct s i lba with
    | some a, some b => some (xorBytes a b)
    | _, _ => none) (some zeroBlock)

/-- An LBA of a member, directly or from redundancy. -/
def Dev.blockOf (d : Dev) (s m lba : Nat) : Option (List Byte) :=
  match d.direct s m lba with
  | some b => some b
  | none => d.rebuilt s m lba

/-- AES-256-XTS of a payload LBA; the directory of extent 0, which is entry headers alone, stays in clear (R252). -/
def StripeSet.crypt (x : StripeSet) (enc : Bool) (m lba : Nat) (b : List Byte) : List Byte :=
  match x.enc && unitLba 64 ≤ lba, x.key with
  | true, some k => Crypto.xts enc (k.take 32) (k.drop 32) (lba + m * 2 ^ 40) b
  | _, _ => b

/-- Is a block a unit header of this set (R244)? -/
def StripeSet.headed (x : StripeSet) (h : List Byte) : Bool :=
  ofLe (h.take 4) = 0x50525453 && ofLe ((h.drop 8).take 8) = x.setId && ofLe ((h.drop 0xFFC).take 4) = crc32c (h.take 0xFFC)

/-- The header of data unit `k` of stripe `t`, if the unit carries one of this set: the member's, or that which redundancy
gives. -/
def Dev.unitHeader (d : Dev) (s t k : Nat) : Option (List Byte) :=
  let x := d.sset s
  let m := x.memberOf t k
  match (d.direct s m (unitLba t)).filter x.headed with
  | some h => some h
  | none => (d.rebuilt s m (unitLba t)).filter x.headed

/-- Payload LBA `j` of data unit `k` of stripe `t` in clear; a stripe never written reads as zeros. `again` takes the
redundancy instead of the member itself. -/
def Dev.payload (d : Dev) (s t k j : Nat) (again : Bool := false) : Option (List Byte) :=
  let x := d.sset s
  let m := x.memberOf t k
  let lba := unitLba t + 1 + j
  if (d.unitHeader s t k).isNone then (if (d.blockOf s m (unitLba t)).isNone then none else some zeroBlock)
  else ((if again then d.rebuilt s m lba else d.blockOf s m lba)).map (x.crypt false m lba)

/-- Stripe, data unit and payload LBA of set data address `a` (R244). -/
def StripeSet.at_ (x : StripeSet) (a : Nat) : Nat × Nat × Nat :=
  (a / PAY / x.n, a / PAY % x.n, a % PAY / 4096)

/-- Lay the part of `bs`, which stands at address `a`, that falls into the block at address `base` over the block. -/
def overlay (base : Nat) (block : List Byte) (a : Nat) (bs : List Byte) : List Byte :=
  if a + bs.length ≤ base ∨ base + 4096 ≤ a then block
  else if a ≤ base then
    let p := (bs.drop (base - a)).take 4096
    p ++ block.drop p.length
  else
    let p := bs.take (4096 - (a - base))
    block.take (a - base) ++ p ++ block.drop (a - base + p.length)

/-- The 4 KiB block at address `a` (aligned): the magazines' data under the data still pending; a block that is pending as a
whole needs no magazine (R239, R310). -/
def Dev.dataBlock (d : Dev) (s a : Nat) (again : Bool := false) : Option (List Byte) :=
  let (t, k, j) := (d.sset s).at_ a
  let here := d.pip.places.filter fun p => p.set = s
  let under := if here.any fun p => p.addr ≤ a && a + 4096 ≤ p.addr + p.bytes.length then some zeroBlock else d.payload s t k j again
  under.map fun b => here.foldl (fun b p => overlay a b p.addr p.bytes) b

/-- Concatenate, or fail. -/
def joinAll : List (Option (List Byte)) → Option (List Byte)
  | [] => some []
  | none :: _ => none
  | some b :: r => (joinAll r).map (b ++ ·)

/-- `n` bytes of a set from data address `a`. -/
def Dev.setBytes (d : Dev) (s a n : Nat) (again : Bool := false) : Option (List Byte) :=
  let lo := a / 4096
  let hi := ceilDiv (a + n) 4096
  (joinAll ((seqFrom lo (hi - lo)).map fun i => d.dataBlock s (4096 * i) again)).map fun b => (b.drop (a % 4096)).take n

/-- The runs (address, length) that `n` bytes from address `a` take in a list of extents (R244): a run ends with its
extent and goes on at the start of the next of the list. -/
def StripeSet.runs (x : StripeSet) (exts : List Nat) : Nat → Nat → Nat → List (Nat × Nat)
  | 0, _, _ => []
  | fuel + 1, a, n =>
    let size := 64 * x.n * PAY
    let e := a / size
    let room := size * (e + 1) - a
    if n ≤ room then (if n = 0 then [] else [(a, n)])
    else match (exts.dropWhile (· ≠ e)).drop 1 with
      | [] => [(a, room)]
      | e' :: _ => (a, room) :: x.runs exts fuel (size * e') (n - room)

/-- Bytes over runs of a set. -/
def Dev.runBytes (d : Dev) (s : Nat) (rs : List (Nat × Nat)) (again : Bool := false) : Option (List Byte) :=
  joinAll (rs.map fun r => d.setBytes s r.1 r.2 again)

/-! ### The pending window (R21, R235, R245) -/

/-- Bytes a coded or plain plane needs (R235). -/
def codedSize (f : Frame) (ratio : Nat) : Nat := Frc.planeSize f.cfgW f.cfgH f.hdr.depth ratio

/-- Bytes the pending window holds: data placed, planes being coded or coded, and WRITE data on its way in. -/
def Dev.pendingUsed (d : Dev) : Nat :=
  (d.hst.cmds.foldl (fun a c => if c.2.phase = .moving ∧ opcode c.2.entry = 0x81 ∧ storeEntry c.2.entry = true then
    a + dwAt c.2.entry 6 else a) 0) +
  (d.pip.places.foldl (fun a p => a + p.bytes.length) 0) +
  (d.pip.takes.foldl (fun a t => a + t.2.frames.foldl (fun a x =>
    if x.coding = .notYet then a else match d.frame? x.frame with
      | some f => a + codedSize f t.2.ratio
      | none => a) 0) 0)

/-- Is there room for `n` more bytes in the 256 MiB window? -/
def Dev.pendingRoom (d : Dev) (n : Nat) : Bool := d.pendingUsed + n ≤ 2 ^ 28

/-- PENDING_MIB of a set. -/
def Dev.pendingMib (d : Dev) (s : Nat) : Nat :=
  evenDiv ((d.pip.places.filter fun p => p.set = s).foldl (fun a p => a + p.bytes.length) 0) (2 ^ 20)

/-- Split data at stripe boundaries. -/
def StripeSet.pieces (x : StripeSet) : Nat → Nat → List Byte → List (Nat × List Byte)
  | 0, _, _ => []
  | fuel + 1, a, bs =>
    let room := x.n * PAY - a % (x.n * PAY)
    if bs = [] then [] else (a, bs.take room) :: x.pieces fuel (a + room) (bs.drop room)

/-- Place data over runs of a set: journalled piece by piece (R330). `p` carries what the pieces are for. -/
def Dev.place_ (d : Dev) (p : Place) : List (Nat × Nat) → List Byte → Dev
  | [], _ => d
  | r :: rs, bs =>
    let x := d.sset p.set
    let ps := x.pieces (r.2 / (x.n * PAY) + 2) r.1 (bs.take r.2)
    let d := ps.foldl (fun d e =>
      let (t, k, _) := x.at_ e.1
      let d := { d with pip := { d.pip with places := d.pip.places ++ [{ p with addr := e.1, bytes := e.2 }] } }
      d.journal p.part p.asn (.place p.set t k (e.1 % PAY) e.2.length (Config.pendingWindow d.jnl.nextSeq).toNat)) d
    d.place_ p rs (bs.drop r.2)

/-! ### Extents and the directory (R244, R248) -/

/-- Extents of a set, within 48-bit addresses (R244). -/
def StripeSet.extentCount (x : StripeSet) : Nat := min (x.stripes / 64) (2 ^ 48 / (64 * x.n * PAY))

def StripeSet.extentFree (x : StripeSet) (e : Nat) : Bool := e ≠ 0 && e < x.extentCount && !x.extents.any fun y => y.1 = e

/-- The lowest free extent above the last allocation, wrapping to 1 (R244). -/
def StripeSet.defaultExtent (x : StripeSet) : Option Nat :=
  let free := (List.range x.extentCount).filter x.extentFree
  match free.find? (x.lastExtent < ·) with
  | some e => some e
  | none => free.head?

/-- EXTENTS and FREE_EXTENTS. -/
def Dev.showExtents (d : Dev) (s : Nat) : Dev :=
  let x := d.sset s
  (d.setSetReg s Reg.STR.EXTENTS x.extentCount).setSetReg s Reg.STR.FREE_EXTENTS
    ((List.range x.extentCount).filter x.extentFree).length

/-- Give an extent of a set to a user. -/
def Dev.giveExtent (d : Dev) (s e user : Nat) : Dev :=
  (d.updSset s fun x => { x with extents := Assoc.put x.extents e user, lastExtent := e }).showExtents s

/-- What waits in the pending window for extents goes with them, and so do its PLACE records. -/
def Dev.dropPlaces (d : Dev) (s : Nat) (es : List Nat) : Dev :=
  let size := 64 * (d.sset s).n * PAY
  { d with
    pip := { d.pip with places := d.pip.places.filter fun p => !(p.set = s && es.contains (p.addr / size)) },
    jnl := { d.jnl with ledger := d.jnl.ledger.filter fun r => match r.body with
      | .place k t _ _ _ _ => !(k = s && es.contains (t / 64))
      | _ => true } }

/-- Deallocate extents: their blocks read as zeros, and nothing that was placed in them stays pending (R237, R240, R310). -/
def Dev.freeExtents (d : Dev) (s : Nat) (es : List Nat) : Dev :=
  let d := d.dropPlaces s es
  let x := d.sset s
  let d := d.setSset s { x with extents := x.extents.filter fun e => e.1 ∉ es }
  let gone := fun lba => 256 ≤ lba && es.any fun e => 64 * e ≤ (lba - 256) / 256 && (lba - 256) / 256 < 64 * e + 64
  (x.members.foldl (fun d p => d.updMag p fun m => { m with media := m.media.filter fun b => !gone b.1 }) d).showExtents s

/-- The 64 B directory entry of a Take (R248). The manual names its fields and gives no offsets. -/
def Take.dirEntry (t : Take) : List Byte :=
  let b := leBytes 8 t.takeId ++ leBytes 1 t.state ++ leBytes 1 t.planes ++ zeros 2 ++ leBytes 4 (t.extents.headD 0) ++
    leBytes 4 t.base ++ leBytes 4 t.maxFrames ++ leBytes 8 t.lastSeg ++ leBytes 4 t.count
  let b := fit 60 b
  b ++ leBytes 4 (crc32c b)

/-- A number in bytes. -/
def uAt (b : List Byte) (o n : Nat) : Nat := ofLe ((b.drop o).take n)

/-- Directory entries of a set with their slot: every 64 B of extent 0 with a valid CRC. -/
def Dev.directory (d : Dev) (s : Nat) : List (Nat × List Byte) :=
  let x := d.sset s
  ((List.range 64).flatMap fun t => (List.range x.n).flatMap fun k =>
    if (d.unitHeader s t k).isNone ∧ !(d.pip.places.any fun p => p.set = s && p.dir && p.addr / PAY = t * x.n + k) then []
    else (List.range 255).flatMap fun j =>
      let a := (t * x.n + k) * PAY + 4096 * j
      match d.dataBlock s a with
      | none => []
      | some b => (List.range 64).map fun i => ((a + 64 * i) / 64, (b.drop (64 * i)).take 64)).filter fun e =>
    uAt e.2 0 8 ≠ 0 && uAt e.2 60 4 = crc32c (e.2.take 60)

/-- Write a Take's directory entry (extent 0). -/
def Dev.putDirectory (d : Dev) (n : Nat) : Dev :=
  match Assoc.find d.pip.takes n with
  | none => d
  | some t =>
    let d := d.place_ { set := t.set, addr := 0, bytes := [], part := t.owner, take := n, dir := true } [(64 * t.slot, 64)]
      t.dirEntry
    d.journal t.owner 0 (.takeState t.takeId t.set t.state t.dirEntry)

/-! ### The Frame Locator Table (R238) -/

def EMPTY : Nat := 0
def PENDING : Nat := 1
def DURABLE : Nat := 2
def MISSING_DROPPED : Nat := 3
def MISSING_REFUSED : Nat := 4
def MISSING_BEHIND : Nat := 5
def MISSING_SETFULL : Nat := 6
def MISSING_GIVEUP : Nat := 7
def LOST : Nat := 8

def Dev.fltAt (d : Dev) (i : Nat) : FltEntry := Sparse.get d.pip.flt i {}

/-- The 32 B of a table entry. -/
def FltEntry.bytes (e : FltEntry) : List Byte :=
  leBytes 6 e.cid ++ leBytes 1 e.plane ++ leBytes 1 e.status ++ leBytes 6 e.addr ++ leBytes 1 e.set ++ leBytes 1 e.flags ++
    leBytes 4 e.length ++ leBytes 4 e.crc ++ leBytes 8 e.asn

/-- Change a table entry: journalled (R238). -/
def Dev.setFlt (d : Dev) (part i : Nat) (e : FltEntry) : Dev :=
  ({ d with pip := { d.pip with flt := Sparse.set d.pip.flt i e {} } } : Dev).journal part e.asn (.fltUpdate i e.bytes)

/-- Is an entry final: DURABLE or missing (R248)? -/
def finalStatus (st : Nat) : Bool := DURABLE ≤ st && st ≤ MISSING_GIVEUP

/-- Free entries from `i` on. -/
def Dev.fltTaken (d : Dev) : List (Nat × Nat) := (d.pip.takes.filter fun t => t.2.state ≠ 2).map fun t => (t.2.base, t.2.maxFrames * t.2.planes)

/-- The lowest start of `n` consecutive free entries. -/
def Dev.fltRange (d : Dev) (n : Nat) : Option Nat :=
  let taken := d.fltTaken
  let fits := fun a => a + n ≤ 4194304 && taken.all fun r => a + n ≤ r.1 || r.1 + r.2 ≤ a
  ((0 :: taken.map fun r => r.1 + r.2).filter fits).foldl (fun a x => some (min (a.getD x) x)) (none : Option Nat)

/-- Largest free range of the table. -/
def Dev.fltFreeMax (d : Dev) : Nat :=
  let taken := d.fltTaken
  ((0 :: taken.map fun r => r.1 + r.2).filter fun a => a ≤ 4194304 && taken.all fun r => r.1 + r.2 ≤ a || a < r.1 || r.2 = 0).foldl
    (fun m a => max m ((taken.foldl (fun e r => if a ≤ r.1 then min e r.1 else e) 4194304) - a)) 0

/-! ### Labels (R251) -/

/-- The first four bytes of the encryption of a zero block under key 1 (R252). -/
def kcvOf (k : List Byte) : Nat :=
  ofLe (((Crypto.aesEnc (Crypto.roundKeys ((k.take 32).map (·.toNat))) (List.replicate 16 0)).take 4).map fun b => BitVec.ofNat 8 b)

/-- The label of member `m` (R243). -/
def Dev.label (d : Dev) (s m : Nat) : List Byte :=
  let x := d.sset s
  let digests := x.members.flatMap fun p => leBytes 8 (crc32c (d.mag p).serial)
  let b := layout 0xFFC [(0, leBytes 4 0x4C534553), (8, leBytes 8 x.setId), (0x10, leBytes 4 (d.setReg s Reg.STR.EPOCH)),
    (0x14, leBytes 1 m ++ leBytes 1 x.n ++ leBytes 1 (b2n x.enc)), (0x18, leBytes 4 x.stripes),
    (0x1C, leBytes 4 x.kcv), (0x20, digests)]
  b ++ leBytes 4 (crc32c b)

/-- Write the labels of every live member: LBA 0 and LBA 128. -/
def Dev.writeLabels (d : Dev) (s : Nat) : Dev :=
  let x := d.sset s
  x.live.foldl (fun d m => let p := x.members.getD m 0; (d.magWrite p 0 (d.label s m)).magWrite p 128 (d.label s m)) d

/-- A valid label of a magazine: LBA 0, or else LBA 128. -/
def Magazine.label (m : Magazine) : Option (List Byte) :=
  let ok := fun (b : List Byte) => ofLe (b.take 4) = 0x4C534553 ∧ ofLe ((b.drop 0xFFC).take 4) = crc32c (b.take 0xFFC)
  if ok (m.block 0) then some (m.block 0) else if ok (m.block 128) then some (m.block 128) else none

/-! ### Writing stripes (R245, R246) -/

/-- Data of a stripe that STRIPE_WRITE sent out. -/
def Dev.going (d : Dev) (s t : Nat) : List Place :=
  let x := d.sset s
  d.pip.places.filter fun p => p.set = s && p.going && p.addr / (x.n * PAY) = t

/-- The unit header (R244): ASNs of the data, those already there included. -/
def Dev.newHeader (d : Dev) (s t k : Nat) (ps : List Place) (pay : List Byte) : List Byte :=
  let x := d.sset s
  let mine := ps.filter fun p => p.addr / PAY = t * x.n + k || ((p.addr + p.bytes.length - 1) / PAY ≥ t * x.n + k && p.addr / PAY ≤ t * x.n + k)
  let old := d.unitHeader s t k
  let was := fun (o n : Nat) => match old with
    | some h => ofLe ((h.drop o).take n)
    | none => 0
  let asns := ((mine.map (·.asn)) ++ [was 0x18 8, was 0x20 8]).filter (· ≠ 0)
  let lo := asns.foldl (fun a x => if a = 0 then x else min a x) 0
  let hi := asns.foldl max 0
  let part := match mine.getLast? with
    | some p => p.part
    | none => was 0x28 1
  let take := match mine.find? (fun p => p.take ≠ 0 && !p.dir) with
    | some p => match Assoc.find d.pip.takes p.take with
      | some t => t.takeId
      | none => 0
    | none => was 0x30 8
  let b := layout 0xFFC [(0, leBytes 4 0x50525453 ++ leBytes 2 0x0100 ++ leBytes 1 (x.memberOf t k) ++ leBytes 1 k),
    (8, leBytes 8 x.setId), (0x10, leBytes 4 (d.setReg s Reg.STR.EPOCH)), (0x14, leBytes 4 t), (0x18, leBytes 8 lo),
    (0x20, leBytes 8 hi), (0x28, leBytes 1 part), (0x30, leBytes 8 take), (0x38, leBytes 4 (was 0x38 4 + 1)),
    (0x3C, leBytes 4 (crc32c pay))]
  b ++ leBytes 4 (crc32c b)

/-- The 256 LBAs of data unit `k` of stripe `t` as they will stand: header, then payload as stored. -/
def Dev.newUnit (d : Dev) (s t k : Nat) : List (List Byte) :=
  let x := d.sset s
  let m := x.memberOf t k
  let ps := d.going s t
  let blocks := (List.range 255).map fun j =>
    let a := (t * x.n + k) * PAY + 4096 * j
    let b := ps.foldl (fun b p => overlay a b p.addr p.bytes) ((d.payload s t k j).getD zeroBlock)
    x.crypt true m (unitLba t + 1 + j) b
  d.newHeader s t k ps blocks.flatten :: blocks

/-- Every unit of stripe `t`, by member index: data units and parity (R243). -/
def Dev.newStripe (d : Dev) (s t : Nat) : List (Nat × List (List Byte)) :=
  let x := d.sset s
  let us := (List.range x.n).map fun k => (x.memberOf t k, d.newUnit s t k)
  let parity := (List.range 256).map fun j => us.foldl (fun a u => xorBytes a (u.2.getD j zeroBlock)) zeroBlock
  (t % (x.n + 1), parity) :: us

/-- Write a stripe to every live member and to a spare being rebuilt (R245, R251). -/
def Dev.putStripe (d : Dev) (s t : Nat) : Dev :=
  let x := d.sset s
  (d.newStripe s t).foldl (fun d u =>
    let put := fun (d : Dev) (p : Nat) => u.2.zipIdx.foldl (fun d b => d.magWrite p (unitLba t + b.2) b.1) d
    if u.1 ∈ x.live then put d (x.members.getD u.1 0)
    else match x.rebuild with
      | some p => put d p
      | none => d) d

end Sys2Proof.Machine
end

