-- ==== Sys2Proof/Machine/Takes.lean ====
section
/-! DEFINITION. Takes: indexing, coding, committing and closing the frames of a Take, durability of what is placed, and
member failures (spec 08 R233 to R238, R244 to R252; spec 11 R313). -/

namespace Sys2Proof.Machine

def Dev.take? (d : Dev) (n : Nat) : Option Take := Assoc.find d.pip.takes n

def Dev.setTake (d : Dev) (n : Nat) (t : Take) : Dev :=
  { d with pip := { d.pip with takes := Assoc.put d.pip.takes n t } }

def Dev.updTake (d : Dev) (n : Nat) (f : Take → Take) : Dev :=
  { d with pip := { d.pip with takes := Assoc.upd d.pip.takes n f } }

/-! ### Bindings (R209) -/

def Dev.rend? (d : Dev) (r : Nat) : Option Rend := Assoc.find d.pip.rends r

/-- The binding of a rendition that governs a frame: fixed when its first pass started, else the present one, as long as
a pass of the frame is still to come (R209, R210). -/
def Dev.bindOf (d : Dev) (f : Frame) (r : Nat) : Option Rend :=
  match Assoc.find f.binds r with
  | some b => some b
  | none => match d.rend? r with
    | some b => if b.ctx = f.ctx ∧ b.enable ∧ (f.firstOut.isNone ∨ (d.pip.jobs.any fun j => j.frame = f.key && j.bind.rend = r) = true)
        then some b else none
    | none => none

/-- Does a frame's binding of a rendition give it a MEMORY sink? -/
def Dev.records (d : Dev) (f : Frame) (r : Nat) : Bool :=
  match d.bindOf f r with
  | some b => b.sinks.any fun s => s.kind = MEMORY
  | none => false

/-- The open Take that records a context. -/
def Dev.openTake (d : Dev) (c : Nat) : Option (Nat × Take) := d.pip.takes.find? fun e => e.2.ctx = c && e.2.state = 0

/-- Statuses of spec 08. -/
def TAKE_PARAM : Status := .code 0x60 false
def TAKE_EXISTS : Status := .code 0x61 false
def TAKE_UNKNOWN : Status := .code 0x62 false
def TAKE_BUSY : Status := .code 0x63 false
def TAKE_SET : Status := .code 0x64 false
def TAKE_FLT_FULL : Status := .code 0x65 false
def TAKE_CAPACITY : Status := .code 0x66 false
def FRAME_MISSING : Status := .code 0x67 false
def PLANE_ABSENT : Status := .code 0x68 false
def READ_SPACE : Status := .code 0x69 false
def READ_LOST : Status := .code 0x6A false
def SET_FAILED : Status := .code 0x6B false
def TAKE_GAPS : Status := .code 0x70 true
def READ_REPAIRED : Status := .code 0x71 true

/-- TAKE_ID and set as event DATA. -/
def Take.data (t : Take) : List Byte := leBytes 8 t.takeId ++ leBytes 1 t.set

/-- An event of a Take. -/
def Dev.takeEvent (d : Dev) (t : Take) (cls code : Nat) : Dev := d.event t.owner (setAt t.set).1 cls code t.data

/-! ### Extents of a Take (R244) -/

/-- Room left in the extents of a Take, from its position on. -/
def Dev.takeRoom (d : Dev) (t : Take) : Nat :=
  let size := 64 * (d.sset t.set).n * PAY
  match t.pos with
  | some p => size * (p / size + 1) - p + size * ((t.extents.dropWhile (· ≠ p / size)).drop 1).length
  | none => 0

/-- The position that follows address `a`, the end of data in extent `e` of a Take: when the extent is full, the start of
the next of its extents, if there is one. -/
def Dev.takeAfter (d : Dev) (t : Take) (e a : Nat) : Option Nat :=
  let size := 64 * (d.sset t.set).n * PAY
  if a < size * (e + 1) then some a
  else ((t.extents.dropWhile (· ≠ e)).drop 1).head?.map fun (x : Nat) => size * x

/-- The 4 KiB Take header (R248). The manual names its fields and gives no offsets. -/
def Take.header (t : Take) : List Byte :=
  let g := fun i => t.shape.getD i 0
  let b := layout 4092 [(0, leBytes 4 0x454B4154), (8, leBytes 8 t.takeId), (0x10, leBytes 1 t.ctx ++ leBytes 1 (g 7) ++
    leBytes 1 t.owner ++ leBytes 1 t.ratio ++ leBytes 1 (b2n t.dyn) ++ leBytes 1 (g 2) ++ leBytes 1 (g 5) ++ leBytes 1 (g 6)),
    (0x18, leBytes 2 (g 0) ++ leBytes 2 (g 1) ++ leBytes 1 t.planes ++ leBytes 1 (g 3) ++ leBytes 1 (g 4))]
  b ++ leBytes 4 (crc32c b)

/-- A Take receives an extent; the first one begins with the Take header (R248). -/
def Dev.takeExtent (d : Dev) (n e : Nat) : Dev :=
  match d.take? n with
  | none => d
  | some t =>
    let start := 64 * e * (d.sset t.set).n * PAY
    let d := d.giveExtent t.set e (1 + n)
    let first := t.extents = []
    let pos := t.pos.getD start
    let d := d.setTake n { t with extents := t.extents ++ [e], pos := some (if first then start + 4096 else pos), asking := false,
                                  headed := true }
    if first then (d.place_ { set := t.set, addr := 0, bytes := [], part := t.owner, take := n } [(start, 4096)] t.header).putDirectory n
    else d

/-- What a request for room finds. -/
inductive Room where
  | ok | waits | full
deriving DecidableEq, Repr

/-- Get a Take room for `need` bytes: extents come from the hardware default, or from an assist request (R244). -/
def Dev.takeNeeds (d : Dev) (n need : Nat) : Nat → Dev × Room
  | 0 => (d, .full)
  | fuel + 1 =>
    match d.take? n with
    | none => (d, .full)
    | some t =>
      if need ≤ d.takeRoom t then (d, .ok)
      else match (d.sset t.set).defaultExtent with
        | none => (d, .full)
        | some e =>
          let pg := (setAt t.set).1
          if t.asking ∨ !(d.sset t.set).indexed then (d, .waits)
          else if d.assisted pg then
            let (d, posted) := d.postAssist { part := d.setOwner t.set, tag := 0, func := 7, page := pg, object := t.set,
                                              proposal := [e], key := n } 200
            if posted then (d.updTake n fun t => { t with asking := true }, .waits) else (d.takeExtent n e).takeNeeds n need fuel
          else (d.takeExtent n e).takeNeeds n need fuel

/-- Place bytes at a Take's next 4 KiB-aligned address; the address is answered. -/
def Dev.takePut (d : Dev) (n : Nat) (p : Place) (bs : List Byte) : Dev × Nat :=
  match d.take? n with
  | none => (d, 0)
  | some t =>
    let x := d.sset t.set
    let size := 64 * x.n * PAY
    let a := t.pos.getD 0
    let len := ceilDiv bs.length 4096 * 4096
    let rs := x.runs t.extents (t.extents.length + 1) a len
    let pos := match rs.getLast? with
      | some (b, m) => d.takeAfter t (b / size) (b + m)
      | none => t.pos
    let d := d.setTake n { t with pos := pos }
    if bs = [] then (d, a) else (d.place_ { p with set := t.set, take := n } rs (fit len bs), a)

/-! ### Table entries -/

/-- Set the entry of (frame index, plane) of a Take; a final one waits for an index segment (R238, R248). -/
def Dev.takeFlt (d : Dev) (n index : Nat) (e : FltEntry) : Dev :=
  match d.take? n with
  | none => d
  | some t =>
    let o := index * t.planes + e.plane
    let d := d.setFlt t.owner (t.base + o) { e with set := t.set }
    if finalStatus e.status then d.updTake n fun t => { t with finals := t.finals ++ [o] } else d

/-- Insert in rising order. -/
def insertNat (x : Nat) : List Nat → List Nat
  | [] => [x]
  | y :: r => if x ≤ y then x :: y :: r else y :: insertNat x r

/-- An index segment of the given table offsets (R248). -/
def Dev.segment (d : Dev) (t : Take) (offs : List Nat) : List Byte :=
  let h := leBytes 4 0x58444E49 ++ leBytes 8 t.takeId ++ leBytes 4 (offs.headD 0) ++ leBytes 2 offs.length ++ zeros 2 ++
    leBytes 6 t.lastSeg ++ zeros 2
  let body := offs.flatMap fun o => (d.fltAt (t.base + o)).bytes
  h ++ leBytes 4 (crc32c (h ++ body)) ++ body

/-- Table offset of an entry that follows one at offset `o` in a segment: a later plane of the same Capture ID belongs to the same
frame, any other entry to the next. A segment gives its entries no other place, so it ends where this would fail: DESIGN CHOICE
(log 141). -/
def segNext (planes o cid plane cid' plane' : Nat) : Nat :=
  if cid' = cid ∧ plane < plane' then o / planes * planes + plane' else (o / planes + 1) * planes + plane'

/-- The leading offsets whose places a segment shows (R248). -/
def Dev.segRun (d : Dev) (t : Take) : List Nat → List Nat
  | [] => []
  | [o] => [o]
  | o :: o' :: r =>
    let e := d.fltAt (t.base + o)
    let e' := d.fltAt (t.base + o')
    if segNext (max 1 t.planes) o e.cid e.plane e'.cid e'.plane = o' then o :: d.segRun t (o' :: r) else [o]

/-- Write index segments: while 127 final entries wait, or at close while any does (R248). -/
def Dev.writeSegments (d : Dev) (n : Nat) (close : Bool) : Nat → Dev
  | 0 => d
  | fuel + 1 =>
    match d.take? n with
    | none => d
    | some t =>
      let due := if close then t.finals ≠ [] else t.batch ≠ 0 ∨ 127 ≤ t.finals.length
      if !due then d
      else match d.takeNeeds n 4096 64 with
        | (d, .ok) =>
          match d.take? n with
          | none => d
          | some t =>
            let batch := if t.batch = 0 then min 127 t.finals.length else t.batch
            let offs := d.segRun t ((t.finals.take batch).foldr insertNat [])
            let seg := fit 4096 (d.segment t offs)
            let (d, a) := d.takePut n { set := t.set, addr := 0, bytes := [], part := t.owner,
                                        holds := offs.map (t.base + ·) } seg
            let d := d.updTake n fun t => { t with finals := t.finals.filter (· ∉ offs), batch := batch - offs.length, lastSeg := a }
            (d.putDirectory n).writeSegments n close fuel
        | (d, _) => d

/-- Does any entry of a Take still wait for its stripes? -/
def Dev.takePending (d : Dev) (t : Take) : Bool :=
  d.pip.flt.any fun e => t.base ≤ e.1 && e.1 < t.base + t.count * t.planes && e.2.status = PENDING

/-- Does any RAW entry of a Take lack its data? -/
def Dev.takeGaps (d : Dev) (t : Take) : Bool :=
  d.pip.flt.any fun e => t.base ≤ e.1 && e.1 < t.base + t.count * t.planes && e.2.plane = 0 && MISSING_DROPPED ≤ e.2.status

/-- Take the next steps of a TAKE_CLOSE, of an erase, or of a Take that a reset closed (R237, R334): its index and its
directory entry, then its commands. -/
def Dev.takeClosing (d : Dev) (n : Nat) : Dev :=
  match d.take? n with
  | none => d
  | some t =>
    let ripe : Bool := t.stop = .now && t.frames = [] && !d.takePending t
    let d := if ripe ∧ ((t.state = 0 ∧ t.close ≠ []) ∨ (t.state = 1 ∧ t.finals ≠ [])) then
        let d := d.writeSegments n true 4194304
        if t.state = 0 then
          let st := if d.takeGaps t then TAKE_GAPS else .SUCCESS
          let d := (d.updTake n fun t => { t with state := 1 }).putDirectory n
          (t.close.filterMap fun e => d.cmd? e.1 e.2).foldl (fun d c => (d.effect c st t.count).setCmd { c with effect := true }) d
        else d
      else d
    match d.take? n with
    | none => d
    | some t =>
      let cs := t.close.filterMap fun e => d.cmd? e.1 e.2
      if t.close = [] ∨ t.state = 0 ∨ (t.state = 1 ∧ (d.takePending t = true ∨ t.finals ≠ [])) ∨
          (d.pip.places.any fun q => q.take = n) = true then d
      else if t.state = 1 then
        let st := if d.takeGaps t then TAKE_GAPS else .SUCCESS
        cs.foldl (fun d c => if c.effect then d.complete c st t.count else d.succeed c t.count st) (d.setTake n { t with close := [] })
      else
        let d : Dev := { d with pip := { d.pip with takes := Assoc.del d.pip.takes n } }
        cs.foldl (fun d c => if c.effect then d.complete c .SUCCESS else d.succeed c) d

/-! ### Frames of a Take (R234 to R236) -/

/-- Give a Take's next index; answers it unless the Take does not index (R234, R237). Only an announced frame starts a
Take; the first frame at or above the stop Capture ID ends the indexing, whether or not it gets an index. -/
def Dev.takeIndex (d : Dev) (n cid : Nat) (announced : Bool) : Dev × Option Nat :=
  match d.take? n with
  | none => (d, none)
  | some t =>
    let go := t.started || (announced && match t.startMode with
      | 0 => true
      | 1 => t.startCid ≤ cid
      | _ => t.fired)
    let stop := match t.stop with
      | .at_ m => if m ≤ cid ∧ (go || announced) = true then .now else t.stop
      | s => s
    if t.stop = .now then (d, none)
    else if !go then (d.setTake n { t with stop := stop }, none)
    else if t.maxFrames ≤ t.count then
      let d := d.setTake n { t with limitWarned := true, started := true, stop := stop }
      (if t.limitWarned then d else d.takeEvent t WARN 0x0604, none)
    else (d.setTake n { t with started := true, count := t.count + 1, stop := stop }, some t.count)

/-- A frame keeps its index and is missing (R236). -/
def Dev.takeMiss (d : Dev) (n index cid status : Nat) : Dev :=
  let d := d.updTake n fun t => { t with frames := t.frames.filter fun x => x.index ≠ index }
  let d := d.takeFlt n index { cid := cid, plane := 0, status := status }
  (d.writeSegments n false 4194304).takeClosing n

/-- PH or PV of R219: the CFA's period when it is a power of two up to `top`, else 1. -/
def frcPeriod (top p : Nat) : Nat := if p ∈ [1, 2, 4, 8] ∧ p ≤ top then p else 1

/-- A frame of a context is announced (R234). -/
def Dev.takeAnnounce (d : Dev) (k : Nat) : Dev :=
  match d.frame? k with
  | none => d
  | some f =>
    match d.openTake f.ctx with
    | none => d
    | some (n, _) =>
      match d.takeIndex n f.hdr.cid true with
      | (d, none) => d.takeClosing n
      | (d, some i) =>
        let c := Develop.cfa f.ingGen.bank f.hdr.cfaKind f.hdr.cfaPhase
        let sh := [f.cfgW, f.cfgH, f.hdr.depth, frcPeriod 8 c.ph, frcPeriod 4 c.pv, f.hdr.cfaKind, f.hdr.cfaPhase, f.head]
        let d := d.updTake n fun t => { t with
          frames := t.frames ++ [{ index := i, frame := k, cid := f.hdr.cid }],
          shape := if t.shape = [] then sh else t.shape,
          shapes := if t.shape = [] ∨ t.shape = sh then t.shapes else t.shapes ++ [(i, sh)] }
        match d.take? n with
        | some t => d.updFrame k fun f => { f with take := t.takeId, takeIndex := i }
        | none => d

/-- An FHDR of a context's head is discarded under R135 (R234). -/
def Dev.takeRefused (d : Dev) (c cid : Nat) : Dev :=
  match d.openTake c with
  | none => d
  | some (n, _) => match d.takeIndex n cid false with
    | (d, none) => d.takeClosing n
    | (d, some i) => d.takeMiss n i cid MISSING_REFUSED

/-- The Take and record of a frame that is not yet committed. -/
def Dev.takeOf (d : Dev) (k : Nat) : Option (Nat × Take × TakeFrame) :=
  d.pip.takes.findSome? fun e => (e.2.frames.find? fun x => x.frame = k).map fun x => (e.1, e.2, x)

/-- The pending window has no space for a frame (R236). -/
def Dev.takeBehind (d : Dev) (n : Nat) (t : Take) (x : TakeFrame) : Dev :=
  let d := if d.due t.behindWarned then
      ((d.updTake n fun t => { t with behindWarned := some d.elapsed }).takeEvent t WARN 0x0602).raise (setAt t.set).1 2
    else d
  d.takeMiss n x.index x.cid MISSING_BEHIND

def Dev.updTakeFrame (d : Dev) (n k : Nat) (g : TakeFrame → TakeFrame) : Dev :=
  d.updTake n fun t => { t with frames := t.frames.map fun x => if x.frame = k then g x else x }

/-- A frame becomes INGESTED: its coding waits for an engine, with its space allocated (R235). -/
def Dev.takeIngested (d : Dev) (k : Nat) : Dev :=
  match d.takeOf k, d.frame? k with
  | some (n, t, x), some f =>
    if x.coding ≠ .notYet then d
    else if t.ratio ≠ 7 ∧ (Frc.budget f.hdr.depth t.ratio).isNone then d.takeMiss n x.index x.cid MISSING_DROPPED
    else if d.pendingRoom (codedSize f t.ratio) then d.updTakeFrame n k fun x => { x with coding := .waiting }
    else d.takeBehind n t x
  | _, _ => d

/-- A frame is dropped before its commit (R236). -/
def Dev.takeDropped (d : Dev) (k : Nat) : Dev :=
  match d.takeOf k with
  | none => d
  | some (n, _, x) =>
    let d := { d with pip := { d.pip with engines := d.pip.engines.filter fun e => e.2 ≠ FrcWork.take n x.index } }
    d.takeMiss n x.index x.cid MISSING_DROPPED

/-- The Take needs the buffers of a frame's recorded renditions no longer (R235). -/
def Dev.releaseTakeBufs (d : Dev) (k : Nat) : Dev :=
  { d with pip := { d.pip with bufs := d.pip.bufs.map fun e =>
      (e.1, e.2.map fun b => if b.frame = k then { b with take := false } else b) } }

/-- The planes of a frame at its commit, RAW first: none for a plane its rendition gave up. -/
def Dev.takePlanes (d : Dev) (t : Take) (x : TakeFrame) (f : Frame) (raw : List Byte) : List (Option (List Byte)) :=
  [some raw, some (d.colophon f false), some f.aux] ++ t.rends.map fun r => ((x.rends.find? fun e => e.1 = r).map (·.2)).getD none

/-- Put the planes of a committed frame: entries PENDING, or MISSING_GIVEUP (R235, R236). -/
def Dev.putPlanes (d : Dev) (n : Nat) (x : TakeFrame) (t : Take) (part asn : Nat) (verify : Bool) :
    Nat → List (Option (List Byte)) → Dev
  | _, [] => d
  | pl, none :: rest =>
    (d.takeFlt n x.index { cid := x.cid, plane := pl, status := MISSING_GIVEUP, asn := asn }).putPlanes n x t part asn verify
      (pl + 1) rest
  | pl, some bs :: rest =>
    let i := t.base + x.index * t.planes + pl
    let (d, a) := d.takePut n { set := t.set, addr := 0, bytes := [], part := part, asn := asn, flt := 1 + i } bs
    let flags := t.ratio + 8 * b2n t.dyn + 16 * b2n (d.sset t.set).enc + 32 * b2n verify
    let d := d.takeFlt n x.index { cid := x.cid, plane := pl, status := PENDING, addr := a, flags := flags,
                                   length := bs.length, crc := crc32c bs, asn := asn }
    d.putPlanes n x t part asn verify (pl + 1) rest

/-- Commit a frame once it is PROCESSED, coded, and served by each recorded rendition (R235, R85). -/
def Dev.takeTry (d : Dev) (k : Nat) : Dev :=
  match d.takeOf k, d.frame? k with
  | some (n, t, x), some f =>
    match x.coding with
    | .done raw verify =>
      if f.state ∉ [.processed, .released] ∨ f.injectWait ∨ !t.rends.all (fun r => (x.rends.any fun e => e.1 = r) || !d.records f r) then d
      else
        let ps := d.takePlanes t x f raw
        let extra := (ps.drop 1).foldl (fun a p => a + (p.getD []).length) 0
        if !d.pendingRoom extra then (d.takeBehind n t x).releaseTakeBufs k
        else
          let need := ps.foldl (fun a p => a + ceilDiv (p.getD []).length 4096 * 4096) 0
          match d.takeNeeds n need 64 with
          | (d, .waits) => d
          | (d, .full) =>
            let d := if t.fullWarned then d
              else ((d.updTake n fun t => { t with fullWarned := true }).takeEvent t WARN 0x0603).raise (setAt t.set).1 2
            (d.takeMiss n x.index x.cid MISSING_SETFULL).releaseTakeBufs k
          | (d, .ok) =>
            let p := f.owner
            let asn := (d.part p).asnNext
            let d := d.updPart p fun r => { r with asnNext := r.asnNext + 1 }
            let d := d.finalRelease k
            let ps := d.takePlanes t x ((d.frame? k).getD f) raw
            let d := d.journal p asn (.frameCommit t.set t.takeId x.index (t.base + x.index * t.planes) t.planes)
            let d := d.updTakeFrame n k fun x => { x with coding := .notYet }
            let d := d.putPlanes n x t p asn verify 0 ps
            let d := d.updTake n fun t => { t with frames := t.frames.filter fun y => y.frame ≠ k }
            ((d.releaseTakeBufs k).writeSegments n false 4194304).takeClosing n
    | _ => d
  | _, _ => d

/-- A recorded rendition releases its output for a frame, or gives it up (none) (R235). -/
def Dev.takeRend (d : Dev) (k rend : Nat) (out : Option (List Byte)) : Dev :=
  match d.takeOf k with
  | none => d
  | some (n, t, _) =>
    if rend ∈ t.rends then
      (d.updTakeFrame n k fun x => if x.rends.any fun e => e.1 = rend then x else { x with rends := x.rends ++ [(rend, out)] }).takeTry k
    else d

/-! ### Durability (R245, R313) -/

/-- A command's set: TARGET of a STORE WRITE (DW1 [2:0]). -/
def Cmd.set (c : Cmd) : Nat := sf c.entry 1 0 3

/-- Is `w` a WRITE to STORE that FLUSH `c` covers and that has not completed? -/
def Cmd.covers (c w : Cmd) : Bool := w.part = c.part && w.asn < c.asn && opcode w.entry = 0x81 && storeEntry w.entry

/-- Is a FLUSH satisfied: nothing of the partition with a lower ASN waits (R313)? -/
def Dev.flushed (d : Dev) (c : Cmd) : Bool :=
  !(d.pip.places.any fun p => p.part = c.part && p.asn ≠ 0 && p.asn < c.asn) && !d.hst.cmds.any fun e => c.covers e.2

/-- Complete the FLUSHes and FUA WRITEs whose data is durable; a placement that replay writes again holds its range lock
until then (R333 step 7). -/
def Dev.settleWrites (d : Dev) : Dev :=
  let locks := d.hst.locks.filter fun l => !l.replayed || d.pip.places.any fun p => p.part = l.part && p.asn = l.asn
  let d : Dev := { d with hst := { d.hst with locks := locks } }
  (d.hst.cmds.map (·.2)).foldl (fun d c =>
    if c.phase ≠ .running then d
    else if opcode c.entry = 0x80 ∧ d.flushed c then d.succeed c
    else if opcode c.entry = 0x81 ∧ storeEntry c.entry ∧ !(d.pip.places.any fun p => p.part = c.part && p.asn = c.asn) then d.complete c .SUCCESS
    else d) d

/-- Every Take of a set takes its next steps. -/
def Dev.settleTakes (d : Dev) (s : Nat) : Dev :=
  ((d.pip.takes.filter fun e => e.2.set = s).map (·.1)).foldl (fun d n => (d.writeSegments n false 4194304).takeClosing n) d

/-- Entries of a set that are PENDING and wait for no stripe become DURABLE (R238). -/
def Dev.settleFlt (d : Dev) (s : Nat) : Dev :=
  (d.pip.flt.filter fun e => e.2.status = PENDING && e.2.set = s && !d.pip.places.any fun p => p.flt = 1 + e.1).foldl (fun d e =>
    match d.pip.takes.find? fun t => t.2.base ≤ e.1 && e.1 < t.2.base + t.2.maxFrames * t.2.planes && t.2.set = s with
    | none => d
    | some (n, t) => d.takeFlt n ((e.1 - t.base) / t.planes) { e.2 with status := DURABLE }) d

/-- A stripe is written out: full, old, or needed by a FLUSH or TAKE_CLOSE; later data begins in the next stripe (R245). The
power-loss sequence forms no more stripes (R338). -/
def Dev.stripeWrite (d : Dev) (s t : Nat) : Dev :=
  let x := d.sset s
  let here := fun (p : Place) => p.set = s && p.addr / (x.n * PAY) = t
  if !d.setUp s ∨ d.jnl.powerLoss = true ∨ (d.going s t) ≠ [] ∨ !d.pip.places.any here then d
  else
    let d := { d with pip := { d.pip with places := d.pip.places.map fun p => if here p then { p with going := true } else p } }
    let ns := (d.pip.takes.filter fun e => e.2.set = s && e.2.state ≠ 2 && (match e.2.pos with
      | some p => p / (x.n * PAY) = t && p % (x.n * PAY) ≠ 0
      | none => false)).map (·.1)
    ns.foldl (fun d n =>
      let d := d.updTake n fun t' => { t' with pos := d.takeAfter t' (t / 64) ((t + 1) * x.n * PAY) }
      match d.take? n with
      | some t' => if d.takeRoom t' = 0 ∧ t'.stop ≠ .now ∧ d.assisted (setAt s).1 then (d.takeNeeds n 4096 1).1 else d
      | none => d) d

/-- Placements of a set are durable: table entries, commands and Takes that wait for them go on (R238, R313, R331); in the
power-loss sequence, which writes no further record for them, they go on at the next replay (R333, R338). -/
def Dev.placesDone (d : Dev) (s : Nat) (ps : List Place) : Dev :=
  let held := ps.flatMap (·.holds)
  let d := { d with
    pip := { d.pip with places := d.pip.places.filter fun p => p ∉ ps },
    jnl := { d.jnl with ledger := d.jnl.ledger.filter fun r => match r.body with
      | .fltUpdate i _ => i ∉ held
      | _ => true } }
  if d.jnl.powerLoss then d
  else
    let d := (ps.map fun p => (p.part, p.asn)).eraseDups.foldl (fun d e => if e.2 = 0 then d else d.reclaim e.1 e.2) d
    ((d.settleFlt s).settleWrites).settleTakes s

/-- A stripe's writes completed on every live member (R245). -/
def Dev.stripeDurable (d : Dev) (s t : Nat) : Dev :=
  let ps := d.going s t
  if ps = [] ∨ !d.setUp s then d
  else
    let d := d.putStripe s t
    let seq := match d.unitHeader s t 0 with
      | some h => ofLe ((h.drop 0x38).take 4)
      | none => 0
    ((d.bump (setAt s).1 Reg.STR.STRIPE_WR_CNT (setAt s).2).journal 0 0 (.stripeDurable s t seq)).placesDone s ps

/-! ### Failures of members (R250, R251) -/

/-- Runs of a table entry's data. -/
def Dev.fltRuns (d : Dev) (t : Take) (e : FltEntry) : List (Nat × Nat) :=
  (d.sset t.set).runs t.extents (t.extents.length + 1) e.addr e.length

/-- A set fails: its commands end with SET_FAILED, entries whose data is gone become LOST (R251). -/
def Dev.failSet (d : Dev) (s : Nat) : Dev :=
  let d := (d.setSetReg s Reg.STR.STATE FAILED).event (d.setOwner s) (setAt s).1 ALARM 0x0609 [BitVec.ofNat 8 s]
  let d := d.raise (setAt s).1 4
  let d := (d.pip.places.filter fun p => p.set = s).foldl (fun d p =>
    if p.flt = 0 then d
    else match d.take? p.take with
      | none => d
      | some t => d.takeFlt p.take ((p.flt - 1 - t.base) / t.planes) { d.fltAt (p.flt - 1) with status := LOST }) d
  let gone := d.pip.places.filter fun p => p.set = s
  let d := ({ d with pip := { d.pip with places := d.pip.places.filter fun p => p.set ≠ s } } : Dev).updSset s fun x =>
    { x with rebuild := none }
  let d := (d.pip.takes.filter fun e => e.2.set = s).foldl (fun d e =>
    let lost := d.pip.flt.filter fun x => e.2.base ≤ x.1 && x.1 < e.2.base + e.2.count * e.2.planes && x.2.status = DURABLE &&
      (d.runBytes s (d.fltRuns e.2 x.2)).isNone
    let d := lost.foldl (fun d x => d.takeFlt e.1 ((x.1 - e.2.base) / e.2.planes) { x.2 with status := LOST }) d
    (e.2.close.filterMap fun y => d.cmd? y.1 y.2).foldl (fun d c => d.complete c SET_FAILED)
      (d.updTake e.1 fun t => { t with close := [] })) d
  let all := d.hst.cmds.map (·.2)
  all.foldl (fun (d : Dev) (c : Cmd) =>
    let op := opcode c.entry
    let covered : Bool := (gone.any fun p => p.part = c.part && p.flt = 0 && p.asn ≠ 0 && p.asn < c.asn) ||
      all.any fun w => c.covers w && w.set = s
    if op = 0x80 ∧ covered = true then d.complete c SET_FAILED
    else if op ∈ [0x81, 0x82] ∧ c.set = s ∧ sf c.entry 8 0 2 = 0 then d.complete c SET_FAILED
    else if op ∈ [0x83, 0x84] ∧ c.set = s then d.complete c SET_FAILED
    else d) d

/-- Start a rebuild onto a BLANK or STALE magazine of SPARES (R251). -/
def Dev.startRebuild (d : Dev) (s : Nat) : Dev :=
  let x := d.sset s
  let spare := (List.range 8).find? fun p => bitAt (d.setReg s Reg.STR.SPARES) p && (d.magState p = BLANK || d.magState p = STALE)
  if d.setState s ≠ DEGRADED then d
  else match spare with
    | none => d
    | some p =>
      let lost := d.setReg s Reg.STR.LOST_MEMBER
      let d := d.setSset s { x with rebuild := some p, members := x.members.set lost p }
      let d := (d.magWrite p 0 (d.label s lost)).magWrite p 128 (d.label s lost)
      let d := ((d.setMagState p 5).wr (Pg.MAG p) Reg.MAG.SET s).wr (Pg.MAG p) Reg.MAG.MEMBER lost
      (d.setSetReg s Reg.STR.REBUILD_PROG 0).setSetReg s Reg.STR.STATE REBUILDING

/-- Member `m` of a set fails (R251); a set without its key stays in KEY_WAIT (R252), a FAILED one stays FAILED. -/
def Dev.failMember (d : Dev) (s m : Nat) : Dev :=
  let x := d.sset s
  if m ∉ x.live then d
  else
    let d := d.setSset s { x with live := x.live.filter (· ≠ m) }
    if x.live.length = x.n + 1 then
      let d := (d.setSetReg s Reg.STR.EPOCH (d.setReg s Reg.STR.EPOCH + 1)).setSetReg s Reg.STR.LOST_MEMBER m
      let d := (if d.setState s = KEY_WAIT then d else d.setSetReg s Reg.STR.STATE DEGRADED).writeLabels s
      let d := (d.event (d.setOwner s) (setAt s).1 FAULT 0x0608 [BitVec.ofNat 8 s, BitVec.ofNat 8 m]).raise (setAt s).1 0
      d.startRebuild s
    else if d.setState s = FAILED then d
    else d.failSet s

/-- A magazine port fails (R242, R251). -/
def Dev.magFailed (d : Dev) (p cause : Nat) : Dev :=
  if d.magState p = ABSENT ∨ d.magState p = MFAILED then d
  else
    let d := (d.setMagState p MFAILED).event 0 (Pg.MAG p) FAULT 0x060B [BitVec.ofNat 8 p, BitVec.ofNat 8 cause]
    let d := d.raise (Pg.MAG p) 2
    (List.range 8).foldl (fun d s =>
      let x := d.sset s
      if x.rebuild = some p then
        let d := d.setSset s { x with rebuild := none }
        (if d.setState s = REBUILDING then d.setSetReg s Reg.STR.STATE DEGRADED else d).startRebuild s
      else match (x.members.zipIdx.find? fun e => e.1 = p && e.2 ∈ x.live) with
        | some (_, m) => if d.setState s < OPTIMAL then d else d.failMember s m
        | none => d) d

end Sys2Proof.Machine
end

