-- ==== Sys2Proof/Machine/Codec.lean ====
section
/-! DEFINITION. Codec: encoder and decoder contexts of the device: reserved work, capacity, the frame pool, arriving sources
(spec 09 R254 to R274; spec 01 R20, R22). -/

namespace Sys2Proof.Machine

/-- The generation R63 gives a frame at this moment. -/
def Dev.genOf (d : Dev) (f : Frame) : Gen := f.firstGen.getD (genFor (d.ctx f.ctx).gens f.ord)

/-- The release deadline on the free-running clock (R82, R90, R355). -/
def Dev.deadline (d : Dev) (f : Frame) : Nat :=
  f.arrived + Pb.fe (d.genOf f).bank 11 Pb.RSP.RELEASE_LATENCY * 1000 * 2 ^ 32

/-- Is a unit of `size` that arrives `since` after the one before it reserved work (R20)? `rate` is in thousands per
second. -/
def reservedWork (rate size : Nat) (since : Option Nat) : Bool :=
  rate ≠ 0 && (match since with
    | none => true
    | some t => size * 10 ^ 9 * 2 ^ 32 ≤ rate * 1000 * t)

/-- Configurations in force, but for context `c`. -/
def Dev.encCfgs (d : Dev) (c : Nat) : List EncCfg := (d.pip.encs.filter fun e => e.1 ≠ c && e.2.cfg.isSome).map fun e => e.2.cfg!

/-- The same once every CONFIG that waits for pictures in flight has taken effect. -/
def Dev.encNextCfgs (d : Dev) (c : Nat) : List EncCfg :=
  (d.pip.encs.filter fun e => e.1 ≠ c && (e.2.cfg.isSome || e.2.nextCfg.isSome)).map fun e => match e.2.nextCfg with
    | some (_, _, bs) => encCfg bs
    | none => e.2.cfg!

/-- The occupancy and reservation check of CONFIG (R273): under the configurations in force, and under those accepted. -/
def Dev.encCapacity (d : Dev) (c : Nat) (x : EncCfg) : Bool :=
  [d.encCfgs c, d.encNextCfgs c].all (fun l => x.engines.all fun n => let a := engineLoad (x :: l) n; a.1 ≤ 980000000 * a.2) && x.w * x.h * x.num ≤ d.reserved 2 c * 1000 * x.den

/-- OCC_RESERVED of every encoder, in 0.1 %, rounded half to even (R5). -/
def Dev.showEncs (d : Dev) : Dev :=
  (List.range 6).foldl (fun d n =>
    let a := engineLoad (d.encCfgs 256) n
    d.wr (Pg.ENCPIX n) Reg.ENC_PIX.OCC_RESERVED (rndDiv a.1 (a.2 * 10 ^ 6)).toNat) d

/-! ### Frame pool memory of contexts and layers -/

/-- Bytes of a raw buffer, and of a developed image. -/
def rawBytes (w h : Nat) : Nat := ceilDiv (w * h * 2) 4096 * 4096

def developedBytes (w h : Nat) : Nat := ceilDiv (w * h * 6) 4096 * 4096

/-- Bytes of the pre-warp buffer of a pass under bank `b` (R171). -/
def prewarpBytes (b : List (Nat × Nat)) (w h : Nat) : Nat :=
  if Pb.fe b 8 Pb.LNS.LNS_EN = 1 then ceilDiv (w * h * 12) 4096 * 4096 else 0

/-- Bytes of a frame's developed image with the pre-warp buffer beside it, from its first pass on (R22, R171). -/
def Frame.imageBytes (f : Frame) : Nat := match f.curGen with
  | none => 0
  | some g => developedBytes f.cfgW f.cfgH + prewarpBytes g.bank f.cfgW f.cfgH

/-- Bytes of an encoder context's reference and output memory: the manual gives no formula (R259). -/
def encMemory (c : List Byte) : Nat := Config.encMemory c

/-- Frame-pool bytes that frames, encoder contexts and layer buffer sets hold. -/
def Dev.poolHeld (d : Dev) (layers : Nat) : Nat :=
  (d.cap.frames.foldl (fun a e => a + rawBytes e.2.cfgW e.2.cfgH + 65536 + e.2.imageBytes) 0) +
  ((d.pip.encs.filterMap fun e => e.2.cfg.map encMemory).foldl (· + ·) 0) + layers

/-- Frame-pool bytes of all stacks (R24). -/
def Dev.poolSize (d : Dev) : Nat := ((List.range 4).map fun s => d.rd (Pg.HBM s) Reg.HBM.POOL_MIB * 2 ^ 20).foldl (· + ·) 0

/-! ### The mini-GOP (R264) -/

/-- B pictures between two anchors, hierarchically: the middle one first, then each half (DESIGN CHOICE: the order among
the halves). -/
def hierarchy (lo hi : Nat) : Nat → List (Nat × EncSrc) → List EncNext
  | 0, _ => []
  | n + 1, l =>
    match l[l.length / 2]? with
    | none => []
    | some (k, s) =>
      { num := k, src := s, type := 3, refs := [lo, hi] } :: hierarchy lo k n (l.take (l.length / 2)) ++
        hierarchy k hi n (l.drop (l.length / 2 + 1))

/-- A new anchor: a P picture of the REFS most recent anchors, or an IDR. -/
def EncCtx.anchor (x : EncCtx) (k : Nat) (s : EncSrc) (idr : Bool) : EncCtx :=
  { x with
    ready := x.ready ++ [{ num := k, src := s, type := if idr then 0 else 2, refs := if idr then [] else x.anchors.take x.cfg!.refs }],
    anchors := if idr then [k] else (k :: x.anchors).take 8 }

/-- The open mini-GOP ends: its last frame is the anchor, then come the frames between (R264). -/
def EncCtx.closeGop (x : EncCtx) : EncCtx :=
  match x.held.getLast? with
  | none => x
  | some (k, s) =>
    let lo := x.anchors.headD k
    let bs := x.held.dropLast
    let x := ({ x with held := [] } : EncCtx).anchor k s false
    { x with ready := x.ready ++ hierarchy lo k (bs.length + 1) bs }

/-- A source arrives, in input order (R260, R261, R264). -/
def EncCtx.arrive (x : EncCtx) (s : EncSrc) : EncCtx :=
  let k := x.nextNum
  let due : Bool := x.fresh || x.force || (x.cfg!.idr ≠ 0 && x.cfg!.idr ≤ x.sinceIdr)
  let x := { x with nextNum := k + 1, sinceIdr := if due then 1 else x.sinceIdr + 1 }
  if due then
    let y := x.held.foldl (fun (y : EncCtx) e => y.anchor e.1 e.2 false) { x with held := [], fresh := false, force := false }
    y.anchor k s true
  else
    let x := { x with held := x.held ++ [(k, s)] }
    if max 1 x.cfg!.gop ≤ x.held.length then x.closeGop else x

/-- A picture that is not yet coded goes: references to it go, and the next picture takes over an IDR. -/
def EncCtx.dropReady (x : EncCtx) (num : Nat) : EncCtx :=
  let type := ((x.ready.find? fun e => e.num = num).map (·.type)).getD 2
  let strip := fun (l : List EncNext) => l.map fun e => { e with refs := e.refs.filter (· ≠ num) }
  let pre := strip (x.ready.takeWhile fun e => e.num ≠ num)
  let rest := strip ((x.ready.dropWhile fun e => e.num ≠ num).drop 1)
  let rest := match rest with
    | e :: l => if type = 0 then { e with type := 0, refs := [] } :: l else e :: l
    | [] => []
  { x with ready := pre ++ rest, anchors := x.anchors.filter (· ≠ num), fresh := x.fresh || (type = 0 && rest = []),
           plan := none, asked := none }

/-- Pictures of a context that are not committed. -/
def EncCtx.inFlight (x : EncCtx) : Bool := x.held ≠ [] || x.ready ≠ [] || x.pics ≠ []

/-- Does an output suit an encoder context (R260)? -/
def EncCtx.suits (x : EncCtx) (o : Render.Output) : Bool :=
  let c := x.cfg!
  o.w = c.w && o.h = c.h && o.chroma = encChroma c.chroma && o.depth = c.depth

def Dev.enc (d : Dev) (c : Nat) : EncCtx := (Assoc.find d.pip.encs c).getD {}

def Dev.setEnc (d : Dev) (c : Nat) (x : EncCtx) : Dev :=
  { d with pip := { d.pip with encs := if x = {} then Assoc.del d.pip.encs c else Assoc.put d.pip.encs c x } }

def Dev.updEnc (d : Dev) (c : Nat) (f : EncCtx → EncCtx) : Dev := d.setEnc c (f (d.enc c))

/-- A source frame is skipped (R260, R263). -/
def Dev.encSkip (d : Dev) (c : Nat) : Dev :=
  let pg := (d.enc c).pageRc
  ((d.bump pg Reg.ENC_RC.SOURCE_SKIP_CNT).raise pg 1).updEnc c fun x => { x with skipped := x.skipped + 1 }

/-- A source arrives at a context: it is judged under R20. -/
def Dev.encArrive (d : Dev) (c : Nat) (s : EncSrc) (t : Nat) : Dev :=
  let x := d.enc c
  let y := x.cfg!
  let held := reservedWork (2 * d.reserved 2 c) (y.w * y.h * k2 y.chroma) (x.lastTime.map (t - ·))
  let s := { s with reserved := held }
  let x := { x with lastTime := some t }
  d.setEnc c (if x.ending.isSome ∨ x.nextCfg.isSome then { x with later := x.later ++ [s] } else x.arrive s)

end Sys2Proof.Machine
end

