-- ==== Sys2Proof/Machine/Line.lean ====
section
/-! DEFINITION. Line: the line coding of Head Link: scrambling, stuffing, sync words, gatherings and PRBS sequences
(spec 04 R94 to R101, R123, R124). -/

namespace Sys2Proof.Line

/-! ### Scrambling (R95) -/

/-- The bit that the scrambler adds, from the last 58 line bits (bit 0 is the newest). -/
def tap (h : Nat) : Bool := xor (h.testBit 38) (h.testBit 57)

/-- The scrambler history after line bit `s`. -/
def push (h : Nat) (s : Bool) : Nat := (2 * h + b2n s) % 2 ^ 58

/-- The scrambled bits of `ds`, from history `h`. -/
def scramble (h : Nat) : List Bool → List Bool
  | [] => []
  | x :: r => let s := xor x (tap h); s :: scramble (push h s) r

/-- The data bits of the line bits `ss`, from history `h`. -/
def descramble (h : Nat) : List Bool → List Bool
  | [] => []
  | s :: r => xor s (tap h) :: descramble (push h s) r

/-- The history after line bits. -/
def after (h : Nat) (ss : List Bool) : Nat := ss.foldl push h

/-! ### Stuffing (R96) -/

/-- Insert the complement after every 40 identical bits; `last` and `n` are the current run. -/
def stuff (last : Bool) (n : Nat) : List Bool → List Bool
  | [] => if n = 40 then [(!last)] else []
  | b :: r =>
    if n = 40 then
      (!last) :: b :: stuff b (if b = !last then 2 else 1) r
    else b :: stuff b (if b = last ∧ n ≠ 0 then n + 1 else 1) r

/-- Remove the bit after every run of 40; the second part says that one of them was no complement. -/
def destuff (last : Bool) (n : Nat) : List Bool → List Bool × Bool
  | [] => ([], false)
  | b :: r =>
    if n = 40 then
      let (o, v) := destuff b 1 r
      (o, v || b = last)
    else
      let (o, v) := destuff b (if b = last ∧ n ≠ 0 then n + 1 else 1) r
      (b :: o, v)

/-! ### Words (R94) -/

/-- The bits of a word, bit 0 first. -/
def wordBits (w : Nat) : List Bool := (List.range 64).map fun i => w.testBit i

/-- A number from bits, the first the least significant. -/
def ofBits : List Bool → Nat
  | [] => 0
  | b :: r => b2n b + 2 * ofBits r

/-- `n` words of a bit string. -/
def words : Nat → List Bool → List Nat
  | 0, _ => []
  | n + 1, bs => ofBits (bs.take 64) :: words n (bs.drop 64)

/-! ### Lane gatherings (R97 to R99) -/

/-- The CRC word of words 1 to 254. -/
def crcWord (ws : List Nat) : Nat := crc32c (ws.flatMap (leBytes 8))

/-- The sync word on the line: 56 ones, then the tag, bit 7 first. -/
def syncBits (tag : Nat) : List Bool := List.replicate 56 true ++ (List.range 8).map fun i => tag.testBit (7 - i)

/-- A lane gathering as the transmitter sends it: `ws` are its words 1 to 254; the guard bit precedes the next sync
word. -/
def encode (h tag : Nat) (ws : List Nat) : List Bool :=
  let line := stuff false 0 (scramble h ((ws ++ [crcWord ws]).flatMap wordBits))
  syncBits tag ++ line ++ (if line.getLast? = some true then [false] else [])

/-- What the receiver makes of one lane's line bits. -/
structure Lane where
  tag : Nat
  words : List Nat
  good : Bool
  history : Nat
deriving DecidableEq, Repr

/-- Receive one lane gathering: it fails on a missing sync word, a stuffing violation or a wrong CRC (R100). -/
def receive (inverted : Bool) (h : Nat) (line : List Bool) : Lane :=
  let line := if inverted then line.map (!·) else line
  let sync := (line.take 56).all id && line.length ≥ 64 && line.getD 56 true = false
  let tag := ofBits ((line.drop 56).take 8).reverse
  let (bs, violation) := destuff false 0 (line.drop 64)
  let bs := bs.take 16320
  let ws := words 255 (descramble h bs)
  { tag := tag, words := ws, history := after h bs,
    good := sync && !violation && ws.getD 254 0 = crcWord (ws.take 254) }

/-- Fields of the gathering header word. -/
def gseq (l : Lane) : Nat := bits (l.words.getD 0 0) 0 32
def first (l : Lane) : Nat := bits (l.words.getD 0 0) 40 12
/-- KIND of a SYNC_TAG. -/
def kind (l : Lane) : Nat := bits l.tag 5 2

/-- The packet area of a group gathering: group packet word w lies on lane w mod L, slot w div L (R98). -/
def packetWords (ls : List Lane) : List Nat :=
  (List.range 253).flatMap fun s => ls.map fun l => l.words.getD (s + 1) 0

/-! ### PRBS sequences (R123) -/

/-- The two taps of a PRBS code. -/
def prbsTaps (code : Nat) : Nat × Nat := match code with | 1 => (7, 6) | 2 => (15, 14) | 3 => (23, 18) | _ => (31, 28)

/-- The next bit of a sequence, from the bits before it (bit 0 the newest). -/
def prbsNext (code h : Nat) : Bool := xor (h.testBit ((prbsTaps code).1 - 1)) (h.testBit ((prbsTaps code).2 - 1))

/-- `n` bits of a PRBS generator. -/
def prbs (code h : Nat) : Nat → List Bool
  | 0 => []
  | n + 1 => let b := prbsNext code h; b :: prbs code ((2 * h + b2n b) % 2 ^ 31) n

end Sys2Proof.Line
end

