-- ==== Sys2Proof/Machine/Link.lean ====
section
/-! DEFINITION. Link: lane groups of Head Link: training, gatherings, packets, binding, CTRL, sparing and test modes
(spec 04 R91 to R125; spec 05 R132). -/

namespace Sys2Proof.Machine

/-- The HLQ page and element of a physical lane (R91). -/
def quad (phys : Nat) : Page × Nat := (Pg.HLQ (phys / 4), phys % 4)

def Dev.lane (d : Dev) (phys : Nat) (F : Fld) : Nat := d.rd (quad phys).1 F (quad phys).2

def Dev.setLane (d : Dev) (phys : Nat) (F : Fld) (v : Nat) : Dev := d.wr (quad phys).1 F v (quad phys).2

/-- The physical lane that serves logical lane `l`. -/
def Dev.physOf (d : Dev) (l : Nat) : Nat := d.rd (Pg.HLL (l / 4)) Reg.HLL.PHYS (l % 4)

/-- The spare registers' page. -/
def sparePage : Page := Pg.HLQ 8

/-- Is the group that starts at lane `g` enabled? -/
def Dev.grpOn (d : Dev) (g : Nat) : Bool := d.grp g Reg.HLL.EN = 1

/-- The enabled group that contains logical lane `l`, with the lanes it came up with. -/
def Dev.groupOfLane (d : Dev) (l : Nat) : Option Nat :=
  (List.range 32).find? fun g => d.grpOn g && g ≤ l && l < g + (d.group g).lanes

/-- Logical lanes of a group in use. -/
def Dev.lanesOf (d : Dev) (g : Nat) : List Nat := seqFrom g (d.group g).lanes

/-- Training states (R114). -/
def DETECT : Nat := 1
def LOCK : Nat := 2
def ALIGN : Nat := 3
def BOND : Nat := 4
def BIND : Nat := 5
def ACTIVE : Nat := 6
def BACKOFF : Nat := 7
def TEST : Nat := 8

def Dev.grpState (d : Dev) (g : Nat) : Nat := d.grp g Reg.HLL.STATE

def Dev.setGrpState (d : Dev) (g v : Nat) : Dev := d.setGrp g Reg.HLL.STATE v

/-- Pixel payload of a group in bit/s (R12, R13). -/
def groupPayload (lanes rate : Nat) : Nat := lanes * ([30000, 24000, 15000, 9600, 6000].getD rate 0) * 1000000

/-- Line rate in Mb/s (R92). -/
def lineRate (rate : Nat) : Nat := [32000, 25600, 16000, 10240, 6400].getD rate 0

/-! ### Leaving ACTIVE (R118, R119, R122) -/

/-- Put a lane on a spare: the map changes (R122 step 3). -/
def Dev.switchSpare (d : Dev) (l s : Nat) : Dev :=
  let old := d.physOf l
  let d := d.wr (Pg.HLL (l / 4)) Reg.HLL.PHYS (32 + s) (l % 4)
  (d.setLane (32 + s) Reg.HLQ.LOGICAL l).setLane old Reg.HLQ.LOGICAL 0x3F

/-- Mark a switch as standing: the old lane is RETIRED and the spare IN_USE (R122 step 5). A spare that is itself spared
keeps its IN_USE and REPLACED until MAP_RESET: DESIGN CHOICE (log 102). -/
def Dev.retireLane (d : Dev) (l s : Nat) : Dev :=
  let d := d.wr (Pg.HLL (l / 4)) Reg.HLL.RETIRED 1 (l % 4)
  (d.wr sparePage Reg.HLQ.SPARE_IN_USE 1 s).wr sparePage Reg.HLQ.SPARE_REPLACED l s

/-- A group leaves ACTIVE or stops: its VCs unbind, its messages and received packets are dropped, a switch made
stands and another is abandoned (R119, R122). -/
def Dev.stopGroup (d : Dev) (g : Nat) : Dev :=
  let active := d.grpState g = ACTIVE
  let d := d.unbindAll g
  let x := d.group g
  let d := match x.sparing with
    | some s => if s.switched then d.retireLane s.lane s.spare else d
    | none => d
  let d := d.setGroup g { x with
    unacked := [], waiting := [], rx := [], partialPkt := none, resync := true,
    goodRun := 0, dataRun := 0, discardRun := 0, timeouts := 0, sparing := none, test := none, openFrames := [],
    dropping := [], offered := 0, spareFailed := [], between := [], sending := [], toSend := [], queued := d.outs.length }
  if active then d.raise (slotOf g).1 0 else d

/-- The transmitters of a group are squelched: its far end stops driving its lanes, which lose signal and lock (R115). -/
def Dev.squelch (d : Dev) (g : Nat) : Dev :=
  (d.lanesOf g).foldl (fun d l => [Reg.HLQ.SIG_DET, Reg.HLQ.CDR_LOCK, Reg.HLQ.SYNC_LOCK].foldl (fun (d : Dev) F =>
    d.setLane (d.physOf l) F 0) d) d

/-- Enter DETECT: the lane count and rate of the slot come into use, the transmitters' scrambler histories are all ones (R92,
R95, R112, R114). -/
def Dev.enterDetect (d : Dev) (g : Nat) : Dev :=
  let n := d.grp g Reg.HLL.LANES
  let d := d.setGroup g { d.group g with lanes := n, rate := d.grp g Reg.HLL.RATE, scrambler := List.replicate n (2 ^ 58 - 1) }
  d.setGrpState g DETECT

/-- A failure of a group: it enters BACKOFF with the next b (R118, R119). -/
def Dev.failGroup (d : Dev) (g code : Nat) : Dev :=
  let st := d.grpState g
  let d := (d.stopGroup g).squelch g
  let n := (d.group g).failures
  let d := d.setGroup g { d.group g with failures := n + 1 }
  let d := ((d.setGrp g Reg.HLL.FAIL_STATE st).setGrp g Reg.HLL.FAIL_CODE code).bump (slotOf g).1 Reg.HLL.FAIL_CNT (slotOf g).2
  let d := (d.setGrp g Reg.HLL.BACKOFF_MS (min 1000 (2 ^ n))).setGrpState g BACKOFF
  if st = ACTIVE then d.event 0 (slotOf g).1 WARN 0x0304 [BitVec.ofNat 8 g, BitVec.ofNat 8 st, BitVec.ofNat 8 code] else d

/-- Enter TEST: the outcome of a failure under R119 without the backoff (R123). FAIL_STATE, FAIL_CODE and FAIL_CNT keep their
values, for R119 has no code of it, and GROUP_FAILED carries the FAIL_CODE that stands: DESIGN CHOICE (log 100). -/
def Dev.enterTest (d : Dev) (g : Nat) : Dev :=
  let st := d.grpState g
  let d := (d.stopGroup g).setGrpState g TEST
  if st = ACTIVE then
    d.event 0 (slotOf g).1 WARN 0x0304 [BitVec.ofNat 8 g, BitVec.ofNat 8 st, BitVec.ofNat 8 (d.grp g Reg.HLL.FAIL_CODE)]
  else d

/-! ### The group slot (R92, R118, R122) -/

/-- May a slot be enabled with these LANES and RATE (R92)? The lanes of another enabled group are those its LANES field reads now,
also after a write that changed it: R92 does not say which count (DESIGN CHOICE, log 132). -/
def Dev.slotFits (d : Dev) (g lanes rate : Nat) : Bool :=
  1 ≤ lanes && lanes ≤ 16 && rate ≤ 4 && g + lanes ≤ 32 &&
  (List.range 32).all fun h => h = g || !d.grpOn h || h + d.grp h Reg.HLL.LANES ≤ g || g + lanes ≤ h

/-- MAP_RESET of a disabled group: the identity map of its lanes, their spares freed (R122). -/
def Dev.mapReset (d : Dev) (g : Nat) : Dev :=
  (seqFrom g (d.grp g Reg.HLL.LANES)).foldl (fun d l =>
    if 32 ≤ l then d
    else
      let d := (List.range 4).foldl (fun d s =>
        if d.on sparePage Reg.HLQ.SPARE_IN_USE s ∧ d.rd sparePage Reg.HLQ.SPARE_REPLACED s = l then
          (d.wr sparePage Reg.HLQ.SPARE_IN_USE 0 s).setLane (32 + s) Reg.HLQ.LOGICAL 0x3F
        else d) d
      let d := (d.wr (Pg.HLL (l / 4)) Reg.HLL.PHYS l (l % 4)).setLane l Reg.HLQ.LOGICAL l
      d.wr (Pg.HLL (l / 4)) Reg.HLL.RETIRED 0 (l % 4)) d

/-- The effect of a write of GRP_CTRL of the slot of lane `g`. A write that clears EN and sets MAP_RESET together performs the
MAP_RESET: R122 says only that it is ignored while EN = 1 (DESIGN CHOICE, log 128). -/
def Dev.grpCtrl (d : Dev) (g v : Nat) : Dev :=
  let en := bitAt v 0
  let lanes := bits v 1 5
  let rate := bits v 8 3
  if en ∧ !d.slotFits g lanes rate then d.error (slotOf g).1 0
  else
    let was := d.grpOn g
    let d := ((d.setGrp g Reg.HLL.LANES lanes).setGrp g Reg.HLL.RATE rate).setGrp g Reg.HLL.SPARE_EN (bits v 16 1)
    let d := d.setGrp g Reg.HLL.EN (b2n en)
    if en then (if was then d else d.enterDetect g)
    else
      let d := if was then ((d.stopGroup g).squelch g).setGrpState g 0 else d
      if bitAt v 24 then d.mapReset g else d

def Dev.grpCtrlWrite (d : Dev) (f g v : Nat) : Dev :=
  d.checkedWrite f (slotOf g).1 (0x100 + 0x20 * (g % 4)) fun d => d.grpCtrl g v

/-! ### Training (R97, R114, R118) -/

/-- Signal on every lane of a group in DETECT (R114). -/
def Dev.signalDetect (d : Dev) (g : Nat) : Dev :=
  if d.grpState g = DETECT then
    let d := (d.lanesOf g).foldl (fun d l => d.setLane (d.physOf l) Reg.HLQ.SIG_DET 1) d
    ((d.setGrpState g LOCK).bump (slotOf g).1 Reg.HLL.ATTEMPT_CNT (slotOf g).2).wakeGroup 32 4
  else d

/-- A physical lane gains sync lock (R97): its polarity is set, its first gathering will be discarded (R95), and the
group goes on when every lane has lock (R114). -/
def Dev.syncLock (d : Dev) (phys : Nat) (inverted : Bool) : Dev :=
  if d.held (quad phys).1 then d
  else
  let d := ((d.setLane phys Reg.HLQ.SYNC_LOCK 1).setLane phys Reg.HLQ.CDR_LOCK 1).setLane phys Reg.HLQ.RX_INVERTED (b2n inverted)
  let l := d.lane phys Reg.HLQ.LOGICAL
  match d.groupOfLane l with
  | none => d
  | some g =>
    let x := d.group g
    let d := d.setGroup g { x with fresh := if l ∈ x.fresh then x.fresh else l :: x.fresh }
    if d.grpState g = LOCK ∧ (d.lanesOf g).all (fun l => d.lane (d.physOf l) Reg.HLQ.SYNC_LOCK = 1) then d.setGrpState g ALIGN
    else d

/-- Can a spare take lane `l` (R121)? The spare, if so. -/
def Dev.spareFor (d : Dev) (g l : Nat) : Option Nat :=
  let x := d.group g
  if d.grp g Reg.HLL.SPARE_EN = 1 ∧ x.sparing.isNone ∧ x.vcs.all (fun e => e.2.spareOk) then
    (List.range 4).find? fun s => d.on sparePage Reg.HLQ.SPARE_VALID s && d.rd sparePage Reg.HLQ.SPARE_GROUP s = g &&
      !d.on sparePage Reg.HLQ.SPARE_IN_USE s && d.physOf l != 32 + s
  else none

/-- A physical lane loses sync lock: an ACTIVE group fails unless a spare can replace the lane (R97, R119). -/
def Dev.syncLoss (d : Dev) (phys : Nat) : Dev :=
  let l := d.lane phys Reg.HLQ.LOGICAL
  let d := d.setLane phys Reg.HLQ.SYNC_LOCK 0
  match d.groupOfLane l with
  | none => d
  | some g =>
    let spared := match (d.group g).sparing with
      | some s => s.lane = l
      | none => (d.spareFor g l).isSome
    if d.grpState g = ACTIVE ∧ !spared then d.failGroup g 2 else d

/-- A training timer runs out (R114). -/
def Dev.trainingTimeout (d : Dev) (g : Nat) : Dev :=
  if LOCK ≤ d.grpState g ∧ d.grpState g ≤ BIND then d.failGroup g 1 else d

/-- The backoff ends (R118). -/
def Dev.backoffExpiry (d : Dev) (g : Nat) : Dev := if d.grpState g = BACKOFF then d.enterDetect g else d

/-- The group was ACTIVE for 10 s (R118). -/
def Dev.backoffReset (d : Dev) (g : Nat) : Dev :=
  if d.grpState g = ACTIVE then (d.setGroup g { d.group g with failures := 0 }).setGrp g Reg.HLL.BACKOFF_MS 1 else d

/-! ### Packets (R98, R100, R101, R110) -/

/-- TYPE, VC and WORDS of a header. -/
def pType (h : Nat) : Nat := bits h 0 4
def pVc (h : Nat) : Nat := bits h 4 4
def pWords (h : Nat) : Nat := bits h 8 13

/-- Lay packet words onto the packet being received; its words stand newest first. -/
def feedWord (at_ : Nat) (a : Option Packet × List Packet) (w : Nat) : Option Packet × List Packet :=
  match a.1 with
  | some p =>
    let p := { p with words := w :: p.words }
    if p.words.length = pWords p.header then (none, { p with words := p.words.reverse } :: a.2) else (some p, a.2)
  | none => if pWords w = 0 then (none, ⟨w, [], at_⟩ :: a.2) else (some ⟨w, [], at_⟩, a.2)

/-- Handle one received packet: IDLE and upstream-unknown packets end here, a CTRL packet is sequenced and acknowledged
(R110), the others wait for their command. -/
def Dev.takePacket (d : Dev) (g : Nat) (p : Packet) : Dev :=
  let x := d.group g
  let keep := fun (d : Dev) => let y := d.group g; d.setGroup g { y with rx := y.rx ++ [p] }
  match pType p.header with
  | 0x0 => d
  | 0x1 | 0x2 => keep (d.setGroup g { x with between := if pVc p.header ∈ x.between then x.between else pVc p.header :: x.between })
  | 0x3 => keep (d.setGroup g { x with between := x.between.filter (· ≠ pVc p.header) })
  | 0x4 | 0xB => keep d
  | 0x9 => if bits p.header 21 8 = 0x11 then keep d else d
  | 0xA => d
  | 0x8 =>
    let d := if bits p.header 21 16 = x.rxSeq then
        let d := d.setGroup g { x with rxSeq := (x.rxSeq + 1) % 65536 }
        if bits p.header 37 8 ∈ [0x41, 0x42, 0x43, 0x44, 0x46] then keep d else d
      else d
    d.emit (.ack g (d.group g).rxSeq)
  | _ => d.bump (Pg.HLL (g / 4)) Reg.HLL.UNKNOWN_CNT

/-- A frame's row is open while gatherings of its group are lost (R139). -/
def Dev.hurtRows (d : Dev) (g : Nat) : Dev :=
  (d.group g).openFrames.foldl (fun d o => d.updFrame o.2 fun f => match f.row with
    | some r => if r ∈ f.hurt then f else { f with hurt := r :: f.hurt }
    | none => f) d

/-- Count `n` failures of a lane in its window (R121). -/
def Dev.countLane (d : Dev) (g l n : Nat) : Dev :=
  let x := d.group g
  let c := min 65535 ((Assoc.find x.window l).getD 0 + n)
  (d.setGroup g { x with window := Assoc.put x.window l c }).wr (Pg.HLL (l / 4)) Reg.HLL.CRC_WIN (min 255 c) (l % 4)

/-- Sparing of a lane starts, or is reported unavailable once per window (R121, R122 step 1). -/
def Dev.spareBegin (d : Dev) (g l : Nat) : Dev :=
  let x := d.group g
  match d.spareFor g l with
  | some s => (d.setGroup g { x with sparing := some { lane := l, spare := s, old := d.physOf l } }).ctrlSend g 0 0x06 [l]
  | none =>
    if l ∈ x.spareWarned then d
    else ((d.setGroup g { x with spareWarned := l :: x.spareWarned }).event 0 (slotOf g).1 WARN 0x0301).raise (slotOf g).1 4

/-- Has a lane's count reached the threshold (R121)? -/
def Dev.spareDue (d : Dev) (g l : Nat) : Bool :=
  d.grpState g = ACTIVE && d.rd (Pg.HLL (l / 4)) Reg.HLL.LANE_SPARE_THRESH ≤ (Assoc.find (d.group g).window l).getD 0

/-- A lane's window ends: its count restarts (R121); a lane whose sparing failed in an earlier window is tried again if the
count has reached the threshold (R122). -/
def Dev.endWindow (d : Dev) (g l : Nat) : Dev :=
  let x := d.group g
  let d := match Assoc.find x.spareFailed l with
    | none => d
    | some false => d.setGroup g { x with spareFailed := Assoc.put x.spareFailed l true }
    | some true => if d.spareDue g l then (d.setGroup g { x with spareFailed := Assoc.del x.spareFailed l }).spareBegin g l else d
  let x := d.group g
  (d.setGroup g { x with window := Assoc.put x.window l 0, spareWarned := x.spareWarned.filter (· ≠ l) }).wr
    (Pg.HLL (l / 4)) Reg.HLL.CRC_WIN 0 (l % 4)

/-- One more gathering of every lane's window (R121). -/
def Dev.stepWindows (d : Dev) (g : Nat) : Dev :=
  let x := d.group g
  let pos := x.windowPos + 1
  (d.lanesOf g).foldl (fun d l => if pos % 2 ^ d.rd (Pg.HLL (l / 4)) Reg.HLL.WINDOW_LOG2 = 0 then d.endWindow g l else d)
    (d.setGroup g { x with windowPos := pos })

/-- A ROWS packet that runs into a discarded gathering keeps the words before it (R100, example after R140). -/
def Dev.cutPacket (d : Dev) (g : Nat) : Dev :=
  let x := d.group g
  match x.partialPkt with
  | some p => if pType p.header = 0x2 then d.setGroup g { x with rx := x.rx ++ [{ p with words := p.words.reverse }] } else d
  | none => d

/-- Discard a group gathering (R100); `failed` are the lanes that failed. -/
def Dev.discardGathering (d : Dev) (g : Nat) (failed : List Nat) : Dev :=
  let d := failed.foldl (fun d l => (d.bump (Pg.HLL (l / 4)) Reg.HLL.CRC_CNT (l % 4)).countLane g l 1) d
  let d := d.bump (slotOf g).1 Reg.HLL.DISCARD_CNT (slotOf g).2
  let d := d.cutPacket g
  let d := if (d.group g).rx = [] then d.hurtRows g
    else let y := d.group g; d.setGroup g { y with rx := y.rx ++ [⟨0, [], 0⟩] }
  let x := d.group g
  let d := d.setGroup g { x with partialPkt := none, resync := true, goodRun := 0, dataRun := 0,
                                 discardRun := x.discardRun + 1 }
  if d.grpState g = ACTIVE ∧ 1024 ≤ x.discardRun + 1 then d.failGroup g 3 else d

/-- Picoseconds in 2^-32 ns. -/
def psUnits (p : Int) : Int := p * 2 ^ 32 / 1000

/-- Parse the packet area of a good group gathering (R98, R100, R111). -/
def Dev.parse (d : Dev) (g : Nat) (ls : List Line.Lane) : Dev :=
  let x := d.group g
  let at_ := (d.now - psUnits (sgn 16 (d.grp g Reg.HLL.RX_ASYM_PS))).toNat
  let first := Line.first (ls.getD 0 ⟨0, [], false, 0⟩)
  let ws := Line.packetWords ls
  if x.resync ∧ first = 0xFFF then d
  else
    let (ws, p) := if x.resync then (ws.drop first, none) else (ws, x.partialPkt)
    let (p, done) := ws.foldl (feedWord at_) (p, [])
    let d := d.setGroup g { x with partialPkt := p, resync := false }
    done.reverse.foldl (fun d p => d.takePacket g p) d

/-- A group gathering arrives: the line bits of each lane, or none where the sync word is missing (R95 to R100, R114,
R115). -/
def Dev.gathering (d : Dev) (g : Nat) (lines : List (Option (List Bool))) : Dev :=
  let st := d.grpState g
  if st < ALIGN ∨ ACTIVE < st then d
  else
    let lanes := d.lanesOf g
    let got := lanes.zipIdx.map fun e =>
      let h := (Assoc.find (d.group g).history e.1).getD 0
      match (lines.getD e.2 none) with
      | some b => Line.receive (d.lane (d.physOf e.1) Reg.HLQ.RX_INVERTED = 1) h b
      | none => ⟨0, [], false, h⟩
    let x := d.group g
    let d := d.setGroup g { x with history := (lanes.zip got).foldl (fun a e => Assoc.put a e.1 e.2.history) x.history,
                                   fresh := x.fresh.filter fun l => l ∉ lanes }
    if x.fresh.any fun l => l ∈ lanes then d
    else
      let d := d.stepWindows g
      let failed := ((lanes.zip got).filter fun e => !e.2.good).map (·.1)
      if failed ≠ [] ∨ got.any (fun l => 2 ≤ Line.kind l) then d.discardGathering g failed
      else
        let x := d.group g
        let data := got.all fun l => Line.kind l = 0
        let x := { x with discardRun := 0, goodRun := x.goodRun + 1, dataRun := if data then x.dataRun + 1 else 0,
                          lastGseq := some (Line.gseq (got.getD 0 ⟨0, [], false, 0⟩)) }
        let d := d.setGroup g x
        if st = ALIGN then
          if got.all fun l => Line.gseq l = Line.gseq (got.getD 0 ⟨0, [], false, 0⟩) then
            (d.setGroup g { x with goodRun := 0, dataRun := 0 }).setGrpState g BOND
          else d
        else if st = BOND then
          if 64 ≤ x.goodRun ∧ 16 ≤ x.dataRun then
            (d.setGroup g { x with txSeq := 0, rxSeq := 0, unacked := [], waiting := [], resync := true, timeouts := 0,
                                   offered := 0 }).setGrpState g BIND
          else d
        else d.parse g got

/-! ### Taking the next packet of a kind -/

/-- The front packet of a group when `sel` accepts it; marks of lost gatherings before it take effect (R139). -/
def Dev.popPacket (d : Dev) (g : Nat) (sel : Packet → Bool) : Option (Packet × Dev) :=
  let x := d.group g
  let rec go (d : Dev) : List Packet → Option (Packet × Dev)
    | [] => none
    | p :: r =>
      if p.header = 0 then go (d.hurtRows g) r
      else if sel p then some (p, d.setGroup g { d.group g with rx := r }) else none
  go d x.rx

/-- Run `k` on the front packet when its TYPE is `t`. -/
def Dev.onPacket (d : Dev) (g t : Nat) (k : Dev → Packet → Dev) : Dev :=
  match d.popPacket g (fun p => pType p.header = t) with
  | none => d
  | some (p, d) => k d p

/-- Run `k` on the front CTRL packet when its MSG is `m`. -/
def Dev.onCtrl (d : Dev) (g m : Nat) (k : Dev → Packet → Dev) : Dev :=
  match d.popPacket g (fun p => pType p.header = 0x8 && bits p.header 37 8 = m) with
  | none => d
  | some (p, d) => k d p

/-! ### Configuration of a head (R132, R296) -/

/-- DSP page and element of a feed (R294). -/
def feedAt (f : Nat) : Page × Nat := (Pg.DSP (f / 2), f % 2)

def Dev.feed (d : Dev) (f : Nat) (F : Fld) : Nat := d.rdA (feedAt f).1 F (feedAt f).2

/-- Bits of a feed's pixel, and CHROMA and DEPTH of the output that suits it (R295). -/
def feedFormat (n : Nat) : Nat × Nat × Nat := [(20, 2, 10), (16, 2, 8), (24, 0, 8), (30, 0, 10)].getD n (0, 9, 0)

/-- A feed's bit rate, as a fraction (R295). -/
def Dev.feedRate (d : Dev) (f : Nat) : Nat × Nat :=
  ((ceilDiv (d.feed f Reg.DSP.F_WIDTH * (feedFormat (d.feed f Reg.DSP.F_FORMAT)).1) 64 + 1) * 64 * d.feed f Reg.DSP.F_HEIGHT *
    d.feed f Reg.DSP.F_FPS_NUM, max 1 (d.feed f Reg.DSP.F_FPS_DEN))

/-- Head-return budget of a group in bit/s (R112). -/
def Dev.feedBudget (d : Dev) (g : Nat) : Nat := (d.group g).lanes * lineRate (d.group g).rate * 875000

/-- The group that carries a feed's head. -/
def Dev.feedGroup (d : Dev) (f : Nat) : Option Nat := (d.head (d.feed f Reg.DSP.F_HEAD)).vc.map (·.1)

/-- Enabled feeds whose heads are bound on a group. -/
def Dev.groupFeeds (d : Dev) (g : Nat) : List Nat :=
  (List.range 32).filter fun f => d.feed f Reg.DSP.F_EN = 1 && d.feedGroup f = some g

/-- Do feeds stay within the head-return budget of a group (R112)? -/
def Dev.feedsFit (d : Dev) (g : Nat) (fs : List Nat) : Bool := fracWithin (fracSum (fs.map d.feedRate)) (d.feedBudget g)

/-- Does a feed, with the enabled feeds of its head's group, stay within the budget (R112)? -/
def Dev.feedFits (d : Dev) (f : Nat) : Bool :=
  match d.feedGroup f with
  | none => true
  | some g => let fs := d.groupFeeds g; d.feedsFit g (if f ∈ fs then fs else fs ++ [f])

/-- Feeds of a group that are sent: in ascending number while they fit (R112); one that does not fit is passed over, and
later ones that fit are sent: DESIGN CHOICE (log 101). -/
def Dev.feedsSent (d : Dev) (g : Nat) : List Nat :=
  (d.groupFeeds g).foldl (fun l f => if d.feedsFit g (l ++ [f]) then l ++ [f] else l) []

/-- FEED_BUDGET of a feed that its head's group cannot carry, once per binding (R112). -/
def Dev.budgetWarn (d : Dev) (g f : Nat) : Dev :=
  match (d.head (d.feed f Reg.DSP.F_HEAD)).vc with
  | none => d
  | some (_, vc) => match Assoc.find (d.group g).vcs vc with
    | none => d
    | some b =>
      if b.budgetWarned then d
      else
        let x := d.group g
        (d.setGroup g { x with vcs := Assoc.put x.vcs vc { b with budgetWarned := true } }).event (d.pageOwner (feedAt f).1) (feedAt f).1
          WARN 0x0706 [BitVec.ofNat 8 f]

/-- A head binds on a group, or its rate has changed: the feeds that it cannot carry are reported (R112). -/
def Dev.budgetCheck (d : Dev) (g : Nat) : Dev :=
  ((d.groupFeeds g).filter fun f => f ∉ d.feedsSent g).foldl (fun d f => d.budgetWarn g f) d

/-- The frames of a feed of which lines wait are dropped (R294, R296). -/
def Dev.dropRows (d : Dev) (f : Nat) (sel : Nat → Bool) : Dev :=
  match Assoc.find d.pip.feeds f with
  | none => d
  | some x =>
    let n := ((x.rows.map (·.1)).filter sel).eraseDups.length
    let d : Dev := { d with pip := { d.pip with feeds := Assoc.put d.pip.feeds f { x with rows := x.rows.filter fun r => !sel r.1 } } }
    if n = 0 then d else d.bump (feedAt f).1 Reg.DSP.F_FEED_DROP_CNT (feedAt f).2 n

/-- Payload of RETVID_CFG of a feed (R296). -/
def Dev.feedConfig (d : Dev) (f : Nat) : List Nat :=
  [f + d.feed f Reg.DSP.F_EN * 2 ^ 8 + d.feed f Reg.DSP.F_FORMAT % 8 * 2 ^ 9 + d.feed f Reg.DSP.F_WIDTH * 2 ^ 16 +
     d.feed f Reg.DSP.F_HEIGHT * 2 ^ 32 + d.feed f Reg.DSP.F_COLOUR * 2 ^ 48,
   d.feed f Reg.DSP.F_FPS_NUM + d.feed f Reg.DSP.F_FPS_DEN * 2 ^ 32]

/-- Send RETVID_CFG of a feed to its head: packets wait for its acknowledgement, frames under way are dropped (R296). -/
def Dev.sendFeedConfig (d : Dev) (f : Nat) : Dev :=
  let d := d.dropRows f fun _ => true
  match (d.head (d.feed f Reg.DSP.F_HEAD)).vc with
  | none => d
  | some (g, vc) =>
    let s := (d.group g).txSeq
    let d := { d with cap := { d.cap with feedWait := Assoc.put d.cap.feedWait f (g, s) } }
    d.ctrlSend g vc 0x0A (d.feedConfig f)

/-- Feeds bound to a head: enabled entries that name it. -/
def Dev.feedsOf (d : Dev) (h : Nat) : List Nat :=
  (List.range 32).filter fun f => d.feed f Reg.DSP.F_EN = 1 && d.feed f Reg.DSP.F_HEAD = h

/-- Send the configuration of a head under a new SSQ (R132). -/
def Dev.sendConfig (d : Dev) (h : Nat) : Dev :=
  match d.ctxOfHead h, (d.head h).vc with
  | some c, some (g, _) =>
    let bank := (d.ctx c).projected
    let s0 := (d.group g).txSeq
    let d := (d.sendSettings h bank).sendSchedule h
    let d := (d.feedsOf h).foldl (fun d f => d.sendFeedConfig f) d
    let n := ((d.group g).txSeq + 65536 - s0) % 65536
    let x := d.head h
    d.setHead h { x with cfg := some (x.ssq, crc32c (Pb.headBytes bank)), cfgWait := (seqFrom s0 n).map (· % 65536) }
  | _, _ => d

/-- Owner of a context (R301). -/
def Dev.ctxOwner (d : Dev) (c : Nat) : PartId := d.ownerOf 0 c

/-- Start the configuration sequence of a head in CONFIG that has a context (R132). -/
def Dev.startConfig (d : Dev) (h : Nat) : Dev :=
  match d.ctxOfHead h, (d.head h).vc with
  | some c, some (g, vc) =>
    let crc := crc32c (Pb.headBytes (d.ctx c).projected)
    let d := match Assoc.find (d.group g).vcs vc with
      | some b => if b.digest = crc then d else d.event (d.ctxOwner c) (Pg.ING (d.unitOf h)) INFO 0x040B
      | none => d
    d.sendConfig h
  | _, _ => d

/-! ### Binding (R116, R117) -/

/-- Head ID and VALID of the VCMAP entry of VC `v` of a group. -/
def Dev.vcmap (d : Dev) (g v : Nat) : Nat × Bool :=
  let i := 16 * (g % 4) + v
  (d.rd (Pg.HLL (g / 4)) Reg.HLL.HEAD_ID i, d.on (Pg.HLL (g / 4)) Reg.HLL.VALID i)

/-- Is a head, or a HEAD_UID, bound on any VC? -/
def Dev.boundAny (d : Dev) (sel : Binding → Bool) : Bool := d.cap.groups.any fun e => e.2.vcs.any fun v => sel v.2

/-- The REASON that refuses an offer, if one does (R117). -/
def Dev.refusal (d : Dev) (g v : Nat) (b : Binding) (version : Nat) : Option Nat :=
  let (hid, valid) := d.vcmap g v
  let x := d.group g
  if version ≠ 0x0100 then some 4
  else if !valid ∨ 252 ≤ hid then some 2
  else if d.boundAny fun y => y.uid = b.uid then some 3
  else if d.boundAny fun y => y.head = hid then some 5
  else if groupPayload x.lanes x.rate < (x.vcs.foldl (fun a e => a + e.2.pixelRate) 0) + b.pixelRate then some 1
  else none

/-- BIND_OFFER: accept or refuse (R117), then configure the head (R132). -/
def Dev.bindOffer (d : Dev) (g : Nat) : Dev :=
  if d.grpState g ≠ BIND ∧ d.grpState g ≠ ACTIVE then d
  else d.onCtrl g 0x41 fun d p =>
    let v := pVc p.header
    let w := fun i => p.words.getD i 0
    let d := d.unbindVc g v
    let hid := (d.vcmap g v).1
    let b : Binding := {
      head := hid, uid := w 0, model := bits (w 1) 0 32, fwRev := bits (w 1) 32 32, pixelRate := w 2,
      lead := bits (w 3) 0 4, spareOk := bitAt (w 3) 4, teCap := bitAt (w 3) 5, retvidCap := bitAt (w 3) 6,
      digest := bits (w 3) 32 32 }
    let d := d.setGroup g { d.group g with offered := (d.group g).offered ||| 2 ^ v }
    match d.refusal g v b (bits (w 3) 16 16) with
    | some r => (d.ctrlSend g v 0x02 [r, b.uid]).raise (slotOf g).1 2
    | none =>
      let x := d.group g
      let d := d.setGroup g { x with vcs := Assoc.put x.vcs v b }
      let d := d.setGrp g Reg.HLL.VC_BOUND (d.grp g Reg.HLL.VC_BOUND ||| 2 ^ v)
      let hd := d.head hid
      let d := d.setHead hid { hd with vc := some (g, v), lastCid := none, cfg := none, cfgWait := [], dropped := [], dead := [] }
      let d := d.ctrlSend g v 0x01 [hid + 0x0100 * 2 ^ 16 + hd.ssq * 2 ^ 32, b.uid]
      (((d.setAdmit hid 1).startConfig hid).budgetCheck g).raise (slotOf g).1 1

/-- BIND_DONE: the group becomes ACTIVE when every offered VC was answered (R114, R115). -/
def Dev.bindDone (d : Dev) (g : Nat) : Dev :=
  d.onCtrl g 0x42 fun d p =>
    let mask := bits (p.words.getD 0 0) 0 16
    if d.grpState g = BIND ∧ mask &&& (d.group g).offered = mask then d.setGrpState g ACTIVE else d

/-- A write of a VCMAP entry (R119): effective at the VC's next binding; UNBIND ends the binding at once. -/
def Dev.vcmapWrite (d : Dev) (f g v value : Nat) : Dev :=
  let i := 16 * (g % 4) + v
  d.checkedWrite f (slotOf g).1 (0x200 + 4 * i) fun d =>
    let d := (d.wr (slotOf g).1 Reg.HLL.HEAD_ID (bits value 0 8) i).wr (slotOf g).1 Reg.HLL.VALID (bits value 8 1) i
    if bitAt value 9 ∧ Assoc.has (d.group g).vcs v then (d.ctrlSend g v 0x09 []).unbindVc g v else d

/-! ### Acknowledgements (R110) -/

/-- Is a SEQ of a group still unacknowledged? -/
def Group.outstanding (x : Group) (s : Nat) : Bool := (x.unacked ++ x.waiting).any fun m => m.seq = s

/-- Sparing ends at the ACK of SPARE_COMMIT (R122 step 5). -/
def Dev.spareDone (d : Dev) (g : Nat) : Dev :=
  let x := d.group g
  match x.sparing with
  | none => d
  | some s => match s.commitSeq with
    | none => d
    | some q =>
      if x.outstanding q then d
      else
        let d := (d.setGroup g { x with sparing := none }).retireLane s.lane s.spare
        (d.event 0 (slotOf g).1 INFO 0x0302).raise (slotOf g).1 3

/-- The named lanes enter far-end loopback at the ACK of TEST (R125). -/
def Dev.testAcked (d : Dev) (g : Nat) : Dev :=
  let x := d.group g
  match x.test with
  | none => d
  | some t => if x.outstanding t.seq then d else d.enterTest g

/-- An ACK retires the messages before NEXT_SEQ; waiting ones take their places in the window (R110). -/
def Dev.ackArrives (d : Dev) (g : Nat) : Dev :=
  d.onPacket g 0xB fun d p =>
    let next := bits p.header 21 16
    let x := d.group g
    match x.unacked with
    | [] => d
    | m :: _ =>
      let n := (next + 65536 - m.seq) % 65536
      if n = 0 ∨ x.unacked.length < n then d
      else
        let left := x.unacked.drop n
        let more := x.waiting.take (64 - left.length)
        let d := d.setGroup g { x with unacked := left ++ more, waiting := x.waiting.drop more.length, timeouts := 0 }
        let d := more.foldl (fun d m => d.emit (.ctrl g m)) d
        let d := { d with cap := { d.cap with
          feedWait := d.cap.feedWait.filter fun (e : Nat × Nat × Nat) => e.2.1 ≠ g || (d.group g).outstanding e.2.2,
          heads := d.cap.heads.map fun (e : Nat × Head) =>
            if e.2.vc.map Prod.fst = some g then (e.1, { e.2 with cfgWait := e.2.cfgWait.filter (d.group g).outstanding }) else e } }
        (d.spareDone g).testAcked g

/-- The oldest message times out: every unacknowledged one is sent again, or after 16 timeouts the group fails (R110). -/
def Dev.ackTimeout (d : Dev) (g : Nat) : Dev :=
  let x := d.group g
  if x.unacked = [] then d
  else if 16 ≤ x.timeouts + 1 then d.failGroup g 4
  else
    let d := (d.setGroup g { x with timeouts := x.timeouts + 1 }).bump (slotOf g).1 Reg.HLL.CTRL_RETX_CNT (slotOf g).2
      x.unacked.length
    x.unacked.foldl (fun d m => d.emit (.ctrl g m)) d

/-! ### Time (R111) -/

/-- Answer a DREQ with DRESP (R111). -/
def Dev.delayRequest (d : Dev) (g : Nat) : Dev :=
  d.onPacket g 0x9 fun d p =>
    let x := d.group g
    let d := d.setGroup g { x with dresp := (x.dresp + 1) % 65536 }
    d.emit (.time g 0x02 x.dresp [p.at_ / 2 ^ 32 % 2 ^ 64, p.at_ % 2 ^ 32 + bits (p.words.getD 0 0) 0 16 * 2 ^ 32])

/-- Send SYNC in the group gathering whose first line bit leaves the pins at `ref` (R111). -/
def Dev.timeSync (d : Dev) (g ref : Nat) : Dev :=
  if d.grpState g = BIND ∨ d.grpState g = ACTIVE then
    let x := d.group g
    let (t1, d) := match x.syncAt with
      | some t => (t, d)
      | none => (d.freeNow 64 * 2 ^ 32, d.freeStep)
    let t := (ref + psUnits (sgn 16 (d.grp g Reg.HLL.TX_ASYM_PS))).toNat
    let d := d.setGroup g { x with sync := (x.sync + 1) % 65536, syncAt := some t }
    d.emit (.time g 0x01 x.sync [t1 / 2 ^ 32 % 2 ^ 64, t1 % 2 ^ 32 + (x.sync + 65535) % 65536 * 2 ^ 32])
  else d

/-! ### Sparing (R121, R122) -/

/-- STATUS adds the far end's failures to the lanes' windows (R107, R121). -/
def Dev.statusReport (d : Dev) (g : Nat) : Dev :=
  d.onCtrl g 0x43 fun d p =>
    (d.lanesOf g).zipIdx.foldl (fun d e =>
      let n := bits (p.words.getD (e.2 / 4) 0) (16 * (e.2 % 4)) 16
      if n = 0 then d else d.countLane g e.1 n) d

/-- A lane's count reached the threshold: sparing starts or is reported unavailable once per window (R121, R122). -/
def Dev.spareThreshold (d : Dev) (l : Nat) : Dev :=
  match d.groupOfLane l with
  | none => d
  | some g =>
    let x := d.group g
    let busy : Bool := match x.sparing with
      | some s => s.lane = l
      | none => false
    if !d.spareDue g l || busy || Assoc.has x.spareFailed l then d else d.spareBegin g l

/-- SPARE_READY (R122 step 2). -/
def Dev.spareReady (d : Dev) (g : Nat) : Dev :=
  d.onCtrl g 0x44 fun d p =>
    let x := d.group g
    match x.sparing with
    | some s => if s.lane = bits (p.words.getD 0 0) 0 5 then d.setGroup g { x with sparing := some { s with ready := true } } else d
    | none => d

/-- SPARE_READY did not arrive within 10 ms (R122). -/
def Dev.spareReadyTimeout (d : Dev) (g : Nat) : Dev :=
  let x := d.group g
  match x.sparing with
  | some s =>
    if s.ready then d
    else
      let x := { x with sparing := none, spareFailed := Assoc.put x.spareFailed s.lane false }
      let d := (d.setGroup g x).ctrlSend g 0 0x07 [s.lane + 2 ^ 8]
      (d.event 0 (slotOf g).1 WARN 0x0303).raise (slotOf g).1 4
  | none => d

/-- Switch the receiver to the spare, which has sync lock, and send SPARE_COMMIT (R122 steps 2 to 4). -/
def Dev.commitSpare (d : Dev) (g : Nat) : Dev :=
  let x := d.group g
  match x.sparing with
  | some s =>
    if !s.ready ∨ s.switched ∨ d.lane (32 + s.spare) Reg.HLQ.SYNC_LOCK = 0 then d
    else
      let d := d.switchSpare s.lane s.spare
      let d := d.setGroup g { d.group g with sparing := some { s with switched := true, commitSeq := some (d.group g).txSeq } }
      d.ctrlSend g 0 0x07 [s.lane]
  | none => d

/-- The switch at a gathering that begins while no bound VC is between FHDR and FTRL (R122 step 3): as the packets received say,
also of a frame that was discarded at its FHDR or closed before its FTRL. -/
def Dev.spareSwitch (d : Dev) (g : Nat) : Dev :=
  let x := d.group g
  if x.between.all fun v => !Assoc.has x.vcs v then d.commitSpare g else d

/-! ### Test modes (R123 to R125) -/

/-- Do all lanes of a group have LOOPBACK and PRBS_GEN at 0? -/
def Dev.testOff (d : Dev) (g : Nat) : Bool :=
  (d.lanesOf g).all fun l => d.lane (d.physOf l) Reg.HLQ.LOOPBACK = 0 && d.lane (d.physOf l) Reg.HLQ.PRBS_GEN = 0

/-- The fields of a write of LANE_CTRL. -/
def Dev.laneCtrlFields (d : Dev) (phys v : Nat) : Dev :=
  let d := if d.lane phys Reg.HLQ.PRBS_CHK = bits v 8 3 then d
    else { d with cap := { d.cap with prbs := Assoc.del d.cap.prbs phys } }.setLane phys Reg.HLQ.PRBS_LOCK 0
  (((d.setLane phys Reg.HLQ.LOOPBACK (bits v 0 3)).setLane phys Reg.HLQ.PRBS_GEN (bits v 4 3)).setLane phys Reg.HLQ.PRBS_CHK
    (bits v 8 3)).setLane phys Reg.HLQ.TX_POL (bits v 16 1)

/-- A write of LANE_CTRL of a physical lane (R123, R125). One that repeats 0b100 for a lane of a TEST under way changes its other
fields. FE_REFUSED stays until a reset clears it: R125 does not say when it clears (DESIGN CHOICE, log 129). -/
def Dev.laneCtrl (d : Dev) (phys v : Nat) : Dev :=
  let loop := bits v 0 3
  match d.groupOfLane (d.lane phys Reg.HLQ.LOGICAL) with
  | none => if loop = 4 then d.setLane phys Reg.HLQ.FE_REFUSED 1 else d.laneCtrlFields phys v
  | some g =>
    let named : Bool := (d.group g).test.isSome && d.lane phys Reg.HLQ.LOOPBACK = 4
    if loop = 4 ∧ !(d.grpState g = ACTIVE && named) then
      if d.grpState g ≠ ACTIVE ∨ (d.group g).test.isSome then d.setLane phys Reg.HLQ.FE_REFUSED 1
      else
        let d := d.laneCtrlFields phys v
        let mask := (d.lanesOf g).zipIdx.foldl (fun a e =>
          if d.lane (d.physOf e.1) Reg.HLQ.LOOPBACK = 4 then a + 2 ^ e.2 else a) 0
        let x := d.group g
        (d.setGroup g { x with test := some ⟨x.txSeq, mask⟩ }).ctrlSend g 0 0x08
          [d.lane phys Reg.HLQ.FE_DURATION + mask * 2 ^ 16]
    else
      let d := d.laneCtrlFields phys v
      if d.grpState g = TEST then
        if d.testOff g then
          ((d.setGroup g { d.group g with failures := 0 }).setGrp g Reg.HLL.BACKOFF_MS 1).enterDetect g
        else d
      else if loop = 1 ∨ loop = 2 ∨ (bits v 4 3 ≠ 0 ∧ loop ≠ 4) then d.enterTest g
      else d

def Dev.laneCtrlWrite (d : Dev) (f phys v : Nat) : Dev :=
  d.checkedWrite f (quad phys).1 (0x100 + 0x40 * (phys % 4)) fun d => d.laneCtrl phys v

/-- One received bit through a checker (R124): it seeds from the received bits, locks after 256 correct ones, and loses
lock at 64 errors within 256. Answers the checker, bits and errors counted, and lock losses. -/
def checkBit (code : Nat) (a : Checker × Nat × Nat × Nat) (b : Bool) : Checker × Nat × Nat × Nat :=
  let (c, n, e, l) := a
  let p := Line.prbsNext code c.history
  if c.locked then
    let flags := ((b != p) :: c.flags).take 256
    if 64 ≤ (flags.filter id).length then ({}, n + 1, e + b2n (b != p), l + 1)
    else ({ c with history := (2 * c.history + b2n p) % 2 ^ 31, flags := flags }, n + 1, e + b2n (b != p), l)
  else
    let h := (2 * c.history + b2n b) % 2 ^ 31
    if c.filled < (Line.prbsTaps code).1 then ({ c with history := h, filled := c.filled + 1 }, n, e, l)
    else if b = p then
      let run := c.run + 1
      if 256 ≤ run then ({ c with history := h, run := run, locked := true, flags := [] }, n, e, l)
      else ({ c with history := h, run := run }, n, e, l)
    else ({ c with history := h, run := 0 }, n, e, l)

/-- The checker of a physical lane receives bits of a test sequence (R124). -/
def Dev.prbsReceive (d : Dev) (phys : Nat) (bs : List Bool) : Dev :=
  let code := d.lane phys Reg.HLQ.PRBS_CHK
  if code = 0 ∨ 5 ≤ code then d
  else
    let (c, n, e, l) := bs.foldl (checkBit code) ((Assoc.find d.cap.prbs phys).getD {}, 0, 0, 0)
    let d := { d with cap := { d.cap with prbs := Assoc.put d.cap.prbs phys c } }
    let q := quad phys
    let sat48 := fun (x : Nat) => min x (2 ^ 48 - 1)
    let d := d.wr64 q.1 Reg.HLQ.PRBS_BITS_LO Reg.HLQ.PRBS_BITS_HI
      (sat48 (d.rd64 q.1 Reg.HLQ.PRBS_BITS_LO Reg.HLQ.PRBS_BITS_HI q.2 + n)) q.2
    let d := d.wr64 q.1 Reg.HLQ.PRBS_ERR_LO Reg.HLQ.PRBS_ERR_HI
      (sat48 (d.rd64 q.1 Reg.HLQ.PRBS_ERR_LO Reg.HLQ.PRBS_ERR_HI q.2 + e)) q.2
    (d.bump q.1 Reg.HLQ.LOCK_LOSS_CNT q.2 l).setLane phys Reg.HLQ.PRBS_LOCK (b2n c.locked)

/-- Bits that bring an unlocked checker to lock. -/
def Dev.prbsLock (d : Dev) (phys : Nat) (bs : List Bool) : Dev :=
  if d.lane phys Reg.HLQ.PRBS_LOCK = 0 then d.prbsReceive phys bs else d

/-- Bits that a locked checker compares, up to its loss of lock. -/
def Dev.prbsLockLoss (d : Dev) (phys : Nat) (bs : List Bool) : Dev :=
  if d.lane phys Reg.HLQ.PRBS_LOCK = 1 then d.prbsReceive phys bs else d

end Sys2Proof.Machine
end

