-- ==== Sys2Proof/Machine/Sinks.lean ====
section
/-! DEFINITION. Sinks: release gates and delivery of rendition outputs to MEMORY, FLOW, LAYER, FEED and HOST sinks, and the
end of a frame (spec 03 R58, R59, R81 to R85; spec 07 R209, R212; spec 05 R148; spec 09 R260; spec 10 R281, R282, R294). -/

namespace Sys2Proof.Machine

/-! ### Host rings (R148) -/

/-- What a delivery into a host ring came to. -/
inductive SlotResult where
  | delivered | filled | failed | tooBig
deriving DecidableEq, Repr

/-- Deliver into the next slot of a ring: `bytes seq skipped` is the slot from offset 4 on; STATE is written last. -/
def Dev.slotDeliver (d : Dev) (p base slotBytes slots : Nat) (pos : RingPos) (bytes : Nat → Nat → List Byte) :
    Dev × RingPos × SlotResult :=
  let a := base + pos.slot * slotBytes
  let skip := { pos with skipped := pos.skipped + 1 }
  if !d.hostOk p a 4 then (d, skip, .failed)
  else if ofLe (d.hostRead p a 4) ≠ 0 then (d, skip, .filled)
  else
    let bs := bytes (pos.seq + 1) pos.skipped
    if slotBytes < bs.length + 4 then (d, skip, .tooBig)
    else if !d.hostOk p a (bs.length + 4) then (d, skip, .failed)
    else
      let d := (d.hostWrite p (a + 4) bs).hostWrite p a (leBytes 4 1)
      (d, { pos with slot := (pos.slot + 1) % max 1 slots, seq := pos.seq + 1, skipped := 0 }, .delivered)

/-- A failed access of a ring: WARN event RING_XFER, at most once per second per ring (R148). -/
def Dev.ringXfer (d : Dev) (owner pg obj : Nat) (pos : RingPos) : Dev × RingPos :=
  if d.due pos.warned then
    (d.event owner pg WARN 0x040E (leBytes 2 obj ++ leBytes 2 pos.slot), { pos with warned := some d.elapsed })
  else (d, pos)

/-! ### Renditions and served sinks -/

/-- YRC page and element of a rendition. -/
def yrc (r : Nat) : Page × Nat := (Pg.YRC (r / 12), r % 12)

def Dev.yrcBump (d : Dev) (r : Nat) (F : Fld) (n : Nat := 1) : Dev := d.bump (yrc r).1 F (yrc r).2 n

/-- Bindings that govern a frame, or would if its pass started now. -/
def Dev.bindsOf (d : Dev) (f : Frame) : List Rend := (List.range 48).filterMap (d.bindOf f)

/-- Sinks of a binding with their index. -/
def Rend.sinkList (b : Rend) : List (Nat × Sink) := (b.sinks.zipIdx.filter fun e => e.1.kind ≠ 0).map fun e => (e.2, e.1)

def Dev.isServed (d : Dev) (k r i : Nat) : Bool :=
  match d.frame? k with
  | some f => (r, i) ∈ f.served
  | none => true

def Dev.markServed (d : Dev) (k r i : Nat) : Dev := d.updFrame k fun f => { f with served := f.served ++ [(r, i)] }

/-- NETF page and element of a flow. -/
def flowAt (w : Nat) : Page × Nat := (Pg.NET (2 * (w / 24) + 1), w % 24)

def Dev.flw (d : Dev) (w : Nat) (F : Fld) : Nat := d.rd (flowAt w).1 F (flowAt w).2

/-- A sink gives up a frame (R83, R212, R323). -/
def Dev.giveUp (d : Dev) (k : Nat) (b : Rend) (i : Nat) (s : Sink) : Dev :=
  if d.isServed k b.rend i then d
  else
    let again : Bool := match d.frame? k with
      | some f => b.rend ∈ f.gaveUp
      | none => false
    let d := (d.markServed k b.rend i).updFrame k fun f => { f with gaveUp := if again then f.gaveUp else b.rend :: f.gaveUp }
    let d := (if again then d else d.yrcBump b.rend Reg.YRC.GIVEUP_CNT).raise (yrc b.rend).1 0
    if s.kind = MEMORY then d.takeRend k b.rend none
    else if s.kind = FLOW then d.bump (flowAt s.object).1 Reg.NETF.GIVEUP_CNT (flowAt s.object).2
    else d

/-- The sink's chapter finds the output unsuitable (R212). -/
def Dev.mismatch (d : Dev) (k : Nat) (b : Rend) (i : Nat) (s : Sink) : Dev :=
  match d.frame? k with
  | none => d
  | some f =>
    let d := (d.yrcBump b.rend Reg.YRC.MISMATCH_CNT).event b.owner (yrc b.rend).1 WARN 0x0502 (frameData f.head f.hdr.cid)
    (d.raise (yrc b.rend).1 2).giveUp k b i s

/-! ### MEMORY sinks and encoder sources (R212, R260) -/

def bufKey (r i : Nat) : Nat := r * 4 + i

def MemBuf.free (b : MemBuf) : Bool := !b.take && b.encs = [] && b.reads = []

/-- A buffer is released at a MEMORY sink: attached encoder contexts take it as a source or skip it (R260); at shed
level 2 they skip every frame (R392). Answers the contexts that hold it. -/
def Dev.encOffer (d : Dev) (r i : Nat) (o : Render.Output) (src : EncSrc) (deadline : Nat) : Dev × List Nat :=
  ((d.pip.encs.filter fun e => e.2.source = some (r, i) && !e.2.releasing).foldl (fun (a : Dev × List Nat) e =>
    let (d, l) := a
    if !e.2.suits o then ((d.encSkip e.1).event (d.ownerOf 2 e.1) (e.2.pageRc) WARN 0x0701 [BitVec.ofNat 8 e.1], l)
    else if 2 ≤ d.shed then (d.encSkip e.1, l)
    else (d.encArrive e.1 { src with deadline := deadline + e.2.period } d.clock, l ++ [e.1])) (d, []))

/-- Give an output to a MEMORY sink (R212). -/
def Dev.toMemory (d : Dev) (k : Nat) (f : Frame) (b : Rend) (i : Nat) (s : Sink) (o : Render.Output) : Dev :=
  let key := bufKey b.rend i
  let bufs := (Assoc.find d.pip.bufs key).getD []
  let kept := if bufs.length < s.object then some bufs else (bufs.findIdx? MemBuf.free).map bufs.eraseIdx
  match kept with
  | none =>
    let d := (d.yrcBump b.rend Reg.YRC.OVERRUN_CNT).event b.owner (yrc b.rend).1 WARN 0x0501 (frameData f.head f.hdr.cid)
    (d.raise (yrc b.rend).1 3).giveUp k b i s
  | some kept =>
    let col := d.colophon f false
    let src : EncSrc := { frame := k, cid := f.hdr.cid, pts := f.hdr.expStart / 2 ^ 32, colophon := col, buf := some (b.rend, i) }
    let (d, encs) := d.encOffer b.rend i o src (d.deadline f)
    let take := match d.takeOf k with
      | some (_, t, _) => b.rend ∈ t.rends
      | none => false
    let m : MemBuf := { frame := k, head := f.head, cid := f.hdr.cid, output := o, colophon := col, take := take, encs := encs,
                        stack := (d.liveFrom (Config.bufferStack (k * 256 + key) % 4)).getD 0 }
    let d := { d with pip := { d.pip with bufs := Assoc.put d.pip.bufs key (kept ++ [m]) } }
    (d.markServed k b.rend i).takeRend k b.rend (some o.bytes)

/-! ### FLOW, LAYER, FEED and HOST sinks -/

/-- CHROMA and DEPTH of a flow FORMAT (R322). -/
def flowFormat (n : Nat) : Option (Nat × Nat) := [(2, 10), (2, 12), (2, 8), (1, 10), (1, 12), (0, 10), (0, 12)][n]?

/-- Does an output suit a flow (R212, R322)? -/
def Dev.flowSuits (d : Dev) (w : Nat) (o : Render.Output) : Bool :=
  o.w = d.flw w Reg.NETF.WIDTH && o.h = d.flw w Reg.NETF.HEIGHT && o.pack ≠ 1 &&
    flowFormat (d.flw w Reg.NETF.FORMAT) = some (o.chroma, o.depth)

/-- Give an output to an ST 2110-20 sender (R322, R323). -/
def Dev.toFlow (d : Dev) (k : Nat) (f : Frame) (b : Rend) (i : Nat) (s : Sink) (o : Render.Output) (prov : Bool) : Dev :=
  let w := s.object
  if d.flowSuits w o then
    let d := d.markServed k b.rend i
    if d.flw w Reg.NETF.EN = 0 then d
    else
      let x := (Assoc.find d.hst.flows w).getD {}
      let d := if x.next.isSome then d.bump (flowAt w).1 Reg.NETF.LATE_CNT (flowAt w).2 else d
      { d with hst := { d.hst with flows := Assoc.put d.hst.flows w { x with next := some (o, d.colophon f prov) } } }
  else d.mismatch k b i s

/-- DSP page and layer of a LAYER object (R281). -/
def layerAt (l : Nat) : Page × Nat := (Pg.DSP (l / 4), l % 4)

def Dev.lay (d : Dev) (l : Nat) (F : Fld) : Nat := d.rdA (layerAt l).1 F (layerAt l).2

/-- Does a picture suit a layer (R281): size, container, chroma and depth? -/
def Dev.layerSuits (d : Dev) (l : Nat) (o : Render.Output) : Bool :=
  let fmt := d.lay l Reg.DSP.L_FMT
  let c16 := d.lay l Reg.DSP.L_CONT16 = 1
  o.w = d.lay l Reg.DSP.L_W && o.h = d.lay l Reg.DSP.L_H &&
  (match fmt with
   | 0 => o.pack = 0
   | 1 => o.pack = 1
   | 2 => o.pack = (if c16 then 3 else 2) && o.chroma = d.lay l Reg.DSP.L_CHROMA && o.depth = d.lay l Reg.DSP.L_DEPTH
   | 3 => o.pack = (if c16 then 5 else 4) && o.chroma = d.lay l Reg.DSP.L_CHROMA && o.depth = d.lay l Reg.DSP.L_DEPTH
   | _ => false)

/-- A picture goes into a layer's buffer set: three buffers, one of them latched (R282); a streamed picture that was latched
while it was written completes in its place (R283). -/
def Dev.toLayerSet (d : Dev) (l : Nat) (b : LayerBuf) : Dev :=
  let x := (Assoc.find d.pip.layers l).getD {}
  let grown : Bool := match x.latched with
    | some y => y.growing && y.cid = b.cid && y.w = b.w && y.h = b.h
    | none => false
  if !x.alloc then d
  else if grown then { d with pip := { d.pip with layers := Assoc.put d.pip.layers l { x with latched := some b } } }
  else
    let room := if x.latched.isSome then 2 else 3
    let excess := x.complete.length + 1 - room
    let d := if 0 < excess then (d.bump (layerAt l).1 Reg.DSP.L_DROP_CNT (layerAt l).2 excess).raise (layerAt l).1 3 else d
    { d with pip := { d.pip with layers := Assoc.put d.pip.layers l { x with complete := x.complete.drop excess ++ [b] } } }

/-- Give an output to a layer, with its copy of the Colophon (R84, R282). -/
def Dev.toLayer (d : Dev) (k : Nat) (f : Frame) (b : Rend) (i : Nat) (s : Sink) (o : Render.Output) (prov : Bool) : Dev :=
  if d.layerSuits s.object o then
    let buf : LayerBuf := { cid := f.hdr.cid, w := o.w, h := o.h, planes := o.bytes, pitch := o.pitch, colophon := d.colophon f prov }
    (d.markServed k b.rend i).toLayerSet s.object buf
  else d.mismatch k b i s

/-- Words of a bit string whose samples, of `n` bits each, stand least significant bit first (R102). -/
def packWords (n : Nat) (ss : List Nat) : List Nat :=
  let total := (ss.foldr (fun s a => a * 2 ^ n + s % 2 ^ n) 0 : Nat)
  (List.range (ceilDiv (n * ss.length) 64)).map fun i => total / 2 ^ (64 * i) % 2 ^ 64

/-- Row `y` of an output as a feed's words (R295). -/
def feedLine (format : Nat) (o : Render.Output) (y : Nat) : List Nat :=
  let p := fun c => (o.codes.getD c []).getD y []
  let at_ := fun c x => (p c).getD x 0
  let n := (feedFormat format).2.2
  if format ≤ 1 then
    packWords n ((List.range (o.w / 2)).flatMap fun x => [at_ 1 x, at_ 0 (2 * x), at_ 2 x, at_ 0 (2 * x + 1)])
  else packWords n ((List.range o.w).flatMap fun x => [at_ 0 x, at_ 1 x, at_ 2 x])

/-- A frame for a feed, line by line, or a dropped one (R112, R294, R296). -/
def Dev.feedFrame (d : Dev) (f : Nat) (lines : List (List Nat)) : Dev :=
  let x := (Assoc.find d.pip.feeds f).getD {}
  let h := d.feed f Reg.DSP.F_HEAD
  let pg := (feedAt f).1
  let drop := fun (d : Dev) => d.bump pg Reg.DSP.F_FEED_DROP_CNT (feedAt f).2
  if d.feed f Reg.DSP.F_EN = 0 then d
  else if d.admission h ≠ 2 ∨ 3 ≤ d.shed then drop d
  else match (d.head h).vc with
    | none => drop d
    | some (g, vc) =>
      match Assoc.find (d.group g).vcs vc with
      | none => drop d
      | some b =>
        if !b.retvidCap then
          let d := drop d
          if f ∈ b.nocap then d
          else
            let y := d.group g
            (d.setGroup g { y with vcs := Assoc.put y.vcs vc { b with nocap := f :: b.nocap } }).event (d.pageOwner pg) pg WARN 0x0705
              [BitVec.ofNat 8 f]
        else if f ∉ d.feedsSent g then (drop d).budgetWarn g f
        else if Assoc.has d.cap.feedWait f then drop d
        else
          let n := x.frame
          { d with pip := { d.pip with feeds := Assoc.put d.pip.feeds f { x with
              frame := n + 1, rows := x.rows ++ lines.zipIdx.map fun e => (n, e.2, e.1) } } }

/-- Does an output suit a feed (R212, R295)? -/
def Dev.feedTakes (d : Dev) (f : Nat) (o : Render.Output) : Bool :=
  let (_, chroma, depth) := feedFormat (d.feed f Reg.DSP.F_FORMAT)
  o.w = d.feed f Reg.DSP.F_WIDTH && o.h = d.feed f Reg.DSP.F_HEIGHT && o.chroma = chroma && o.depth = depth && o.pack ≠ 1

/-- Give an output to a head-return feed, with its copy of the Colophon (R84, R294); a feed that the engine sources takes
none. -/
def Dev.toFeed (d : Dev) (k : Nat) (f : Frame) (b : Rend) (i : Nat) (s : Sink) (o : Render.Output) (prov : Bool) : Dev :=
  let n := s.object
  if d.feed n Reg.DSP.F_SRC = 1 then d.giveUp k b i s
  else if d.feedTakes n o then
    let col := d.colophon f prov
    let d := (d.markServed k b.rend i).feedFrame n ((List.range o.h).map (feedLine (d.feed n Reg.DSP.F_FORMAT) o))
    let x := (Assoc.find d.pip.feeds n).getD {}
    { d with pip := { d.pip with feeds := Assoc.put d.pip.feeds n { x with colophon := col } } }
  else d.mismatch k b i s

/-- Does a FLOW, LAYER or FEED sink find an output suitable (R212)? -/
def Dev.sinkSuits (d : Dev) (s : Sink) (o : Render.Output) : Bool :=
  match s.kind with
  | 2 => d.flowSuits s.object o
  | 3 => d.layerSuits s.object o
  | 4 => d.feed s.object Reg.DSP.F_SRC = 0 && d.feedTakes s.object o
  | _ => true

/-- The slot of a HOST sink from offset 4 on, also the layout of SINK_READ (R212, R262). -/
def hostSlot (o : Render.Output) (col : List Byte) (seq skipped : Nat) : List Byte :=
  fit 0xFFC (leBytes 4 seq ++ leBytes 4 o.bytes.length ++ leBytes 1 o.pack ++ leBytes 1 o.planes ++ zeros 2 ++ leBytes 2 o.w ++
    leBytes 2 o.h ++ leBytes 4 skipped ++ leBytes 4 o.pitch) ++ col ++ o.bytes

/-- Give an output to a HOST ring (R212, R148). -/
def Dev.toHost (d : Dev) (k : Nat) (f : Frame) (b : Rend) (i : Nat) (s : Sink) (o : Render.Output) : Dev :=
  let pos := (Assoc.find d.pip.hostRings b.inst).getD {}
  let (d, pos, res) := d.slotDeliver b.owner b.ringAddr b.slotBytes b.slots pos (hostSlot o (d.colophon f false))
  let (d, pos) := if res = .failed then d.ringXfer b.owner (yrc b.rend).1 b.rend pos else (d, pos)
  let d := { d with pip := { d.pip with hostRings := Assoc.put d.pip.hostRings b.inst pos } }
  if res = .delivered then d.markServed k b.rend i
  else
    let d := if res = .tooBig then d.event b.owner (yrc b.rend).1 WARN 0x040D (frameData f.head f.hdr.cid) else d
    (d.yrcBump b.rend Reg.YRC.OVERRUN_CNT).giveUp k b i s

/-- A sink takes an output: the copy's Colophon is PROVISIONAL or final (R84), a FINAL sink released after the deadline
marks the frame RELEASE_LATE (R82). -/
def Dev.deliver (d : Dev) (k : Nat) (b : Rend) (i : Nat) (s : Sink) (o : Render.Output) (prov : Bool) : Dev :=
  match d.frame? k with
  | none => d
  | some f =>
    if (b.rend, i) ∈ f.served then d
    else
      let d := if s.mode = 0 then d.finalRelease k else d
      let f := (d.frame? k).getD f
      match s.kind with
      | 1 => d.toMemory k f b i s o
      | 2 => d.toFlow k f b i s o prov
      | 3 => d.toLayer k f b i s o prov
      | 4 => d.toFeed k f b i s o prov
      | _ => d.toHost k f b i s o

/-! ### Release gates (R82) -/

/-- Run `g` on every sink of every binding of a frame. -/
def Dev.eachSink (d : Dev) (k : Nat) (g : Dev → Frame → Rend → Nat → Sink → Dev) : Dev :=
  match d.frame? k with
  | none => d
  | some f => (d.bindsOf f).foldl (fun d b => b.sinkList.foldl (fun d e => match d.frame? k with
      | some f => if (b.rend, e.1) ∈ f.served then d else g d f b e.1 e.2
      | none => d) d) d

/-- PROVISIONAL sinks take the first-pass output as soon as it exists (R82). -/
def Dev.releaseProvisional (d : Dev) (k : Nat) : Dev :=
  d.eachSink k fun d f b i s =>
    if s.mode ≠ 2 then d
    else match Assoc.find f.firstOutputs b.rend with
      | some (some o) => d.deliver k b i s o true
      | some none => d.giveUp k b i s
      | none => d

/-- At PROCESSED, FINAL and REALTIME sinks take the final output once it exists (R82); the Colophon waits for an
injection to be resolved (R149). -/
def Dev.releaseFinal (d : Dev) (k : Nat) : Dev :=
  d.eachSink k fun d f b i s =>
    if s.mode = 2 ∨ f.state ≠ .processed ∨ f.injectWait then d
    else match Assoc.find f.outputs b.rend with
      | some (some o) => d.deliver k b i s o false
      | some none => d.giveUp k b i s
      | none => d

/-- The release deadline passes: REALTIME sinks take the first-pass output or give the frame up (R82, R85); PROV_CNT counts a
frame that one of them took (R83). -/
def Dev.releaseDeadline (d : Dev) (k : Nat) : Dev :=
  match d.frame? k with
  | none => d
  | some f =>
    if f.deadlinePassed then d
    else
      let d := d.updFrame k fun f => { f with deadlinePassed := true }
      let given := (d.bindsOf f).any fun b => b.sinkList.any fun e => e.2.mode = 1 && !((b.rend, e.1) ∈ f.served) &&
        (match Assoc.find f.firstOutputs b.rend with
          | some (some o) => d.sinkSuits e.2 o
          | _ => false)
      let d := if given then d.bump (d.rspPage f.ctx) Reg.FE_RSP.PROV_CNT else d
      d.eachSink k fun d f b i s =>
        if s.mode ≠ 1 then d
        else match Assoc.find f.firstOutputs b.rend with
          | some (some o) => d.deliver k b i s o true
          | _ => d.giveUp k b i s

/-! ### Rendition jobs that end early (R209, R210) -/

/-- Petals of a binding, by number. -/
def Rend.petals (b : Rend) : List Nat := seqFrom b.petal (2 ^ b.log2)

/-- Petals become idle. -/
def Dev.idlePetals (d : Dev) (b : Rend) : Dev :=
  b.petals.foldl (fun d n => (d.wr (Pg.YPTA n) Reg.YPT_A.JOB_STATE 0).wr (Pg.YPTA n) Reg.YPT_A.RENDITION 0) d

/-- Jobs are taken away: the petals of those that run become idle. -/
def Dev.stopJobs (d : Dev) (sel : Job → Bool) : Dev :=
  let d := (d.pip.jobs.filter fun j => j.started && sel j).foldl (fun d j => d.idlePetals j.bind) d
  { d with pip := { d.pip with jobs := d.pip.jobs.filter fun j => !sel j } }

/-! ### The end of a frame (R58, R59) -/

/-- Is every sink of a frame served, and no pass of it left? -/
def Dev.allServed (d : Dev) (f : Frame) : Bool :=
  (d.bindsOf f).all (fun b => b.sinkList.all fun e => (b.rend, e.1) ∈ f.served) && !d.pip.jobs.any fun j => j.frame = f.key

/-- Does a buffer of the frame remain in use: a Take, a MEMORY reader or the temporal reference? -/
def Dev.inUse (d : Dev) (f : Frame) : Bool :=
  (d.takeOf f.key).isSome || (d.ctx f.ctx).prev = some f.key ||
  d.cap.frames.any (fun e => e.2.ref = some f.key && e.2.state ∉ [.processed, .released, .retired]) ||
  d.pip.bufs.any fun e => e.2.any fun b => b.frame = f.key && !b.free

/-- A PROCESSED frame is RELEASED when every sink was served; it is RETIRED, and gone, when its last buffer is free. -/
def Dev.retire (d : Dev) (k : Nat) : Dev :=
  match d.frame? k with
  | none => d
  | some f =>
    if f.state = .processed ∧ !f.injectWait ∧ d.allServed f then
      if d.inUse f then d.setFrame { f with state := .released } else d.delFrame k
    else if f.state = .released ∧ !d.inUse f then d.delFrame k
    else d

/-- Everything a frame may do now: commit to its Take, serve sinks, end. -/
def Dev.settleFrame (d : Dev) (k : Nat) : Dev := (((d.releaseFinal k).takeTry k).retire k)

/-- Every frame that only waits for a buffer to be freed. -/
def Dev.retireAll (d : Dev) : Dev := (d.cap.frames.map (·.1)).foldl (fun d k => d.retire k) d

/-- A frame is dropped: it goes to RETIRED, reaches no sink, and its Take records it (R59, R236, R420). -/
def Dev.dropFrame (d : Dev) (k : Nat) : Dev :=
  match d.frame? k with
  | none => d
  | some f =>
    let d := (d.takeDropped k).delFrame k
    let d := d.stopJobs fun j => j.frame = k
    let gs : List (Nat × Group) := d.cap.groups.map fun e => (e.1, { e.2 with openFrames := e.2.openFrames.filter fun o => o.2 ≠ k })
    let d : Dev := { d with cap := { d.cap with mipOpen := d.cap.mipOpen.filter fun e => e.2 ≠ k, groups := gs } }
    let d := if (d.ctx f.ctx).prev = some k then d.updCtx f.ctx fun c => { c with prev := none } else d
    d.rehomeQuires f

end Sys2Proof.Machine
end

