-- ==== Sys2Proof/Machine/Stats.lean ====
section
/-! DEFINITION. Stats: stage 11, the statistics record and its summary, and the exposure and white-balance loop's
arithmetic (spec 06 R172 to R183, R422). -/

namespace Sys2Proof.Stats

open Develop (Plane Rgb Cfa)

/-! ### Sines and cosines (R176) -/

/-- π × 2^160, rounded down. -/
def piFix : Nat := 4591442807048218921384805199743311128454155024418

/-- cos (odd = 0) or sin (odd = 1) of 2πr/1024 × 2^160, by its series, for r < 256. -/
def series (r odd : Nat) : Int :=
  let x : Int := piFix * r / 512
  let x2 : Int := x * x / 2 ^ 160
  let t0 : Int := if odd = 0 then 2 ^ 160 else x
  ((List.range 32).foldl (fun (a : Int × Int) (n : Nat) =>
    let k : Int := (2 * n + 1 + odd) * (2 * n + 2 + odd)
    let t := -(a.2 * x2 / 2 ^ 160) / k
    (a.1 + t, t)) (t0, t0)).1

/-- The value at step k of 1,024 steps, × 2^160: whole quarters are exact. -/
def rotation (k : Nat) (sine : Bool) : Int :=
  let q := (k / 256 + (if sine then 3 else 0)) % 4
  let r := k % 256
  match q with
  | 0 => series r 0
  | 1 => if r = 0 then 0 else -series r 1
  | 2 => -series r 0
  | _ => if r = 0 then 0 else series r 1

def cosF (k : Nat) : Nat := Fp.ofInt Fp.f32 (rotation k false) (-160)
def sinF (k : Nat) : Nat := Fp.ofInt Fp.f32 (rotation k true) (-160)

/-! ### Pixels (R172, R173) -/

/-- Y16 of a pixel. -/
def y16 (r g b : Nat) : Nat := (Fp.to16 (Develop.luma (Fp.of16 r) (Fp.of16 g) (Fp.of16 b))).1

/-- The histogram bin of a binary16 code. -/
def bin (base : Int) (z : Nat) : Nat :=
  let e := bits z 10 5
  if bitAt z 15 ∨ e = 0 then 0 else (sat (((e : Int) - 15 - base) * 1024 + bits z 0 10) 0 20479).toNat / 20

/-- Float of an integer. -/
def flt (n : Nat) : Nat := Fp.ofInt Fp.f32 n

/-- What is accumulated over a frame. -/
structure Sums where
  zw : Nat
  zh : Nat
  pixels : Nat
  hist : List (List Nat)
  /-- per zone: SUM_R, SUM_G, SUM_B, SUM_Y, CLIP_R, CLIP_G, CLIP_B, CLIP_ALL, sampled pixels -/
  zones : List (List Nat)
  focus : List Nat
  rows : List Nat

/-- Sum of a list. -/
def total (l : List Nat) : Nat := l.foldl (· + ·) 0

/-- Accumulate the statistics of a developed image and its clip flags. -/
def sums (b : List (Nat × Nat)) (c : Cfa) (im : Rgb) (clip : Plane) (h w : Nat) : Sums :=
  let zw := Pb.fe b 9 Pb.STA.ZW
  let zh := Pb.fe b 9 Pb.STA.ZH
  let m := 2 ^ Pb.fe b 9 Pb.STA.SUB_LOG2
  let base := sgn 8 (Pb.fe b 9 Pb.STA.HIST_BASE)
  let px : List (List (List Nat)) := (List.range h).map fun y => (List.range w).map fun x =>
    let r := im.at 0 y x
    let g := im.at 1 y x
    let bl := im.at 2 y x
    [r, g, bl, y16 r g bl]
  let qs := px.map fun r => r.map fun p => p.map Fp.q12
  let sampled := (px.zipIdx.filter fun r => r.2 % m = 0).flatMap fun r => (r.1.zipIdx.filter fun p => p.2 % m = 0).map (·.1)
  let hist := (List.range 4).map fun k =>
    let bs := sampled.foldl (fun a p => Assoc.upd (if Assoc.has a (bin base (p.getD k 0)) then a else Assoc.put a (bin base (p.getD k 0)) 0)
      (bin base (p.getD k 0)) (· + 1)) ([] : List (Nat × Nat))
    (List.range 1024).map fun i => (Assoc.find bs i).getD 0
  let zones := (List.range zh).flatMap fun zj => (List.range zw).map fun zi =>
    let xs := seqFrom (zi * w / zw) ((zi + 1) * w / zw - zi * w / zw)
    let ys := seqFrom (zj * h / zh) ((zj + 1) * h / zh - zj * h / zh)
    let cells := ys.flatMap fun y => xs.map fun x => (y, x)
    let sam := cells.filter fun p => p.1 % m = 0 ∧ p.2 % m = 0
    let cl := (cells.filter fun p => clip.at p.1 p.2 = 1).map fun p => c.colour p.1 p.2
    ((List.range 4).map fun k => total (sam.map fun p => ((qs.getD p.1 []).getD p.2 []).getD k 0)) ++
      ((List.range 3).map fun k => (cl.filter (· = k)).length) ++ [cl.length, sam.length]
  let qy := fun y x => ((qs.getD y []).getD x []).getD 3 0
  let focus := (List.range 16).map fun i =>
    let lo := Pb.fe b 9 Pb.STA.FOC_WIN_LO i
    let hi := Pb.fe b 9 Pb.STA.FOC_WIN_HI i
    let (x0, y0, fw, fh) := (bits lo 0 16, bits lo 16 16, bits hi 0 16, bits hi 16 16)
    total ((seqFrom y0 (min (y0 + fh) h - y0)).flatMap fun y => (seqFrom x0 (min (x0 + fw) w - x0)).map fun x =>
      (2 * (qy y x : Int) - qy y (x - 2) - qy y (min (x + 2) (w - 1))).natAbs)
  { zw := zw, zh := zh, pixels := ceilDiv w m * ceilDiv h m, hist := hist, zones := zones, focus := focus,
    rows := qs.map fun r => total (r.map fun p => p.getD 3 0) }

/-! ### Flicker (R176) -/

/-- Depth of candidate `i`. -/
def depth (b : List (Nat × Nat)) (s : Sums) (tot i : Nat) : Nat :=
  let step := Pb.fe b 9 Pb.STA.FLK_STEP i
  let (C, S) := s.rows.zipIdx.foldl (fun a e =>
    let k := e.2 * step % 2 ^ 32 / 2 ^ 22
    (Fp.add a.1 (Fp.mul (flt e.1) (cosF k)), Fp.add a.2 (Fp.mul (flt e.1) (sinF k)))) (0, 0)
  Fp.div (Fp.mul Fp.two (Fp.sqrt (Fp.add (Fp.mul C C) (Fp.mul S S)))) tot

/-- Flicker frequency and depth; `dark` is the depth reported when every row sum is 0, which the manual leaves open. -/
def flicker (b : List (Nat × Nat)) (s : Sums) (dark : Nat) : Nat × Nat :=
  let tot := s.rows.foldl (fun a r => Fp.add a (flt r)) 0
  let cand := (List.range 4).filter fun i => Pb.fe b 9 Pb.STA.FLK_FREQ i ≠ 0
  match cand with
  | [] => (0, 0)
  | c0 :: rest =>
    if tot = 0 then (0, dark)
    else
      let best := rest.foldl (fun a i => let x := depth b s tot i; if Fp.lt a.2 x then (i, x) else a) (c0, depth b s tot c0)
      (if Fp.lt best.2 (Pb.fe b 9 Pb.STA.FLK_MIN_DEPTH) then 0 else Pb.fe b 9 Pb.STA.FLK_FREQ best.1, best.2)

/-! ### Summary and record (R177, R180) -/

/-- The first bin whose cumulative count reaches `t`. -/
def firstBin (t : Nat) : List Nat → Nat → Nat → Nat
  | [], i, _ => i - 1
  | n :: r, i, acc => if t ≤ acc + n then i else firstBin t r (i + 1) (acc + n)

/-- The value of a bin's centre as binary32. -/
def binValue (base : Int) (i : Nat) : Nat :=
  let k := 20 * i + 10
  Fp.ofInt Fp.f32 (1024 + k % 1024 : Nat) (base + (k / 1024 : Nat) - 10)

/-- The 128 bytes of STATS_SUMMARY; `addr` is the identifier of the published record, or 0. -/
def summary (b : List (Nat × Nat)) (s : Sums) (dark addr : Nat) : List Byte :=
  let base := sgn 8 (Pb.fe b 9 Pb.STA.HIST_BASE)
  let tot := fun k => total (s.zones.map fun z => z.getD k 0)
  let hy := s.hist.getD 3 []
  let (freq, dep) := flicker b s dark
  let means := (List.range 4).map fun k => Fp.div (Fp.mul (flt (tot k)) (Fp.ofInt Fp.f32 1 (-12))) (flt s.pixels)
  means.flatMap (leBytes 4) ++ (List.range 4).flatMap (fun k => leBytes 4 (tot (4 + k))) ++
    leBytes 4 (binValue base (firstBin (ceilDiv s.pixels 2) hy 0 0)) ++
    leBytes 4 (binValue base (firstBin (ceilDiv (99 * s.pixels) 100) hy 0 0)) ++ zeros 8 ++
    s.focus.flatMap (fun f => leBytes 4 (min (2 ^ 32 - 1) (f / 4096))) ++ leBytes 4 freq ++ leBytes 4 dep ++ leBytes 8 addr

/-- What identifies a record. -/
structure Ident where
  head : Nat
  ctx : Nat
  cid : Nat
  ssq : Nat
  qid : Nat
  calSeq : Nat

/-- The statistics record (R177). -/
def record (b : List (Nat × Nat)) (s : Sums) (id : Ident) (h w : Nat) (sum : List Byte) : List Byte :=
  let z := ceilDiv (s.zw * s.zh * 48) 256 * 256
  let head := layout 0xFC [(0x000, leBytes 4 0x57A75000), (0x004, leBytes 2 0x0100), (0x006, leBytes 1 id.head),
    (0x007, leBytes 1 id.ctx), (0x008, leBytes 8 id.cid), (0x010, leBytes 2 id.ssq), (0x014, leBytes 4 id.qid),
    (0x018, leBytes 4 id.calSeq), (0x01C, leBytes 2 w), (0x01E, leBytes 2 h), (0x020, leBytes 1 s.zw), (0x021, leBytes 1 s.zh),
    (0x022, leBytes 1 (Pb.fe b 9 Pb.STA.SUB_LOG2)), (0x023, leBytes 1 (Pb.fe b 9 Pb.STA.HIST_BASE)),
    (0x024, leBytes 8 s.pixels), (0x02C, leBytes 4 0x4200), (0x030, leBytes 4 (0x4200 + z)), (0x040, sum)]
  head ++ leBytes 4 (crc32c head) ++ s.hist.flatMap (fun l => l.flatMap (leBytes 4)) ++ s.focus.flatMap (leBytes 8) ++
    zeros 0x80 ++
    fit z (s.zones.flatMap fun r => ((List.range 4).flatMap fun k => leBytes 8 (r.getD k 0)) ++
      (List.range 4).flatMap fun k => leBytes 4 (r.getD (4 + k) 0)) ++
    s.rows.flatMap (leBytes 8)

/-! ### The loop (R181 to R183, R422) -/

/-- plog2 of R181. -/
def plog2 (z : Nat) : Nat :=
  if Fp.isNan z then z
  else
    let e := bits z 23 8
    if e = 0 then Fp.ofInt Fp.f32 (-126)
    else Fp.ofInt Fp.f32 (((e : Int) - 127) * 2 ^ 23 + bits z 0 23) (-23)

/-- pexp2 of R181. -/
def pexp2 (d : Nat) : Nat :=
  match Fp.decode Fp.f32 d with
  | .nan => d
  | .inf n => if n then 0 else Fp.f32.infCode
  | .fin n m e =>
    if Fp.le (Fp.ofInt Fp.f32 129) d then Fp.f32.infCode
    else if Fp.lt d (Fp.ofInt Fp.f32 (-160)) then 0
    else
      let s : Int := if n then -(m : Int) else m
      let fl : Int := if 0 ≤ e then s * 2 ^ e.toNat else s / 2 ^ (-e).toNat
      let fr : Nat := if 0 ≤ e then 0 else (s % 2 ^ (-e).toNat).toNat
      let q : Nat := (-e).toNat
      Fp.round Fp.f32 false (2 ^ q + fr) (2 ^ q) fl

/-- Rounding of a result into a range: an infinity goes to its end, a NaN keeps the value that governed (R5, R422). -/
def rndSat (a : Nat) (lo hi keep : Nat) : Nat :=
  if Fp.isNan a then keep else (sat (Fp.toIntNearest 80 a) lo hi).toNat

/-- A quotient of counts is 0 / 0 when nothing is metered. -/
def isZero (a : Nat) : Bool := a % 2 ^ 31 = 0

/-- Automatic exposure (R182): new EXPOSURE_NS and ANALOG_GAIN from those that governed, or no change. -/
def autoExposure (b : List (Nat × Nat)) (s : Sums) (exp0 gain0 : Nat) : Option (Nat × Nat) :=
  let z := Pb.fe b 9 Pb.STA.AE_ZONE
  let (x0, y0, x1, y1) := (min (bits z 0 8) (s.zw - 1), min (bits z 8 8) (s.zh - 1), min (bits z 16 8) (s.zw - 1),
    min (bits z 24 8) (s.zh - 1))
  let (inn, out) := s.zones.zipIdx.partition fun e =>
    x0 ≤ e.2 % s.zw && e.2 % s.zw ≤ x1 && y0 ≤ e.2 / s.zw && e.2 / s.zw ≤ y1
  let si := total (inn.map fun e => e.1.getD 3 0)
  let ni := total (inn.map fun e => e.1.getD 8 0)
  let so := total (out.map fun e => e.1.getD 3 0)
  let no := total (out.map fun e => e.1.getD 8 0)
  let ow := Pb.fe b 9 Pb.STA.AE_OUT_W
  let step := Pb.fe b 9 Pb.STA.AE_STEP_MAX
  let den := Fp.add (flt ni) (Fp.mul ow (flt no))
  if isZero den then none
  else
    let ym := Fp.mul (Fp.div (Fp.add (flt si) (Fp.mul ow (flt so))) den) (Fp.ofInt Fp.f32 1 (-12))
    let dd := if Fp.le ym 0 then step else Fp.sub (plog2 (Pb.fe b 9 Pb.STA.AE_TARGET)) (plog2 ym)
    if !Fp.lt (Pb.fe b 9 Pb.STA.AE_DEAD) (Fp.abs dd) then none
    else
      let e := Fp.mul (Fp.mul (flt exp0) (Fp.div (flt gain0) (flt 65536)))
        (pexp2 (Fp.fsat (Fp.mul dd (Pb.fe b 9 Pb.STA.AE_GAIN)) (Fp.neg step) step))
      let lo := Pb.fe b 9 Pb.STA.AE_EXP_MIN_LO + 2 ^ 32 * Pb.fe b 9 Pb.STA.AE_EXP_MIN_HI
      let hi := Pb.fe b 9 Pb.STA.AE_EXP_MAX_LO + 2 ^ 32 * Pb.fe b 9 Pb.STA.AE_EXP_MAX_HI
      let t := Fp.fsat e (flt lo) (flt hi)
      if Fp.isNan e ∨ isZero t then none
      else
        let g := Fp.fsat (Fp.div e t) Fp.one (Fp.div (flt (Pb.fe b 9 Pb.STA.AE_GAIN_MAX)) (flt 65536))
        let new := ((sat (Fp.truncTo 64 t) lo hi).toNat, rndSat (Fp.mul g (flt 65536)) 0 (2 ^ 32 - 1) gain0)
        if new = (exp0, gain0) then none else some new

/-- Automatic white balance (R183): new WB_R and WB_B from those that governed, or no change. -/
def autoWhite (b : List (Nat × Nat)) (s : Sums) (wr wb : Nat) : Option (Nat × Nat) :=
  let ok := s.zones.filter fun z =>
    let m := Fp.div (Fp.mul (flt (z.getD 3 0)) (Fp.ofInt Fp.f32 1 (-12))) (flt (z.getD 8 0))
    z.getD 7 0 = 0 && Fp.le (Pb.fe b 9 Pb.STA.AWB_LO) m && Fp.le m (Pb.fe b 9 Pb.STA.AWB_HI)
  let sr := total (ok.map fun z => z.getD 0 0)
  let sg := total (ok.map fun z => z.getD 1 0)
  let sb := total (ok.map fun z => z.getD 2 0)
  if sr = 0 ∨ sg = 0 ∨ sb = 0 then none
  else
    let g := fun (w sc : Nat) => rndSat (Fp.mul (flt w) (pexp2 (Fp.mul (Pb.fe b 9 Pb.STA.AWB_GAIN)
      (Fp.sub (plog2 (flt sg)) (plog2 (flt sc)))))) 1024 32767 w
    let new := (g wr sr, g wb sb)
    if new = (wr, wb) then none else some new

end Sys2Proof.Stats
end

