-- ==== Sys2Proof/Machine/Sections.lean ====
section
/-! DEFINITION. Sections: passes, respins, the seal point, PROCESSED and what comes with it: statistics, the loop, taps
(spec 01 R7 to R11, R20; spec 03 R74 to R88; spec 05 R140 to R149; spec 06 R154, R160, R162, R178 to R185). -/

namespace Sys2Proof.Machine

/-! ### Frames and Sections -/

/-- Does its pass run from memory (R9, R143)? -/
def Frame.memoryPath (f : Frame) : Bool := !f.inl || 16384 < f.cfgW

/-- Page of FE subpage `k` on which a context counts, and on which one of its frames does: the frame's own Section, also after the
context is bound to another (R187). -/
def Dev.fePage (d : Dev) (c k : Nat) : Page := Pg.FE (d.ctx c).section0 k

def Frame.fePage (f : Frame) (k : Nat) : Page := Pg.FE (lowestSection f.gang f.section_) k

/-- Are the Sections of a frame enabled (R185)? -/
def Dev.sectionsOn (d : Dev) (f : Frame) : Bool := f.sections.all fun n => d.works (Pg.FE n 0)

def Frame.shares (f g : Frame) : Bool := f.sections.any fun n => n ∈ g.sections

/-- Rows that have closed (R137). -/
def Frame.rowsClosed (f : Frame) : Nat := if f.isClosed then f.cfgH else f.row.getD 0

/-- Folios of a frame. -/
def Frame.folioCount (f : Frame) : Nat := ceilDiv f.cfgH 64

/-- Is a calibration write of the context held: it is applied before the next pass starts (R154)? -/
def Dev.calHeldFor (d : Dev) (c : Nat) : Bool := d.cap.calHeld.any fun e => e.ctx = c

/-- Does thermal shedding hold the Section passes of a frame: level 4, and from level 2 on memory-path passes of a context
with no FLOW, LAYER or FEED sink (R392)? -/
def Dev.shedPass (d : Dev) (f : Frame) (memory : Bool) : Bool :=
  4 ≤ d.shed || (2 ≤ d.shed && memory &&
    !d.pip.rends.any fun e => e.2.ctx = f.ctx && e.2.sinks.any fun s => 2 ≤ s.kind && s.kind ≤ 4)

/-- May the first pass of a frame start (R74, R141, R142, R185)? -/
def Dev.firstReady (d : Dev) (f : Frame) : Bool :=
  f.firstGen.isNone && !f.recordOnly && d.sectionsOn f && !d.calHeldFor f.ctx && !d.shedPass f f.memoryPath &&
  (if f.memoryPath then f.isClosed else min 64 f.cfgH ≤ f.rowsClosed) &&
  !(d.framesOf f.ctx).any fun g => g.ord < f.ord && g.firstGen.isNone && !g.recordOnly

/-- May a respin pass of a frame start (R78)? -/
def Dev.respinReady (d : Dev) (f : Frame) : Bool :=
  f.isClosed && f.state ∈ [.ingested, .sealed] && (match f.pending with
    | none => false
    | some (_, true) => d.sectionsOn f && !d.calHeldFor f.ctx && !d.shedPass f true
    | some (_, false) => f.out.isSome)

/-- Folios that gang member number `m` of a frame processes: every `g`-th (R9, R10). -/
def Frame.share (f : Frame) (m : Nat) : List Nat :=
  (List.range f.folioCount).filter fun i => i % f.sections.length = m

/-- The Sections that have a share of a frame's pass. -/
def Frame.members (f : Frame) : List Nat :=
  (f.sections.zipIdx.filter fun e => f.share e.2 ≠ []).map (·.1)

/-- Does a memory pass, or a share of a respin, run on Section `n`? -/
def Dev.memBusyOn (d : Dev) (n : Nat) : Bool :=
  d.cap.frames.any fun e => (e.2.pass.isSome && e.2.runs.contains n) || (e.2.firstRunning && e.2.memoryPath && e.2.sections.contains n)

/-- Does one run on a Section that the frame uses? -/
def Dev.memBusy (d : Dev) (f : Frame) : Bool := f.sections.any d.memBusyOn

/-- Does a Section respin of a frame, or a share of it, wait for Section `n`? -/
def Dev.respinWaits (d : Dev) (n : Nat) (f : Frame) : Bool :=
  (d.respinReady f && f.pending.map (·.2) = some true && f.members.contains n) || (f.pass.isSome && f.waits.contains n)

/-- Is a pass of `f` chosen before one of `g`: reserved work first (R20), then respins, then the earlier release deadline
(R9)? -/
def Dev.before (d : Dev) (f : Frame) (fRespin : Bool) (g : Frame) (gRespin : Bool) : Bool :=
  if f.reserved ≠ g.reserved then f.reserved
  else if fRespin ≠ gRespin then fRespin
  else d.deadline f ≤ d.deadline g

/-- Does the scheduler of Section `n` choose this pass from memory now: a respin, or the first pass of a memory-path frame (R9)? -/
def Dev.chosenOn (d : Dev) (f : Frame) (respin : Bool) (n : Nat) : Bool :=
  !d.memBusyOn n && d.cap.frames.all fun e => !e.2.sections.contains n || e.2.key = f.key ||
    ((!d.respinWaits n e.2 || d.before f respin e.2 true) && (!(d.firstReady e.2 && e.2.memoryPath) || d.before f respin e.2 false))

/-- Does every Section of a frame choose its first pass? -/
def Dev.chosen (d : Dev) (f : Frame) : Bool := f.sections.all (d.chosenOn f false)

/-! ### Generations held (R61) -/

/-- Is generation number `i` of a context still referred to: by a frame in flight, or as the newest? -/
def Dev.genLive (d : Dev) (c i : Nat) : Bool :=
  let x := d.ctx c
  i + 1 = x.gens.length || (d.framesOf c).any fun f => match x.gens[i]? with
    | none => false
    | some g => f.ingGen = g || f.firstGen = some g || f.curGen = some g || f.pass = some g || f.pending.map (·.1) = some g ||
        (f.firstGen.isNone && genFor x.gens f.ord = g)

/-- GEN_LIVE of a Section: generations held for its contexts. -/
def Dev.genCount (d : Dev) (n : Nat) : Nat :=
  (d.cap.ctxs.filter fun e => e.2.head.isSome && e.2.section0 = n).foldl (fun a e =>
    a + ((List.range e.2.gens.length).filter fun i => d.genLive e.1 i).length) 0

/-- Let go of generations that nothing refers to, and keep GEN_MAX. -/
def Dev.noteGens (d : Dev) (c : Nat) : Dev :=
  let keep := (List.range (d.ctx c).gens.length).filter fun i => d.genLive c i
  let d := d.updCtx c fun x =>
    let gs := keep.filterMap fun i => x.gens[i]?
    { x with gens := gs, applied := x.applied.filter fun e => e.1 = x.active || gs.contains e.1 }
  let pg := d.rspPage c
  d.wr pg Reg.FE_RSP.GEN_MAX (max (d.rd pg Reg.FE_RSP.GEN_MAX) (d.genCount (d.ctx c).section0))

/-- Memory-path passes that a frame takes: one for each of its stripes (R143). -/
def Frame.passes (f : Frame) : Nat := if 16384 < f.cfgW then 2 else 1

/-- QUEUE of a Section: memory-path passes that wait; a ganged context counts on its lowest-numbered member (R187). -/
def Dev.sectionQueue (d : Dev) (n : Nat) : Nat :=
  (d.cap.frames.filter fun e => n = lowestSection e.2.gang e.2.section_ &&
    ((e.2.isClosed && e.2.memoryPath && e.2.firstGen.isNone && !e.2.recordOnly) || e.2.pending.any (·.2))).foldl
      (fun a e => a + e.2.passes) 0

def Dev.noteQueues (d : Dev) : Dev :=
  (List.range 4).foldl (fun d n =>
    d.wr (Pg.FE n 0) Reg.FE_CTL.QUEUE_MAX (max (d.rd (Pg.FE n 0) Reg.FE_CTL.QUEUE_MAX) (d.sectionQueue n))) d

/-! ### Passes -/

/-- SECTION_PASS_START: the first pass of a frame starts, under the generation of R63 (R61, R74); its developed image is placed
on the next live stack after its raw buffer (R22). -/
def Dev.passStart (d : Dev) (k : Nat) : Dev :=
  match d.frame? k with
  | none => d
  | some f =>
    if !d.firstReady f ∨ (f.memoryPath ∧ !d.chosen f) then d
    else
      let g := genFor (d.ctx f.ctx).gens f.ord
      let d := d.setFrame { f with firstGen := some g, curGen := some g, tFirst := d.now, devStack := d.liveFrom (f.stack + 1) }
      let d := d.updCtx f.ctx fun x => ({ x with active := g } : Ctx).noteApplied g f.ord f.hdr.cid
      let d := if f.memoryPath then
          d.bump (f.fePage 0) Reg.FE_CTL.MEM_PASS_CNT 0 f.passes
        else d
      d.noteGens f.ctx

/-- The completed raw of a frame as a plane (R139). -/
def Frame.rawPlane (f : Frame) : Develop.Plane :=
  (List.range f.cfgH).map fun y => ((f.raw.drop (y * f.cfgW)).take f.cfgW).map fun e => (e.2 : Int)

/-- A byte of a context's calibration space (R154). -/
def Dev.calByte (d : Dev) (c : Nat) (o : Nat) : Byte := Sparse.get ((Assoc.find d.cap.calib c).getD []) o 0

/-- The temporal reference of a frame: the first-pass image of the previous frame, when it is held and of the same size. -/
def Dev.reference (d : Dev) (f : Frame) : Option (Develop.Rgb × Nat) :=
  match f.ref.bind d.frame? with
  | none => none
  | some p => match p.firstOut with
    | none => none
    | some o => if p.cfgW = f.cfgW ∧ p.cfgH = f.cfgH then some (o.developed, (p.firstGen.getD {}).qid) else none

/-- What one pass over a frame under generation `g` makes, with the counts of its Section (R153 to R187). F16_SAT_CNT counts the
saturations of the rows a folio keeps, not those of the apron rows that its neighbours compute again: R151 does not say
(DESIGN CHOICE, log 134). -/
def Dev.runPass (d : Dev) (f : Frame) (g : Gen) : Dev × PassOut :=
  let b := g.bank
  let cal := d.calByte f.ctx
  let ref := d.reference f
  let tnr := Pb.fe b 7 Pb.NRD.TNR_EN = 1
  let r := Develop.develop b cal f.hdr.cfaKind f.hdr.cfaPhase f.hdr.depth f.cfgH f.cfgW f.rawPlane (ref.map (·.1))
  let s := Stats.sums b (Develop.cfa b f.hdr.cfaKind f.hdr.cfaPhase) r.image r.clip f.cfgH f.cfgW
  let sum := Stats.summary b s (d.freeNow 32) 0
  let id : Stats.Ident := { head := f.head, ctx := f.ctx, cid := f.hdr.cid, ssq := f.hdr.ssq, qid := g.qid, calSeq := (d.ctx f.ctx).calSeq }
  let out : PassOut := {
    developed := r.image, stages := [(1, [r.black]), (2, [r.defect]), (3, r.demosaic)],
    stats := Stats.record b s id f.cfgH f.cfgW sum, summary := sum,
    ae := if aeEn b then Stats.autoExposure b s f.hdr.exposureNs f.hdr.gain else none,
    awb := if awbEn b then Stats.autoWhite b s (Pb.fe b 6 Pb.WBM.WB_R) (Pb.fe b 6 Pb.WBM.WB_B) else none,
    found := r.detected.filter fun x => x ∉ r.marked, detected := r.detected.length,
    noRef := tnr && ref.isNone, obSkip := r.obSkip, tnrRef := if tnr then (ref.map (·.2)).getD 0 else 0 }
  let pg := f.fePage
  let d := d.freeStep.bump (pg 0) Reg.FE_CTL.FOLIO_CNT 0 (f.folioCount * f.passes)
  let d := if 0 < r.sats then (d.bump (pg 0) Reg.FE_CTL.F16_SAT_CNT 0 r.sats).raise (pg 0) 0 else d
  let before := fun (g : PassOut → Bool) => (f.firstOut.map g).getD false || (f.out.map g).getD false
  let d := if r.obSkip && !before (·.obSkip) then d.bump (pg 1) Reg.FE_BLK.OB_SKIP_CNT else d
  let d := d.bump (pg 2) Reg.FE_DPC.MAP_SKIP_CNT 0 r.skips
  let d := d.bump (pg 8) Reg.FE_LNS.CLAMP_CNT 0 r.clamps
  (if out.noRef && !before (·.noRef) then d.bump (pg 7) Reg.FE_NRD.NO_REF_CNT else d, out)

/-! ### Rendition passes of a frame (R210) -/

/-- Has a binding a REALTIME or PROVISIONAL sink (R210)? -/
def Rend.early (b : Rend) : Bool := b.sinks.any fun s => s.kind ≠ 0 && s.mode ≠ 0

/-- Is a rendition's job over frame `f` reserved work (R20)? -/
def Dev.jobWithin (d : Dev) (f : Frame) (g : Gen) (b : Rend) : Bool :=
  let (_, _, w, h) := Render.sizes g.bank b.slot f.cfgW f.cfgH
  d.reserved 1 b.rend ≠ 0 && (match Assoc.find d.pip.lastJob b.rend with
    | none => true
    | some t => t < f.arrived && w * h * 10 ^ 9 * 2 ^ 32 ≤ d.reserved 1 b.rend * 1000 * (f.arrived - t))

/-- Put jobs into the queue: a first pass counts as its rendition's newest unit (R20). -/
def Dev.addJobs (d : Dev) (f : Frame) (js : List Job) : Dev :=
  { d with pip := { d.pip with
    jobs := d.pip.jobs ++ js,
    lastJob := (js.filter (·.first)).foldl (fun l j => Assoc.put l j.bind.rend f.arrived) d.pip.lastJob } }

/-- The binding under which rendition `r`, if it is enabled, runs a new pass over a frame: the frame's own, else the one in
force if it serves the frame's context (R209, R210). -/
def Dev.passBind (d : Dev) (f : Frame) (r : Nat) : Option Rend :=
  match d.rend? r with
  | some b => if !b.enable then none else match Assoc.find f.binds r with
    | some x => some x
    | none => if b.ctx = f.ctx then some b else none
  | none => none

/-- Make the rendition passes over a developed image: each enabled rendition of the frame's context that `sel` picks. -/
def Dev.makeJobs (d : Dev) (f : Frame) (g : Gen) (first final : Bool) (sel : Rend → Bool) : Dev :=
  let bs := (List.range 48).filterMap (d.passBind f)
  let there := fun (b : Rend) (j : Job) => first && j.frame = f.key && j.bind.rend = b.rend && j.first
  let js := ((bs.filter sel).filter fun b => !(d.pip.jobs.any (there b) || (first && Assoc.has f.firstOutputs b.rend))).map fun b =>
    ({ frame := f.key, bind := b, gen := g, first := first, final := final, made := d.clock,
       reserved := if first then d.jobWithin f g b else f.reserved } : Job)
  d.addJobs f js

/-- A respin abandons the rendition passes that it regenerates, but for passes over the first-pass image of renditions
with a REALTIME or PROVISIONAL sink (R210). -/
def Dev.abandonJobs (d : Dev) (k : Nat) (sel : Rend → Bool) : Dev :=
  let keeps := fun (j : Job) => j.first && j.bind.early
  let held : Nat → Bool := fun r => match d.frame? k with
    | some f => (d.passBind f r).isSome
    | none => false
  let gone := fun (j : Job) => j.frame = k && held j.bind.rend && sel j.bind && !keeps j
  let d := (d.pip.jobs.filter gone).foldl (fun d j => d.yrcBump j.bind.rend Reg.YRC.DISCARD_CNT) d
  let d := d.stopJobs gone
  let js := d.pip.jobs.map fun j => if j.frame = k ∧ held j.bind.rend = true ∧ sel j.bind = true then { j with final := false } else j
  let d : Dev := { d with pip := { d.pip with jobs := js } }
  d.updFrame k fun f => { f with outputs := f.outputs.filter fun o => !(held o.1 && match Assoc.find f.binds o.1 with
    | some b => sel b
    | none => false) }

/-! ### The loop (R87, R181 to R184) -/

/-- Issue a loop Quire for frame `cid` of a context; a head with no settings channel gets none. A frame that publishes after its
context was unbound issues none: there is no head to send it to, and R181 does not speak of it (DESIGN CHOICE, log 133). -/
def Dev.loopQuire (d : Dev) (c cid : Nat) (ae awb : Option (Nat × Nat)) (dflt : Bool) : Dev :=
  let x := d.ctx c
  match x.head with
  | none => d
  | some h =>
    if 252 ≤ h ∨ (ae = none ∧ awb = none) then d
    else
      let b0 := x.projected
      let b1 := match ae with
        | none => b0
        | some (e, g) => Pb.setDw (Pb.setDw (Pb.setDw b0 (Pb.feDw 0 0x800) e) (Pb.feDw 0 0x804) (e / 2 ^ 32)) (Pb.feDw 0 0x808) g
      let b2 := match awb with
        | none => b1
        | some (r, bl) =>
          let b1 := Pb.setDw b1 (Pb.feDw 6 0x400) (setBits (Pb.dw b1 (Pb.feDw 6 0x400)) 0 16 r)
          Pb.setDw b1 (Pb.feDw 6 0x404) (setBits (Pb.dw b1 (Pb.feDw 6 0x404)) 0 16 bl)
      let q : Quire := { id := 2 ^ 31 + cid % 2 ^ 31, asn := 0, loop := true, target := .echo, ssq := nextSsq (d.head h).ssq, bank := b2,
                         ae := ae.isSome, awb := awb.isSome, dflt := dflt }
      let d := (d.setCtx c { x with quires := x.quires ++ [q] }).sendSettings h (q.contents b0)
      (d.bump (d.fePage c 9) Reg.FE_STA.LOOP_Q_CNT).raise (d.fePage c 9) 0

/-- FUNC 0x01's PROPOSAL and reply payload (R184). -/
def loopPayload (ae awb : Option (Nat × Nat)) : List Nat :=
  let (e, g) := ae.getD (0, 0)
  let (r, b) := awb.getD (0, 0)
  [e % 2 ^ 32, e / 2 ^ 32, g, r + b * 2 ^ 16, b2n ae.isSome + 2 * b2n awb.isSome, 0, 0]

/-- The loop runs at the publication of a frame's statistics (R181). -/
def Dev.runLoop (d : Dev) (f : Frame) (o : PassOut) : Dev :=
  if bitAt f.flags 0 ∨ (o.ae = none ∧ o.awb = none) then d
  else
    let pg := f.fePage 9
    if d.assisted pg then
      let (d, posted) := d.postAssist { part := d.ctxOwner f.ctx, tag := 0, func := 1, page := pg, object := f.ctx, cid := f.hdr.cid,
                                        head := f.head, proposal := loopPayload o.ae o.awb, key := f.key } (d.framePeriodUs f.ctx)
      if posted then d else d.loopQuire f.ctx f.hdr.cid o.ae o.awb false
    else d.loopQuire f.ctx f.hdr.cid o.ae o.awb false

/-! ### Statistics delivery (R86, R178) -/

/-- The published record and summary: they name the record (R180), and the Quire of the final generation (R86). -/
def PassOut.published (o : PassOut) (addr qid : Nat) : PassOut :=
  let h := o.stats.take 0x14 ++ leBytes 4 qid ++ (o.stats.drop 0x18).take (0xB8 - 0x18) ++ leBytes 8 addr ++ (o.stats.drop 0xC0).take 0x3C
  { o with addr := addr, summary := o.summary.take 120 ++ leBytes 8 addr, stats := h ++ leBytes 4 (crc32c h) ++ o.stats.drop 0x100 }

/-- Deliver a record into the statistics ring of its generation (R178). A RING_ADDR that is not aligned to 4 KiB and a
RING_SLOT_BYTES that is no multiple of 4,096 are used as stored: R186 states no outcome (DESIGN CHOICE, log 135). -/
def Dev.statsRing (d : Dev) (f : Frame) (g : Gen) (rec : List Byte) : Dev :=
  let fld := fun F => Pb.fe g.bank 9 F
  let slots := fld Pb.STA.RING_SLOTS
  let p := d.ctxOwner f.ctx
  if slots = 0 ∨ 64 ≤ p then d
  else
    let cfg := (fld Pb.STA.RING_ADDR_LO + 2 ^ 32 * fld Pb.STA.RING_ADDR_HI, slots, fld Pb.STA.RING_SLOT_BYTES)
    let st := (d.ctx f.ctx).stats
    let pos := if st.ring = some cfg then st.pos else { st.pos with slot := 0, seq := 0 }
    let (d, pos, res) := d.slotDeliver p cfg.1 cfg.2.2 slots pos fun seq skipped =>
      fit 0xFC (leBytes 4 seq ++ leBytes 4 rec.length ++ leBytes 4 skipped) ++ rec
    let pg := f.fePage 9
    let (d, pos) := if res = .failed then d.ringXfer p pg f.ctx pos else (d, pos)
    let d := d.updCtx f.ctx fun x => { x with stats := { ring := some cfg, pos := pos } }
    if res = .delivered then d else (d.bump pg Reg.FE_STA.RING_SKIP_CNT).raise pg 1

/-! ### Calibration proposals (R160, R162) -/

/-- Track candidates and post proposals at PROCESSED (R160). While MODE is not 0b01 the list is empty, and a proposal whose request
is outstanding is proposed again at the next PROCESSED: R160 says neither (DESIGN CHOICE, log 136). -/
def Dev.trackDefects (d : Dev) (f : Frame) (g : Gen) (o : PassOut) : Dev :=
  let pg := f.fePage 2
  let d := d.wr pg Reg.FE_DPC.DYN_CNT o.detected
  if !d.assisted pg then d.updCtx f.ctx fun x => { x with candidates := [] }
  else
    let old := (d.ctx f.ctx).candidates
    let kept := (old.filter fun e => e.1 ∈ o.found).map fun e => (e.1, e.2 + 1)
    let fresh := (o.found.filter fun x => !old.any fun e => e.1 = x).map fun x => (x, 1)
    let room := 64 - kept.length
    let d := d.bump pg Reg.FE_DPC.CAND_FULL_CNT 0 (fresh.length - room)
    let cs := kept ++ fresh.take room
    let ready := (cs.filter fun e => Pb.fe g.bank 2 Pb.DPC.PROMOTE ≤ e.2).take 6
    let d := d.updCtx f.ctx fun x => { x with candidates := cs }
    if ready = [] then d
    else
      let es := ready.map fun e => e.1 % 65536 + e.1 / 65536 * 2 ^ 15
      let (d, posted) := d.postAssist { part := d.ctxOwner f.ctx, tag := 0, func := 4, page := pg, object := f.ctx, cid := f.hdr.cid,
                                        head := f.head, proposal := es.length :: es, key := f.key } 65535
      if posted then d
      else d.updCtx f.ctx fun x => { x with candidates := x.candidates.filter fun e => e ∉ ready }

/-- Post a shading proposal at PROCESSED (R162). -/
def Dev.proposeShading (d : Dev) (f : Frame) (g : Gen) (o : PassOut) : Dev :=
  let pg := f.fePage 3
  if !d.assisted pg ∨ Pb.fe g.bank 3 Pb.SHD.CAL_ARM = 0 then d
  else
    let c := Develop.cfa g.bank f.hdr.cfaKind f.hdr.cfaPhase
    let grid := Develop.shadeProposal g.bank c (((Assoc.find o.stages 2).getD []).getD 0 [])
    (d.postAssist { part := d.ctxOwner f.ctx, tag := 0, func := 5, page := pg, object := f.ctx, cid := f.hdr.cid, head := f.head,
                    key := f.key, extra := grid.map fun e => (e.1, e.2.toNat) } 65535).1

/-! ### Taps (R146 to R148) -/

/-- TAP_DISARMED and TAP_ENDED (R130). -/
def TAP_DISARMED : Status := .code 0x58 true
def TAP_ENDED : Status := .code 0x59 true

/-- An arming ends: its command completes with the deliveries made. -/
def Dev.endTap (d : Dev) (c i : Nat) (st : Status) : Dev :=
  match Assoc.find (d.ctx c).taps i with
  | none => d
  | some t =>
    let d := d.updCtx c fun x => { x with taps := Assoc.del x.taps i }
    match d.cmd? t.part t.asn with
    | some cmd => d.succeed cmd t.delivered st
    | none => d

/-- Planes and bytes per sample of a tap point's data for a frame. -/
def Frame.tapData (f : Frame) (point : Nat) : List Develop.Plane × Nat :=
  let o := f.out.getD {}
  match point with
  | 0 => ([f.rawPlane], 2)
  | 4 => (o.developed, 2)
  | n => ((Assoc.find o.stages n).getD [], 4)

/-- A tap's slot from offset 4 on (R148). -/
def Dev.tapSlot (d : Dev) (f : Frame) (t : Tap) (seq skipped : Nat) : List Byte :=
  let (ps, bps) := f.tapData t.point
  let w := min (if t.w = 0 then f.cfgW else t.w) (f.cfgW - t.x0)
  let h := min (if t.h = 0 then f.cfgH else t.h) (f.cfgH - t.y0)
  let pitch := ceilDiv (w * bps) 64 * 64
  let data := ps.flatMap fun p => ((p.drop t.y0).take h).flatMap fun r =>
    fit pitch (((r.drop t.x0).take w).flatMap fun v => leBytes bps (unsgn (8 * bps) v))
  fit 0xFFC (leBytes 4 seq ++ leBytes 4 data.length ++ leBytes 1 t.point ++ leBytes 1 ps.length ++ leBytes 2 bps ++
    leBytes 2 t.x0 ++ leBytes 2 t.y0 ++ leBytes 2 w ++ leBytes 2 h ++ leBytes 4 skipped ++ leBytes 4 pitch) ++
    d.colophon f false ++ data

/-- Deliver a PROCESSED frame to one tap of its context (R147, R148). -/
def Dev.tapOne (d : Dev) (f : Frame) (i : Nat) : Dev :=
  match Assoc.find (d.ctx f.ctx).taps i with
  | none => d
  | some t =>
    let serves := if t.point = 0 ∨ t.point = 4 then t.armedAt ≤ f.tProc else f.firstGen.isSome && t.armedAt ≤ f.tFirst
    let put := fun (d : Dev) (t : Tap) => d.updCtx f.ctx fun x => { x with taps := Assoc.upd x.taps i fun _ => t }
    if f.recordOnly ∧ t.point ≠ 0 then put d { t with skipped := t.skipped + 1 }
    else if !serves then d
    else
      let turn := t.seen % (t.decimate + 1) = 0
      let t := { t with seen := t.seen + 1 }
      if !turn then put d t
      else
        let pos : RingPos := { slot := t.slot, seq := t.delivered, skipped := t.skipped, warned := t.xferWarned }
        let late : Bool := f.deadlinePassed && !bitAt f.flags 10
        let (d, pos, res) := d.slotDeliver t.part t.ring t.slotBytes t.slots pos
          (d.tapSlot (if late then { f with flags := f.flags ||| 2 ^ 10 } else f) t)
        let d := if res = .delivered then d.finalRelease f.key else d
        let pg := f.fePage 10
        let (d, pos) := match res with
          | .failed => d.ringXfer t.part pg f.ctx pos
          | .tooBig => (d.event t.part pg WARN 0x040D (frameData f.head f.hdr.cid), pos)
          | _ => (d, pos)
        let d := put d { t with slot := pos.slot, delivered := pos.seq, skipped := pos.skipped, xferWarned := pos.warned }
        if res = .delivered ∧ pos.seq = t.count then d.endTap f.ctx i .SUCCESS else d

/-- Deliver a frame to its context's taps. -/
def Dev.tapFrame (d : Dev) (k : Nat) : Dev :=
  match d.frame? k with
  | none => d
  | some f => (List.range 4).foldl (fun d i => d.tapOne ((d.frame? k).getD f) i) d

/-! ### PROCESSED (R80, R86) -/

/-- Serve a PROCESSED frame once its Colophon is final: taps, sinks, its Take. -/
def Dev.serveFinal (d : Dev) (k : Nat) : Dev :=
  match d.frame? k with
  | none => d
  | some f => if f.injectWait then d else ((d.tapFrame k).settleFrame k)

/-- The device address of a record to be published: not zero, and of no record held (R180). -/
def Dev.recordAddr (d : Dev) : Nat :=
  let held := d.cap.frames.filterMap fun e => e.2.out.map (·.addr)
  let a := 1 + d.freeNow 63
  if held.contains a then ((seqFrom 1 (held.length + 1)).find? fun i => !held.contains i).getD 0 else a

/-- Publish what the final pass of a frame made. -/
def Dev.publish (d : Dev) (k : Nat) : Dev :=
  match d.frame? k with
  | none => d
  | some f => match f.out with
    | none => d
    | some o =>
      let g := f.curGen.getD {}
      let o := o.published d.recordAddr g.qid
      let d := d.freeStep.updFrame k fun f => { f with out := some o }
      ((((d.runLoop f o).statsRing f g o.stats).trackDefects f g o).proposeShading f g o)

/-- A SEALED frame whose last pass has ended becomes PROCESSED (R80, R140). -/
def Dev.tryProcessed (d : Dev) (k : Nat) : Dev :=
  match d.frame? k with
  | none => d
  | some f =>
    if f.state = .sealed ∧ f.pass = none ∧ f.pending = none ∧ (f.recordOnly ∨ f.firstOut.isSome) then
      let d := d.setFrame { f with state := .processed, tProc := d.now }
      let d := if f.recordOnly then
          d.eachSink k fun d _ b i s => d.giveUp k b i s
        else d.publish k
      d.serveFinal k
    else d

/-- A Section pass ends (R80): what it made, its rendition passes, and PROCESSED when the seal point has passed. An in-line
pass may end before the frame closes, once every row has closed (R137, R153). A respin of a gang ends when every member has
ended its share: `member`, or all that run (R10). -/
def Dev.passEnd (d : Dev) (k : Nat) (respin : Bool) (member : Option Nat) : Dev :=
  match d.frame? k with
  | none => d
  | some f =>
    if respin then
      match f.pass with
      | none => d
      | some g =>
        let left := f.runs.filter fun n => member.any (· ≠ n)
        if left ≠ [] ∨ f.waits ≠ [] then d.setFrame { f with runs := left }
        else
        let (d, o) := d.runPass f g
        let f := { f with pass := none, runs := [], curGen := some g, out := some o }
        ((d.setFrame f).makeJobs f g false true fun _ => true).tryProcessed k
    else if f.firstRunning ∧ f.cfgH ≤ f.rowsClosed then
      let g := f.firstGen.getD {}
      let (d, o) := d.runPass (if f.isClosed then f else (f.closed d.now).1) g
      let respun : Bool := f.pass.isSome || f.out.isSome
      let f := { f with firstOut := some o, out := if f.out.isSome then f.out else some o }
      let d := d.setFrame f
      let d := if respun then
          d.makeJobs f g true false Rend.early
        else d.makeJobs f g true true fun _ => true
      d.tryProcessed k
    else d

/-- RESPIN_PASS_START (R77, R78, R210): a Section respin takes the Sections that choose it, of a gang each for its own share, one
after another (R10); a rendition respin makes its passes. -/
def Dev.respinStart (d : Dev) (k : Nat) (member : Option Nat) : Dev :=
  match d.frame? k with
  | none => d
  | some f =>
    let take := fun (l : List Nat) => l.filter fun n => member.all (· = n) && d.chosenOn f true n
    if f.pass.isSome ∧ f.waits ≠ [] then
      d.setFrame { f with runs := f.runs ++ take f.waits, waits := f.waits.filter fun n => !(take f.waits).contains n }
    else if !d.respinReady f then d
    else match f.pending with
      | none => d
      | some (g, true) =>
        let now := take f.members
        if now = [] then d
        else
          let d := d.updCtx f.ctx fun x => x.noteApplied g f.ord f.hdr.cid
          let d := (d.bump (d.rspPage f.ctx) Reg.FE_RSP.RESPIN_CNT).bump (f.fePage 0)
            Reg.FE_CTL.MEM_PASS_CNT 0 f.passes
          let d := d.setFrame { f with pending := none, pass := some g, runs := now, waits := f.members.filter fun n => !now.contains n }
          (d.abandonJobs k fun _ => true).noteGens f.ctx
      | some (g, false) =>
        let old := (f.curGen.getD {}).bank
        let sel := fun (b : Rend) => Pb.differsSlot old g.bank b.slot
        let d := (d.bump (d.rspPage f.ctx) Reg.FE_RSP.RESPIN_CNT).updCtx f.ctx fun x => x.noteApplied g f.ord f.hdr.cid
        let f := { f with pending := none, curGen := some g }
        let d := (d.setFrame f).abandonJobs k sel
        ((d.makeJobs f g false true sel).noteGens f.ctx).tryProcessed k

/-! ### The seal point (R69, R75, R149) -/

/-- The notice with which a Quire of a sealed frame completes (R69). -/
def Quire.notice (q : Quire) (superseded : Bool) : Status :=
  if superseded then QUIRE_SUPERSEDED else if q.late then QUIRE_LATE else if q.respun then QUIRE_RESPUN else .SUCCESS

/-- The seal point of a frame: its INGESTED instant plus SEAL_GRACE of its first-pass generation (R75, R90). -/
def Dev.sealInstant (d : Dev) (f : Frame) : Nat := f.tIng + Pb.fe (d.genOf f).bank 11 Pb.RSP.SEAL_GRACE * 1000 * 2 ^ 32

/-- SEAL_POINT: a frame's seal grace has passed (R75). -/
def Dev.sealPoint (d : Dev) (k : Nat) : Dev :=
  match d.frame? k with
  | none => d
  | some f =>
    if f.state ≠ .ingested then d
    else
      let d := d.setFrame { f with state := .sealed, tSeal := d.sealInstant f }
      let qs := (d.ctx f.ctx).quires
      let d := d.endQuires f.ctx fun q =>
        if q.eff = some f.ord then
          some (q.notice (qs.any fun y => y.part = q.part && q.asn < y.asn && y.eff.isSome && y.eff.getD 0 ≤ f.ord), f.hdr.cid % 2 ^ 32)
        else none
      let pg := Pg.ING f.ing
      let d := if d.assisted pg ∧ Pb.fe f.ingGen.bank 0 Pb.CTL.INJECT_REQ = 1 then
          let (d, posted) := d.postAssist { part := d.ctxOwner f.ctx, tag := 0, func := 6, page := pg, object := f.ctx,
                                            cid := f.hdr.cid, head := f.head, key := k } 500
          if posted then d.updFrame k fun f => { f with injectWait := true } else d
        else d
      d.tryProcessed k

/-! ### Closed frames (R140, R235) -/

/-- A frame has closed: its Take may code it; a RECORD_ONLY frame loses its pass and its early sinks (R140). -/
def Dev.afterClose (d : Dev) (k : Nat) : Dev :=
  match d.frame? k with
  | none => d
  | some f =>
    if f.state ≠ .ingested then d
    else
      let d := d.takeIngested k
      let d := if f.recordOnly then
          let d := (d.updFrame k fun f => { f with pass := none, pending := none }).stopJobs fun j => j.frame = k
          let d := if (d.ctx f.ctx).prev = some k then d.updCtx f.ctx fun x => { x with prev := none } else d
          d.eachSink k fun d _ b i s => if s.mode = 0 then d else d.giveUp k b i s
        else d
      d

/-- Every closed frame takes its next steps. -/
def Dev.settleClosed (d : Dev) : Dev := ((d.cap.frames.map (·.1)).foldl (fun d k => d.afterClose k) d).noteQueues

/-! ### Calibration writes (R154) -/

/-- Does a pass of the context run? -/
def Dev.passRuns (d : Dev) (c : Nat) : Bool := (d.framesOf c).any fun f => f.pass.isSome || f.firstRunning

/-- The length of MAP_ADDED's field and the defect map's range (R160). -/
def mapAddedAt : Nat := 0x170000

/-- Apply a calibration write whole (R154, R160). The reserved bytes behind MAP_ADDED take no write and read 0 (R4). -/
def Dev.calWrite (d : Dev) (c : Nat) (cells : List (Nat × Byte)) (software : Bool) : Dev :=
  let cells := cells.filter fun e => e.1 < mapAddedAt + 4
  let touchesMap := cells.any fun e => e.1 < 0x100000
  let touchesAdded := cells.any fun e => mapAddedAt ≤ e.1 && e.1 < mapAddedAt + 4
  let cells := if software ∧ touchesMap ∧ !touchesAdded then cells ++ (List.range 4).map fun i => (mapAddedAt + i, (0 : Byte)) else cells
  let m := cells.foldl (fun m e => Sparse.set m e.1 e.2 0) ((Assoc.find d.cap.calib c).getD [])
  let d : Dev := { d with cap := { d.cap with calib := if m = [] then Assoc.del d.cap.calib c else Assoc.put d.cap.calib c m } }
  let d := d.updCtx c fun x => { x with calSeq := (x.calSeq + 1) % 2 ^ 32 }
  let pg := d.fePage c 0
  (d.wr pg Reg.FE_CTL.CAL_SEQ_LAST (d.ctx c).calSeq).raise pg 1

/-- Entries that the defect map in use holds: MAP_COUNT + MAP_ADDED (R158, R160). MAP_COUNT is that of the context's newest
generation: R160 does not say which one the limit and an insertion go by (DESIGN CHOICE, log 137). -/
def Dev.mapCount (d : Dev) (c : Nat) : Nat :=
  Pb.fe (d.ctx c).newest.bank 2 Pb.DPC.MAP_COUNT + ofLe ((seqFrom mapAddedAt 4).map (d.calByte c))

/-- MAP_ADDED after a held calibration write (R160). -/
def CalWrite.addedAfter (w : CalWrite) (added : Nat) : Nat :=
  let byte := fun (i : Nat) => ((w.cells.find? fun e => e.1 = mapAddedAt + i).map (·.2)).getD (BitVec.ofNat 8 (added / 256 ^ i))
  if w.insert ≠ [] then added + w.insert.length
  else if w.cells.any fun e => mapAddedAt ≤ e.1 && e.1 < mapAddedAt + 4 then ofLe ((List.range 4).map byte)
  else if w.software && w.cells.any fun e => e.1 < 0x100000 then 0 else added

/-- Entries that the map will hold once the writes that wait have been applied, in their order. -/
def Dev.mapCountHeld (d : Dev) (c : Nat) : Nat :=
  let added := ofLe ((seqFrom mapAddedAt 4).map (d.calByte c))
  d.mapCount c - added + ((d.cap.calHeld.filter fun w => w.ctx = c).foldl (fun a w => w.addedAfter a) added)

/-- Insert a map entry in ascending order of (y, x). -/
def insertDefect (e : Nat) : List Nat → List Nat
  | [] => [e]
  | x :: r => if e % 2 ^ 29 < x % 2 ^ 29 then e :: x :: r else x :: insertDefect e r

/-- The calibration write that inserts defect-map entries and raises MAP_ADDED (R160). -/
def Dev.mapInsert (d : Dev) (c : Nat) (es : List Nat) : List (Nat × Byte) :=
  let old := (List.range (min (d.mapCount c) 262144)).map fun i => ofLe ((seqFrom (4 * i) 4).map (d.calByte c))
  let new := es.foldl (fun l e => insertDefect e l) old
  let added := ofLe ((seqFrom mapAddedAt 4).map (d.calByte c)) + es.length
  ((new.flatMap (leBytes 4)).zipIdx.map fun e => (e.2, e.1)) ++ (leBytes 4 added).zipIdx.map fun e => (mapAddedAt + e.2, e.1)

/-- Apply a write that waited. -/
def Dev.calApply (d : Dev) (w : CalWrite) : Dev :=
  if w.insert ≠ [] then d.calWrite w.ctx (d.mapInsert w.ctx w.insert) false else d.calWrite w.ctx w.cells w.software

/-- A calibration write of the device's own: at once, or held while a pass of the context runs (R154). -/
def Dev.calGive (d : Dev) (w : CalWrite) : Dev :=
  if d.passRuns w.ctx ∨ d.calHeldFor w.ctx then { d with cap := { d.cap with calHeld := d.cap.calHeld ++ [w] } }
  else d.calApply w

end Sys2Proof.Machine
end

