-- ==== Sys2Proof/Machine/Ingest.lean ====
section
/-! DEFINITION. Ingest: from packets and CSI-2 to frames, binding contexts, taps, Quires (spec 03 R62 to R76; spec 05). -/

namespace Sys2Proof.Machine

/-! ### Buffers (R22) -/

/-- Frame-pool bytes of a stack that frames use. -/
def Dev.poolUsed (d : Dev) (s : Nat) : Nat :=
  d.cap.frames.foldl (fun a e => a + (if e.2.stack = s then rawBytes e.2.cfgW e.2.cfgH + 65536 else 0) +
    (if e.2.devStack = some s then e.2.imageBytes else 0)) 0

/-- The stack on which a frame of a context can be placed. -/
def Dev.placeFrame (d : Dev) (c w h : Nat) : Option Nat :=
  match d.liveFrom (d.ctx c).nextStack with
  | none => none
  | some s => if d.poolUsed s + rawBytes w h + 65536 ≤ d.rd (Pg.HBM s) Reg.HBM.POOL_MIB * 2 ^ 20 then some s else none

/-- Frame-pool bytes that a context needs to fit: four raw buffers and four developed images of its configured size (spec 12,
CONTEXT_PAUSED). -/
def Dev.ctxNeed (d : Dev) (c : Nat) : Nat :=
  let b := (d.ctx c).newest.bank
  let w := Pb.fe b 0 Pb.CTL.CFG_WIDTH
  let h := Pb.fe b 0 Pb.CTL.CFG_HEIGHT
  4 * rawBytes w h + 4 * developedBytes w h

/-- The frame pool of the live stacks. -/
def Dev.poolBytes (d : Dev) : Nat :=
  ((List.range 4).filter d.stackLive).foldl (fun a s => a + d.rd (Pg.HBM s) Reg.HBM.POOL_MIB * 2 ^ 20) 0

/-- What the bound contexts that are not paused need. -/
def Dev.poolNeed (d : Dev) : Nat :=
  (d.cap.ctxs.filter fun e => e.2.head.isSome && !e.2.paused).foldl (fun a e => a + d.ctxNeed e.1) 0

/-- Pause bound contexts in descending order until the remaining ones fit (R23 step 4). -/
def Dev.pauseFit (d : Dev) : Dev :=
  (((d.cap.ctxs.filter fun e => e.2.head.isSome && !e.2.paused).map (·.1)).reverse).foldl (fun (d : Dev) c =>
    if d.poolNeed ≤ d.poolBytes then d
    else (d.updCtx c fun x => { x with paused := true }).event (d.ctxOwner c) (d.rspPage c) WARN 0x0903 [BitVec.ofNat 8 c]) d

/-- Resume paused contexts in ascending order, for as long as they fit. -/
def Dev.resumeFit (d : Dev) : Dev :=
  (((d.cap.ctxs.filter fun e => e.2.head.isSome && e.2.paused).map (·.1)).foldl (fun (a : Dev × Bool) c =>
    if a.2 && a.1.poolNeed + a.1.ctxNeed c ≤ a.1.poolBytes then (a.1.updCtx c fun x => { x with paused := false }, true)
    else (a.1, false)) (d, true)).1

/-! ### Frame headers (R134, R135) -/

/-- The checks of R135 that fail. -/
inductive Refused where
  | preadmit | orphan | order | bad | nobuf
deriving DecidableEq, Repr

/-- Announce a frame of context `c` (R58, R60, R131, R135). -/
def Dev.announce (d : Dev) (n h c stack : Nat) (hdr : Fhdr) : Dev :=
  let x := d.ctx c
  let hd := d.head h
  let g := genFor x.gens x.ord
  let w := Pb.fe g.bank 0 Pb.CTL.CFG_WIDTH
  let hh := Pb.fe g.bank 0 Pb.CTL.CFG_HEIGHT
  let bad := d.echoBad c hdr.ssq
  let since := x.lastArrival.map fun t => d.clock - t
  let ptp := ((hdr.expStart : Int) + d.tbDiff (d.rd Pg.TMB Reg.TMB.PTP_REF)) / 2 ^ 32
  let dflt := x.quires.any fun q => q.loop && q.dflt && q.eff = some x.ord
  let f : Frame := {
    head := h, ctx := c, owner := d.ctxOwner c, hdr := hdr, ord := x.ord, ref := x.prev, ing := n, cfgW := w, cfgH := hh, ingGen := g, inl := x.inl,
    gang := x.gang, section_ := x.section_, stack := stack, tAnn := d.now, arrived := d.clock, ssqSent := hd.ssq,
    ptp := (ptp % (2 ^ 48 * 10 ^ 9)).toNat,
    flags := (if bad then 2 ^ 8 else 0) + (if hd.rebound then 2 ^ 12 else 0) + (if dflt then 2 ^ 15 else 0),
    reserved := reservedWork (d.reserved 0 c) (w * hh) since }
  let d := (d.setFrame f).setHead h { hd with rebound := false, lastCid := some hdr.cid }
  let d := d.updCtx c fun x => { x with
    ord := x.ord + 1, prev := some f.key, mismatchRun := if bad then x.mismatchRun + 1 else 0, nextStack := (stack + 1) % 4,
    geometryWarned := x.geometryWarned && hdr.rows ≠ hh, lastArrival := some d.clock, period := since,
    limits := (Pb.fe g.bank 11 Pb.RSP.ECHO_LIMIT, Pb.fe g.bank 11 Pb.RSP.MISMATCH_RESEND) }
  let d := d.bump (Pg.ING n) Reg.ING.FRAMES_CNT
  let pg := d.rspPage c
  let d := if bad then ((d.bump pg Reg.FE_RSP.SSQ_MISMATCH_CNT).event f.owner pg WARN 0x0201
      (leBytes 1 h ++ zeros 1 ++ leBytes 2 hdr.ssq ++ zeros 4 ++ leBytes 8 hdr.cid)).raise pg 1 else d
  ((d.latchFrame f).takeAnnounce f.key).noteGens c

/-- Judge a header of head `h` on unit `n` (R135): announced, or the check that fails. Heads 252 to 255 have no binding of a VC:
their last Capture ID stays from enable to enable (DESIGN CHOICE, log 138). -/
def Dev.judge (d : Dev) (n h : Nat) (hdr : Fhdr) : Dev × Option Refused :=
  if (if 252 ≤ h then d.admission h else d.rd (Pg.ING n) Reg.ING.ADMIT h) ≠ 2 then (d, some .preadmit)
  else match d.ctxOfHead h with
    | none => (d, some .orphan)
    | some c =>
      let newer := (match (d.head h).lastCid with
        | none => true
        | some l => l < hdr.cid) && !d.cap.frames.any fun e => e.2.head = h && hdr.cid ≤ e.2.hdr.cid
      if !newer then (d, some .order)
      else if hdr.width = 0 ∨ hdr.depth < 8 ∨ 16 < hdr.depth ∨ 4 < hdr.cfaKind then (d, some .bad)
      else
        let d' := d.announceQuires c hdr.cid hdr.ssq
        let g := genFor (d'.ctx c).gens (d.ctx c).ord
        let room := if (d.ctx c).paused then none
          else d.placeFrame c (Pb.fe g.bank 0 Pb.CTL.CFG_WIDTH) (Pb.fe g.bank 0 Pb.CTL.CFG_HEIGHT)
        match room with
        | none => (d, some .nobuf)
        | some s => (d'.announce n h c s hdr, none)

/-- Count and report a header that R135 refuses; a Take of its context records it as missing. -/
def Dev.refuse (d : Dev) (n h cid : Nat) (r : Refused) : Dev :=
  let pg := Pg.ING n
  let owner := match d.ctxOfHead h with
    | some c => d.ctxOwner c
    | none => 0
  let x := d.head h
  let d := d.setHead h { x with dropped := x.dropped ++ [cid] }
  let d := match r with
    | .preadmit => d.bump pg Reg.ING.PREADMIT_CNT
    | .orphan =>
      let d := d.bump pg Reg.ING.ORPHAN_CNT
      if d.due x.noCtxWarned then
        (d.setHead h { d.head h with noCtxWarned := some d.elapsed }).event owner pg INFO 0x0401 (frameData h cid)
      else d
    | .order => ((d.bump pg Reg.ING.CID_ORDER_CNT).event owner pg WARN 0x0402 (frameData h cid)).raise pg 2
    | .bad => ((d.bump pg Reg.ING.FHDR_BAD_CNT).event owner pg WARN 0x0403 (frameData h cid)).raise pg 2
    | .nobuf => ((d.bump pg Reg.ING.NOBUF_CNT).event owner pg WARN 0x0404 (frameData h cid)).raise pg 3
  match d.ctxOfHead h with
  | some c => d.takeRefused c cid
  | none => d

/-- The fields of an FHDR's payload (R103). -/
def fhdrOf (w : List Nat) : Fhdr :=
  let f := fun i lo n => bits (w.getD i 0) lo n
  { cid := f 0 0 48, ssq := f 0 48 16, expStart := f 1 0 64 * 2 ^ 32 + f 3 0 32, expEnd := f 2 0 64 * 2 ^ 32 + f 3 32 32,
    exposureNs := f 4 0 64, gain := f 5 0 32, readout := f 5 32 16, width := f 6 0 16, rows := f 6 16 16, depth := f 6 32 5,
    cfaKind := f 6 40 4, cfaPhase := f 6 44 6, digest := f 7 0 32 }

/-- A packet that breaks its rules (R102). -/
def Dev.malformed (d : Dev) (g : Nat) : Dev := d.bump (Pg.HLL (g / 4)) Reg.HLL.MALFORMED_CNT

/-- Does a header admission its head (R132): it waits in CONFIG, the configuration is acknowledged and applied? -/
def Dev.admits (d : Dev) (n h : Nat) (hdr : Fhdr) : Bool :=
  d.rd (Pg.ING n) Reg.ING.ADMIT h = 1 && (d.head h).cfgWait = [] && (match (d.head h).cfg with
    | none => false
    | some (s, crc) => hdr.digest = crc && (hdr.ssq = s || ssqNewer hdr.ssq s))

/-- The VC of a packet carries no open frame any more. -/
def Dev.setDropping (d : Dev) (g vc : Nat) (cid : Option Nat) : Dev :=
  let x := d.group g
  d.setGroup g { x with dropping := match cid with
    | some c => Assoc.put x.dropping vc c
    | none => Assoc.del x.dropping vc }

/-- Does ingest discard every new FHDR: a disabled unit (R128), shed level 4 (R392), or power loss (R338)? -/
def Dev.shut (d : Dev) (n : Nat) : Bool := !d.works (Pg.ING n) || 4 ≤ d.shed || d.jnl.powerLoss

/-- Is head `h` of unit `n` shut: its unit is, or its context's partition was reset with PAUSE (R335)? -/
def Dev.shutHead (d : Dev) (n h : Nat) : Bool :=
  d.shut n || (match d.ctxOfHead h with
    | some c => (d.part (d.ctxOwner c)).paused
    | none => false)

/-- A discarded FHDR of that kind: counted in OFF_CNT; at shed level 4 a Take loses the frame (R392). -/
def Dev.shutOut (d : Dev) (n h cid : Nat) : Dev :=
  if d.jnl.powerLoss then d
  else
    let d := d.bump (Pg.ING n) Reg.ING.OFF_CNT
    if 4 ≤ d.shed then (match d.ctxOfHead h with
      | some c => d.takeRefused c cid
      | none => d)
    else d

/-- FHDR: a frame header arrives (R128, R132, R134, R135). One that is not of 8 words is discarded and counted in MALFORMED_CNT,
as R103 says of ROWS: of FHDR and FTRL it gives no outcome (DESIGN CHOICE, log 131). -/
def Dev.onFhdr (d : Dev) (g : Nat) : Dev :=
  d.onPacket g 0x1 fun d p =>
    let vc := pVc p.header
    let n := g / 8
    if p.words.length ≠ 8 then d.malformed g
    else
      let d := match Assoc.find (d.group g).openFrames vc with
        | some k => (d.closeFrame k .nextHeader).settleClosed
        | none => d
      let hdr := fhdrOf p.words
      let d := d.setDropping g vc none
      match Assoc.find (d.group g).vcs vc with
      | none => (d.bump (Pg.ING n) Reg.ING.PREADMIT_CNT).setDropping g vc (some hdr.cid)
      | some b =>
        let h := b.head
        if d.shutHead n h then (d.shutOut n h hdr.cid).setDropping g vc (some hdr.cid)
        else
          let d := if d.admits n h hdr then
              ((d.setHead h { d.head h with rebound := true, cfg := none }).setAdmit h 2).raise (Pg.ING n) 4
            else d
          match d.judge n h hdr with
          | (d, none) =>
            let x := d.group g
            d.setGroup g { x with openFrames := Assoc.put x.openFrames vc (frameKey h hdr.cid) }
          | (d, some r) => (d.refuse n h hdr.cid r).setDropping g vc (some hdr.cid)

/-! ### Rows (R137) -/

/-- Write samples into an open frame. -/
def Frame.putRow (f : Frame) (row col : Nat) (codes : List Nat) (good : Bool) : Frame × Bool :=
  if row < f.row.getD 0 then (f, false)
  else if f.cfgH ≤ row then ({ f with row := some row, longRows := if row ∈ f.longRows then f.longRows else f.longRows ++ [row] }, true)
  else
    let inside := codes.take (f.cfgW - col)
    let excess := f.cfgW < col + codes.length
    let raw := inside.zipIdx.foldl (fun m e => Assoc.put m (row * 65536 + (col + e.2)) e.1) f.raw
    ({ f with
        state := if inside = [] then f.state else .ingesting, row := some row, raw := raw,
        bad := if good then f.bad else f.bad ++ [(row, col, inside.length)],
        widthRows := if excess ∧ row ∉ f.widthRows then f.widthRows ++ [row] else f.widthRows }, true)

/-- Folios of an in-line frame that have gone to the Section, or to gang member i mod g, so far: those whose last row has closed
(R141). -/
def Frame.handed (f : Frame) : Nat :=
  if f.memoryPath then 0 else if f.cfgH ≤ f.rowsClosed then f.folioCount else f.rowsClosed / 64

/-- Raw samples are written; those of the last second count for PIX_RATE (R150). -/
def Dev.wrote (d : Dev) (n samples : Nat) : Dev :=
  { d with cap := { d.cap with
    written := (n, d.elapsed, samples) :: d.cap.written.filter fun e => d.elapsed ≤ e.2.1 + 800000000 } }

/-- Apply a row to the open frame `k` of unit `n`. -/
def Dev.rowIn (d : Dev) (n k row col : Nat) (codes : List Nat) (good : Bool) : Dev :=
  match d.frame? k with
  | none => d
  | some f =>
    match f.putRow row col codes good with
    | (_, false) => d.bump (Pg.ING n) Reg.ING.OOO_CNT
    | (f', true) => (d.setFrame { f' with folios := f'.handed }).wrote n codes.length

/-- ROWS: samples for the open frame of a VC (R102, R137, R138); a packet cut by a discarded gathering holds the
samples whose words came before it. -/
def Dev.onRows (d : Dev) (g : Nat) : Dev :=
  d.onPacket g 0x2 fun d p =>
    let vc := pVc p.header
    let n := g / 8
    match (Assoc.find (d.group g).openFrames vc).bind d.frame? with
    | none => if Assoc.has (d.group g).dropping vc then d else d.bump (Pg.ING n) Reg.ING.ORPHAN_CNT
    | some f =>
      let cnt := bits p.header 50 14
      let total := (p.words.foldr (fun w a => w + 2 ^ 64 * a) 0 : Nat)
      let depth := f.hdr.depth
      if cnt = 0 ∨ pWords p.header ≠ ceilDiv (cnt * depth) 64 ∨ 2 ^ (cnt * depth) ≤ total then d.malformed g
      else d.rowIn n f.key (bits p.header 21 14) (bits p.header 35 15)
        ((List.range (min cnt (64 * p.words.length / depth))).map fun i => bits total (i * depth) depth) true

/-! ### Trailers, auxiliary data, timeouts (R136, R138) -/

/-- A frame closes and takes its next steps. -/
def Dev.close (d : Dev) (k : Nat) (cause : CloseCause) : Dev := (d.closeFrame k cause).settleClosed

/-- FTRL: a frame trailer arrives (R104, R136, R138, R140). -/
def Dev.onFtrl (d : Dev) (g : Nat) : Dev :=
  d.onPacket g 0x3 fun d p =>
    let vc := pVc p.header
    let n := g / 8
    let cid := bits (p.words.getD 0 0) 0 48
    if p.words.length ≠ 2 then d.malformed g
    else
      let orphan := fun (d : Dev) =>
        let d := d.bump (Pg.ING n) Reg.ING.ORPHAN_CNT
        match Assoc.find (d.group g).vcs vc with
        | none => d
        | some b =>
          let hd := d.head b.head
          let newer : Bool := match hd.lastCid with
            | some l => l < cid
            | none => true
          if newer = true ∧ cid ∉ hd.dropped then
            let owner := match d.ctxOfHead b.head with
              | some c => d.ctxOwner c
              | none => 0
            d.event owner (Pg.ING n) WARN 0x040A (frameData b.head cid)
          else d
      match (Assoc.find (d.group g).openFrames vc).bind d.frame? with
      | some f => if f.hdr.cid = cid then d.close f.key .trailer else orphan d
      | none => if Assoc.find (d.group g).dropping vc = some cid then d.setDropping g vc none else orphan d

/-- Append an auxiliary record to a frame, or discard it whole (R138). -/
def Dev.putAux (d : Dev) (n k kind : Nat) (payload : List Byte) : Dev :=
  match d.frame? k with
  | none => d
  | some f =>
    let rec_ := leBytes 4 payload.length ++ leBytes 2 kind ++ zeros 2 ++ payload
    if f.aux.length + rec_.length ≤ 65536 then d.setFrame { f with aux := f.aux ++ rec_ }
    else if f.auxOvf then d
    else (d.setFrame { f with auxOvf := true }).bump (Pg.ING n) Reg.ING.AUX_OVF_CNT

/-- AUX: auxiliary data of the open frame (R105, R138). The reserved AUX_KIND 0 is kept as a record of kind 0, as every other
kind without a meaning of its own is: R105 gives no outcome (DESIGN CHOICE, log 130). -/
def Dev.onAux (d : Dev) (g : Nat) : Dev :=
  d.onPacket g 0x4 fun d p =>
    let n := g / 8
    match (Assoc.find (d.group g).openFrames (pVc p.header)).bind d.frame? with
    | some f =>
      if p.words ≠ [] ∧ bits (p.words.getD 0 0) 0 48 = f.hdr.cid then
        d.putAux n f.key (bits p.header 21 16) (p.words.flatMap (leBytes 8))
      else d.bump (Pg.ING n) Reg.ING.ORPHAN_CNT
    | none => d.bump (Pg.ING n) Reg.ING.ORPHAN_CNT

/-- Does every declared row have a sample (COMPLETE of R136)? -/
def Frame.isComplete (f : Frame) : Bool :=
  (List.range (min f.hdr.rows f.cfgH)).all fun r => f.raw.any fun e => e.1 / 65536 = r && !f.failed e.1

/-- COMPLETE: every declared row came and ROW_TIMEOUT passed (R136). -/
def Dev.onComplete (d : Dev) (h cid : Nat) : Dev :=
  match d.frame? (frameKey h cid) with
  | none => d
  | some f => if f.isComplete then d.close f.key .complete else d

/-! ### Admission (R132) -/

/-- ADMIT_RESEND: the configuration sequence ran 100 ms without admission. -/
def Dev.admitResend (d : Dev) (h : Nat) : Dev :=
  if d.rd (Pg.ING (d.unitOf h)) Reg.ING.ADMIT h = 1 ∧ (d.head h).cfg.isSome then d.sendConfig h else d

/-- ADMIT_STALL: CONFIG reached another second. -/
def Dev.admitStall (d : Dev) (h : Nat) : Dev :=
  let pg := Pg.ING (d.unitOf h)
  if d.rd pg Reg.ING.ADMIT h ≠ 1 then d
  else
    let owner := match d.ctxOfHead h with
      | some c => d.ctxOwner c
      | none => 0
    (d.event owner pg WARN 0x040C [BitVec.ofNat 8 h]).raise pg 5

/-! ### MIPI CSI-2 (R144, R145) -/

/-- Bit depth of a raw data type. -/
def dtDepth (dt : Nat) : Nat := match dt with | 0x2A => 8 | 0x2B => 10 | 0x2C => 12 | 0x2D => 14 | 0x2E => 16 | _ => 0

/-- Unpack bytes of a data type: groups of `n` samples, the high bytes of each first, then the low bits together. -/
def unpackGroup (depth : Nat) (bs : List Byte) : List Nat :=
  let b := fun i => (bs.getD i 0).toNat
  match depth with
  | 8 => [b 0]
  | 10 => (List.range 4).map fun i => b i * 4 + bits (b 4) (2 * i) 2
  | 12 => (List.range 2).map fun i => b i * 16 + bits (b 2) (4 * i) 4
  | 14 =>
    let low := b 4 + 256 * b 5 + 65536 * b 6
    (List.range 4).map fun i => b i * 64 + bits low (6 * i) 6
  | _ => [b 0 * 256 + b 1]

/-- Bytes of one group. -/
def groupBytes (depth : Nat) : Nat := match depth with | 8 => 1 | 10 => 5 | 12 => 3 | 14 => 7 | _ => 2

def unpackRow (depth : Nat) : Nat → List Byte → List Nat
  | 0, _ => []
  | n + 1, bs => if bs.length < groupBytes depth then [] else unpackGroup depth bs ++ unpackRow depth n (bs.drop (groupBytes depth))

def Dev.mipCorrected (d : Dev) (n : Nat) (corrected : Bool) : Dev :=
  if corrected then d.bump (Pg.MIP n) Reg.MIP.ECC_CORR_CNT else d

def Dev.mipOn (d : Dev) (n : Nat) : Bool := d.works (Pg.MIP n)

/-- The open frame of a MIPI port. -/
def Dev.mipFrame (d : Dev) (n : Nat) : Option Frame := (Assoc.find d.cap.mipOpen n).bind d.frame?

def Dev.mipSkips (d : Dev) (n : Nat) (on : Bool) : Dev :=
  { d with cap := { d.cap with mipSkip := if on then d.cap.mipSkip.filter (· ≠ n) ++ [n] else d.cap.mipSkip.filter (· ≠ n) } }

def Dev.mipLoses (d : Dev) (n : Nat) (on : Bool) : Dev :=
  { d with cap := { d.cap with mipLost := if on then d.cap.mipLost.filter (· ≠ n) ++ [n] else d.cap.mipLost.filter (· ≠ n) } }

/-- Does a port discard what is not a Frame Start: the frame was refused, or a header was lost (R135, R145)? -/
def Dev.mipDrops (d : Dev) (n : Nat) : Bool := n ∈ d.cap.mipSkip || n ∈ d.cap.mipLost

/-- MIPI_FRAME_START: acts as an FHDR (R144), also while the frame before it, refused, is discarded. Exposure time, gain and readout mode come from no packet: free values. -/
def Dev.mipStart (d : Dev) (n : Nat) (corrected : Bool) : Dev :=
  if !d.mipOn n then d
  else if n ∈ d.cap.mipLost then d.mipCorrected n corrected
  else
    let d := (d.mipSkips n false).mipCorrected n corrected
    let d := d.raise (Pg.MIP n) 2
    let d := match d.mipFrame n with
      | some f => d.close f.key .nextHeader
      | none => d
    let h := 252 + n
    let pg := Pg.MIP n
    let cid := d.rd64 pg Reg.MIP.CAPTURE_NEXT_LO Reg.MIP.CAPTURE_NEXT_HI
    let d := d.wr64 pg Reg.MIP.CAPTURE_NEXT_LO Reg.MIP.CAPTURE_NEXT_HI ((cid + 1) % 2 ^ 48)
    let t := ((d.now : Int) - (d.rd pg Reg.MIP.TS_OFFSET * 2 ^ 32 : Nat)) % 2 ^ 96
    let rows := match d.ctxOfHead h with
      | some c => Pb.fe (genFor (d.announceQuires c cid 0 |>.ctx c).gens (d.ctx c).ord).bank 0 Pb.CTL.CFG_HEIGHT
      | none => 0
    let hdr : Fhdr := {
      cid := cid, ssq := 0, expStart := t.toNat, expEnd := t.toNat, exposureNs := d.freeNow 64, gain := d.freeStep.freeNow 32,
      readout := d.freeStep.freeStep.freeNow 16, width := d.rd pg Reg.MIP.WIDTH, rows := rows, depth := dtDepth (d.rd pg Reg.MIP.DT),
      cfaKind := d.rd pg Reg.MIP.CFA_KIND, cfaPhase := d.rd pg Reg.MIP.CFA_PHASE, digest := 0 }
    let d := d.freeStep.freeStep.freeStep
    if d.shutHead n h then (d.shutOut n h cid).mipSkips n true
    else
      match d.judge n h hdr with
      | (d, none) => { d with cap := { d.cap with
          mipOpen := Assoc.put d.cap.mipOpen n (frameKey h cid), mipRow := Assoc.del d.cap.mipRow n } }
      | (d, some r) => (d.refuse n h cid r).mipSkips n true

/-- A long packet's payload CRC: a failure is counted (R145). -/
def Dev.mipCrc (d : Dev) (n : Nat) (ok : Bool) : Dev :=
  if ok then d else (d.bump (Pg.MIP n) Reg.MIP.CRC_ERR_CNT).raise (Pg.MIP n) 1

/-- MIPI_LONG_PACKET: the next row (R144, R145). -/
def Dev.mipLong (d : Dev) (n : Nat) (payload : List Byte) (crcOk corrected : Bool) : Dev :=
  if !d.mipOn n then d
  else
    let d := (d.mipCorrected n corrected).mipCrc n crcOk
    if d.mipDrops n then d
    else match d.mipFrame n with
    | none => d.bump (Pg.ING n) Reg.ING.ORPHAN_CNT
    | some f =>
      let row := (Assoc.find d.cap.mipRow n).getD 0
      let d : Dev := { d with cap := { d.cap with mipRow := Assoc.put d.cap.mipRow n (row + 1) } }
      d.rowIn n f.key row 0 (unpackRow f.hdr.depth (payload.length + 1) payload) crcOk

/-- MIPI_EMBEDDED_DATA: auxiliary data of kind 0x0012 (R144), kept as received where its CRC fails (R145). -/
def Dev.mipEmbedded (d : Dev) (n : Nat) (payload : List Byte) (corrected crcOk : Bool) : Dev :=
  if !d.mipOn n then d
  else
    let d := (d.mipCorrected n corrected).mipCrc n crcOk
    if d.mipDrops n then d
    else match d.mipFrame n with
    | none => d.bump (Pg.ING n) Reg.ING.ORPHAN_CNT
    | some f => d.putAux n f.key 0x0012 payload

/-- MIPI_FRAME_END: acts as an FTRL; a port that discards goes on after it (R144, R145). -/
def Dev.mipEnd (d : Dev) (n : Nat) (corrected : Bool) : Dev :=
  if !d.mipOn n then d
  else
    let skipped := d.mipDrops n
    let d := ((d.mipSkips n false).mipLoses n false).mipCorrected n corrected
    match d.mipFrame n with
    | some f => d.close f.key .trailer
    | none => if skipped then d else d.bump (Pg.ING n) Reg.ING.ORPHAN_CNT

/-- MIPI_DT_SKIP: a packet of another type or channel (R144); its header may have been corrected (R145). -/
def Dev.mipOther (d : Dev) (n : Nat) (corrected : Bool) : Dev :=
  if !d.mipOn n then d else (d.mipCorrected n corrected).bump (Pg.MIP n) Reg.MIP.DT_SKIP_CNT

/-- MIPI_HEADER_ERROR: a header that cannot be corrected (R145). -/
def Dev.mipHeaderError (d : Dev) (n : Nat) : Dev :=
  if !d.mipOn n then d
  else ((d.bump (Pg.MIP n) Reg.MIP.ECC_UNCORR_CNT).raise (Pg.MIP n) 0).mipLoses n true

/-! ### Quires (R66 to R73) -/

/-- Does the partition own the context? -/
def Dev.ownsCtx (d : Dev) (c : Cmd) (x : Nat) : Bool := x < 256 && d.ctxOwner x = c.part

/-- Quires of a context accepted and not completed (R68). -/
def Ctx.outstanding (x : Ctx) : Nat := (x.quires.filter fun q => !q.loop).length

/-- Quires behind one that ended proceed (R73). -/
def Dev.resolveAll (d : Dev) (c : Nat) : Dev :=
  ((List.range (d.ctx c).quires.length).foldl (fun d i => d.resolve c i) d).noteGens c

/-- Quires that waited for a QUIRE_SEAL of a lower ASN proceed, if there are any (R62). -/
def Dev.sealsProceed (d : Dev) (c : Nat) : Dev :=
  if (d.ctx c).quires.any fun q => q.eff.isNone && !q.loop && q.target ≠ .echo then d.resolveAll c else d

/-- QUIRE_SEAL (R66 to R73). Where more than one refusal applies R68 gives no precedence; the order QUIRE_TARGET, QUIRE_FULL,
QUIRE_UNBOUND is a DESIGN CHOICE (log 96). -/
def Dev.quireSeal (d : Dev) (c : Cmd) : Dev :=
  let e := c.entry
  let k := sf e 1 0 8
  let id := dwAt e 8
  let tgt := sf e 9 0 2
  let send : Bool := sf e 9 4 1 = 1
  let x := d.ctx k
  let mipi : Bool := match x.head with
    | some h => 252 ≤ h
    | none => false
  if !d.ownsCtx c k then (d.complete c .INVALID_TARGET).sealsProceed k
  else if id = 0 ∨ bitAt id 31 ∨ (send = true ∧ (tgt = 1 ∨ tgt = 2)) ∨ (send = false ∧ tgt = 3) ∨
      (send = true ∧ mipi = true) then (d.complete c QUIRE_TARGET).sealsProceed k
  else if 16 ≤ x.outstanding then (d.complete c QUIRE_FULL).sealsProceed k
  else if send = true ∧ x.head.isNone = true then (d.complete c QUIRE_UNBOUND).sealsProceed k
  else
    let open_ := (d.framesOf k).find? fun f => x.head.isSome && f.firstGen.isNone && !f.pastSeal
    let target : QTarget := if send then .echo else if tgt = 2 then .cid (dwAt e 10 + 2 ^ 32 * sf e 11 0 16)
      else .frame ((open_.map (·.ord)).getD x.ord)
    let q : Quire := { id := id, part := c.part, asn := c.asn, target := target, sendHead := send, noRespin := sf e 9 8 1 = 1,
                       aim := (open_.map (·.hdr.cid)).getD 0, bank := c.snap }
    let at_ := asnPlace (x.quires.map fun y => (y.part, y.asn)) c.part c.asn
    let b0 := ({ x with quires := x.quires.take at_ } : Ctx).projected
    let q := match send, x.head with
      | true, some h => { q with ssq := nextSsq (d.head h).ssq }
      | _, _ => q
    let d := (d.setCmd { c with phase := .running }).setCtx k { x with quires := x.quires.take at_ ++ q :: x.quires.drop at_ }
    let d := match send, x.head with
      | true, some h => d.sendSettings h (q.contents b0)
      | _, _ => d
    (((d.resolve k at_).sealsProceed k).noteGens k).noteQueues

/-- ECHO_LIMIT: the frames of an echo attempt have passed without the Quire's SSQ: its settings go out again, or the
Quire times out (R73). -/
def Dev.echoLimit (d : Dev) (c id : Nat) : Dev :=
  let x := d.ctx c
  match x.quires.find? (fun q => q.id = id && q.target = .echo && q.eff.isNone), x.head with
  | some q, some h =>
    if q.waited < x.limits.1 then d
    else if !q.again then
      let before := (x.quires.takeWhile fun y => y.id ≠ id).filter fun y => y.eff.isNone
      let b := q.contents (before.foldl (fun b y => y.contents b) x.newest.bank)
      let d := d.sendSettings h b
      let s := (d.head h).ssq
      d.updCtx c fun x => { x with quires := x.quires.map fun y =>
        if y.id = id ∧ y.part = q.part ∧ y.asn = q.asn ∧ y.eff.isNone = true then { y with resent := s, waited := 0, again := true } else y }
    else
      let pg := d.rspPage c
      let hd := d.head h
      let d := d.setHead h { hd with dead := hd.dead ++ [q.ssq, q.resent] }
      let d := d.endQuires c fun y => if y.id = id ∧ y.part = q.part ∧ y.asn = q.asn ∧ y.eff.isNone = true then some (QUIRE_ECHO_TIMEOUT, 0) else none
      let d := ((d.bump pg Reg.FE_RSP.ECHO_TIMEOUT_CNT).event (d.ctxOwner c) pg WARN 0x0202
        (leBytes 1 h ++ zeros 3 ++ leBytes 4 id)).raise pg 2
      d.resolveAll c
  | _, _ => d

/-- MISMATCH_RESEND: so many consecutive frames mismatched that the newest settings go out again (R73). -/
def Dev.mismatchResend (d : Dev) (c : Nat) : Dev :=
  let x := d.ctx c
  match x.head with
  | none => d
  | some h => if x.mismatchRun < x.limits.2 ∨ 252 ≤ h then d
    else (d.sendSettings h x.projected).updCtx c fun x => { x with mismatchRun := 0 }

/-! ### Binding a context (R127, R129, R130) -/

/-- BIND statuses (R130). -/
def BIND_PARAM : Status := .code 0x50 false
def BIND_CONFLICT : Status := .code 0x51 false
def BIND_LOAD : Status := .code 0x52 false
def TAP_BUSY : Status := .code 0x54 false
def TAP_PARAM : Status := .code 0x55 false
def TAP_NOHOST : Status := .code 0x56 false
def TAP_UNBOUND : Status := .code 0x57 false

/-- Load of a context on each of its Sections in 1/256 kpixel/s (R11). -/
def gangLoad (gang rate : Nat) : Nat :=
  match gang with
  | 0 => rate * 256
  | 3 => rate * 72
  | _ => rate * 144

/-- Bound contexts. -/
def Dev.boundCtxs (d : Dev) : List (Nat × Ctx) := d.cap.ctxs.filter fun e => e.2.head.isSome

/-- Load of Section `n` in 1/256 kpixel/s: `rate` gives what a context counts with, its declared rate (R11) or its
reservation (R19, R301). -/
def Dev.sectionLoad (d : Dev) (n : Nat) (rate : Nat → Ctx → Nat := fun _ x => x.rate) : Nat :=
  d.boundCtxs.foldl (fun a e => if n ∈ sectionsOf e.2.gang e.2.section_ then a + gangLoad e.2.gang (rate e.1 e.2) else a) 0

/-- The limit of a Section: 10.0 Gpixel/s (R11). -/
def sectionCap : Nat := 10000000 * 256

/-- Does ingest unit `n` count a head: a group it serves names it in a VALID VCMAP entry (R127)? -/
def Dev.unitCounts (d : Dev) (n h : Nat) : Bool :=
  (seqFrom (8 * n) 8).any fun g => (List.range 16).any fun v => d.vcmap g v = (h, true)

/-- Declared load of a unit, and of the device. -/
def Dev.unitLoad (d : Dev) (n : Nat) : Nat :=
  d.boundCtxs.foldl (fun a e => match e.2.head with
    | some h => if d.unitCounts n h then a + e.2.rate else a
    | none => a) 0

def Dev.declaredLoad (d : Dev) : Nat := d.boundCtxs.foldl (fun a e => a + e.2.rate) 0

/-- Show a context's path in its Sections' registers (R187). -/
def Dev.showSections (d : Dev) : Dev :=
  (List.range 4).foldl (fun d n =>
    let pg := Pg.FE n 0
    let d := d.wr pg Reg.FE_CTL.LOAD_KPIX (rndDiv (d.sectionLoad n) 256).toNat
    match d.boundCtxs.find? fun e => e.2.inl && n ∈ sectionsOf e.2.gang e.2.section_ with
    | some (c, x) => ((d.wr pg Reg.FE_CTL.INLINE_CTX c).wr pg Reg.FE_CTL.INLINE_VALID 1).wr pg Reg.FE_CTL.GANG x.gang
    | none => ((d.wr pg Reg.FE_CTL.INLINE_CTX 0).wr pg Reg.FE_CTL.INLINE_VALID 0).wr pg Reg.FE_CTL.GANG 0) d

/-- CONTEXT_BIND (R129). -/
def Dev.contextBind (d : Dev) (c : Cmd) : Dev :=
  let e := c.entry
  let k := sf e 1 0 8
  if sf e 8 8 1 = 1 then d
  else if !d.ownsCtx c k then d.complete c .INVALID_TARGET
  else
    let h := sf e 8 0 8
    let inl := sf e 8 9 1 = 1
    let gang := sf e 8 10 2
    let sec := sf e 8 12 2
    let rate := dwAt e 9
    let x := d.ctx k
    let secs := sectionsOf gang sec
    let other := d.boundCtxs.filter fun y => y.1 ≠ k
    if gang ≠ 0 ∧ inl = false then d.complete c BIND_PARAM
    else if (other.any fun y => y.2.head = some h) ∨ (x.head.isSome ∧ x.head ≠ some h) ∨
        (inl ∧ other.any fun y => y.2.inl && (sectionsOf y.2.gang y.2.section_).any fun n => n ∈ secs) then d.complete c BIND_CONFLICT
    else
      let x' := { x with head := some h, inl := inl, gang := gang, section_ := sec, rate := rate }
      let d' := d.setCtx k x'
      let excess := secs.any (fun n => sectionCap < d'.sectionLoad n || sectionCap < d'.sectionLoad n fun j _ => d.reserved 0 j) || 40000000 < d'.declaredLoad ||
        (List.range 4).any (fun n => d'.unitCounts n h && 20000000 < d'.unitLoad n) || d.reserved 0 k < rate
      if excess then d.complete c BIND_LOAD
      else
        let fresh := x.head.isNone
        let d := d.setCtx k (if fresh then { x' with lastArrival := none, period := none, prev := none, mismatchRun := 0 } else x')
        let d := d.showSections
        let d := if fresh ∧ d.rd (Pg.ING (d.unitOf h)) Reg.ING.ADMIT h = 1 then d.startConfig h else d
        let d := if fresh ∧ d.rd (Pg.ING (d.unitOf h)) Reg.ING.ADMIT h = 2 ∧ h < 252 then d.sendSchedule h else d
        d.resumeFit.succeed c (secs.foldl (fun m n => m ||| 2 ^ n) 0)

/-- CONTEXT_UNBIND (R130): at once; its Quires without a frame are cancelled and its taps end. -/
def Dev.contextUnbind (d : Dev) (c : Cmd) : Dev :=
  let e := c.entry
  let k := sf e 1 0 8
  if sf e 8 8 1 = 0 then d
  else if !d.ownsCtx c k then d.complete c .INVALID_TARGET
  else
    let d := match (d.ctx k).head with
      | some h => d.setHead h { d.head h with dead := [] }
      | none => d
    let d := d.updCtx k fun x => { x with head := none, paused := false, lastArrival := none, period := none, prev := none }
    let d := (d.cancelQuires k).showSections.resumeFit
    let d := (List.range 4).foldl (fun d i => d.endTap k i TAP_ENDED) d
    (d.succeed c).retireAll

/-! ### Arming taps (R146) -/

/-- TAP_ARM. -/
def Dev.tapArm (d : Dev) (c : Cmd) : Dev :=
  let e := c.entry
  let k := sf e 1 0 8
  let i := sf e 1 16 2
  if sf e 8 0 1 = 1 then d
  else if 64 ≤ c.part then d.complete c TAP_NOHOST
  else if !d.ownsCtx c k then d.complete c .INVALID_TARGET
  else if (d.ctx k).head.isNone then d.complete c TAP_UNBOUND
  else if Assoc.has (d.ctx k).taps i then d.complete c TAP_BUSY
  else
    let point := sf e 1 8 3
    let slots := sf e 7 0 16
    let region := [sf e 10 0 16, sf e 10 16 16, sf e 11 0 16, sf e 11 16 16]
    if 4 < point ∨ (point ≤ 2 ∧ region.any fun v => v % 8 ≠ 0) ∨ dwAt e 6 < 12288 ∨ dwAt e 6 % 4096 ≠ 0 ∨ slots = 0 ∨ 256 < slots ∨
        dw64 e 2 % 4096 ≠ 0 then d.complete c TAP_PARAM
    else
      let t : Tap := { point := point, ring := dw64 e 2, slotBytes := dwAt e 6, slots := slots, decimate := sf e 8 8 8, count := dwAt e 9,
                       x0 := region.getD 0 0, y0 := region.getD 1 0, w := region.getD 2 0, h := region.getD 3 0, part := c.part,
                       asn := c.asn, armedAt := d.now }
      (d.setCmd { c with phase := .running }).updCtx k fun x => { x with taps := Assoc.put x.taps i t }

/-- TAP_DISARM. -/
def Dev.tapDisarm (d : Dev) (c : Cmd) : Dev :=
  let e := c.entry
  let k := sf e 1 0 8
  let i := sf e 1 16 2
  if sf e 8 0 1 = 0 then d
  else if 64 ≤ c.part then d.complete c TAP_NOHOST
  else if !d.ownsCtx c k then d.complete c .INVALID_TARGET
  else if (d.ctx k).head.isNone then d.complete c TAP_UNBOUND
  else if !Assoc.has (d.ctx k).taps i then d.complete c TAP_PARAM
  else (d.endTap k i TAP_DISARMED).succeed c

/-- CALIBRATION_APPLY: a held calibration write takes effect once no pass of its context runs (R154). -/
def Dev.calibrationApply (d : Dev) (p asn : Nat) : Dev :=
  match d.cap.calHeld.find? fun e => e.part = p && e.asn = asn with
  | none => d
  | some w =>
    if d.passRuns w.ctx then d
    else
      let held := d.cap.calHeld.filter fun e => !(e.part = p && e.asn = asn)
      let d := ({ d with cap := { d.cap with calHeld := held } } : Dev).calApply w
      match d.cmd? p asn with
      | some cmd =>
        let d := if cmd.result < d.clock - cmd.time then d.bump (d.fePage w.ctx 0) Reg.FE_CTL.CAL_WAIT_CNT else d
        d.succeed cmd
      | none => d

end Sys2Proof.Machine
end

