-- ==== Sys2Proof/Machine/Renditions.lean ====
section
/-! DEFINITION. Renditions: RENDITION_SET and its admission, the LUT library, and petal jobs (spec 07 R188, R202,
R205 to R216; spec 01 R20). -/

namespace Sys2Proof.Machine

/-- Statuses of spec 07. -/
def REND_PARAM : Status := .code 0x53 false
def REND_SLOT : Status := .code 0x5A false
def REND_SINK : Status := .code 0x5B false
def REND_CAPACITY : Status := .code 0x5C false
def LUT_IN_USE : Status := .code 0x5D false
def LUT_FORMAT : Status := .code 0x5E false

/-! ### Petal time (R214) -/

/-- J of R214. -/
def Rend.jobNs (b : Rend) : Nat := ceilDiv (max (ceilDiv b.maxDst 4) (ceilDiv b.maxSrc 16)) (2 ^ b.log2) + 2000

/-- Bindings on a petal. -/
def onPetal (l : List Rend) (n : Nat) : List Rend := l.filter fun b => n ∈ b.petals

/-- Occupancy of petal `n` in 0.01 ns per second: the sum of RATE_CFPS × (J + L). -/
def occupancy (l : List Rend) (n : Nat) : Nat :=
  let bs := onPetal l n
  if bs.any (·.stream) then 10 ^ 11
  else
    let shared := 2 ≤ (bs.filter fun b => b.lutKib ≠ 0).length
    bs.foldl (fun a b => a + b.rate * (b.jobNs + if shared then b.lutKib * 16 else 0)) 0

/-- In units of 0.1 %, rounded up, as completion DW0 of RENDITION_SET gives it (R208). -/
def occupancyShown (l : List Rend) (n : Nat) : Nat := ceilDiv (occupancy l n) (10 ^ 8)

/-- The bindings in force. -/
def Dev.rendList (d : Dev) : List Rend := d.pip.rends.map (·.2)

/-- The bindings in force, with those of deleted renditions whose outputs are not all released yet: until then such a rendition is
not free (R209). -/
def Dev.rendsHeld (d : Dev) : List Rend :=
  let left := d.cap.frames.flatMap fun e => if e.2.state ∈ [.released, .retired] then [] else
    (e.2.binds.filter fun b => (d.rend? b.1).isNone).map (·.2)
  d.rendList ++ left.eraseDups

/-- Show every petal's OCC_RESERVED, rounded half to even (R5), and EXCLUSIVE (R216). -/
def Dev.showPetals (d : Dev) : Dev :=
  (List.range 16).foldl (fun d n =>
    (d.wr (Pg.YRC (n / 4)) Reg.YRC.OCC_RESERVED (rndDiv (occupancy d.rendList n) (10 ^ 8)).toNat (n % 4)).wr (Pg.YPTA n) Reg.YPT_A.EXCLUSIVE
      (b2n ((onPetal d.rendList n).any (·.stream)))) d

/-- Show a rendition's binding (R216). -/
def Dev.showRend (d : Dev) (r : Nat) : Dev :=
  let (pg, i) := yrc r
  let b := d.rend? r
  let put := fun (d : Dev) (F : Fld) (g : Rend → Nat) => d.wr pg F ((b.map g).getD 0) i
  let d := put d Reg.YRC.BOUND fun _ => 1
  let d := put d Reg.YRC.ENABLED fun b => b2n b.enable
  let d := put d Reg.YRC.STREAM fun b => b2n b.stream
  let d := put d Reg.YRC.CONTEXT fun b => b.ctx
  let d := put d Reg.YRC.SLOT fun b => b.slot
  let d := put d Reg.YRC.PETAL fun b => b.petal
  (put d Reg.YRC.SPLIT_LOG2 fun b => b.log2).showPetals

/-! ### RENDITION_SET (R208) -/

/-- The sink descriptors of an entry. -/
def sinksOf (e : List Nat) : List Sink := (seqFrom 10 4).map fun i => ⟨sf e i 0 3, sf e i 4 2, sf e i 8 8⟩

/-- The binding that an entry asks for. -/
def rendOf (e : List Nat) (p inst : Nat) : Rend :=
  { rend := sf e 1 0 6, owner := p, ctx := sf e 8 8 8, slot := sf e 8 16 4, petal := sf e 8 20 4, log2 := sf e 8 24 3,
    enable := sf e 8 1 1 = 1, stream := sf e 8 2 1 = 1, rate := sf e 9 0 20, lutKib := sf e 9 20 12, sinks := sinksOf e,
    maxSrc := dwAt e 14, maxDst := dwAt e 15, ringAddr := dw64 e 2, slotBytes := dwAt e 6, slots := sf e 7 0 16, inst := inst }

/-- Is a sink descriptor in range, with a mode that R81 allows its kind? -/
def Sink.inRange (s : Sink) : Bool :=
  match s.kind with
  | 0 => true
  | 1 => s.mode = 0 && 2 ≤ s.object && s.object ≤ 16
  | 2 => s.mode ≤ 2 && s.object < 48
  | 3 => s.mode ≤ 2 && s.object < 64 && s.object % 4 = 0
  | 4 => s.mode ≤ 2 && s.object < 32
  | 5 => s.mode = 0 && s.object = 0
  | _ => false

/-- Does partition `p` own a sink's object (R18)? -/
def Dev.ownsSink (d : Dev) (p : PartId) (s : Sink) : Bool :=
  match s.kind with
  | 2 => 48 ≤ s.object || d.ownerOf 8 s.object = p
  | 3 => 64 ≤ s.object || d.pageOwner (layerAt s.object).1 = p
  | 4 => 32 ≤ s.object || d.pageOwner (feedAt s.object).1 = p
  | _ => true

def Rend.hosts (b : Rend) : Nat := (b.sinks.filter fun s => s.kind = HOST).length

/-- The first check of R208. -/
def Dev.rendFields (d : Dev) (b : Rend) : Bool :=
  b.rend < 48 && b.log2 ≤ 3 && b.petal + 2 ^ b.log2 ≤ 16 && b.lutKib ≤ 2048 && b.sinks.all Sink.inRange && b.hosts ≤ 1 &&
  (b.hosts = 0 || (b.ringAddr % 4096 = 0 && b.slotBytes % 4096 = 0 && 12288 ≤ b.slotBytes && 1 ≤ b.slots && b.slots ≤ 256)) &&
  (!b.stream || ((d.ctx b.ctx).inl && (d.ctx b.ctx).head.isSome))

/-- The last check of R208. -/
def Dev.rendCapacity (d : Dev) (b : Rend) : Bool :=
  let other := d.rendsHeld.filter fun x => x.rend ≠ b.rend
  b.maxDst * b.rate ≤ d.reserved 1 b.rend * 100000 &&
  b.petals.all (fun n => d.works (Pg.YPTA n) &&
    (if b.stream then onPetal other n = [] else !(onPetal other n).any (·.stream) && occupancy (b :: other) n ≤ 95 * 10 ^ 9)) &&
  b.sinks.all fun s => s.kind ≠ FEED || d.feedFits s.object

/-- RENDITION_SET with DELETE = 0 (R208). -/
def Dev.renditionSet (d : Dev) (c : Cmd) : Dev :=
  let e := c.entry
  let b := rendOf e c.part d.pip.nextInst
  let other := d.rendsHeld.filter fun x => x.rend ≠ b.rend
  let shared := fun (s : Sink) => s.kind ∈ [FLOW, LAYER, FEED] && other.any fun x => x.sinks.any fun t => t.kind = s.kind && t.object = s.object
  if sf e 8 0 1 = 1 then d
  else if b.rend < 48 ∧ (d.ownerOf 1 b.rend ≠ c.part ∨ !d.ownsCtx c b.ctx ∨ !b.sinks.all (d.ownsSink c.part)) then d.complete c .INVALID_TARGET
  else if !d.rendFields b then d.complete c REND_PARAM
  else if other.any fun x => x.ctx = b.ctx && x.slot = b.slot then d.complete c REND_SLOT
  else if (b.sinks.any shared) ∨ (64 ≤ c.part ∧ b.hosts ≠ 0) ∨ (b.sinks.any fun s => s.kind = FEED && d.feed s.object Reg.DSP.F_SRC = 1) then
    d.complete c REND_SINK
  else if !d.rendCapacity b then d.complete c REND_CAPACITY
  else
    let d : Dev := { d with pip := { d.pip with
      rends := Assoc.put d.pip.rends b.rend b, nextInst := b.inst + 1, lastJob := Assoc.del d.pip.lastJob b.rend } }
    let d := d.stopJobs fun j => j.bind.rend = b.rend && !j.started && (match d.frame? j.frame with
      | some f => !Assoc.has f.binds b.rend && (!b.enable || b.ctx ≠ f.ctx)
      | none => false)
    let d := d.showRend b.rend
    let d := d.succeed c (occupancyShown d.rendList b.petal)
    ((d.cap.frames.map (·.1)).foldl (fun d k => d.takeTry k) d).retireAll

/-- RENDITION_SET with DELETE = 1: no new pass starts; outputs of passes already started are still delivered (R209). -/
def Dev.renditionDelete (d : Dev) (c : Cmd) : Dev :=
  let r := sf c.entry 1 0 6
  if sf c.entry 8 0 1 = 0 then d
  else if r < 48 ∧ d.ownerOf 1 r ≠ c.part then d.complete c .INVALID_TARGET
  else match d.rend? r with
    | none => d.complete c REND_PARAM
    | some b =>
      let d := d.stopJobs fun j => j.bind.rend = r && !j.started
      let d : Dev := { d with pip := { d.pip with
        rends := Assoc.del d.pip.rends r, lastJob := Assoc.del d.pip.lastJob r } }
      let left := fun (f : Frame) => (d.pip.jobs.any fun j => j.frame = f.key && j.bind.rend = r) || Assoc.has f.outputs r || Assoc.has f.firstOutputs r
      let fs : List (Nat × Frame) := d.cap.frames.map fun e =>
        (e.1, if left e.2 then e.2 else { e.2 with binds := Assoc.del e.2.binds r })
      let d : Dev := { d with cap := { d.cap with frames := fs } }
      let d := d.showRend r
      let d := d.succeed c (occupancyShown d.rendList b.petal)
      ((d.cap.frames.map (·.1)).foldl (fun d k => d.takeTry k) d).retireAll

/-! ### The LUT library (R205, R206, R202) -/

def Dev.lutSlot (d : Dev) (s : Nat) : LutSlot := (Assoc.find d.pip.luts s).getD {}

def Dev.setLut (d : Dev) (s : Nat) (x : LutSlot) : Dev := { d with pip := { d.pip with luts := Assoc.put d.pip.luts s x } }

/-- Does a generation that a Quire made and that is still held name the slot (R61, R206)? -/
def Dev.lutNamed (d : Dev) (s : Nat) : Bool :=
  d.cap.ctxs.any fun e => e.2.gens.zipIdx.any fun g => g.1.eff.isSome && d.genLive e.1 g.2 &&
    (List.range 16).any fun k => Pb.slot g.1.bank k Pb.REND.LUT_SLOT = s

/-- LUT_LOAD of a library slot: checked, then LOADING while the data moves (R206 steps 1 and 2). -/
def Dev.lutLoad (d : Dev) (c : Cmd) : Dev :=
  let s := sf c.entry 1 0 9
  if sf c.entry 1 31 1 = 1 ∨ sf c.entry 8 0 1 = 1 then d
  else if d.ownerOf 11 s ≠ c.part then d.complete c .INVALID_TARGET
  else if d.lutNamed s then d.complete c LUT_IN_USE
  else (d.setLut s { d.lutSlot s with state := 1 }).startMove c (dwAt c.entry 6)

/-- LUT_LOAD with INVALIDATE. -/
def Dev.lutInvalidate (d : Dev) (c : Cmd) : Dev :=
  let s := sf c.entry 1 0 9
  if sf c.entry 1 31 1 = 1 ∨ sf c.entry 8 0 1 = 0 then d
  else if d.ownerOf 11 s ≠ c.part then d.complete c .INVALID_TARGET
  else if d.lutNamed s then d.complete c LUT_IN_USE
  else (d.setLut s { d.lutSlot s with state := 0, lut := {} }).succeed c

/-- LUT_LOAD with DITHER: the device-wide table (R202). -/
def Dev.ditherLoad (d : Dev) (c : Cmd) : Dev :=
  if sf c.entry 1 31 1 = 0 then d
  else if c.part ≠ 0 then d.complete c .INVALID_FIELD
  else if dwAt c.entry 6 ≠ 8192 then d.complete c LUT_FORMAT
  else d.startMove c 8192

/-- The data of a LUT_LOAD has moved, or failed: steps 3 and 4 of R206, and R202. -/
def Dev.lutLoaded (d : Dev) (c : Cmd) (data : Except Status (List Byte)) : Dev :=
  let s := sf c.entry 1 0 9
  if sf c.entry 1 31 1 = 1 then
    match data with
    | .error st => d.complete c st
    | .ok bs => match Render.parseDither bs with
      | none => d.complete c LUT_FORMAT
      | some t =>
        let d : Dev := { d with pip := { d.pip with dither := some t } }
        ((d.wr (Pg.YRC 0) Reg.YRC.DITHER_LOADED 1).bump (Pg.YRC 0) Reg.YRC.DITHER_SEQ).succeed c
  else
    let x := d.lutSlot s
    let invalid := fun (d : Dev) => d.setLut s { x with state := 0, lut := {} }
    match data with
    | .error st => (invalid d).complete c st
    | .ok bs => match Render.parseLut bs with
      | none => (invalid d).complete c LUT_FORMAT
      | some l => (d.setLut s { state := 2, seq := x.seq + 1, lut := l }).succeed c ((x.seq + 1) % 2 ^ 32)

/-! ### Petal jobs (R207, R210 to R215) -/

/-- The sizes of a job's pass: (SW, SH, DST_W, DST_H). -/
def Dev.jobSizes (d : Dev) (j : Job) : Nat × Nat × Nat × Nat :=
  match d.frame? j.frame with
  | some f => Render.sizes j.gen.bank j.bind.slot f.cfgW f.cfgH
  | none => (0, 0, 0, 0)

/-- Is the job's library slot LOADING, and does the job use it (R206)? -/
def Dev.jobLoading (d : Dev) (j : Job) : Bool :=
  Render.usesLut j.gen.bank j.bind.slot && (d.lutSlot (Pb.slot j.gen.bank j.bind.slot Pb.REND.LUT_SLOT)).state = 1

/-- Does thermal shedding hold the job (R392)? -/
def Dev.jobShed (d : Dev) (j : Job) : Bool :=
  let quiet := j.bind.sinks.all fun s => s.kind ∈ [0, MEMORY, HOST]
  if quiet then 2 ≤ d.shed else 3 ≤ d.shed

/-- Could the job start but for other jobs? -/
def Dev.jobReady (d : Dev) (j : Job) : Bool :=
  !j.started && !d.jobLoading j && !d.jobShed j && j.bind.petals.all fun n => d.works (Pg.YPTA n)

/-- Does `i` run before `j`: reserved jobs first, then the earlier release deadline (R215)? -/
def Dev.jobBefore (d : Dev) (i j : Job) : Bool :=
  let dl := fun (x : Job) => match d.frame? x.frame with
    | some f => d.deadline f
    | none => 0
  if i.reserved = j.reserved then dl i < dl j else i.reserved

def Job.shares (i j : Job) : Bool := i.bind.petals.any fun n => n ∈ j.bind.petals

/-- A waiting job under the binding that would govern its pass if it started now (R209). -/
def Dev.jobNow (d : Dev) (j : Job) : Job :=
  if j.started then j else match (d.frame? j.frame).bind fun f => d.bindOf f j.bind.rend with
    | some b => { j with bind := b }
    | none => j

/-- Is the job the next one on its petals? -/
def Dev.jobNext (d : Dev) (j : Job) : Bool :=
  d.pip.jobs.all fun i => !(d.jobNow i).shares j || !(i.started || (d.jobReady (d.jobNow i) && d.jobBefore i j))

def Job.is (j : Job) (k r : Nat) (first : Bool) : Bool := j.frame = k && j.bind.rend = r && j.first = first

def Dev.updJob (d : Dev) (k r : Nat) (first : Bool) (g : Job → Job) : Dev :=
  { d with pip := { d.pip with jobs := d.pip.jobs.map fun j => if j.is k r first then g j else j } }

def Dev.dropJob (d : Dev) (k r : Nat) (first : Bool) : Dev :=
  { d with pip := { d.pip with jobs := d.pip.jobs.filter fun j => !j.is k r first } }

/-- Record what a pass made, none when the rendition gives the frame up: a first pass's output serves early sinks, the
output of the governing generation the others (R82, R210). -/
def Dev.jobOutput (d : Dev) (j : Job) (o : Option Render.Output) : Dev :=
  let d := d.updFrame j.frame fun f => { f with
    firstOutputs := if j.first then Assoc.put f.firstOutputs j.bind.rend o else f.firstOutputs,
    outputs := if j.final then Assoc.put f.outputs j.bind.rend o else f.outputs }
  ((d.releaseProvisional j.frame).settleFrame j.frame).retireAll

/-- A rendition gives a frame up at every sink (R206, R212). -/
def Dev.giveUpAll (d : Dev) (j : Job) : Dev :=
  let d := j.bind.sinkList.foldl (fun d e => d.giveUp j.frame j.bind e.1 e.2) (d.dropJob j.frame j.bind.rend j.first)
  d.jobOutput j none

/-- Data of a rendition's event: rendition, library slot, Head ID, Capture ID. -/
def rendData (r slot h cid : Nat) : List Byte := leBytes 2 r ++ leBytes 2 slot ++ leBytes 1 h ++ zeros 3 ++ leBytes 8 cid

/-- Bytes that a petal loads from a library slot (R207). -/
def lutBytes (l : Render.Lut) : Nat :=
  256 + (if l.shaper.isSome then 49152 else 0) + (if l.transfer.isSome then 49152 else 0) + (match l.lattice with
    | some (n, _) => n * n * n * 6
    | none => 0)

/-- A petal loads its LUT store when the tag, the library slot and the whole LUT_SEQ, differs (R207): 64 bytes per ns. -/
def Dev.loadStore (d : Dev) (n slot : Nat) : Dev :=
  let x := d.lutSlot slot
  let pg := Pg.YPTB n
  if d.on pg Reg.YPT_B.HELD_VALID ∧ Assoc.find d.pip.stores n = some (slot, x.seq) then d
  else
    let us := min 65535 (rndDiv (lutBytes x.lut) 640).toNat
    let d : Dev := { d with pip := { d.pip with
      stores := Assoc.put d.pip.stores n (slot, x.seq),
      loads := Assoc.put d.pip.loads n (d.clock + lutBytes x.lut * 2 ^ 26) } }
    ((((d.wr pg Reg.YPT_B.HELD_SLOT slot).wr pg Reg.YPT_B.HELD_VALID 1).wr pg Reg.YPT_B.HELD_SEQ x.seq).bump pg Reg.YPT_B.LOAD_CNT).wr
      pg Reg.YPT_B.LOAD_US_LAST us

/-- An uncorrectable error of petal `n`'s LUT store during a job: the job restarts with a fresh load, or waits with its petal where no
spare row is left (R216). -/
def Dev.restartJob (d : Dev) (n : Nat) (spare : Bool) : Dev :=
  let slot := fun (j : Job) => Pb.slot j.gen.bank j.bind.slot Pb.REND.LUT_SLOT
  match d.pip.jobs.find? fun j => j.started && n ∈ j.bind.petals && Render.usesTable j.gen.bank j.bind.slot (d.lutSlot (slot j)).lut with
  | none => d
  | some j =>
    if spare then d.loadStore n (slot j)
    else (d.idlePetals j.bind).updJob j.frame j.bind.rend j.first fun j => { j with started := false }

/-- A streamed pass may start with the frame's first pass (R211): its job exists from then on. Once a respin has started,
only a rendition with a REALTIME or PROVISIONAL sink runs it (R210). -/
def Dev.streamJob (d : Dev) (k r : Nat) : Dev :=
  match d.frame? k, d.rend? r with
  | some f, some b =>
    let respun : Bool := f.pass.isSome || f.out.isSome
    if b.stream ∧ b.enable ∧ b.ctx = f.ctx ∧ f.firstRunning ∧ !f.memoryPath ∧ !(d.pip.jobs.any fun j => j.is k r true) ∧
        !Assoc.has f.firstOutputs r ∧ (!respun ∨ b.early) then
      let g := f.firstGen.getD {}
      d.addJobs f [{ frame := k, bind := b, gen := g, first := true, final := !respun, made := d.clock, reserved := d.jobWithin f g b }]
    else d
  | _, _ => d

/-- PETAL_JOB_START: the next job of a petal starts (R206, R207, R209, R215). -/
def Dev.petalJobStart (d : Dev) (k r : Nat) (first : Bool) : Dev :=
  let d := if first then d.streamJob k r else d
  match d.pip.jobs.find? (fun j => j.is k r first), d.frame? k with
  | some j, some f =>
    let b := (d.bindOf f r).getD j.bind
    let j := { j with bind := b }
    if j.started ∨ !(j.bind.petals.all fun n => d.works (Pg.YPTA n)) ∨ d.jobShed j ∨ !d.jobNext j then d
    else if d.jobLoading j then
      if j.waited then d else (d.updJob k r first fun j => { j with waited := true }).yrcBump r Reg.YRC.LUT_WAIT_CNT
    else
      let d := d.updFrame k fun f => { f with binds := if Assoc.has f.binds r then f.binds else Assoc.put f.binds r b }
      let slot := Pb.slot j.gen.bank b.slot Pb.REND.LUT_SLOT
      let uses := Render.usesLut j.gen.bank b.slot
      let (sw, sh, w, h) := d.jobSizes j
      if sw = 0 ∨ sh = 0 ∨ b.maxSrc < sw * sh ∨ b.maxDst < w * h then
        let d := (d.yrcBump r Reg.YRC.SIZE_CNT).event b.owner (yrc r).1 WARN 0x0503 (rendData r slot f.head f.hdr.cid)
        (d.raise (yrc r).1 1).giveUpAll j
      else if uses ∧ ((d.lutSlot slot).state ≠ 2 ∨ d.ownerOf 11 slot ≠ b.owner) then
        let d := d.event b.owner (yrc r).1 WARN 0x0504 (rendData r slot f.head f.hdr.cid)
        (d.raise (yrc r).1 4).giveUpAll j
      else
        let us := intervalIn 1000 (d.clock - j.made)
        let d := b.petals.foldl (fun d n =>
          let d := if Render.usesTable j.gen.bank b.slot (d.lutSlot slot).lut then d.loadStore n slot else d
          let d := (d.wr (Pg.YPTA n) Reg.YPT_A.JOB_STATE (if b.stream ∧ first ∧ f.firstOut.isNone then 4 else 3)).wr (Pg.YPTA n)
            Reg.YPT_A.RENDITION r
          d.wr (Pg.YPTA n) Reg.YPT_A.WAIT_MAX_US (max (d.rd (Pg.YPTA n) Reg.YPT_A.WAIT_MAX_US) (min us (2 ^ 32 - 1)))) d
        d.updJob k r first fun _ => { j with started := true, dither := d.pip.dither }
  | _, _ => d

/-- Saturations that petal `q` of a split counts: those of its columns (R213). -/
def petalSats (o : Render.Output) (log2 q : Nat) : Nat :=
  let c := ceilDiv o.w (64 * 2 ^ log2) * 64
  ((o.sats.drop (q * c)).take c).foldl (· + ·) 0

/-- PETAL_JOB_END: a rendition pass ends (R190 to R203, R212, R215). -/
def Dev.petalJobEnd (d : Dev) (k r : Nat) (first : Bool) : Dev :=
  match d.pip.jobs.find? (fun j => j.is k r first), d.frame? k with
  | some j, some f =>
    match j.started, (if first then f.firstOut else f.out) with
    | true, some dev =>
      let lut := (d.lutSlot (Pb.slot j.gen.bank j.bind.slot Pb.REND.LUT_SLOT)).lut
      let o := Render.render j.gen.bank j.bind.slot f.hdr.cid lut j.dither f.cfgW f.cfgH (dev.developed.map fun p => p.map fun r => r.map Int.toNat)
      let late := d.deadline f < d.clock
      let d := (d.idlePetals j.bind).dropJob k r first
      let d := j.bind.petals.zipIdx.foldl (fun d e =>
        let pg := Pg.YPTA e.1
        let d := (d.bump pg Reg.YPT_A.JOB_CNT).bump pg Reg.YPT_A.F16_SAT_CNT 0 (petalSats o j.bind.log2 e.2)
        if late then d.bump pg Reg.YPT_A.LATE_CNT else d) d
      let d := d.yrcBump r Reg.YRC.PASS_CNT
      let d := (d.wr (yrc r).1 Reg.YRC.LAST_CID_LO f.hdr.cid (yrc r).2).wr (yrc r).1 Reg.YRC.LAST_CID_HI (f.hdr.cid / 2 ^ 32) (yrc r).2
      d.jobOutput j (some o)
    | _, _ => d
  | _, _ => d

end Sys2Proof.Machine
end

