-- ==== Sys2Proof/Machine/Encode.lean ====
section
/-! DEFINITION. Encode: ENC_SUBMIT and the encoders (spec 09 R258 to R273). What the pixel and entropy engines make of the
samples (bits, estimates, QP, bitstream) are operands of their rows: the manual leaves the coding decisions to the device. -/

namespace Sys2Proof.Machine

/-! ### Commands -/

/-- May a command of an encoder context take effect: those before it have (R258)? A CONFIG or END that waits for pictures
holds every operation but COLLECT and SINK_READ. -/
def Dev.encTurn (d : Dev) (c : Cmd) : Bool :=
  (d.cmdsOf c.part).all fun x =>
    !(opcode x.entry = 0x90 && sf x.entry 1 0 8 = sf c.entry 1 0 8 && x.asn < c.asn) ||
    (x.phase = .running && (sf x.entry 8 0 4 ∉ [0, 4] || sf c.entry 8 0 4 ∈ [2, 7]))

/-- One ENC_SUBMIT operation: the OP, the context's owner and its turn. -/
def Dev.encOp (d : Dev) (c : Cmd) (op : Nat) (k : Nat → EncCtx → Dev) : Dev :=
  let n := sf c.entry 1 0 8
  if sf c.entry 8 0 4 ≠ op ∧ sf c.entry 8 0 4 < 8 then d
  else if d.ownerOf 2 n ≠ c.part then d.complete c .INVALID_TARGET
  else if !d.encTurn c then d
  else if 8 ≤ sf c.entry 8 0 4 then d.complete c ENC_PARAM
  else k n (d.enc n)

/-- Load a configuration; the output queue keeps what it holds (R259). -/
def Dev.encLoad (d : Dev) (n : Nat) (bs : List Byte) : Dev :=
  let y := encCfg bs
  let d := d.setEnc n { cfg := some bs, source := if y.source = 0 then some (y.rend, y.sink) else none, queue := (d.enc n).queue,
                        fullness := y.initF }
  d.showEncs

/-- A context lets go of a MEMORY buffer (R260). -/
def Dev.encFree (d : Dev) (n : Nat) (s : EncSrc) : Dev :=
  match s.buf with
  | none => d
  | some (r, i) =>
    let key := bufKey r i
    { d with pip := { d.pip with bufs := Assoc.upd d.pip.bufs key fun l => l.map fun b =>
        if b.frame = s.frame then { b with encs := b.encs.filter (· ≠ n) } else b } }

/-- A SINK source that arrived while an END or CONFIG waited: it starts the new sequence, or is skipped when the context now
codes something else (R259, R260). -/
def Dev.encLater (d : Dev) (n : Nat) (s : EncSrc) : Dev :=
  let x := d.enc n
  let out := match s.buf with
    | none => none
    | some (r, i) => (((Assoc.find d.pip.bufs (bufKey r i)).getD []).find? fun b => b.frame = s.frame).map (·.output)
  match out with
  | none => d
  | some o =>
    if x.source = s.buf ∧ x.suits o then d.setEnc n (x.arrive s)
    else
      let d := (d.encSkip n).encFree n s
      if x.source = s.buf then d.event (d.ownerOf 2 n) x.pageRc WARN 0x0701 [BitVec.ofNat 8 n] else d

/-- A context with nothing in flight: END completes, a waiting CONFIG loads, a released context goes (R258, R259). -/
def Dev.encIdle (d : Dev) (n : Nat) : Dev :=
  let x := d.enc n
  if x.inFlight then d
  else
    let d := match x.ending with
      | none => d
      | some (p, asn) =>
        let d := d.updEnc n fun x => { x with ending := none }
        match d.cmd? p asn with
        | some c => d.succeed c
        | none => d
    match x.nextCfg with
    | some (p, asn, bs) =>
      let d := d.encLoad n bs
      let d := match d.cmd? p asn with
        | some c => d.succeed c
        | none => d
      x.later.foldl (fun d s => d.encLater n s) d
    | none =>
      if x.releasing then (d.setEnc n { queue := x.queue }).showEncs
      else x.later.foldl (fun d s => d.encLater n s) (d.updEnc n fun x => { x with later := [] })

/-- Does the rendition have a MEMORY sink at an index? -/
def Dev.memorySink (d : Dev) (r i : Nat) : Bool :=
  match d.rend? r with
  | some b => b.sinkList.any fun e => e.1 = i && e.2.kind = MEMORY
  | none => false

/-- ENC_CONFIG: its descriptor moves first (R259). -/
def Dev.encConfig (d : Dev) (c : Cmd) : Dev :=
  d.encOp c 0 fun _ _ => if dwAt c.entry 6 < 128 then d.complete c ENC_PARAM else d.startMove c (dwAt c.entry 6)

/-- Frame-pool bytes of a layer's buffer set (R282). -/
def Dev.layerBytes (d : Dev) (l : Nat) : Nat :=
  let w := d.lay l Reg.DSP.L_W
  let h := d.lay l Reg.DSP.L_H
  let cb := if d.lay l Reg.DSP.L_CONT16 = 1 then 2 else 1
  let pl := fun (n rows : Nat) => ceilDiv (ceilDiv n 256 * 256 * rows) 4096 * 4096
  3 * (match d.lay l Reg.DSP.L_FMT with
    | 0 => pl (4 * w) h
    | 1 => pl (8 * w) h
    | 2 => pl (cb * w) h + pl (cb * w) (if d.lay l Reg.DSP.L_CHROMA = 2 then h else ceilDiv h 2)
    | _ => 3 * pl (cb * w) h)

/-- Layer buffer sets allocated. -/
def Dev.layersHeld (d : Dev) : Nat := ((d.pip.layers.filter fun e => e.2.alloc).map fun e => d.layerBytes e.1).foldl (· + ·) 0

/-- The checks of R259, in their order. -/
def Dev.encCheck (d : Dev) (c : Cmd) (n : Nat) (bs : List Byte) : Option Status :=
  let y := encCfg bs
  if !encReserved bs ∨ !y.inRange ∨ (y.source = 0 ∧ (d.ownerOf 1 y.rend ≠ c.part ∨ !d.memorySink y.rend y.sink)) ∨
      (y.ringAddr ≠ 0 ∧ 64 ≤ c.part) ∨ !y.floorFits then some ENC_PARAM
  else if !y.profileOk then some ENC_PROFILE
  else if !d.encCapacity n y then some ENC_CAPACITY
  else
    let mine := ((d.enc n).cfg.map encMemory).getD 0
    if d.poolSize < d.poolHeld d.layersHeld - mine + encMemory bs then some ENC_NOMEM else none

/-- The descriptor of a CONFIG has moved. -/
def Dev.encConfigEnd (d : Dev) (c : Cmd) : Dev :=
  let n := sf c.entry 1 0 8
  match d.dataIn c 2 (dwAt c.entry 6) with
  | .error st => d.complete c st
  | .ok all =>
    let bs := all.take 128
    match d.encCheck c n bs with
    | some st => d.complete c st
    | none =>
      if (d.enc n).inFlight then
        (d.setCmd { c with phase := .running }).updEnc n fun x => { x.closeGop with nextCfg := some (c.part, c.asn, bs) }
      else (d.encLoad n bs).succeed c

/-- Bytes of a host source picture with a row pitch, and of one of its luma rows (R261, R203). -/
def EncCfg.hostRow (x : EncCfg) : Nat := x.w * if x.depth = 8 then 1 else 2

def EncCfg.hostBytes (x : EncCfg) (pitch : Nat) : Nat :=
  let pl := fun rows => pitch * rows
  let up := fun n => ceilDiv n 4096 * 4096
  match x.chroma with
  | 1 => up (pl x.h) + pl (x.h / 2)
  | 2 => up (pl x.h) + pl x.h
  | _ => 2 * up (pl x.h) + pl x.h

/-- ENC_PICTURE: a HOST context's source moves (R261). -/
def Dev.encPicture (d : Dev) (c : Cmd) : Dev :=
  d.encOp c 1 fun _ x =>
    let y := x.cfg!
    let pitch := dwAt c.entry 9
    if x.cfg.isNone ∨ x.releasing ∨ y.source = 0 then d.complete c ENC_STATE
    else if pitch % 64 ≠ 0 ∨ pitch < y.hostRow ∨ dwAt c.entry 6 < y.hostBytes pitch then d.complete c ENC_PARAM
    else d.startMove c (dwAt c.entry 6)

/-- The source of a PICTURE has moved: it arrives at its context (R261, R273). -/
def Dev.encPictureEnd (d : Dev) (c : Cmd) : Dev :=
  let n := sf c.entry 1 0 8
  match d.dataIn c 2 (dwAt c.entry 6) with
  | .error .XFER_ERROR => d.complete c ENC_SOURCE
  | .error st => d.complete c st
  | .ok _ =>
    let t := c.time
    (d.setCmd { c with phase := .running }).encArrive n
      { pts := dw64 c.entry 13, host := some (c.part, c.asn), deadline := t + (d.enc n).period } t

/-- ENC_COLLECT: the oldest picture of the output queue moves to the host (R263). -/
def Dev.encCollect (d : Dev) (c : Cmd) : Dev :=
  d.encOp c 2 fun _ x =>
    match x.queue.head? with
    | none => d.complete c ENC_EMPTY
    | some bs =>
      if dwAt c.entry 7 < bs.length then d.complete c ENC_SPACE bs.length
      else if 1 ≤ d.shed then d
      else d.startMove c 0

def Dev.encCollectEnd (d : Dev) (c : Cmd) : Dev :=
  let n := sf c.entry 1 0 8
  match (d.enc n).queue with
  | [] => d.complete c ENC_EMPTY
  | bs :: rest => match d.dataOut c 4 (dwAt c.entry 7) bs with
    | .error st => d.complete c st
    | .ok d => (d.updEnc n fun x => { x with queue := rest }).succeed c

/-- ENC_FORCE_IRAP: the next picture to arrive is an IDR or key frame (R264). -/
def Dev.encForce (d : Dev) (c : Cmd) : Dev :=
  d.encOp c 3 fun n x =>
    if x.cfg.isNone ∨ x.releasing then d.complete c ENC_STATE
    else (d.setEnc n { x with force := true }).succeed c

/-- ENC_END: every held picture is coded; the next one starts a new sequence (R258). -/
def Dev.encEnd (d : Dev) (c : Cmd) : Dev :=
  d.encOp c 4 fun n x =>
    if x.cfg.isNone ∨ x.releasing then d.complete c ENC_STATE
    else
      let d := d.setCmd { c with phase := .running }
      (d.setEnc n { x.closeGop with fresh := true, ending := some (c.part, c.asn) }).encIdle n

/-- A context is released, or its partition reset: held SINK buffers are freed, pictures of the host and those under way
are committed and delivered. -/
def Dev.encQuiesce (d : Dev) (n : Nat) : Dev :=
  let x := d.enc n
  let drop := ((x.held.map (·.2)) ++ x.ready.map (·.src) ++ x.later).filter fun s => s.host.isNone
  let d := drop.foldl (fun d s => d.encFree n s) d
  let x := { x with held := x.held.filter (fun e => e.2.host.isSome), later := [] }
  let x := (x.ready.filter fun e => e.src.host.isNone).foldl (fun x e => x.dropReady e.num) x
  (d.setEnc n { x.closeGop with plan := none, asked := none }).retireAll

/-- ENC_RELEASE (R258): the queue's memory is freed at once, the configuration when nothing is in flight. -/
def Dev.encRelease (d : Dev) (c : Cmd) : Dev :=
  d.encOp c 5 fun n _ =>
    let d := (d.encQuiesce n).updEnc n fun x => { x with queue := [], releasing := x.cfg.isSome, source := none, fresh := true }
    (d.succeed c).encIdle n

/-- Long-term slots after the operations that wait: action 0 MARK, 2 CLEAR. -/
def ltrApply (ltr : List (Nat × Nat)) (k : Nat) (acts : List (Nat × Nat)) : List (Nat × Nat) :=
  acts.foldl (fun l a => match a.1 with
    | 0 => Assoc.put l a.2 k
    | 2 => Assoc.del l a.2
    | _ => l) ltr

/-- ENC_LTR: the operation acts on the next picture coded (R264). -/
def Dev.encLtr (d : Dev) (c : Cmd) : Dev :=
  d.encOp c 6 fun n x =>
    let slot := sf c.entry 8 8 2
    let act := sf c.entry 8 12 2
    if x.cfg.isNone ∨ x.releasing then d.complete c ENC_STATE
    else if act = 3 ∨ x.cfg!.ltr ≤ slot ∨ (act = 1 ∧ !Assoc.has (ltrApply x.ltr 0 (x.ltrActs.filter fun a => a.1 = 2)) slot) then d.complete c ENC_PARAM
    else (d.setEnc n { x with ltrActs := x.ltrActs ++ [(act, slot)] }).succeed c

/-- The MEMORY buffer that a SINK_READ names (R262). -/
def Dev.sinkBuf (d : Dev) (c : Cmd) : Option MemBuf :=
  let l := (Assoc.find d.pip.bufs (bufKey (sf c.entry 10 0 6) (sf c.entry 10 8 2))).getD []
  let cid := dwAt c.entry 11 + 2 ^ 32 * sf c.entry 12 0 16
  if cid = 0 then l.getLast? else l.find? fun b => b.cid = cid

def Dev.updBuf (d : Dev) (c : Cmd) (sel : MemBuf → Bool) (f : MemBuf → MemBuf) : Dev :=
  let g : List MemBuf → List MemBuf := fun l => l.map fun b => if sel b then f b else b
  { d with pip := { d.pip with bufs := Assoc.upd d.pip.bufs (bufKey (sf c.entry 10 0 6) (sf c.entry 10 8 2)) g } }

/-- ENC_SINK_READ: the buffer stays while it is copied (R262). -/
def Dev.encSinkRead (d : Dev) (c : Cmd) : Dev :=
  d.encOp c 7 fun _ _ =>
    let r := sf c.entry 10 0 6
    if 48 ≤ r then d.complete c ENC_PARAM
    else if d.ownerOf 1 r ≠ c.part then d.complete c .INVALID_TARGET
    else match d.sinkBuf c with
      | none => d.complete c ENC_SOURCE
      | some b =>
        let size := 0x2000 + b.output.bytes.length
        if dwAt c.entry 7 < size then d.complete c ENC_SPACE size
        else if 1 ≤ d.shed then d
        else (d.updBuf c (fun m => m.frame = b.frame) fun m => { m with reads := m.reads ++ [(c.part, c.asn)] }).startMove c 0

/-- The copy of a SINK_READ: STATE, SEQ and SKIPPED, which count nothing here, are free values. -/
def Dev.encSinkReadEnd (d : Dev) (c : Cmd) : Dev :=
  let l := (Assoc.find d.pip.bufs (bufKey (sf c.entry 10 0 6) (sf c.entry 10 8 2))).getD []
  match l.find? fun b => (c.part, c.asn) ∈ b.reads with
  | none => d.complete c ENC_SOURCE
  | some b =>
    let (d, st) := d.freeBytes 4
    let bs := st ++ hostSlot b.output b.colophon (d.freeNow 32) (d.freeStep.freeNow 32)
    let d := d.freeStep.freeStep
    let d := d.updBuf c (fun m => (c.part, c.asn) ∈ m.reads) fun m => { m with reads := m.reads.filter (· ≠ (c.part, c.asn)) }
    (match d.dataOut c 4 (dwAt c.entry 7) bs with
     | .error st => d.complete c st
     | .ok d => d.succeed c).retireAll

/-! ### The engines -/

/-- Has every row of a picture ended in both engines? -/
def EncPic.pixelDone (p : EncPic) (rows : Nat) : Bool := p.bands.all fun b => b.pix = rows
def EncPic.done (p : EncPic) (rows : Nat) : Bool := p.bands.all fun b => b.row = rows && b.pix = rows

/-- Room for one more picture: the output queue, or the next free ring slot (R263). -/
def Dev.encRoom (d : Dev) (n : Nat) (s : EncSrc) : Bool :=
  let x := d.enc n
  let y := x.cfg!
  let returns := fun (s : EncSrc) => match s.host with
    | some (p, asn) => (match d.cmd? p asn with
      | some c => sf c.entry 8 16 1 = 1
      | none => false)
    | none => false
  let going := (x.pics.filter fun p => !returns p.src).length
  if returns s then true
  else if y.ringAddr = 0 then x.queue.length + going < y.depthOut
  else
    let p := d.ownerOf 2 n
    let a := y.ringAddr + (x.ring.slot + going) % max 1 y.slots * y.slotBytes
    going < y.slots && (!d.hostOk p a 4 || ofLe (d.hostRead p a 4) = 0)

/-- Are the context's engines free for its next picture: their pixel engines idle, no other context's picture under way
(R265, R273)? -/
def Dev.encFreeEngines (d : Dev) (n : Nat) : Bool :=
  let x := d.enc n
  d.pip.encs.all fun e =>
    e.2.pics.all fun p => !(e.2.cfg!.engines.any fun g => g ∈ x.cfg!.engines) ||
      (e.1 = n && p.pixelDone e.2.cfg!.rows)

/-- Has a referenced picture committed every row (R265)? -/
def EncCtx.refsDone (x : EncCtx) (refs : List Nat) : Bool :=
  refs.all fun r => !x.pics.any fun p => p.num = r && !p.done x.cfg!.rows

/-- References of the next picture: those of its place, or the picture that stands in the slot that REFER names. -/
def EncCtx.nextRefs (x : EncCtx) (q : EncNext) : List Nat :=
  if q.type = 0 then []
  else match x.ltrActs.filter fun a => a.1 = 1 with
    | [] => q.refs
    | l => (l.filterMap fun a => Assoc.find x.ltr a.2).take 1

/-- Could the next picture of context `n` start now? -/
def Dev.encReady (d : Dev) (n : Nat) : Bool :=
  let x := d.enc n
  match x.ready with
  | [] => false
  | q :: _ => x.refsDone (x.nextRefs q) && d.encFreeEngines n && d.encRoom n q.src && x.asked ≠ some q.num

/-- Does context `m` have a ready picture that goes before `s` (R20, R273)? -/
def Dev.encAhead (d : Dev) (n m : Nat) (s : EncSrc) : Bool :=
  let x := d.enc m
  m ≠ n && d.encReady m && (x.cfg!.engines.any fun g => g ∈ (d.enc n).cfg!.engines) &&
  (match x.ready with
   | q :: _ => if q.src.reserved = s.reserved then q.src.deadline < s.deadline else q.src.reserved
   | [] => false)

/-- A SINK picture is skipped before it is coded (R263). -/
def Dev.encSkipNext (d : Dev) (n : Nat) : Dev :=
  let x := d.enc n
  match x.ready with
  | [] => d
  | q :: _ => (((d.setEnc n (x.dropReady q.num)).encSkip n).encFree n q.src).retireAll.encIdle n

/-- The PICTURE of a command is caught before its pixel engine starts (R258); none where it is not waiting. -/
def Dev.encCatch (d : Dev) (n part asn : Nat) : Option Dev :=
  let x := d.enc n
  let mine := fun (s : EncSrc) => s.host = some (part, asn)
  if x.held.any fun e => mine e.2 then some ((d.setEnc n { x with held := x.held.filter fun e => !mine e.2 }).encIdle n)
  else if x.later.any mine then some (d.setEnc n { x with later := x.later.filter fun s => !mine s })
  else match x.ready.find? fun e => mine e.src with
    | some e => some ((d.setEnc n (x.dropReady e.num)).encIdle n)
    | none => none

/-- QP of a picture by type in CQP, QUALITY in CCQ, else the rate controller's choice (R269). -/
def EncCfg.qpFor (x : EncCfg) (type qp : Nat) : Nat :=
  let q := match x.mode with
    | 0 => if type ≤ 1 then x.qpI else if type = 2 then x.qpP else x.qpB
    | 3 => x.quality
    | _ => qp
  max x.qpMin (min x.qpMax q)

/-- Engines' pages work. -/
def Dev.encWorks (d : Dev) (x : EncCtx) : Bool :=
  x.cfg!.engines.all fun g => d.works (Pg.ENCPIX g) && d.works (Pg.ENCENT g) && d.works (Pg.ENCRC g)

/-- Is a picture still needed as a reference? -/
def EncCtx.needed (x : EncCtx) (k : Nat) : Bool :=
  k ∈ x.anchors.take x.cfg!.refs || (x.ltr.any fun e => e.2 = k) || (x.ready.any fun e => k ∈ e.refs) || x.pics.any fun p => k ∈ p.refs

/-- The AV1 reference slots once a picture is coded (R264): long-term slot i stands in slot 7 − i; a picture that others may
reference takes the lowest short-term slot whose picture is not needed, a key frame empties all. Which short-term slot it takes is a
DESIGN CHOICE (log 142). -/
def EncCtx.slotsAfter (x : EncCtx) (q : EncNext) (ltr : List (Nat × Nat)) : List (Nat × Nat) :=
  let y := x.cfg!
  if y.codec = 0 then []
  else
    let short := if q.type = 0 then [] else x.slots.filter fun e => e.1 < 8 - y.ltr
    let free := ((List.range (8 - y.ltr)).find? fun s => match Assoc.find short s with
      | none => true
      | some k => !x.needed k).getD 0
    (if x.needed q.num then Assoc.put short free q.num else short) ++ ltr.map fun e => (7 - e.1, e.2)

/-- The pixel engine starts the picture under the governing plan (R265, R269 to R272). -/
def Dev.encBegin (d : Dev) (n : Nat) (q : EncNext) (poc hdr qp target cap : Nat) (fixed : Bool) : Dev :=
  let x := d.enc n
  let y := x.cfg!
  let ltr := ltrApply (if q.type = 0 then [] else x.ltr) q.num x.ltrActs
  let marks := (x.ltrActs.filter fun a => a.1 = 0 && Assoc.find ltr a.2 = some q.num).map (·.2)
  let caps := y.bandCaps cap
  let goals := y.bandCaps target
  let bands : List Band := (List.range y.split).map fun c =>
    { ctus := y.bandCols c, cap := caps.getD c 0, target := goals.getD c 0, spent := if c = 0 then hdr else 0,
      hdr := if c = 0 then hdr else 0 }
  let p : EncPic := { num := q.num, src := q.src, type := q.type, refs := x.nextRefs q, poc := poc, qp := qp, fixed := fixed,
                      marks := marks, cap := cap, target := target, bands := bands }
  let pg := Pg.ENCPIX y.engine
  let other : Bool := y.engines.any fun g => match Assoc.find d.pip.encState g with
    | some m => m ≠ n
    | none => false
  let d := if other then d.bump pg Reg.ENC_PIX.SWITCH_CNT else d
  let d : Dev := { d with pip := { d.pip with encState := y.engines.foldl (fun l g => Assoc.put l g n) d.pip.encState } }
  let d := d.setEnc n { x with ready := x.ready.drop 1, pics := x.pics ++ [p], ltr := ltr, ltrActs := [], plan := none,
                               slots := x.slotsAfter q ltr,
                               sequence := if q.type = 0 then [y.codec, y.prof, y.level, y.tier, y.w, y.h, y.chroma, y.depth] else x.sequence }
  let d := y.engines.foldl (fun d g =>
    ((d.wr (Pg.ENCPIX g) Reg.ENC_PIX.CONTEXT n).wr (Pg.ENCPIX g) Reg.ENC_PIX.BUSY_PIC 1).wr (Pg.ENCPIX g) Reg.ENC_PIX.AHEAD 0) d
  d.bump pg Reg.ENC_PIX.PIC_CNT

/-- ENC_PICTURE_START: the next picture of a context starts, or is skipped, or its rate decision is posted (R263, R265,
R271). `qp`, `target` and `hdr` are the rate controller's QP and target and the header's bits. -/
def Dev.encStart (d : Dev) (n poc qp target hdr : Nat) : Dev :=
  let x := d.enc n
  let y := x.cfg!
  match x.ready with
  | [] => d
  | q :: _ =>
    let sink := q.src.host.isNone
    if !d.encWorks x ∨ !d.encFreeEngines n ∨ !x.refsDone (x.nextRefs q) ∨ PIC_HDR < hdr then d
    else if d.pip.encs.any (fun e => d.encAhead n e.1 q.src) then d
    else if 2 ≤ d.shed ∨ !d.encRoom n q.src then (if sink then d.encSkipNext n else d)
    else
      let qp := y.qpFor q.type qp
      let top := 2 ^ 32 - 1
      let goal := min top (x.targetFor (target % 2 ^ 32))
      match x.plan with
      | some (k, qp, fixed, goal, cap) => if k = q.num then d.encBegin n q poc hdr qp goal (min cap x.capNow) fixed else d
      | none =>
        if x.asked = some q.num then d
        else if d.assisted x.pageRc then
          let (d, posted) := d.postAssist {
            part := d.ownerOf 2 n, tag := 0, func := 2, page := x.pageRc, object := n, cid := q.src.cid,
            proposal := [qp + 256 * b2n (y.mode = 0), goal, min top x.capNow], key := q.num } 2000
          if posted then d.updEnc n fun x => { x with asked := some q.num } else d.encBegin n q poc hdr qp goal x.capNow (y.mode = 0)
        else d.encBegin n q poc hdr qp goal x.capNow (y.mode = 0)

/-- Is a reply to FUNC 0x02 acceptable (R271)? -/
def Dev.encReplyOk (d : Dev) (n qp cap : Nat) : Bool :=
  let x := d.enc n
  let intra := match x.ready with
    | q :: _ => decide (q.type ≤ 1)
    | [] => true
  cap ≤ x.capNow && x.cfg!.wholeFloor intra ≤ cap && x.cfg!.qpMin ≤ qp && qp ≤ x.cfg!.qpMax

/-- FUNC 0x02 is resolved: the values that govern the picture (R271). -/
def Dev.encPlan (d : Dev) (n k qp : Nat) (fixed : Bool) (target cap : Nat) : Dev :=
  d.updEnc n fun x => if x.asked = some k then { x with asked := none, plan := some (k, qp, fixed, target, cap) } else x

def EncCtx.updPic (x : EncCtx) (k : Nat) (f : EncPic → EncPic) : EncCtx :=
  { x with pics := x.pics.map fun p => if p.num = k then f p else p }

def EncPic.updBand (p : EncPic) (b : Nat) (f : Band → Band) : EncPic := { p with bands := p.bands.modify b f }

/-- CTU rows in the syntax buffer of band `b`'s encoder (R265). -/
def EncCtx.syntaxRows (x : EncCtx) (b : Nat) : Nat :=
  x.pics.foldl (fun a p => let y := p.bands.getD b {}; a + (y.pix - y.row)) 0

/-- Show the rows ahead of band `b` (R279). -/
def Dev.encShow (d : Dev) (n b : Nat) : Dev :=
  let x := d.enc n
  let g := x.cfg!.engine + b
  let rows := x.syntaxRows b
  let ahead := match x.pics.getLast? with
    | some p => let y := p.bands.getD b {}; y.pix - y.row
    | none => 0
  let d := (d.wr (Pg.ENCPIX g) Reg.ENC_PIX.AHEAD ahead).wr (Pg.ENCENT g) Reg.ENC_ENT.SYNTAX_ROWS rows
  d.wr (Pg.ENCENT g) Reg.ENC_ENT.SYNTAX_MAX (max (d.rd (Pg.ENCENT g) Reg.ENC_ENT.SYNTAX_MAX) rows)

/-- basis(n) of a band (R267). -/
def Band.basisOf (z : Band) (ahead n : Nat) : Nat :=
  (List.range n).foldl (fun (a m : Nat) => a + if (m : Int) ≤ max ((n : Int) - 1 - ahead) z.rb then z.acts.getD m 0 else z.est.getD m 0) 0

/-- QP of a row: its own, or the picture's. -/
def rowQp (r : RowCode) (p : EncPic) : Nat := r.qp.getD p.qp

/-- Can the pixel engine end a row so? Its tools are those of R257, its motion vectors reach reference pictures as R266 says, its QP
stays in the range; where FIXED it is the picture's, in CCQ it is raised only where the cap would be reached at the picture's (R269). -/
def rowPossible (r : RowCode) (p : EncPic) (y : EncCfg) (z : Band) : Bool :=
  let n := z.pix
  let qp := rowQp r p
  r.tools.all (encoderUses y.codec) &&
  r.motion.all (fun m => reachable m y.codec && m.ref ∈ p.refs && decide (2 ≤ p.type)) &&
  (r.qp.isNone || (y.qpMin ≤ qp && qp ≤ y.qpMax)) && (!p.fixed || qp = p.qp) &&
  (y.mode ≠ 3 || qp = p.qp || (p.qp < qp &&
    z.cap < z.hdr + z.basisOf y.ahead n + r.atQuality + y.reserve (decide (p.type ≤ 1)) z.ctus (n + 1)))

/-- PIXEL_ROW_END: band `b`'s pixel engine ends its next row with estimate `e`; its samples go to the row store (R265, R267, R268,
R260). -/
def Dev.pixelRow (d : Dev) (n b e : Nat) (code : RowCode := {}) : Dev :=
  let x := d.enc n
  let y := x.cfg!
  match x.pics.find? fun p => (p.bands.getD b {}).pix < y.rows with
  | none => d
  | some p =>
    let z := p.bands.getD b {}
    if p.bands.length ≤ b ∨ z.row + y.ahead < z.pix ∨ 64 ≤ x.syntaxRows b ∨ !rowPossible code p y z then d
    else
      let p' := p.updBand b fun z => { z with pix := z.pix + 1, est := z.est ++ [e], basis := z.basis ++ [z.basisOf y.ahead z.pix],
                                              qps := z.qps ++ [rowQp code p], store := z.store ++ [code.samples] }
      let d := (d.setEnc n (x.updPic p.num fun _ => p')).encShow n b
      let d := if x.syntaxRows b = 63 then d.bump (Pg.ENCENT y.engine) Reg.ENC_ENT.STALL_CNT else d
      if p'.pixelDone y.rows then (d.encFree n p.src).retireAll else d

/-- The band with the pixel engine's rows after row `r` discarded (R267, R268). -/
def Band.discard (z : Band) (r : Nat) : Band :=
  { z with pix := r + 1, est := z.est.take (r + 1), basis := z.basis.take (r + 1), qps := z.qps.take (r + 1), store := [] }

/-- What the end of row `r` comes to for a band (R267, R268, R270): `a` the bits of the row as coded, `fb` and `fs` the bits and
samples of its floor form, `plan` its plan. -/
def Band.endRow (z : Band) (reserve tol a fb plan : Nat) (fs : List Nat := []) : Band × Nat × Bool :=
  let r := z.row
  let excess : Bool := !z.floored && z.cap < z.spent + a + reserve
  let bits := if z.floored ∨ excess = true then fb else a
  let z := { z with recs := z.recs ++ [if z.floored ∨ excess = true then fs else z.store.headD []], store := z.store.drop 1 }
  let z := if excess then { z.discard r with floored := true } else z
  let err := z.err + (bits : Int) - (z.est.getD r 0 : Nat)
  let roll : Bool := decide (tol * plan < err.natAbs * 16)
  let z := { z with row := r + 1, spent := z.spent + bits, err := err, acts := z.acts ++ [bits] }
  (if roll then { z.discard r with rb := r, err := 0 } else z, bits, roll)

/-- Write the filtered rows of a band that may go to the reference picture: row n when row n + 1, or the last row, has committed
(R268) and the band on the left has committed row n (R272). -/
def Band.writeRows (z : Band) (codec rows : Nat) (left : Option Band) : Nat → Band
  | 0 => z
  | fuel + 1 =>
    let n := z.written.length
    let seam := match left with
      | some l => decide (n < l.row)
      | none => true
    if (n + 1 < z.row ∨ (z.row = rows ∧ n < rows)) ∧ seam = true then
      let row := Config.inLoopFilter codec (z.recs.getD n []) (z.recs.getD (n + 1) []) (((left.map (·.recs)).getD []).getD n [])
      ({ z with written := z.written ++ [row] } : Band).writeRows codec rows left fuel
    else z

/-- The same for every band of a picture. -/
def EncPic.writeRows (p : EncPic) (codec rows : Nat) : EncPic :=
  { p with bands := p.bands.zipIdx.map fun e => e.1.writeRows codec rows (if e.2 = 0 then none else p.bands[e.2 - 1]?) rows }

/-- The seam of band `b` at row `r` (R272): a row waits for the band on its left. -/
def Dev.encSeam (d : Dev) (n k b r : Nat) : Dev :=
  let x := d.enc n
  match x.pics.find? fun p => p.num = k with
  | none => d
  | some p =>
    let left := p.bands.getD (b - 1) {}
    let d := if 0 < b ∧ left.row ≤ r then
        d.setEnc n (x.updPic k fun p => p.updBand b fun z => { z with
          seam := z.seam ++ [(r, d.clock)] })
      else d
    match ((p.bands.getD (b + 1) {}).seam).find? fun e => e.1 = r with
    | none => d
    | some (_, t) =>
      let pg := Pg.ENCPIX x.cfg!.engine
      let us := min 65535 (intervalIn 1000 (d.clock - t))
      let d := d.updEnc n fun x => x.updPic k fun p => p.updBand (b + 1) fun z =>
        { z with seam := z.seam.filter (fun e => e.1 ≠ r) }
      d.wr pg Reg.ENC_PIX.SEAM_WAIT_MAX (max (d.rd pg Reg.ENC_PIX.SEAM_WAIT_MAX) us)

/-- ENC_ROW_END: band `b`'s entropy engine ends its next row: the floor check, then the rollback check; the row commits
(R267, R268, R270). -/
def Dev.encRow (d : Dev) (n b a fb plan : Nat) (floorRow : List Nat := []) : Dev :=
  let x := d.enc n
  let y := x.cfg!
  match x.pics.find? fun p => (p.bands.getD b {}).row < y.rows with
  | none => d
  | some p =>
    let z := p.bands.getD b {}
    let intra : Bool := decide (p.type ≤ 1)
    if p.bands.length ≤ b ∨ z.pix ≤ z.row ∨ y.floorRow intra z.ctus z.row < fb then d
    else
      let (z', bits, roll) := z.endRow (y.reserve intra z.ctus (z.row + 1)) y.tol a fb plan floorRow
      let d := d.setEnc n (x.updPic p.num fun p => { ((p.updBand b fun _ => z').writeRows y.codec y.rows) with rolled := p.rolled || roll })
      let d := if roll then d.bump (Pg.ENCPIX y.engine) Reg.ENC_PIX.ROLLBACK_CNT else d
      let d := d.bump (Pg.ENCENT y.engine) Reg.ENC_ENT.BITS_LO 0 bits
      (d.encSeam n p.num b z.row).encShow n b

/-! ### Commit (R258, R263, R269) -/

/-- A Colophon copy with BUDGET_FLOOR set and its CRC recomputed (R263). -/
def floorColophon (col : List Byte) : List Byte :=
  let body := (col.take 4092).modify 0x140 (· ||| 0x40)
  body ++ leBytes 4 (crc32c body)

/-- The output layout from offset 4 on (R263). -/
def encSlot (p : EncPic) (floor : Bool) (seq skipped qp : Nat) (bits : List Byte) : List Byte :=
  let flags := b2n floor + 2 * b2n (p.marks ≠ []) + 4 * b2n p.rolled
  let col := if p.src.host.isSome then zeros 4096 else if floor then floorColophon p.src.colophon else p.src.colophon
  fit 0xFFC (leBytes 4 seq ++ leBytes 4 bits.length ++ leBytes 1 p.type ++ leBytes 1 flags ++ leBytes 2 qp ++
    leBytes 8 p.src.cid ++ leBytes 8 p.src.pts ++ leBytes 4 p.poc ++ leBytes 4 skipped) ++ fit 4096 col ++ bits

/-- Deliver a committed picture: to DST_ADDR, the ring or the queue. A PICTURE's status, SUCCESS when it was delivered. -/
def Dev.encDeliver (d : Dev) (n : Nat) (p : EncPic) (floor : Bool) (qp : Nat) (bits : List Byte) : Dev × Status × Nat :=
  let x := d.enc n
  let y := x.cfg!
  let owner := d.ownerOf 2 n
  let bs := fun seq => encSlot p floor seq x.skipped qp bits
  let next := fun (r : RingPos) => { x with ring := { r with seq := x.ring.seq + 1 }, skipped := 0 }
  let miss := fun (d : Dev) => if p.src.host.isSome then d else d.encSkip n
  let host := match p.src.host with
    | some (q, asn) => d.cmd? q asn
    | none => none
  match (match host with | some c => if sf c.entry 8 16 1 = 1 then some c else none | none => none) with
  | some c =>
    let out := bs (x.ring.seq + 1)
    if dwAt c.entry 7 < out.length then (d, ENC_SPACE, out.length)
    else match d.dataOut c 4 (dwAt c.entry 7) out with
      | .ok d => (d.setEnc n (next x.ring), .SUCCESS, 0)
      | .error st => (d, st, 0)
  | none =>
    if y.ringAddr = 0 then (d.setEnc n { next x.ring with queue := x.queue ++ [bs (x.ring.seq + 1)] }, .SUCCESS, 0)
    else
      let (d, pos, res) := d.slotDeliver owner y.ringAddr y.slotBytes y.slots x.ring (fun seq _ => bs seq)
      match res with
      | .delivered => (d.setEnc n (next pos), .SUCCESS, 0)
      | .tooBig =>
        let d := miss (d.event owner x.pageRc WARN 0x040D [BitVec.ofNat 8 n])
        (d, ENC_SPACE, (bs 0).length + 4)
      | .filled => (miss d, .XFER_ERROR, 0)
      | .failed =>
        let (d, pos) := d.ringXfer owner x.pageRc n pos
        (miss (d.updEnc n fun x => { x with ring := { x.ring with warned := pos.warned } }), .XFER_ERROR, 0)

/-- Filler bits of CBR (R269). -/
def EncCtx.filler (x : EncCtx) (b : Nat) : Nat :=
  let y := x.cfg!
  if y.mode = 1 ∧ bitAt y.flags 0 then x.fullness - b + y.perPicture - y.vbv * 1000 else 0

/-- A committed picture becomes a reference, with its scaled pictures (R266); pictures no longer needed go; the CDF tables follow
it (R273). -/
def EncCtx.keepRef (x : EncCtx) (p : EncPic) (bits : List Byte) : EncCtx :=
  let bands := p.bands.map (·.written)
  let l := Assoc.put x.recons p.num { bands := bands, quarter := Config.scaled 4 bands, sixteenth := Config.scaled 16 bands }
  let y := x.cfg!
  { x with recons := l.filter fun e => x.needed e.1,
           cdf := if y.codec = 0 then [] else Config.cdfAfter (if p.type = 0 ∨ bitAt y.flags 1 = true then [] else x.cdf) bits }

/-- ENC_PICTURE_COMMIT: the oldest picture's last row has committed; `bits` is its bitstream, filler included, `qp` its mean
QP in 8.8, which CCQ only raises above QUALITY (R269). -/
def Dev.encCommit (d : Dev) (n qp : Nat) (bits : List Byte) : Dev :=
  let x := d.enc n
  let y := x.cfg!
  match x.pics with
  | [] => d
  | p :: rest =>
    let b := (p.bands.map (·.spent)).foldl (· + ·) 0
    let floor := p.bands.any (·.floored)
    if !p.done y.rows ∨ bits.length ≠ ceilDiv (b + x.filler b) 8 ∨ qp < y.qpMin * 256 ∨ y.qpMax * 256 < qp ∨
        (p.fixed ∧ !floor ∧ qp ≠ p.qp * 256) ∨ (y.mode = 3 ∧ p.qp = y.qpFor p.type 0 ∧ qp < p.qp * 256) then d
    else
      let (d, (st : Status), need) := d.encDeliver n p floor qp bits
      let d := d.updEnc n fun x => { x with pics := rest, fullness := min (y.vbv * 1000) (x.fullness - b + y.perPicture) }
      let d := d.updEnc n fun x => x.keepRef p bits
      let rc := Pg.ENCRC y.engine
      let d := (d.wr rc Reg.ENC_RC.LAST_CAP (min (2 ^ 32 - 1) p.cap)).wr rc Reg.ENC_RC.LAST_BITS (min (2 ^ 32 - 1) b)
      let d := if floor then (d.bump rc Reg.ENC_RC.FLOOR_CNT).raise rc 0 else d
      let d := if rest = [] then y.engines.foldl (fun d g => d.wr (Pg.ENCPIX g) Reg.ENC_PIX.BUSY_PIC 0) d else d
      let d := match p.src.host with
        | none => d
        | some (q, asn) => match d.cmd? q asn with
          | none => d
          | some c => if st = Status.SUCCESS then d.succeed c bits.length (if floor then ENC_FLOOR else Status.SUCCESS) else d.complete c st need
      d.encIdle n

end Sys2Proof.Machine
end

