-- ==== Sys2Proof/Machine/DecodeVideo.lean ====
section
/-! DEFINITION. DecodeVideo: DEC_SUBMIT and the decoders (spec 09 R274 to R278). What a unit's headers name and the pictures
it decodes to are operands of the rows; concealment, output, flags and counts are the device's. -/

namespace Sys2Proof.Machine

def Dev.dec (d : Dev) (c : Nat) : DecCtx := (Assoc.find d.pip.decs c).getD {}

def Dev.setDec (d : Dev) (c : Nat) (x : DecCtx) : Dev :=
  { d with pip := { d.pip with decs := if x = {} then Assoc.del d.pip.decs c else Assoc.put d.pip.decs c x } }

def Dev.updDec (d : Dev) (c : Nat) (f : DecCtx → DecCtx) : Dev := d.setDec c (f (d.dec c))

/-- Fields of a decoder descriptor (R274). -/
structure DecCfg where
  codec : Nat
  engine : Nat
  maxW : Nat
  maxH : Nat
  chroma : Nat
  depth : Nat
  num : Nat
  den : Nat
  out : Nat
  layer : Nat
  factor : Nat
  flags : Nat
  ringAddr : Nat
  slotBytes : Nat
  slots : Nat
deriving DecidableEq, Repr

def decCfg (c : List Byte) : DecCfg where
  codec := at_ c 0 1
  engine := at_ c 1 1
  maxW := at_ c 2 2
  maxH := at_ c 4 2
  chroma := at_ c 6 1
  depth := at_ c 7 1
  num := at_ c 8 4
  den := at_ c 0xC 4
  out := at_ c 0x10 1
  layer := at_ c 0x11 1
  factor := at_ c 0x12 1
  flags := at_ c 0x13 1
  ringAddr := at_ c 0x18 8
  slotBytes := at_ c 0x20 4
  slots := at_ c 0x24 2

def DecCtx.cfg! (x : DecCtx) : DecCfg := decCfg (x.cfg.getD [])

/-- PACK of a decoded picture: 3 for 4:2:0 and 4:2:2, 5 for 4:4:4 (R275). -/
def decPack (chroma : Nat) : Nat := if chroma = 3 then 5 else 3

/-- Bytes of a decoded picture's planes (R275, R203). -/
def decBytes (w h chroma : Nat) : Nat :=
  let row := ceilDiv (2 * w) 256 * 256
  let up := fun n => ceilDiv n 4096 * 4096
  match chroma with
  | 1 => up (row * h) + row * ceilDiv h 2
  | 2 => up (row * h) + row * h
  | _ => 2 * up (row * h) + row * h

/-- May a DEC_SUBMIT command take effect: those before it on its context have (R274)? A DECODE joins the ones that wait for
an engine. -/
def Dev.decTurn (d : Dev) (c : Cmd) : Bool :=
  (d.cmdsOf c.part).all fun x =>
    !(opcode x.entry = 0x91 && sf x.entry 1 0 6 = sf c.entry 1 0 6 && x.asn < c.asn) ||
    (x.phase = .running && sf x.entry 8 0 2 = 1 && sf c.entry 8 0 2 = 1)

def Dev.decOp (d : Dev) (c : Cmd) (op : Nat) (k : Nat → DecCtx → Dev) : Dev :=
  let n := sf c.entry 1 0 6
  if sf c.entry 8 0 2 ≠ op then d
  else if d.ownerOf 3 n ≠ c.part then d.complete c .INVALID_TARGET
  else if !d.decTurn c then d
  else k n (d.dec n)

/-- DEC_CONFIG: its descriptor, 0x28 bytes at least, moves first (R274). -/
def Dev.decConfig (d : Dev) (c : Cmd) : Dev :=
  d.decOp c 0 fun _ _ => if dwAt c.entry 6 < 0x28 then d.complete c DEC_PARAM else d.startMove c (dwAt c.entry 6)

/-- The checks of R274. -/
def Dev.decCheck (d : Dev) (c : Cmd) (n : Nat) (bs : List Byte) : Option Status :=
  let y := decCfg bs
  let reserved : Bool := at_ bs 0x14 4 = 0 && at_ bs 0x26 (bs.length - 0x26) = 0
  let fields : Bool := y.codec ≤ 1 && y.engine ≤ 2 && 64 ≤ y.maxW && y.maxW ≤ 16384 && 64 ≤ y.maxH && y.maxH ≤ 8704 &&
    y.chroma ∈ [1, 2, 3] && y.depth ∈ [8, 10, 12] && 1 ≤ y.num && 1 ≤ y.den && y.out ≤ 1 && 2 ≤ y.factor && y.factor ≤ 16 && y.flags ≤ 1
  let out : Bool :=
    if y.out = 1 then y.layer < 64 && y.layer % 4 = 0 && d.pageOwner (layerAt y.layer).1 = c.part
    else c.part < 64 && y.ringAddr % 4096 = 0 && y.slotBytes % 4096 = 0 && 1 ≤ y.slots && y.slots ≤ 256 &&
      0x2000 + decBytes y.maxW y.maxH y.chroma ≤ y.slotBytes
  if !reserved ∨ !fields ∨ !out then some DEC_PARAM
  else if 2 * d.reserved 3 n * 1000 * y.den < y.maxW * y.maxH * k2 y.chroma * y.num then some DEC_CAPACITY
  else none

/-- The descriptor of a CONFIG has moved. -/
def Dev.decConfigEnd (d : Dev) (c : Cmd) : Dev :=
  let n := sf c.entry 1 0 6
  match d.dataIn c 2 (dwAt c.entry 6) with
  | .error st => d.complete c st
  | .ok bs => match d.decCheck c n bs with
    | some st => d.complete c st
    | none => (d.setDec n { cfg := some bs }).succeed c

/-- DEC_DECODE: the unit moves (R274). -/
def Dev.decDecode (d : Dev) (c : Cmd) : Dev :=
  d.decOp c 1 fun _ x => if x.cfg.isNone then d.complete c DEC_PARAM else d.startMove c (dwAt c.entry 6)

/-- The unit of a DECODE has moved: it waits for an engine. `luma` is its luma samples times 2K (R20). -/
def Dev.decDecodeEnd (d : Dev) (c : Cmd) (luma : Nat) : Dev :=
  let n := sf c.entry 1 0 6
  match d.dataIn c 2 (dwAt c.entry 6) with
  | .error st => d.complete c st
  | .ok _ =>
    (d.setCmd { c with phase := .running }).updDec n fun x =>
      let held := reservedWork (2 * d.reserved 3 n) luma (x.lastTime.map fun t => c.time - t)
      { x with units := x.units ++ [⟨c.part, c.asn, held⟩], lastTime := some c.time }

/-! ### Output (R275) -/

/-- A decoder slot from offset 4 on. -/
def decSlot (p : DecPic) (tag seq : Nat) : List Byte × Nat :=
  let packed := Render.packBytes (decPack p.chroma) p.planes
  let bs := Render.joinPlanes (packed.map Render.rows)
  let pitch := ceilDiv (2 * p.w) 256 * 256
  (fit 0xFFC (leBytes 4 seq ++ leBytes 4 bs.length ++ leBytes 2 p.w ++ leBytes 2 p.h ++ leBytes 1 p.chroma ++ leBytes 1 p.depth ++
    leBytes 1 p.flags ++ zeros 1 ++ leBytes 4 pitch ++ leBytes 8 tag ++ leBytes 4 p.poc) ++ bs, pitch)

/-- What an output came to. -/
inductive DecOut where
  | done | full | failed
deriving DecidableEq, Repr

/-- Output one picture to the ring or the layer. -/
def Dev.decPut (d : Dev) (n : Nat) (p : DecPic) (tag : Nat) : Dev × DecOut :=
  let x := d.dec n
  let y := x.cfg!
  let owner := d.ownerOf 3 n
  let pg := Pg.DECPIX x.ran
  if y.out = 1 then
    let o : Render.Output := { pack := decPack p.chroma, chroma := encChroma p.chroma, depth := p.depth, w := p.w, h := p.h }
    let (bs, pitch) := decSlot p tag 0
    if d.layerSuits y.layer o then
      ((d.bump pg Reg.DEC_PIX.PIC_CNT).toLayerSet y.layer { cid := 0, w := p.w, h := p.h, planes := bs.drop 0xFFC, pitch := pitch }, .done)
    else ((d.bump pg Reg.DEC_PIX.PIC_CNT).bump (layerAt y.layer).1 Reg.DSP.L_MISMATCH_CNT (layerAt y.layer).2, .done)
  else
    let (d, pos, res) := d.slotDeliver owner y.ringAddr y.slotBytes y.slots x.ring fun seq _ => (decSlot p tag seq).1
    match res with
    | .delivered => ((d.bump pg Reg.DEC_PIX.PIC_CNT).updDec n fun x => { x with ring := pos }, .done)
    | .filled => (d, .full)
    | _ =>
      let (d, pos) := d.ringXfer owner pg n pos
      (d.updDec n fun x => { x with ring := { x.ring with warned := pos.warned } }, .failed)

/-- Output the pictures that wait, in order, until the ring is full. Answers the counts of pictures output and failed. -/
def Dev.decDrainOut (d : Dev) (n : Nat) : Nat → Nat → Nat → Dev × Nat × Nat
  | 0, ok, bad => (d, ok, bad)
  | k + 1, ok, bad =>
    match (d.dec n).blocked with
    | [] => (d, ok, bad)
    | (p, tag) :: rest =>
      match d.decPut n p tag with
      | (d, .full) => (d, ok, bad)
      | (d, .done) => (d.updDec n fun x => { x with blocked := rest }).decDrainOut n k (ok + 1) bad
      | (d, .failed) => (d.updDec n fun x => { x with blocked := rest }).decDrainOut n k ok (bad + 1)

/-- Pictures of the running unit go out; the DECODE completes when none waits (R274, R278). -/
def Dev.decOutput (d : Dev) (n : Nat) : Dev :=
  match (d.dec n).run with
  | none => d
  | some r =>
    let (d, ok, bad) := d.decDrainOut n ((d.dec n).blocked.length) r.output r.failed
    if (d.dec n).blocked ≠ [] then d.updDec n fun x => { x with run := some { r with output := ok, failed := bad } }
    else
      let d := d.updDec n fun x => { x with run := none }
      match d.cmd? r.part r.asn with
      | none => d
      | some c =>
        if bad ≠ 0 then d.complete c .XFER_ERROR
        else
          let st := if bitAt r.flags 2 then DEC_WATCHDOG else if bitAt r.flags 1 then DEC_REF_SUBST
            else if bitAt r.flags 0 then DEC_CONCEALED else .SUCCESS
          d.succeed c (min 65535 ok + r.flags % 8 * 2 ^ 16) st

/-- Insert a picture by its picture order count. -/
def insertPoc (p : DecPic) : List DecPic → List DecPic
  | [] => [p]
  | q :: r => if p.poc < q.poc then p :: q :: r else q :: insertPoc p r

/-- A picture as it goes out: FG_EN applies its film grain, which no reference carries. -/
def DecPic.shown (p : DecPic) (y : DecCfg) : DecPic :=
  match p.grain with
  | some g => if bitAt y.flags 0 then { p with planes := p.planes.zipIdx.map fun e => Config.filmGrain g p.depth e.2 e.1 } else p
  | none => p

/-- Every picture still held goes out; a full ring holds the rest. Answers the deliveries that failed. The manual gives these
pictures no TAG: a free value. -/
def Dev.decFlush (d : Dev) (n : Nat) : Dev × Nat :=
  let x := d.dec n
  let tag := d.freeNow 64
  let out := (x.held.filter fun p => !p.hide).map fun p => (p.shown x.cfg!, tag)
  let d := (d.setDec n { x with held := [], blocked := x.blocked ++ out }).freeStep
  let (d, _, bad) := d.decDrainOut n (x.blocked.length + out.length) 0 0
  (d, bad)

/-- DEC_DRAIN: every picture still held goes out (R274). -/
def Dev.decDrain (d : Dev) (c : Cmd) : Dev :=
  d.decOp c 2 fun n x =>
    if x.cfg.isNone then d.complete c DEC_PARAM
    else
      let (d, bad) := d.decFlush n
      if (d.dec n).blocked ≠ [] then d
      else if bad ≠ 0 then d.complete c .XFER_ERROR else d.succeed c

/-- DEC_RELEASE: its units are decoded and their pictures delivered, then the context's memory and configuration are freed
(R274, R278). -/
def Dev.decRelease (d : Dev) (c : Cmd) : Dev :=
  d.decOp c 3 fun n _ =>
    let (d, _) := d.decFlush n
    if (d.dec n).blocked ≠ [] then d else (d.setDec n {}).succeed c

/-! ### The engines -/

/-- The context on a decoder engine. -/
def Dev.decOn (d : Dev) (g : Nat) : Option (Nat × DecCtx) := d.pip.decs.find? fun e => (e.2.run.bind DecRun.on) = some g

/-- May engine `g` take the context's next unit? -/
def DecCtx.takes (x : DecCtx) (g : Nat) : Bool := x.run.isNone && x.blocked = [] && (x.cfg!.engine = 2 || x.cfg!.engine = g)

/-- Is a sequence within its profile and the context's maxima (R276)? `s`: profile, chroma, depth, width, height. -/
def DecCfg.supports (y : DecCfg) (s : List Nat) : Bool :=
  let a := fun i => s.getD i 0
  (match profile y.codec (a 0) with
   | some (cs, ds) => a 1 ∈ cs && a 2 ∈ ds
   | none => false) && a 1 ≤ y.chroma && a 2 ≤ y.depth && a 3 ≤ y.maxW && a 4 ≤ y.maxH

/-- DEC_UNIT_START: engine `g` starts the oldest unit of context `n` (R274, R276, R277). `seq` is the sequence that an IRAP
picture or key frame of the unit names, `bad` the pictures of it that are damaged or lack a reference. -/
def Dev.decStart (d : Dev) (g n : Nat) (seq : Option (List Nat)) (bad : List Nat) : Dev :=
  let x := d.dec n
  match x.units with
  | [] => d
  | u :: rest =>
    let rival := d.pip.decs.any fun e => e.1 ≠ n && e.2.takes g && (match e.2.units with
      | v :: _ => v.reserved
      | [] => false)
    if (d.decOn g).isSome ∨ !x.takes g ∨ !d.works (Pg.DECENT g) ∨ !d.works (Pg.DECPIX g) ∨ !d.works (Pg.DECERR g) ∨ 2 ≤ d.shed ∨
        (!u.reserved ∧ rival = true) then d
    else
      let unsup := match seq with
        | some s => !x.cfg!.supports s
        | none => x.unsupported
      let d := (d.setDec n { x with units := rest, unsupported := unsup, sequence := seq.getD x.sequence }).wr (Pg.DECENT g) Reg.DEC_ENT.CONTEXT n
      match d.cmd? u.part u.asn with
      | none => d
      | some c =>
        if unsup then ((d.bump (Pg.DECERR g) Reg.DEC_ERR.UNSUPP_CNT).raise (Pg.DECERR g) 2).complete c DEC_UNSUPPORTED
        else
          let r : DecRun := { part := u.part, asn := u.asn, tag := dw64 c.entry 9, engine := some g, started := d.clock }
          let ask := fun (a : Dev × List Nat) (i : Nat) =>
            let (d, posted) := a.1.postAssist {
              part := d.ownerOf 3 n, tag := 0, func := 3, page := Pg.DECERR g, object := n, proposal := [0], key := u.asn,
              extra := [(0, i)] } 1000
            (d, if posted then a.2 ++ [i] else a.2)
          let (d, asking) := if d.assisted (Pg.DECERR g) then bad.eraseDups.foldl ask (d, []) else (d, [])
          d.updDec n fun x => { x with run := some { r with asking := asking } }

/-- FUNC 0x03 is resolved: the action for picture `i` of the unit (R277). -/
def Dev.decChoose (d : Dev) (n asn i choice : Nat) : Dev :=
  d.updDec n fun x => match x.run with
    | some r => if r.asn = asn ∧ i ∈ r.asking then
        { x with run := some { r with asking := r.asking.filter (· ≠ i), choices := Assoc.put r.choices i choice } } else x
    | none => x

/-- The cycle budget of a picture of the context's sequence, in ns (R278). -/
def DecCtx.budget (x : DecCtx) : Nat :=
  let a := fun i => x.sequence.getD i 0
  x.cfg!.factor * ceilDiv (a 3 * a 4 * k2 (a 1)) 4

/-- DEC_WATCHDOG: the cycle budget of picture `i` on engine `g` runs out when `done` of its blocks are decoded: it is closed, and the
engine is free for the next unit (R278). -/
def Dev.decClose (d : Dev) (g i : Nat) (done : Nat := 0) : Dev :=
  match d.decOn g with
  | none => d
  | some (n, x) => match x.run with
    | none => d
    | some r =>
      if d.clock < r.started + x.budget * 2 ^ 32 then d
      else
        let pg := Pg.DECERR g
        let d := d.setDec n { x with run := some { r with closed := r.closed ++ [(i, done)], freed := true } }
        ((d.bump pg Reg.DEC_ERR.WD_CNT).event (d.ownerOf 3 n) pg WARN 0x0702 [BitVec.ofNat 8 n]).raise pg 1

/-- Must block `i` of a picture be concealed (R276, R278)? A first violation damages the blocks up to the next resynchronisation
point, the end of the unit all that follow; damaged headers damage the whole picture; `done` blocks were decoded when the budget ran
out. -/
def picDamaged (q : Picture) (lost : Bool) (done : Option Nat) (i : Nat) : Bool :=
  lost || (match done with
    | some n => n ≤ i
    | none => false) || (match q.ended with
    | some n => n ≤ i
    | none => false) || q.bad.any fun v => v ≤ i && !q.resync.any fun r => v < r && r ≤ i

/-- The areas of a picture to be concealed. -/
def picAreas (q : Picture) (lost : Bool) (done : Option Nat) : List (Nat × Nat × Nat × Nat) :=
  if lost then [(0, 0, q.w, q.h)] else (q.blocks.zipIdx.filter fun e => picDamaged q lost done e.2).map (·.1)

/-- Samples of plane `c` in a concealed area: those of the last picture at the same place, or mid-grey (R277). -/
def concealPlane (p : DecPic) (areas : List (Nat × Nat × Nat × Nat)) (last : Option DecPic) (grey : Bool) (c : Nat) : List (List Nat) :=
  let sx := if c ≠ 0 ∧ p.chroma ≠ 3 then 2 else 1
  let sy := if c ≠ 0 ∧ p.chroma = 1 then 2 else 1
  (p.planes.getD c []).zipIdx.map fun row => row.1.zipIdx.map fun v =>
    let hit := areas.any fun a => a.1 ≤ v.2 * sx && v.2 * sx < a.1 + a.2.2.1 && a.2.1 ≤ row.2 * sy && row.2 * sy < a.2.1 + a.2.2.2
    if !hit then v.1
    else match last with
      | some l => if grey then 2 ^ (p.depth - 1) else ((l.planes.getD c []).getD row.2 []).getD v.2 (2 ^ (p.depth - 1))
      | none => 2 ^ (p.depth - 1)

/-- A picture of the unit, concealed, with its flags; `subst`: a reference was replaced. -/
def DecRun.picture (r : DecRun) (i : Nat) (q : Picture) (lost subst : Bool) (last : Option DecPic) : DecPic :=
  let choice := (Assoc.find r.choices i).getD 0
  let areas := picAreas q lost (Assoc.find r.closed i)
  let p : DecPic := { w := q.w, h := q.h, chroma := q.chroma, depth := q.depth, poc := q.poc, planes := q.planes, grain := q.grain }
  let whole := areas ≠ [] && (List.range q.h).all fun y => (List.range q.w).all fun x => areas.any fun a =>
    a.1 ≤ x && x < a.1 + a.2.2.1 && a.2.1 ≤ y && y < a.2.1 + a.2.2.2
  { p with planes := (List.range 3).map (concealPlane p areas last (choice = 1)),
           flags := b2n (areas ≠ []) + 2 * b2n subst + 4 * b2n (Assoc.has r.closed i) + 8 * b2n whole, hide := choice = 2 }

/-- What the pictures of a unit leave: those decoded, those that go out, and the context's. -/
structure DecAcc where
  ps : List DecPic := []
  out : List DecPic := []
  held : List DecPic := []
  dpb : List (Nat × DecPic) := []
  last : Option DecPic := none
  lost : Bool := false
deriving DecidableEq, Repr

/-- A picture of mid-grey with the format of another (R277). -/
def DecPic.grey (p : DecPic) : DecPic := { p with planes := p.planes.map fun c => c.map fun row => row.map fun _ => 2 ^ (p.depth - 1) }

/-- The next picture of a unit: its references, its concealment, the decoded picture buffer, and the output order: HEVC pictures wait
while at most `reorder` do (entry by picture: the bound of its parameter set) and go out by picture order count, all of them before
an IRAP picture; AV1 frames go out when they are shown, or shown again from a slot (R275 to R277; the HEVC process is that of the
standard, log 143). -/
def DecRun.next (r : DecRun) (y : DecCfg) (reorder : List Nat) (a : DecAcc) (e : Picture × Nat) : DecAcc :=
  let (q, i) := e
  match (if y.codec = 1 then q.showSlot else none) with
  | some s => { a with out := a.out ++ (Assoc.find a.dpb s).toList }
  | none =>
    let lost := q.headerBad || (a.lost && !q.irap)
    let dpb := if q.irap then [] else a.dpb
    let missing := q.refs.filter fun k => !Assoc.has dpb k
    let p := r.picture i q lost (missing ≠ []) a.last
    let subst := missing.map fun k => (k, { (a.last.getD p.grey) with poc := k })
    let a := { a with ps := a.ps ++ [p], last := some p, lost := lost }
    if y.codec = 1 then
      { a with dpb := q.refresh.foldl (fun l s => Assoc.put l s p) dpb, out := if q.isShown then a.out ++ [p] else a.out }
    else
      let (out, held) := if q.irap then (a.out ++ a.held, []) else (a.out, a.held)
      let held := if q.isShown then insertPoc p held else held
      let n := held.length - reorder.getD i 0
      { a with dpb := Assoc.put ((dpb.filter fun e => e.1 ∈ q.refs) ++ subst) q.poc p, out := out ++ held.take n, held := held.drop n }

/-- DEC_UNIT_END: the unit on context `n` is decoded to `pics`. A context whose output waits for ring space tries again (R275 to
R278). -/
def Dev.decEnd (d : Dev) (n : Nat) (pics : List Picture) (reorder : List Nat) : Dev :=
  let x := d.dec n
  match x.run with
  | none => d
  | some r => match r.engine with
    | none => d.decOutput n
    | some g =>
      if r.asking ≠ [] ∨ !(r.closed.all fun e => e.1 < pics.length) then d
      else
        let a := pics.zipIdx.foldl (r.next x.cfg! reorder) { held := x.held, dpb := x.dpb, last := x.last, lost := x.lost }
        let flags : Nat := a.ps.foldl (fun f p => f ||| p.flags) 0
        let r := { r with engine := none, flags := flags }
        let d := d.setDec n { x with run := some r, held := a.held, last := a.last, dpb := a.dpb, lost := a.lost, ran := g,
                                     blocked := (a.out.filter fun p => !p.hide).map fun p => (p.shown x.cfg!, r.tag) }
        let pg := Pg.DECERR g
        let d := d.bump (Pg.DECENT g) Reg.DEC_ENT.UNIT_CNT
        let d := d.bump pg Reg.DEC_ERR.CONCEAL_CNT 0 (a.ps.filter fun p => bitAt p.flags 0).length
        let d := d.bump pg Reg.DEC_ERR.REF_SUBST_CNT 0 (a.ps.filter fun p => bitAt p.flags 1).length
        let d := if flags % 4 ≠ 0 then d.raise pg 0 else d
        d.decOutput n

end Sys2Proof.Machine
end

