-- ==== Sys2Proof/Machine/Compose.lean ====
section
/-! DEFINITION. Compose: what a scan-out engine makes of its layers and markers (spec 10 R281, R284, R285, R287, R288). -/

namespace Sys2Proof.Machine

/-- A register of the engine as latched for the frame. -/
def Shot.rd (s : Shot) (F : Fld) (i : Nat := 0) (j : Nat := 0) : Nat :=
  Sparse.get s.regs (regKey s.page F i j) (resetVal s.page F i)

/-- `n` bytes, least significant first, at byte `o` of row `y` of a plane of a layer. -/
def Shot.bytes (s : Shot) (l p y o n : Nat) : Nat :=
  match (((Assoc.find s.imgs l).getD [])[p]?) with
  | none => 0
  | some (pitch, bs) => ofLe ((bs.drop (y * pitch + o)).take n)

/-- binary32 of an integer ratio. -/
def fpRatio (a b : Nat) : Nat := Fp.div (Fp.ofInt Fp.f32 a) (Fp.ofInt Fp.f32 b)

/-- ARGB8888 as colour and opacity. -/
def argb (w : Nat) : List Nat × Nat := ([fpRatio (bits w 16 8) 255, fpRatio (bits w 8 8) 255, fpRatio (bits w 0 8) 255], fpRatio (bits w 24 8) 255)

/-- The inverse of R200, then R′G′B′ (R284). -/
def Shot.fromYuv (s : Shot) (l yc cb cr : Nat) : List Nat :=
  let depth := s.rd Reg.DSP.L_DEPTH l
  let i := fun (n : Nat) => Fp.ofInt Fp.f32 n
  let full := s.rd Reg.DSP.L_RANGE l = 1
  let yv := if full then Fp.div (i yc) (i (2 ^ depth - 1)) else Fp.div (Fp.sub (Fp.div (i yc) (i (2 ^ (depth - 8)))) (i 16)) (i 219)
  let cv := fun c => if full then Fp.div (Fp.sub (i c) (i (2 ^ (depth - 1)))) (i (2 ^ depth - 1))
    else Fp.div (Fp.sub (Fp.div (i c) (i (2 ^ (depth - 8)))) (i 128)) (i 224)
  let kr := s.rd Reg.DSP.L_KR l
  let kb := s.rd Reg.DSP.L_KB l
  let r := Fp.add yv (Fp.mul (Fp.mul Fp.two (Fp.sub Fp.one kr)) (cv cr))
  let b := Fp.add yv (Fp.mul (Fp.mul Fp.two (Fp.sub Fp.one kb)) (cv cb))
  let g := Fp.div (Fp.sub (Fp.sub yv (Fp.mul kr r)) (Fp.mul kb b)) (Fp.sub (Fp.sub Fp.one kr) kb)
  [r, g, b].map fun v => Fp.fsat v 0 Fp.one

/-- Colour and opacity of pixel (x, y) of layer `l` (R281, R284). -/
def Shot.texel (s : Shot) (l y x : Nat) : List Nat × Nat :=
  let c := if s.rd Reg.DSP.L_CONT16 l = 1 then 2 else 1
  match s.rd Reg.DSP.L_FMT l with
  | 0 =>
    let w := s.bytes l 0 y (4 * x) 4
    ([fpRatio (bits w 0 10) 1023, fpRatio (bits w 10 10) 1023, fpRatio (bits w 20 10) 1023], fpRatio (bits w 30 2) 3)
  | 1 =>
    let h := fun k => Fp.fsat (Fp.of16 (s.bytes l 0 y (8 * x + 2 * k) 2)) 0 Fp.one
    ([h 0, h 1, h 2], h 3)
  | 2 =>
    let cy := if s.rd Reg.DSP.L_CHROMA l = 3 then y / 2 else y
    (s.fromYuv l (s.bytes l 0 y (c * x) c) (s.bytes l 1 cy (2 * c * (x / 2)) c) (s.bytes l 1 cy (2 * c * (x / 2) + c) c), Fp.one)
  | 3 => (s.fromYuv l (s.bytes l 0 y (c * x) c) (s.bytes l 1 y (c * x) c) (s.bytes l 2 y (c * x) c), Fp.one)
  | 4 => argb (s.bytes l 0 y (4 * x) 4)
  | _ => argb (s.rd Reg.DSP.PAL (256 * (l - 1) + s.bytes l 0 y x 1))

/-- Is raster pixel (x, y) inside layer `l`? -/
def Shot.inside (s : Shot) (l y x : Nat) : Bool :=
  s.rd Reg.DSP.L_EN l = 1 && s.rd Reg.DSP.L_X l ≤ x && x < s.rd Reg.DSP.L_X l + s.rd Reg.DSP.L_W l &&
  s.rd Reg.DSP.L_Y l ≤ y && y < s.rd Reg.DSP.L_Y l + s.rd Reg.DSP.L_H l

/-- c + a × (d − c) of each channel. -/
def blend (c d : List Nat) (a : Nat) : List Nat := (c.zip d).map fun e => Fp.add e.1 (Fp.mul a (Fp.sub e.2 e.1))

/-- Does marker `m` cover a pixel (R285)? -/
def Shot.marked (s : Shot) (m y x : Nat) : Bool :=
  let x0 := min (s.rd Reg.DSP.M_X0 m) (s.rd Reg.DSP.M_X1 m)
  let x1 := max (s.rd Reg.DSP.M_X0 m) (s.rd Reg.DSP.M_X1 m)
  let y0 := min (s.rd Reg.DSP.M_Y0 m) (s.rd Reg.DSP.M_Y1 m)
  let y1 := max (s.rd Reg.DSP.M_Y0 m) (s.rd Reg.DSP.M_Y1 m)
  let t := s.rd Reg.DSP.M_THICK m
  s.rd Reg.DSP.M_EN m = 1 && x0 ≤ x && x ≤ x1 && y0 ≤ y && y ≤ y1 &&
  (x < x0 + t || x1 < x + t || y < y0 + t || y1 < y + t)

/-- The background (R284). -/
def Shot.background (s : Shot) : List Nat :=
  (List.range 3).map fun c => fpRatio (bits (s.rd Reg.DSP.BG) (10 * c) 10) 1023

/-- c_out of a raster pixel (R284, R285, R288). -/
def Shot.pixel (s : Shot) (y x : Nat) : List Nat :=
  let layer := fun (c : List Nat) (l : Nat) =>
    let ly := y - s.rd Reg.DSP.L_Y l
    let lx := x - s.rd Reg.DSP.L_X l
    let dry := s.under.any fun u => u.1 = l && u.2.1 = ly && u.2.2 ≤ lx
    if !s.inside l y x || !Assoc.has s.imgs l || dry then c
    else
      let (v, a) := s.texel l ly lx
      let a := if s.rd Reg.DSP.L_OPAQUE l = 1 then Fp.one else a
      blend c v (Fp.div (Fp.mul a (Fp.ofInt Fp.f32 (s.rd Reg.DSP.L_GALPHA l))) (Fp.ofInt Fp.f32 255))
  let c := (List.range 3).foldl layer s.background
  if s.rd Reg.DSP.L3_EN = 0 then c
  else ((List.range 16).filter fun m => s.marked m y x).foldl (fun c m =>
    let (v, a) := argb (s.rd Reg.DSP.M_COLOUR m)
    blend c v a) c

/-- The frame's planes of codes, of the engine's own encoding (R284). -/
def Shot.planes (s : Shot) : List (List (List Nat)) :=
  let w := s.rd Reg.DSP.H_ACTIVE
  let h := s.rd Reg.DSP.V_ACTIVE
  let depth := s.rd Reg.DSP.DEPTH
  let e : Render.Encoding := ⟨s.rd Reg.DSP.KR, s.rd Reg.DSP.KB, s.rd Reg.DSP.RANGE = 1, Config.scanoutSiting.toNat % 2, Config.scanoutSiting.toNat / 2⟩
  let px := (List.range h).map fun y => (List.range w).map fun x => s.pixel y x
  let im := (List.range 3).map fun c => px.map fun r => r.map fun v => v.getD c 0
  (Render.chroma e (s.rd Reg.DSP.CHROMA) depth w h im).map fun p => p.map fun r => r.map (Render.quantise depth)

/-- May layer `k` cover those below it (R287)? -/
def Shot.covers (s : Shot) (k : Nat) : Bool := s.rd Reg.DSP.L_EN k = 1 && s.rd Reg.DSP.L_OPAQUE k = 1 && s.rd Reg.DSP.L_GALPHA k = 255

/-- Is a raster pixel of layer `l` covered (R287)? -/
def Shot.covered (s : Shot) (l y x : Nat) : Bool := (List.range 3).any fun k => l < k && s.covers k && s.inside k y x

/-- A tile of 64 × 64 pixels: where it holds pixels of a layer, whether the layer is covered at every pixel of the tile
(R287). -/
def Shot.tile (s : Shot) (l ty tx : Nat) : Option Bool :=
  let px := ((seqFrom (64 * ty) 64).filter (· < s.rd Reg.DSP.V_ACTIVE)).flatMap fun y =>
    ((seqFrom (64 * tx) 64).filter (· < s.rd Reg.DSP.H_ACTIVE)).map fun x => (y, x)
  if px.any fun p => s.inside l p.1 p.2 then some (px.all fun p => s.covered l p.1 p.2) else none

/-- The tiles that hold pixels of a layer (R287). -/
def Shot.tiles (s : Shot) (l : Nat) : List Bool :=
  (List.range (ceilDiv (s.rd Reg.DSP.V_ACTIVE) 64)).flatMap fun ty =>
    (List.range (ceilDiv (s.rd Reg.DSP.H_ACTIVE) 64)).filterMap fun tx => s.tile l ty tx

/-- Is a layer fetched for the frame: some tile of it is not covered (R287)? -/
def Shot.fetched (s : Shot) (l : Nat) : Bool :=
  !((List.range 3).any fun k => l < k && s.covers k) || (s.tiles l).any (!·)

/-- The columns of line `y` of a layer that are fetched: from the first to before the second, tile by tile (R287). -/
def Shot.openCols (s : Shot) (l y : Nat) : List (Nat × Nat) :=
  let x0 := s.rd Reg.DSP.L_X l
  let wide := min (x0 + s.rd Reg.DSP.L_W l) (s.rd Reg.DSP.H_ACTIVE)
  let shut := (List.range 3).any fun k => l < k && s.covers k
  let row := y + s.rd Reg.DSP.L_Y l
  if s.rd Reg.DSP.V_ACTIVE ≤ row then []
  else (List.range (ceilDiv wide 64)).filterMap fun tx =>
    let a := max x0 (64 * tx)
    let b := min wide (64 * tx + 64)
    if a < b ∧ !(shut && s.tile l (row / 64) tx = some true) then some (a - x0, b - x0) else none

/-- Planes of a format. -/
def planeCount (fmt : Nat) : Nat := match fmt with | 2 => 2 | 3 => 3 | _ => 1

/-- Bytes, and pixels across, of one unit of plane `p` of a format with containers of `c` bytes (R281). -/
def planeUnit (fmt c p : Nat) : Nat × Nat :=
  match fmt, p with
  | 0, _ => (4, 1)
  | 1, _ => (8, 1)
  | 2, 0 => (c, 1)
  | 2, _ => (2 * c, 2)
  | 3, _ => (c, 1)
  | 4, _ => (4, 1)
  | _, _ => (1, 1)

/-- What is fetched of lines `a` to before `b` of a HOST layer, as (plane, byte offset, bytes) (R283, R287). -/
def Shot.spans (s : Shot) (l a b : Nat) : List (Nat × Nat × Nat) :=
  let fmt := s.rd Reg.DSP.L_FMT l
  let c := if s.rd Reg.DSP.L_CONT16 l = 1 then 2 else 1
  (seqFrom a (min b (s.rd Reg.DSP.L_H l) - a)).flatMap fun y => (s.openCols l y).flatMap fun x => (List.range (planeCount fmt)).map fun p =>
    let row := if fmt = 2 ∧ p = 1 ∧ s.rd Reg.DSP.L_CHROMA l = 3 then y / 2 else y
    let (n, across) := planeUnit fmt c p
    let first := n * (x.1 / across)
    (p, row * s.rd Reg.DSP.L_PITCH l + first, n * ((x.2 - 1) / across + 1) - first)

/-- Put bytes at an offset of a plane. -/
def spliceAt (bs : List Byte) (o : Nat) (new : List Byte) : List Byte :=
  bs.take o ++ List.replicate (o - bs.length) 0 ++ new ++ bs.drop (o + new.length)

/-- The planes of a streamed layer in the frame: the late lines from the previous buffer; a line that no buffer gives is
transparent (R282, R283). -/
def Shot.streamed (s : Shot) (split : LayerBuf → List (Nat × List Byte)) (b : LayerBuf) (st : Streamed) : Shot :=
  let old := (st.prev.map split).getD []
  let half : Nat → Bool := fun p => s.rd Reg.DSP.L_FMT 0 = 2 && p = 1 && s.rd Reg.DSP.L_CHROMA 0 = 3
  let mix := (split b).zipIdx.map fun e =>
    let (pitch, bs) := e.1
    let was := ((old[e.2]?).getD (0, [])).2
    (pitch, st.late.foldl (fun acc y =>
      let o := (if half e.2 then y / 2 else y) * pitch
      spliceAt acc o ((was.drop o).take pitch)) bs)
  let dry := if st.prev.isNone then st.late.map fun y => (0, y, 0) else []
  { s with stream := none, imgs := Assoc.put s.imgs 0 mix, under := s.under ++ dry }

/-- Tiles in which fetch of a layer is skipped (R287). -/
def Shot.skipped (s : Shot) : Nat :=
  ((List.range 3).map fun l =>
    if s.rd Reg.DSP.L_EN l = 0 ∨ s.rd Reg.DSP.L_SRC l = 0 ∨ !((List.range 3).any fun k => l < k && s.covers k) then 0
    else ((s.tiles l).filter id).length).foldl (· + ·) 0

end Sys2Proof.Machine
end

