-- ==== Sys2Proof/Machine/Display.lean ====
section
/-! DEFINITION. Display: scan-out engines, DisplayPort ports and head-return feeds (spec 10 R280 to R296). -/

namespace Sys2Proof.Machine

def Dev.setDsp (d : Dev) (n : Nat) (x : Dsp) : Dev :=
  { d with pip := { d.pip with dsps := if x = {} then Assoc.del d.pip.dsps n else Assoc.put d.pip.dsps n x } }

def Dev.updDsp (d : Dev) (n : Nat) (f : Dsp → Dsp) : Dev := d.setDsp n (f (d.dsp n))

/-- ROUTE_KIND and ROUTE_IDX of an engine. -/
def Dev.route (d : Dev) (n : Nat) : Nat × Nat := (d.rd (Pg.DSP n) Reg.DSP.ROUTE_KIND, d.rd (Pg.DSP n) Reg.DSP.ROUTE_IDX)

/-! ### Routes (R280, R292, R293) -/

/-- Link rates of LINK_RATE in kbit/s of payload per lane: 128b/132b, and 8b/10b for HBR3 and HBR2 (R293; the line rates of
the names are PRESUMED from DisplayPort). -/
def dpLane (code : Nat) : Nat × Nat :=
  match code with
  | 0 => (20000000 * 128, 132)
  | 1 => (13500000 * 128, 132)
  | 2 => (10000000 * 128, 132)
  | 3 => (8100000 * 8, 10)
  | _ => (5400000 * 8, 10)

def dpLanes (code : Nat) : Nat := 2 ^ min 2 code

/-- Bits of a pixel in the engine's encoding. -/
def Dev.pixelBits (d : Dev) (n : Nat) : Nat :=
  let depth := d.rdA (Pg.DSP n) Reg.DSP.DEPTH
  match d.rdA (Pg.DSP n) Reg.DSP.CHROMA with
  | 2 => 2 * depth
  | 3 => 3 * depth / 2
  | _ => 3 * depth

/-- Active bit rate of an engine in bit/s, as a fraction: active pixels of every frame of its raster. -/
def Dev.activeRate (d : Dev) (n : Nat) : Nat × Nat :=
  let pg := Pg.DSP n
  (d.rdA pg Reg.DSP.H_ACTIVE * d.rdA pg Reg.DSP.V_ACTIVE * d.pixelBits n * (d.rdA pg Reg.DSP.PCLK_KHZ * 1000),
    max 1 (d.rdA pg Reg.DSP.H_TOTAL * d.rdA pg Reg.DSP.V_TOTAL))

/-- Enabled engines on a DisplayPort port whose streams are sent, but for engine `n`. -/
def Dev.dpOthers (d : Dev) (p n : Nat) : List Nat :=
  (List.range 16).filter fun k => k ≠ n && d.on (Pg.DSP k) Reg.HDR.EN && (d.route k).1 = 2 && (d.route k).2 / 4 = p && !(d.dsp k).blanked

/-- Does a stream fit the trained link of its port (R293)? -/
def Dev.dpFits (d : Dev) (n : Nat) : Bool :=
  let i := (d.route n).2
  let pg := Pg.DPX (i / 4)
  i < 8 && (d.on pg Reg.DPX.MST || i % 4 = 0) && d.on pg Reg.DPX.TRAINED &&
  (let sum := fracSum ((n :: d.dpOthers (i / 4) n).map d.activeRate)
   let link := dpLane (d.rd pg Reg.DPX.RATE_TRAINED)
   sum.1 * link.2 ≤ link.1 * 1000 * dpLanes (d.rd pg Reg.DPX.LANES_TRAINED) * sum.2)

/-- The target's page, and whether the route's link carries the raster (R280). -/
def Dev.routeOk (d : Dev) (n : Nat) : Bool :=
  let (k, i) := d.route n
  let mine := fun pg => d.pageOwner pg = d.pageOwner (Pg.DSP n)
  match k with
  | 0 => true
  | 1 => mine (Pg.SDI i)
  | 2 => mine (Pg.DPX (i / 4)) && d.dpFits n
  | 3 => i ≤ 1 && d.feedFits (2 * n + i)
  | _ => false

/-- May PAGE_CTRL.EN of an engine become 1 (R280)? -/
def Dev.dspMayEnable (d : Dev) (n : Nat) : Bool :=
  let r := d.route n
  d.routeOk n && !((List.range 16).any fun k => k ≠ n && d.on (Pg.DSP k) Reg.HDR.EN && r.1 ≠ 0 && r.1 ≠ 3 && d.route k = r)

/-- Frames per second of a RATE (R292), as a fraction. -/
def sdiRate (n : Nat) : Nat × Nat :=
  [(24000, 1001), (24, 1), (25, 1), (30000, 1001), (30, 1), (50, 1), (60000, 1001), (60, 1)].getD n (60, 1)

/-- The active raster of each FORMAT (R292). -/
def sdiRasters : List (Nat × Nat) := [(1920, 1080), (1920, 1080), (3840, 2160), (3840, 2160), (4096, 2160), (4096, 2160)]

/-- The active raster of a FORMAT at one of its RATEs (R292). -/
def sdiRaster (format rate : Nat) : Option (Nat × Nat) :=
  if format % 2 = 0 ∧ 5 ≤ rate ∨ format % 2 = 1 ∧ rate < 5 then none else sdiRasters[format]?

/-- Is the SDI port's raster what its engine sends (R292)? -/
def Dev.sdiSuits (d : Dev) (n : Nat) : Bool :=
  let pg := Pg.DSP n
  let s := Pg.SDI (d.route n).2
  d.rdA pg Reg.DSP.CHROMA = 2 && d.rdA pg Reg.DSP.DEPTH = 10 &&
  sdiRaster (d.rdA s Reg.SDI.FORMAT) (d.rdA s Reg.SDI.RATE) = some (d.rdA pg Reg.DSP.H_ACTIVE, d.rdA pg Reg.DSP.V_ACTIVE)

/-- Is the engine's timing source refused (R289)? -/
def Dev.timingBad (d : Dev) (n : Nat) : Bool :=
  let pg := Pg.DSP n
  let t := d.rdA pg Reg.DSP.TIMING_SRC
  let (k, i) := d.route n
  let c := d.rdA pg Reg.DSP.CADENCE
  let (fn, fd) := sdiRate (d.rdA (Pg.SDI i) Reg.SDI.RATE)
  (k = 1 && t = 1 && d.rd Pg.TMB Reg.TMB.C_PERIOD_NUM c * fn ≠ d.rd Pg.TMB Reg.TMB.C_PERIOD_DEN c * fd) ||
  (k = 1 && t = 2) || (k = 2 && t = 2 && !d.on (Pg.DPX (i / 4)) Reg.DPX.ASYNC_CAP)

/-- The timing source in force: a refused one leaves the engine in free run. -/
def Dev.timing (d : Dev) (n : Nat) : Nat := if d.timingBad n then 0 else d.rdA (Pg.DSP n) Reg.DSP.TIMING_SRC

/-- Check timing and SDI raster as the engine's registers stand (R289, R292). -/
def Dev.dspCheck (d : Dev) (n : Nat) : Dev :=
  let d := if d.timingBad n then d.error (Pg.DSP n) 1 else d
  if (d.route n).1 = 1 ∧ !d.sdiSuits n then d.error (Pg.DSP n) 1 else d

/-- EN of an engine becomes 1 (R280). -/
def Dev.dspOpen (d : Dev) (n : Nat) : Dev :=
  (d.updDsp n fun x => { x with blanked := false, locked := false, te := none, start := none, applied := false }).dspCheck n

/-- Streams of a port that stayed disabled are admitted once they fit its trained link (R293). -/
def Dev.dpReadmit (d : Dev) (p : Nat) : Dev :=
  ((List.range 16).filter fun n => d.on (Pg.DSP n) Reg.HDR.EN && (d.route n).1 = 2 && (d.route n).2 / 4 = p && (d.dsp n).blanked).foldl
    (fun d n => if d.dpFits n then d.updDsp n fun x => { x with blanked := false } else d) d

/-- The lines of a feed that wait are not sent. -/
def Dev.feedStop (d : Dev) (f : Nat) : Dev :=
  match Assoc.find d.pip.feeds f with
  | some x => { d with pip := { d.pip with feeds := Assoc.put d.pip.feeds f { x with rows := [] } } }
  | none => d

/-- EN becomes 0: nothing is fetched or sent, on its feeds neither (R280); what it leaves of a DisplayPort link may let another
stream in (R293). -/
def Dev.dspShut (d : Dev) (n : Nat) : Dev :=
  let d := d.updDsp n fun x => { x with locked := false, te := none, start := none, applied := false, next := none, shown := none }
  let d := ([2 * n, 2 * n + 1].filter fun f => d.feed f Reg.DSP.F_SRC = 1).foldl Dev.feedStop d
  if (d.route n).1 = 2 then d.dpReadmit ((d.route n).2 / 4) else d

/-! ### Commit window (R291, R296) -/

/-- A write of COMMIT. -/
def Dev.dspCommit (d : Dev) (f n v : Nat) : Dev :=
  d.checkedWrite f (Pg.DSP n) 0x140 fun d =>
    (d.updDsp n fun x => { x with commits := x.commits ++ [(v % 65536, x.applied)] }).wr (Pg.DSP n) Reg.DSP.PENDING 1

/-- Promote the RWQ fields of a page but those at the offsets that `skip` names (R42, R291). -/
def Dev.promote (d : Dev) (pg : Page) (skip : Nat → Bool) : Dev :=
  let sel := fun (k : Nat) => keyPage k = pg && !skip (keyOff k) && (match keyField k with
    | some (F, _, _) => F.acc = .rwq
    | none => false)
  let rest := d.act.filter fun e => !sel e.1
  let act := (d.regs.filter fun e => sel e.1).foldl (fun (a : List (Nat × Nat)) e => Assoc.put a e.1 e.2) rest
  { d with act := act }

/-- The offsets of a feed's entry in its page. -/
def feedOffs (f o : Nat) : Bool := 0xE00 + 0x20 * (f % 2) ≤ o && o < 0xE20 + 0x20 * (f % 2)

/-- With the shadow copies of engine `n`'s feeds in force, but for those that `skip` names: is a feed that they enable or
enlarge, fed by the engine, beyond the limit of R112? -/
def Dev.feedsOver (d : Dev) (n : Nat) (skip : List Nat) : Bool :=
  let fs := [2 * n, 2 * n + 1].filter fun f => f ∉ skip
  let d' := d.promote (Pg.DSP n) fun o => !fs.any fun f => feedOffs f o
  fs.any fun f =>
    let was := if d.feed f Reg.DSP.F_EN = 1 then d.feedRate f else (0, 1)
    let is_ := d'.feedRate f
    d'.feed f Reg.DSP.F_EN = 1 && d'.feed f Reg.DSP.F_SRC = 1 && was.1 * is_.2 < is_.1 * was.2 && !d'.feedFits f

/-- The feed entries of an engine that a COMMIT leaves as they are (R112): none, the higher, the lower or both, the first of
these with which no change goes beyond the limit (DESIGN CHOICE: which of two changes gives way, log 101). -/
def Dev.feedsRefused (d : Dev) (n : Nat) : List Nat :=
  ([[], [2 * n + 1], [2 * n]].find? fun l => !d.feedsOver n l).getD [2 * n, 2 * n + 1]

/-- Registers of a feed entry, as they are in force. -/
def Dev.feedEntry (d : Dev) (f : Nat) : List Nat :=
  [Reg.DSP.F_EN, Reg.DSP.F_SRC, Reg.DSP.F_FORMAT, Reg.DSP.F_HEAD, Reg.DSP.F_COLOUR, Reg.DSP.F_WIDTH, Reg.DSP.F_HEIGHT, Reg.DSP.F_FPS_NUM,
   Reg.DSP.F_FPS_DEN].map (d.feed f)

/-- The size and format that a layer's buffers were allocated for. -/
def Dev.layerShape (d : Dev) (l : Nat) : List Nat :=
  [Reg.DSP.L_FMT, Reg.DSP.L_CONT16, Reg.DSP.L_CHROMA, Reg.DSP.L_DEPTH, Reg.DSP.L_W, Reg.DSP.L_H].map (d.lay l)

def Dev.setLayer (d : Dev) (l : Nat) (x : Layer) : Dev :=
  { d with pip := { d.pip with layers := if x = {} then Assoc.del d.pip.layers l else Assoc.put d.pip.layers l x } }

/-- A commit sets a layer's SRC, size or format: its buffer set is allocated, replaced or freed (R282). -/
def Dev.layerCommit (d : Dev) (l : Nat) (same : Bool) : Dev :=
  let x := (Assoc.find d.pip.layers l).getD {}
  if d.lay l Reg.DSP.L_SRC ≠ 1 then d.setLayer l {}
  else if x.alloc ∧ same then d
  else
    let d := d.setLayer l {}
    if d.poolSize < d.poolHeld d.layersHeld + d.layerBytes l then
      (d.error (layerAt l).1 2).event (d.pageOwner (layerAt l).1) (layerAt l).1 WARN 0x0703 [BitVec.ofNat 8 l]
    else d.setLayer l { alloc := true }

/-- Apply the commits of an engine (R291). -/
def Dev.dspApply (d : Dev) (n : Nat) : Dev :=
  let x := d.dsp n
  let pg := Pg.DSP n
  match x.commits.getLast? with
  | none => d
  | some (seq, late) =>
    let feeds := [2 * n, 2 * n + 1]
    let refused := d.feedsRefused n
    let before := feeds.map fun f => (f, d.feedEntry f)
    let shape := d.layerShape (4 * n)
    let clock := [Reg.DSP.TIMING_SRC, Reg.DSP.CADENCE].map fun F => d.rdA pg F
    let d := d.promote pg fun o => refused.any fun f => feedOffs f o
    let d := if clock = [Reg.DSP.TIMING_SRC, Reg.DSP.CADENCE].map (fun F => d.rdA pg F) then d else d.updDsp n fun x => { x with locked := false }
    let d := if refused ≠ [] then d.error pg 3 else d
    let (k, i) := d.route n
    let d := if k = 1 then d.promote (Pg.SDI i) fun _ => false
      else if k = 2 then d.promote (Pg.DPX (i / 4)) fun o => !(0x140 + 0x20 * (i % 4) ≤ o && o < 0x160 + 0x20 * (i % 4))
      else d
    let d := d.layerCommit (4 * n) (shape = d.layerShape (4 * n))
    let d := (before.filter fun e => e.2 ≠ d.feedEntry e.1).foldl (fun d e => d.sendFeedConfig e.1) d
    let d := ((d.wr pg Reg.DSP.APPLIED_SEQ seq).wr pg Reg.DSP.PENDING 0).wr pg Reg.DSP.LAST_LATE (b2n late)
    let d := if x.commits.any (·.2) then d.raise pg 0 else d
    d.updDsp n fun x => { x with commits := [] }

/-- The buffer of a layer that a streamed rendition writes row by row: the pass runs, and the sink takes its rows as they are
produced (R211, R283). -/
def Dev.growingFor (d : Dev) (l : Nat) : Option LayerBuf :=
  (d.pip.jobs.find? fun j => j.started && j.first && j.bind.stream &&
      j.bind.sinks.any fun s => s.kind = LAYER && s.mode ≠ 0 && s.object = l).bind fun j =>
    let (_, _, w, h) := d.jobSizes j
    if w = d.lay l Reg.DSP.L_W ∧ h = d.lay l Reg.DSP.L_H then
      (d.frame? j.frame).map fun f => { cid := f.hdr.cid, w := w, h := h, planes := [], growing := true }
    else none

/-- Latch a streamed buffer or the newest complete one of an engine's SINK layer (R282, R283). Whether row 0 of a buffer that
is still written has been written by now is left open (log 59). -/
def Dev.latchLayer (d : Dev) (l : Nat) : Dev :=
  let x := (Assoc.find d.pip.layers l).getD {}
  let (pg, i) := layerAt l
  let drop := fun (d : Dev) (n : Nat) => if 0 < n then (d.bump pg Reg.DSP.L_DROP_CNT i n).raise pg 3 else d
  let fresh := (d.growingFor l).filter fun b => x.latched.map (·.cid) ≠ some b.cid
  if !x.alloc then d
  else
    let row0 : Bool := fresh.isSome && d.freeNow 1 = 1
    let d := if fresh.isSome then d.freeStep else d
    match (if row0 then fresh else none), x.complete.getLast? with
    | some b, _ =>
      let old := if x.latched.any (·.growing) then x.prev else x.latched
      ((drop d x.complete.length).setLayer l { x with complete := [], latched := some b, prev := old }).wr pg Reg.DSP.L_LATCHED_CID b.cid i
    | none, some b =>
      ((drop d (x.complete.length - 1)).setLayer l { x with complete := [], latched := some b, prev := none }).wr pg Reg.DSP.L_LATCHED_CID b.cid i
    | none, none => if x.latched.isSome then (d.bump pg Reg.DSP.L_REPEAT_CNT i).raise pg 3 else d

/-- The planes of a latched buffer as (pitch, bytes) (R203). -/
def LayerBuf.split (b : LayerBuf) (fmt chroma : Nat) : List (Nat × List Byte) :=
  let up := fun n => ceilDiv n 4096 * 4096
  let first := up (b.pitch * b.h)
  match fmt with
  | 2 => [(b.pitch, b.planes), (b.pitch, b.planes.drop first)]
  | 3 => [(b.pitch, b.planes), (b.pitch, b.planes.drop first), (b.pitch, b.planes.drop (2 * first))]
  | _ => let _ := chroma; [(b.pitch, b.planes)]

/-- The stream of an engine is judged against the trained link of its port (R293). -/
def Dev.dpAdmit (d : Dev) (n : Nat) : Dev :=
  if d.dpFits n then d.updDsp n fun x => { x with blanked := false }
  else (d.updDsp n fun x => { x with blanked := true }).error (Pg.DSP n) 0

/-- A commit may have changed the active bit rate of a DisplayPort stream: it is judged again, and so are the streams of its
port that stayed disabled (R293). -/
def Dev.dpRejudge (d : Dev) (n : Nat) : Dev :=
  if (d.route n).1 ≠ 2 then d
  else if !d.dpFits n ∧ !(d.dsp n).blanked then d.dpAdmit n
  else d.dpReadmit ((d.route n).2 / 4)

/-- Lines `a` to before `b` of the HOST layers of a frame are read at the addresses latched: the line buffer (R283, R286). A
layer that is covered throughout is not fetched, nor is a tile in which it is covered (R287); one of which what is fetched
cannot be read stays transparent (DESIGN CHOICE, log 117). -/
def Dev.fetchLines (d : Dev) (n a b : Nat) (s : Shot) : Shot :=
  let owner := d.pageOwner (Pg.DSP n)
  (List.range 3).foldl (fun s l =>
    if s.rd Reg.DSP.L_EN l = 0 ∨ s.rd Reg.DSP.L_SRC l ≠ 2 ∨ !s.fetched l ∨ (0 < a ∧ !Assoc.has s.imgs l) then s
    else
      let at_ := fun p => s.rd Reg.DSP.L_ADDR_LO l p + 2 ^ 32 * s.rd Reg.DSP.L_ADDR_HI l p
      let spans := s.spans l a b
      if spans.all fun e => d.hostOk owner (at_ e.1 + e.2.1) e.2.2 then
        let old := (Assoc.find s.imgs l).getD (List.replicate (planeCount (s.rd Reg.DSP.L_FMT l)) (s.rd Reg.DSP.L_PITCH l, []))
        let new := spans.foldl (fun ps e =>
          ps.modify e.1 fun q => (q.1, spliceAt q.2 e.2.1 (d.hostRead owner (at_ e.1 + e.2.1) e.2.2))) old
        { s with imgs := Assoc.put s.imgs l new }
      else { s with imgs := Assoc.del s.imgs l }) s

/-- The planes of a buffer of engine `n`'s video layer. -/
def Dev.layerSplit (d : Dev) (n : Nat) (b : LayerBuf) : List (Nat × List Byte) := b.split (d.lay (4 * n) Reg.DSP.L_FMT) 0

/-- The pass that streamed into the layer of the frame shown has ended: its rows are known (R283). -/
def Dev.settleStream (d : Dev) (n : Nat) : Dev :=
  match (d.dsp n).shown.bind (fun s => s.stream.map fun st => (s, st)), (Assoc.find d.pip.layers (4 * n)).bind (·.latched) with
  | some (s, st), some b =>
    if b.cid = st.cid ∧ !b.growing then d.updDsp n fun x => { x with shown := some (s.streamed (d.layerSplit n) b st) } else d
  | _, _ => d

/-- Row pitch of a buffer of the video layer's set (R203). -/
def Shot.pitch (s : Shot) : Nat :=
  let c := if s.rd Reg.DSP.L_CONT16 = 1 then 2 else 1
  ceilDiv ((planeUnit (s.rd Reg.DSP.L_FMT) c 0).1 * s.rd Reg.DSP.L_W) 256 * 256

/-- A frame of which layer 0 is still streamed: the samples of its rows written so far are left open (log 59). -/
def Dev.openStream (d : Dev) (n : Nat) (s : Shot) : Shot :=
  match s.stream with
  | none => s
  | some st =>
    let size := d.layerBytes (4 * n) / 3
    let b : LayerBuf := { cid := st.cid, w := s.rd Reg.DSP.L_W, h := s.rd Reg.DSP.L_H, pitch := s.pitch,
                          planes := (List.range size).map fun i => (Config.freeValue (d.free + i)).setWidth 8 }
    s.streamed (d.layerSplit n) b st

/-- APPLY_POINT: pending commits are promoted, buffers latched for the next frame, and the first 8 lines of every fetched layer
read (R282, R286, R291). -/
def Dev.applyPoint (d : Dev) (n : Nat) : Dev :=
  let pg := Pg.DSP n
  if !d.works pg then d
  else
    let d := ((((d.settleStream n).dspApply n).dspCheck n).dpRejudge n).latchLayer (4 * n)
    let regs := d.act.filter fun e => keyPage e.1 = pg
    let x := (Assoc.find d.pip.layers (4 * n)).getD {}
    let img := match x.latched with
      | some b => if b.growing then [] else [(0, d.layerSplit n b)]
      | none => []
    let stream := (x.latched.filter (·.growing)).map fun b => ({ cid := b.cid, prev := x.prev } : Streamed)
    let s : Shot := { page := pg, regs := regs, imgs := img, black := decide ((d.route n).1 = 1) && !d.sdiSuits n, stream := stream }
    d.updDsp n fun x => { x with applied := true, next := some (d.fetchLines n 0 8 s) }

/-! ### Frames (R283, R288 to R290) -/

/-- A line of a layer was not in time: it is transparent from column `x` on; a line of the raster counts once (R288). -/
def Dev.underrun (d : Dev) (n : Nat) (lines : List (Nat × Nat × Nat)) : Dev :=
  let x := d.dsp n
  let pg := Pg.DSP n
  match x.shown with
  | none => d
  | some s =>
    if lines = [] then d
    else
      let warn := d.due x.underrunWarned
      let d := d.setDsp n { x with shown := some { s with under := s.under ++ lines },
                                   underrunWarned := if warn then some d.elapsed else x.underrunWarned }
      let raster := fun (u : Nat × Nat × Nat) => u.2.1 + s.rd Reg.DSP.L_Y u.1
      let fresh := ((lines.map raster).eraseDups).filter fun y => !s.under.any fun u => raster u = y
      let d := d.bump pg Reg.DSP.UNDERRUN_CNT 0 fresh.length
      (if warn then d.event (d.pageOwner pg) pg WARN 0x0704 [BitVec.ofNat 8 n] else d).raise pg 1

/-- What an engine-fed feed's frame must be (R295). -/
def Dev.feedSuits (d : Dev) (f : Nat) (s : Shot) : Bool :=
  let (_, chroma, depth) := feedFormat (d.feed f Reg.DSP.F_FORMAT)
  s.rd Reg.DSP.H_ACTIVE = d.feed f Reg.DSP.F_WIDTH && s.rd Reg.DSP.V_ACTIVE = d.feed f Reg.DSP.F_HEIGHT && s.rd Reg.DSP.CHROMA = chroma &&
  s.rd Reg.DSP.DEPTH = depth

/-- Lines of a feed made from an engine's frame. -/
def Dev.shotLines (d : Dev) (f : Nat) (s : Shot) : List (List Nat) :=
  let o : Render.Output := { w := s.rd Reg.DSP.H_ACTIVE, h := s.rd Reg.DSP.V_ACTIVE, codes := s.planes }
  (List.range o.h).map (feedLine (d.feed f Reg.DSP.F_FORMAT) o)

/-- The black raster of an SDI port's FORMAT: narrow-range 4:2:2 10-bit (R280, R292; the codes of black are PRESUMED,
log 118). -/
def Dev.sdiBlackPlanes (d : Dev) (i : Nat) : List (List (List Nat)) :=
  match sdiRasters[d.rdA (Pg.SDI i) Reg.SDI.FORMAT]? with
  | none => []
  | some (w, h) =>
    let plane := fun (n v : Nat) => List.replicate h (List.replicate n v)
    [plane w 64, plane (w / 2) 512, plane (w / 2) 512]

/-- A frame without layers or markers on a black background. -/
def Shot.blank (s : Shot) : Shot :=
  { s with imgs := [], regs := [Reg.DSP.BG, Reg.DSP.L3_EN].foldl (fun m F => Assoc.put m (regKey s.page F 0 0) 0) s.regs }

/-- What goes with a frame: ST 352 on SDI (R292); pixel encoding, colorimetry and HDR metadata on DisplayPort (R293). -/
def Dev.sideData (d : Dev) (k i : Nat) (s : Shot) : List Nat :=
  if k = 1 then [d.rdA (Pg.SDI i) Reg.SDI.PID_EN]
  else
    let pg := Pg.DPX (i / 4)
    [s.rd Reg.DSP.CHROMA, s.rd Reg.DSP.DEPTH, s.rd Reg.DSP.RANGE, s.rd Reg.DSP.KR, s.rd Reg.DSP.KB] ++
      (if d.rdA pg Reg.DPX.HDR_EN (i % 4) = 1 then (List.range Reg.DPX.HDR_SMD.cnt2).map fun j => d.rdA pg Reg.DPX.HDR_SMD (i % 4) j else [])

/-- Lines of a streamed layer that are not written when their fetch is due, in the frame that starts: which they are is left
open (log 59); a frame with such a line counts once (R283). -/
def Dev.streamLate (d : Dev) (n : Nat) : Dev :=
  let d := d.settleStream n
  match (d.dsp n).shown.bind (fun s => s.stream.map fun st => (s, st)) with
  | none => d
  | some (s, st) =>
    let h := s.rd Reg.DSP.L_H
    let late := (List.range h).filter fun y => (Config.freeValue (d.free + y)).toNat % 2 = 1
    let d := d.updDsp n fun x => { x with shown := some { s with stream := some { st with late := late } } }
    let d := if late = [] then d else d.bump (Pg.DSP n) Reg.DSP.L_STREAM_LATE_CNT
    { d with free := d.free + h }

/-- The frame that ends is sent on its SDI or DisplayPort route; black where the port sends black, as at shed level 3 (R280,
R292, R293, R392). -/
def Dev.sendShot (d : Dev) (n : Nat) : Dev :=
  let (k, i) := d.route n
  let shed : Bool := 3 ≤ d.shed
  let d := d.settleStream n
  match (d.dsp n).shown.map (d.openStream n) with
  | none => d
  | some s =>
    if d.held (if k = 1 then Pg.SDI i else Pg.DPX (i / 4)) = true then d
    else if k = 1 then d.emit (.video n k i (if shed || s.black then d.sdiBlackPlanes i else s.planes) (d.sideData k i s))
    else if k = 2 ∧ !(d.dsp n).blanked then d.emit (.video n k i (if shed then s.blank.planes else s.planes) (d.sideData k i s))
    else d

/-- A frame of an SDI port whose engine is disabled: a black raster of its FORMAT (R280). -/
def Dev.sdiIdle (d : Dev) (n : Nat) : Dev :=
  let (k, i) := d.route n
  if k = 1 ∧ d.works (Pg.SDI i) ∧ !(List.range 16).any (fun m => d.route m = (k, i) && d.on (Pg.DSP m) Reg.HDR.EN) then
    (d.emit (.video n k i (d.sdiBlackPlanes i) [d.rdA (Pg.SDI i) Reg.SDI.PID_EN])).bump (Pg.SDI i) Reg.SDI.FRAMES
  else d

/-- Active video of a frame starts, after the prefill that follows its apply point; without one there is no frame yet (R286). The
frame before it ends, and the rest of its own HOST lines is fetched. -/
def Dev.dspBegin (d : Dev) (n : Nat) : Dev :=
  let pg := Pg.DSP n
  match (d.dsp n).next with
  | none => d
  | some s =>
    let d := d.sendShot n
    let d := match (d.dsp n).shown with
      | some s => d.wr pg Reg.DSP.FETCH_SKIP (min 65535 s.skipped)
      | none => d
    let s := d.fetchLines n 8 65536 s
    let d := d.updDsp n fun x => { x with applied := false, te := none, start := some d.now, next := none, shown := some s }
    let d := (d.bump pg Reg.DSP.FRAME_CNT).streamLate n
    let (k, i) := d.route n
    if k = 1 then d.bump (Pg.SDI i) Reg.SDI.FRAMES
    else if k = 3 ∧ d.feed (2 * n + i) Reg.DSP.F_SRC = 1 then
      let f := 2 * n + i
      match (d.dsp n).shown.map (d.openStream n) with
      | none => d
      | some s => if d.feedSuits f s then d.feedFrame f (d.shotLines f s) else d.bump pg Reg.DSP.F_FEED_DROP_CNT i
    else d

/-- The whole periods of cadence `c` in LOCK_OFFSET: a frame with a negative offset belongs to an instant after the one last
taken, one with an offset beyond a period to an instant before it (R289). -/
def Dev.wholePeriods (d : Dev) (n c : Nat) : Int :=
  let (num, den) := d.cadPeriod c
  let off : Int := sgn 32 (d.rdA (Pg.DSP n) Reg.DSP.LOCK_OFFSET) * 2 ^ 32
  let k : Int := if num = 0 then 0 else (off * den) / num
  (k * num) / max 1 den

/-- DSP_FRAME_START: by free run, as before a cadence is locked to; at a cadence instant plus LOCK_OFFSET; or at a TE instant
plus TE_DELAY (R289, R290). While EN = 0 an SDI route gets a black frame (R280). -/
def Dev.dspStart (d : Dev) (n : Nat) : Dev :=
  let x := d.dsp n
  if !d.on (Pg.DSP n) Reg.HDR.EN then d.sdiIdle n
  else if !d.works (Pg.DSP n) then d
  else match d.timing n with
    | 0 => d.dspBegin n
    | 1 =>
      let d := d.dspBegin n
      let c := d.rdA (Pg.DSP n) Reg.DSP.CADENCE
      match x.locked, (d.cad c).last with
      | true, some t =>
        let t := t + sgn 32 (d.rdA (Pg.DSP n) Reg.DSP.LOCK_OFFSET) * 2 ^ 32 - d.wholePeriods n c
        d.updDsp n fun x => { x with start := if x.start = some d.now then some t.toNat else x.start }
      | _, _ => d
    | _ => if x.te.isSome then d.dspBegin n else d

/-- The lines of a feed that still wait are made again from the frame shown. -/
def Dev.feedRemake (d : Dev) (n : Nat) : Dev :=
  let (k, i) := d.route n
  let f := 2 * n + i
  match (d.dsp n).shown.map (d.openStream n), Assoc.find d.pip.feeds f with
  | some s, some x =>
    if k = 3 ∧ d.feed f Reg.DSP.F_SRC = 1 ∧ d.feedSuits f s then
      let lines := d.shotLines f s
      let g : Nat × Nat × List Nat → Nat × Nat × List Nat := fun e => if e.1 + 1 = x.frame then (e.1, e.2.1, lines.getD e.2.1 e.2.2) else e
      { d with pip := { d.pip with feeds := Assoc.put d.pip.feeds f { x with rows := x.rows.map g } } }
    else d
  | _, _ => d

/-- DSP_UNDERRUN of line `y` of layer `l` from column `c` on; a feed's line that still waits is made again (R288). -/
def Dev.dspUnderrun (d : Dev) (n l y c : Nat) : Dev :=
  if (d.dsp n).shown.isNone then d else (d.underrun n [(l, y, c)]).feedRemake n

/-- A cadence instant is taken: engines that follow the cadence and are not locked restart their raster at it (R289). -/
def Dev.dspLock (d : Dev) (c : Nat) : Dev :=
  ((List.range 16).filter fun n => d.works (Pg.DSP n) && d.timing n = 1 && d.rdA (Pg.DSP n) Reg.DSP.CADENCE = c && !(d.dsp n).locked).foldl
    (fun d n => (d.updDsp n fun x => { x with locked := true }).bump (Pg.DSP n) Reg.DSP.RELOCK_CNT) d

/-- CADENCE_INSTANT (R361) with the engines that lock to it. -/
def Dev.cadInstant (d : Dev) (c : Nat) : Dev :=
  let before := (d.cad c).nextK
  let last := (d.cad c).last
  let d := d.cadNext c
  if (d.cad c).nextK = before ∨ (d.cad c).last = last then d else d.dspLock c

/-- End of the active video of the frame shown, under the raster that governs it. -/
def Dev.activeEnd (d : Dev) (n start : Nat) : Nat :=
  match (d.dsp n).shown with
  | none => start
  | some s => start + s.rd Reg.DSP.V_ACTIVE * s.rd Reg.DSP.H_TOTAL * 10 ^ 6 * 2 ^ 32 / max 1 (s.rd Reg.DSP.PCLK_KHZ)

/-- A TE instant `t` reaches an engine; `relayed`: by TE_EVENT (R290). -/
def Dev.dspTe (d : Dev) (n t : Nat) (relayed : Bool) : Dev :=
  let pg := Pg.DSP n
  let x := d.dsp n
  let active : Bool := match x.start with
    | some s => decide (d.now < d.activeEnd n s)
    | none => false
  if !d.works pg ∨ d.timing n ≠ 2 then d
  else if active then (d.bump pg Reg.DSP.TE_EARLY_CNT).raise pg 2
  else
    let go := t + d.rdA pg Reg.DSP.TE_DELAY * 2 ^ 32
    if go < d.now ∧ relayed then
      (((d.bump pg Reg.DSP.TE_LATE_CNT).raise pg 2).updDsp n fun x => { x with te := some t }).dspBegin n
    else d.setDsp n { x with te := some t }

/-- TE_INPUT: an edge on TE_IN0 or TE_IN1 (R290). -/
def Dev.teInput (d : Dev) (i : Nat) : Dev :=
  ((List.range 16).filter fun n => d.rdA (Pg.DSP n) Reg.DSP.TE_SEL = i).foldl (fun d n => d.dspTe n d.now false) d

/-- TE_EVENT: a head relays an instant (R290, R107). -/
def Dev.teEvent (d : Dev) (g : Nat) : Dev :=
  d.onCtrl g 0x46 fun d p =>
    match Assoc.find (d.group g).vcs (pVc p.header) with
    | none => d
    | some b =>
      let w := fun i => p.words.getD i 0
      let t := w 0 % 2 ^ 64 * 2 ^ 32 + bits (w 1) 0 32
      ((List.range 16).filter fun n => d.rdA (Pg.DSP n) Reg.DSP.TE_SEL = 2 && d.rdA (Pg.DSP n) Reg.DSP.TE_HEAD = b.head &&
        d.rdA (Pg.DSP n) Reg.DSP.TE_HSRC = bits (w 1) 32 2).foldl (fun d n => d.dspTe n t true) d

/-- TE_TIMEOUT: no instant came within TE_TIMEOUT lines: the frame starts (R290). -/
def Dev.teTimeout (d : Dev) (n : Nat) : Dev :=
  let pg := Pg.DSP n
  if !d.works pg ∨ d.timing n ≠ 2 ∨ (d.dsp n).te.isSome ∨ (d.dsp n).next.isNone then d
  else ((d.bump pg Reg.DSP.TE_MISS_CNT).raise pg 2).dspBegin n

/-! ### DisplayPort (R293) -/

/-- Streams of a port are judged against its trained link again. -/
def Dev.dpJudge (d : Dev) (p : Nat) : Dev :=
  ((List.range 16).filter fun n => d.on (Pg.DSP n) Reg.HDR.EN && (d.route n).1 = 2 && (d.route n).2 / 4 = p).foldl Dev.dpAdmit d

/-- HOT_PLUG: a sink comes with its highest rate and lane count, or goes; the port trains; `fails`: training failed. -/
def Dev.hotPlug (d : Dev) (p : Nat) (present : Bool) (rate lanes : Nat) (async fails : Bool) : Dev :=
  let pg := Pg.DPX p
  let ok := present && !fails
  let d := ((d.wr pg Reg.DPX.HPD (b2n present)).bump pg Reg.DPX.HPD_CNT).raise pg 0
  let d := (d.wr pg Reg.DPX.TRAINED (b2n ok)).wr pg Reg.DPX.ASYNC_CAP (b2n (present && async))
  let d := d.wr pg Reg.DPX.RATE_TRAINED (if ok then max (d.rd pg Reg.DPX.LINK_RATE) rate else 0)
  let d := d.wr pg Reg.DPX.LANES_TRAINED (if ok then min (d.rd pg Reg.DPX.LANES) lanes else 0)
  let d := if present && fails then (d.bump pg Reg.DPX.TRAIN_FAIL_CNT).raise pg 1 else d
  d.dpJudge p

/-- The AUX transaction that AUX_CMD asks for starts. -/
def Dev.auxStart (d : Dev) (p : Nat) : Dev :=
  let get := fun F => d.rd (Pg.DPX p) F
  let n := get Reg.DPX.AUX_LEN + 1
  let read : Bool := get Reg.DPX.AUX_READ = 1
  let bytes := if read then [] else ((List.range 4).flatMap fun i => leBytes 4 (d.rd (Pg.DPX p) Reg.DPX.AUX_DATA i)).take n
  let d := d.emit (.aux p read (get Reg.DPX.AUX_ADDR) n bytes)
  { d with pip := { d.pip with auxBusy := d.pip.auxBusy ++ [p], auxHeld := d.pip.auxHeld.filter (· ≠ p) } }

/-- A write of the AUX command register: GO starts a transaction unless one runs; on a page that takes no work it waits (R37). -/
def Dev.auxGo (d : Dev) (f p v : Nat) : Dev :=
  d.checkedWrite f (Pg.DPX p) 0x10C fun d =>
    let d := d.plainWrite f (Pg.DPX p) 0x10C v
    if !bitAt v 31 ∨ p ∈ d.pip.auxBusy ∨ p ∈ d.pip.auxHeld then d
    else
      let d := d.wr (Pg.DPX p) Reg.DPX.AUX_DONE 0
      if d.works (Pg.DPX p) then d.auxStart p else { d with pip := { d.pip with auxHeld := d.pip.auxHeld ++ [p] } }

/-- EN of a DisplayPort page returns to 1: a transaction that waited starts. -/
def Dev.auxResume (d : Dev) (p : Nat) : Dev := if p ∈ d.pip.auxHeld then d.auxStart p else d

/-- AUX_TRANSACTION_END: AUX_DONE, AUX_RESULT and, for a read, the data (R293). -/
def Dev.auxEnd (d : Dev) (p result : Nat) (data : List Byte) : Dev :=
  let pg := Pg.DPX p
  if p ∉ d.pip.auxBusy then d
  else
    let d : Dev := { d with pip := { d.pip with auxBusy := d.pip.auxBusy.filter (· ≠ p) } }
    let d := (d.wr pg Reg.DPX.AUX_DONE 1).wr pg Reg.DPX.AUX_RESULT result
    let n := d.rd pg Reg.DPX.AUX_LEN + 1
    let old := (List.range 4).flatMap fun i => leBytes 4 (d.rd pg Reg.DPX.AUX_DATA i)
    let new := (data.take n) ++ old.drop (min n data.length)
    let d := if result = 0 ∧ d.on pg Reg.DPX.AUX_READ then
        (List.range 4).foldl (fun d i => d.wr pg Reg.DPX.AUX_DATA (ofLe ((new.drop (4 * i)).take 4)) i) d
      else d
    d.raise pg 2

/-! ### Head-return feeds (R112, R294, R295) -/

/-- FEED_LINE_SEND: the next line of a feed goes in one RETVID packet (R112, R295); a feed whose engine is disabled sends nothing
(R280). While its head is not ADMITTED, the feed
not enabled, or its configuration not acknowledged, the line's frame is dropped (R294, R296). -/
def Dev.feedLineSend (d : Dev) (f : Nat) : Dev :=
  let n := f / 2
  let fed : Bool := d.feed f Reg.DSP.F_SRC = 1
  let streams : Bool := (d.dsp n).shown.any fun s => s.stream.isSome
  let d := if fed && !d.on (Pg.DSP n) Reg.HDR.EN then d.feedStop f
    else if fed && streams then (d.settleStream n).feedRemake n else d
  match Assoc.find d.pip.feeds f with
  | none => d
  | some x =>
    match x.rows with
    | [] => d
    | (n, y, ws) :: rest =>
      let h := d.feed f Reg.DSP.F_HEAD
      match (d.head h).vc with
      | none => d.dropRows f fun m => m = n
      | some (g, vc) =>
        if d.admission h ≠ 2 ∨ d.feed f Reg.DSP.F_EN = 0 ∨ Assoc.has d.cap.feedWait f then d.dropRows f fun m => m = n
        else
          let header := 0xA + vc * 2 ^ 4 + ws.length * 2 ^ 8 + f * 2 ^ 21 + y * 2 ^ 26 + x.seq % 65536 * 2 ^ 40 + n % 256 * 2 ^ 56
          let d := ({ d with pip := { d.pip with feeds := Assoc.put d.pip.feeds f { x with rows := rest, seq := (x.seq + 1) % 65536 } } } : Dev)
          d.emit (.retvid g header ws)

end Sys2Proof.Machine
end

