-- ==== Sys2Proof/Machine/Flow.lean ====
section
/-! DEFINITION. Flow: SMPTE ST 2110-20 senders and their ST 2110-40 companions (spec 11 R322 to R326). -/

namespace Sys2Proof.Machine

/-- Pixel groups of a FORMAT: octets, pixels (R322). -/
def pgroup (n : Nat) : Option (Nat × Nat) := [(5, 2), (6, 2), (4, 2), (15, 4), (9, 2), (15, 4), (9, 2)][n]?

/-- `n` bytes of a number, most significant first. -/
def beBytes (n v : Nat) : List Byte := (leBytes n v).reverse

/-- Line rate of a sub-interface in bit/s under the breakout in use; 0 where there is none (R322). -/
def Dev.subifRate (d : Dev) (port subif : Nat) : Nat :=
  match if port = 0 then d.hst.breakout.1 else d.hst.breakout.2 with
  | 0 => if subif = 0 then 400 * 10 ^ 9 else 0
  | 1 => if subif < 2 then 200 * 10 ^ 9 else 0
  | _ => 100 * 10 ^ 9

/-- Octets of a line and packets per line of a flow (R323). -/
def Dev.flowLine (d : Dev) (w : Nat) : Nat × Nat :=
  match pgroup (d.flw w Reg.NETF.FORMAT) with
  | none => (0, 0)
  | some (o, p) =>
    let lb := d.flw w Reg.NETF.WIDTH / p * o
    (lb, ceilDiv lb (d.flw w Reg.NETF.PKT_BYTES))

/-- Rate of a flow as numerator and denominator of bit/s (R326). -/
def Dev.flowRate (d : Dev) (w : Nat) : Nat × Nat :=
  let (lb, p) := d.flowLine w
  (d.flw w Reg.NETF.HEIGHT * (lb + p * 90) * 8 * d.flw w Reg.NETF.FPS_NUM, d.flw w Reg.NETF.FPS_DEN)

/-- Sub-interfaces of a flow's paths: (port, sub-interface) (R325). -/
def Dev.flowPaths (d : Dev) (w : Nat) : List (Nat × Nat) :=
  let a := d.flw w Reg.NETF.PORT_A
  (a, d.flw w Reg.NETF.SUBIF_A) :: (if d.flw w Reg.NETF.DUAL = 1 then [(1 - a, d.flw w Reg.NETF.SUBIF_B)] else [])

/-- Do the enabled flows fit within 90 % of a sub-interface's line rate (R326)? -/
def Dev.subifFits (d : Dev) (port subif : Nat) : Bool :=
  let on := (List.range 48).filter fun w => d.flw w Reg.NETF.EN = 1 && (d.flowPaths w).contains (port, subif)
  let load := fracSum (on.map d.flowRate)
  load.1 * 10 ≤ d.subifRate port subif * 9 * load.2

/-- May a flow be enabled as its fields stand (R326)? -/
def Dev.flowFits (d : Dev) (w : Nat) : Bool :=
  let pkt := d.flw w Reg.NETF.PKT_BYTES
  match pgroup (d.flw w Reg.NETF.FORMAT) with
  | none => false
  | some (o, _) =>
    pkt ≠ 0 && pkt % o = 0 && pkt ≤ 1428 && d.flw w Reg.NETF.FPS_DEN ≠ 0 &&
    (d.flowRate w).1 ≤ d.reserved 8 w * 10 ^ 6 * (d.flowRate w).2 &&
    (d.flowPaths w).all fun p => d.subifFits p.1 p.2

/-- FLOW_ENABLE: a write of a flow's first DW. While EN = 1 only a 0 is taken, which stops the sender at the end of the
current frame; EN = 1 is admitted under R326. -/
def Dev.flowEnable (d : Dev) (f w v : Nat) : Dev :=
  let (pg, i) := flowAt w
  d.checkedWrite f pg (0x400 + 0x40 * i) fun d =>
    if d.flw w Reg.NETF.EN = 1 then
      if bits v 0 1 = 1 then d
      else
        let d := d.wr pg Reg.NETF.EN 0 i
        { d with hst := { d.hst with flows := Assoc.upd d.hst.flows w fun x => { x with next := none } } }
    else
      let d' := [(Reg.NETF.EN, 0, 1), (Reg.NETF.DUAL, 1, 1), (Reg.NETF.ANC, 2, 1), (Reg.NETF.TPW, 3, 1), (Reg.NETF.FORMAT, 4, 4),
        (Reg.NETF.PORT_A, 8, 1), (Reg.NETF.SUBIF_A, 10, 2), (Reg.NETF.SUBIF_B, 12, 2)].foldl
        (fun (d : Dev) (e : Fld × Nat × Nat) => d.wr pg e.1 (bits v e.2.1 e.2.2) i) d
      if bits v 0 1 = 0 then d'
      else if d'.flowFits w then
        d'.wr pg Reg.NETF.RATE_MBPS (rndDiv (d'.flowRate w).1 ((d'.flowRate w).2 * 10 ^ 6)).toNat i
      else d.error pg 0

/-! ### Packets (R323, R324) -/

/-- The 12 B RTP header. -/
def rtpHeader (marker : Bool) (pt seq ts ssrc : Nat) : List Byte :=
  beBytes 1 0x80 ++ beBytes 1 (pt + 128 * b2n marker) ++ beBytes 2 seq ++ beBytes 4 ts ++ beBytes 4 ssrc

/-- Samples of a row in the order of RFC 4175: R, G, B; Cb, Y, Cr; or Cb, Y0, Cr, Y1. -/
def rowSamples (o : Render.Output) (y : Nat) : List Nat :=
  let row := fun p => (o.codes.getD p []).getD y []
  let a := row 0
  let b := row 1
  let c := row 2
  match o.chroma with
  | 0 => (List.range a.length).flatMap fun i => [a.getD i 0, b.getD i 0, c.getD i 0]
  | 1 => (List.range a.length).flatMap fun i => [b.getD i 0, a.getD i 0, c.getD i 0]
  | _ => (List.range (a.length / 2)).flatMap fun i => [b.getD i 0, a.getD (2 * i) 0, c.getD i 0, a.getD (2 * i + 1) 0]

/-- Samples of `w` bits packed most significant bit first. -/
def packBits (w : Nat) (l : List Nat) : List Byte :=
  let v := l.foldl (fun a x => a * 2 ^ w + x % 2 ^ w) 0
  let n := ceilDiv (l.length * w) 8
  beBytes n (v * 2 ^ (8 * n - l.length * w))

/-- Packets of a line: payload offset, octets. -/
def cuts (size : Nat) : Nat → Nat → List Byte → List (Nat × List Byte)
  | 0, _, _ => []
  | n + 1, off, bs => if bs = [] then [] else (off, bs.take size) :: cuts size n (off + size) (bs.drop size)

/-- The video packets of a frame, the first with extended sequence number `seq`. -/
def Dev.videoPackets (d : Dev) (w : Nat) (o : Render.Output) (ts seq : Nat) : List (List Byte) :=
  match pgroup (d.flw w Reg.NETF.FORMAT) with
  | none => []
  | some (oct, px) =>
    let pkt := d.flw w Reg.NETF.PKT_BYTES
    let all := (List.range o.h).flatMap fun y =>
      let bs := (packBits o.depth (rowSamples o y)).take (d.flowLine w).1
      (cuts pkt (bs.length + 1) 0 bs).map fun c => (y, c.1, c.2)
    all.zipIdx.map fun e =>
      let (y, off, bs) := e.1
      let s := seq + e.2
      rtpHeader (e.2 + 1 = all.length) (d.flw w Reg.NETF.PT) s ts (d.flw w Reg.NETF.SSRC) ++ beBytes 2 (s / 65536) ++
        beBytes 2 bs.length ++ beBytes 2 y ++ beBytes 2 (off / oct * px) ++ bs

/-- A 10-bit ANC word: bit 8 is the even parity of bits 0 to 7, bit 9 its inverse. -/
def ancWord (v : Nat) : Nat :=
  let p := (List.range 8).foldl (fun a i => (a + bits v i 1) % 2) 0
  v % 256 + 256 * p + 512 * (1 - p)

/-- One ANC packet under RFC 8331, padded to 32 bits: the checksum word closes its ten-bit words. -/
def ancPacket (udw : List Nat) : List Byte :=
  let ws := [ancWord 0x51, ancWord 0x07, ancWord udw.length] ++ udw.map ancWord
  let sum := (ws.map (· % 512)).foldl (· + ·) 0 % 512
  let ws := ws ++ [sum + 512 * (1 - sum / 256)]
  let b := beBytes 4 ((0x7FF * 2 ^ 12 + 0xFFF) * 2 ^ 8) ++ packBits 10 ws
  b ++ zeros ((4 - b.length % 4) % 4)

/-- The ST 2110-40 packet that carries a Colophon (R324). -/
def Dev.ancRtp (d : Dev) (w : Nat) (col : List Byte) (ts seq : Nat) : List Byte :=
  let body := (List.range 17).flatMap fun i => ancPacket (i :: ((col.drop (248 * i)).take 248).map (·.toNat))
  rtpHeader true (d.flw w Reg.NETF.PT_ANC) seq ts (d.flw w Reg.NETF.SSRC) ++ beBytes 2 (seq / 65536) ++ beBytes 2 body.length ++
    beBytes 1 17 ++ zeros 3 ++ body

/-- Is a sub-interface's link up, and its port in service? -/
def Dev.linkUp (d : Dev) (port subif : Nat) : Bool := !(port ∈ d.hst.portsDown) && bitAt (d.rd (Pg.NET (2 * port)) Reg.NETP.LINK_UP) subif

/-- A dual-path flow goes on with one path: a WARN event, once until both paths are up again (R325). -/
def Dev.pathCheck (d : Dev) (w : Nat) : Dev :=
  let x := (Assoc.find d.hst.flows w).getD {}
  let put := fun (d : Dev) (v : Bool) => { d with hst := { d.hst with flows := Assoc.put d.hst.flows w { x with pathWarned := v } } }
  if d.flw w Reg.NETF.EN = 0 ∨ d.flw w Reg.NETF.DUAL = 0 then d
  else
    let up := (d.flowPaths w).filter fun p => d.linkUp p.1 p.2
    if up.length = 1 ∧ !x.pathWarned then
      let down := ((d.flowPaths w).filter fun p => !d.linkUp p.1 p.2).headD (0, 0)
      let pg := Pg.NET (2 * down.1)
      ((put d true).event (d.ownerOf 8 w) (flowAt w).1 WARN 0x0804 [BitVec.ofNat 8 w]).raise pg 3
    else if up.length = 2 ∧ x.pathWarned = true then put d false
    else d

/-- FLOW_FRAME_START: a frame-period instant of the flow; the released frame that waits is sent (R323 to R325), ancillary data to
the UDP port two above the video's (R324). At shed
level 3 it is given up instead (R392). -/
def Dev.flowStart (d : Dev) (w : Nat) : Dev :=
  let (pg, i) := flowAt w
  let x := (Assoc.find d.hst.flows w).getD {}
  match x.next with
  | none => d
  | some (o, col) =>
    if d.flw w Reg.NETF.EN = 0 ∨ !d.works pg then d
    else
      let put := fun (d : Dev) (x : Flow) => { d with hst := { d.hst with flows := Assoc.put d.hst.flows w x } }
      if 3 ≤ d.shed then (put d { x with next := none }).bump pg Reg.NETF.GIVEUP_CNT i
      else
        let d := d.pathCheck w
        let x := (Assoc.find d.hst.flows w).getD x
        let sec := ofLe ((col.drop 0xA0).take 6)
        let ns := ofLe ((col.drop 0xA6).take 4)
        let ts := (sec * 10 ^ 9 + ns) * 9 / 10 ^ 5 % 2 ^ 32
        let video := d.videoPackets w o ts x.seq
        let anc : Bool := d.flw w Reg.NETF.ANC = 1
        let all := video.map (fun b => (0, b)) ++ (if anc then [(2, d.ancRtp w col ts x.ancSeq)] else [])
        let dst := fun (path : Nat) => d.flw w (if path = 0 then Reg.NETF.DST_A else Reg.NETF.DST_B)
        let udp := fun (path : Nat) => d.flw w (if path = 0 then Reg.NETF.UDP_A else Reg.NETF.UDP_B)
        let d := put d { x with next := none, seq := (x.seq + video.length) % 2 ^ 32,
                                ancSeq := (x.ancSeq + b2n anc) % 2 ^ 32 }
        (d.flowPaths w).zipIdx.foldl (fun (d : Dev) (p : (Nat × Nat) × Nat) =>
          if d.linkUp p.1.1 p.1.2 then
            (all.foldl (fun (d : Dev) b => d.emit (.flow w p.2 (dst p.2) ((udp p.2 + b.1) % 65536) b.2)) d).bump pg Reg.NETF.PKT_CNT i all.length
          else d) d

end Sys2Proof.Machine
end

