-- ==== Sys2Proof/Machine/Recording.lean ====
section
/-! DEFINITION. Recording: FRC jobs and engines, TAKE_OPEN, TAKE_CLOSE and FRAME_READ (spec 08 R217, R228 to R239; spec 01
R20). -/

namespace Sys2Proof.Machine

/-- FRC statuses. -/
def FRC_PARAM : Status := .code 0xA0 false
def FRC_SPACE : Status := .code 0xA1 false
def FRC_XFER : Status := .code 0xA2 false
def FRC_CRC : Status := .code 0xA3 false
def FRC_SYNTAX : Status := .code 0xA4 false
def FRC_CONCEALED : Status := .code 0xA5 true

/-! ### FRC_JOB (R230 to R232) -/

/-- What an FRC_JOB entry asks for. -/
structure FrcJob where
  w : Nat
  h : Nat
  d : Nat
  ph : Nat
  pv : Nat
  ratio : Nat
  pitch : Nat
  cid : Nat
  expand : Bool
  dyn : Bool
  conceal : Bool
  src : Nat
  dst : Nat
  cls : Nat
deriving DecidableEq, Repr

def frcJob (c : Cmd) : FrcJob :=
  let e := c.entry
  { w := sf e 9 0 16 + 1, h := sf e 9 16 16 + 1, d := sf e 8 8 5, ph := 2 ^ sf e 8 16 2, pv := 2 ^ sf e 8 18 2, ratio := sf e 8 4 3,
    pitch := dwAt e 10, cid := dwAt e 11, expand := sf e 8 0 1 = 1, dyn := sf e 8 1 1 = 1, conceal := sf e 8 2 1 = 1,
    src := dwAt e 6, dst := dwAt e 7, cls := c.part * 4 + sf e 1 0 2 }

/-- Fields in the ranges of R217 to R219 and R230. -/
def FrcJob.valid (j : FrcJob) : Bool :=
  8 ≤ j.w && j.w ≤ 32768 && 4 ≤ j.h && j.h ≤ 16384 && 8 ≤ j.d && j.d ≤ 16 && j.pv ≤ 4 && j.ratio ≤ 5 &&
  (Frc.budget j.d j.ratio).isSome && j.pitch % 2 = 0 && 2 * j.w ≤ j.pitch

def FrcJob.inSize (j : FrcJob) : Nat := if j.expand then Frc.planeSize j.w j.h j.d j.ratio else j.h * j.pitch

def FrcJob.outSize (j : FrcJob) : Nat := if j.expand then j.h * j.pitch else Frc.planeSize j.w j.h j.d j.ratio

/-- The checks of an FRC_JOB; it then waits for an engine (R230). Its unit of work is judged under R20. -/
def Dev.frcCheck (d : Dev) (c : Cmd) : Dev :=
  let j := frcJob c
  if !j.valid then d.complete c FRC_PARAM
  else if j.src < j.inSize then d.complete c FRC_PARAM
  else if j.dst < j.outSize then d.complete c FRC_SPACE j.outSize
  else
    let r := d.reserved 4 j.cls
    let held : Bool := r ≠ 0 && (match Assoc.find d.pip.lastClass j.cls with
      | none => true
      | some t => t < c.time && j.w * j.h * 10 ^ 9 * 2 ^ 32 ≤ r * 10 ^ 7 * (c.time - t))
    (({ d with pip := { d.pip with
        reservedJobs := if held then d.pip.reservedJobs ++ [(c.part, c.asn)] else d.pip.reservedJobs,
        lastClass := Assoc.put d.pip.lastClass j.cls c.time } } : Dev)).setCmd { c with phase := .running }

/-- FRC_JOB with DIR 0. -/
def Dev.frcCompress (d : Dev) (c : Cmd) : Dev := if sf c.entry 8 0 1 = 1 then d else d.frcCheck c

/-- FRC_JOB with DIR 1. -/
def Dev.frcExpand (d : Dev) (c : Cmd) : Dev := if sf c.entry 8 0 1 = 0 then d else d.frcCheck c

def Dev.engine? (d : Dev) (n : Nat) : Option FrcWork := Assoc.find d.pip.engines n

def Dev.setEngine (d : Dev) (n : Nat) (w : Option FrcWork) : Dev :=
  { d with pip := { d.pip with engines := match w with
      | some w => Assoc.put d.pip.engines n w
      | none => Assoc.del d.pip.engines n } }

/-- Does an engine work on the job? -/
def Dev.onEngine (d : Dev) (p asn : Nat) : Bool := d.pip.engines.any fun e => e.2 = .job p asn

/-- FRC jobs that wait for an engine. -/
def Dev.frcQueue (d : Dev) : List Cmd :=
  (d.hst.cmds.map (·.2)).filter fun c => opcode c.entry = 0x92 && c.phase = .running && !d.onEngine c.part c.asn

/-- Frames of Takes that wait for an engine. -/
def Dev.takeQueue (d : Dev) : List (Nat × Nat) :=
  d.pip.takes.flatMap fun t => (t.2.frames.filter fun x => x.coding = .waiting).map fun x => (t.1, x.index)

/-- FRC_JOB_START: a free engine starts the next job of a class, its ABORT window closes (R232, R20). -/
def Dev.frcJobStart (d : Dev) (n p asn : Nat) : Dev :=
  let held := fun (c : Cmd) => (c.part, c.asn) ∈ d.pip.reservedJobs
  match d.cmd? p asn with
  | none => d
  | some c =>
    let q := d.frcQueue
    let cls := (frcJob c).cls
    if c ∉ q ∨ (d.engine? n).isSome ∨ !d.works (Pg.FRC n) ∨ 1 ≤ d.shed then d
    else if q.any fun y => (frcJob y).cls = cls && y.asn < c.asn then d
    else if !held c ∧ (d.takeQueue ≠ [] ∨ (q.any fun y => held y && (frcJob y).cls ≠ cls &&
        !q.any fun z => (frcJob z).cls = (frcJob y).cls && z.asn < y.asn) = true) then d
    else
      let d := d.setEngine n (some (.job p asn))
      if p < 64 then d else d.startMove { c with phase := .moving } (frcJob c).inSize

/-- The counts of an encoder's report, with the events of R228. -/
def Dev.frcReport (d : Dev) (n : Nat) (r : Frc.Report) : Dev :=
  let pg := Pg.FRC n
  let d := (d.bump pg Reg.FRC.BLOCK_CNT 0 r.blocks).bump pg Reg.FRC.SAFE_CNT 0 r.safe
  let d := d.bump pg Reg.FRC.VERIFY_CNT 0 r.verify
  if r.verify = 0 then d
  else ((List.range r.verify).foldl (fun d _ => d.event 0 pg WARN 0x0601 [BitVec.ofNat 8 n]) d).raise pg 0

/-- The counts of a decode of a `w` by `h` plane. -/
def Dev.frcDecoded (d : Dev) (n w h : Nat) (failed : List (Nat × Frc.Bad)) : Dev :=
  let pg := Pg.FRC n
  let of := fun b => (failed.filter fun e => e.2 = b).length
  let d := d.bump pg Reg.FRC.BLOCK_CNT 0 (ceilDiv w 32 * ceilDiv h 4)
  let d := (d.bump pg Reg.FRC.CRC_ERR_CNT 0 (of .crc)).bump pg Reg.FRC.SYNTAX_CNT 0 (of .syntax_)
  if failed = [] then d else d.raise pg 1

/-- DONE_CNT of a class: an even and an odd class share a DW (R253). -/
def Dev.frcDone (d : Dev) (cls : Nat) : Dev :=
  if cls % 2 = 0 then d.bump Pg.FRQ Reg.FRQ.DONE_CNT_EVEN (cls / 2) else d.bump Pg.FRQ Reg.FRQ.DONE_CNT_ODD (cls / 2)

/-- A job ends: its engine is free, its class counts it. -/
def Dev.frcEnd (d : Dev) (n : Nat) (c : Cmd) (st : Status) (result : Nat) : Dev :=
  let d := d.setEngine n none
  let d : Dev := { d with pip := { d.pip with reservedJobs := d.pip.reservedJobs.filter (· ≠ (c.part, c.asn)) } }
  let d := d.frcDone (frcJob c).cls
  if st = .SUCCESS ∨ st = FRC_CONCEALED then d.succeed c result st else d.complete c st result

/-- The destination's contents are undefined (R231). -/
def Dev.frcSpoil (d : Dev) (c : Cmd) (size : Nat) : Dev :=
  let (d, bs) := d.freeBytes size
  match d.dataOut c 4 size bs with
  | .ok d => d
  | .error _ => d

/-- The output rows of an expansion: bytes between a row's samples and its pitch are free values. -/
def Dev.frcRows (d : Dev) (j : FrcJob) (rows : List (List Nat)) : Dev × List Byte :=
  rows.foldl (fun (a : Dev × List Byte) r =>
    let (d, pad) := a.1.freeBytes (j.pitch - 2 * j.w)
    (d, a.2 ++ r.flatMap (leBytes 2) ++ pad)) (d, [])

/-- Store a job's output. -/
def Dev.frcOut (d : Dev) (n : Nat) (c : Cmd) (bs : List Byte) (st : Status) (result : Nat) : Dev :=
  match d.dataOut c 4 bs.length bs with
  | .ok d => d.frcEnd n c st result
  | .error .SGL_INVALID => d.frcEnd n c .SGL_INVALID 0
  | .error _ => (d.frcSpoil c bs.length).frcEnd n c FRC_XFER 0

/-- An engine finds a safe block bad: that block, and those found different before it, count, then the engine goes out of
service, and the work starts again on another (R228). -/
def Dev.engineFault (d : Dev) (n : Nat) (bad : List Nat) : Dev :=
  (((d.frcReport n { verify := max 1 bad.length }).setEngine n none).blockFault (Pg.FRC n)).raise (Pg.FRC n) 2

/-- FRC_JOB_END (R231). `bad` names the blocks that self-verification found different; `fault`: a safe block among them
failed too (R228). -/
def Dev.frcJobEnd (d : Dev) (n : Nat) (bad : List Nat) (fault : Bool) : Dev :=
  match d.engine? n with
  | some (.job p asn) =>
    match d.cmd? p asn with
    | none => d
    | some c =>
      let j := frcJob c
      if !c.received j.inSize && !d.cut c then d
      else if d.chainBad c 2 || d.chainBad c 4 then d.frcEnd n c .SGL_INVALID 0
      else if fault ∧ !j.expand then (d.setCmd { c with phase := .running }).engineFault n bad
      else match d.dataIn c 2 j.inSize with
        | .error .SGL_INVALID => d.frcEnd n c .SGL_INVALID 0
        | .error _ => (d.frcSpoil c j.outSize).frcEnd n c FRC_XFER 0
        | .ok src =>
          if j.expand then
            let r := Frc.decode j.w j.h j.d j.ratio j.ph j.pv j.cid src
            match r.failed, j.conceal with
            | [], _ =>
              let (d, out) := (d.frcDecoded n j.w j.h []).frcRows j r.rows
              d.frcOut n c out .SUCCESS out.length
            | f :: fs, true =>
              let (d, out) := (d.frcDecoded n j.w j.h (f :: fs)).frcRows j r.rows
              d.frcOut n c out FRC_CONCEALED (fs.length + 1)
            | f :: _, false =>
              ((d.frcDecoded n j.w j.h [f]).frcSpoil c j.outSize).frcEnd n c (if f.2 = .crc then FRC_CRC else FRC_SYNTAX) f.1
          else
            let (out, r) := Frc.encode j.w j.h j.d j.ratio j.ph j.pv j.dyn j.cid bad
              fun y x => ofLe ((src.drop (y * j.pitch + 2 * x)).take 2)
            (d.frcReport n r).frcOut n c out .SUCCESS out.length
  | _ => d

/-! ### Coding of Take frames (R235) -/

/-- FRC_CODING_START: a free engine starts coding a Take frame. -/
def Dev.codingStart (d : Dev) (n k : Nat) : Dev :=
  match d.takeOf k with
  | none => d
  | some (t, _, x) =>
    if x.coding ≠ .waiting ∨ (d.engine? n).isSome ∨ !d.works (Pg.FRC n) then d
    else (d.updTakeFrame t k fun x => { x with coding := .coding n }).setEngine n (some (.take t x.index))

/-- FRC_CODING_END: the coding of a Take frame ends; the frame may commit (R228, R235). -/
def Dev.codingEnd (d : Dev) (n : Nat) (bad : List Nat) (fault : Bool) : Dev :=
  match d.engine? n with
  | some (.take i index) =>
    match d.take? i with
    | none => d
    | some t => match t.frames.find? fun x => x.index = index with
      | none => d
      | some x => match d.frame? x.frame with
        | none => d
        | some f =>
          if fault then
            ((d.updTakeFrame i x.frame fun x => { x with coding := .waiting }).updFrame x.frame fun f =>
              { f with flags := f.flags ||| 2 ^ 11 }).engineFault n bad
          else
            let ph := frcPeriod 8 (Develop.cfa f.ingGen.bank f.hdr.cfaKind f.hdr.cfaPhase).ph
            let pv := frcPeriod 4 (Develop.cfa f.ingGen.bank f.hdr.cfaKind f.hdr.cfaPhase).pv
            let (bs, r) := Frc.encode f.cfgW f.cfgH f.hdr.depth t.ratio ph pv t.dyn f.hdr.cid bad
              fun y x => (f.raw.getD (y * f.cfgW + x) (0, 0)).2
            let d := (d.setEngine n none).frcReport n r
            let d := if 0 < r.verify then d.updFrame x.frame fun f => { f with flags := f.flags ||| 2 ^ 11 } else d
            let d := d.updTakeFrame i x.frame fun x => { x with coding := .done bs (0 < r.verify) }
            (d.takeTry x.frame).retire x.frame
  | _ => d

/-! ### TAKE_OPEN and TAKE_CLOSE (R233, R237) -/

/-- Renditions that a TAKE_OPEN entry enables, in entry order. -/
def takeRends (e : List Nat) : List Nat := ((List.range 4).filter fun i => bitAt (sf e 10 8 4) i).map fun i => sf e 11 (8 * i) 8

/-- Rate of a context in kpixel/s, as Takes count it. -/
def Dev.takeRate (d : Dev) (c : Nat) : Nat := if (d.ctx c).head.isSome then (d.ctx c).rate else 0

/-- Sum of the rates of open Takes, and of the class reservations, in kpixel/s. -/
def Dev.takeLoad (d : Dev) : Nat := (d.pip.takes.filter fun e => e.2.state = 0).foldl (fun a e => a + e.2.rate) 0

def Dev.classLoad (d : Dev) : Nat := (List.range 512).foldl (fun a k => a + d.reserved 4 k) 0

/-- The first check of R233. -/
def Dev.takeFields (d : Dev) (c : Cmd) : Bool :=
  let e := c.entry
  dw64 e 8 ≠ 0 && sf e 10 0 3 ≠ 6 && sf e 10 4 2 ≠ 3 && 1 ≤ dwAt e 14 && dwAt e 14 ≤ 4194304 &&
  (takeRends e).all (fun r => match d.rend? r with
    | some b => b.ctx = sf e 1 8 8 && b.sinks.any fun s => s.kind = MEMORY
    | none => false) &&
  (sf e 10 4 2 ≠ 2 || d.ownerOf 10 (sf e 10 16 5) = c.part)

/-- Directory entries, not ERASED, of Takes that the table does not hold: of a set whose table rebuild has not run, and of Takes
that found no range (R249). -/
def Dev.unheld (d : Dev) (s : Nat) : List (Nat × List Byte) :=
  let x := d.sset s
  if !d.setUp s ∨ (x.indexed ∧ x.unindexed = []) then []
  else (d.directory s).filter fun e => uAt e.2 8 1 ≠ 2 && (!x.indexed || x.unindexed.contains e.1)

/-- The lowest directory slot of a set that no Take holds. -/
def Dev.dirSlot (d : Dev) (s : Nat) : Nat :=
  let used := ((d.pip.takes.filter fun e => e.2.set = s).map fun e => e.2.slot) ++ (d.unheld s).map (·.1)
  ((List.range (used.length + 1)).find? fun i => i ∉ used).getD 0

/-- A Take of a set by its TAKE_ID. -/
def Dev.takeById (d : Dev) (s id : Nat) : Option (Nat × Take) := d.pip.takes.find? fun e => e.2.set = s && e.2.takeId = id

/-- TAKE_OPEN (R233). -/
def Dev.takeOpen (d : Dev) (c : Cmd) : Dev :=
  let e := c.entry
  let s := sf e 1 0 3
  let x := sf e 1 8 8
  let planes := 3 + (takeRends e).length
  if d.ownerOf 7 s ≠ c.part ∨ d.ctxOwner x ≠ c.part ∨ (takeRends e).any (fun r => r < 48 && d.ownerOf 1 r ≠ c.part) then
    d.complete c .INVALID_TARGET
  else if !d.takeFields c then d.complete c TAKE_PARAM
  else if (d.takeById s (dw64 e 8)).isSome ∨ (d.unheld s).any (fun y => uAt y.2 0 8 = dw64 e 8) then d.complete c TAKE_EXISTS
  else if (d.openTake x).isSome then d.complete c TAKE_BUSY
  else if !d.setUp s then d.complete c TAKE_SET
  else match d.fltRange (dwAt e 14 * planes) with
    | none => d.complete c TAKE_FLT_FULL
    | some base =>
      if 40000000 < d.takeRate x + d.takeLoad + d.classLoad * 10000 then d.complete c TAKE_CAPACITY
      else
        let n := d.pip.nextTake
        let t : Take := {
          set := s, takeId := dw64 e 8, ctx := x, owner := c.part, ratio := sf e 10 0 3, dyn := sf e 10 3 1 = 1, startMode := sf e 10 4 2,
          startCid := dwAt e 12 + 2 ^ 32 * sf e 13 0 16, compare := sf e 10 16 5, rends := takeRends e, planes := planes, base := base,
          maxFrames := dwAt e 14, rate := d.takeRate x, slot := d.dirSlot s }
        let d : Dev := { d with pip := { d.pip with takes := Assoc.put d.pip.takes n t, nextTake := n + 1 } }
        (d.putDirectory n).succeed c base

/-- A TAKE_CLOSE finds its Take: ownership, the set's state, the TAKE_ID. -/
def Dev.takeNamed (d : Dev) (c : Cmd) (k : Nat → Take → Dev) : Dev :=
  let s := sf c.entry 1 0 3
  if d.ownerOf 7 s ≠ c.part then d.complete c .INVALID_TARGET
  else if d.setState s = KEY_WAIT then d
  else match d.takeById s (dw64 c.entry 8) with
    | none => d.complete c TAKE_UNKNOWN
    | some (n, t) => if d.setState s = FAILED then d.complete c SET_FAILED else k n t

/-- TAKE_CLOSE with STOP 0 or 1 (R237). -/
def Dev.takeClose (d : Dev) (c : Cmd) : Dev :=
  let stop := sf c.entry 10 0 2
  if stop = 2 then d
  else if stop = 3 then d.complete c TAKE_PARAM
  else d.takeNamed c fun n t =>
    let m := dwAt c.entry 11 + 2 ^ 32 * sf c.entry 12 0 16
    let passed : Bool := 0 < t.count && (match (d.ctx t.ctx).head with
      | some h => match (d.head h).lastCid with
        | some l => m ≤ l
        | none => false
      | none => false)
    let s : TakeStop := if stop = 0 ∨ passed = true then .now else match t.stop with
      | .at_ l => .at_ (min l m)
      | .now => .now
      | .running => .at_ m
    let d := d.setCmd { c with phase := .running }
    (d.setTake n { t with stop := s, close := t.close ++ [(c.part, c.asn)] }).takeClosing n

/-- TAKE_CLOSE with STOP 2 (R237). A Take whose TAKE_CLOSE still waits is not yet closed. -/
def Dev.takeErase (d : Dev) (c : Cmd) : Dev :=
  if sf c.entry 10 0 2 ≠ 2 then d
  else d.takeNamed c fun n t =>
    if t.state ≠ 1 ∨ t.close ≠ [] then d.complete c TAKE_PARAM
    else
      let d := (d.effect c .SUCCESS).setCmd { c with phase := .running, effect := true }
      let d := (d.pip.flt.filter fun e => t.base ≤ e.1 && e.1 < t.base + t.maxFrames * t.planes).foldl (fun d e => d.setFlt t.owner e.1 {}) d
      let d := d.freeExtents t.set t.extents
      let d := d.setTake n { t with state := 2, extents := [], pos := none, close := [(c.part, c.asn)] }
      (d.putDirectory n).takeClosing n

/-! ### FRAME_READ (R239) -/

/-- The Take as frame `fr` has it: with that frame's own geometry. -/
def Take.atFrame (t : Take) (fr : Nat) : Take := { t with shape := (Assoc.find t.shapes fr).getD t.shape }

/-- Height, width, depth and periods of a Take's frames. -/
def Take.dim (t : Take) (i : Nat) : Nat := t.shape.getD i 1

/-- Bytes of band `b` of a Take's RAW plane: offset and length. -/
def Take.band (t : Take) (b : Nat) : Nat × Nat :=
  let bud := (Frc.budget (t.dim 2) t.ratio).getD 20
  (b * Frc.bandBytes (t.dim 0) 64 t.ratio bud, Frc.bandBytes (t.dim 0) (min 64 (t.dim 1 - 64 * b)) t.ratio bud)

/-- Parts of a plane that fail their check, among those that lie wholly within bytes `off` to `off + len`: offset and
length. -/
def Take.failing (t : Take) (e : FltEntry) (off len : Nat) (bs : List Byte) : List (Nat × Nat) :=
  if e.plane = 0 then
    let bud := (Frc.budget (t.dim 2) t.ratio).getD 20
    (List.range (ceilDiv (t.dim 1) 64)).filterMap fun b =>
      let (o, n) := t.band b
      if off ≤ o ∧ o + n ≤ off + len then
        match Frc.decodeBand (t.dim 0) (min 64 (t.dim 1 - 64 * b)) (t.dim 2) t.ratio (t.dim 3) (t.dim 4) e.cid b bud ((bs.drop o).take n) with
        | .ok _ => none
        | .error _ => some (o, n)
      else none
  else if e.plane = 1 then
    if ofLe (bs.drop 4092) = crc32c (bs.take 4092) then [] else [(0, bs.length)]
  else []

/-- Put the parts of `b` at the places `ps` into `a`. -/
def splice (a b : List Byte) (ps : List (Nat × Nat)) : List Byte :=
  ps.foldl (fun a p => a.take p.1 ++ (b.drop p.1).take p.2 ++ a.drop (p.1 + p.2)) a

/-- Rewrite a stripe unit: what its member cannot read comes from redundancy, with `again` every LBA does (R239, R242). -/
def Dev.rewriteUnit (d : Dev) (s m t : Nat) (again : Bool) : Dev :=
  let x := d.sset s
  if m ∉ x.live then d
  else (seqFrom (unitLba t) 256).foldl (fun d lba =>
    match (if again then d.rebuilt s m lba else d.blockOf s m lba) with
    | some b => d.magWrite (x.members.getD m 0) lba b
    | none => d) d

/-- Addresses of the 4 KiB blocks of runs, in order. -/
def blockAddrs (rs : List (Nat × Nat)) : List Nat :=
  rs.flatMap fun r => (List.range (ceilDiv r.2 4096)).map fun i => r.1 + 4096 * i

/-- The units (set-wide data unit numbers) of addresses. -/
def unitsOf (as : List Nat) : List Nat := (as.map (· / PAY)).eraseDups

/-- Rewrite the units of addresses of a set. -/
def Dev.rewrite (d : Dev) (s : Nat) (as : List Nat) (again : Bool) : Dev :=
  let x := d.sset s
  (unitsOf as).foldl (fun d u => d.rewriteUnit s (x.memberOf (u / x.n) (u % x.n)) (u / x.n) again) d

/-- The bytes of a plane and how they were found: status SUCCESS or READ_REPAIRED, with the parts that stay bad; the parts that
redundancy mends are taken from it, and their units rewritten. `none` when bytes that the read needs cannot be had; with `gaps`
those read as zeros, and their bands fail. -/
def Dev.planeRead (d : Dev) (t : Take) (e : FltEntry) (off len : Nat) (gaps : Bool) :
    Option (Dev × List Byte × Status × List (Nat × Nat)) :=
  let as := blockAddrs (d.fltRuns t e)
  let blocks := as.map fun a => d.dataBlock t.set a
  let dead := (blocks.zipIdx.any fun b => b.1.isNone && b.2 * 4096 < off + len && off < b.2 * 4096 + 4096)
  if dead = true ∧ !gaps then none
  else
    let bs := ((blocks.map fun b => b.getD zeroBlock).flatten).take e.length
    match t.failing e off len bs with
    | [] => some (d, bs, .SUCCESS, [])
    | bad =>
      let within := fun (qs : List (Nat × Nat)) => (as.zipIdx.filter fun (a : Nat × Nat) =>
        qs.any fun q => a.2 * 4096 < q.1 + q.2 && q.1 < a.2 * 4096 + 4096).map (·.1)
      let units := unitsOf (within bad)
      let alt := ((as.zip blocks).map fun (b : Nat × Option (List Byte)) =>
        ((if b.1 / PAY ∈ units then d.dataBlock t.set b.1 true else none).getD (b.2.getD zeroBlock))).flatten.take e.length
      let left := bad.filter fun q => q ∈ t.failing e off len alt
      let mended := bad.filter fun q => q ∉ left
      let d := if mended = [] then d else d.rewrite t.set (within mended) true
      some (d, splice bs alt mended, if mended = [] then .SUCCESS else READ_REPAIRED, left)

/-- What a FRAME_READ asks for, once checked: the entry, the byte range, DECODE. -/
structure ReadPlan where
  entry : FltEntry
  off : Nat
  len : Nat
  decode : Bool
  conceal : Bool
  table : Bool := false
deriving DecidableEq, Repr

/-- Check a FRAME_READ of a known Take (R239). -/
def Dev.readPlan (d : Dev) (c : Cmd) (t : Take) : Except Status ReadPlan :=
  let e := c.entry
  let fr := dwAt e 10
  let pl := sf e 11 0 4
  let dec : Bool := sf e 11 8 1 = 1
  let off := dwAt e 12
  let len := dwAt e 13
  if dec = true ∧ (pl ≠ 0 ∨ off ≠ 0 ∨ len ≠ 0) then .error TAKE_PARAM
  else if t.count ≤ fr then .error FRAME_MISSING
  else if pl = 15 then
    let total := (t.maxFrames - fr) * t.planes * 32
    let n := if len = 0 then total - off else len
    if total < off + n then .error .RANGE_INVALID
    else if dwAt e 6 < n then .error READ_SPACE
    else .ok { entry := {}, off := off, len := n, decode := false, conceal := false, table := true }
  else if t.planes ≤ pl then .error PLANE_ABSENT
  else
    let x := d.fltAt (t.base + fr * t.planes + pl)
    if x.status ≠ PENDING ∧ x.status ≠ DURABLE then .error FRAME_MISSING
    else
      let n := if len = 0 then x.length - off else len
      let size := if dec then t.dim 0 * 2 * t.dim 1 else n
      if x.length < off + n then .error .RANGE_INVALID
      else if dwAt e 6 < size then .error READ_SPACE
      else .ok { entry := x, off := off, len := n, decode := dec, conceal := sf e 11 9 1 = 1 }

/-- FRAME_READ: checked, then its data moves; it waits while its set has no key or its Take's table is not rebuilt. -/
def Dev.frameRead (d : Dev) (c : Cmd) : Dev :=
  let s := sf c.entry 1 0 3
  if d.ownerOf 7 s ≠ c.part then d.complete c .INVALID_TARGET
  else if d.setState s = KEY_WAIT ∨ 1 ≤ d.shed then d
  else if d.setState s = FAILED then d.complete c SET_FAILED
  else if (d.sset s).setId ≠ 0 ∧ !(d.sset s).indexed then d
  else match d.takeById s (dw64 c.entry 8) with
    | none => d.complete c TAKE_UNKNOWN
    | some (_, t) => match d.readPlan c (t.atFrame (dwAt c.entry 10)) with
      | .error st => d.complete c st
      | .ok _ => d.startMove c 0

/-- The data of a FRAME_READ moves to the host (R239). -/
def Dev.frameReadEnd (d : Dev) (c : Cmd) : Dev :=
  match d.takeById (sf c.entry 1 0 3) (dw64 c.entry 8) with
  | none => d.complete c TAKE_UNKNOWN
  | some (_, u) =>
    let t := u.atFrame (dwAt c.entry 10)
    if d.chainBad c 2 then d.complete c .SGL_INVALID
    else match d.readPlan c t with
    | .error st => d.complete c st
    | .ok r =>
      let give := fun (d : Dev) (bs : List Byte) (st : Status) (result : Nat) => match d.dataOut c 2 bs.length bs with
        | .ok d => d.succeed c result st
        | .error st => d.complete c st
      if r.table then
        let first := t.base + dwAt c.entry 10 * t.planes
        let bs := (((seqFrom first (ceilDiv (r.off + r.len) 32)).flatMap fun i => (d.fltAt i).bytes).drop r.off).take r.len
        give d bs .SUCCESS bs.length
      else match d.planeRead t r.entry r.off (if r.decode then r.entry.length else r.len) (r.decode && r.conceal) with
        | none => d.complete c READ_LOST
        | some (d, bs, st, bad) =>
          if bad ≠ [] ∧ !(r.decode && r.conceal) then d.complete c READ_LOST
          else if r.decode then
            let z := Frc.decode (t.dim 0) (t.dim 1) (t.dim 2) t.ratio (t.dim 3) (t.dim 4) r.entry.cid bs
            let d := match (List.range 4).find? fun n => (d.engine? n).isNone && d.works (Pg.FRC n) with
              | some n => d.frcDecoded n (t.dim 0) (t.dim 1) z.failed
              | none => d
            let out := z.rows.flatMap fun row => row.flatMap (leBytes 2)
            if z.failed = [] then give d out st out.length else give d out FRC_CONCEALED z.failed.length
          else
            let out := (bs.drop r.off).take r.len
            give d out st out.length

end Sys2Proof.Machine
end

