-- ==== Sys2Proof/Machine/Magazines.lean ====
section
/-! DEFINITION. Magazines: drives, forming and assembling stripe sets, keys, rebuild, and the rebuild of the Frame Locator
Table (spec 08 R241, R242, R248 to R252). -/

namespace Sys2Proof.Machine

/-! ### Labels of arriving drives (R250) -/

/-- What a valid label says. -/
structure Label where
  port : Nat
  setId : Nat
  epoch : Nat
  member : Nat
  n : Nat
  enc : Bool
  stripes : Nat
  kcv : Nat
deriving DecidableEq, Repr

/-- The valid label of a port whose drive is usable. -/
def Dev.labelOf (d : Dev) (p : Nat) : Option Label :=
  if d.magState p ∈ [ABSENT, MFAILED, UNSUITABLE] then none
  else (d.mag p).label.map fun b =>
    let u := fun o n => ofLe ((b.drop o).take n)
    { port := p, setId := u 8 8, epoch := u 0x10 4, member := u 0x14 1, n := u 0x15 1, enc := u 0x16 1 = 1, stripes := u 0x18 4,
      kcv := u 0x1C 4 }

def Dev.labels (d : Dev) : List Label := (List.range 8).filterMap d.labelOf

/-- Show a port as member `m` of a set. -/
def Dev.showMember (d : Dev) (p s m st : Nat) : Dev :=
  ((d.setMagState p st).wr (Pg.MAG p) Reg.MAG.SET s).wr (Pg.MAG p) Reg.MAG.MEMBER m

/-- A magazine with an older epoch than its set (R250). -/
def Dev.stale (d : Dev) (s p : Nat) : Dev :=
  let d := d.setMagState p STALE
  if bitAt (d.setReg s Reg.STR.SPARES) p then d
  else (d.event 0 (setAt s).1 WARN 0x0605 [BitVec.ofNat 8 p]).raise (setAt s).1 3

/-- Has the set the key that its labels name, or needs none (R252)? -/
def Dev.keyed (d : Dev) (s : Nat) : Bool :=
  let x := d.sset s
  !x.enc || (match x.key with
    | some k => kcvOf k = x.kcv
    | none => false)

/-- Does stripe `t` carry a placement of partition `p` and ASN `asn` already: every live member that holds a data unit has a
valid header with the set's epoch and an ASN_LAST at or above it (R247)? -/
def Dev.carries (d : Dev) (s t p asn : Nat) : Bool :=
  let x := d.sset s
  (List.range x.n).all fun k => x.memberOf t k ∉ x.live || (match (d.direct s (x.memberOf t k) (unitLba t)).filter x.headed with
    | some h => ofLe ((h.drop 0x10).take 4) = d.setReg s Reg.STR.EPOCH && ofLe ((h.drop 0x28).take 1) = p && asn ≤ ofLe ((h.drop 0x20).take 8)
    | none => false)

/-- A set comes up again after a reset: placements whose stripe carries them are skipped, every other one is written again
and counted (R247). -/
def Dev.replaySet (d : Dev) (s : Nat) : Dev :=
  let x := d.sset s
  if !x.replay ∨ !d.setUp s then d
  else
    let d := d.setSset s { x with replay := false }
    let mine := d.pip.places.filter fun p => p.set = s
    let done := mine.filter fun p => p.asn ≠ 0 && d.carries s (p.addr / (x.n * PAY)) p.part p.asn
    let n := d.rd Pg.NVS Reg.NVS.REWRITES + (mine.length - done.length)
    (d.wr Pg.NVS Reg.NVS.REWRITES (min n 65535)).placesDone s done

/-- An assembly finds fewer than N current members: the set is FAILED, with an ALARM when it was not (R250). Its table entries and
pending data stand: a magazine that arrives later assembles it again. -/
def Dev.tooFew (d : Dev) (s : Nat) : Dev :=
  if d.setState s = FAILED then d
  else ((d.setSetReg s Reg.STR.STATE FAILED).event (d.setOwner s) (setAt s).1 ALARM 0x0609 [BitVec.ofNat 8 s]).raise (setAt s).1 4

/-- The state that a set's members and key give it (R250 to R252). -/
def Dev.judgeSet (d : Dev) (s : Nat) : Dev :=
  let x := d.sset s
  let lost := ((List.range (x.n + 1)).find? fun m => m ∉ x.live).getD 0
  if x.live.length + 1 ≤ x.n then d.tooFew s
  else if !d.keyed s then d.setSetReg s Reg.STR.STATE KEY_WAIT
  else if x.live.length = x.n ∧ x.rebuild.isSome then (d.setSetReg s Reg.STR.STATE REBUILDING).replaySet s
  else if x.live.length = x.n then
    ((((d.setSetReg s Reg.STR.LOST_MEMBER lost).setSetReg s Reg.STR.STATE DEGRADED).raise (setAt s).1 0).replaySet s).startRebuild s
  else (d.setSetReg s Reg.STR.STATE OPTIMAL).replaySet s

/-- Assemble a set from the labels present (R250). The SET_ID of a set that stands is the one it has; a set that does not
stand takes that of the lowest port of MEMBERS that carries a label, or else the one it had before the reset. -/
def Dev.assemble (d : Dev) (s : Nat) : Dev :=
  let x := d.sset s
  let named := (d.labels.find? fun l => bitAt (d.setReg s Reg.STR.MEMBERS) l.port).map (·.setId)
  let id := if OPTIMAL ≤ d.setState s then x.setId else named.getD x.setId
  let ls := d.labels.filter fun l => l.setId = id
  let epoch := ls.foldl (fun a l => max a l.epoch) 0
  match ls.find? fun l => l.epoch = epoch with
  | none => d
  | some lead =>
    let cur := fun m => ls.find? fun l => l.epoch = epoch && l.member = m
    let idx := List.range (lead.n + 1)
    let x' : StripeSet := { x with
      setId := id, n := lead.n, members := idx.map fun m => ((cur m).map (·.port)).getD 8,
      live := idx.filter fun m => (cur m).isSome, enc := lead.enc, stripes := lead.stripes, rebuild := none,
      extents := Assoc.put x.extents 0 0, indexed := x.setId = id && x.indexed && x.unindexed = [], kcv := lead.kcv }
    let d := (d.setSset s x').setSetReg s Reg.STR.EPOCH epoch
    let d := ls.foldl (fun d l => if cur l.member = some l then d.showMember l.port s l.member MEMBER else d.stale s l.port) d
    (d.showExtents s).judgeSet s

/-- SET_CTRL.CREATE (R250): members in ascending port order, all BLANK; the empty directory is zeros. -/
def Dev.createSet (d : Dev) (s : Nat) : Dev :=
  let n := d.setReg s Reg.STR.N
  let ports := (List.range 8).filter fun p => bitAt (d.setReg s Reg.STR.MEMBERS) p
  if d.setState s ≠ 0 ∨ n = 0 ∨ ports.length ≠ n + 1 ∨ !ports.all (fun p => d.magState p = BLANK) then d
  else
    let key := (d.sset s).key
    let stripes := (ports.map fun p => ((d.mag p).lbas - 256) / 256).foldl min (2 ^ 32 - 1)
    let x : StripeSet := {
      setId := 1 + d.freeNow 63, n := n, members := ports, live := List.range (n + 1), enc := d.setReg s Reg.STR.ENC_EN = 1,
      key := key, keyWords := (d.sset s).keyWords, stripes := stripes, extents := [(0, 0)], indexed := true,
      kcv := d.setReg s Reg.STR.KCV }
    let d := ((d.freeStep.setSset s x).setSetReg s Reg.STR.EPOCH 1).writeLabels s
    let d := ports.foldl (fun (d : Dev) q => d.updMag q fun m => { m with
      media := m.media.filter fun b => b.1 < unitLba 0 || unitLba 64 ≤ b.1 }) d
    let d := ports.zipIdx.foldl (fun (d : Dev) e => d.showMember e.1 s e.2 MEMBER) d
    (d.showExtents s).judgeSet s

/-- A write of SET_CTRL (R250, R253): its fields, then CREATE, then ASSEMBLE; a new SPARES mask may start a rebuild. -/
def Dev.setCtrlWrite (d : Dev) (f s v : Nat) : Dev :=
  let (pg, k) := setAt s
  let o := Reg.STR.N.at k 0
  d.checkedWrite f pg o fun d =>
    if f ≠ 0 then d
    else
      let d := d.plainWrite f pg o v
      let d := if bitAt v 28 then d.createSet s else d
      let d := if bitAt v 29 then d.assemble s else d
      d.startRebuild s

/-- The 64 bytes that the KEY words of a set hold. -/
def StripeSet.keyBytes (x : StripeSet) : List Byte := (List.range 16).flatMap fun i => leBytes 4 ((Assoc.find x.keyWords i).getD 0)

/-- A write of KEY word `i`; the last one loads the key (R252). -/
def Dev.keyWrite (d : Dev) (f s i v : Nat) : Dev :=
  let (pg, k) := setAt s
  d.checkedWrite f pg (Reg.STR.KEY.at k i) fun d =>
    if f ≠ 0 then d
    else
      let d := d.updSset s fun x => { x with keyWords := Assoc.put x.keyWords i v }
      let key := (d.sset s).keyBytes
      if i ≠ 15 then d
      else if key.take 32 = key.drop 32 then d.error pg 0
      else
        let d := (d.updSset s fun x => { x with key := some key }).setSetReg s Reg.STR.KCV (kcvOf key)
        if (d.sset s).enc ∧ d.setState s ∉ [0, 1, FAILED] then
          (if d.keyed s then (if d.setState s = KEY_WAIT then d.judgeSet s else d) else d.setSetReg s Reg.STR.STATE KEY_WAIT)
        else d

/-! ### Magazine ports (R241, R242) -/

/-- A suitable drive is judged: BLANK, or by the sets (R241). A set that is up takes a current member back and tells a stale
magazine; any other set is assembled (R250). Takes that found no table range are tried again (R249). -/
def Dev.judgeMag (d : Dev) (n : Nat) : Dev :=
  match d.labelOf n with
  | none => (List.range 8).foldl (fun d s => d.startRebuild s) (d.setMagState n BLANK)
  | some l =>
    match (List.range 8).find? fun s => (d.sset s).setId = l.setId with
    | none => d
    | some s =>
      let x := d.sset s
      if d.setUp s ∧ l.epoch ≤ d.setReg s Reg.STR.EPOCH then
        let d := d.setSset s { x with indexed := x.indexed && x.unindexed = [] }
        if l.epoch = d.setReg s Reg.STR.EPOCH ∧ l.member ≤ x.n ∧ l.member ∉ x.live ∧ x.rebuild.isNone then
          ((d.updSset s fun x => { x with members := x.members.set l.member n, live := insertNat l.member x.live }).showMember n s
            l.member MEMBER).judgeSet s
        else (d.stale s n).startRebuild s
      else d.assemble s

/-- A magazine with the contents of an arriving drive. -/
def magOf (v : Drive) : Magazine :=
  let put := fun (m : List (Nat × List Byte)) (e : Nat × List Byte) => Sparse.set m e.1 (fit 4096 e.2) zeroBlock
  { media := v.media.foldl put [], serial := v.serial, lbas := v.lbas }

/-- MAGAZINE_LINK_UP: the link trains, the drive is identified and judged. `drive` is a new one, or the one that was there;
`fails` is the first check of R241 that fails before the capacity check, 1 to 4, or 0. The link of a member that Keep took
down comes back as it was (R384). -/
def Dev.magLinkUp (d : Dev) (n width gen : Nat) (drive : Option Drive) (fails : Nat) : Dev :=
  if d.magState n ∉ [ABSENT, MFAILED, UNSUITABLE] then
    (if d.rd (Pg.MAG n) Reg.MAG.LINK_WIDTH = 0 then
      (d.wr (Pg.MAG n) Reg.MAG.LINK_WIDTH width).wr (Pg.MAG n) Reg.MAG.LINK_GEN gen
    else d)
  else
    let pg := Pg.MAG n
    let d := match drive with
      | some v => d.setMag n (magOf v)
      | none => d
    let d := (d.wr pg Reg.MAG.LINK_WIDTH width).wr pg Reg.MAG.LINK_GEN gen
    let d := d.wr64 pg Reg.MAG.CAP_LBA_LO Reg.MAG.CAP_LBA_HI (d.mag n).lbas
    let bad := if 1 ≤ fails ∧ fails ≤ 4 then fails else if (d.mag n).lbas < 524288 then 5 else 0
    if bad ≠ 0 then
      ((d.setMagState n UNSUITABLE).event 0 pg WARN 0x060A [BitVec.ofNat 8 n, BitVec.ofNat 8 bad]).raise pg 2
    else (d.setMagState n 1).judgeMag n

/-- Causes of MAG_FAILED as its DATA gives them: a second controller reset within 60 s, link down, a failed write. -/
def CAUSE_RESET : Nat := 1
def CAUSE_LINK : Nat := 2
def CAUSE_WRITE : Nat := 3

/-- MAG_COMMAND_TIMEOUT: an NVMe command exceeds MAG_TIMEOUT and is aborted; with `reset`, the abort did too (R242). -/
def Dev.magTimeout (d : Dev) (n : Nat) (reset : Bool) : Dev :=
  let pg := Pg.MAG n
  if d.magState n ∈ [ABSENT, MFAILED, UNSUITABLE] then d
  else if !reset then (d.bump pg Reg.MAG.TIMEOUT_CNT).raise pg 1
  else match (d.mag n).resetAt with
    | some t => if d.elapsed < t + 60 * 800000000 then d.magFailed n CAUSE_RESET
        else (d.updMag n fun m => { m with resetAt := some d.elapsed }).bump pg Reg.MAG.RESET_CNT
    | none => (d.updMag n fun m => { m with resetAt := some d.elapsed }).bump pg Reg.MAG.RESET_CNT

/-- MAG_FAILED: the link goes down, or a write completes with an error (R242). -/
def Dev.magFails (d : Dev) (n : Nat) (link : Bool) : Dev :=
  let d := if link then (d.wr (Pg.MAG n) Reg.MAG.LINK_WIDTH 0).wr (Pg.MAG n) Reg.MAG.LINK_GEN 0 else d
  d.magFailed n (if link then CAUSE_LINK else CAUSE_WRITE)

/-- MAG_MEDIA_ERROR: a read of an LBA fails: it is served from redundancy and its unit rewritten (R242, R251). -/
def Dev.magMediaError (d : Dev) (n lba : Nat) : Dev :=
  let d := d.bump (Pg.MAG n) Reg.MAG.MEDIA_ERR_CNT
  let home := (List.range 8).findSome? fun s => if d.setState s < OPTIMAL then none else
    ((d.sset s).members.zipIdx.find? fun (e : Nat × Nat) => e.1 = n && e.2 ∈ (d.sset s).live).map fun (e : Nat × Nat) => (s, e.2)
  let d := d.updMag n fun m => { m with bad := if lba ∈ m.bad then m.bad else m.bad ++ [lba] }
  match home with
  | some (s, m) => if unitLba 0 ≤ lba ∧ (d.rebuilt s m lba).isSome then d.rewriteUnit s m ((lba - unitLba 0) / 256) false else d
  | none => d

/-! ### Rebuild (R251) -/

/-- REBUILD_DONE: the spare holds the lost member's units and is a member. -/
def Dev.rebuildDone (d : Dev) (s : Nat) : Dev :=
  let x := d.sset s
  match x.rebuild with
  | none => d
  | some p =>
    if d.setState s ≠ REBUILDING ∧ d.setState s ≠ KEY_WAIT then d
    else
      let m := d.setReg s Reg.STR.LOST_MEMBER
      let lbas := (x.live.flatMap fun i => (d.mag (x.members.getD i 0)).media.map (·.1)).filter (256 ≤ ·)
      let kept := (d.mag p).media.filter fun e => e.1 < 256
      let media := lbas.foldl (fun a l => match d.rebuilt s m l with
        | some b => Sparse.set a l b zeroBlock
        | none => a) kept
      let d := d.updMag p fun y => { y with media := media, bad := lbas.eraseDups.filter fun l => (d.rebuilt s m l).isNone }
      let d := d.setSset s { x with rebuild := none, live := insertNat m x.live }
      let d := (d.setSetReg s Reg.STR.EPOCH (d.setReg s Reg.STR.EPOCH + 1)).writeLabels s
      let d := d.showMember p s m MEMBER
      let d := (if d.setState s = KEY_WAIT then d else d.setSetReg s Reg.STR.STATE OPTIMAL).setSetReg s Reg.STR.REBUILD_PROG 1000
      (d.event (d.setOwner s) (setAt s).1 INFO 0x0606 [BitVec.ofNat 8 s]).raise (setAt s).1 1

/-! ### The rebuild of the Frame Locator Table (R248, R249) -/

/-- Table offsets of the entries of a segment, from the first one's (R248). -/
def segOffsets (planes : Nat) : Nat → Option (Nat × Nat) → List (List Byte) → List (Nat × List Byte)
  | _, _, [] => []
  | o, was, e :: es =>
    let o' := match was with
      | none => o
      | some (c, pl) => segNext planes o c pl (uAt e 0 6) (uAt e 6 1)
    (o', e) :: segOffsets planes o' (some (uAt e 0 6, uAt e 6 1)) es

/-- Is a block an index segment of a Take: MAGIC, TAKE_ID, reserved bytes 0 (R4) and the CRC of its header and entries (R248)? -/
def segmentOk (id : Nat) (b : List Byte) : Bool :=
  uAt b 0 4 = 0x58444E49 && uAt b 4 8 = id && uAt b 0x12 2 = 0 && uAt b 0x1A 2 = 0 &&
  uAt b 0x1C 4 = crc32c (b.take 28 ++ (b.drop 32).take (32 * uAt b 0x10 2))

/-- Index segments of a Take, newest first, and their entries: (offset in the table range, 32 B). -/
def Dev.segments (d : Dev) (s id planes : Nat) : Nat → Nat → List (Nat × List Byte)
  | 0, _ => []
  | fuel + 1, a =>
    if a = 0 then []
    else match (d.dataBlock s a).filter (segmentOk id) with
      | none => []
      | some b =>
        let es := (List.range (uAt b 0x10 2)).map fun i => (b.drop (32 + 32 * i)).take 32
        segOffsets (max 1 planes) (uAt b 0xC 4) none es ++ d.segments s id planes fuel (uAt b 0x14 6)

def fltOfBytes (b : List Byte) : FltEntry :=
  { cid := uAt b 0 6, plane := uAt b 6 1, status := uAt b 7 1, addr := uAt b 8 6, set := uAt b 14 1, flags := uAt b 15 1,
    length := uAt b 16 4, crc := uAt b 20 4, asn := uAt b 24 8 }

/-- Extents whose units name a Take, in the order of their first ASN. -/
def Dev.extentsOf (d : Dev) (s id first : Nat) : List Nat :=
  let x := d.sset s
  let asn := fun e => ((List.range 64).flatMap fun t => (List.range x.n).filterMap fun k =>
    match d.unitHeader s (64 * e + t) k with
    | some h => if uAt h 0x30 8 = id then some (uAt h 0x18 8) else none
    | none => none)
  let es := (seqFrom 1 (x.extentCount - 1)).filterMap fun e => match asn e with
    | [] => none
    | l => some (l.foldl max 0, e)
  let rest := (es.filter fun e => e.2 ≠ first).mergeSort fun a b => a.1 < b.1 || (a.1 = b.1 && a.2 ≤ b.2)
  first :: rest.map (·.2)

/-- Entries of index segments are written where the table is EMPTY, and journalled; a segment that is durable holds them, so their
records are not kept (R238, R249). -/
def Dev.fillFlt (d : Dev) (owner base : Nat) (entries : List (Nat × List Byte)) : Dev :=
  entries.foldl (fun d e =>
    let i := base + e.1
    if (d.fltAt i).status ≠ EMPTY then d
    else
      let d := d.setFlt owner i (fltOfBytes e.2)
      { d with jnl := { d.jnl with ledger := d.jnl.ledger.filter fun r => match r.body with
          | .fltUpdate j _ => j ≠ i
          | _ => true } }) d

/-- User number of the extents of Takes that found no table range. -/
def unheldUser : Nat := 2 ^ 33

/-- A directory entry's Take comes back: its table range, extents and entries; an open one that the ledger does not know is
closed at its last index segment (R248, R249). One that finds no range keeps its extents and its slot. -/
def Dev.restoreTake (d : Dev) (s slot : Nat) (b : List Byte) : Dev :=
  let id := uAt b 0 8
  let planes := uAt b 9 1
  let maxFrames := uAt b 20 4
  let first := uAt b 12 4
  if uAt b 8 1 = 2 then d
  else match d.takeById s id with
  | some (_, t) => d.fillFlt t.owner t.base (d.segments s id planes 4194304 (uAt b 24 8))
  | none =>
    let want := uAt b 16 4
    let fits := d.fltTaken.all fun r => want + maxFrames * planes ≤ r.1 || r.1 + r.2 ≤ want
    let extents := if first = 0 then [] else d.extentsOf s id first
    let hold := fun (d : Dev) (user : Nat) => d.updSset s fun x => { x with extents := extents.foldl (fun m e => Assoc.put m e user) x.extents }
    match (if fits then some want else d.fltRange (maxFrames * planes)) with
    | none => ((hold d unheldUser).updSset s fun x => { x with unindexed := x.unindexed ++ [slot] }).event (d.setOwner s) (setAt s).1 WARN
        0x060C (leBytes 8 id)
    | some base =>
      let h := ((d.setBytes s (64 * first * (d.sset s).n * PAY) 4096).getD [])
      let entries := d.segments s id planes 4194304 (uAt b 24 8)
      let n := d.pip.nextTake
      let frames := if uAt b 8 1 = 0 then entries.foldl (fun a e => max a (e.1 / max 1 planes + 1)) 0 else uAt b 32 4
      let t : Take := {
        set := s, takeId := id, ctx := uAt h 0x10 1, owner := uAt h 0x12 1, ratio := uAt h 0x13 1, dyn := uAt h 0x14 1 = 1, startMode := 0,
        planes := planes, base := base, maxFrames := maxFrames, started := true, count := frames, stop := .now, state := 1,
        extents := extents, lastSeg := uAt b 24 8, slot := slot, headed := true,
        shape := [uAt h 0x18 2, uAt h 0x1A 2, uAt h 0x15 1, uAt h 0x1D 1, uAt h 0x1E 1, uAt h 0x16 1, uAt h 0x17 1, uAt h 0x11 1] }
      let d : Dev := { d with pip := { d.pip with takes := Assoc.put d.pip.takes n t, nextTake := n + 1 } }
      let d := (hold d (1 + n)).fillFlt t.owner base entries
      if uAt b 8 1 = 0 then d.putDirectory n else d

/-- FLT_REBUILD: the Takes of an assembled set come back into the table; it runs once fetching is open (R249). -/
def Dev.fltRebuild (d : Dev) (s : Nat) : Dev :=
  if !d.setUp s ∨ (d.sset s).indexed ∨ d.hst.fetchStopped then d
  else
    let d := d.updSset s fun x => { x with unindexed := [], extents := x.extents.filter fun e => e.2 ≠ unheldUser }
    let d := (d.directory s).foldl (fun d e => d.restoreTake s e.1 e.2) d
    let d := (d.updSset s fun x => { x with indexed := true }).showExtents s
    (d.cap.frames.map (·.1)).foldl (fun d k => (d.takeTry k).retire k) d

end Sys2Proof.Machine
end

