-- ==== Sys2Proof/Machine/Power.lean ====
section
/-! DEFINITION. Power: choosing, entering and leaving power states, the event calendar, Keep (spec 14 R377 to R385; spec 02
R44 to R47; spec 11 R315). Every time here is in nanoseconds. -/

namespace Sys2Proof.Machine

/-- Exit latency of a state (R378). -/
def Dev.exitNs (d : Dev) (s : Nat) : Nat :=
  match s with
  | 1 => 500
  | 2 => 40000
  | 3 => 2500000
  | 4 => (60 + d.rd Pg.PWR Reg.PWR.KEEP_RETRAIN_MS) * 1000000
  | _ => 0

/-- Break-even of a state (R378). -/
def breakEvenNs (s : Nat) : Nat := [0, 2000, 200000, 10000000, 1000000000].getD s 0

/-- GUARD_US in ns. -/
def Dev.guardNs (d : Dev) : Nat := d.rd Pg.PWR Reg.PWR.GUARD_US * 1000

/-- Pages of an island group (R377). -/
def groupPages (g : Nat) : List Page := Pg.allPages.filter fun pg => Pg.groupOf pg = g

/-- Does the group hold a page of a family? -/
def groupHas (g : Nat) (fams : List Nat) : Bool := (groupPages g).any fun pg => (Pg.family pg).1 ∈ fams

/-! ### The deepest permitted state (R379) -/

/-- Does the page hold a receiver whose link is up or training? -/
def Dev.pageLinked (d : Dev) (pg : Page) : Bool :=
  let (fam, inst) := Pg.family pg
  match fam with
  | 0x20 => (List.range 32).any fun l => d.physOf l / 4 = inst && (match d.groupOfLane l with
      | some g => d.grpState g ≠ 0
      | none => false)
  | 0x83 => inst % 2 = 0 && d.rd pg Reg.NETP.LINK_UP ≠ 0
  | 0x80 => d.hostLink
  | 0x52 => d.rd pg Reg.MAG.LINK_WIDTH ≠ 0
  | _ => false

/-- Does the page's scan-out engine, SDI port or DisplayPort stream transmit? -/
def Dev.pageTransmits (d : Dev) (pg : Page) : Bool :=
  let (fam, inst) := Pg.family pg
  let routed := fun (sel : Nat × Nat → Bool) => (List.range 16).any fun n => d.on (Pg.DSP n) Reg.HDR.EN && sel (d.route n)
  match fam with
  | 0x70 => d.on pg Reg.HDR.EN
  | 0x71 => routed fun r => r = (1, inst)
  | 0x72 => routed fun r => r.1 = 2 && r.2 / 4 = inst
  | _ => false

/-- GRP_MAX of a group (R398). -/
def Dev.groupMax (d : Dev) (g : Nat) : Nat := bits (d.rd Pg.PWR Reg.PWR.GRP_MAX (g / 8)) (4 * (g % 8)) 3

/-- Deepest permitted state of a group (R379). -/
def Dev.permitted (d : Dev) (g : Nat) : Nat :=
  if g = 0 ∨ (groupPages g).any d.pageTransmits = true then 0
  else
    let cap := fun (c : Bool) (s n : Nat) => if c then min s n else n
    cap ((groupPages g).any d.pageLinked) 1 (cap (d.pip.places ≠ [] && groupHas g [0x05, 0x53, 0x52, 0xA0]) 1
      (cap (d.on Pg.PWR Reg.PWR.CAL_FULL) 2 (min 3 (d.groupMax g))))

/-! ### The event calendar (R381) -/

/-- A mask of groups of pages. -/
def pageMask (pages : List Page) : Nat := (pages.map Pg.groupOf).eraseDups.foldl (fun m g => m + 2 ^ g) 0

/-- Next instant of a cadence that takes instants. -/
def Dev.nextOf (d : Dev) (c : Nat) : Nat := d.rd64 Pg.TMB Reg.TMB.C_NEXT_NS_LO Reg.TMB.C_NEXT_NS_HI c

def Dev.cadOn (d : Dev) (c : Nat) : Bool := d.rd Pg.TMB Reg.TMB.C_EN c = 1

/-- Every event to come: (time, mask). Device timers have no register; the row that asks gives the next one. -/
def Dev.allEvents (d : Dev) (timers : List (Nat × Nat)) : List (Nat × Nat) :=
  let cads := ((List.range 16).filter d.cadTaking).map fun c => (d.nextOf c, d.rd Pg.PWR Reg.PWR.CAD_MASK c)
  let quires := d.cap.ctxs.filterMap fun e => match e.2.head with
    | some h =>
      let c := d.rd Pg.TMB Reg.TMB.CAD h
      if e.2.quires ≠ [] ∧ d.rd Pg.TMB Reg.TMB.VALID h = 1 ∧ d.cadTaking c then
        some (d.nextOf c, pageMask ((sectionsOf e.2.gang e.2.section_).flatMap fun n => (List.range 12).map (Pg.FE n)))
      else none
    | none => none
  let own := (List.range 8).map fun i => (d.rd64 Pg.PWR Reg.PWR.TIMER_NS_LO Reg.PWR.TIMER_NS_HI i, d.rd Pg.PWR Reg.PWR.TIMER_MASK i)
  let ptp := d.pow.ptpSeen.filterMap fun e =>
    let v := d.rd Pg.PWR Reg.PWR.PTP_INTERVAL_US e.1
    if v = 0 then none else some (e.2 + v * 1000, pageMask [Pg.NET (2 * e.1), Pg.NET (2 * e.1 + 1), Pg.PTP e.1])
  let hints := d.hst.parts.map fun e => (e.2.hint, d.rd Pg.PWR Reg.PWR.HINT_MASK)
  (cads ++ quires ++ timers ++ own ++ ptp ++ hints).filter fun e => e.1 ≠ 0 && d.ns ≤ e.1

/-- Entries the calendar holds: the first 256. -/
def Dev.calendar (d : Dev) (timers : List (Nat × Nat)) : List (Nat × Nat) := (d.allEvents timers).take 256

/-- CAL_USED and CAL_FULL: full when an entry is not stored, until fewer than 192 are held. -/
def Dev.calendarShow (d : Dev) (timers : List (Nat × Nat)) : Dev :=
  let n := (d.allEvents timers).length
  let d := d.wr Pg.PWR Reg.PWR.CAL_USED (min n 256)
  if 256 < n then d.wr Pg.PWR Reg.PWR.CAL_FULL 1 else if n < 192 then d.wr Pg.PWR Reg.PWR.CAL_FULL 0 else d

/-- Time of the earliest entry whose mask includes the group; group 32 stands for the device. -/
def Dev.nextEvent (d : Dev) (g : Nat) (timers : List (Nat × Nat)) : Option Nat :=
  (((d.calendar timers).filter fun e => g = 32 || bitAt e.2 g).map (·.1)).min?

/-! ### Choosing (R380, R382) -/

/-- May state `s` be chosen with `t` ns to the next event? -/
def Dev.fits (d : Dev) (s : Nat) (t : Option Nat) : Bool :=
  match t with
  | none => true
  | some t => d.exitNs s + breakEvenNs s + d.guardNs ≤ t

/-- The deepest permitted state that fits; 0 when none does. -/
def Dev.chooseState (d : Dev) (g : Nat) (t : Option Nat) : Nat :=
  ([3, 2, 1].find? fun s => s ≤ d.permitted g && d.fits s t).getD 0

/-- Begin to enter a state: PS1 at once, a deeper one through PS1 until its switch opens (POWER_STATE_ENTRY_END). -/
def Dev.enterState (d : Dev) (g s : Nat) : Dev :=
  if s = 0 then d
  else { d with pow := { d.pow with
    groups := Assoc.put d.pow.groups g 1,
    entering := if s = 1 then d.pow.entering else Assoc.put d.pow.entering g s } }

/-- GROUP_IDLE: the group has no work in flight or queued; the power manager chooses its state, or asks (FUNC 0x08). -/
def Dev.groupIdle (d : Dev) (g : Nat) (timers : List (Nat × Nat)) : Dev :=
  let d := d.calendarShow timers
  if g = 0 ∨ d.keep ∨ Assoc.has d.pow.groups g ∨ Assoc.has d.pow.entering 32 ∨ (groupPages g).any d.busy = true then d
  else
    let t := (d.nextEvent g timers).map (· - d.ns)
    let s := d.chooseState g t
    let us := match t with
      | none => 2 ^ 32 - 1
      | some t => min (evenDiv t 1000) (2 ^ 32 - 1)
    if s ≠ 0 ∧ d.assisted Pg.PWR ∧ 1000000 ≤ t.getD 1000000 then
      let (d, posted) := d.postAssist
        { part := 0, tag := 0, func := 8, page := Pg.PWR, object := g, proposal := [s, us], key := g } 50
      if posted then d.enterState g 1 else d.enterState g s
    else d.enterState g s

/-- A decision of FUNC 0x08: the group, which is in PS1 since it asked, enters the state. -/
def Dev.powerDecide (d : Dev) (g s : Nat) : Dev :=
  if d.powerState g = 1 ∧ !Assoc.has d.pow.leaving g then d.enterState g s else d

/-! ### Entry and exit (R44, R45, R315, R385) -/

/-- Fields that lose their value while a page's islands are off: RO and RC fields of classes A, B and C. -/
def isVolatile (F : Fld) : Bool := (F.acc = .ro || F.acc = .rc) && (F.cls = .a || F.cls = .b || F.cls = .c)

/-- Is the field one that counts: its value starts again? -/
def isCount (F : Fld) : Bool := F.acc = .rc || F.wrap

/-- Pages lose their volatile fields (R44): counts start again from their reset value, other fields read their reset value
until the block changes them. Answers the pages that lost one. -/
def Dev.powerDown (d : Dev) (off : Page → Bool) : Dev × List Page :=
  let lost := d.regs.filter fun e => off (keyPage e.1) && (match keyField e.1 with
    | some (F, _, _) => isVolatile F
    | none => false)
  let shown := lost.filter fun e => match keyField e.1 with
    | some (F, _, _) => !isCount F
    | none => false
  let d := d.clearRegs fun pg F _ => off pg && isVolatile F && isCount F
  ({ d with pow := { d.pow with blank := shown ++ d.pow.blank.filter fun e => !shown.any fun x => x.1 = e.1 } },
    (lost.map fun e => keyPage e.1).eraseDups)

/-- Show a stack of the pages in self-refresh, or online again (R25, R378). -/
def Dev.refreshState (d : Dev) (off : Page → Bool) (from_ to_ : Nat) : Dev :=
  ((List.range 4).map Pg.HBM).foldl (fun (d : Dev) pg =>
    if off pg ∧ d.rd pg Reg.HBM.STATE = from_ then d.wr pg Reg.HBM.STATE to_ else d) d

/-- What PS4 costs beside registers: the frame pool, and what the petal LUT stores hold (R45, R384). -/
def Dev.losePool (d : Dev) : Dev :=
  let d := (List.range 16).foldl (fun (d : Dev) n => d.wr (Pg.YPTB n) Reg.YPT_B.HELD_VALID 0) d
  { d with
    cap := { d.cap with ctxs := d.cap.ctxs.map fun e => (e.1, { e.2 with prev := none }) },
    pip := { d.pip with
      bufs := [],
      encs := d.pip.encs.map fun e => (e.1, { e.2 with anchors := [], ltr := [], fresh := true }),
      decs := d.pip.decs.map fun e => (e.1, { e.2 with held := [], last := none }),
      layers := d.pip.layers.map fun e => (e.1, { e.2 with complete := [], latched := none, prev := none }) } }

/-- Does the device's power-down take a page's islands: every group but group 0? -/
def offInKeep (pg : Page) : Bool := Pg.groupOf pg ≠ 0

/-- POWER_STATE_ENTRY_END: the power switch opens, or the supply has reached the retention level. -/
def Dev.entryEnd (d : Dev) (g : Nat) : Dev :=
  match Assoc.find d.pow.entering g with
  | none => d
  | some s =>
    let slept := if 3 ≤ s then Assoc.put d.pow.stamps g (d.rd Pg.NVS Reg.NVS.EPOCH) else d.pow.stamps
    let d : Dev := { d with pow := { d.pow with
      entering := Assoc.del d.pow.entering g, groups := Assoc.put d.pow.groups g s, stamps := slept } }
    if s = 4 then
      let (d, _) := d.powerDown offInKeep
      (({ d with pow := { d.pow with marks := Pg.allPages, groups := [(32, 4)], leaving := [] } } : Dev).refreshState
        offInKeep 1 2).losePool
    else
      let off := fun pg => decide (Pg.groupOf pg = g)
      let d := d.refreshState off 1 2
      if s = 3 then
        let (d, pages) := d.powerDown off
        { d with pow := { d.pow with marks := d.pow.marks ++ pages } }
      else d

/-- Add marks to EXIT_INFO; a new mark sets INT_STAT bit 2 (R385). -/
def Dev.markExit (d : Dev) (pages : List Page) : Dev :=
  let marked := fun (d : Dev) (pg : Page) => bitAt (d.rd Pg.PWR Reg.PWR.EXIT_INFO (pg / 32)) (pg % 32)
  let fresh := pages.filter fun pg => !marked d pg
  if fresh = [] then d
  else (fresh.foldl (fun (d : Dev) pg =>
    d.wr Pg.PWR Reg.PWR.EXIT_INFO (d.rd Pg.PWR Reg.PWR.EXIT_INFO (pg / 32) ||| 2 ^ (pg % 32)) (pg / 32)) d).raise Pg.PWR 2

/-- The islands of a group that woke with another epoch are reinitialised: EPOCH_REINIT names their pages (R46, R343). -/
def Dev.reinitEnd (d : Dev) (g : Nat) : Dev :=
  let old := (Assoc.find d.pow.stamps g).getD (d.rd Pg.NVS Reg.NVS.EPOCH)
  let d : Dev := { d with pow := { d.pow with stamps := Assoc.del d.pow.stamps g } }
  if old = d.rd Pg.NVS Reg.NVS.EPOCH then d
  else (Pg.allPages.filter fun pg => if g = 32 then offInKeep pg else Pg.groupOf pg = g).foldl (fun (d : Dev) pg =>
    d.event 0 pg INFO 0x090B [BitVec.ofNat 8 pg]) d

/-- POWER_STATE_EXIT_END: the group is in PS0, or the device has left PS4; or a group that a device reset woke has been
reinitialised (R46). -/
def Dev.exitEnd (d : Dev) (g : Nat) : Dev :=
  match Assoc.find d.pow.leaving g with
  | none => if Assoc.has d.pow.groups g ∨ Assoc.has d.pow.entering g then d else d.reinitEnd g
  | some x =>
    let d : Dev := { d with pow := { d.pow with stamps := Assoc.del d.pow.stamps g } }
    let gone := fun pg => if g = 32 then offInKeep pg else decide (Pg.groupOf pg = g)
    let marked : Page → Bool := fun pg => g = 32 || gone pg
    let marks := d.pow.marks.filter marked
    let d : Dev := { d with pow := { d.pow with
      leaving := Assoc.del d.pow.leaving g, groups := Assoc.del d.pow.groups g,
      marks := d.pow.marks.filter fun pg => !marked pg } }
    let d := (d.wr Pg.PWR Reg.PWR.LAST_STATE x.state).wr Pg.PWR Reg.PWR.LAST_GROUP (if g = 32 then 31 else g)
    let d := (d.wr Pg.PWR Reg.PWR.LAST_REASON x.reason).wr Pg.PWR Reg.PWR.LAST_EXIT_US (min (2 ^ 32 - 1) (evenDiv (d.elapsed - x.start) 800))
    let d := (d.refreshState gone 2 1).markExit (if x.state = 3 ∨ x.state = 4 then marks else [])
    let d := if (match x.due with
        | some t => decide (t ≤ d.ns)
        | none => false) then
        ((d.bump Pg.PWR Reg.PWR.LATE_WAKE_CNT).event 0 Pg.PWR INFO 0x0B01 [BitVec.ofNat 8 g]).raise Pg.PWR 1
      else d
    if g = 32 then (d.event 0 Pg.PWR INFO 0x0B03).raise Pg.PWR 0 else d

/-- CALENDAR_ENTRY_DUE: the wake time of the earliest entry for a sleeping group has come: exit starts so that the group
reaches PS0 GUARD_US before the event (R380, R381). -/
def Dev.calendarDue (d : Dev) (g : Nat) (timers : List (Nat × Nat)) : Dev :=
  let d := d.calendarShow timers
  match d.nextEvent g timers with
  | some t => if t ≤ d.ns + d.guardNs + d.exitNs (d.powerState g) then d.wakeGroup g 0 (some t) else d
  | none => d

/-- GRP_MAX: partition 0 limits the groups of a DW; a group deeper than its limit exits and chooses again (R379). Group
0's field reads 0. -/
def Dev.grpMaxWrite (d : Dev) (f k v : Nat) : Dev :=
  d.checkedWrite f Pg.PWR (0x120 + 4 * k) fun d =>
    let v := v &&& (if k = 0 then 0x77777770 else 0x77777777)
    let d := d.wr Pg.PWR Reg.PWR.GRP_MAX v k
    (seqFrom (8 * k) 8).foldl (fun (d : Dev) g =>
      if d.groupMax g < max (d.powerState g) ((Assoc.find d.pow.entering g).getD 0) then d.wakeGroup g 3 else d) d

/-! ### Keep (R383, R384) -/

/-- A lane group is DISABLED, or in DETECT with no signal. -/
def Dev.groupQuiet (d : Dev) (g : Nat) : Bool :=
  d.grpState g = 0 || (d.grpState g = DETECT && (d.lanesOf g).all fun l => d.lane (d.physOf l) Reg.HLQ.SIG_DET = 0)

/-- The conditions of PS4 (R383). -/
def Dev.keepOk (d : Dev) (timers : List (Nat × Nat)) : Bool :=
  d.on Pg.PWR Reg.PWR.KEEP_EN && d.hst.cmds = [] && d.pip.takes.all (fun t => t.2.state ≠ 0) && d.pip.places = [] &&
  d.cap.frames = [] && d.hst.sessions.all (fun s => s.2.state ≠ .opened && s.2.state ≠ .hold) && (List.range 32).all d.groupQuiet &&
  (List.range 16).all (fun n => !d.on (Pg.DSP n) Reg.HDR.EN) && (List.range 48).all (fun w => d.flw w Reg.NETF.EN = 0) &&
  (List.range 16).all (fun c => !d.cadOn c) && d.fits 4 ((d.nextEvent 32 timers).map (· - d.ns))

/-- KEEP_ENTRY: entry into PS4 begins: the Ethernet and magazine links go down. -/
def Dev.keepEntry (d : Dev) (timers : List (Nat × Nat)) : Dev :=
  let d := d.calendarShow timers
  if d.keep ∨ Assoc.has d.pow.entering 32 ∨ !d.keepOk timers then d
  else
    let d := [0, 1].foldl (fun (d : Dev) p => d.wr (Pg.NET (2 * p)) Reg.NETP.LINK_UP 0) d
    let d := (List.range 8).foldl (fun (d : Dev) n => (d.wr (Pg.MAG n) Reg.MAG.LINK_WIDTH 0).wr (Pg.MAG n) Reg.MAG.LINK_GEN 0) d
    let d : Dev := { d with pow := { d.pow with entering := Assoc.put d.pow.entering 32 4 } }
    (d.bump Pg.PWR Reg.PWR.KEEP_CNT).event 0 Pg.PWR INFO 0x0B02

/-- KEEP_WAKE: one of the reasons of R384 starts exit from PS4, or cancels an entry before its point of no return. -/
def Dev.keepWake (d : Dev) (reason : Nat) : Dev := d.wakeGroup 32 reason

/-- DEV_STATE (R398). -/
def Dev.devState (d : Dev) : Nat :=
  if d.keep then (if Assoc.has d.pow.leaving 32 then 5 else 4)
  else d.pow.groups.foldl (fun a e => max a e.2) 0

/-- GRP_STATE of the groups of DW `k` (R398); in PS4 every group but group 0 is off. -/
def Dev.grpStates (d : Dev) (k : Nat) : Nat :=
  (List.range 8).foldl (fun a i =>
    let g := 8 * k + i
    a + (if d.keep then (if g = 0 then 0 else 4) else d.powerState g) * 2 ^ (4 * i)) 0

end Sys2Proof.Machine
end

