-- ==== Sys2Proof/Machine/Thermal.lean ====
section
/-! DEFINITION. Thermal: Thistle's sensors, thresholds, throttling, shedding and the trip (spec 14 R386 to R397). Every
temperature here is in 1/16 °C. -/

namespace Sys2Proof.Machine

/-- Group of a sensor (R386). -/
def sensorGroup (i : Nat) : Nat :=
  if i < 52 then Config.sensorGroup i % 32 else if i < 60 then Pg.groupOf (Pg.HBM ((i - 52) / 2)) else 0

/-- Are the sensors of a group powered: PS0, PS1 or PS2 (R386)? -/
def Dev.sensed (d : Dev) (g : Nat) : Bool := if d.keep then g = 0 else d.powerState g ≤ 2

def Dev.sensor (d : Dev) (i : Nat) : Sensor := (Assoc.find d.pow.sensors i).getD {}

def Dev.brokenSensor (d : Dev) (i : Nat) : Bool := d.rd Pg.THM Reg.THM.BROKEN i = 1

/-- The last reading of a sensor. -/
def Dev.reading (d : Dev) (i : Nat) : Int := sgn 16 (d.rd Pg.THM Reg.THM.TEMP i)

/-- What a broken sensor reads (R387). -/
def Dev.tjFail (d : Dev) : Int := 16 * d.rd Pg.THM Reg.THM.TJ_FAIL

/-- The largest reading, and the lowest sensor that gives it. -/
def hottest (l : List (Int × Nat)) : Option (Int × Nat) :=
  l.foldl (fun a e => match a with
    | none => some e
    | some b => if b.1 < e.1 then some e else a) none

/-! ### Thresholds (R389) -/

/-- Is a threshold asserted, in level or rate mode, after it was `was`? `r` is 100 times the rise in 10 ms, 1/16 °C per s; a
sensor powered for less than 10 ms gives none. -/
def asserts (was : Bool) (mode level hyst rate rateHyst : Nat) (t : Int) (r : Option Int) : Bool :=
  if mode = 0 then (if was then 16 * ((level : Int) - hyst) < t else 16 * (level : Int) ≤ t)
  else match r with
    | none => was
    | some r => if was then 16 * ((rate : Int) - rateHyst) < r else 16 * (rate : Int) ≤ r

/-- r of R389 for a temperature `t` given by sensor `i`, whose value 10 ms earlier was `old`. -/
def Dev.rise (d : Dev) (t : Int) (i : Nat) (old : Option Int) : Option Int :=
  if (d.sensor i).powered ≤ 200 then none else old.map fun o => 100 * (t - o)

/-- TJ_MAX and GROUP_T 10 ms earlier. -/
def Dev.earlier (d : Dev) : Option (Int × List (Nat × Int)) := d.pow.history[199]?

def Dev.throttled (d : Dev) (was : Bool) (t : Int) (r : Option Int) : Bool :=
  let g := fun F => d.rd Pg.THM F
  asserts was (g Reg.THM.THROT_MODE) (g Reg.THM.THROT_C) (g Reg.THM.HYST_C) (g Reg.THM.THROT_RATE) (g Reg.THM.RATE_HYST) t r

/-! ### The trip (R390, R396, R397) -/

/-- CAUSE of the trip that a maximum brings, if it brings one. -/
def Dev.tripCause (d : Dev) (t : Int) (r : Option Int) : Option Nat :=
  if d.rd Pg.THM Reg.THM.TRIP_MODE = 0 ∧ 16 * (d.rd Pg.THM Reg.THM.TRIP_C : Int) ≤ t then some 0
  else if d.rd Pg.THM Reg.THM.TRIP_MODE = 1 ∧ (match r with
      | some r => decide (16 * (d.rd Pg.THM Reg.THM.TRIP_RATE : Int) ≤ r)
      | none => false) = true then some 1
  else if 16 * 140 ≤ t then some 2 else none

/-- The thermal trip record. -/
def Dev.tripRecord (d : Dev) (i cause : Nat) (t : Int) (r : Option Int) : List Byte :=
  let levels := (List.range 16).map fun k => BitVec.ofNat 8 (d.rd Pg.THM Reg.THM.LEVEL (2 * k) + 16 * d.rd Pg.THM Reg.THM.LEVEL (2 * k + 1))
  let body := leBytes 4 0x50495254 ++ leBytes 4 (d.rd Pg.NVS Reg.NVS.EPOCH) ++ leBytes 8 d.ns ++ leBytes 1 i ++ leBytes 1 cause ++
    leBytes 2 (unsgn 16 t) ++ leBytes 2 (unsgn 16 (rndDiv (r.getD 0) 16)) ++ leBytes 1 d.shed ++
    leBytes 1 (d.powerState (sensorGroup i)) ++ leBytes 4 (d.runHours) ++ levels ++
    leBytes 8 (d.rd64 Pg.THM Reg.THM.BROKEN_LO Reg.THM.BROKEN_HI) ++ zeros 8
  body ++ leBytes 4 (crc32c body)

/-- Pin number of THERM_TRIP_N. -/
def PIN_THERM_TRIP_N : Nat := 20

/-- The device trips: the record, THERM_TRIP_N, and every clock stops until power-on. -/
def Dev.trip (d : Dev) (rec : List Byte) : Dev :=
  ({ d with
      jnl := { d.jnl with trips := (rec :: d.jnl.trips).take 64,
                          tripsLost := if d.jnl.trips.length < 64 then d.jnl.tripsLost else d.jnl.tripsLost + 1 },
      pow := { d.pow with tripped := true } } : Dev).emit (.pin PIN_THERM_TRIP_N 0 false)

/-! ### Sampling (R386, R387, R394) -/

/-- A sensor's record after a sample: `on` its group is powered, `raw` its answer. -/
def Sensor.sampled (s : Sensor) (on : Bool) (raw : Option Int) : Sensor :=
  if !on then { code := s.code }
  else match raw with
    | some c => { code := some c, same := if s.code = some c then s.same + 1 else 1, powered := s.powered + 1 }
    | none => { s with silent := s.silent + 1, powered := s.powered + 1 }

/-- CAUSE of a sensor found broken by the present sample, if it is (R387). -/
def Sensor.failure (s : Sensor) (raw : Option Int) : Option Nat :=
  match raw with
  | some c => if c < -55 * 16 ∨ 150 * 16 < c then some 1 else if 64 ≤ s.same then some 2 else none
  | none => if 3 ≤ s.silent then some 3 else none

/-- A sensor is found broken: it stays so until power-on. -/
def Dev.breakSensor (d : Dev) (i cause : Nat) : Dev :=
  let d := (d.wr Pg.THM Reg.THM.BROKEN 1 i).wr Pg.THM Reg.THM.CAUSE cause i
  let all := d.rd64 Pg.THM Reg.THM.BROKEN_LO Reg.THM.BROKEN_HI ||| 2 ^ i
  let d := (d.wr64 Pg.THM Reg.THM.BROKEN_LO Reg.THM.BROKEN_HI all).bump Pg.THM Reg.THM.SENSOR_FAIL_CNT
  (d.event 0 Pg.THM FAULT 0x0B07 [BitVec.ofNat 8 i, BitVec.ofNat 8 cause]).raise Pg.THM 3

/-- Take the sample of one sensor. -/
def Dev.sampleOne (d : Dev) (i : Nat) (raw : Option Int) : Dev :=
  let on := d.sensed (sensorGroup i)
  let d := d.wr Pg.THM Reg.THM.STALE (b2n !on) i
  if !on then d
  else
    let d := match (d.sensor i).failure raw, d.brokenSensor i with
      | some c, false => d.breakSensor i c
      | _, _ => d
    if d.brokenSensor i then d.wr Pg.THM Reg.THM.TEMP (unsgn 16 d.tjFail) i
    else match raw with
      | some c => d.wr Pg.THM Reg.THM.TEMP (unsgn 16 c) i
      | none => d

/-- Readings of the powered sensors that `sel` picks. -/
def Dev.readings (d : Dev) (sel : Nat → Bool) : List (Int × Nat) :=
  ((List.range 61).filter fun i => d.sensed (sensorGroup i) && sel i).map fun i => (d.reading i, i)

/-- Put a group in or out of a list. -/
def member (l : List Nat) (g : Nat) (v : Bool) : List Nat := if v then (if g ∈ l then l else l ++ [g]) else l.filter (· ≠ g)

/-- Evaluate a group: GROUP_T and its throttle condition, on every sensor and on those not broken (R386, R389, R392). -/
def Dev.judgeGroup (d : Dev) (g : Nat) : Dev :=
  let old := d.earlier.bind fun h => Assoc.find h.2 g
  let eval := fun (was : Bool) (l : List (Int × Nat)) => match hottest l with
    | none => false
    | some (t, i) => d.throttled was t (d.rise t i old)
  let all := d.readings fun i => sensorGroup i = g
  let hot := eval (g ∈ d.pow.hot) all
  let true_ := eval (g ∈ d.pow.hotTrue) (all.filter fun e => !d.brokenSensor e.2)
  let d := match hottest all with
    | some (t, _) => d.wr Pg.THM Reg.THM.GROUP_T (unsgn 16 t) g
    | none => d
  { d with pow := { d.pow with hot := member d.pow.hot g hot, hotTrue := member d.pow.hotTrue g true_ } }

/-- The warning threshold (R389). -/
def Dev.judgeWarn (d : Dev) (t : Int) (r : Option Int) : Dev :=
  let g := fun F => d.rd Pg.THM F
  let was := d.on Pg.THM Reg.THM.WARN
  let now := asserts was (g Reg.THM.WARN_MODE) (g Reg.THM.WARN_C) (g Reg.THM.HYST_C) (g Reg.THM.WARN_RATE) (g Reg.THM.RATE_HYST) t r
  let d := d.wr Pg.THM Reg.THM.WARN (b2n now)
  if now ∧ !was then (d.raise Pg.THM 0).event 0 Pg.THM WARN 0x0B04 else d

/-- The refresh interval of a stack (R394); once a sensor of its own is broken it stays halved (R387). -/
def Dev.judgeRefresh (d : Dev) (s : Nat) : Dev :=
  match hottest ((d.readings fun i => i = 52 + 2 * s || i = 53 + 2 * s)) with
  | none => d
  | some (t, _) =>
    let was := bits (d.rd Pg.THM Reg.THM.REFRESH_2X) s 1
    let broken := d.brokenSensor (52 + 2 * s) || d.brokenSensor (53 + 2 * s)
    let now := if broken ∨ 16 * 95 < t then 1 else if t ≤ 16 * 93 then 0 else was
    (d.wr Pg.THM Reg.THM.REFRESH_2X (setBits (d.rd Pg.THM Reg.THM.REFRESH_2X) s 1 now)).wr (Pg.HBM s) Reg.HBM.REFRESH_2X now

/-- SENSOR_SAMPLE: `raw` gives the raw code of each sensor that answers. The readings are judged against the trip before
any of them is found broken (R396). -/
def Dev.sensorSample (d : Dev) (raw : List (Option Int)) : Dev :=
  let at_ := fun i => (raw.getD i none)
  let d : Dev := { d with pow := { d.pow with sensors := (List.range 61).map fun i =>
    (i, (d.sensor i).sampled (d.sensed (sensorGroup i)) (at_ i)) } }
  let first := hottest (((List.range 61).filter fun i => d.sensed (sensorGroup i) && !d.brokenSensor i).map fun i =>
    ((at_ i).getD (d.reading i), i))
  let rate := fun (d : Dev) (m : Int × Nat) => d.rise m.1 m.2 (d.earlier.map (·.1))
  match first.bind fun m => (d.tripCause m.1 (rate d m)).map fun c => (m, c) with
  | some (m, c) => d.trip (d.tripRecord m.2 c m.1 (rate d m))
  | none =>
    let d := (List.range 61).foldl (fun (d : Dev) i => d.sampleOne i (at_ i)) d
    let d := (List.range 32).foldl (fun (d : Dev) g => d.judgeGroup g) d
    let d := match hottest (d.readings fun i => !d.brokenSensor i) with
      | none => d
      | some m =>
        let w := d.judgeWarn m.1 (rate d m)
        (w.wr Pg.THM Reg.THM.TJ_MAX (unsgn 16 m.1)).wr Pg.THM Reg.THM.TJ_MAX_SENSOR m.2
    let d := (List.range 4).foldl (fun (d : Dev) s => d.judgeRefresh s) d
    let now := (sgn 16 (d.rd Pg.THM Reg.THM.TJ_MAX), (List.range 32).map fun g => (g, sgn 16 (d.rd Pg.THM Reg.THM.GROUP_T g)))
    { d with pow := { d.pow with history := (now :: d.pow.history).take 200 } }

/-! ### Throttling and shedding (R391, R392, R395) -/

def Dev.level (d : Dev) (g : Nat) : Nat := d.rd Pg.THM Reg.THM.LEVEL g

/-- Group 0 and the groups of NVS, STR, MAG, FRC or HBM are never throttled. -/
def unthrottled (g : Nat) : Bool := g = 0 || groupHas g [0x05, 0x53, 0x52, 0x50, 0xA0]

/-- A throttle level rises by one. -/
def Dev.throttleRise (d : Dev) (g : Nat) : Dev :=
  let l := d.level g
  if 10 ≤ l then d
  else
    let d := (d.wr Pg.THM Reg.THM.LEVEL (l + 1) g).bump Pg.THM Reg.THM.THROT_STEP_CNT
    if l = 0 then (d.event 0 Pg.THM WARN 0x0B05 [BitVec.ofNat 8 g]).raise Pg.THM 1 else d

/-- The shed level moves. -/
def Dev.shedTo (d : Dev) (l : Nat) : Dev :=
  let was := d.shed
  let d := (d.wr Pg.THM Reg.THM.SHED_LEVEL l).raise Pg.THM 2
  if was < l then (d.bump Pg.THM Reg.THM.SHED_STEP_CNT).event 0 Pg.THM WARN 0x0B06 [BitVec.ofNat 8 l] else d

def Dev.shedRise (d : Dev) : Dev := if d.shed < 4 then d.shedTo (d.shed + 1) else d

/-- A rise is asked of the host in host-assisted mode (FUNC 0x09), else it is taken at once. While a request for it is
outstanding, the step waits. -/
def Dev.askStep (d : Dev) (object kind level temp : Nat) (take : Dev → Dev) : Dev :=
  if !d.assisted Pg.THM then take d
  else if d.pip.assists.any fun a => a.func = 9 && a.object = object then d
  else
    let (d, posted) := d.postAssist
      { part := 0, tag := 0, func := 9, page := Pg.THM, object := object, proposal := [kind + level * 2 ^ 8, temp], key := object } 100
    if posted then d else take d

/-- THROTTLE_STEP: THROT_STEP_US or RELEASE_STEP_US has passed; a sleeping group keeps its level. -/
def Dev.throttleStep (d : Dev) (g : Nat) : Dev :=
  if unthrottled g ∨ d.powerState g ≠ 0 then d
  else if g ∈ d.pow.hot then
    if 10 ≤ d.level g then d
    else d.askStep g 0 (d.level g + 1) (d.rd Pg.THM Reg.THM.GROUP_T g) fun d => d.throttleRise g
  else if d.level g ≠ 0 then d.wr Pg.THM Reg.THM.LEVEL (d.level g - 1) g
  else d

/-- Does the shed level rise (R392)? -/
def Dev.shedCond (d : Dev) : Bool := d.pow.hotTrue.any fun g => d.level g = 10 || unthrottled g

/-- SHED_STEP: SHED_STEP_US has passed. -/
def Dev.shedStep (d : Dev) : Dev :=
  if d.shedCond then
    if d.shed < 4 then d.askStep 0xFFFF 1 (d.shed + 1) (d.rd Pg.THM Reg.THM.TJ_MAX) Dev.shedRise else d
  else if d.shed ≠ 0 then d.shedTo (d.shed - 1)
  else d

/-- A decision of FUNC 0x09: 0 the step is taken, 1 it is skipped, 2 it and the next are taken. -/
def Dev.thermalDecide (d : Dev) (object action : Nat) : Dev :=
  let one := fun (d : Dev) => if object = 0xFFFF then d.shedRise else d.throttleRise object
  match action with
  | 0 => one d
  | 2 => one (one d)
  | _ => d

/-! ### Registers (R388) -/

/-- TJ_FAIL: a value outside THROT_C + 1 to TRIP_C − 1 is ignored. -/
def Dev.tjFailWrite (d : Dev) (f v : Nat) : Dev :=
  d.checkedWrite f Pg.THM 0x110 fun d =>
    let x := bits v 0 8
    if x < d.rd Pg.THM Reg.THM.THROT_C + 1 ∨ d.rd Pg.THM Reg.THM.TRIP_C - 1 < x then d else d.wr Pg.THM Reg.THM.TJ_FAIL x

/-- A write of the DW of THROT_C raises TJ_FAIL to THROT_C + 1 when it lies below. -/
def Dev.throtWrite (d : Dev) (f v : Nat) : Dev :=
  let d := d.plainWrite f Pg.THM 0x104 v
  let m := d.rd Pg.THM Reg.THM.THROT_C + 1
  if d.rd Pg.THM Reg.THM.TJ_FAIL < m then d.wr Pg.THM Reg.THM.TJ_FAIL m else d

end Sys2Proof.Machine
end

