-- ==== Sys2Proof/Machine/AssistReply.lean ====
section
/-! DEFINITION. AssistReply: how assist requests are resolved: by a reply, by their deadline, or by the default at once (spec
02 R51 to R55, R419, with the payloads of the blocks' chapters). -/

namespace Sys2Proof.Machine

/-- Statuses of R55. -/
def ASSIST_LATE : Status := .code 0xB0 false
def ASSIST_TAG : Status := .code 0xB1 false
def ASSIST_VALUE : Status := .code 0xB2 false
def ASSIST_OFF : Status := .code 0xB3 false

/-- The values of a FUNC 0x01 payload (R184). -/
def loopValues (p : List Nat) : Option (Nat × Nat) × Option (Nat × Nat) :=
  let v := p.getD 4 0
  (if bitAt v 0 then some (p.getD 0 0 + 2 ^ 32 * p.getD 1 0, p.getD 2 0) else none,
   if bitAt v 1 then some (bits (p.getD 3 0) 0 16, bits (p.getD 3 0) 16 16) else none)

/-- The context's proposals leave its candidate list (R160). -/
def Dev.dropProposals (d : Dev) (a : Assist) : Dev :=
  let n := bits (a.proposal.getD 0 0) 0 3
  let es := (a.proposal.drop 1).take n
  d.updCtx a.object fun x => { x with candidates := x.candidates.filter fun e => (e.1 % 65536 + e.1 / 65536 * 2 ^ 15) ∉ es }

/-- A Take receives an extent after a wait; its frames, segments and close go on (R244). -/
def Dev.giveTake (d : Dev) (n e : Nat) : Dev :=
  match d.take? n with
  | none => d
  | some t =>
    if !t.asking then d
    else
      let d := d.takeExtent n e
      let d := t.frames.foldl (fun (d : Dev) x => (d.takeTry x.frame).retire x.frame) d
      (d.writeSegments n false 4194304).takeClosing n

/-- The hardware default of a request (R54); `late`: by its deadline. -/
def Dev.assistDefault (d : Dev) (a : Assist) (late : Bool) : Dev :=
  let p := fun i => a.proposal.getD i 0
  match a.func with
  | 1 => let (ae, awb) := loopValues a.proposal; d.loopQuire a.object a.cid ae awb late
  | 2 => d.encPlan a.object a.key (bits (p 0) 0 8) (bitAt (p 0) 8) (p 1) (p 2)
  | 3 => d.decChoose a.object a.key ((Assoc.find a.extra 0).getD 0) 0
  | 4 => d.dropProposals a
  | 6 => (d.updFrame a.key fun f => { f with injectWait := false }).serveFinal a.key
  | 7 =>
    let x := d.sset a.object
    match (if x.extentFree (p 0) then some (p 0) else x.defaultExtent) with
    | some e => d.giveTake a.key e
    | none => d.updTake a.key fun t => { t with asking := false }
  | 8 => d.powerDecide a.object (p 0)
  | 9 => d.thermalDecide a.object 0
  | _ => d

/-- A request is no longer outstanding; `how` it was resolved without a reply. -/
def Dev.dropAssist (d : Dev) (a : Assist) (how : Option Resolved) : Dev :=
  let out := d.pip.assists.filter fun x => !(x.part = a.part && x.tag = a.tag)
  let res := d.pip.resolved.filter fun x => !(x.1 = a.part && x.2.1 = a.tag)
  { d with pip := { d.pip with assists := out, resolved := match how with
      | some h => res ++ [(a.part, a.tag, a.func, a.page, h)]
      | none => res } }

/-- Outstanding requests are resolved by their defaults at once, and counted (R419, R50). -/
def Dev.assistsOff (d : Dev) (sel : Assist → Bool) (how : Option Resolved) : Dev :=
  (d.pip.assists.filter sel).foldl (fun (d : Dev) a =>
    ((d.dropAssist a how).bump a.page Reg.HDR.TIMEOUT_CNT).assistDefault a false) d

/-- MODE of a page becomes 0: its requests are resolved (R419). -/
def Dev.leaveAssist (d : Dev) (pg : Page) : Dev :=
  (d.wr pg Reg.HDR.MODE 0).assistsOff (fun a => a.page = pg) (some .off)

/-- ASSIST_DEADLINE: a request reaches its effective deadline (R53). -/
def Dev.assistTimeout (d : Dev) (part tag : Nat) : Dev :=
  match d.pip.assists.find? fun a => a.part = part && a.tag = tag with
  | none => d
  | some a =>
    let d := ((d.dropAssist a (some .late)).assistDefault a true).bump a.page Reg.HDR.TIMEOUT_CNT
    if d.on a.page Reg.HDR.FALLBACK then
      let data := leBytes 1 a.func ++ zeros 1 ++ leBytes 2 tag
      let owner := d.pageOwner a.page
      let d := (d.leaveAssist a.page).event owner a.page WARN 0x0102 data
      if owner = part then d else d.event part a.page WARN 0x0102 data
    else d

/-- The bits of DW9 to DW15 of a reply that its function's payload names (R149, R160, R162, R184, R244, R271, R277, R382, R395). -/
def replyMask (func : Nat) : List Nat :=
  let all := 2 ^ 32 - 1
  match func with
  | 1 => [all, all, all, all, 3]
  | 2 => [0x1FF, all, all]
  | 3 => [3]
  | 4 => [0x3F]
  | 5 => [1]
  | 6 => [all, all, 0x0FFF0FFF]
  | 7 => [all]
  | 8 => [7, all]
  | 9 => [0x30F01, 0xFFFF]
  | _ => []

/-- Are the reserved fields of a reply's payload 0 (R4)? -/
def replyClear (func : Nat) (r : Nat → Nat) : Bool :=
  r 0 / 2 = 0 && (List.range 7).all fun i => r (i + 1) &&& (replyMask func).getD i 0 == r (i + 1)

/-- Is a reply's payload (DW8 on) in range, its reserved fields 0? -/
def Dev.replyOk (d : Dev) (a : Assist) (r : Nat → Nat) : Bool :=
  replyClear a.func r && match a.func with
  | 1 =>
    let (ae, awb) := loopValues ((seqFrom 1 7).map r)
    (match ae with
      | some (e, _) => decide (e ≠ 0)
      | none => true) && (match awb with
      | some (x, y) => 1024 ≤ x && 1024 ≤ y
      | none => true)
  | 2 => d.encReplyOk a.object (bits (r 1) 0 8) (r 3)
  | 3 => bits (r 1) 0 2 ≠ 3
  | 4 =>
    let n := ((List.range (bits (a.proposal.getD 0 0) 0 3)).filter fun i => bitAt (r 1) i).length
    d.mapCountHeld a.object + n ≤ 262144
  | 6 => 1 ≤ bits (r 3) 0 12 && bits (r 3) 0 12 + bits (r 3) 16 12 ≤ 2816
  | 7 => (d.sset a.object).extentFree (r 1)
  | 8 => 1 ≤ bits (r 1) 0 3 && bits (r 1) 0 3 ≤ d.permitted a.object
  | 9 => bits (r 1) 16 2 ≠ 3
  | _ => true

/-- A reply governs the decision; `bs` are the bytes of FUNC 0x06. -/
def Dev.replyApply (d : Dev) (c : Cmd) (a : Assist) (r : Nat → Nat) (bs : List Byte) : Dev :=
  match a.func with
  | 1 => let (ae, awb) := loopValues ((seqFrom 1 7).map r); d.loopQuire a.object a.cid ae awb false
  | 2 => d.encPlan a.object a.key (bits (r 1) 0 8) (bitAt (r 1) 8) (r 2) (r 3)
  | 3 => d.decChoose a.object a.key ((Assoc.find a.extra 0).getD 0) (bits (r 1) 0 2)
  | 4 =>
    let es := (a.proposal.drop 1).zipIdx.filterMap fun e =>
      if e.2 < bits (a.proposal.getD 0 0) 0 3 ∧ bitAt (r 1) e.2 then some e.1 else none
    let d := d.dropProposals a
    if es = [] then d else d.calGive { part := c.part, asn := c.asn, ctx := a.object, insert := es, software := false }
  | 5 =>
    if bitAt (r 1) 0 then
      d.calGive { part := c.part, asn := c.asn, ctx := a.object, cells := a.extra.map fun e => (e.1, BitVec.ofNat 8 e.2),
                  software := false }
    else d
  | 6 => (d.updFrame a.key fun f =>
      { f with injectWait := false, inject := some (bs, bits (r 3) 16 12), flags := f.flags ||| 2 ^ 13 }).serveFinal a.key
  | 7 => d.giveTake a.key (r 1)
  | 8 => d.powerDecide a.object (bits (r 1) 0 3)
  | 9 => d.thermalDecide a.object (bits (r 1) 16 2)
  | _ => d

/-- The request that an ASSIST_REPLY names, or the end of the reply: its tag is unknown, or was resolved before (R55). -/
def Dev.replyTo (d : Dev) (c : Cmd) (k : Assist → Dev) : Dev :=
  let tag := sf c.entry 1 0 16
  let func := sf c.entry 1 16 8
  match d.pip.assists.find? fun a => a.part = c.part && a.tag = tag && a.func = func with
  | some a => k a
  | none => match d.pip.resolved.find? fun x => x.1 = c.part && x.2.1 = tag && x.2.2.1 = func with
    | some (_, _, _, pg, .late) => (d.bump pg Reg.HDR.LATE_CNT).complete c ASSIST_LATE
    | some (_, _, _, _, .off) => d.complete c ASSIST_OFF
    | none => d.complete c ASSIST_TAG

/-- Bytes that a reply to FUNC 0x06 carries. -/
def replyLen (c : Cmd) : Nat := if c.part < 64 then sf c.entry 11 0 12 else dwAt c.entry 6

/-- ASSIST_REPLY (R55); the data of FUNC 0x06 moves first. -/
def Dev.assistReply (d : Dev) (c : Cmd) : Dev :=
  let r := fun i => dwAt c.entry (8 + i)
  d.replyTo c fun a =>
    if bitAt (r 0) 0 then ((d.dropAssist a none).assistDefault a false).succeed c 1
    else if !d.replyOk a r ∨ (a.func = 6 ∧ replyLen c ≠ sf c.entry 11 0 12) then
      ((d.dropAssist a none).assistDefault a false).complete c ASSIST_VALUE
    else if a.func = 6 then d.startMove c (replyLen c)
    else ((d.dropAssist a none).replyApply c a r []).succeed c 1

/-- The data of a reply to FUNC 0x06 has arrived (R149). -/
def Dev.assistReplyEnd (d : Dev) (c : Cmd) : Dev :=
  let r := fun i => dwAt c.entry (8 + i)
  d.replyTo c fun a =>
    let src := if c.part < 64 then { c with entry := (c.entry.set 2 (dwAt c.entry 9)).set 3 (dwAt c.entry 10) } else c
    match d.dataIn src 2 (replyLen c) with
    | .error st => d.complete c st
    | .ok bs => ((d.dropAssist a none).replyApply c a r bs).succeed c 1

end Sys2Proof.Machine
end

