-- ==== Sys2Proof/Machine/Board.lean ====
section
/-! DEFINITION. Board: general-purpose pins, the xSPI port, I2C masters, the UART, boundary scan and the core voltage
(spec 15 R400, R413 to R417). -/

namespace Sys2Proof.Machine

/-! ### GPIO (R413) -/

/-- GPIO_EDGE: the sampled level of pin `i` becomes `high`. -/
def Dev.gpioEdge (d : Dev) (i : Nat) (high : Bool) : Dev :=
  let was := bitAt (d.rd Pg.GPI Reg.GPI.IN) i
  if was = high then d
  else
    let d := d.wr Pg.GPI Reg.GPI.IN (setBits (d.rd Pg.GPI Reg.GPI.IN) i 1 (b2n high))
    if bitAt (d.rd Pg.GPI (if high then Reg.GPI.EDGE_RISE else Reg.GPI.EDGE_FALL)) i then
      (d.wr64 Pg.GPI Reg.GPI.EDGE_NS_LO Reg.GPI.EDGE_NS_HI d.ns i).raise Pg.GPI i
    else d

/-! ### xSPI (R414) -/

/-- XSP_COMMIT: MAX_MHZ enters the journal store. -/
def Dev.xspCommit (d : Dev) (f v : Nat) : Dev :=
  d.checkedWrite f Pg.XSP 0x110 fun d =>
    if bitAt v 0 then { d with brd := { d.brd with maxMhz := d.rd Pg.XSP Reg.XSP.MAX_MHZ } } else d

/-! ### I2C (R415) -/

/-- Bytes of an I2C page's DATA. -/
def Dev.i2cData (d : Dev) (n : Nat) : List Byte := (List.range 4).flatMap fun i => leBytes 4 (d.rd (Pg.I2C n) Reg.I2C.DATA i)

/-- The master drives its transfer: the address, WLEN bytes of DATA, then RLEN bytes are read (R415). -/
def Dev.i2cStart (d : Dev) (n : Nat) : Dev :=
  match Assoc.find d.brd.i2c n with
  | some (addr, wlen, rlen) => d.emit (.i2c n addr ((d.i2cData n).take wlen) rlen)
  | none => d

/-- EN of an I2C page returns to 1: the transfer that waited starts (R37). -/
def Dev.i2cResume (d : Dev) (n : Nat) : Dev :=
  if d.brd.i2cHeld.contains n then
    ({ d with brd := { d.brd with i2cHeld := d.brd.i2cHeld.filter (· ≠ n) } } : Dev).i2cStart n
  else d

/-- I2C_TRANSFER: a write of CMD; GO starts a transfer, or one that waits while EN = 0 (R37). -/
def Dev.i2cCmd (d : Dev) (f n v : Nat) : Dev :=
  let pg := Pg.I2C n
  d.checkedWrite f pg 0x104 fun d =>
    let busy := d.on pg Reg.I2C.BUSY
    let d := d.plainWrite f pg 0x104 v
    if !bitAt v 31 ∨ busy then d
    else if n = 0 ∧ bits v 0 7 = 0x40 then d.error pg 0
    else
      let d : Dev := { d with brd := { d.brd with i2c := Assoc.put d.brd.i2c n (bits v 0 7, bits v 8 5, bits v 16 5) } }
      let d := (d.wr pg Reg.I2C.BUSY 1).wr pg Reg.I2C.DONE 0
      if d.on pg Reg.HDR.EN then d.i2cStart n
      else { d with brd := { d.brd with i2cHeld := n :: d.brd.i2cHeld } }

/-- I2C_TRANSFER_END: the stop, or SCL held low for more than 25 ms. -/
def Dev.i2cEnd (d : Dev) (n result count : Nat) (data : List Byte) : Dev :=
  let pg := Pg.I2C n
  match if d.brd.i2cHeld.contains n then none else Assoc.find d.brd.i2c n with
  | none => d
  | some (_, _, rlen) =>
    let d : Dev := { d with brd := { d.brd with i2c := Assoc.del d.brd.i2c n } }
    let old := d.i2cData n
    let read := data.take (min rlen 16)
    let new := read ++ old.drop read.length
    let d := (List.range 4).foldl (fun (d : Dev) i => d.wr pg Reg.I2C.DATA (ofLe ((new.drop (4 * i)).take 4)) i) d
    let d := (((d.wr pg Reg.I2C.BUSY 0).wr pg Reg.I2C.DONE 1).wr pg Reg.I2C.RESULT result).wr pg Reg.I2C.COUNT count
    let d := match result with
      | 1 | 2 => d.bump pg Reg.I2C.NACK_CNT
      | 3 => d.bump pg Reg.I2C.STUCK_CNT
      | _ => d
    d.raise pg 0

/-! ### UART (R416) -/

/-- TX_DATA: a byte to send, while the host owns the UART and the FIFO has room; one written while EN = 0 waits (R37). -/
def Dev.uartTxData (d : Dev) (f v : Nat) : Dev :=
  d.checkedWrite f Pg.UAR 0x104 fun d =>
    if d.on Pg.UAR Reg.UAR.HOST_OWN ∧ d.brd.uartTx.length < 64 then
      { d with brd := { d.brd with
        uartTx := d.brd.uartTx ++ [BitVec.ofNat 8 (v % 256)],
        uartHeld := if d.on Pg.UAR Reg.HDR.EN then d.brd.uartHeld else d.brd.uartHeld + 1 } }
    else d

/-- UART_CHARACTER_SENT: the oldest byte has left. -/
def Dev.uartSent (d : Dev) : Dev :=
  match if d.brd.uartTx.length ≤ d.brd.uartHeld then [] else d.brd.uartTx with
  | [] => d
  | b :: r =>
    let d := ({ d with brd := { d.brd with uartTx := r } } : Dev).emit (.uart b)
    if r = [] then d.raise Pg.UAR 1 else d

/-- UART_RECEIVE: a character arrives; one with a framing error is lost, as is one that finds the FIFO full. -/
def Dev.uartReceive (d : Dev) (b : Byte) (framing : Bool) : Dev :=
  if framing then d.bump Pg.UAR Reg.UAR.FRAME_ERR_CNT
  else if 64 ≤ d.brd.uartRx.length then d.bump Pg.UAR Reg.UAR.RX_OVF_CNT
  else ({ d with brd := { d.brd with uartRx := d.brd.uartRx ++ [b] } } : Dev).raise Pg.UAR 0

/-- What a read of RX_DATA takes: its DW, and the byte leaves the FIFO. -/
def Dev.uartRead (d : Dev) : Dev :=
  match d.brd.uartRx with
  | [] => { d with reply := [0] }
  | b :: r => { d with brd := { d.brd with uartRx := r }, reply := [b.toNat + 256] }

/-! ### Boundary scan (R417) -/

/-- The IDCODE register. -/
def IDCODE : Nat := 0xB7160A6B

/-- Is a TAP instruction restricted to PERST_N low? -/
def jtagRestricted (k : Nat) : Bool := 3 ≤ k

/-- JTAG_INSTRUCTION: Capture-IR shifts out 0b001, or 0b101 after a fallback; then instruction `k` is loaded, or BYPASS. -/
def Dev.jtagLoad (d : Dev) (k : Nat) : Dev :=
  let fall : Bool := jtagRestricted k && !d.brd.perst
  { d with reply := [if d.brd.jtagFell then 5 else 1],
           brd := { d.brd with jtag := if fall then 0 else k, jtagFell := fall } }

/-! ### Core voltage (R400) -/

/-- Set the boot stage, its pins and SYS.STAGE (R407). -/
def Dev.setStage (d : Dev) (s : Nat) : Dev :=
  (({ d with brd := { d.brd with stage := s } } : Dev).wr Pg.SYS Reg.SYS.STAGE s).console 0 s

/-- An AVS command is acknowledged. -/
def Dev.avsTaken (d : Dev) (mv : Nat) : Dev :=
  let d : Dev := { d with brd := { d.brd with avsAcked := true } }
  let d := (d.wr Pg.SYS Reg.SYS.AVS_MV mv).wr Pg.SYS Reg.SYS.AVS_FAIL 0
  if d.brd.stage = 7 then d.setStage 0 else d

/-- AVS_COMMAND: the device writes a new VOUT_COMMAND: first the fused target, then steps of at most 5 mV. -/
def Dev.avsCommand (d : Dev) (mv : Nat) (ack : Bool) : Dev :=
  let old := d.rd Pg.SYS Reg.SYS.AVS_MV
  if mv < 650 ∨ 800 < mv then d
  else if !d.brd.avsAcked then
    (if d.brd.stage = 0 then (if ack then d.avsTaken mv else d.setStage 7) else d)
  else if d.on Pg.SYS Reg.SYS.AVS_FAIL ∨ old + 5 < mv ∨ mv + 5 < old then d
  else if ack then d.avsTaken mv
  else (d.wr Pg.SYS Reg.SYS.AVS_FAIL 1).event 0 Pg.SYS FAULT 0x090F

/-- AVS_RETRY: 100 ms after a command that was not acknowledged: the target again at boot, afterwards the last command. -/
def Dev.avsRetry (d : Dev) (mv : Nat) (ack : Bool) : Dev :=
  if d.brd.stage = 7 ∧ !d.brd.avsAcked then (if ack ∧ 650 ≤ mv ∧ mv ≤ 800 then d.avsTaken mv else d)
  else if d.on Pg.SYS Reg.SYS.AVS_FAIL ∧ ack then d.avsTaken (d.rd Pg.SYS Reg.SYS.AVS_MV)
  else d

end Sys2Proof.Machine
end

