-- ==== Sys2Proof/Machine/Firmware.lean ====
section
/-! DEFINITION. Firmware: image slots, staging, activation and the management core pairs (spec 12 R341, R342, R347, R348;
spec 15 R405). -/

namespace Sys2Proof.Machine

/-- A byte of a flash slot; erased flash reads 0xFF. -/
def FwSlot.byte (s : FwSlot) (o : Nat) : Byte := Sparse.get s.image o 0xFF

def FwSlot.bytes (s : FwSlot) (o n : Nat) : List Byte := (seqFrom o n).map s.byte

def Dev.fwSlot (d : Dev) (k : Nat) : FwSlot := if k = 0 then d.jnl.slotA else d.jnl.slotB

def Dev.setFwSlot (d : Dev) (k : Nat) (s : FwSlot) : Dev :=
  { d with jnl := if k = 0 then { d.jnl with slotA := s } else { d.jnl with slotB := s } }

/-- State of a slot: 0 EMPTY, 1 STAGING, 2 VALID, 3 BAD. -/
def Dev.slotState (d : Dev) (k : Nat) : Nat := d.rd Pg.FWM (if k = 0 then Reg.FWM.SLOT_A else Reg.FWM.SLOT_B)

def Dev.setSlotState (d : Dev) (k v : Nat) : Dev := d.wr Pg.FWM (if k = 0 then Reg.FWM.SLOT_A else Reg.FWM.SLOT_B) v

/-- IMAGE_REV, KEY_ID and KIND of a header: the fields in the order of the list, from offset 0. -/
def imageRev (bytes : Nat → Nat → List Byte) : Nat := ofLe (bytes 4 4)

def imageKind (bytes : Nat → Nat → List Byte) : Nat := ofLe (bytes 13 1)

/-- The first check of R405 that an image fails, from MAGIC on. -/
def Dev.imageFault (d : Dev) (bytes : Nat → Nat → List Byte) (hostLen : Option Nat) : Option Nat :=
  let len := ofLe (bytes 8 4)
  let key := ofLe (bytes 12 1)
  if ofLe (bytes 0 4) ≠ 0x4D524946 then some 1
  else if len < 0x2000 ∨ 2 ^ 26 < len ∨ (match hostLen with
      | some n => n ≠ len
      | none => false) = true then some 2
  else if d.rd Pg.SCU Reg.SCU.BOOT_KEY < key ∨ bitAt (d.rd Pg.SCU Reg.SCU.KEY_REVOKED) key = true then some 3
  else if !Config.bootSignatureValid key (bytes 0 0x80 ++ bytes 0x1000 (len - 0x1000)) (bytes 0x80 96) then some 4
  else none

/-- Count a failure of codes 3 and 4. -/
def Dev.countVerify (d : Dev) (code : Nat) : Dev :=
  if code = 3 ∨ code = 4 then d.bump Pg.SCU Reg.SCU.VERIFY_FAIL_CNT else d

/-! ### Staging (R347) -/

/-- Is the slot the one whose image runs? -/
def Dev.slotRuns (d : Dev) (k : Nat) : Bool := d.rd Pg.SYS Reg.SYS.SOURCE ≠ 2 && d.rd Pg.FWM Reg.FWM.ACTIVE_SLOT = k

/-- FW_STAGE starts: the chunk moves in. -/
def Dev.fwStage (d : Dev) (c : Cmd) : Dev :=
  let len := dwAt c.entry 6
  let off := dwAt c.entry 9
  let k := sf c.entry 8 0 1
  if len < 4096 ∨ 2 ^ 20 < len ∨ len % 4096 ≠ 0 ∨ off % 4096 ≠ 0 ∨ 2 ^ 26 < off + len then d.complete c .INVALID_FIELD
  else if d.slotRuns k then d.complete c .FW_SLOT
  else if d.jnl.activation.isSome then d.complete c .FW_BUSY
  else if sf c.entry 8 1 1 = 0 ∧ d.slotState k ≠ 1 then d.complete c .INVALID_FIELD
  else d.startMove c len

/-- The chunk has arrived: it is written to the slot; after the last one the image is verified. -/
def Dev.fwStageEnd (d : Dev) (c : Cmd) : Dev :=
  let k := sf c.entry 8 0 1
  match d.dataIn c 2 (dwAt c.entry 6) with
  | .error st => d.complete c st
  | .ok bs =>
    let d := if sf c.entry 8 1 1 = 1 then
        ((d.setFwSlot k {}).setSlotState k 1).bump Pg.XSP (if k = 0 then Reg.XSP.ERASE_A else Reg.XSP.ERASE_B)
      else d
    let off := dwAt c.entry 9
    let d := d.setFwSlot k { image := bs.zipIdx.foldl (fun m e => Sparse.set m (off + e.2) e.1 0xFF) (d.fwSlot k).image }
    if sf c.entry 8 2 1 = 0 then d.succeed c
    else match d.imageFault (d.fwSlot k).bytes none with
      | some code => ((d.countVerify code).setSlotState k 3).complete c .FW_IMAGE
      | none =>
        let rev := imageRev (d.fwSlot k).bytes
        ((d.setSlotState k 2).wr Pg.FWM (if k = 0 then Reg.FWM.REV_A else Reg.FWM.REV_B) rev).succeed c rev

/-! ### Activation (R348) -/

/-- State of a management core pair: 0 ACTIVE, 1 STANDBY, 2 LOADING, 3 FAILED. -/
def Dev.pair (d : Dev) (k : Nat) : Nat := d.rd Pg.FWM (if k = 0 then Reg.FWM.PAIR0 else Reg.FWM.PAIR1)

def Dev.setPair (d : Dev) (k v : Nat) : Dev := d.wr Pg.FWM (if k = 0 then Reg.FWM.PAIR0 else Reg.FWM.PAIR1) v

/-- The pair that runs the firmware. -/
def Dev.activePair (d : Dev) : Nat := if d.pair 0 = 0 then 0 else 1

/-- FW_ACTIVATE: a hot image is loaded by the standby pair; a cold one becomes the boot slot. -/
def Dev.fwActivate (d : Dev) (c : Cmd) : Dev :=
  let k := sf c.entry 8 0 1
  let standby := 1 - d.activePair
  if d.jnl.failedPairs ≠ [] then d.complete c .FW_SLOT
  else if d.jnl.activation.isSome then d.complete c .FW_BUSY
  else if d.pair standby ≠ 1 then d.complete c .FW_SLOT
  else if d.slotState k ≠ 2 then d.complete c .FW_SLOT
  else if imageKind (d.fwSlot k).bytes = 1 then
    (({ d with jnl := { d.jnl with cold := true } } : Dev).wr Pg.FWM Reg.FWM.BOOT_SLOT k).succeed c 0 .FW_COLD
  else
    let a : Activation := { part := c.part, asn := c.asn, slot := k, persist := sf c.entry 8 1 1 = 1, pair := standby }
    let d : Dev := { d with jnl := { d.jnl with activation := some a } }
    ((d.setCmd { c with phase := .running }).wr Pg.FWM Reg.FWM.ACT_STATE 1).setPair standby 2

/-- STANDBY_READY: the seam begins: fetching pauses, for a time of at most 2 ms that the manual leaves open. -/
def Dev.standbyReady (d : Dev) : Dev :=
  match d.jnl.activation with
  | some a =>
    if d.rd Pg.FWM Reg.FWM.ACT_STATE ≠ 1 ∨ d.held Pg.FWM then d
    else
      let pause := d.freeNow 16 % 2001
      (({ d with jnl := { d.jnl with activation := some { a with seam := d.elapsed, pause := pause } } } : Dev).freeStep).wr Pg.FWM
        Reg.FWM.ACT_STATE 2
  | none => d

/-- The seam ends: fetching resumes, and the new firmware takes over function by function (R348 step 3). -/
def Dev.seamOver (d : Dev) (a : Activation) : Dev :=
  if d.rd Pg.FWM Reg.FWM.ACT_STATE ≠ 2 then d
  else (d.wr Pg.FWM Reg.FWM.FETCH_PAUSE_US (min a.pause ((d.elapsed - a.seam) / 800))).wr Pg.FWM Reg.FWM.ACT_STATE 3

/-- At a tick: the seam is over once its pause has passed. -/
def Dev.seamDue (d : Dev) : Dev :=
  match d.jnl.activation with
  | some a => if a.seam + 800 * a.pause ≤ d.elapsed then d.seamOver a else d
  | none => d

/-- The activation ends: its command completes. -/
def Dev.endActivation (d : Dev) (a : Activation) (ok : Bool) : Dev :=
  let d : Dev := { d with jnl := { d.jnl with activation := none } }
  let d := d.wr Pg.FWM Reg.FWM.ACT_STATE 0
  let d := match d.cmd? a.part a.asn with
    | none => d
    | some c => if ok then d.succeed c (imageRev (d.fwSlot a.slot).bytes) else d.complete c .FW_ACT_FAILED
  d.raise Pg.FWM 0

/-- The activation fails: the old image runs on. -/
def Dev.failActivation (d : Dev) (a : Activation) : Dev :=
  ((d.bump Pg.FWM Reg.FWM.ACT_FAIL_CNT).event 0 Pg.FWM FAULT 0x090D).endActivation a false

/-- HANDOVER: the new firmware has taken every management function. -/
def Dev.handover (d : Dev) : Dev :=
  match d.jnl.activation with
  | some a =>
    if d.rd Pg.FWM Reg.FWM.ACT_STATE < 2 ∨ d.held Pg.FWM then d
    else
      let d := ((d.seamOver a).setPair a.pair 0).setPair (1 - a.pair) 2
      let d := (d.wr Pg.FWM Reg.FWM.ACTIVE_SLOT a.slot).wr Pg.SYS Reg.SYS.SOURCE a.slot
      let d := if a.persist then d.wr Pg.FWM Reg.FWM.BOOT_SLOT a.slot else d
      let d := d.wr Pg.FWM Reg.FWM.HANDOVER_MS (evenDiv (d.elapsed - a.seam) 800000)
      (d.event 0 Pg.FWM INFO 0x090C).endActivation a true
  | none => d

/-- HANDOVER_TIMEOUT: the old firmware resumes on its pair. -/
def Dev.handoverTimeout (d : Dev) : Dev :=
  match d.jnl.activation with
  | some a =>
    if d.rd Pg.FWM Reg.FWM.ACT_STATE < 2 ∨ d.held Pg.FWM then d else (((d.seamOver a).setPair a.pair 1).setSlotState a.slot 3).failActivation a
  | none => d

/-- STANDBY_RESTART: the other pair has restarted with the new image. -/
def Dev.standbyRestart (d : Dev) : Dev :=
  if d.jnl.activation.isSome ∨ d.held Pg.FWM then d
  else [0, 1].foldl (fun (d : Dev) k => if d.pair k = 2 then d.setPair k 1 else d) d

/-- Admin commands run again from their start on the pair that takes over (R341). -/
def Dev.rerunAdmin (d : Dev) : Dev :=
  { d with hst := { d.hst with cmds := d.hst.cmds.map fun e =>
      if e.2.queue = 0 ∧ !e.2.effect then (e.1, { e.2 with phase := .waiting, rx := [], window := none }) else e } }

/-- MGMT_PAIR_FAILURE: a pair fails for good; the standby takes over from the active one, and an activation fails. -/
def Dev.pairFails (d : Dev) (k : Nat) : Dev :=
  if d.pair k = 3 then d
  else
    let active := d.pair k = 0
    let other := 1 - k
    let d : Dev := { d with jnl := { d.jnl with failedPairs := d.jnl.failedPairs ++ [k] } }
    let d := ((d.setPair k 3).wr Pg.SYS Reg.SYS.MGMT_FAILED 1).raise Pg.FWM 1
    let d := match d.jnl.activation with
      | some a => (if a.pair = k then d else d.setPair a.pair 1).failActivation a
      | none => d
    if active ∧ d.pair other ≠ 3 then
      (((d.setPair other 0).bump Pg.FWM Reg.FWM.FAILOVER_CNT).event 0 Pg.FWM FAULT 0x0905).rerunAdmin
    else d

end Sys2Proof.Machine
end

