-- ==== Sys2Proof/Machine/Queues.lean ====
section
/-! DEFINITION. Queues: queue pairs, doorbells, fetching and acceptance, rings and features (spec 11 R303 to R312, R316). -/

namespace Sys2Proof.Machine

/-! ### Doorbells (R306) -/

/-- An invalid doorbell: counted, with a WARN event at most once per second. -/
def Dev.badDoorbell (d : Dev) (p : PartId) : Dev :=
  let d := d.bump (qmg p).1 Reg.QMG.DB_INVALID_CNT (qmg p).2
  if d.due (d.part p).dbWarned then
    (d.updPart p fun r => { r with dbWarned := some d.elapsed }).event p (qmg p).1 WARN 0x0801
  else d

/-- The pages that the entries of an SQ from the old tail on need, as host memory stands (R315). -/
def Dev.tailPages (d : Dev) (p : PartId) (x : Queue) (v : Nat) : List Page :=
  if d.allAwake then []
  else (List.range ((v + x.sqDepth - x.sqTail) % x.sqDepth)).flatMap fun i =>
    opPages (d.hostByte p (x.sqBase + 64 * ((x.sqTail + i) % x.sqDepth))).toNat

/-- Do the island groups that a command needs run (R315)? -/
def Dev.groupsUp (d : Dev) (op : Nat) : Bool :=
  d.allAwake || !(opPages op).any fun pg => Assoc.has d.pow.groups (Pg.groupOf pg)

/-- SQ_TAIL: entries become available for fetch (R306); the groups their commands need wake (R315). -/
def Dev.sqTail (d : Dev) (p q v : Nat) : Dev :=
  if !d.hasFn p ∨ !d.running then d
  else match (d.wake [] 1).queue? p q with
    | none => (d.wake [] 1).badDoorbell p
    | some x => if x.sqDepth ≤ v then (d.wake [] 1).badDoorbell p else (d.wake (opPages 0 ++ d.tailPages p x v) 1).setQueue p q { x with sqTail := v }

/-- CQ_HEAD: completion entries return to the device; when entries stay unreturned the next interrupt does not wait for
coalescing (R306, R308). A head equal to the present one has no effect. -/
def Dev.cqHead (d : Dev) (p q v : Nat) : Dev :=
  if !d.hasFn p ∨ !d.running then d
  else match d.queue? p q with
    | none => d.badDoorbell p
    | some x =>
      let d := d.wake [] 1
      if x.cqDepth ≤ v ∨ x.unreturned < (v + x.cqDepth - x.cqHead) % x.cqDepth then d.badDoorbell p
      else if v = x.cqHead then d
      else
        let x := { x with cqHead := v }
        let d := d.setQueue p q x
        if x.irqEn ∧ x.unreturned ≠ 0 then d.cqInterrupt p q else d

/-- The head of a ring moves to `v`, unless the value is invalid (R306). -/
def Ring.toHead (r : Ring) (v : Nat) : Option Ring :=
  if r.depth ≤ v ∨ r.used < (v + r.depth - r.head) % r.depth then none else some { r with head := v }

/-- EVT_HEAD: event ring entries return to the device. -/
def Dev.evtHead (d : Dev) (p v : Nat) : Dev :=
  if !d.hasFn p ∨ !d.running then d
  else match (d.part p).evt.bind (·.toHead v) with
    | none => d.badDoorbell p
    | some g => (d.wake [] 1).updPart p fun r => { r with evt := some g }

/-- AST_HEAD: assist ring entries return to the device. -/
def Dev.astHead (d : Dev) (p v : Nat) : Dev :=
  if !d.hasFn p ∨ !d.running then d
  else match (d.part p).ast.bind (·.toHead v) with
    | none => d.badDoorbell p
    | some g => (d.wake [] 1).updPart p fun r => { r with ast := some g }

/-- CQ_COALESCE_TIMEOUT: COAL_US has passed since the first entry posted after the last interrupt (R308). -/
def Dev.cqTimeout (d : Dev) (p q : Nat) : Dev :=
  match d.queue? p q with
  | none => d
  | some x => if x.irqEn ∧ x.sinceIrq ≠ 0 ∧ x.unreturned ≠ 0 then d.cqInterrupt p q else d

/-! ### Range locks (R311, R312) -/

/-- Entries of the range-lock table that a partition holds. -/
def Dev.locksOf (d : Dev) (p : PartId) : Nat := (d.hst.locks.filter (·.part = p)).length

def Dev.lockQuota (d : Dev) (p : PartId) : Nat := d.rd Pg.RLK Reg.RLK.QUOTA p

/-- Does a command with this lock wait for another one (R311)? A placement that replay writes again precedes every
command. -/
def RangeLock.waits (l : RangeLock) (ls : List RangeLock) : Bool :=
  ls.any fun x => x.part = l.part && x.set = l.set && (x.replayed || x.asn < l.asn) && !(x.asn = l.asn && !x.replayed) &&
    x.lo < l.lo + l.len && l.lo < x.lo + x.len && (x.write || l.write)

/-- Take the entry of a STORE command at acceptance. -/
def Dev.takeLock (d : Dev) (c : Cmd) : Dev :=
  if !storeEntry c.entry then d
  else
    let l : RangeLock := { part := c.part, set := sf c.entry 1 0 3, asn := c.asn, lo := dw64 c.entry 10, len := dwAt c.entry 6,
                           write := opcode c.entry = 0x81 }
    let d := if l.waits d.hst.locks then d.bump Pg.RLK Reg.RLK.WAIT_CNT else d
    let d : Dev := { d with hst := { d.hst with locks := d.hst.locks ++ [l] } }
    let d := d.wr Pg.RLK Reg.RLK.PEAK (max (d.rd Pg.RLK Reg.RLK.PEAK) d.hst.locks.length)
    if d.locksOf c.part = d.lockQuota c.part then d.bump Pg.RLK Reg.RLK.FULL_STALL_CNT else d

/-! ### Acceptance (R309) -/

/-- Accept an entry: it takes the next ASN with its ACCEPT record; a Quire's contents are the shadow bank as it stands
(R34), a STORE command takes its range lock, a calibration WRITE notes the frame period (R154). An opcode that is not defined, or not for this queue, completes at once. -/
def Dev.accept (d : Dev) (p q idx depth : Nat) (entry : List Nat) : Dev :=
  let r := d.part p
  let op := opcode entry
  let c : Cmd := { part := p, queue := q, asn := r.asnNext, cid := sf entry 0 16 16, idx := idx, entry := entry, depth := depth,
                   snap := if op = 0x88 then (d.ctx (sf entry 1 0 8)).shadow else [],
                   result := if op = 0x81 ∧ sf entry 8 0 2 = 2 then d.framePeriod (dwAt entry 1) else 0, time := d.clock }
  let d := ((d.wake (opPages op)).setPart p { r with asnNext := r.asnNext + 1 }).bump (qmg p).1 Reg.QMG.FETCH_CNT (qmg p).2
  let d := (d.journal p c.asn (.accept q idx entry)).setCmd c
  if !adminOp op ∧ !ioOp op then d.complete c .INVALID_OPCODE
  else if (q = 0 ∧ ioOp op = true) ∨ (q ≠ 0 ∧ adminOp op = true) then d.complete c .WRONG_QUEUE
  else d.takeLock c

/-! ### Fetching (R307, R312, R331) -/

/-- Accepted commands of a queue pair that have not completed. -/
def Dev.outstanding (d : Dev) (p q : Nat) : Nat := (d.hst.cmds.filter fun e => e.2.part = p && e.2.queue = q && !e.2.gone).length

/-- Every completion finds a free CQ slot (R307). -/
def Dev.cqRoom (d : Dev) (p q : Nat) (x : Queue) : Bool := d.outstanding p q + x.unreturned < x.cqDepth - 1

/-- May the device take commands from a queue of a partition at all: the partition is enabled, fetching is open (R333, R407) and no seam
pauses it (R348) and its QMG page works (R37); I/O
queues also wait for ledger records (R331) and range locks (R312)? -/
def Dev.takesFrom (d : Dev) (p q : Nat) : Bool :=
  (d.part p).enable && d.brd.stage = 6 && !d.hst.fetchStopped && d.rd Pg.FWM Reg.FWM.ACT_STATE ≠ 2 && !d.held Pg.NVS && !d.keep && d.works (qmg p).1 &&
   (q = 0 || (65536 ≤ d.ledgerFree && d.locksOf p < d.lockQuota p))

/-- Does the SQ of a PCIe partition hold an entry that may be fetched, but for room in the CQ? -/
def Dev.hasEntry (d : Dev) (p q : Nat) (x : Queue) : Bool :=
  p < 64 && d.hasFn p && x.sqHead ≠ x.sqTail && !x.failed && d.takesFrom p q

def Dev.fetchable (d : Dev) (p q : Nat) (x : Queue) : Bool := d.hasEntry p q x && d.cqRoom p q x

/-- Queues with an entry to fetch: (partition, queue, WEIGHT). -/
def Dev.ready (d : Dev) : List (Nat × Nat × Nat) :=
  (d.hst.queues.filter fun e => d.fetchable (e.1 / 65536) (e.1 % 65536) e.2).map fun e => (e.1 / 65536, e.1 % 65536, e.2.weight)

/-- The next partition in index order that has its turn: the lowest after `t`, else the lowest. -/
def nextTurn (ps : List Nat) (t : Nat) : Option Nat :=
  match ps.filter (t < ·) with
  | [] => ps.min?
  | l => l.min?

/-- Is it the turn of queue `q` of partition `p` (R307)? Admin queues come first; partitions take turns in index order; a
turn at the admin queues is a burst (R316), a turn at the I/O queues one round in which each queue of the partition has
WEIGHT + 1 entries. Answers the state of the turns after the fetch. -/
def Dev.turnFor (d : Dev) (p q : Nat) : Option HostSt :=
  let admins := d.ready.filter (·.2.1 = 0)
  if q = 0 then
    let (t, n) := d.hst.adminTurn
    let stay : Bool := admins.any (·.1 = t) && n < (d.part t).burst
    let who := if stay then some t else nextTurn (admins.map (·.1)) t
    if who = some p then some { d.hst with adminTurn := if stay then (t, n + 1) else (p, 1) } else none
  else if admins ≠ [] then none
  else
    let t := d.hst.turn
    let spent := fun (k : Nat) => (Assoc.find d.hst.turnSpent k).getD 0
    let stay : Bool := d.ready.any fun e => e.1 = t && spent e.2.1 ≤ e.2.2
    let who := if stay then some t else nextTurn (d.ready.map (·.1)) t
    let weight := match d.queue? p q with
      | some x => x.weight
      | none => 0
    if who ≠ some p ∨ (stay = true ∧ weight < spent q) then none
    else some { d.hst with turn := p, turnSpent := if stay then Assoc.put d.hst.turnSpent q (spent q + 1) else [(q, 1)] }

/-- COMMAND_FETCH: the device fetches the next entry of a queue and accepts it, or the queue stops (R307); it waits until the
groups that the command needs run (R315). -/
def Dev.fetch (d : Dev) (p q : Nat) : Dev :=
  match d.queue? p q with
  | none => d
  | some x =>
    if !d.hasEntry p q x then d
    else if !d.cqRoom p q x then d.bump (qmg p).1 Reg.QMG.CQ_HOLD_CNT (qmg p).2
    else match d.turnFor p q with
      | none => d
      | some h =>
        let a := x.sqBase + 64 * x.sqHead
        let op := (d.hostByte p a).toNat
        if !d.hostOk p a 64 then (d.setQueue p q { x with failed := true }).event p (qmg p).1 FAULT 0x0802
        else if !d.groupsUp op then d.wake (opPages op) 1
        else
          let d : Dev := { d with hst := h }
          (d.setQueue p q { x with sqHead := (x.sqHead + 1) % x.sqDepth }).accept p q x.sqHead x.sqDepth
            ((List.range 16).map fun i => ofLe (d.hostRead p (a + 4 * i) 4))

/-! ### Creating and deleting queue pairs (R303, R304) -/

/-- The fate of what a session still owes when it goes: the completions queued for it go to the Orphan Completion log
(R321, R335). -/
def Dev.dropSession (d : Dev) (id reason : Nat) : Dev :=
  match Assoc.find d.hst.sessions id with
  | none => d
  | some s =>
    let d : Dev := { d with hst := { d.hst with sessions := Assoc.del d.hst.sessions id } }
    (s.queued ++ s.waiting).foldl (fun (d : Dev) (x : RctPacket) => match x.orphan with
      | some o => (((d.orphan s.part { o with reason := reason }).journal s.part o.asn .posted).reclaim s.part o.asn)
      | none => d) d

/-- A queue pair goes: its entries not yet fetched were never accepted, its accepted commands run on and their completions
become Orphan Completions (R304). -/
def Dev.removeQueue (d : Dev) (p q reason : Nat) : Dev :=
  let d := match d.sessionOf p q with
    | some id => if 64 ≤ p then d.dropSession id reason else d
    | none => d
  { d with hst := { d.hst with
      queues := Assoc.del d.hst.queues (queueKey p q),
      cmds := d.hst.cmds.map fun e => if e.2.part = p ∧ e.2.queue = q ∧ !e.2.gone then (e.1, { e.2 with gone := true, reason := reason }) else e } }

/-- Queue pair 0 of a partition exists: a pause of R335 ends for a PCIe partition. -/
def Dev.addAdmin (d : Dev) (p : PartId) (x : Queue) : Dev :=
  let d := d.setQueue p 0 x
  if p < 64 then d.updPart p fun r => { r with paused := false } else d

/-- The admin queue pair of a network partition (R303). -/
def networkAdmin : Queue := { sqBase := 0, cqBase := 0, sqDepth := 64, cqDepth := 64 }

/-- HIF_ENABLE: a write of a function's ENABLE creates or deletes its admin queue pair (R303). -/
def Dev.hifEnable (d : Dev) (f n v : Nat) : Dev :=
  let (pg, i) := hif n
  d.checkedWrite f pg (0x414 + 0x40 * i) fun d =>
    if bits v 0 1 = 1 then
      if d.on pg Reg.HIF.ENABLE i then d
      else
        let sq := d.rd64 pg Reg.HIF.ASQ_ADDR_LO Reg.HIF.ASQ_ADDR_HI i
        let cq := d.rd64 pg Reg.HIF.ACQ_ADDR_LO Reg.HIF.ACQ_ADDR_HI i
        let a := d.rd pg Reg.HIF.ASQ_DEPTH i
        let b := d.rd pg Reg.HIF.ACQ_DEPTH i
        if sq % 4096 ≠ 0 ∨ cq % 4096 ≠ 0 ∨ a < 1 ∨ 4095 < a ∨ b < 1 ∨ 4095 < b then d.wr pg Reg.HIF.REFUSED 1 i
        else
          let d := d.addAdmin n { sqBase := sq, cqBase := cq, sqDepth := a + 1, cqDepth := b + 1 }
          ((d.wr pg Reg.HIF.ENABLE 1 i).wr pg Reg.HIF.READY 1 i).wr pg Reg.HIF.REFUSED 0 i
    else if d.on pg Reg.HIF.ENABLE i then
      ((d.removeQueue n 0 0).wr pg Reg.HIF.ENABLE 0 i).wr pg Reg.HIF.READY 0 i
    else d

/-- QUEUE_CREATE (R304). -/
def Dev.queueCreate (d : Dev) (c : Cmd) : Dev :=
  let e := c.entry
  let p := c.part
  let q := sf e 1 0 16
  let a := sf e 8 0 16
  let b := sf e 8 16 16
  let top := if p < 64 then 65535 else 4095
  let wrong : Bool := a < 1 || top < a || b < 1 || top < b || dw64 e 2 % 4096 ≠ 0 || dw64 e 4 % 4096 ≠ 0 ||
    (p < 64 && (d.part p).msix ≤ sf e 9 0 11) || (64 ≤ p && (dw64 e 2 ≠ 0 || dw64 e 4 ≠ 0))
  if q = 0 ∨ d.rd (qmg p).1 Reg.QMG.QUOTA (qmg p).2 ≤ q ∨ (d.queue? p q).isSome then d.complete c .QUEUE_INVALID
  else if wrong then d.complete c .INVALID_FIELD
  else
    (d.setQueue p q { sqBase := dw64 e 2, cqBase := dw64 e 4, sqDepth := a + 1, cqDepth := b + 1, vector := sf e 9 0 11,
                      irqEn := sf e 9 16 1 = 1, weight := sf e 9 20 4, coalCount := max 1 (sf e 10 0 16),
                      coalUs := sf e 10 16 16 }).succeed c

/-- QUEUE_DELETE (R304). -/
def Dev.queueDelete (d : Dev) (c : Cmd) : Dev :=
  let q := sf c.entry 1 0 16
  if q = 0 ∨ (d.queue? c.part q).isNone then d.complete c .QUEUE_INVALID
  else (d.removeQueue c.part q 0).succeed c

/-! ### Rings (R316) -/

/-- Records of one kind that the session on a network partition's queue pair 0 has still to see acknowledged (R320). -/
def Dev.recordsOut (d : Dev) (p : PartId) (kind : Nat) : Nat :=
  if p < 64 then 0
  else match (d.sessionOf p 0).bind (Assoc.find d.hst.sessions) with
    | none => 0
    | some s => ((s.unacked ++ s.waiting ++ s.queued).filter fun x => x.type = 0x04 && ofLe (x.payload.take 1) = kind).length

/-- EVENT_RING_SET: create or replace the partition's ring of a kind. -/
def Dev.ringSet (d : Dev) (c : Cmd) : Dev :=
  let e := c.entry
  let assist : Bool := sf e 8 0 1 = 1
  let depth := sf e 9 0 16
  if sf e 8 1 1 = 1 then d
  else if depth < (if assist then 1 else 15) ∨ (64 ≤ c.part ∧ (1023 < depth ∨ dw64 e 2 ≠ 0)) ∨ dw64 e 2 % 4096 ≠ 0 ∨
      (c.part < 64 ∧ (d.part c.part).msix ≤ sf e 10 0 11) then d.complete c .INVALID_FIELD
  else
    let g : Ring := { base := dw64 e 2, depth := depth + 1, classes := sf e 8 8 3, vector := sf e 10 0 11,
                      irqEn := sf e 10 16 1 = 1, skip := d.recordsOut c.part (if assist then 2 else 1) }
    (d.updPart c.part fun r => if assist then { r with ast := some g } else { r with evt := some g }).succeed c

/-- EVENT_RING_SET with DELETE = 1: the ring of that kind is removed. -/
def Dev.ringDelete (d : Dev) (c : Cmd) : Dev :=
  if sf c.entry 8 1 1 = 0 then d
  else (d.updPart c.part fun r => if sf c.entry 8 0 1 = 1 then { r with ast := none } else { r with evt := none }).succeed c

/-- The summary record of a slot (R344, R345). -/
def Summary.event (s : Summary) : Event :=
  { time := s.first, page := s.page, cls := s.cls, summary := true, code := s.code, count := s.count, data := leBytes 8 s.last }

/-- Post an event into a ring that has room for it. -/
def Dev.putEvent (d : Dev) (p : PartId) (g : Ring) (e : Event) : Dev :=
  let (d, g) := d.ringPut p g 32 1 e.bytes
  d.updPart p fun r => { r with evt := some g }

/-- Post what R345 kept, as far as the ring has room: EVENT_LOSS first, then the summaries in order of their first event. -/
def Dev.postKept (d : Dev) (p : PartId) : Nat → Dev
  | 0 => d
  | n + 1 =>
    let r := d.part p
    match r.evt with
    | none => d
    | some g =>
      let low : Bool := g.used + 1 + min 64 (g.depth / 2) < g.depth
      if r.lost ≠ 0 ∧ g.used + 1 < g.depth then
        ((d.updPart p fun r => { r with lost := 0 }).event p Pg.EVT ALARM 0x0901 [] r.lost).postKept p n
      else match r.summaries, low with
        | s :: rest, true => ((d.updPart p fun r => { r with summaries := rest }).putEvent p g s.event).postKept p n
        | _, _ => d

/-- EVENT_SUMMARY_POST: ring entries have become free (R345). -/
def Dev.summaryPost (d : Dev) (p : PartId) : Dev := d.postKept p ((d.part p).summaries.length + 1)

/-! ### Features (R316, R346) -/

/-- FEATURE_SET. -/
def Dev.featureSet (d : Dev) (c : Cmd) : Dev :=
  let e := c.entry
  let v := fun i => dwAt e (9 + i)
  match sf e 8 0 8 with
  | 1 =>
    if v 0 = 0 ∨ 64 < v 0 ∨ v 1 ≠ 0 ∨ v 2 ≠ 0 ∨ v 3 ≠ 0 then d.complete c .INVALID_FIELD
    else (d.updPart c.part fun r => { r with burst := v 0 }).succeed c
  | 2 =>
    if v 2 ≠ 0 ∨ v 3 ≠ 0 then d.complete c .INVALID_FIELD
    else (d.updPart c.part fun r => { r with hint := dw64 e 9 }).succeed c
  | 3 =>
    if c.part ≠ 0 then d.complete c .NOT_PERMITTED
    else if 128 ≤ v 0 ∨ 4 < bits (v 0) 1 3 ∨ 65536 ≤ v 2 ∨ v 3 ≠ 0 then d.complete c .INVALID_FIELD
    else ({ d with hst := { d.hst with syslog := (v 0, v 1, v 2) } } : Dev).succeed c
  | _ => d.complete c .INVALID_FIELD

/-- FEATURE_GET: DW0 holds the DW of the value that WORD selects. -/
def Dev.featureGet (d : Dev) (c : Cmd) : Dev :=
  let w := sf c.entry 9 0 2
  let r := d.part c.part
  match sf c.entry 8 0 8 with
  | 1 => d.succeed c (if w = 0 then r.burst else 0)
  | 2 => d.succeed c (match w with | 0 => r.hint % 2 ^ 32 | 1 => r.hint / 2 ^ 32 | _ => 0)
  | 3 =>
    if c.part ≠ 0 then d.complete c .NOT_PERMITTED
    else d.succeed c (match w with | 0 => d.hst.syslog.1 | 1 => d.hst.syslog.2.1 | 2 => d.hst.syslog.2.2 | _ => 0)
  | _ => d.complete c .INVALID_FIELD

/-- SYSLOG_SEND_TIMEOUT: the oldest message that could not be sent within 10 ms is dropped (R346). -/
def Dev.syslogTimeout (d : Dev) : Dev :=
  match d.hst.syslogQueue with
  | [] => d
  | _ :: r => ({ d with hst := { d.hst with syslogQueue := r } } : Dev).bump Pg.EVT Reg.EVT.SYSLOG_DROP_CNT

end Sys2Proof.Machine
end

