-- ==== Sys2Proof/Machine/Resets.lean ====
section
/-! DEFINITION. Resets: replay of the ledger, device reset, power-on, power loss and partition reset (spec 12 R328 to R343;
spec 01 R28; spec 02 R43; spec 15 R402 to R404). -/

namespace Sys2Proof.Machine

/-! ### What a lost pending window costs (R337) -/

/-- Offset in a partition's store space of a set address. -/
def StripeSet.storeOffset (x : StripeSet) (p : PartId) (a : Nat) : Nat :=
  let size := 64 * x.n * PAY
  let es := (x.extents.filter fun e => e.2 = 2 ^ 32 + p).map (·.1)
  es.findIdx (· = a / size) * size + a % size

/-- DATA of HOLDUP_LOSS: partition, set, length and offset of a store range. The manual names the values and gives them no
places. -/
def Dev.holdupData (d : Dev) (p : Place) : List Byte :=
  leBytes 1 p.part ++ leBytes 1 p.set ++ zeros 2 ++ leBytes 4 p.bytes.length ++ leBytes 8 ((d.sset p.set).storeOffset p.part p.addr)

/-- A lost placement: its table entry becomes LOST, or its store range is reported, and a WRITE that waited for it to be
durable is not done (R329, R337). -/
def Dev.loseOne (d : Dev) (p : Place) : Dev :=
  if p.flt ≠ 0 then
    let e := { d.fltAt (p.flt - 1) with status := LOST }
    if (d.fltAt (p.flt - 1)).status = LOST then d
    else match d.take? p.take with
      | some t => d.takeFlt p.take ((p.flt - 1 - t.base) / t.planes) e
      | none => d.setFlt p.part (p.flt - 1) e
  else if p.take = 0 then
    let d := d.event p.part Pg.NVS ALARM 0x0904 (d.holdupData p)
    match d.cmd? p.part p.asn with
    | some c => d.complete { c with reason := 3 } .RESET_ABORTED
    | none => d
  else d

/-- What the device itself had placed for a Take is placed again: its header, its directory entry; lost index segments are
due again. -/
def Dev.remake (d : Dev) (gone : List Place) (n : Nat) : Dev :=
  match d.take? n with
  | none => d
  | some t =>
    let mine := gone.filter fun p => p.take = n
    let segs := mine.filter fun p => p.holds ≠ []
    let t := match segs with
      | [] => t
      | p :: _ => { t with lastSeg := ofLe ((p.bytes.drop 0x14).take 6),
                           finals := t.finals ++ (segs.flatMap (·.holds)).map (· - t.base) }
    let d := d.setTake n t
    let d := (mine.filter fun p => p.flt = 0 && !p.dir && p.holds = []).foldl (fun (d : Dev) p =>
      d.place_ { p with going := false } [(p.addr, p.bytes.length)] p.bytes) d
    if mine.any (·.dir) then d.putDirectory n else d

/-- Placements are lost with the pending window: reported, never shown as done (R329, R337). -/
def Dev.losePlaces (d : Dev) (sel : Place → Bool) : Dev :=
  let gone := d.pip.places.filter sel
  if gone = [] then d
  else
    let kept := d.pip.places.filter fun p => !sel p
    let d : Dev := { d with pip := { d.pip with places := kept },
                            jnl := { d.jnl with holdupLosses := d.jnl.holdupLosses + gone.length } }
    let d := (d.wr Pg.SYS Reg.SYS.HOLDUP_LOSS 1).wr Pg.NVS Reg.NVS.HOLDUP_LOSS 1
    let d := gone.foldl (fun (d : Dev) p => d.loseOne p) d
    ((gone.filter fun p => p.take ≠ 0).map (·.take)).eraseDups.foldl (fun (d : Dev) n => d.remake gone n) d

/-! ### Takes at a reset (R334) -/

/-- An open Take is closed at its last committed frame. -/
def Dev.resetTake (d : Dev) (n : Nat) : Dev :=
  match d.take? n with
  | none => d
  | some t =>
    if t.state ≠ 0 then d
    else
      let mine := fun (i : Nat) => t.base ≤ i && i < t.base + t.count * t.planes
      let done := (d.pip.flt.filter fun e => mine e.1 && e.2.status ∈ [PENDING, DURABLE, LOST]).map fun e => (e.1 - t.base) / t.planes + 1
      let count := done.foldl max 0
      let d := (t.frames.filter fun x => x.index < count).foldl (fun (d : Dev) x =>
        d.takeFlt n x.index { cid := x.cid, plane := 0, status := MISSING_DROPPED }) d
      let d := (d.pip.flt.filter fun e => mine e.1 && t.base + count * t.planes ≤ e.1).foldl (fun (d : Dev) e =>
        d.setFlt t.owner e.1 {}) d
      let d := d.updTake n fun t => { t with count := count, frames := [], stop := .now, state := 1, asking := false,
                                             finals := t.finals.filter fun o => o < count * t.planes }
      (d.putDirectory n).takeEvent t WARN 0x0607

/-! ### Replay (R333) -/

/-- Has the scanned ledger a record of an ASN that `k` picks? -/
def logged (l : List LedgerRec) (p asn : Nat) (k : Body → Bool) : Bool := l.any fun r => r.part = p && r.asn = asn && k r.body

def Body.isAccept : Body → Bool
  | .accept _ _ _ => true
  | _ => false

def Body.isEffect : Body → Bool
  | .effect _ _ _ _ => true
  | _ => false

def Body.isPlace : Body → Bool
  | .place _ _ _ _ _ _ => true
  | _ => false

/-- Range locks of the store placements that replay writes again (step 7). -/
def replayLocks (l : List LedgerRec) (places : List Place) : List RangeLock :=
  ((places.filter fun p => p.take = 0 && p.flt = 0 && p.asn ≠ 0).map fun p => (p.part, p.asn, p.set)).eraseDups.filterMap fun k =>
    l.findSome? fun r => match r.body with
      | .accept _ _ e =>
        if r.part = k.1 ∧ r.asn = k.2.1 then
          some { part := k.1, set := k.2.2, asn := k.2.1, lo := dw64 e 10, len := dwAt e 6, write := true, replayed := true }
        else none
      | _ => none

/-- Step 4: a command with an effect, and a TAKE_CLOSE, runs on to its own completion; every other one is aborted. -/
def Dev.resolveCmd (d : Dev) (l : List LedgerRec) (reason : Nat) (c : Cmd) : Dev :=
  let c := { c with reason := reason }
  if !logged l c.part c.asn Body.isAccept then d.delCmd c.part c.asn
  else if (c.effect && logged l c.part c.asn Body.isEffect) ∨ opcode c.entry = 0x85 then d.setCmd c
  else d.complete c .RESET_ABORTED

/-- Commands of a store in order of partition and ASN. -/
def inAsnOrder (cs : List (Nat × Cmd)) : List Cmd := (cs.map (·.2)).mergeSort fun a b => a.part < b.part || (a.part = b.part && a.asn ≤ b.asn)

/-- A placement with damaged blocks, block by block. -/
def Place.blocks (p : Place) : List Place :=
  if p.bad = [] then [p]
  else (List.range (ceilDiv p.bytes.length 4096)).map fun j =>
    { p with addr := p.addr + 4096 * j, bytes := (p.bytes.drop (4096 * j)).take 4096, bad := if j ∈ p.bad then [0] else [] }

/-- Step 1: the scan stops at the first record with a failed CRC. -/
def Dev.scan (d : Dev) : Dev := { d with jnl := { d.jnl with ledger := d.jnl.ledger.takeWhile (·.ok) } }

/-- Steps 2 to 7 of the replay of the ledger (R333). `kept`: the pending window survives or comes back from its image; `whole`:
the scan met no bad record. A block that has not the CRC of its EFFECT record is lost alone. -/
def Dev.replay (d : Dev) (reason : Nat) (kept whole : Bool) : Dev :=
  let d := d.wr Pg.NVS Reg.NVS.STATE 1
  let l := d.jnl.ledger
  let d : Dev := { d with pip := { d.pip with places := d.pip.places.flatMap Place.blocks } }
  let d := d.losePlaces fun p => !kept || p.bad ≠ [] || (!whole && p.asn ≠ 0 && !logged l p.part p.asn Body.isPlace)
  let d := (List.range 8).foldl (fun (d : Dev) s => d.settleFlt s) d
  let d := (d.pip.takes.map (·.1)).foldl (fun (d : Dev) n => d.resetTake n) d
  let d : Dev := { d with hst := { d.hst with locks := replayLocks l d.pip.places } }
  let d := (inAsnOrder d.hst.cmds).foldl (fun (d : Dev) c => d.resolveCmd l reason c) d
  let d := (d.wr Pg.NVS Reg.NVS.REPLAY_MS (d.freeNow 16 % 151)).freeStep.wr Pg.NVS Reg.NVS.REWRITES 0
  let d : Dev := { d with jnl := { d.jnl with replays := d.jnl.replays + 1, image := false } }
  let d := d.settleWrites
  let d := (d.pip.takes.map (·.1)).foldl (fun (d : Dev) n => d.takeClosing n) d
  (d.wr Pg.NVS Reg.NVS.STATE 2).raise Pg.NVS 0

/-! ### What a reset clears (R43, R334) -/

/-- Boot sources of a BOOT_SEL value, in order: 0 and 1 flash slots, 2 the host (R403). -/
def Dev.bootSources (d : Dev) (sel : Nat) : List Nat :=
  let b := d.rd Pg.FWM Reg.FWM.BOOT_SLOT
  match sel with
  | 0 => [b, 1 - b]
  | 1 => [2]
  | _ => [b, 1 - b, 2]

/-- A position channel after a device reset: levels and counts stand, what its class C and A registers governed does not. -/
def Channel.afterReset (x : Channel) : Channel :=
  { a := x.a, b := x.b, z := x.z, dir := x.dir, total := x.total, prevSsi := x.prevSsi }

/-- A set after a reset: the ledger knows its SET_ID and extents; its members, keys and labels are found again. -/
def StripeSet.afterReset (x : StripeSet) : StripeSet :=
  { x with members := [], live := [], key := none, keyWords := [], rebuild := none, replay := true }

/-- The typed state after a device reset or a power-on. -/
def Dev.clearState (d : Dev) (power : Bool) : Dev :=
  let held := fun (e : Nat × Take) => e.2.state = 0 || e.2.close ≠ [] || (d.pip.places.any fun p => p.take = e.1) ||
    d.jnl.ledger.any fun r => match r.body with
      | .fltUpdate i _ => e.2.base ≤ i && i < e.2.base + e.2.maxFrames * e.2.planes
      | _ => false
  let takes := if power then d.pip.takes.filter held else d.pip.takes
  let user := fun (u : Nat) => u = 0 || 2 ^ 32 ≤ u || takes.any fun t => 1 + t.1 = u
  let set := fun (x : StripeSet) => if power then
      { x.afterReset with indexed := false, extents := x.extents.filter fun e => user e.2 } else x.afterReset
  let fromLedger := d.jnl.ledger.foldl (fun (m : List (Nat × FltEntry)) r => match r.body with
    | .fltUpdate i b => Sparse.set m i (fltOfBytes b) {}
    | _ => m) []
  let chans := if power then [] else d.tim.chans.map fun e => (e.1, e.2.afterReset)
  let ports := if power then [] else d.tim.ports.map fun e => (e.1, ({ time := e.2.time } : PtpPort))
  { d with
    latched := [], lowHeld := [],
    tb := if power then 0 else d.tb,
    hst := {
      queues := [], cmds := d.hst.cmds.map fun e => (e.1, { e.2 with gone := true }), owner := d.hst.owner, reserve := d.hst.reserve,
      parts := d.hst.parts.map fun e => (e.1, { e.2 with
        paused := false, burst := 8, hint := 0, evt := none, ast := none, summaries := [], lost := 0,
        dbWarned := none, nextTag := 0 }) },
    jnl := { d.jnl with activation := none, cold := false, powerLoss := false, powerLossReset := false, waitingCause := 0 },
    cap := {},
    tim := { ports := ports, chans := chans },
    pip := {
      flt := if power then fromLedger else d.pip.flt, takes := takes, nextTake := d.pip.nextTake,
      places := d.pip.places.map fun p => { p with going := false },
      sets := d.pip.sets.map fun e => (e.1, set e.2),
      mags := d.pip.mags.map fun e => (e.1, { e.2 with resetAt := none }) },
    pow := if power then {} else { lost := d.pow.lost, stamps := d.pow.stamps, sensors := d.pow.sensors, history := d.pow.history },
    brd := { perst := d.brd.perst, jtag := d.brd.jtag, jtagFell := d.brd.jtagFell, maxMhz := d.brd.maxMhz } }

/-- Clear the fields that a device reset clears, or a power-on (R43). -/
def Dev.clearClasses (d : Dev) (power : Bool) : Dev :=
  d.clearRegs fun _ F _ => match F.cls with
    | .n => false
    | .d => power
    | _ => true

/-- The device epoch rises (R343). -/
def Dev.nextEpoch (d : Dev) : Dev :=
  let e := d.rd Pg.NVS Reg.NVS.EPOCH
  (d.wr Pg.NVS Reg.NVS.EPOCH (e + 1)).journal 0 0 (.epoch e ((e + 1) % 2 ^ 32))

/-- Sessions end with their queues; what they owe goes to the Orphan Completion log. -/
def Dev.dropSessions (d : Dev) (reason : Nat) : Dev := (d.hst.sessions.map (·.1)).foldl (fun (d : Dev) id => d.dropSession id reason) d

/-- The boot ROM starts with the straps of BOOT_SEL (R403, R404). Every function's MSI-X table is the one of its partition. -/
def Dev.bootStart (d : Dev) (sel : Nat) : Dev :=
  let d := d.wr Pg.SYS Reg.SYS.BOOT_SEL sel
  let d : Dev := { d with brd := { d.brd with sources := d.bootSources (sel % 4) } }
  let d := if d.jnl.failedPairs.contains 0 then d.setPair 0 3 else d
  (if d.jnl.failedPairs.contains 1 then d.setPair 1 3 else d).setStage 0

/-- Reset and replay (R333, R336, R343). -/
def Dev.restart (d : Dev) (power kept : Bool) (reason cause sel : Nat) : Dev :=
  let whole := d.jnl.ledger.all (·.ok)
  let d := d.scan.dropSessions reason
  let d := ((d.clearState power).clearClasses power).nextEpoch
  let d := (d.hst.parts.filter fun e => 64 ≤ e.1 && e.2.enable).foldl (fun (d : Dev) e => d.addAdmin e.1 networkAdmin) d
  let d := d.wr Pg.RST Reg.RST.LAST_CAUSE cause
  let d := d.bootStart sel
  d.replay reason kept whole

/-- A device reset (R336). -/
def Dev.deviceReset (d : Dev) (cause : Nat) : Dev :=
  (d.bump Pg.RST Reg.RST.DEV_RESET_CNT).restart false true 2 cause (d.rd Pg.SYS Reg.SYS.BOOT_SEL)

/-! ### Pins and the host link (R336, R338, R402, R403) -/

/-- Do pins reach the device: PWR_OK is high, it has not tripped? -/
def Dev.hears (d : Dev) : Bool := !d.pow.off && !d.pow.tripped

/-- PERST_N asserts: a device reset; during the power-loss sequence it waits for the end (R338). -/
def Dev.perstLow (d : Dev) : Dev :=
  if !d.hears ∨ d.brd.perst then d
  else
    let d : Dev := { d with brd := { d.brd with perst := true } }
    if d.jnl.powerLoss then d else d.deviceReset 1

/-- PERST_N deasserts: BOOT_SEL is sampled, and the boot ROM may load an image (R403). -/
def Dev.perstHigh (d : Dev) (sel : Nat) : Dev :=
  if !d.hears ∨ !d.brd.perst then d
  else
    let d : Dev := { d with brd := { d.brd with perst := false } }
    let d := d.wr Pg.SYS Reg.SYS.BOOT_SEL sel
    { d with brd := { d.brd with sources := d.bootSources sel } }

/-- PCIE_HOT_RESET; one during the power-loss sequence waits for its end. -/
def Dev.hotReset (d : Dev) : Dev :=
  if !d.hostLink then d
  else if d.jnl.powerLoss then { d with jnl := { d.jnl with waitingCause := 3 } }
  else d.deviceReset 3

/-- RST_CTRL_DEV: partition 0 writes 1 to SYS.RST_CTRL.DEV. -/
def Dev.rstCtrl (d : Dev) (f v : Nat) : Dev :=
  d.checkedWrite f Pg.SYS 0x148 fun d =>
    if !bitAt v 0 then d
    else if d.jnl.powerLoss then { d with jnl := { d.jnl with waitingCause := 2 } }
    else d.deviceReset 2

/-- PWRFAIL_N asserts: fetching stops, the power-loss sequence begins (R338), and PS4 ends (R384). -/
def Dev.powerFails (d : Dev) : Dev :=
  if !d.hears ∨ d.jnl.powerLoss ∨ d.jnl.image then d
  else
    ({ d with hst := { d.hst with fetchStopped := true },
              jnl := { d.jnl with powerLoss := true, powerLossReset := false, waitingCause := 0 } } : Dev).wakeGroup 32 7

/-- PWRFAIL_N deasserts during the sequence: a device reset follows it (R338). -/
def Dev.powerFailEnds (d : Dev) : Dev :=
  if d.hears ∧ d.jnl.powerLoss then { d with jnl := { d.jnl with powerLossReset := true } } else d

/-- SHUTDOWN: the pending window is in the pending image: its record, of `crc` over the image, is the last one (R338). The
manual gives the reset that only a deasserted PWRFAIL_N causes no LAST_CAUSE: a free value. -/
def Dev.shutdown (d : Dev) (crc ms : Nat) : Dev :=
  if !d.hears ∨ !d.jnl.powerLoss then d
  else
    let len := d.pip.places.foldl (fun a p => a + p.bytes.length) 0
    let again := d.jnl.powerLossReset
    let waiting := d.jnl.waitingCause
    let perst := d.brd.perst
    let d := d.journal 0 0 (.shutdown len (crc % 2 ^ 32))
    let d := (d.wr Pg.NVS Reg.NVS.STATE 3).wr Pg.NVS Reg.NVS.HOLDUP_MS ms
    let d : Dev := { d with jnl := { d.jnl with image := true, powerLoss := false } }
    if perst then d.deviceReset 1
    else if waiting ≠ 0 then d.deviceReset waiting
    else if again then d.freeStep.deviceReset (d.freeNow 4) else d

/-- PWR_OK_FALL and BROWN_OUT: a power-on reset at once: every clock stops (R402). -/
def Dev.powerOff (d : Dev) (brown : Bool) : Dev :=
  if d.pow.off then d else { d with pow := { d.pow with off := true, brown := brown } }

/-- A part comes back from repair: its journal store is cleared but for the identity region, it gets a new random device epoch,
and its ASN sequences restart at 1 (R309, R343). Its flash and the magazines are no part of that store. -/
def Dev.repair (d : Dev) : Dev :=
  let new : Dev := { pow := d.pow, brd := d.brd, elapsed := d.elapsed, hostMem := d.hostMem, hostFails := d.hostFails,
                     vectorsOff := d.vectorsOff, outs := d.outs, free := d.free + 1,
                     jnl := { slotA := d.jnl.slotA, slotB := d.jnl.slotB }, pip := { mags := d.pip.mags } }
  new.wr Pg.NVS Reg.NVS.EPOCH (d.freeNow 32)

/-- PWR_OK_RISE: power-on (R402, R404). The pending window comes back when the scan ends at SHUTDOWN and the image has its CRC
(R333). `sel`: BOOT_SEL, `perst`: PERST_N is asserted; `damaged`: an uncorrectable error has hit the image; `repaired`: the
part returns from repair (R343). -/
def Dev.powerOn (d : Dev) (sel : Nat) (perst damaged repaired : Bool) : Dev :=
  if !d.pow.off then d
  else
    let d := if repaired then d.repair else d
    let clean := d.jnl.image && d.jnl.ledger.all (·.ok) && !damaged
    let tripped := d.pow.tripped
    let cause := if tripped then 5 else if d.pow.brown then 4 else 0
    let d : Dev := { d with brd := { d.brd with perst := perst, jtag := 0, jtagFell := false } }
    let d := (d.bump Pg.RST Reg.RST.POWER_ON_CNT).wr Pg.XSP Reg.XSP.MAX_MHZ d.brd.maxMhz
    let d := d.restart true clean 3 cause sel
    let d := d.wr Pg.NVS Reg.NVS.CLEAN_BOOT (b2n clean)
    let d := if damaged then d.mramReport else d
    if tripped then
      (d.wr Pg.THM Reg.THM.TRIP_SEEN 1).event 0 Pg.THM ALARM 0x0B08 ((d.jnl.trips.headD []).take 16)
    else d

/-! ### Partition reset (R28, R43, R335) -/

/-- Does a field belong to a partition: its page, or the object whose register it is (R43)? -/
def Dev.fieldOf (d : Dev) (p : PartId) (pg : Page) (F : Fld) (i : Nat) : Bool :=
  match Pg.ownKind pg with
  | 1 => d.rd pg Reg.HDR.OWNER = p
  | 2 => (match d.objectOwner pg (F.at i 0) with
    | some o => o = p
    | none => p = 0)
  | _ => p = 0

/-- Clear the class A and class B fields of what a partition owns (R43); partition 0's pages hold the FIFOs of PTP ports and the
UART. -/
def Dev.clearPartition (d : Dev) (p : PartId) : Dev :=
  let t := (d.clearRegs fun pg F i => F.cls = .b && d.fieldOf p pg F i).clearShown (d.fieldOf p)
  if p = 0 then [Pg.PTP 0, Pg.PTP 1, Pg.UAR].foldl (fun (d : Dev) pg => d.pageEmptied pg) t else t

/-- A reset of a partition: cause 0 a Function Level Reset, 1 PARTITION_CONFIG (R335). -/
def Dev.partitionReset (d : Dev) (p : PartId) (cause : Nat) (pause : Bool) : Dev :=
  let qs := (d.hst.queues.filter fun e => e.1 / 65536 = p).map fun e => e.1 % 65536
  let d := qs.foldl (fun (d : Dev) q => d.removeQueue p q 1) d
  let d := ((d.hst.sessions.filter fun e => e.2.part = p).map (·.1)).foldl (fun (d : Dev) id => d.dropSession id 1) d
  let d := d.updPart p fun r => { r with evt := none, ast := none, nextTag := 0, paused := r.paused || pause }
  let d := d.clearPartition p
  let d := d.assistsOff (fun a => a.part = p) none
  let d := ((d.pip.encs.map (·.1)).filter fun n => d.ownerOf 2 n = p).foldl (fun (d : Dev) n => d.encQuiesce n) d
  let d := if 64 ≤ p ∧ (d.part p).enable then d.addAdmin p networkAdmin else d
  let d := ((d.bump Pg.RST Reg.RST.PART_RESET_CNT).wr Pg.RST Reg.RST.LAST_PART p).wr Pg.RST Reg.RST.LAST_PART_CAUSE cause
  d.raise Pg.RST 0

/-- FUNCTION_LEVEL_RESET of function `f` (R299). -/
def Dev.flr (d : Dev) (f : Nat) : Dev :=
  if !d.hasFn f then d else (d.bump (hif f).1 Reg.HIF.FLR_CNT (hif f).2).partitionReset f 0 false

end Sys2Proof.Machine
end

