-- ==== Sys2Proof/Machine/StoreSpace.lean ====
section
/-! DEFINITION. StoreSpace: WRITE, READ and FLUSH: store space, parameter space and calibration space (spec 11 R310, R311,
R313; spec 02 R32 to R34; spec 06 R154; spec 08 R246). -/

namespace Sys2Proof.Machine

/-! ### Store space -/

/-- User number of a partition's store space among the extents of a set. -/
def storeUser (p : PartId) : Nat := 2 ^ 32 + p

/-- Extents of a set that a partition's store space has, in ascending order. -/
def StripeSet.storeExtents (x : StripeSet) (p : PartId) : List Nat := (x.extents.filter fun e => e.2 = storeUser p).map (·.1)

/-- Bytes of an extent. -/
def StripeSet.extentSize (x : StripeSet) : Nat := 64 * x.n * PAY

/-- Runs of the set that `n` bytes from `off` of a partition's store space take. -/
def StripeSet.storeRuns (x : StripeSet) (p : PartId) (off n : Nat) : List (Nat × Nat) :=
  let es := x.storeExtents p
  x.runs es (es.length + 1) (es.getD (off / x.extentSize) 0 * x.extentSize + off % x.extentSize) n

/-- The lock of a STORE command waits for another command (R311). -/
def Dev.locked (d : Dev) (c : Cmd) : Bool :=
  match d.hst.locks.find? fun l => l.part = c.part && l.asn = c.asn && !l.replayed with
  | some l => l.waits d.hst.locks
  | none => false

/-- The checks that STORE commands share; `k` runs when the set and the locks let the command start (R310, R311). -/
def Dev.storeCheck (d : Dev) (c : Cmd) (k : Dev → Dev) : Dev :=
  let e := c.entry
  let s := dwAt e 1
  let off := dw64 e 10
  let len := dwAt e 6
  if 8 ≤ s ∨ d.setOwner s ≠ c.part then d.complete c .INVALID_TARGET
  else if off % 4096 ≠ 0 ∨ len % 4096 ≠ 0 ∨ len < 4096 ∨ 2 ^ 24 < len then d.complete c .INVALID_FIELD
  else if d.setState s = FAILED then d.complete c SET_FAILED
  else
    let x := d.sset s
    if (x.storeExtents c.part).length * x.extentSize < off + len then d.complete c .RANGE_INVALID
    else if !d.setUp s ∨ d.locked c then d
    else k d

/-- Of each 4 KiB of an ASN's data, placed by its PLACE records, the pending-window address and the CRC-32C (R330). -/
def effectBlocks (p : PartId) (asn : Nat) : List LedgerRec → List Byte → List (Nat × Nat)
  | [], _ => []
  | r :: l, bs => match r.body with
    | .place _ _ _ _ len at_ =>
      if r.part = p ∧ r.asn = asn then
        ((List.range (ceilDiv len 4096)).map fun i => (at_ + 4096 * i, crc32c ((bs.drop (4096 * i)).take 4096))) ++ effectBlocks p asn l (bs.drop len)
      else effectBlocks p asn l bs
    | _ => effectBlocks p asn l bs

/-- The data of a STORE WRITE has arrived: it is placed in the pending window and journalled; with FUA the command
completes when its stripes are durable. -/
def Dev.storeWriteEnd (d : Dev) (c : Cmd) (bs : List Byte) : Dev :=
  let s := c.set
  let d := d.place_ { set := s, addr := 0, bytes := [], part := c.part, asn := c.asn }
    ((d.sset s).storeRuns c.part (dw64 c.entry 10) bs.length) bs
  let d := d.journal c.part c.asn (.effect (opcode c.entry) 0 0 (effectBlocks c.part c.asn d.jnl.ledger bs))
  if sf c.entry 8 8 1 = 1 then d.setCmd { c with phase := .running, effect := true } else d.complete c .SUCCESS

/-- Addresses of the payload blocks of runs whose live member cannot read them. -/
def Dev.unreadable (d : Dev) (s : Nat) (runs : List (Nat × Nat)) : List Nat :=
  let x := d.sset s
  (blockAddrs runs).filter fun a =>
    let (t, k, j) := x.at_ a
    let m := x.memberOf t k
    m ∈ x.live && (d.direct s m (unitLba t + 1 + j)).isNone

/-! ### Parameter space (R32, R33) -/

/-- Byte `o` of the Parameter Block of context `k`: bank headers, shadow bank, active bank. -/
def Dev.paramByte (d : Dev) (k o : Nat) : Byte :=
  let x := d.ctx k
  let active : Bool := 0x20000 ≤ o
  let i := o % 0x20000
  if i < 0x1000 then
    let dw := match i / 4 with
      | 0 => k + 256 * (x.head.getD 0xFF) + 65536 * b2n x.head.isSome
      | 2 => if active then x.active.qid else 0
      | 4 => if active then x.appliedCid % 2 ^ 32 else 0
      | 5 => if active then x.appliedCid / 2 ^ 32 else 0
      | _ => 0
    BitVec.ofNat 8 (dw / 2 ^ (8 * (i % 4)))
  else Pb.byte (if active then x.active.bank else x.shadow) i

/-- Write bytes to the shadow bank of context `k` from offset `o`; the active bank takes none. -/
def Dev.paramWrite (d : Dev) (k o : Nat) (bs : List Byte) : Dev :=
  d.updCtx k fun x => { x with shadow := bs.zipIdx.foldl (fun b e =>
    if 0x1000 ≤ o + e.2 ∧ o + e.2 < 0x20000 then Pb.setByte b (o + e.2) e.1 else b) x.shadow }

/-- Offset within the block of TARGET of a PARAM command. -/
def paramOff (c : Cmd) : Nat := dw64 c.entry 10 - dwAt c.entry 1 * 0x40000

/-- The checks that PARAM commands share. -/
def Dev.paramCheck (d : Dev) (c : Cmd) (write : Bool) (k : Dev → Dev) : Dev :=
  let t := dwAt c.entry 1
  let off := dw64 c.entry 10
  let len := dwAt c.entry 6
  if !d.ownsCtx c t then d.complete c .INVALID_TARGET
  else if off < t * 0x40000 ∨ (t + 1) * 0x40000 < off + len then d.complete c .RANGE_INVALID
  else if write = true ∧ t * 0x40000 + 0x20000 < off + len then d.complete c .INVALID_FIELD
  else k d

/-- The checks that CALIB commands share. -/
def Dev.calibCheck (d : Dev) (c : Cmd) (k : Dev → Dev) : Dev :=
  let off := dw64 c.entry 10
  let len := dwAt c.entry 6
  if !d.ownsCtx c (dwAt c.entry 1) then d.complete c .INVALID_TARGET
  else if off % 4 ≠ 0 ∨ len % 4 ≠ 0 ∨ len < 4 then d.complete c .INVALID_FIELD
  else if 2 ^ 21 < off + len then d.complete c .RANGE_INVALID
  else k d

/-! ### The commands -/

/-- WRITE starts: its data moves in; a STORE WRITE that finds no room in the pending window waits (R310). -/
def Dev.writeCmd (d : Dev) (c : Cmd) : Dev :=
  let len := dwAt c.entry 6
  match sf c.entry 8 0 2 with
  | 0 => d.storeCheck c fun d => if d.pendingRoom len then d.startMove c len else d
  | 1 => d.paramCheck c true fun d => d.startMove c len
  | 2 => d.calibCheck c fun d => d.startMove c len
  | _ => d.complete c .INVALID_FIELD

/-- READ starts: its data moves out; shedding holds it (R392). -/
def Dev.readCmd (d : Dev) (c : Cmd) : Dev :=
  let go := fun (d : Dev) => if 1 ≤ d.shed then d else d.startMove c 0
  match sf c.entry 8 0 2 with
  | 0 => d.storeCheck c go
  | 1 => d.paramCheck c false go
  | 2 => d.calibCheck c go
  | _ => d.complete c .INVALID_FIELD

/-- FLUSH: complete, or wait until what it covers is durable (R313). -/
def Dev.flushCmd (d : Dev) (c : Cmd) : Dev := if d.flushed c then d.succeed c else d.setCmd { c with phase := .running }

/-- The data of a WRITE has moved. -/
def Dev.writeEnd (d : Dev) (c : Cmd) : Dev :=
  match d.dataIn c 2 (dwAt c.entry 6) with
  | .error st => (d.complete c st).settleWrites
  | .ok bs => match sf c.entry 8 0 2 with
    | 0 => (d.storeWriteEnd c bs).settleWrites
    | 1 => (d.paramWrite (dwAt c.entry 1) (paramOff c) bs).succeed c
    | _ =>
      let d : Dev := { d with cap := { d.cap with
        calHeld := d.cap.calHeld ++ [{ part := c.part, asn := c.asn, ctx := dwAt c.entry 1,
                                       cells := bs.zipIdx.map fun e => (dw64 c.entry 10 + e.2, e.1) }] } }
      d.setCmd { c with phase := .running }

/-- The data of a READ moves to the host. -/
def Dev.readEnd (d : Dev) (c : Cmd) : Dev :=
  let len := dwAt c.entry 6
  let give := fun (d : Dev) (bs : List Byte) (st : Status) => match d.dataOut c 2 len bs with
    | .ok d => d.succeed c 0 st
    | .error st => d.complete c st
  match sf c.entry 8 0 2 with
  | 0 =>
    let s := c.set
    let rs := (d.sset s).storeRuns c.part (dw64 c.entry 10) len
    if d.chainBad c 2 then d.complete c .SGL_INVALID
    else match d.runBytes s rs with
    | none => d.complete c READ_LOST
    | some bs => match d.unreadable s rs with
      | [] => give d bs .SUCCESS
      | as => give (d.rewrite s as false) bs READ_REPAIRED
  | 1 => give d ((seqFrom (paramOff c) len).map fun o => d.paramByte (dwAt c.entry 1) o) .SUCCESS
  | _ =>
    let m := (Assoc.find d.cap.calib (dwAt c.entry 1)).getD []
    give d ((seqFrom (dw64 c.entry 10) len).map fun o => Sparse.get m o 0) .SUCCESS

/-! ### BAR2 (R26, R33, R34) -/

/-- A BAR2 access outside the Parameter Blocks of the function's contexts is denied and counted (R26, R49). -/
def Dev.bar2Deny (d : Dev) (f off : Nat) (write : Bool) : Dev :=
  let d := (d.bump (Pg.MMU 1) Reg.MMU.DENY_CNT).raise (Pg.MMU 1) 1
  if write then d.deny f (Pg.MMU 1) 2 off else d

/-- BAR2_ACCESS: a write of bytes (with byte enables) or a read of `n` bytes at offset `off`, within one Parameter Block. -/
def Dev.bar2 (d : Dev) (f off : Nat) (write : Option (List (Option Byte))) (n : Nat) : Dev :=
  let k := off / 0x40000
  let o := off % 0x40000
  if !d.hasFn f ∨ !d.running then { d with reply := List.replicate n 0 }
  else if d.keep then { d.keepDeny with reply := List.replicate n 0 }
  else if f ≠ 0 ∧ d.ctxOwner k ≠ f then
    { (d.wake [] 2).bar2Deny f off write.isSome with reply := if write.isSome then [] else List.replicate n 0 }
  else match write with
    | some bs =>
      { bs.zipIdx.foldl (fun d e => match e.1 with
          | some b => d.paramWrite k (o + e.2) [b]
          | none => d) (d.wake [Pg.MMU 1] 2) with reply := [] }
    | none => { d.wake [Pg.MMU 1] 2 with reply := (seqFrom o n).map fun i => (d.paramByte k i).toNat }

end Sys2Proof.Machine
end

