-- ==== Sys2Proof/Machine/Admin.lean ====
section
/-! DEFINITION. Admin: functions, partitions, resources, logs, identity and ABORT (spec 11 R297 to R302, R314, R316; spec 12
R335, R339, R340, R349; spec 02 R50, R419). -/

namespace Sys2Proof.Machine

/-! ### Functions (R297, R298) -/

/-- VF_ENABLE: the host sets VF Enable and NumVFs = `n`; 0 stands for VF Enable = 0. New vector counts take effect. -/
def Dev.vfEnable (d : Dev) (n : Nat) : Dev :=
  if !d.hostLink ∨ !d.running then d
  else
    let d := (seqFrom 1 n).foldl (fun (d : Dev) p => d.updPart p fun r => { r with msix := r.msixNext }) d
    { d with hst := { d.hst with numVfs := n } }

/-! ### Partitions (R300, R335) -/

/-- Fields of PARTITION_CONFIG. -/
def pcPart (c : Cmd) : Nat := sf c.entry 1 0 7
def pcVectors (c : Cmd) : Nat := sf c.entry 9 0 12
def pcSessions (c : Cmd) : Nat := sf c.entry 10 16 16
def pcKey (c : Cmd) : Bool := sf c.entry 8 1 1 = 1
def pcReset (c : Cmd) : Bool := sf c.entry 8 2 1 = 1

/-- The checks of R300. -/
def Dev.pcValid (d : Dev) (c : Cmd) : Bool :=
  let p := pcPart c
  let net : Bool := 64 ≤ p
  let v := pcVectors c
  let n := pcSessions c
  let vectors := ((seqFrom 0 64).map fun q => if q = p ∧ v ≠ 0 then v else (d.part q).msixNext).foldl (· + ·) 0
  let sessions := ((seqFrom 64 64).map fun q => if q = p ∧ n ≠ 0 then n else (d.part q).maxSessions).foldl (· + ·) 0
  p ≠ 0 && dwAt c.entry 6 = (if pcKey c then 32 else 0) && vectors ≤ 8192 && sessions ≤ 1024 && (net || !pcKey c) &&
    (!net || v = 0) && (net || n = 0) && v ≤ 2048 && n ≤ 1024

/-- ENABLE of a partition: queue pair 0 of a network partition exists while it is 1 (R300, R303). -/
def Dev.setEnable (d : Dev) (p : PartId) (en : Bool) : Dev :=
  let was := (d.part p).enable
  let d := d.updPart p fun r => { r with enable := en }
  if p < 64 ∨ was = en then d else if en then d.addAdmin p networkAdmin else d.removeQueue p 0 0

/-- A PARTITION_CONFIG that its checks accept. -/
def Dev.pcApply (d : Dev) (c : Cmd) (key : Option (List Byte)) : Dev :=
  let p := pcPart c
  let d := d.updPart p fun r => { r with
    msixNext := if pcVectors c = 0 then r.msixNext else pcVectors c,
    maxSessions := if pcSessions c = 0 then r.maxSessions else pcSessions c,
    key := match key with
      | some k => some k
      | none => r.key,
    keyId := if key.isSome then sf c.entry 10 0 16 else r.keyId }
  let d := d.setEnable p (sf c.entry 8 0 1 = 1)
  (if pcReset c then d.partitionReset p 1 (sf c.entry 8 3 1 = 1) else d).succeed c

/-- PARTITION_CONFIG without a key or a reset. -/
def Dev.partitionConfig (d : Dev) (c : Cmd) : Dev :=
  if pcKey c ∨ pcReset c then d
  else if d.pcValid c then d.pcApply c none else d.complete c .INVALID_FIELD

/-- PARTITION_RESET: PARTITION_CONFIG with RESET. -/
def Dev.partitionResetCmd (d : Dev) (c : Cmd) : Dev :=
  if pcKey c ∨ !pcReset c then d
  else if d.pcValid c then d.pcApply c none else d.complete c .INVALID_FIELD

/-- PARTITION_SET_KEY: PARTITION_CONFIG with SET_KEY: the key moves first. -/
def Dev.partitionSetKey (d : Dev) (c : Cmd) : Dev :=
  if !pcKey c then d
  else if d.pcValid c then d.startMove c 32 else d.complete c .INVALID_FIELD

/-- The key has arrived. -/
def Dev.partitionKeyEnd (d : Dev) (c : Cmd) : Dev :=
  match d.dataIn c 2 32 with
  | .error st => d.complete c st
  | .ok bs => if d.pcValid c then d.pcApply c (some bs) else d.complete c .INVALID_FIELD

/-! ### Pages and resources (R50, R301, R302) -/

/-- The owner of an ownable page changes: class B fields return to reset, its assist requests are resolved (R50). -/
def Dev.movePage (d : Dev) (pg : Page) (p : PartId) : Dev :=
  if 63 < p ∨ Pg.ownKind pg ≠ 1 ∨ d.rd pg Reg.HDR.OWNER = p then d
  else
    let d := (d.wr pg Reg.HDR.OWNER p).clearRegs fun q F _ => q = pg && F.cls = .b
    let d := d.assistsOff (fun a => a.page = pg) (some .off)
    if (Pg.family pg).1 = 0x91 then d.judgeHeld else d

/-- PAGE_OWNER: a write of PAGE_OWNER by partition 0. -/
def Dev.pageOwnerWrite (d : Dev) (f pg v : Nat) : Dev := d.checkedWrite f pg 0xC fun d => d.movePage pg (v % 128)

/-- Objects of each kind (R301). -/
def kindCount : List Nat := [256, 48, 256, 64, 512, 1, 8, 8, 48, 16, 32, 512, 1, 256]

/-- Capacity of R12 for the reservations of a kind, in its unit. -/
def kindCapacity (k : Nat) : Option Nat :=
  match k with
  | 0 => some 40000000
  | 1 => some 64000000
  | 2 => some 9000000
  | 3 => some 4000000
  | 4 => some 4000
  | 7 => some 84000
  | 8 => some 800000
  | _ => none

/-- The partition's total of kinds 5, 6 and 12; of another kind, its objects (R301, R316). -/
def Dev.owned (d : Dev) (p k : Nat) : Nat :=
  match k with
  | 5 => d.rd (qmg p).1 Reg.QMG.QUOTA (qmg p).2
  | 6 => ((List.range 8).map fun s => ((d.sset s).storeExtents p).length).foldl (· + ·) 0
  | 12 => d.lockQuota p
  | 13 => (Pg.allPages.filter fun pg => Pg.ownKind pg = 1 && d.rd pg Reg.HDR.OWNER = p).length
  | _ => ((List.range (kindCount.getD k 0)).filter fun o => if k = 4 then o / 4 = p else d.ownerOf k o = p).length

/-- Step 1 of R301. -/
def Dev.assignField (d : Dev) (p k o n : Nat) : Bool :=
  kindCount.length ≤ k || kindCount.getD k 0 ≤ o || (k = 4 && o / 4 ≠ p) || (k = 6 && d.setOwner o ≠ p) ||
    (k = 13 && (63 < p || !Pg.isPage o || Pg.ownKind o ≠ 1)) || (k = 5 && (n < 1 || 32768 < n)) || (k = 12 && 16384 < n)

/-- Step 2 of R301. -/
def Dev.assignBusy (d : Dev) (p k o n : Nat) : Bool :=
  match k with
  | 0 => (d.ctx o).head.isSome
  | 1 => (d.rend? o).isSome || d.cap.frames.any fun e => e.2.state ∉ [.released, .retired] && Assoc.has e.2.binds o
  | 2 => (d.enc o).cfg.isSome
  | 3 => (d.dec o).cfg.isSome
  | 5 => n < d.queuesOf p
  | 7 => d.pip.takes.any (fun e => e.2.set = o && e.2.state = 0) ||
    (d.sset o).extents.any fun e => 2 ^ 32 ≤ e.2 && e.2 ≠ storeUser p
  | 8 => d.flw o Reg.NETF.EN = 1
  | 11 => d.lutNamed o
  | 12 => n < d.locksOf p
  | _ => false

/-- Step 3 of R301. A set without the free extents asked for is treated alike. -/
def Dev.assignOver (d : Dev) (p k o n : Nat) : Bool :=
  let others := (d.hst.reserve.filter fun e => e.1 / 65536 = k && e.1 % 65536 ≠ o).foldl (fun a e => a + e.2) 0
  let excess : Bool := match kindCapacity k with
    | some cap => cap < others + n
    | none => false
  let quotas := fun (q : Nat → Nat) => ((List.range 128).map fun x => if x = p then n else q x).foldl (· + ·) 0
  excess || (k = 5 && 32768 < quotas fun x => d.owned x 5) || (k = 12 && 16384 < quotas fun x => d.owned x 12) ||
    (k = 6 && ((d.sset o).storeExtents p).length + ((List.range (d.sset o).extentCount).filter (d.sset o).extentFree).length < n)

/-- A partition's store space in a set has `n` extents: the lowest free ones are added, the highest given back. -/
def Dev.setStore (d : Dev) (s p n : Nat) : Dev :=
  let x := d.sset s
  let mine := x.storeExtents p
  if n < mine.length then d.freeExtents s (mine.drop n)
  else
    let free := ((List.range x.extentCount).filter x.extentFree).take (n - mine.length)
    (d.updSset s fun x => { x with extents := free.foldl (fun m e => Assoc.put m e (storeUser p)) x.extents }).showExtents s

/-- The next unit of an object is its first one (R20). -/
def Dev.firstUnit (d : Dev) (k o : Nat) : Dev :=
  match k with
  | 0 => d.updCtx o fun x => { x with lastArrival := none }
  | 1 => { d with pip := { d.pip with lastJob := Assoc.del d.pip.lastJob o } }
  | 2 => d.updEnc o fun x => { x with lastTime := none }
  | 3 => d.updDec o fun x => { x with lastTime := none }
  | 4 => { d with pip := { d.pip with lastClass := Assoc.del d.pip.lastClass o } }
  | _ => d

/-- Does a request name object `o` of kind `k`? -/
def Assist.names (a : Assist) (k o : Nat) : Bool :=
  a.object = o && (match k with
    | 0 => a.func ∈ [1, 4, 5, 6]
    | 2 => a.func = 2
    | 3 => a.func = 3
    | 7 => a.func = 7
    | _ => false)

/-- Make the assignment. -/
def Dev.assign (d : Dev) (p k o n : Nat) : Dev :=
  match k with
  | 5 => d.wr (qmg p).1 Reg.QMG.QUOTA n (qmg p).2
  | 12 =>
    let paused := fun (d : Dev) => decide (d.lockQuota p ≤ d.locksOf p)
    let d' := d.wr Pg.RLK Reg.RLK.QUOTA n p
    if !paused d && paused d' then d'.bump Pg.RLK Reg.RLK.FULL_STALL_CNT else d'
  | 6 => (d.setStore o p n).settleWrites
  | 13 => d.movePage o p
  | _ =>
    let moved := d.ownerOf k o ≠ p
    let key := k * 65536 + o
    let d : Dev := { d with hst := { d.hst with owner := Sparse.set d.hst.owner key p 0, reserve := Sparse.set d.hst.reserve key n 0 } }
    let d := d.firstUnit k o
    let d := if moved then d.assistsOff (fun a => a.names k o) (some .off) else d
    if k = 9 ∨ k = 10 then d.judgeHeld else d

/-- RESOURCE_ASSIGN (R301). -/
def Dev.resourceAssign (d : Dev) (c : Cmd) : Dev :=
  let p := sf c.entry 1 0 7
  let k := sf c.entry 8 0 4
  let o := sf c.entry 8 16 16
  let n := dwAt c.entry 9
  if d.assignField p k o n then d.complete c .INVALID_FIELD
  else if d.assignBusy p k o n then d.complete c .OBJECT_BUSY
  else if d.assignOver p k o n then d.complete c .RESOURCE_LIMIT
  else
    let d := d.assign p k o n
    d.succeed c (if k = 5 ∨ k = 6 ∨ k = 12 then d.owned p k else 0)

/-! ### Identity (R316) -/

/-- Active IMAGE_REV, then that of the other slot. -/
def Dev.imageRevs (d : Dev) : List Byte :=
  let rev := fun k => d.rd Pg.FWM (if k = 0 then Reg.FWM.REV_A else Reg.FWM.REV_B)
  let s := d.rd Pg.SYS Reg.SYS.SOURCE
  leBytes 4 (if s = 2 then d.brd.hostRev else rev s) ++ leBytes 4 (rev (1 - d.rd Pg.FWM Reg.FWM.ACTIVE_SLOT))

/-- IDENTIFY data. -/
def Dev.identity (d : Dev) (p : PartId) (part : Bool) : List Byte :=
  let words := fun (l : List Nat) => l.flatMap (leBytes 4)
  fit 4096 (if part then
      leBytes 4 0x50493741 ++ leBytes 4 p ++ leBytes 8 (d.part p).asnNext ++
        words ([d.owned p 5, d.queuesOf p, d.owned p 12, d.locksOf p] ++ (List.range 14).map fun k => d.owned p k)
    else
      leBytes 4 0x44493741 ++ leBytes 4 0x00B1 ++ leBytes 8 Config.deviceUid.toNat ++ d.imageRevs ++
        words ([d.rd Pg.NVS Reg.NVS.EPOCH, 0] ++ [256, 48, 256, 64, 512, 32768, 8, 48, 16, 16, 16, 32]))

/-- Give `bs` at PTR0: with a scatter list, LEN0 is the sum of its lengths. -/
def Dev.giveOut (d : Dev) (c : Cmd) (bs : List Byte) : Except Status Dev :=
  d.dataOut c 2 (if sf c.entry 0 8 1 = 1 then dwAt c.entry 6 else bs.length) bs

/-- IDENTIFY starts; its data moves. -/
def Dev.identify (d : Dev) (c : Cmd) : Dev := d.startMove c 0

def Dev.identifyEnd (d : Dev) (c : Cmd) : Dev :=
  match d.giveOut c (d.identity c.part (sf c.entry 8 0 1 = 1)) with
  | .ok d => d.succeed c
  | .error st => d.complete c st

/-! ### Logs (R316, R339, R340, R397) -/

/-- A 32 B record of the Orphan Completion log. -/
def Orphan.bytes (o : Orphan) : List Byte :=
  dwBytes o.entry ++ leBytes 8 o.asn ++ leBytes 1 o.opcode ++ leBytes 1 o.reason ++ zeros 2 ++ leBytes 4 o.ms

/-- A 64 B record of the fault history. -/
def faultBytes (e : Event × Nat × Nat) : List Byte := fit 64 (e.1.bytes false ++ leBytes 4 e.2.1 ++ leBytes 1 e.2.2)

/-- The fault records that a partition may see, newest first. -/
def Dev.faultsFor (d : Dev) (p : PartId) : List (Event × Nat × Nat) := d.jnl.faults.filter fun e => p = 0 || e.2.2 = p

/-- A log as a partition reads it: header, then records, oldest first. -/
def Dev.logView (d : Dev) (p : PartId) (log : Nat) : Option (List Byte) :=
  let view := fun (magic size first lost : Nat) (rs : List (List Byte)) =>
    some (leBytes 4 magic ++ leBytes 4 size ++ leBytes 4 rs.length ++ zeros 4 ++ leBytes 8 first ++ leBytes 4 lost ++ zeros 4 ++ rs.flatten)
  match log with
  | 1 =>
    let r := d.part p
    view 0x474F4C4F 32 ((r.orphans.head?.map (·.asn)).getD 0) r.orphansLost (r.orphans.map (·.bytes))
  | 2 => view 0x54464C47 64 0 d.jnl.faultsLost ((d.faultsFor p).reverse.map faultBytes)
  | 3 => view 0x4D524854 64 0 d.jnl.tripsLost (d.jnl.trips.reverse.map (fit 64))
  | _ => none

/-- LOG_READ starts; its data moves. -/
def Dev.logRead (d : Dev) (c : Cmd) : Dev :=
  if 1 ≤ sf c.entry 8 0 8 ∧ sf c.entry 8 0 8 ≤ 3 then d.startMove c 0 else d.complete c .INVALID_FIELD

/-- The log is copied; with CONSUME, Orphan Completion records wholly returned are removed. -/
def Dev.logReadEnd (d : Dev) (c : Cmd) : Dev :=
  let log := sf c.entry 8 0 8
  let off := dwAt c.entry 9
  match d.logView c.part log with
  | none => d.complete c .INVALID_FIELD
  | some v =>
    let bs := (v.drop off).take (dwAt c.entry 6)
    match d.giveOut c bs with
    | .error st => d.complete c st
    | .ok d =>
      let gone := fun (i : Nat) => off ≤ 32 + 32 * i && 64 + 32 * i ≤ off + bs.length
      let d := if log = 1 ∧ sf c.entry 10 0 1 = 1 then
          d.updPart c.part fun r => { r with orphans := (r.orphans.zipIdx.filter fun e => !gone e.2).map (·.1) }
        else d
      d.succeed c bs.length

/-! ### Return (R349) -/

/-- Fault records in the return record. -/
def Dev.returnFaults (d : Dev) : List (Event × Nat × Nat) := d.jnl.faults.take 16320

/-- Bytes of the return record. -/
def Dev.returnSize (d : Dev) : Nat := 0x1000 + 64 * d.returnFaults.length

/-- Is a field of class D or N a counter: one that a read clears, one that counts modulo, or one of those that only rise? -/
def Fld.counts (F : Fld) : Bool :=
  F.acc = .rc || F.wrap || F ∈ [Reg.NVS.ROWS_SPARED, Reg.FWM.FAILOVER_CNT, Reg.FWM.RUN_HOURS, Reg.HBM.ROWS_SPARED, Reg.YPT_B.ROWS_SPARED,
    Reg.XSP.ERASE_A, Reg.XSP.ERASE_B]

/-- Class D and class N counters of every page, in page order, each in whole bytes. -/
def Dev.counterBytes (d : Dev) : List Byte :=
  Pg.allPages.flatMap fun pg =>
    ((Pg.block pg).filter fun F => (F.cls = .d || F.cls = .n) && Fld.counts F).flatMap fun F =>
      (List.range (max 1 F.cnt)).flatMap fun i => (List.range (max 1 F.cnt2)).flatMap fun j => leBytes (ceilDiv F.width 8) (d.rd pg F i j)

/-- SHA-256 of the configuration region, keys excluded (R349): the class N fields, and the assignments and reservations of objects
(R302). -/
def Dev.configDigest (d : Dev) : List Byte :=
  let kept := d.regs.filter fun e => match keyField e.1 with
    | some (F, _, _) => F.cls = .n
    | none => false
  let h := Crypto.sha256 (Config.configRegion kept d.hst.owner d.hst.reserve)
  (List.range 32).map fun i => h.getD i 0

/-- The return record without its signature, around it: the bytes before it and after it. -/
def Dev.returnParts (d : Dev) : List Byte × List Byte :=
  let j := d.jnl
  let head := fit 0x40 (leBytes 4 0x54525452 ++ leBytes 4 d.returnSize ++ leBytes 8 Config.deviceUid.toNat ++
    leBytes 4 (d.rd Pg.NVS Reg.NVS.EPOCH) ++ d.imageRevs ++ leBytes 4 (d.runHours) ++ leBytes 8 d.ns)
  let ledger := fit 64 ([d.rd Pg.NVS Reg.NVS.RECORDS_CNT, j.replays, j.stalls, j.holdupLosses, j.lowest].flatMap (leBytes 8))
  let trips := fit 1024 ((j.trips.take 16).flatMap (fit 64))
  (fit 0x100 (head ++ d.configDigest ++ ledger) ++ fit 0x400 trips ++ fit 2048 d.counterBytes ++ zeros 0x200,
   zeros 160 ++ d.returnFaults.flatMap faultBytes)

/-- RETURN_CAPTURE starts; its data moves. -/
def Dev.returnCapture (d : Dev) (c : Cmd) : Dev :=
  if dwAt c.entry 6 < d.returnSize then d.complete c .INVALID_FIELD d.returnSize else d.startMove c 0

def Dev.returnCaptureEnd (d : Dev) (c : Cmd) : Dev :=
  if dwAt c.entry 6 < d.returnSize then d.complete c .INVALID_FIELD d.returnSize
  else
    let (a, b) := d.returnParts
    let bs := a ++ fit 96 (Config.deviceSign (a ++ b)) ++ b
    match d.giveOut c bs with
    | .error st => d.complete c st
    | .ok d => ({ d with jnl := { d.jnl with lastReturn := bs } } : Dev).succeed c bs.length

/-! ### ABORT (R314, R70, R232, R258, R274) -/

/-- Rebuild the generations that follow one that is taken away: each Quire's contents over its new predecessor. -/
def rebuildGens (qs : List Quire) : List Gen → List Gen → List Gen
  | acc, [] => acc
  | acc, g :: gs =>
    let prev := (acc.getLast?.getD {}).bank
    let g := match qs.find? fun q => q.part = g.part && q.asn = g.asn && q.id = g.qid with
      | some q => { g with bank := q.contents prev }
      | none => g
    rebuildGens qs (acc ++ [g]) gs

/-- A Quire leaves the promotion order; later Quires keep their own targets (R70). -/
def Ctx.dropQuire (x : Ctx) (q : Quire) : Ctx :=
  let mine := fun (g : Gen) => g.part = q.part && g.asn = q.asn && g.qid = q.id
  let keep := x.gens.takeWhile fun g => !mine g
  let later := (x.gens.dropWhile fun g => !mine g).drop 1
  { x with quires := x.quires.filter (· ≠ q), gens := if x.gens.any mine then rebuildGens x.quires keep later else x.gens }

/-- A QUIRE_SEAL is caught before its effective frame's first pass starts, and before its settings are sent. -/
def Dev.quireCatch (d : Dev) (c : Cmd) : Option Dev :=
  let k := sf c.entry 1 0 8
  match (d.ctx k).quires.find? fun q => !q.loop && q.part = c.part && q.asn = c.asn with
  | none => none
  | some q =>
    let started : Bool := match q.eff with
      | none => false
      | some n => match (d.framesOf k).find? fun f => f.ord = n with
        | some f => f.firstGen.isSome || f.pastSeal
        | none => true
    if q.sendHead || started then none else some ((d.setCtx k ((d.ctx k).dropQuire q)).resolveAll k)

/-- The device without a command that ABORT catches; none where the command is past its catch window. -/
def Dev.caught (d : Dev) (c : Cmd) : Option Dev :=
  let early : Bool := c.phase = .waiting
  let moving : Bool := c.phase = .moving
  if c.queue = 0 then none
  else if early && d.barred c then some d
  else match opcode c.entry with
    | 0x80 => if early || c.phase = .running then some d else none
    | 0x81 =>
      let held : Bool := d.cap.calHeld.any fun w => w.part = c.part && w.asn = c.asn
      if early || moving || held then
        some { d with cap := { d.cap with calHeld := d.cap.calHeld.filter fun w => !(w.part = c.part && w.asn = c.asn) } }
      else none
    | 0x82 => if early then some d else none
    | 0x88 => if early then some d else d.quireCatch c
    | 0x90 =>
      (match sf c.entry 8 0 4 with
      | 1 => if early || moving then some d else d.encCatch (sf c.entry 1 0 8) c.part c.asn
      | 2 | 7 => if early then some d else none
      | _ => none)
    | 0x91 =>
      if sf c.entry 8 0 2 ≠ 1 then none
      else if early || moving then some d
      else
        let n := sf c.entry 1 0 6
        let mine := fun (u : DecUnit) => u.part = c.part && u.asn = c.asn
        if (d.dec n).units.any mine then some (d.updDec n fun x => { x with units := x.units.filter fun u => !mine u }) else none
    | 0x92 => if !d.onEngine c.part c.asn then some d else none
    | _ => none

/-- ABORT: the accepted command of a queue with that CID and the lowest ASN. -/
def Dev.abort (d : Dev) (c : Cmd) : Dev :=
  let q := sf c.entry 8 0 16
  let cid := sf c.entry 8 16 16
  match (d.cmdsOf c.part).filter fun x => x.queue = q && x.cid = cid && !x.gone && x.asn ≠ c.asn with
  | [] => d.succeed c
  | x :: xs =>
    let t := xs.foldl (fun a y => if y.asn < a.asn then y else a) x
    match d.caught t with
    | some d => ((d.complete t .ABORTED).settleWrites).succeed c 1
    | none => d.succeed c

end Sys2Proof.Machine
end

