-- ==== Sys2Proof/Machine/Rct.lean ====
section
/-! DEFINITION. Rct: the Remote Command Transport (spec 11 R317 to R321). -/

namespace Sys2Proof.Machine

/-- A received RCT packet (R317). -/
structure RctIn where
  type : Nat
  session : Nat
  seq : Nat
  ack : Nat
  sack : Nat
  payload : List Byte
  /-- header and payload, over which the MAC runs -/
  covered : List Byte
  mac : List Byte
deriving DecidableEq, Repr

/-- Read a packet: MAGIC, VERSION and LENGTH must fit. -/
def rctParse (b : List Byte) : Option RctIn :=
  let u := fun (o n : Nat) => ofLe ((b.drop o).take n)
  let len := u 6 2
  if b.length ≠ 24 + len + 16 ∨ u 0 2 ≠ 0x4352 ∨ u 2 1 ≠ 1 then none
  else some { type := u 3 1, session := u 4 2, seq := u 8 4, ack := u 12 4, sack := u 16 8, payload := (b.drop 24).take len,
              covered := b.take (24 + len), mac := b.drop (24 + len) }

/-- The page of an Ethernet port's RCT registers. -/
def netPort (port : Nat) : Page := Pg.NET (2 * port)

/-- Does a port take RCT packets: it is in service? -/
def Dev.portUp (d : Dev) (port : Nat) : Bool := d.running && !(port ∈ d.hst.portsDown) && !d.jnl.powerLoss

def Dev.session? (d : Dev) (id : Nat) : Option Session := Assoc.find d.hst.sessions id

/-! ### Opening (R318) -/

/-- The lowest session number from `k` on that is free. -/
def freeSession (used : List Nat) : Nat → Nat → Nat
  | 0, k => k
  | n + 1, k => if k ∈ used then freeSession used n (k + 1) else k

/-- OPEN_REQ: the device answers with a challenge, unless it ignores the address. -/
def Dev.openReq (d : Dev) (port addr : Nat) (b : List Byte) : Dev :=
  match rctParse b with
  | none => d
  | some x =>
    let u := fun (o n : Nat) => ofLe ((x.payload.drop o).take n)
    let ignored := match Assoc.find d.hst.ignored addr with
      | some t => d.elapsed < t
      | none => false
    if !d.portUp port ∨ x.type ≠ 0x10 ∨ x.session ≠ 0 ∨ x.payload.length ≠ 24 ∨ u 6 2 < 1 ∨ 8 < u 6 2 ∨ ignored = true then d
    else
      let used := d.hst.sessions.map (·.1)
      let id := freeSession used (used.length + 1) 1
      if 65536 ≤ id then d
      else
        let nd := fit 16 (Config.random d.free)
        let s : Session := { port := port, addr := addr, part := u 0 1, queue := u 2 2, keyId := u 4 2, dataKib := u 6 2,
                             nc := x.payload.drop 8, nd := nd }
        (d.freeStep.setSession id s).emit (.rct port addr (rctPacket s id 0x11 0 (nd ++ leBytes 8 Config.deviceUid.toNat)))

/-- CHALLENGE_EXPIRY: a challenge not proved within 1 s is removed. -/
def Dev.challengeExpiry (d : Dev) (id : Nat) : Dev :=
  match d.session? id with
  | some s => if s.state = .challenged then { d with hst := { d.hst with sessions := Assoc.del d.hst.sessions id } } else d
  | none => d

/-- Ticks in 60 s. -/
def MINUTE : Nat := 48000000000

/-- An AUTH_FAIL result: counted; eight within 60 s make the device ignore the address for 60 s (R318). -/
def Dev.authFail (d : Dev) (port addr : Nat) : Dev :=
  let d := d.bump (netPort port) Reg.NETP.AUTH_FAIL_CNT
  let ts := d.elapsed :: (((Assoc.find d.hst.authFails addr).getD []).filter fun t => d.elapsed < t + MINUTE)
  if 8 ≤ ts.length then
    let d : Dev := { d with hst := { d.hst with authFails := Assoc.del d.hst.authFails addr,
                                                ignored := Assoc.put d.hst.ignored addr (d.elapsed + MINUTE) } }
    (d.event 0 (netPort port) WARN 0x0803).raise (netPort port) 2
  else { d with hst := { d.hst with authFails := Assoc.put d.hst.authFails addr ts } }

/-- The result of a proof (OPEN_DONE results). -/
def Dev.proofResult (d : Dev) (id : Nat) (s : Session) (proof : List Byte) : Nat :=
  let r := d.part s.part
  let msg := ascii "RCT-C" ++ s.nc ++ s.nd ++ leBytes 2 id ++ leBytes 1 s.part ++ leBytes 2 s.queue
  let held := fun (x : Session) => x.part = s.part && x.queue = s.queue && x.state = .hold
  let live := d.hst.sessions.filter fun e => e.2.state ≠ .challenged && !held e.2
  if s.part < 64 ∨ 127 < s.part ∨ !r.enable then 2
  else match r.key with
    | none => 1
    | some k =>
      if r.keyId ≠ s.keyId ∨ Crypto.hmac k msg ≠ proof then 1
      else if (d.queue? s.part s.queue).isNone then 5
      else if live.any (fun e => e.2.part = s.part && e.2.queue = s.queue) then 3
      else if r.maxSessions ≤ (live.filter fun e => e.2.part = s.part).length ∨ 1024 ≤ live.length then 4
      else 0

/-- Does an accepted command of a queue pair still wait for data of its client? -/
def Cmd.starved (c : Cmd) (p q : Nat) : Bool := c.part = p && c.queue = q && !c.gone && c.phase = .moving && c.rx.length < c.want

/-- The bytes received without a gap: their number is the first byte not yet received. -/
def dense (l : List (Nat × Byte)) : List (Nat × Byte) := (l.zipIdx.takeWhile fun e => e.1.1 = e.2).map (·.1)

/-- Accepted commands of a queue pair that still wait for data are offered every window again from the first byte not yet
received (R321). -/
def Dev.reoffer (d : Dev) (p q : Nat) : Dev :=
  (d.hst.cmds.map (·.2)).foldl (fun d c => if c.starved p q then d.offer { c with rx := dense c.rx } else d) d

/-- Give a session what waits for it: the queue of the session it takes over, or the records its partition's rings keep. -/
def Dev.resume (d : Dev) (id : Nat) (s : Session) (old : Option (Nat × Session)) : Dev :=
  let d := match old with
    | some (o, x) =>
      let d : Dev := { d with hst := { d.hst with sessions := Assoc.del d.hst.sessions o } }
      x.queued.foldl (fun (d : Dev) (y : RctPacket) => d.rctReply id y.type y.payload y.orphan) d
    | none =>
      if s.queue ≠ 0 then d
      else
        let r := d.part s.part
        let keep := fun (k : Nat) (g : Option Ring) => match g with
          | some g => g.kept.map fun b => (k, b)
          | none => []
        (keep 1 r.evt ++ keep 2 r.ast).foldl (fun (d : Dev) (e : Nat × List Byte) => d.rctSend id 0x04 (rctResponse e.1 e.2)) d
  d.reoffer s.part s.queue

/-- OPEN_PROVE: the proof is checked; the session opens, taking over one in HOLD on its queue pair, or is refused. -/
def Dev.openProve (d : Dev) (port addr : Nat) (b : List Byte) : Dev :=
  match rctParse b with
  | none => d
  | some x =>
    match d.session? x.session with
    | none => d
    | some s =>
      if !d.portUp port ∨ x.type ≠ 0x12 ∨ s.state ≠ .challenged ∨ x.payload.length ≠ 32 then d
      else
        let id := x.session
        let done := fun (d : Dev) (r held : Nat) (proof : List Byte) =>
          d.emit (.rct port addr (rctPacket s id 0x13 0 (leBytes 1 r ++ zeros 1 ++ leBytes 2 held ++ proof)))
        match d.proofResult id s x.payload with
        | 0 =>
          let k := (d.part s.part).key.getD []
          let old := d.hst.sessions.find? fun e => e.2.part = s.part && e.2.queue = s.queue && e.2.state = .hold
          let held := match old with
            | some (_, o) => (o.queued.filter (·.type = 0x04)).length
            | none => 0
          let s := { s with port := port, addr := addr, state := .opened,
                            key := Crypto.hmac k (ascii "RCT-K" ++ s.nc ++ s.nd ++ leBytes 2 id) }
          let d := d.setSession id s
          let d := done d 0 held (Crypto.hmac k (ascii "RCT-D" ++ s.nd ++ s.nc ++ leBytes 2 id))
          let d := if s.queue = 0 then d.updPart s.part fun r => { r with paused := false } else d
          d.resume id s old
        | 1 =>
          let d : Dev := { d with hst := { d.hst with sessions := Assoc.del d.hst.sessions id } }
          (done d 1 0 (zeros 32)).authFail port addr
        | r => let (d, p) := d.freeBytes 32; done d r 0 p

/-! ### Acknowledgements (R319) -/

/-- An acknowledged record of a network partition's ring counts as returned (R320). -/
def Dev.ackRecord (d : Dev) (p : PartId) (x : RctPacket) : Dev :=
  let back := fun (g : Ring) => if 0 < g.skip then { g with skip := g.skip - 1 }
    else { g with head := (g.head + 1) % g.depth, kept := g.kept.drop 1 }
  if x.type ≠ 0x04 then d
  else match ofLe (x.payload.take 1) with
    | 1 => d.updPart p fun r => { r with evt := r.evt.map back }
    | 2 => d.updPart p fun r => { r with ast := r.ast.map back }
    | _ => d

/-- Send packets that wait while fewer than 256 are unacknowledged. -/
def Dev.drainWaiting (d : Dev) (id : Nat) : Nat → Dev
  | 0 => d
  | n + 1 => match d.session? id with
    | none => d
    | some s => match s.waiting with
      | x :: r => if s.unacked.length < 256 then ((d.rctIssue id { s with waiting := r } x).rctPosted s.part x.orphan).drainWaiting id n else d
      | [] => d

/-- Take ACK and SACK of a received packet. -/
def Dev.takeAck (d : Dev) (id ack sack : Nat) : Dev :=
  match d.session? id with
  | none => d
  | some s =>
    let behind := fun (x : RctPacket) => (ack + 2 ^ 32 - x.seq % 2 ^ 32) % 2 ^ 32
    let valid : Bool := (s.txSeq + 2 ^ 32 - ack) % 2 ^ 32 ≤ 256
    if !valid then d
    else
      let acked := s.unacked.filter fun x => 1 ≤ behind x && behind x ≤ 256
      let left := (s.unacked.filter fun x => x ∉ acked).map fun x =>
        let i := (x.seq + 2 ^ 33 - ack - 1) % 2 ^ 32
        { x with sack := x.sack || (i < 64 && bitAt sack i), tries := if acked = [] then x.tries else 0 }
      let d := d.setSession id { s with unacked := left }
      let d := acked.foldl (fun d x => d.ackRecord s.part x) d
      d.drainWaiting id s.waiting.length

/-- A session that is closing has delivered every outstanding RESPONSE: it sends CLOSE and goes (R321). -/
def Dev.closeIfDone (d : Dev) (id : Nat) : Dev :=
  match d.session? id with
  | none => d
  | some s =>
    if s.state = .closing ∧ s.unacked = [] ∧ s.waiting = [] ∧ d.outstanding s.part s.queue = 0 then
      let d := d.rctSend id 0x14 []
      { d with hst := { d.hst with sessions := Assoc.del d.hst.sessions id } }
    else d

/-! ### Packets in order (R319, R320) -/

/-- DATA fills an offered window; DATA outside one is discarded and counted (R320; no register shows the count, log 139). -/
def Dev.takeData (d : Dev) (id : Nat) (s : Session) (b : List Byte) : Dev :=
  let u := fun (o n : Nat) => ofLe ((b.drop o).take n)
  let data := b.drop 16
  let lost := d.setSession id { s with discarded := s.discarded + 1 }
  match (d.hst.cmds.map (·.2)).find? (fun c => c.part = s.part && c.queue = s.queue && !c.gone && c.cid = u 0 2 && c.asn % 2 ^ 32 = u 4 4) with
  | none => lost
  | some c => match c.window with
    | none => lost
    | some (off, n) =>
      let o := u 8 4
      if b.length < 16 ∨ u 2 1 ≠ 0 ∨ s.dataKib * 1024 < data.length ∨ o < off ∨ off + n < o + data.length then lost
      else
        let c := { c with rx := data.zipIdx.foldl (fun m e => Assoc.put m (o + e.2) e.1) c.rx }
        if (seqFrom off n).all (fun i => Assoc.has c.rx i) then d.offer c else d.setCmd c

/-- May a COMMAND be accepted from the device-held SQ: it has room, and fetching would take it? -/
def Dev.sqRoom (d : Dev) (p q : Nat) (x : Queue) : Bool :=
  d.outstanding p q + 1 < x.sqDepth && d.cqRoom p q x && d.takesFrom p q

/-- Process the packet that comes next in SEQ order; answers none when a COMMAND is discarded without acknowledgement. -/
def Dev.rctDeliver (d : Dev) (id type : Nat) (b : List Byte) : Option Dev :=
  match d.session? id with
  | none => none
  | some s =>
    match type with
    | 0x01 => match d.queue? s.part s.queue with
      | none => none
      | some x =>
        if s.state ≠ .opened ∨ b.length ≠ 64 ∨ !d.sqRoom s.part s.queue x then none
        else
          let t := (x.sqHead + 1) % x.sqDepth
          some ((d.setQueue s.part s.queue { x with sqHead := t, sqTail := t }).accept s.part s.queue x.sqHead x.sqDepth
            ((List.range 16).map fun i => ofLe ((b.drop (4 * i)).take 4)))
    | 0x03 => some (d.takeData id s b)
    | 0x14 => some (d.setSession id { s with state := .closing })
    | _ => some d

/-- Process received packets as far as they follow in SEQ order. -/
def Dev.rctDeliverAll (d : Dev) (id : Nat) : Nat → Dev
  | 0 => d
  | n + 1 => match d.session? id with
    | none => d
    | some s => match s.early.find? fun e => e.1 = s.rxNext with
      | none => d
      | some (k, type, b) =>
        let rest := s.early.filter fun e => e.1 ≠ k
        match (d.setSession id { s with early := rest, rxNext := k + 1 }).rctDeliver id type b with
        | some d => d.rctDeliverAll id n
        | none => d.setSession id { s with early := rest }

/-- A numbered or ACK packet of a session arrives (R319): its MAC is checked, its acknowledgements are taken, and packets
are processed in SEQ order. -/
def Dev.rctReceive (d : Dev) (port type : Nat) (b : List Byte) : Dev :=
  match rctParse b with
  | none => d
  | some x =>
    match d.session? x.session with
    | none => d
    | some s =>
      if !d.portUp port ∨ x.type ≠ type ∨ s.state = .challenged ∨ s.state = .hold then d
      else if (Crypto.hmac s.key x.covered).take 16 ≠ x.mac then d.bump (netPort port) Reg.NETP.MAC_FAIL_CNT
      else
        let id := x.session
        let d := d.takeAck id x.ack x.sack
        let d := match d.session? id with
          | none => d
          | some s =>
            if !rctNumbered type then d
            else
              let off := (x.seq + 2 ^ 32 - s.rxNext % 2 ^ 32) % 2 ^ 32
              let k := s.rxNext + off
              let d := if off < 256 ∧ !s.early.any (fun e => e.1 = k) then
                  (d.setSession id { s with early := (k, type, x.payload) :: s.early }).rctDeliverAll id 257
                else d
              d.rctSend id 0x05 []
        d.closeIfDone id

def Dev.rctCommand (d : Dev) (port : Nat) (b : List Byte) : Dev := d.rctReceive port 0x01 b

def Dev.rctData (d : Dev) (port : Nat) (b : List Byte) : Dev := d.rctReceive port 0x03 b

def Dev.rctAck (d : Dev) (port : Nat) (b : List Byte) : Dev := d.rctReceive port 0x05 b

def Dev.rctClose (d : Dev) (port : Nat) (b : List Byte) : Dev := d.rctReceive port 0x14 b

/-! ### Timers (R319, R321) -/

/-- A session fails: HOLD, its RESPONSEs not acknowledged are queued in their order (R321). -/
def Dev.failSession (d : Dev) (id : Nat) : Dev :=
  match d.session? id with
  | none => d
  | some s =>
    if s.state ≠ .opened ∧ s.state ≠ .closing then d
    else
      let owed := (s.unacked ++ s.waiting).filter fun x => x.type = 0x04 || x.type = 0x03
      let d : Dev := { d with hst := { d.hst with cmds := d.hst.cmds.map fun e =>
        if e.2.part = s.part ∧ e.2.queue = s.queue then (e.1, { e.2 with window := none }) else e } }
      (d.setSession id { s with state := .hold, queued := owed.map fun x => { x with tries := 0 }, unacked := [], waiting := [], early := [] }).raise (netPort s.port) 1

/-- SESSION_TIMEOUT: sixteen timeouts without progress, or SESSION_TIMEOUT_MS without a packet. -/
def Dev.sessionTimeout (d : Dev) (id : Nat) : Dev := d.failSession id

/-- RCT_RTO: a packet neither acknowledged nor marked in SACK is sent again; its sixteenth timeout in succession without progress
fails the session. -/
def Dev.rctRto (d : Dev) (id seq : Nat) : Dev :=
  match d.session? id with
  | none => d
  | some s =>
    if s.state ≠ .opened ∧ s.state ≠ .closing then d
    else match s.unacked.find? fun x => x.seq = seq && !x.sack with
      | none => d
      | some x =>
        if 16 ≤ x.tries + 1 then d.failSession id
        else
          let again := s.unacked.map fun y => if y.seq = seq then { y with tries := y.tries + 1 } else y
          ((d.setSession id { s with unacked := again }).bump (netPort s.port) Reg.NETP.RETX_CNT).emit
            (.rct s.port s.addr (rctPacket s id x.type x.seq x.payload))

/-- RCT_KEEPALIVE: a side with nothing to send sends an ACK every 100 ms. -/
def Dev.rctKeepalive (d : Dev) (id : Nat) : Dev :=
  match d.session? id with
  | some s => if s.state = .opened ∨ s.state = .closing then d.rctSend id 0x05 [] else d
  | none => d

end Sys2Proof.Machine
end

