-- ==== Sys2Proof/Machine/Faults.lean ====
section
/-! DEFINITION. Faults: memory stacks, SRAM, the Spine, the journal store, PLLs and Ethernet ports (spec 01 R21 to R27;
spec 12 R341). -/

namespace Sys2Proof.Machine

/-- Ticks of a day, and of a second. -/
def DAY : Nat := 86400 * 800000000
def SECOND : Nat := 800000000

/-- Did a row show an error within a day before? -/
def rowSeen (l : List (Nat × Nat × Nat)) (m row now : Nat) : Bool := l.any fun e => e.1 = m && e.2.1 = row && now < e.2.2 + DAY

def rowForget (l : List (Nat × Nat × Nat)) (m row : Nat) : List (Nat × Nat × Nat) := l.filter fun e => !(e.1 = m && e.2.1 = row)

/-! ### Retiring a memory stack (R23, R25) -/

/-- Reserved regions by bit of REGIONS, with their size per copy in MiB (R21). -/
def regionMib : List Nat := [128, 256, 64, 512, 512, 1024]

/-- A frame is dropped by a memory fault: FRAME_DROPPED to its context's owner (R23, R25). -/
def Dev.loseFrame (d : Dev) (k : Nat) : Dev :=
  match d.frame? k with
  | none => d
  | some f => (d.dropFrame k).event f.owner (d.rspPage f.ctx) FAULT 0x0205 (frameData f.head f.hdr.cid)

/-- Has a frame reached its seal point? -/
def Frame.isSealed (f : Frame) : Bool := f.state ∈ [.sealed, .processed, .released, .retired]

/-- Does a frame that is past its seal point still need its raw: for its final pass, a respin of its Section pass that runs or
waits, or the coding of its Take? -/
def Dev.needsRaw (d : Dev) (f : Frame) : Bool :=
  (f.out.isNone && !f.recordOnly) || f.pass.isSome || f.pending.any (·.2) ||
    (match d.takeOf f.key with
    | some (_, _, { coding := .done .., .. }) => false
    | x => x.isSome)

/-- Does a rendition pass over a frame's developed image run or wait? -/
def Dev.needsImage (d : Dev) (f : Frame) : Bool := (d.pip.jobs.any fun j => j.frame = f.key) || f.pending.isSome

/-- Stacks that hold MEMORY sink buffers of a frame. -/
def Dev.sinkStacks (d : Dev) (f : Frame) : List Nat := d.pip.bufs.flatMap fun e => (e.2.filter fun b => b.frame = f.key).map (·.stack)

/-- Does the loss of a stack cost a frame (R23 steps 2 and 3)? A sealed frame needs its raw, or the developed image that a
rendition pass still reads. -/
def Dev.lostWith (d : Dev) (s : Nat) (f : Frame) : Bool :=
  if f.isSealed then (f.stack = s && d.needsRaw f) || (f.devStack = some s && d.needsImage f)
  else f.stack = s || f.devStack = some s || (d.sinkStacks f).contains s

/-- A memory stack retires (R23): MIRROR_RESTORED ends the copying of its reserved regions. -/
def Dev.retireStack (d : Dev) (s : Nat) : Dev :=
  if !d.stackLive s then d
  else
    let lost := (d.cap.frames.filter fun e => d.lostWith s e.2).map (·.1)
    let pg := Pg.HBM s
    let d := ((d.wr pg Reg.HBM.STATE 3).wr pg Reg.HBM.REGIONS 0).wr pg Reg.HBM.POOL_MIB 0
    let d := (d.event 0 pg FAULT 0x0908 [BitVec.ofNat 8 s]).raise pg 2
    let d := lost.foldl (fun (d : Dev) k => d.loseFrame k) d
    d.pauseFit

/-- A reserved region that has one copy gets another in frame-pool space of the next live stack (R23 step 1). -/
def Dev.mirrorRegion (d : Dev) (s r : Nat) : Dev :=
  let holds := fun i => d.stackLive i && bitAt (d.rd (Pg.HBM i) Reg.HBM.REGIONS) r
  if 2 ≤ ((List.range 4).filter holds).length then d
  else match ((List.range 4).map fun i => (s + 1 + i) % 4).find? fun i => d.stackLive i && !holds i with
    | none => d
    | some i =>
      let pg := Pg.HBM i
      (d.wr pg Reg.HBM.REGIONS (d.rd pg Reg.HBM.REGIONS ||| 2 ^ r)).wr pg Reg.HBM.POOL_MIB
        (d.rd pg Reg.HBM.POOL_MIB - regionMib.getD r 0)

/-- MIRROR_RESTORED: every region of a retiring stack has two copies again. -/
def Dev.mirrorRestored (d : Dev) (s : Nat) : Dev :=
  if d.rd (Pg.HBM s) Reg.HBM.STATE ≠ 3 then d
  else (((List.range 6).foldl (fun (d : Dev) r => d.mirrorRegion s r) d).pauseFit.wr (Pg.HBM s) Reg.HBM.STATE 4).wr
    (Pg.HBM s) Reg.HDR.STATE 7

/-- STACK_INTERFACE_LOSS. -/
def Dev.stackLost (d : Dev) (s : Nat) : Dev := d.retireStack s

/-- HBM_RETIRE: a write of RETIRE. -/
def Dev.hbmRetire (d : Dev) (f s v : Nat) : Dev :=
  d.checkedWrite f (Pg.HBM s) 0x114 fun d => if bitAt v 0 then d.retireStack s else d

/-- A spare row replaces a row of a stack. -/
def Dev.spareRow (d : Dev) (s row : Nat) : Dev :=
  let pg := Pg.HBM s
  let left := d.rd pg Reg.HBM.SPARES_LEFT
  let d : Dev := { d with jnl := { d.jnl with hbmRows := rowForget d.jnl.hbmRows s row } }
  if left = 0 then d else (d.bump pg Reg.HBM.ROWS_SPARED).wr pg Reg.HBM.SPARES_LEFT (left - 1)

/-- A source of encoder context `n` that is not yet coded is lost: a PICTURE completes with ENC_SOURCE, a SINK frame is skipped
(R25, R260, R261). -/
def Dev.encLose (d : Dev) (n : Nat) (s : EncSrc) : Dev :=
  match s.host with
  | some (p, a) => match d.encCatch n p a, d.cmd? p a with
    | some d, some c => d.complete c ENC_SOURCE
    | some d, none => d
    | none, _ => d
  | none =>
    let x := d.enc n
    let same := fun (t : EncSrc) => t.buf = s.buf && t.frame = s.frame
    let x := ((x.ready.filter fun e => same e.src).map (·.num)).foldl EncCtx.dropReady
      { x with held := x.held.filter fun e => !same e.2, later := x.later.filter fun t => !same t }
    (((d.setEnc n x).encSkip n).encFree n s).encIdle n

/-- The buffers of a frame in rendition `r`'s MEMORY sinks are lost: the contexts that wait for one skip it, a copy of one fails
and its Take records the plane as given up (R25, R236, R260). -/
def Dev.loseSinkBufs (d : Dev) (k r : Nat) : Dev :=
  let hit := (List.range 4).flatMap fun i =>
    ((((Assoc.find d.pip.bufs (bufKey r i)).getD []).filter fun b => b.frame = k).flatMap (·.encs)).map fun n => (i, n)
  let d := hit.foldl (fun (d : Dev) e => d.encLose e.2 { frame := k, cid := 0, pts := 0, colophon := [], buf := some (r, e.1) }) d
  let d : Dev := { d with pip := { d.pip with bufs := d.pip.bufs.map fun e =>
    (e.1, if e.1 / 4 = r then e.2.filter fun b => b.frame ≠ k else e.2) } }
  match d.takeOf k with
  | some (n, t, x) =>
    if r ∉ t.rends then d
    else if x.rends.any fun e => e.1 = r then
      d.updTakeFrame n k fun x => { x with rends := x.rends.map fun e => if e.1 = r then (r, none) else e }
    else d.takeRend k r none
  | none => d

/-- What an uncorrectable error reached: 0 a reserved region, which its mirror serves; 1 a buffer of frame `b` of head `a`;
2 the output of rendition `a` for the frame with key `b`; 3 source `b` of those that wait for encoder context `a`, the next one
first; 4 buffer `b` of layer `a`'s complete ones, the newest first;
5 picture `b` of those that decoder context `a` holds, which is then shown nowhere and conceals nothing (R25).
Kind 6 is block `b` of placement `a` of the pending window. -/
def Dev.bufferLost (d : Dev) (kind a b : Nat) : Dev :=
  match kind with
  | 1 => d.loseFrame (frameKey a b)
  | 2 =>
    let out := fun (l : List (Nat × Option Render.Output)) => if Assoc.has l a then Assoc.put l a none else l
    let d := d.updFrame b fun f => { f with outputs := out f.outputs, firstOutputs := out f.firstOutputs }
    ((d.loseSinkBufs b a).releaseProvisional b).settleFrame b
  | 3 => match ((d.enc a).ready.map (·.src) ++ (d.enc a).later ++ (d.enc a).held.map (·.2))[b]? with
    | some s => d.encLose a s
    | none => d
  | 4 =>
    let x := (Assoc.find d.pip.layers a).getD {}
    if x.complete.length ≤ b then d
    else (d.setLayer a { x with complete := x.complete.eraseIdx (x.complete.length - 1 - b) }).bump (layerAt a).1 Reg.DSP.L_DROP_CNT (layerAt a).2
  | 5 => d.updDec a fun x => { x with held := x.held.eraseIdx b, last := if x.last = x.held[b]? then none else x.last }
  | _ => d

/-- An uncorrectable error reached block `b` of placement `a` of the pending window in stack `s`: another copy of the region
serves it, or the block has not the CRC of its EFFECT record any more (R25, R333). -/
def Dev.blockLost (d : Dev) (s a b : Nat) : Dev :=
  let holds := fun i => d.stackLive i && bitAt (d.rd (Pg.HBM i) Reg.HBM.REGIONS) 1
  if !holds s ∨ (List.range 4).any (fun i => i ≠ s && holds i) then d
  else { d with pip := { d.pip with places := d.pip.places.modify a fun p =>
    if 4096 * b < p.bytes.length then { p with bad := if b ∈ p.bad then p.bad else p.bad ++ [b] } else p } }

/-- HBM_ECC_ERROR in a row of a stack (R25). -/
def Dev.hbmEcc (d : Dev) (s row : Nat) (corrected : Bool) (kind a b : Nat) : Dev :=
  let pg := Pg.HBM s
  if !d.stackLive s then d
  else if corrected then
    let again := rowSeen d.jnl.hbmRows s row d.elapsed
    let d : Dev := { d with jnl := { d.jnl with hbmRows := rowForget d.jnl.hbmRows s row ++ [(s, row, d.elapsed)] } }
    let d := (d.bump pg Reg.HBM.ECC_CORR_CNT).raise pg 0
    if again then d.spareRow s row else d
  else
    let second := d.jnl.hbmLast.any fun e => e.1 = s && e.2.1 ≠ row && d.elapsed < e.2.2 + SECOND
    let d : Dev := { d with jnl := { d.jnl with hbmLast := (d.jnl.hbmLast.filter fun e => e.1 ≠ s) ++ [(s, row, d.elapsed)] } }
    let d := (d.bump pg Reg.HBM.ECC_UNCORR_CNT).raise pg 1
    let retire : Bool := second || d.rd pg Reg.HBM.SPARES_LEFT = 0
    let d := d.spareRow s row
    if kind = 6 then (d.blockLost s a b) |> fun d => if retire then d.retireStack s else d
    else (if retire then d.retireStack s else d).bufferLost kind a b

/-! ### SRAM, Spine, journal store (R341; spec 01, spec 07) -/

/-- Ingest rows whose only copy was lost are concealed as ROW_CRC (R139). -/
def Dev.loseRow (d : Dev) (h cid row : Nat) : Dev :=
  d.updFrame (frameKey h cid) fun f =>
    if f.state = .announced ∨ f.state = .ingesting then
      { f with raw := f.raw.filter (fun e => e.1 / 65536 ≠ row), hurt := if row ∈ f.hurt then f.hurt else row :: f.hurt }
    else f

/-- A spare row of an SRAM array replaces a row, or none is left and the block that holds it goes out of service. -/
def Dev.spareSram (d : Dev) (m row pg : Nat) (spare : Bool) : Dev :=
  let d : Dev := { d with jnl := { d.jnl with sramRows := rowForget d.jnl.sramRows m row } }
  let lut : Bool := (Pg.family pg).1 = 0x42
  let data := leBytes 4 m ++ leBytes 4 row
  if spare then (if lut then d.bump pg Reg.YPT_B.ROWS_SPARED else d).event 0 pg INFO 0x0906 data
  else d.blockFault (if lut then pg - 1 else pg)

/-- An access of the block of page `pg` that finds no mapping in MMU `n` (R26): it is blocked, recorded and reported, and the work
restarts from its inputs, as for an SRAM error. -/
def Dev.unmapped (d : Dev) (pg n addr part : Nat) : Dev :=
  let m := Pg.MMU n
  let d := ((d.bump m Reg.MMU.FAULT_CNT).wr64 m Reg.MMU.FAULT_ADDR_LO Reg.MMU.FAULT_ADDR_HI addr).wr m Reg.MMU.FAULT_PAGE pg
  let d := ((d.wr m Reg.MMU.FAULT_PART part).event 0 pg FAULT 0x0907 [BitVec.ofNat 8 pg]).raise m 0
  if (Pg.family pg).1 ∈ [0x41, 0x42] then d.restartJob (Pg.family pg).2 true else d

/-- SRAM_ERROR in row `row` of array `m` of page `pg`'s block; `spare`: a spare row is left; `lost`: (head, Capture ID, row) of
ingest rows whose only copy was lost. A LUT store's tag is cleared (spec 07). -/
def Dev.sramError (d : Dev) (m row pg : Nat) (corrected spare : Bool) (lost : List (Nat × Nat × Nat)) : Dev :=
  let lut : Bool := (Pg.family pg).1 = 0x42
  if corrected then
    let again := rowSeen d.jnl.sramRows m row d.elapsed
    let d := if lut then d.bump pg Reg.YPT_B.ECC_CORR_CNT else d
    let d : Dev := { d with jnl := { d.jnl with sramRows := rowForget d.jnl.sramRows m row ++ [(m, row, d.elapsed)] } }
    if again then d.spareSram m row pg spare else d
  else
    let d := lost.foldl (fun (d : Dev) e => d.loseRow e.1 e.2.1 e.2.2) d
    let d := if lut then
        (((d.bump pg Reg.YPT_B.ECC_UNCORR_CNT).wr pg Reg.YPT_B.HELD_VALID 0).error pg 0).event 0 pg WARN 0x0505 [BitVec.ofNat 8 (Pg.family pg).2]
      else d
    let d := d.spareSram m row pg spare
    if lut then d.restartJob (Pg.family pg).2 spare else d

/-- SPINE_PARITY_ERROR in quadrant `n`: the transfer is sent again; the third failure in succession takes the link out. -/
def Dev.spineParity (d : Dev) (n : Nat) (third : Bool) : Dev :=
  let pg := Pg.SPN n
  let d := d.bump pg Reg.SPN.PARITY_ERR
  if third then (d.bump pg Reg.SPN.LINK_DOWN).event 0 pg FAULT 0x090E [BitVec.ofNat 8 n] else d

/-- MRAM_UNCORR: an uncorrectable error of the journal store; `rec`: the ledger record that it affects, if any. -/
def Dev.mramUncorr (d : Dev) (rec : Option Nat) : Dev :=
  let d : Dev := match rec with
    | some i => { d with jnl := { d.jnl with ledger := d.jnl.ledger.modify i fun r => { r with ok := false } } }
    | none => d
  d.mramReport

/-! ### Ethernet ports (R321, R322, R325, R341) -/

/-- Every dual-path flow looks at its paths. -/
def Dev.pathChecks (d : Dev) : Dev := (List.range 48).foldl (fun (d : Dev) w => d.pathCheck w) d

/-- A port goes out of service: PORT_DOWN, and its sessions fail. -/
def Dev.portOut (d : Dev) (p : Nat) : Dev :=
  if p ∈ d.hst.portsDown then d
  else
    let d := ({ d with hst := { d.hst with portsDown := d.hst.portsDown ++ [p] } } : Dev).event 0 (netPort p) FAULT 0x0909 [BitVec.ofNat 8 p]
    let mine := (d.hst.sessions.filter fun e => e.2.port = p).map (·.1)
    (mine.foldl (fun (d : Dev) id => d.failSession id) d).pathChecks

/-- Change the LINK_UP bit of a sub-interface. -/
def Dev.setLink (d : Dev) (p i : Nat) (up : Bool) : Dev :=
  let pg := netPort p
  let v := setBits (d.rd pg Reg.NETP.LINK_UP) i 1 (b2n up)
  if v = d.rd pg Reg.NETP.LINK_UP then d else (d.wr pg Reg.NETP.LINK_UP v).raise pg 0

/-- ETHERNET_LINK_DOWN: sub-interface `i` of port `p` loses its link, or the port received `fcs` bad frames within a second.
A port none of whose links is up, or with more than 1,000 bad frames, goes out of service. -/
def Dev.ethernetDown (d : Dev) (p i fcs : Nat) : Dev :=
  if fcs = 0 then
    let d := d.setLink p i false
    (if d.rd (netPort p) Reg.NETP.LINK_UP = 0 then d.portOut p else d).pathChecks
  else
    let d := d.bump (netPort p) Reg.NETP.FCS_ERR_CNT 0 fcs
    if 1000 < fcs then d.portOut p else d

/-- Messages that waited for their sub-interface are sent (R346). -/
def Dev.flushSyslog (d : Dev) (p i : Nat) : Dev :=
  let c := d.hst.syslog.1
  if bits c 4 1 = p ∧ bits c 5 2 = i ∧ d.mayMirror p i = true then
    d.hst.syslogQueue.foldl (fun (d : Dev) m => d.sendSyslog m) { d with hst := { d.hst with syslogQueue := [] } }
  else d

/-- ETHERNET_LINK_UP: a sub-interface's link comes up; the first one of a port takes BREAKOUT into use. -/
def Dev.ethernetUp (d : Dev) (p i : Nat) : Dev :=
  let pg := netPort p
  if d.held pg then d
  else
    let take := min 2 (d.rd pg Reg.NETP.BREAKOUT)
    let d : Dev := if d.rd pg Reg.NETP.LINK_UP ≠ 0 then d
      else if p = 0 then { d with hst := { d.hst with breakout := (take, d.hst.breakout.2) } }
      else { d with hst := { d.hst with breakout := (d.hst.breakout.1, take) } }
    if 2 ^ (if p = 0 then d.hst.breakout.1 else d.hst.breakout.2) ≤ i then d
    else ((d.setLink p i true).flushSyslog p i).pathChecks

/-- PORT_IN_SERVICE: the link of a port out of service has been up for 10 s. -/
def Dev.portIn (d : Dev) (p : Nat) : Dev :=
  if d.rd (netPort p) Reg.NETP.LINK_UP = 0 then d
  else ({ d with hst := { d.hst with portsDown := d.hst.portsDown.filter (· ≠ p) } } : Dev) |> fun d =>
    ((List.range 4).foldl (fun (d : Dev) i => d.flushSyslog p i) d).pathChecks

/-! ### PLLs (R27) -/

/-- Does a CLK page have a PLL in slot `k`? -/
def hasPll (n k : Nat) : Bool := k < [3, 4, 3, 5].getD n 0

/-- The Head Link groups of quads `lo` to `hi` fail with SYNC_LOSS; their lanes lose lock. -/
def Dev.quadsLost (d : Dev) (lo hi : Nat) : Dev :=
  let phys := seqFrom (4 * lo) (4 * (hi + 1 - lo))
  let hit := (List.range 32).filter fun g => LOCK ≤ d.grpState g && d.grpState g ≤ ACTIVE &&
    (d.lanesOf g).any fun l => d.physOf l ∈ phys
  let d := phys.foldl (fun (d : Dev) l => (d.setLane l Reg.HLQ.SYNC_LOCK 0).setLane l Reg.HLQ.CDR_LOCK 0) d
  hit.foldl (fun (d : Dev) g => d.failGroup g 2) d

/-- What the interfaces of a PLL's blocks do when it loses lock. -/
def Dev.linksLost (d : Dev) (n k : Nat) : Dev :=
  let eth := fun (d : Dev) (p : Nat) => (List.range 4).foldl (fun (d : Dev) i => d.setLink p i false) d |>.portOut p
  let mags := fun (d : Dev) (l : List Nat) => l.foldl (fun (d : Dev) m =>
    d.magFails m true) d
  match n, k with
  | 1, 0 => d.quadsLost 0 4
  | 1, 1 => d.quadsLost 5 8
  | 1, 2 => eth d 0
  | 1, 3 => eth d 1
  | 2, 1 => mags d [0, 1, 2, 3]
  | 2, 2 => mags d [4, 5, 6, 7]
  | _, _ => d

/-- PLL_LOSS_OF_LOCK: counted, signalled, and the blocks it clocks are held. -/
def Dev.pllLoss (d : Dev) (n k : Nat) : Dev :=
  if !hasPll n k ∨ d.pow.off ∨ d.pow.tripped ∨ d.jnl.image ∨ (n, k) ∈ d.pow.lost then d
  else
    let d := (((d.bump (Pg.CLK n) Reg.CLK.LOL_CNT k).raise (Pg.CLK n) k).event 0 (Pg.CLK n) FAULT 0x0910
      [BitVec.ofNat 8 (Pg.CLK n), BitVec.ofNat 8 k]).linksLost n k
    { d with pow := { d.pow with lost := d.pow.lost ++ [(n, k)] } }

/-- PLL_RELOCK: its blocks resume. -/
def Dev.pllRelock (d : Dev) (n k : Nat) : Dev := { d with pow := { d.pow with lost := d.pow.lost.filter (· ≠ (n, k)) } }

end Sys2Proof.Machine
end

