-- ==== Sys2Proof/Machine/Look.lean ====
section
/-! DEFINITION. Look: what a register read shows: the header (spec 02 R36, R37, R418), fields that follow the device's state,
and fields that report what the device measures. -/

namespace Sys2Proof.Machine

/-! ### The page header -/

/-- The device epoch that the retained state of a page's island carries: that of its sleep while it wakes, else the present one
(R46, R343). -/
def Dev.epochOf (d : Dev) (pg : Page) : Nat :=
  match d.pow.stamps.find? fun e => e.1 = Pg.groupOf pg || (e.1 = 32 && offInKeep pg) with
  | some e => e.2
  | none => d.rd Pg.NVS Reg.NVS.EPOCH

/-- Is the page's island being reinitialised: it woke with another epoch (R46)? -/
def Dev.outdated (d : Dev) (pg : Page) : Bool := d.epochOf pg ≠ d.rd Pg.NVS Reg.NVS.EPOCH

/-- PAGE_STAT.STATE: REINIT while the island is reinitialised (R46); FAULT and RETIRED stand; a SOFT_RST drains, then resets;
else EN, and what is in flight (R37, R38). -/
def Dev.pageState (d : Dev) (pg : Page) : Nat :=
  let s := d.rd pg Reg.HDR.STATE
  if d.outdated pg then 4
  else if s = 3 ∧ d.busy pg then 2
  else if s ≠ 0 then s
  else if d.on pg Reg.HDR.EN then (if 1 ≤ d.level (Pg.groupOf pg) then 5 else 1)
  else if d.busy pg then 2 else 0

/-- The read-only DWs of the header (R36, R418). -/
def Dev.headerDw (d : Dev) (pg : Page) (o : Nat) : Option Nat :=
  match o with
  | 0x000 | 0x038 => some (Pg.pageId pg)
  | 0x004 => some 0x01B1
  | 0x008 => some (b2n (Pg.assistCap pg) + 2 * b2n (Pg.shadowCap pg) + 4 * Pg.ownKind pg + 2 ^ 8 * Pg.islandOf pg +
      2 ^ 16 * Pg.groupOf pg)
  | 0x014 =>
    let s := d.pageState pg
    some (b2n (d.busy pg) + 2 * b2n (s = 0 || s = 7) + 2 ^ 4 * s + 2 ^ 16 * (d.epochOf pg % 2 ^ 16))
  | 0x018 => some (d.intStat pg)
  | _ => none

/-! ### Block fields -/

/-- Fields that report what the device measures or what a chip carries, with the largest value: the manual states no rule
that gives them, so a read gives a free value. -/
def measured (pg : Page) : List (Fld × Nat) :=
  match (Pg.family pg).1 with
  | 0x10 => [(Reg.CLK.REF_OK, 1), (Reg.CLK.FREQ_KHZ, 2 ^ 32 - 1)]
  | 0x20 => [(Reg.HLQ.REF_OK, 1), (Reg.HLQ.SIG_DET, 1)]
  | 0x22 => [(Reg.MIP.STOP_STATE, 1), (Reg.MIP.HS_ACTIVE, 1)]
  | 0x52 => [(Reg.MAG.TEMP, 255), (Reg.MAG.WRITE_MBPS, 2 ^ 32 - 1)]
  | 0x80 => [(Reg.HIF.SPEED, 3), (Reg.HIF.WIDTH, 16), (Reg.HIF.FLIT, 1)]
  | 0xA0 => [(Reg.HBM.READ_GBPS, 65535), (Reg.HBM.WRITE_GBPS, 65535)]
  | 0xB1 => [(Reg.XSP.MODE, 1), (Reg.XSP.CLK_MHZ, 255), (Reg.XSP.JEDEC_ID, 2 ^ 24 - 1), (Reg.XSP.SIZE_MIB, 65535),
      (Reg.XSP.OCTAL_OK, 1)]
  | _ => []

/-- PLLs of each CLK page (R27). -/
def pllCount (n : Nat) : Nat := [3, 4, 3, 5].getD n 0

/-- Seconds, nanoseconds and 2^-16 ns of a time in 2^-32 ns. -/
def splitTime (t : Nat) : Nat × Nat × Nat := (t / 2 ^ 32 / 10 ^ 9, t / 2 ^ 32 % 10 ^ 9, t / 2 ^ 16 % 2 ^ 16)

/-- Is SDI port `i` transmitting, and does it send black (R280, R292, R392)? -/
def Dev.sdiActive (d : Dev) (i : Nat) : Bool :=
  d.works (Pg.SDI i) && (List.range 16).any fun n => d.route n = (1, i)

def Dev.sdiBlack (d : Dev) (i : Nat) : Bool :=
  d.sdiActive i && (3 ≤ d.shed || !(List.range 16).any fun n => d.route n = (1, i) && d.on (Pg.DSP n) Reg.HDR.EN &&
    (match (d.dsp n).shown with
      | some s => !s.black
      | none => false))

/-- Free MiB of a stack's frame pool. -/
def Dev.poolFree (d : Dev) (s : Nat) : Nat := (d.rd (Pg.HBM s) Reg.HBM.POOL_MIB * 2 ^ 20 - d.poolUsed s) / 2 ^ 20

/-- The registers of partition `p` that QMG shows. -/
def Dev.queueViews (d : Dev) (p : PartId) : List (Fld × Nat) :=
  [(Reg.QMG.IN_USE, d.queuesOf p), (Reg.QMG.OUTSTANDING, (d.cmdsOf p).length), (Reg.QMG.ASN_NEXT_LO, (d.part p).asnNext),
   (Reg.QMG.ASN_NEXT_HI, (d.part p).asnNext / 2 ^ 32),
   (Reg.QMG.SESSIONS, (d.hst.sessions.filter fun s => s.2.part = p && s.2.state ≠ .challenged).length),
   (Reg.QMG.QUEUE_FAILED, b2n (d.hst.queues.any fun q => q.1 / 65536 = p && q.2.failed))]

/-- A port's time windows (R356, R358). -/
def Dev.ptpViews (d : Dev) (n i : Nat) : List (Fld × Nat) :=
  let x := d.port n
  let t := splitTime x.time
  let diff := (d.tbDiff n % (2 ^ 96 : Int)).toNat
  let rx := x.rx.head?
  let r := splitTime ((rx.map (·.ts)).getD 0)
  let e := x.ts.head?
  let s := splitTime ((e.map (·.2)).getD 0)
  let bytes := (rx.map (·.bytes)).getD []
  [(Reg.PTP.TIME_NS, t.2.1), (Reg.PTP.TIME_SEC_LO, t.1), (Reg.PTP.TIME_SEC_HI, t.1 / 2 ^ 32),
   (Reg.PTP.TB_DIFF_NS_LO, diff / 2 ^ 32), (Reg.PTP.TB_DIFF_NS_HI, diff / 2 ^ 64), (Reg.PTP.TB_DIFF_FRAC, diff),
   (Reg.PTP.RX_VALID, b2n rx.isSome), (Reg.PTP.RX_SUBIF, (rx.map (·.subif)).getD 0), (Reg.PTP.RX_DEPTH, x.rx.length),
   (Reg.PTP.RX_LEN, bytes.length), (Reg.PTP.RX_TS_NS, r.2.1), (Reg.PTP.RX_TS_SEC_LO, r.1), (Reg.PTP.RX_TS_SEC_HI, r.1 / 2 ^ 32),
   (Reg.PTP.RX_TS_FRAC, r.2.2), (Reg.PTP.RX_DATA, ofLe (fit 4 (bytes.drop (4 * i)))),
   (Reg.PTP.BUSY, b2n x.tx.isSome), (Reg.PTP.TS_VALID, b2n e.isSome), (Reg.PTP.TS_TAG, (e.map (·.1)).getD 0),
   (Reg.PTP.TX_TS_NS, s.2.1), (Reg.PTP.TX_TS_SEC_LO, s.1), (Reg.PTP.TX_TS_SEC_HI, s.1 / 2 ^ 32), (Reg.PTP.TX_TS_FRAC, s.2.2)]

/-- Busy time of a page's block over the last second in 0.1 % (R216, R253, R279). -/
def Dev.busyTime (d : Dev) (pg : Page) : Nat :=
  let from_ := d.elapsed - 800000000
  evenDiv (((Assoc.find d.pip.spans pg).getD []).foldl (fun a e => a + (e.2 - max e.1 from_)) 0) 800000

/-- Raw samples that a unit has written over the last second, in kpixel/s (R150). -/
def Dev.pixRate (d : Dev) (n : Nat) : Nat :=
  evenDiv ((d.cap.written.filter fun e => e.1 = n && d.elapsed ≤ e.2.1 + 800000000).foldl (fun a e => a + e.2.2) 0) 1000

/-- JOB_STATE as read: 2 while the petal loads its LUT store (R207). Setup takes no time of its own. -/
def Dev.jobState (d : Dev) (n : Nat) : Nat :=
  let s := d.rd (Pg.YPTA n) Reg.YPT_A.JOB_STATE
  if 3 ≤ s ∧ d.clock < (Assoc.find d.pip.loads n).getD 0 then 2 else s

/-- Fields of a page whose element `i` shows the device's state. -/
def Dev.views (d : Dev) (pg : Page) (i : Nat) : List (Fld × Nat) :=
  let (fam, n) := Pg.family pg
  match fam with
  | 0x03 => [(Reg.PWR.DEV_STATE, d.devState), (Reg.PWR.GRP_STATE, d.grpStates i)]
  | 0x04 => [(Reg.THM.GROUP, sensorGroup i)]
  | 0x05 => [(Reg.NVS.LEDGER_FREE, d.ledgerFree), (Reg.NVS.PENDING_MIB, evenDiv d.pendingUsed (2 ^ 20))]
  | 0x06 =>
    let r := d.part i
    [(Reg.EVT.ORPHAN_COUNT, r.orphans.length), (Reg.EVT.SUMMARY_SLOTS, r.summaries.length),
     (Reg.EVT.RING_FREE, match r.evt with
      | some g => g.depth - 1 - g.used
      | none => 0)]
  | 0x07 => [(Reg.FWM.RUN_HOURS, d.runHours)]
  | 0x10 => [(Reg.CLK.LOCK, b2n (i < pllCount n && !d.pow.lost.contains (n, i)))]
  | 0x22 => [(Reg.MIP.FRAME_OPEN, b2n (Assoc.has d.cap.mipOpen n))]
  | 0x23 =>
    let mine : Bool := d.unitOf i = n
    let c := if mine then d.ctxOfHead i else none
    [(Reg.ING.ADMIT, if 252 ≤ i then (if mine then d.admission i else 0) else d.rd pg Reg.ING.ADMIT i),
     (Reg.ING.PIX_RATE, d.pixRate n), (Reg.ING.DECLARED, d.unitLoad n), (Reg.ING.CONTEXT, c.getD 0), (Reg.ING.BOUND, b2n c.isSome),
     (Reg.ING.OPEN, b2n (mine && d.cap.frames.any fun e => e.2.head = i && !e.2.isClosed))]
  | 0x30 => [(Reg.FE_CTL.QUEUE, d.sectionQueue n)]
  | 0x3B => [(Reg.FE_RSP.GEN_LIVE, d.genCount n)]
  | 0x40 => [(Reg.YRC.OCC_MEASURED, d.busyTime (Pg.YPTA (4 * n + i)))]
  | 0x41 => [(Reg.YPT_A.JOB_STATE, d.jobState n)]
  | 0x50 => [(Reg.FRC.BUSY, d.busyTime pg), (Reg.FRC.QUEUE, d.takeQueue.length + d.frcQueue.length)]
  | 0x51 => [(Reg.FRQ.TAKE_LOAD, evenDiv d.takeLoad 10000), (Reg.FRQ.CLASS_LOAD, d.classLoad), (Reg.FRQ.RESERVED, d.reserved 4 i),
      (Reg.FRQ.QUEUED, (d.frcQueue.filter fun c => (frcJob c).cls = i).length)]
  | 0x53 => [(Reg.STR.PENDING_MIB, d.pendingMib (4 * n + i))]
  | 0x54 => [(Reg.FLT.USED, d.fltTaken.foldl (fun a r => a + r.2) 0), (Reg.FLT.FREE_MAX, d.fltFreeMax)]
  | 0x60 => [(Reg.ENC_PIX.OCC_MEASURED, d.busyTime pg)]
  | 0x64 => [(Reg.DEC_PIX.OCC_MEASURED, d.busyTime pg)]
  | 0x71 => [(Reg.SDI.TX_ACTIVE, b2n (d.sdiActive n)), (Reg.SDI.BLACK, b2n (d.sdiBlack n))]
  | 0x80 =>
    let fns := (List.range 64).filter fun p => p = 0 || p ≤ d.hst.numVfs
    let p := 16 * n + i
    [(Reg.HIF.NUM_VFS, d.hst.numVfs), (Reg.HIF.MSIX_TOTAL, fns.foldl (fun a p => a + (d.part p).msix) 0),
     (Reg.HIF.MSIX_SIZE, if fns.contains p then (d.part p).msix else 0)]
  | 0x81 => d.queueViews (32 * n + i)
  | 0x82 => [(Reg.RLK.IN_USE, d.hst.locks.length), (Reg.RLK.USED, (d.hst.locks.filter fun l => l.part = i).length)]
  | 0x84 => d.ptpViews n i
  | 0x90 => [(Reg.TMB.NOW_NS_LO, d.ns), (Reg.TMB.NOW_NS_HI, d.ns / 2 ^ 32), (Reg.TMB.NOW_FRAC, d.now)]
  | 0xA0 => [(Reg.HBM.POOL_FREE_MIB, d.poolFree n)]
  | 0xB3 => [(Reg.UAR.RX_VALID, b2n (d.brd.uartRx ≠ [])), (Reg.UAR.TX_FREE, 64 - d.brd.uartTx.length),
      (Reg.UAR.RX_LEVEL, d.brd.uartRx.length)]
  | _ => []

/-- The value that a list of fields gives a field. -/
def fieldIn (l : List (Fld × Nat)) (F : Fld) : Option Nat := (l.find? fun e => e.1 = F).map (·.2)

/-- What the register file shows of a field: the copy that VIEW selects (R42), and the reset value of a read-only field
that sleep has cost until the block changes it (R44, R45). -/
def Dev.stored (d : Dev) (pg : Page) (F : Fld) (i j : Nat) : Nat :=
  if F.acc = .rwq ∧ d.on pg Reg.HDR.VIEW then d.rdA pg F i j
  else
    let v := d.rd pg F i j
    if Assoc.find d.pow.blank (regKey pg F i j) = some v then resetVal pg F i else v

/-- A measured value, up to `m`. The host link trains to 4, 8 or 16 lanes and runs in Flit mode at 64 GT/s alone (R297); which
lanes of a group in DETECT have signal is measured (R115), and otherwise the group's state tells. Slots without a PLL read 0
(R27). -/
def Dev.gauge (d : Dev) (pg : Page) (F : Fld) (i j m : Nat) : Nat :=
  let raw := fun (G : Fld) => (Config.freeValue (d.free + G.lo)).toNat
  let speed := raw Reg.HIF.SPEED % 4
  match (Pg.family pg).1 with
  | 0x80 =>
    if F = Reg.HIF.WIDTH then (if speed = 0 then 0 else [4, 8, 16].getD (raw F % 3) 16)
    else if F = Reg.HIF.FLIT then b2n (speed = 3)
    else raw F % (m + 1)
  | 0x10 => if i < pllCount (Pg.family pg).2 then raw F % (m + 1) else 0
  | 0x20 =>
    if F = Reg.HLQ.SIG_DET ∧ ((d.groupOfLane (d.rd pg Reg.HLQ.LOGICAL i)).map d.grpState) ≠ some DETECT then d.stored pg F i j
    else raw F % (m + 1)
  | _ => raw F % (m + 1)

/-- Element `(i, j)` of a field as read; fields that write only read 0 (R42). -/
def Dev.shows (d : Dev) (pg : Page) (F : Fld) (i j : Nat) : Nat :=
  if F.acc = .wo then 0
  else match fieldIn (measured pg) F with
    | some m => d.gauge pg F i j m
    | none => match fieldIn (d.views pg i) F with
      | some v => if Assoc.find d.pow.blank (regKey pg F i j) = some v then resetVal pg F i else v % 2 ^ F.width
      | none => d.stored pg F i j

/-- Fields that follow the device's state read their reset value, too, when the islands of their page were off, until the
state changes (R44, R45). Answers the pages that lost one. -/
def Dev.blankViews (d : Dev) (off : Page → Bool) : Dev × List Page :=
  let gone := (Pg.allPages.filter off).flatMap fun pg => (Pg.block pg).flatMap fun F =>
    if !isVolatile F then []
    else (List.range F.cnt).flatMap fun i => match fieldIn (d.views pg i) F with
      | some v => if v % 2 ^ F.width = resetVal pg F i then [] else (List.range F.cnt2).map fun j => (regKey pg F i j, v)
      | none => []
  ({ d with pow := { d.pow with blank := gone ++ d.pow.blank.filter fun e => !gone.any fun x => x.1 = e.1 } },
    (gone.map fun e => keyPage e.1).eraseDups)

/-- POWER_STATE_ENTRY_END with the fields that follow the device's state: those of PS3 leave marks (R44), PS4 marks every page
(R45). -/
def Dev.entryDone (d : Dev) (g : Nat) : Dev :=
  match Assoc.find d.pow.entering g with
  | some 3 =>
    let (t, pages) := (d.entryEnd g).blankViews fun pg => Pg.groupOf pg = g
    { t with pow := { t.pow with marks := (t.pow.marks ++ pages).eraseDups } }
  | some 4 => ((d.entryEnd g).blankViews offInKeep).1
  | _ => d.entryEnd g

/-- A DW as read. -/
def Dev.dw (d : Dev) (pg : Page) (o : Nat) : Nat :=
  match d.headerDw pg o with
  | some v => v
  | none => (Pg.inDw pg o).foldl (fun a e => a ||| d.shows pg e.1 e.2.1 e.2.2 * 2 ^ e.1.lo) 0

end Sys2Proof.Machine
end

