-- ==== Sys2Proof/Machine/Access.lean ====
section
/-! DEFINITION. Access: register reads, PAGE_CTRL, and writes of registers with no behaviour of their own (spec 02 R31, R36
to R42, R48, R419; spec 13 R352; spec 15 R416). -/

namespace Sys2Proof.Machine

/-! ### Reads -/

/-- The value at which an RC field starts again: the present value of the quantity whose largest or lowest value it holds,
else 0 (R42). -/
def Dev.restartAt (d : Dev) (pg : Page) (F : Fld) : Nat :=
  let n := (Pg.family pg).2
  match (Pg.family pg).1 with
  | 0x05 => if F = Reg.NVS.LEDGER_MIN then d.ledgerFree else 0
  | 0x30 => if F = Reg.FE_CTL.QUEUE_MAX then d.sectionQueue n else 0
  | 0x3B => if F = Reg.FE_RSP.GEN_MAX then d.genCount n else 0
  | 0x61 => if F = Reg.ENC_ENT.SYNTAX_MAX then d.rd pg Reg.ENC_ENT.SYNTAX_ROWS else 0
  | 0x82 => if F = Reg.RLK.PEAK then d.hst.locks.length else 0
  | _ => 0

/-- A read clears the RC fields of a DW (R42). -/
def Dev.clearRead (d : Dev) (pg : Page) (o : Nat) : Dev :=
  (Pg.inDw pg o).foldl (fun (d : Dev) e =>
    if e.1.acc = .rc then d.wr pg e.1 (d.restartAt pg e.1) e.2.1 e.2.2 else d) d

/-- DWs that a read of DW `o` latches for the function: the high half of a pair (R31), the seconds of a port's time (spec 13
PTP), the high half and the fraction of NOW_NS (R352). -/
def latchesWith (pg : Page) (o : Nat) : List Nat :=
  if (Pg.family pg).1 = 0x84 ∧ o = 0x100 then [0x104, 0x108]
  else if pg = Pg.TMB ∧ o = 0x100 then [0x104, 0x108]
  else if (Pg.inDw pg o).any fun e => e.1.pair = .low then [o + 4]
  else []

/-- A read that R48 allows: a latched DW once, else the DW, with what it latches and clears. -/
def Dev.readTaken (d : Dev) (f pg o : Nat) : Dev :=
  match Assoc.find d.latched (halfKey f pg o) with
  | some v => { d with latched := Assoc.del d.latched (halfKey f pg o), reply := [v] }
  | none =>
    if pg = Pg.UAR ∧ o = 0x108 then d.uartRead
    else
      let v := d.dw pg o
      let with_ := latchesWith pg o
      let l := with_.foldl (fun (l : List (Nat × Nat)) x => Assoc.put l (halfKey f pg x) (d.dw pg x)) d.latched
      let d1 := (o :: with_).foldl (fun (d : Dev) x => d.clearRead pg x) d
      let free := if (Pg.inDw pg o).any fun e => (fieldIn (measured pg) e.1).isSome then d.free + 32 else d.free
      { d1 with latched := l, reply := [v], free := free }

/-- A BAR0 read of partition `f`'s function (R30, R31, R47, R48, R384, R404). -/
def Dev.readDw (d : Dev) (f pg o : Nat) : Dev :=
  if o % 4 ≠ 0 then d.emit (.unsupported f)
  else if !d.hasFn f then d
  else if !Pg.isPage pg ∨ (!d.running ∧ pg ≠ Pg.SYS) then { d with reply := [0] }
  else if d.keepDenies pg then { d.keepDeny with reply := [0] }
  else if d.mayAccess f pg o false then (d.wake [pg] 2).readTaken f pg o
  else { d.wake [] 2 with reply := [0] }

/-! ### PAGE_CTRL (R37, R38, R51, R185, R280, R419) -/

/-- EN returns to 1: what a register asked of the block meanwhile starts (R37). -/
def Dev.pageResume (d : Dev) (pg : Page) : Dev :=
  let (fam, n) := Pg.family pg
  match fam with
  | 0x72 => d.auxResume n
  | 0x84 => d.ptpResume n
  | 0x90 => d.cadResume
  | 0x91 => d.chanEnable n
  | 0x92 => d.unitsResume n
  | 0xB2 => d.i2cResume n
  | 0xB3 => { d with brd := { d.brd with uartHeld := 0 } }
  | _ => d

/-- Does a scan-out engine refuse to be enabled (R280)? -/
def Dev.enRefused (d : Dev) (pg : Page) (v : Nat) : Bool :=
  (Pg.family pg).1 = 0x70 && v = 1 && !d.on pg Reg.HDR.EN && !d.dspMayEnable (Pg.family pg).2

/-- EN as written: the subpages of a Section but CTL ignore it (R185). -/
def Dev.writeEn (d : Dev) (pg : Page) (v : Nat) : Dev :=
  let (fam, n) := Pg.family pg
  if 0x31 ≤ fam ∧ fam ≤ 0x3B then d
  else if fam ≠ 0x70 then
    let was := d.on pg Reg.HDR.EN
    let d := d.wr pg Reg.HDR.EN v
    if !was && v = 1 then d.pageResume pg else d
  else if d.rd pg Reg.HDR.EN = v then d
  else if v = 0 then (d.wr pg Reg.HDR.EN 0).dspShut n
  else (d.wr pg Reg.HDR.EN 1).dspOpen n

/-- MODE as written: 0b1x leaves it, pages without ASSIST_CAP have none, and leaving host-assisted mode resolves what is
outstanding (R36, R419). -/
def Dev.writeMode (d : Dev) (pg : Page) (v : Nat) : Dev :=
  if !Pg.assistCap pg ∨ 2 ≤ v then d
  else if v = 0 ∧ d.assisted pg then d.leaveAssist pg
  else d.wr pg Reg.HDR.MODE v

/-- A write of PAGE_CTRL. A SOFT_RST of a page in FAULT or RETIRED, where nothing is in flight, resets it at once and leaves
its STATE: the block stays out of service. A scan-out engine that refuses EN = 1 takes nothing of the write (R280). -/
def Dev.pageCtrl (d : Dev) (f pg v : Nat) : Dev :=
  d.checkedWrite f pg 0x010 fun d =>
    if d.enRefused pg (bits v 0 1) then d.error pg 0
    else
      let d := (d.wr pg Reg.HDR.SHADOW_EN (bits v 16 1)).wr pg Reg.HDR.VIEW (bits v 17 1)
      let d := (d.writeMode pg (bits v 1 2)).writeEn pg (bits v 0 1)
      if !bitAt v 8 then d
      else if d.rd pg Reg.HDR.STATE = 0 then d.wr pg Reg.HDR.STATE 3
      else if d.rd pg Reg.HDR.STATE = 3 then d else d.pageReset pg

/-! ### Writes -/

/-- DWs whose writes have a row of their own. -/
def ownRow (pg : Page) (o : Nat) : Bool :=
  let table := fun (base st n : Nat) => decide (base ≤ o ∧ o < base + st * n ∧ (o - base) % st = 0)
  o ∈ [0x00C, 0x010, 0x020] ||
  match (Pg.family pg).1 with
  | 0x01 => o ∈ [0x140, 0x148, 0x194]
  | 0x03 => table 0x120 4 4
  | 0x04 => o = 0x110
  | 0x08 => o = Reg.SCU.LOCK.off
  | 0x20 => table 0x100 0x40 4
  | 0x21 => table 0x100 0x20 4 || table 0x200 4 64
  | 0x70 => o = 0x140
  | 0x72 => o = 0x10C
  | 0x80 => table 0x414 0x40 16
  | 0x83 => (Pg.family pg).2 % 2 = 1 && table 0x400 0x40 24
  | 0x84 => o ∈ [0x118, 0x150, 0x160, 0x174]
  | 0x90 => o ∈ [0x110, 0x114, 0x124] || table 0x400 0x40 16 || table 0x800 4 512
  | 0x91 => o = 0x120
  | 0x92 => table 0x400 0x40 16 || table 0x404 0x40 16 || table 0x408 0x40 16
  | 0xA0 => o = 0x114
  | 0xB1 => o = 0x110
  | 0xB2 => o = 0x104
  | 0xB3 => o = 0x104
  | _ => false

/-- A write of partition `f`'s function to a register with no row of its own: KEY words (R252), SET_CTRL (R250), the
thresholds that bound TJ_FAIL (R388), and all others field by field (R42). -/
def Dev.regWrite (d : Dev) (f pg o v : Nat) : Dev :=
  let k := (o - 0x400) / 0x100
  let key := (Reg.STR.KEY.elem o).map (·.2)
  if ownRow pg o then d
  else if (Pg.family pg).1 = 0x53 ∧ k < 4 ∧ o = Reg.STR.N.at k 0 then d.setCtrlWrite f (4 * (Pg.family pg).2 + k) v
  else match if (Pg.family pg).1 = 0x53 then key else none with
    | some i => d.keyWrite f (4 * (Pg.family pg).2 + k) i v
    | none => d.checkedWrite f pg o fun d =>
      if pg = Pg.THM ∧ o = 0x104 then d.throtWrite f v
      else if (Pg.family pg).1 = 0x91 ∧ o = 0x100 then d.cfgWrite f (Pg.family pg).2 v
      else if (Pg.family pg).1 = 0x53 ∧ k < 4 ∧ o = Reg.STR.REBUILD_SHARE.at k 0 ∧ f ≠ 0 then d else d.plainWrite f pg o v

/-- A write of INT_SET (R41). -/
def Dev.intSet (d : Dev) (f pg v : Nat) : Dev :=
  d.checkedWrite f pg 0x020 fun d => d.wr pg Reg.HDR.INT_STAT (d.rd pg Reg.HDR.INT_STAT ||| v % 2 ^ 31)

/-- A write of SYS.BARRIER: the writes before it have taken effect, since each row of a write stands for the instant at
which it does; the barrier itself changes nothing (R15). -/
def Dev.barrier (d : Dev) (f : Nat) : Dev := d.checkedWrite f Pg.SYS 0x140 fun d => d

/-- A write of SCU.LOCK (R42). -/
def Dev.scuLock (d : Dev) (f v : Nat) : Dev :=
  d.checkedWrite f Pg.SCU Reg.SCU.LOCK.off fun d => d.plainWrite f Pg.SCU Reg.SCU.LOCK.off v

end Sys2Proof.Machine
end

