-- ==== Sys2Proof/WellFormed.lean ====
section
/-! DEFINITION. WellFormed: operands that name an object the part has: a function, a group, a lane, a register's 32 bits. -/

namespace Sys2Proof

/-- Does a command name objects the part has? -/
def Instr.wellFormed : Instr → Bool
  | .queueCreate p _ _ => p < 128
  | .queueDelete p _ _ => p < 128
  | .identify p _ _ => p < 128
  | .logRead p _ _ => p < 128
  | .featureSet p _ _ => p < 128
  | .featureGet p _ _ => p < 128
  | .fwStage p _ _ => p < 128
  | .fwActivate p _ _ => p < 128
  | .partitionConfig p _ _ => p < 128
  | .partitionSetKey p _ _ => p < 128
  | .partitionReset p _ _ => p < 128
  | .resourceAssign p _ _ => p < 128
  | .eventRingSet p _ _ => p < 128
  | .eventRingDelete p _ _ => p < 128
  | .returnCapture p _ _ => p < 128
  | .abort p _ _ => p < 128
  | .flush p _ _ => p < 128
  | .write p _ _ => p < 128
  | .read p _ _ => p < 128
  | .frameRead p _ _ => p < 128
  | .takeOpen p _ _ => p < 128
  | .takeClose p _ _ => p < 128
  | .takeErase p _ _ => p < 128
  | .quireSeal p _ _ => p < 128
  | .lutLoad p _ _ => p < 128
  | .lutInvalidate p _ _ => p < 128
  | .ditherLoad p _ _ => p < 128
  | .contextBind p _ _ => p < 128
  | .contextUnbind p _ _ => p < 128
  | .tapArm p _ _ => p < 128
  | .tapDisarm p _ _ => p < 128
  | .renditionSet p _ _ => p < 128
  | .renditionDelete p _ _ => p < 128
  | .encConfig p _ _ => p < 128
  | .encPicture p _ _ => p < 128
  | .encCollect p _ _ => p < 128
  | .encForceIrap p _ _ => p < 128
  | .encEnd p _ _ => p < 128
  | .encRelease p _ _ => p < 128
  | .encLtr p _ _ => p < 128
  | .encSinkRead p _ _ => p < 128
  | .decConfig p _ _ => p < 128
  | .decDecode p _ _ => p < 128
  | .decDrain p _ _ => p < 128
  | .decRelease p _ _ => p < 128
  | .frcCompress p _ _ => p < 128
  | .frcExpand p _ _ => p < 128
  | .assistReply p _ _ => p < 128
  | .commandFetch p q _ => p < 128 && q < 65536
  | .cqCoalesceTimeout p q => p < 128 && q < 65536
  | .sqTail f q v n => f < 64 && q < 65536 && (n ≠ 4 || v < 65536)
  | .cqHead f q v n => f < 64 && q < 65536 && (n ≠ 4 || v < 65536)
  | .evtHead f v n => f < 64 && (n ≠ 4 || v < 65536)
  | .astHead f v n => f < 64 && (n ≠ 4 || v < 65536)
  | .registerWrite f pg o v n => f < 64 && (n ≠ 4 || v < 2 ^ 32) && pg < 256 && o < 4096
  | .bar2Access f off _ n => f < 64 && off < 2 ^ 26 && 1 ≤ n && off % 4096 + n ≤ 4096
  | .lowDwRead f pg o _ => f < 64 && pg < 256 && o < 4096
  | .rcRead f pg o _ => f < 64 && pg < 256 && o < 4096
  | .fenceRead f pg => f < 64 && pg < 256
  | .barrier f => f < 64
  | .pageCtrlEn f pg v => f < 64 && v < 2 ^ 32 && pg < 256
  | .pageDrained pg => pg < 256
  | .softRst f pg v => f < 64 && v < 2 ^ 32 && pg < 256
  | .pageCtrlMode f pg v => f < 64 && v < 2 ^ 32 && pg < 256
  | .pageOwner f pg v => f < 64 && v < 2 ^ 32 && pg < 0xF3
  | .intSet f pg v => f < 64 && v < 2 ^ 32 && pg < 256
  | .rstCtrlDev f v => f < 64 && v < 2 ^ 32
  | .hbmRetire f st v => f < 64 && v < 2 ^ 32 && st < 4
  | .grpCtrlEn f g v => f < 64 && g < 32 && v < 2 ^ 32
  | .mapReset f g v => f < 64 && g < 32 && v < 2 ^ 32
  | .vcmapWrite f g vc v => f < 64 && g < 32 && vc < 16 && v < 2 ^ 32
  | .vcmapUnbind f g vc v => f < 64 && g < 32 && vc < 16 && v < 2 ^ 32
  | .loopback f lane v => f < 64 && lane < 36 && v < 2 ^ 32
  | .farEndLoopback f lane v => f < 64 && lane < 36 && v < 2 ^ 32
  | .create f x v => f < 64 && v < 2 ^ 32 && x < 8
  | .assemble f x v => f < 64 && v < 2 ^ 32 && x < 8
  | .key f x v => f < 64 && v < 2 ^ 32 && x < 8
  | .dspCommit f n v => f < 64 && v < 2 ^ 32 && n < 16
  | .auxGo f n v => f < 64 && v < 2 ^ 32 && n < 2
  | .flowEnable f w v => f < 64 && v < 2 ^ 32 && w < 48
  | .incr f hi v => f < 64 && v < 2 ^ 32 && hi < 2
  | .step f v => f < 64 && v < 2 ^ 32
  | .arm f v => f < 64 && v < 2 ^ 32
  | .nowNsRead f => f < 64
  | .setGo f n v => f < 64 && v < 2 ^ 32 && n < 2
  | .adjGo f n v => f < 64 && v < 2 ^ 32 && n < 2
  | .rxPop f n v => f < 64 && v < 2 ^ 32 && n < 2
  | .txGo f n v => f < 64 && v < 2 ^ 32 && n < 2
  | .tsPop f n v => f < 64 && v < 2 ^ 32 && n < 2
  | .preset f n v => f < 64 && v < 2 ^ 32 && n < 16
  | .zArm f n v => f < 64 && v < 2 ^ 32 && n < 16
  | .cmpPairWrite f u k v => f < 64 && v < 2 ^ 32 && u < 32 && k < 3
  | .lock f v => f < 64 && v < 2 ^ 32
  | .xspCommit f v => f < 64 && v < 2 ^ 32
  | .i2cTransfer f n v => f < 64 && v < 2 ^ 32 && n < 2
  | .i2cTransferEnd n result _ _ => n < 2 && result < 4
  | .txData f v => f < 64 && v < 2 ^ 32
  | .rxData f => f < 64
  | .uartReceive _ _ => true
  | .bootGo f v => f < 64 && v < 2 ^ 32
  | .grpMax f k v => f < 64 && v < 2 ^ 32 && k < 4
  | .tjFail f v => f < 64 && v < 2 ^ 32
  | .hifEnable f n v => f < 64 && v < 2 ^ 32 && n < 64
  | .signalDetect g => g < 32
  | .syncLock lane _ => lane < 36
  | .syncLoss lane => lane < 36
  | .gathering g _ => g < 32
  | .trainingTimeout g => g < 32
  | .backoffExpiry g => g < 32
  | .fhdr g => g < 32
  | .rows g => g < 32
  | .ftrl g => g < 32
  | .aux g => g < 32
  | .bindOffer g => g < 32
  | .bindDone g => g < 32
  | .status g => g < 32
  | .spareReady g => g < 32
  | .teEvent g _ => g < 32
  | .ack g => g < 32
  | .ackTimeout g => g < 32
  | .dreq g => g < 32
  | .timeSync g ref => g < 32 && ref < 2 ^ 96
  | .laneSpareThresh lane => lane < 32
  | .spareReadyTimeout g => g < 32
  | .spareSwitch g => g < 32
  | .spareWait g => g < 32
  | .rowTimeout h cid => h < 256 && cid < 2 ^ 48
  | .frameTimeout h cid => h < 256 && cid < 2 ^ 48
  | .complete h cid => h < 256 && cid < 2 ^ 48
  | .admitResend h => h < 256
  | .admitStall h => h < 256
  | .mipiFrameStart n _ => n < 4
  | .mipiLongPacket n _ _ _ => n < 4
  | .mipiEmbeddedData n _ _ _ => n < 4
  | .mipiFrameEnd n _ => n < 4
  | .sectionPassStart h cid => h < 256 && cid < 2 ^ 48
  | .respinPassStart h cid member => member.all (· < 4) && h < 256 && cid < 2 ^ 48
  | .sectionPassEnd h cid _ member => member.all (· < 4) && h < 256 && cid < 2 ^ 48
  | .sealPoint h cid => h < 256 && cid < 2 ^ 48
  | .releaseDeadline h cid => h < 256 && cid < 2 ^ 48
  | .echoLimit c _ => c < 256
  | .mismatchResend c => c < 256
  | .calibrationApply p _ => p < 128
  | .assistDeadline part tag => part < 128 && tag < 65536
  | .petalJobStart h cid r _ => h < 256 && cid < 2 ^ 48 && r < 48
  | .petalJobEnd h cid r _ => h < 256 && cid < 2 ^ 48 && r < 48
  | .frcCodingStart n h cid => n < 4 && h < 256 && cid < 2 ^ 48
  | .frcCodingEnd n _ _ => n < 4
  | .stripeWrite x _ => x < 8
  | .stripeDurable x _ => x < 8
  | .magazineLinkUp n _ _ _ _ => n < 8
  | .magCommandTimeout n _ => n < 8
  | .magFailed n _ => n < 8
  | .magMediaError n _ => n < 8
  | .rebuildDone x => x < 8
  | .fltRebuild x => x < 8
  | .encPictureStart n _ _ _ _ _ => n < 256
  | .encRowEnd n b _ _ _ _ => n < 256 && b < 6
  | .encPictureCommit n _ _ _ => n < 256
  | .decUnitStart g n _ _ => g < 2 && n < 64
  | .decUnitEnd n _ _ _ => n < 64
  | .decWatchdog g _ _ => g < 2
  | .applyPoint n _ => n < 16
  | .dspFrameStart n _ => n < 16
  | .teInput ix => ix < 2
  | .teTimeout n _ => n < 16
  | .dspUnderrun n l _ _ => n < 16 && l < 3
  | .hotPlug n _ rate lanes _ _ => n < 2 && rate < 5 && lanes < 3
  | .feedLineSend n => n < 32
  | .functionLevelReset f => f < 64
  | .vfEnable n => n < 64
  | .openReq port _ _ => port < 2
  | .openProve port _ _ => port < 2
  | .challengeExpiry id => id < 65536
  | .rctCommand port _ => port < 2
  | .rctData port _ => port < 2
  | .rctAck port _ => port < 2
  | .rctClose port _ => port < 2
  | .rctRto id _ => id < 65536
  | .sessionTimeout id => id < 65536
  | .responseHoldExpiry id => id < 65536
  | .rctKeepalive id => id < 65536
  | .flowFrameStart w => w < 48
  | .ethernetLinkDown port ix _ => port < 2 && ix < 4
  | .shutdown _ ms => ms < 256
  | .pwrOkRise sel _ _ _ => sel < 4
  | .bootSourceTry _ _ => true
  | .avsRetry _ _ => true
  | .mgmtPairFailure k => k < 2
  | .sramError _ _ pg _ _ _ unmapped => pg < 0xF3 && unmapped.all fun u => u.1 < 2
  | .hbmEccError st _ _ kind _ _ => st < 4 && kind < 7
  | .mramUncorr _ => true
  | .pllLossOfLock n k => n < 4 && k < 8
  | .pllRelock n k => n < 4 && k < 8
  | .eventSummaryPost p => p < 128
  | .cadenceInstant c => c < 16
  | .tlsFrameInstant at_ => at_ < 2 ^ 96
  | .tlsHoldover c => c < 16
  | .ptpRx n subif _ => n < 2 && subif < 4
  | .ptpTxDone n => n < 2
  | .quadratureEdge n _ _ _ => n < 16
  | .hallEdge n _ _ _ _ => n < 16
  | .ssiFrame n _ _ => n < 16
  | .indexEdge n => n < 16
  | .zeroSpeed n => n < 16
  | .positionSnapshot n => n < 16
  | .positionLatch h cid n => h < 256 && cid < 2 ^ 48 && n < 16
  | .synthStep n => n < 16
  | .groupIdle g _ => g < 32
  | .calendarEntryDue g _ => g ≤ 32
  | .keepEntry _ => true
  | .keepWake reason => reason < 8 && reason ≠ 3
  | .sensorSample raw => raw.length = 61
  | .throttleStep g => g < 32
  | .gpioEdge ix _ => ix < 16
  | .jtagInstruction k => k < 8
  | .backoffReset g => g < 32
  | .prbsLock lane _ => lane < 36
  | .prbsLockLoss lane _ => lane < 36
  | .mipiDtSkip n _ => n < 4
  | .mipiHeaderError n => n < 4
  | .dataTransferEnd _ _ _ _ => true
  | .frcJobStart n p _ => n < 4 && p < 128
  | .frcJobEnd n _ _ _ => n < 4
  | .pixelRowEnd n b _ _ => n < 256 && b < 6
  | .auxTransactionEnd n r _ => n < 2 && r < 4
  | .cadenceEn f c v => f < 64 && v < 2 ^ 32 && c < 16
  | .headCad f h hi v => f < 64 && v < 2 ^ 32 && h < 256 && hi < 2
  | .pulseEnd u => u < 32
  | .perstNDeassert sel => sel < 4
  | .stackInterfaceLoss st => st < 4
  | .mirrorRestored st => st < 4
  | .spineParityError n _ => n < 4
  | .ethernetLinkUp port ix => port < 2 && ix < 4
  | .portInService port => port < 2
  | .avsCommand _ _ => true
  | .powerStateEntryEnd g => g ≤ 32
  | .powerStateExitEnd g => g ≤ 32
  | .armedExpiry => true
  | .perstN => true
  | .pcieHotReset => true
  | .pwrfailN => true
  | .pwrOkFall => true
  | .brownOut => true
  | .hostWaitTimeout => true
  | .bootBackoff => true
  | .standbyReady => true
  | .handover => true
  | .handoverTimeout => true
  | .ppsOut => true
  | .ppsIn => true
  | .shedStep => true
  | .ppsOutFall => true
  | .pwrfailNDeassert => true
  | .uartCharacterSent => true
  | .syslogSendTimeout => true
  | .standbyRestart => true

end Sys2Proof
end

