-- ==== Sys2Proof/Machine/Run.lean ====
section
/-! DEFINITION. Run: how a meaning over the device becomes a meaning over the machine. -/

namespace Sys2Proof

/-- The commands that reach a device whose clocks do not run: power and reset pins, the end of the power-loss sequence, and
the locks of PLLs. -/
def Instr.always : Instr → Bool
  | .shutdown _ _ | .pwrOkRise _ _ _ _ | .pllLossOfLock _ _ | .pllRelock _ _ | .perstNDeassert _ | .perstN | .pwrfailN
    | .pwrOkFall | .brownOut | .pwrfailNDeassert => true
  | _ => false

/-- The commands of what the power-loss sequence stops (R338). -/
def Instr.quiet : Instr → Bool
  | .queueCreate _ _ _ | .queueDelete _ _ _ | .identify _ _ _ | .logRead _ _ _ | .featureSet _ _ _ | .featureGet _ _ _
    | .fwStage _ _ _ | .fwActivate _ _ _ | .partitionConfig _ _ _ | .partitionSetKey _ _ _ | .partitionReset _ _ _
    | .resourceAssign _ _ _ | .eventRingSet _ _ _ | .eventRingDelete _ _ _ | .returnCapture _ _ _ | .abort _ _ _
    | .flush _ _ _ | .write _ _ _ | .read _ _ _ | .frameRead _ _ _ | .takeOpen _ _ _ | .takeClose _ _ _
    | .takeErase _ _ _ | .quireSeal _ _ _ | .lutLoad _ _ _ | .lutInvalidate _ _ _ | .ditherLoad _ _ _
    | .contextBind _ _ _ | .contextUnbind _ _ _ | .tapArm _ _ _ | .tapDisarm _ _ _ | .renditionSet _ _ _
    | .renditionDelete _ _ _ | .encConfig _ _ _ | .encPicture _ _ _ | .encCollect _ _ _ | .encForceIrap _ _ _
    | .encEnd _ _ _ | .encRelease _ _ _ | .encLtr _ _ _ | .encSinkRead _ _ _ | .decConfig _ _ _ | .decDecode _ _ _
    | .decDrain _ _ _ | .decRelease _ _ _ | .frcCompress _ _ _ | .frcExpand _ _ _ | .assistReply _ _ _
    | .sectionPassStart _ _ | .respinPassStart _ _ _ | .sectionPassEnd _ _ _ _ | .sealPoint _ _ | .releaseDeadline _ _
    | .echoLimit _ _ | .calibrationApply _ _ | .assistDeadline _ _ | .petalJobStart _ _ _ _ | .petalJobEnd _ _ _ _
    | .frcCodingStart _ _ _ | .frcCodingEnd _ _ _ | .rebuildDone _ | .encPictureStart _ _ _ _ _ _
    | .encRowEnd _ _ _ _ _ _ | .encPictureCommit _ _ _ _ | .decUnitStart _ _ _ _ | .decUnitEnd _ _ _ _
    | .decWatchdog _ _ _ | .applyPoint _ _ | .dspFrameStart _ _ | .dspUnderrun _ _ _ _ | .feedLineSend _
    | .challengeExpiry _ | .sessionTimeout _ | .responseHoldExpiry _ | .flowFrameStart _ | .dataTransferEnd _ _ _ _
    | .frcJobStart _ _ _ | .frcJobEnd _ _ _ _ | .pixelRowEnd _ _ _ _ | .handover | .handoverTimeout | .syslogSendTimeout => true
  | _ => false

namespace Machine

/-- A command or event that reaches the device whatever its clocks do: power, pins of the reset logic, PLLs. One that names an
object the part does not have reaches nothing (log 8). -/
def runAlways (ok : Bool) (f : Dev → Dev) (s : State) : Host.Outcome State Fault Refusal :=
  .next { s with dev := if ok then f s.dev else s.dev }

/-- A command or event of a device whose clocks run; a stopped device does nothing (R27, R338, R397, R402). -/
def runCmd (ok : Bool) (f : Dev → Dev) (s : State) : Host.Outcome State Fault Refusal :=
  runAlways ok (fun d => if d.stopped then d else f d) s

/-- A command or event of what the power-loss sequence stops: Sections, Yarrow, codecs, scan-out, network senders, and
accepted commands, since no further record is written (R338). -/
def runQuiet (ok : Bool) (f : Dev → Dev) (s : State) : Host.Outcome State Fault Refusal :=
  runCmd ok (fun d => if d.jnl.powerLoss then d else f d) s

end Machine

end Sys2Proof
end

