-- ==== Sys2Proof/Machine/ExecAccess.lean ====
section
/-! DEFINITION. ExecAccess: the meanings of the commands of this family, one definition each, over the operations of Access. -/

namespace Sys2Proof.Machine

/-- REGISTER_WRITE (R48), of `n` bytes (R30). -/
def execRegisterWrite (f : Nat) (pg : Nat) (o : Nat) (v : Nat) (s : State) (n : Nat := 4) : Host.Outcome State Fault Refusal :=
  runCmd (Instr.wellFormed (.registerWrite f pg o v n)) (fun d => d.sized f n fun d => d.regWrite f pg o v) s

/-- LOW_DW_READ (R31), of `n` bytes (R30). -/
def execLowDwRead (f : Nat) (pg : Nat) (o : Nat) (s : State) (n : Nat := 4) : Host.Outcome State Fault Refusal :=
  runCmd (Instr.wellFormed (.lowDwRead f pg o n)) (fun d => d.sized f n fun d => d.readDw f pg o) s

/-- RC_READ (R42), of `n` bytes (R30). -/
def execRcRead (f : Nat) (pg : Nat) (o : Nat) (s : State) (n : Nat := 4) : Host.Outcome State Fault Refusal :=
  runCmd (Instr.wellFormed (.rcRead f pg o n)) (fun d => d.sized f n fun d => d.readDw f pg o) s

/-- FENCE_READ (R15). -/
def execFenceRead (f : Nat) (pg : Nat) (s : State) : Host.Outcome State Fault Refusal :=
  runCmd (Instr.wellFormed (.fenceRead f pg)) (fun d => d.readDw f pg 0x038) s

/-- BARRIER (R15). -/
def execBarrier (f : Nat) (s : State) : Host.Outcome State Fault Refusal :=
  runCmd (Instr.wellFormed (.barrier f)) (fun d => d.barrier f) s

/-- PAGE_CTRL_EN (R37). -/
def execPageCtrlEn (f : Nat) (pg : Nat) (v : Nat) (s : State) : Host.Outcome State Fault Refusal :=
  runCmd (Instr.wellFormed (.pageCtrlEn f pg v)) (fun d => d.pageCtrl f pg v) s

/-- PAGE_DRAINED (R37). -/
def execPageDrained (pg : Nat) (s : State) : Host.Outcome State Fault Refusal :=
  runCmd (Instr.wellFormed (.pageDrained pg)) (fun d => d.pageDrained pg) s

/-- SOFT_RST (R38). -/
def execSoftRst (f : Nat) (pg : Nat) (v : Nat) (s : State) : Host.Outcome State Fault Refusal :=
  runCmd (Instr.wellFormed (.softRst f pg v)) (fun d => d.pageCtrl f pg v) s

/-- PAGE_CTRL_MODE (R419). -/
def execPageCtrlMode (f : Nat) (pg : Nat) (v : Nat) (s : State) : Host.Outcome State Fault Refusal :=
  runCmd (Instr.wellFormed (.pageCtrlMode f pg v)) (fun d => d.pageCtrl f pg v) s

/-- INT_SET (R41). -/
def execIntSet (f : Nat) (pg : Nat) (v : Nat) (s : State) : Host.Outcome State Fault Refusal :=
  runCmd (Instr.wellFormed (.intSet f pg v)) (fun d => d.intSet f pg v) s

/-- NOW_NS_READ (R352). -/
def execNowNsRead (f : Nat) (s : State) : Host.Outcome State Fault Refusal :=
  runCmd (Instr.wellFormed (.nowNsRead f)) (fun d => d.readDw f Pg.TMB 0x100) s

/-- LOCK (R42). -/
def execLock (f : Nat) (v : Nat) (s : State) : Host.Outcome State Fault Refusal :=
  runCmd (Instr.wellFormed (.lock f v)) (fun d => d.scuLock f v) s

/-- RX_DATA (R416). -/
def execRxData (f : Nat) (s : State) : Host.Outcome State Fault Refusal :=
  runCmd (Instr.wellFormed (.rxData f)) (fun d => d.readDw f Pg.UAR 0x108) s

end Sys2Proof.Machine
end

