-- ==== Sys2Proof/Machine/ExecAdmin.lean ====
section
/-! DEFINITION. ExecAdmin: the meanings of the commands of this family, one definition each, over the operations of Admin. -/

namespace Sys2Proof.Machine

/-- IDENTIFY (R316). -/
def execIdentify (p : Nat) (asn : Nat) (hv : HostView) (s : State) : Host.Outcome State Fault Refusal :=
  runQuiet (Instr.wellFormed (.identify p asn hv)) (fun d => (d.see hv).start p asn 0x03 Dev.identify) s

/-- LOG_READ (R316). -/
def execLogRead (p : Nat) (asn : Nat) (hv : HostView) (s : State) : Host.Outcome State Fault Refusal :=
  runQuiet (Instr.wellFormed (.logRead p asn hv)) (fun d => (d.see hv).start p asn 0x04 Dev.logRead) s

/-- PARTITION_CONFIG (R300). -/
def execPartitionConfig (p : Nat) (asn : Nat) (hv : HostView) (s : State) : Host.Outcome State Fault Refusal :=
  runQuiet (Instr.wellFormed (.partitionConfig p asn hv)) (fun d => (d.see hv).start p asn 0x0A Dev.partitionConfig) s

/-- PARTITION_SET_KEY (R300). -/
def execPartitionSetKey (p : Nat) (asn : Nat) (hv : HostView) (s : State) : Host.Outcome State Fault Refusal :=
  runQuiet (Instr.wellFormed (.partitionSetKey p asn hv)) (fun d => (d.see hv).start p asn 0x0A Dev.partitionSetKey) s

/-- PARTITION_RESET (R335). -/
def execPartitionReset (p : Nat) (asn : Nat) (hv : HostView) (s : State) : Host.Outcome State Fault Refusal :=
  runQuiet (Instr.wellFormed (.partitionReset p asn hv))
    (fun d => (d.see hv).start p asn 0x0A Dev.partitionResetCmd) s

/-- RESOURCE_ASSIGN (R301). -/
def execResourceAssign (p : Nat) (asn : Nat) (hv : HostView) (s : State) : Host.Outcome State Fault Refusal :=
  runQuiet (Instr.wellFormed (.resourceAssign p asn hv)) (fun d => (d.see hv).start p asn 0x0B Dev.resourceAssign) s

/-- RETURN_CAPTURE (R349). -/
def execReturnCapture (p : Nat) (asn : Nat) (hv : HostView) (s : State) : Host.Outcome State Fault Refusal :=
  runQuiet (Instr.wellFormed (.returnCapture p asn hv)) (fun d => (d.see hv).start p asn 0x0D Dev.returnCapture) s

/-- ABORT (R314). -/
def execAbort (p : Nat) (asn : Nat) (hv : HostView) (s : State) : Host.Outcome State Fault Refusal :=
  runQuiet (Instr.wellFormed (.abort p asn hv)) (fun d => (d.see hv).start p asn 0x0E Dev.abort) s

/-- PAGE_OWNER (R50). -/
def execPageOwner (f : Nat) (pg : Nat) (v : Nat) (s : State) : Host.Outcome State Fault Refusal :=
  runCmd (Instr.wellFormed (.pageOwner f pg v)) (fun d => d.pageOwnerWrite f pg v) s

/-- VF_ENABLE (R297). -/
def execVfEnable (n : Nat) (s : State) : Host.Outcome State Fault Refusal :=
  runCmd (Instr.wellFormed (.vfEnable n)) (fun d => d.vfEnable n) s

end Sys2Proof.Machine
end

