-- ==== Sys2Proof/Machine/ExecAssistReply.lean ====
section
/-! DEFINITION. ExecAssistReply: the meanings of the commands of this family, one definition each, over the operations of AssistReply. -/

namespace Sys2Proof.Machine

/-- ASSIST_REPLY (R55). -/
def execAssistReply (p : Nat) (asn : Nat) (hv : HostView) (s : State) : Host.Outcome State Fault Refusal :=
  runQuiet (Instr.wellFormed (.assistReply p asn hv)) (fun d => (d.see hv).start p asn 0x98 Dev.assistReply) s

/-- ASSIST_DEADLINE (R53). -/
def execAssistDeadline (part : Nat) (tag : Nat) (s : State) : Host.Outcome State Fault Refusal :=
  runQuiet (Instr.wellFormed (.assistDeadline part tag)) (fun d => d.assistTimeout part tag) s

end Sys2Proof.Machine
end

