-- ==== Sys2Proof/Machine/Work.lean ====
section
/-! DEFINITION. Work: the pages to which arriving data and starting work go, whose groups it wakes (spec 14 R380). -/

namespace Sys2Proof.Machine

/-- Work arrives or starts for pages: their groups leave PS1 to PS3 (R380). Out of PS4 lead only the sources of R384. -/
def Dev.work (d : Dev) (pages : List Page) : Dev :=
  if d.allAwake ∨ d.keep = true then d
  else (pages.map Pg.groupOf).eraseDups.foldl (fun (d : Dev) g => d.wakeGroup g 3) d

/-- The pages of a lane group and of the ingest units of its heads. -/
def Dev.linkPages (d : Dev) (g : Nat) : List Page :=
  (slotOf g).1 :: (d.group g).vcs.map fun e => Pg.ING (d.unitOf e.2.head)

/-- The pages of the Sections that process a frame. -/
def Dev.framePages (d : Dev) (k : Nat) : List Page :=
  match d.frame? k with
  | none => []
  | some f => f.sections.flatMap fun n => (List.range 12).map (Pg.FE n)

/-- The pages of a rendition's petals. -/
def Dev.petalPages (d : Dev) (r : Nat) : List Page :=
  (yrc r).1 :: (match d.rend? r with
    | some b => (List.range (2 ^ b.log2)).flatMap fun i => [Pg.YPTA (b.petal + i), Pg.YPTB (b.petal + i)]
    | none => [])

/-- The pages of a set and of its members. -/
def Dev.setPages (d : Dev) (s : Nat) : List Page := (setAt s).1 :: (d.sset s).members.map Pg.MAG

/-- The pages of a context's encoders. -/
def Dev.encPages (d : Dev) (n : Nat) : List Page :=
  let x := d.enc n
  if x.cfg.isSome then x.cfg!.engines.flatMap fun g => [Pg.ENCPIX g, Pg.ENCENT g, Pg.ENCRC g] else []

end Sys2Proof.Machine
end

