-- ==== Sys2Proof/Machine/ExecBoard.lean ====
section
/-! DEFINITION. ExecBoard: the meanings of the commands of this family, one definition each, over the operations of Board. -/

namespace Sys2Proof.Machine

/-- XSP_COMMIT (R414). -/
def execXspCommit (f : Nat) (v : Nat) (s : State) : Host.Outcome State Fault Refusal :=
  runCmd (Instr.wellFormed (.xspCommit f v)) (fun d => d.xspCommit f v) s

/-- I2C_TRANSFER (R415). -/
def execI2cTransfer (f : Nat) (n : Nat) (v : Nat) (s : State) : Host.Outcome State Fault Refusal :=
  runCmd (Instr.wellFormed (.i2cTransfer f n v)) (fun d => d.i2cCmd f n v) s

/-- I2C_TRANSFER_END (R415). -/
def execI2cTransferEnd (n : Nat) (result : Nat) (count : Nat) (data : List Byte)
    (s : State) : Host.Outcome State Fault Refusal :=
  runCmd (Instr.wellFormed (.i2cTransferEnd n result count data)) (fun d => d.i2cEnd n result count data) s

/-- TX_DATA (R416). -/
def execTxData (f : Nat) (v : Nat) (s : State) : Host.Outcome State Fault Refusal :=
  runCmd (Instr.wellFormed (.txData f v)) (fun d => d.uartTxData f v) s

/-- UART_RECEIVE (R416). -/
def execUartReceive (b : Byte) (framing : Bool) (s : State) : Host.Outcome State Fault Refusal :=
  runCmd (Instr.wellFormed (.uartReceive b framing)) (fun d => (d.work [Pg.UAR]).uartReceive b framing) s

/-- AVS_RETRY (R400). -/
def execAvsRetry (mv : Nat) (ack : Bool) (s : State) : Host.Outcome State Fault Refusal :=
  runCmd (Instr.wellFormed (.avsRetry mv ack)) (fun d => d.avsRetry mv ack) s

/-- GPIO_EDGE (R413). -/
def execGpioEdge (ix : Nat) (high : Bool) (s : State) : Host.Outcome State Fault Refusal :=
  runCmd (Instr.wellFormed (.gpioEdge ix high)) (fun d => (d.work [Pg.GPI]).gpioEdge ix high) s

/-- JTAG_INSTRUCTION (R417). -/
def execJtagInstruction (k : Nat) (s : State) : Host.Outcome State Fault Refusal :=
  runCmd (Instr.wellFormed (.jtagInstruction k)) (fun d => d.jtagLoad k) s

/-- AVS_COMMAND (R400). -/
def execAvsCommand (mv : Nat) (ack : Bool) (s : State) : Host.Outcome State Fault Refusal :=
  runCmd (Instr.wellFormed (.avsCommand mv ack)) (fun d => d.avsCommand mv ack) s

/-- UART_CHARACTER_SENT (R416). -/
def execUartCharacterSent (s : State) : Host.Outcome State Fault Refusal :=
  runCmd (Instr.wellFormed (.uartCharacterSent)) (fun d => d.uartSent) s

end Sys2Proof.Machine
end

