-- ==== Sys2Proof/Machine/Boot.lean ====
section
/-! DEFINITION. Boot: the boot ROM's sources, the host image mailbox and the start of the firmware (spec 15 R403 to R407). -/

namespace Sys2Proof.Machine

/-- Move to the stage of the next source: a flash slot is loaded, the host is waited for unless its BOOT_GO is held, and
with no source left the ROM backs off (R404, R406, R407). -/
def Dev.enterSource (d : Dev) : Dev :=
  match d.brd.sources with
  | [] => d.setStage 4
  | 2 :: _ =>
    if d.brd.bootGo then ({ d with brd := { d.brd with bootGo := false } } : Dev).setStage 3 else d.setStage 2
  | _ => d.setStage 1

/-- The source in hand fails with a code (R405): it is recorded, and the next source has its turn. -/
def Dev.sourceFails (d : Dev) (code : Nat) : Dev :=
  match d.brd.sources with
  | [] => d
  | k :: rest =>
    let d := d.wr Pg.SYS (match k with | 0 => Reg.SYS.FAIL_A | 1 => Reg.SYS.FAIL_B | _ => Reg.SYS.FAIL_HOST) code
    let d := ((d.countVerify code).console 1 code)
    ({ d with brd := { d.brd with sources := rest } } : Dev).enterSource

/-- Bytes of the host image. -/
def Dev.hostImage (d : Dev) (o n : Nat) : List Byte :=
  d.hostRead 0 (d.rd64 Pg.SYS Reg.SYS.BOOT_IMG_ADDR_LO Reg.SYS.BOOT_IMG_ADDR_HI + o) n

/-- The image of a source starts: both pairs that have not failed hold it, one runs it, and fetching opens (R404). -/
def Dev.startFirmware (d : Dev) (k : Nat) : Dev :=
  let bad := d.jnl.failedPairs
  let first := if bad.contains 0 then 1 else 0
  let d := [0, 1].foldl (fun (d : Dev) i => if bad.contains i then d else d.setPair i (if i = first then 0 else 1)) d
  let d := d.wr Pg.SYS Reg.SYS.SOURCE k
  let d : Dev := if k = 2 then { d with brd := { d.brd with hostRev := imageRev d.hostImage } } else d
  let d := if k < 2 then d.wr Pg.FWM Reg.FWM.ACTIVE_SLOT k else d
  (d.setStage 5).setStage 6

/-- Read and verify the source in hand. -/
def Dev.trySource (d : Dev) (readOk : Bool) : Dev :=
  match d.brd.sources with
  | [] => d
  | k :: _ =>
    let len := d.rd Pg.SYS Reg.SYS.BOOT_IMG_LEN
    let flash : Bool := k < 2
    let ok := readOk &&
      (flash || d.hostOk 0 (d.rd64 Pg.SYS Reg.SYS.BOOT_IMG_ADDR_LO Reg.SYS.BOOT_IMG_ADDR_HI) len)
    if !ok then (if flash then d.bump Pg.XSP Reg.XSP.READ_ERR_CNT else d).sourceFails 5
    else match (if flash then d.imageFault (d.fwSlot k).bytes none else d.imageFault d.hostImage (some len)) with
      | some code => d.sourceFails code
      | none => d.startFirmware k

/-- The four memory stacks are initialised (R21, R404). -/
def Dev.stacksUp (d : Dev) : Dev :=
  (List.range 4).foldl (fun (d : Dev) s =>
    if d.rd (Pg.HBM s) Reg.HBM.STATE = 0 then d.wr (Pg.HBM s) Reg.HBM.STATE 1 else d) d

/-- May the ROM load an image: the core voltage is set, PERST_N is high, the TAP does not hold the pins, and a pair works?
While PERST_N is low it runs up to the end of memory initialisation (R402). -/
def Dev.mayBoot (d : Dev) : Bool :=
  d.brd.avsAcked && !d.brd.perst && !jtagRestricted d.brd.jtag && !(d.jnl.failedPairs.contains 0 && d.jnl.failedPairs.contains 1)

/-- BOOT_SOURCE_TRY: `readOk` says that the source could be read. -/
def Dev.bootTry (d : Dev) (readOk : Bool) : Dev :=
  let d := if d.brd.avsAcked ∧ d.brd.stage = 0 then d.stacksUp else d
  if !d.mayBoot then d
  else
    let d := if d.brd.stage = 0 then d.enterSource else d
    if d.brd.stage = 1 ∨ d.brd.stage = 3 then d.trySource readOk else d

/-- BOOT_GO: the host offers its image; outside HOST_WAIT the offer is held. -/
def Dev.bootGo (d : Dev) (f v : Nat) : Dev :=
  d.checkedWrite f Pg.SYS 0x194 fun d =>
    if !bitAt v 0 then d
    else if d.brd.stage = 2 then d.setStage 3
    else { d with brd := { d.brd with bootGo := true } }

/-- HOST_WAIT_TIMEOUT: no BOOT_GO has come: the host source fails with 6 TIMEOUT. -/
def Dev.hostWaitTimeout (d : Dev) : Dev := if d.brd.stage = 2 then d.sourceFails 6 else d

/-- BOOT_BACKOFF: 1 s has passed: the first source again. -/
def Dev.bootBackoff (d : Dev) : Dev :=
  if d.brd.stage ≠ 4 then d
  else
    let d := d.bump Pg.SYS Reg.SYS.ATTEMPT_CNT
    ({ d with brd := { d.brd with sources := d.bootSources (d.rd Pg.SYS Reg.SYS.BOOT_SEL) } } : Dev).enterSource

end Sys2Proof.Machine
end

