-- ==== Sys2Proof/Machine/ExecBoot.lean ====
section
/-! DEFINITION. ExecBoot: the meanings of the commands of this family, one definition each, over the operations of Boot. -/

namespace Sys2Proof.Machine

/-- BOOT_GO (R406). -/
def execBootGo (f : Nat) (v : Nat) (s : State) : Host.Outcome State Fault Refusal :=
  runCmd (Instr.wellFormed (.bootGo f v)) (fun d => d.bootGo f v) s

/-- BOOT_SOURCE_TRY (R405). -/
def execBootSourceTry (readOk : Bool) (hv : HostView) (s : State) : Host.Outcome State Fault Refusal :=
  runCmd (Instr.wellFormed (.bootSourceTry readOk hv)) (fun d => (d.see hv).bootTry readOk) s

/-- HOST_WAIT_TIMEOUT (R406). -/
def execHostWaitTimeout (s : State) : Host.Outcome State Fault Refusal :=
  runCmd (Instr.wellFormed (.hostWaitTimeout)) (fun d => d.hostWaitTimeout) s

/-- BOOT_BACKOFF (R404). -/
def execBootBackoff (s : State) : Host.Outcome State Fault Refusal :=
  runCmd (Instr.wellFormed (.bootBackoff)) (fun d => d.bootBackoff) s

end Sys2Proof.Machine
end

