-- ==== Sys2Proof/Machine/ExecCadence.lean ====
section
/-! DEFINITION. ExecCadence: the meanings of the commands of this family, one definition each, over the operations of Cadence. -/

namespace Sys2Proof.Machine

/-- INCR (R351). -/
def execIncr (f : Nat) (hi : Nat) (v : Nat) (s : State) : Host.Outcome State Fault Refusal :=
  runCmd (Instr.wellFormed (.incr f hi v)) (fun d => d.incrWrite f hi v) s

/-- STEP (R353). -/
def execStep (f : Nat) (v : Nat) (s : State) : Host.Outcome State Fault Refusal :=
  runCmd (Instr.wellFormed (.step f v)) (fun d => d.stepCtrlWrite f v) s

/-- ARM (R354). -/
def execArm (f : Nat) (v : Nat) (s : State) : Host.Outcome State Fault Refusal :=
  runCmd (Instr.wellFormed (.arm f v)) (fun d => d.stepCtrlWrite f v) s

/-- SET_GO (R356). -/
def execSetGo (f : Nat) (n : Nat) (v : Nat) (s : State) : Host.Outcome State Fault Refusal :=
  runCmd (Instr.wellFormed (.setGo f n v)) (fun d => d.portSetWrite f n v) s

/-- ADJ_GO (R356). -/
def execAdjGo (f : Nat) (n : Nat) (v : Nat) (s : State) : Host.Outcome State Fault Refusal :=
  runCmd (Instr.wellFormed (.adjGo f n v)) (fun d => d.portSetWrite f n v) s

/-- RX_POP (R358). -/
def execRxPop (f : Nat) (n : Nat) (v : Nat) (s : State) : Host.Outcome State Fault Refusal :=
  runCmd (Instr.wellFormed (.rxPop f n v)) (fun d => d.ptpPop f n v) s

/-- TX_GO (R358). -/
def execTxGo (f : Nat) (n : Nat) (v : Nat) (s : State) : Host.Outcome State Fault Refusal :=
  runCmd (Instr.wellFormed (.txGo f n v)) (fun d => d.ptpSend f n v) s

/-- TS_POP (R358). -/
def execTsPop (f : Nat) (n : Nat) (v : Nat) (s : State) : Host.Outcome State Fault Refusal :=
  runCmd (Instr.wellFormed (.tsPop f n v)) (fun d => d.ptpTsPop f n v) s

/-- TLS_FRAME_INSTANT (R363). -/
def execTlsFrameInstant (at_ : Nat) (s : State) : Host.Outcome State Fault Refusal :=
  runCmd (Instr.wellFormed (.tlsFrameInstant at_)) (fun d => d.tlsInstant at_) s

/-- TLS_HOLDOVER (R363). -/
def execTlsHoldover (c : Nat) (s : State) : Host.Outcome State Fault Refusal :=
  runCmd (Instr.wellFormed (.tlsHoldover c)) (fun d => d.tlsHoldover c) s

/-- PTP_RX (R358). -/
def execPtpRx (n : Nat) (subif : Nat) (frame : List Byte) (s : State) : Host.Outcome State Fault Refusal :=
  runCmd (Instr.wellFormed (.ptpRx n subif frame))
    (fun d => (d.work [Pg.NET (2 * n), Pg.PTP n]).ptpReceive n subif (d.netOwn n subif) frame) s

/-- PTP_TX_DONE (R358). -/
def execPtpTxDone (n : Nat) (s : State) : Host.Outcome State Fault Refusal :=
  runCmd (Instr.wellFormed (.ptpTxDone n)) (fun d => d.ptpSent n) s

/-- CADENCE_EN (R360). -/
def execCadenceEn (f : Nat) (c : Nat) (v : Nat) (s : State) : Host.Outcome State Fault Refusal :=
  runCmd (Instr.wellFormed (.cadenceEn f c v)) (fun d => d.cadenceEn f c v) s

/-- HEAD_CAD (R364). -/
def execHeadCad (f : Nat) (h : Nat) (hi : Nat) (v : Nat) (s : State) : Host.Outcome State Fault Refusal :=
  runCmd (Instr.wellFormed (.headCad f h hi v)) (fun d => d.headCad f h hi v) s

/-- ARMED_EXPIRY (R354). -/
def execArmedExpiry (s : State) : Host.Outcome State Fault Refusal :=
  runCmd (Instr.wellFormed (.armedExpiry)) (fun d => d.armedExpiry) s

/-- PPS_OUT (R352). -/
def execPpsOut (s : State) : Host.Outcome State Fault Refusal :=
  runCmd (Instr.wellFormed (.ppsOut)) (fun d => d.ppsOut) s

/-- PPS_IN (R352). -/
def execPpsIn (s : State) : Host.Outcome State Fault Refusal :=
  runCmd (Instr.wellFormed (.ppsIn)) (fun d => d.ppsIn) s

/-- PPS_OUT_FALL (R352). -/
def execPpsOutFall (s : State) : Host.Outcome State Fault Refusal :=
  runCmd (Instr.wellFormed (.ppsOutFall)) (fun d => d.ppsOutFall) s

end Sys2Proof.Machine
end

