-- ==== Sys2Proof/Machine/ExecDecodeVideo.lean ====
section
/-! DEFINITION. ExecDecodeVideo: the meanings of the commands of this family, one definition each, over the operations of DecodeVideo. -/

namespace Sys2Proof.Machine

/-- DEC_CONFIG (R274). -/
def execDecConfig (p : Nat) (asn : Nat) (hv : HostView) (s : State) : Host.Outcome State Fault Refusal :=
  runQuiet (Instr.wellFormed (.decConfig p asn hv)) (fun d => (d.see hv).start p asn 0x91 Dev.decConfig) s

/-- DEC_DECODE (R274). -/
def execDecDecode (p : Nat) (asn : Nat) (hv : HostView) (s : State) : Host.Outcome State Fault Refusal :=
  runQuiet (Instr.wellFormed (.decDecode p asn hv)) (fun d => (d.see hv).start p asn 0x91 Dev.decDecode) s

/-- DEC_DRAIN (R274). -/
def execDecDrain (p : Nat) (asn : Nat) (hv : HostView) (s : State) : Host.Outcome State Fault Refusal :=
  runQuiet (Instr.wellFormed (.decDrain p asn hv)) (fun d => (d.see hv).start p asn 0x91 Dev.decDrain) s

/-- DEC_RELEASE (R274). -/
def execDecRelease (p : Nat) (asn : Nat) (hv : HostView) (s : State) : Host.Outcome State Fault Refusal :=
  runQuiet (Instr.wellFormed (.decRelease p asn hv)) (fun d => (d.see hv).start p asn 0x91 Dev.decRelease) s

/-- DEC_UNIT_START (R274). -/
def execDecUnitStart (g : Nat) (n : Nat) (sequence : Option (List Nat)) (bad : List Nat)
    (s : State) : Host.Outcome State Fault Refusal :=
  runQuiet (Instr.wellFormed (.decUnitStart g n sequence bad))
    (fun d => (d.work [Pg.DECENT g, Pg.DECPIX g, Pg.DECERR g]).decStart g n sequence bad) s

/-- DEC_UNIT_END (R274). -/
def execDecUnitEnd (n : Nat) (pics : List Picture) (reorder : List Nat) (hv : HostView)
    (s : State) : Host.Outcome State Fault Refusal :=
  runQuiet (Instr.wellFormed (.decUnitEnd n pics reorder hv)) (fun d => (d.see hv).decEnd n pics reorder) s

/-- DEC_WATCHDOG (R278). -/
def execDecWatchdog (g : Nat) (ix : Nat) (s : State) (done : Nat := 0) : Host.Outcome State Fault Refusal :=
  runQuiet (Instr.wellFormed (.decWatchdog g ix done)) (fun d => d.decClose g ix done) s

end Sys2Proof.Machine
end

