-- ==== Sys2Proof/Machine/ExecDisplay.lean ====
section
/-! DEFINITION. ExecDisplay: the meanings of the commands of this family, one definition each, over the operations of Display. -/

namespace Sys2Proof.Machine

/-- DSP_COMMIT (R291). -/
def execDspCommit (f : Nat) (n : Nat) (v : Nat) (s : State) : Host.Outcome State Fault Refusal :=
  runCmd (Instr.wellFormed (.dspCommit f n v)) (fun d => d.dspCommit f n v) s

/-- AUX_GO (R293). -/
def execAuxGo (f : Nat) (n : Nat) (v : Nat) (s : State) : Host.Outcome State Fault Refusal :=
  runCmd (Instr.wellFormed (.auxGo f n v)) (fun d => d.auxGo f n v) s

/-- TE_EVENT (R290). -/
def execTeEvent (g : Nat) (hv : HostView) (s : State) : Host.Outcome State Fault Refusal :=
  runCmd (Instr.wellFormed (.teEvent g hv)) (fun d => ((d.work (d.linkPages g)).see hv).teEvent g) s

/-- APPLY_POINT (R291). -/
def execApplyPoint (n : Nat) (s : State) (hv : HostView := {}) : Host.Outcome State Fault Refusal :=
  runQuiet (Instr.wellFormed (.applyPoint n hv)) (fun d => (d.see hv).applyPoint n) s

/-- DSP_FRAME_START (R289). -/
def execDspFrameStart (n : Nat) (hv : HostView) (s : State) : Host.Outcome State Fault Refusal :=
  runQuiet (Instr.wellFormed (.dspFrameStart n hv)) (fun d => (d.see hv).dspStart n) s

/-- TE_INPUT (R290). -/
def execTeInput (ix : Nat) (s : State) : Host.Outcome State Fault Refusal :=
  runCmd (Instr.wellFormed (.teInput ix)) (fun d => d.teInput ix) s

/-- TE_TIMEOUT (R290). -/
def execTeTimeout (n : Nat) (hv : HostView) (s : State) : Host.Outcome State Fault Refusal :=
  runCmd (Instr.wellFormed (.teTimeout n hv)) (fun d => (d.see hv).teTimeout n) s

/-- DSP_UNDERRUN (R288). -/
def execDspUnderrun (n : Nat) (l : Nat) (y : Nat) (x : Nat) (s : State) : Host.Outcome State Fault Refusal :=
  runQuiet (Instr.wellFormed (.dspUnderrun n l y x)) (fun d => d.dspUnderrun n l y x) s

/-- HOT_PLUG (R293). -/
def execHotPlug (n : Nat) (present : Bool) (rate : Nat) (lanes : Nat) (adaptive : Bool) (fails : Bool)
    (s : State) : Host.Outcome State Fault Refusal :=
  runCmd (Instr.wellFormed (.hotPlug n present rate lanes adaptive fails))
    (fun d => d.hotPlug n present rate lanes adaptive fails) s

/-- FEED_LINE_SEND (R295). -/
def execFeedLineSend (n : Nat) (s : State) : Host.Outcome State Fault Refusal :=
  runQuiet (Instr.wellFormed (.feedLineSend n)) (fun d => d.feedLineSend n) s

/-- CADENCE_INSTANT (R361). -/
def execCadenceInstant (c : Nat) (s : State) : Host.Outcome State Fault Refusal :=
  runCmd (Instr.wellFormed (.cadenceInstant c)) (fun d => d.cadInstant c) s

/-- AUX_TRANSACTION_END (R293). -/
def execAuxTransactionEnd (n : Nat) (r : Nat) (bs : List Byte) (s : State) : Host.Outcome State Fault Refusal :=
  runCmd (Instr.wellFormed (.auxTransactionEnd n r bs)) (fun d => d.auxEnd n r bs) s

end Sys2Proof.Machine
end

