-- ==== Sys2Proof/Machine/ExecEncode.lean ====
section
/-! DEFINITION. ExecEncode: the meanings of the commands of this family, one definition each, over the operations of Encode. -/

namespace Sys2Proof.Machine

/-- ENC_CONFIG (R259). -/
def execEncConfig (p : Nat) (asn : Nat) (hv : HostView) (s : State) : Host.Outcome State Fault Refusal :=
  runQuiet (Instr.wellFormed (.encConfig p asn hv)) (fun d => (d.see hv).start p asn 0x90 Dev.encConfig) s

/-- ENC_PICTURE (R261). -/
def execEncPicture (p : Nat) (asn : Nat) (hv : HostView) (s : State) : Host.Outcome State Fault Refusal :=
  runQuiet (Instr.wellFormed (.encPicture p asn hv)) (fun d => (d.see hv).start p asn 0x90 Dev.encPicture) s

/-- ENC_COLLECT (R263). -/
def execEncCollect (p : Nat) (asn : Nat) (hv : HostView) (s : State) : Host.Outcome State Fault Refusal :=
  runQuiet (Instr.wellFormed (.encCollect p asn hv)) (fun d => (d.see hv).start p asn 0x90 Dev.encCollect) s

/-- ENC_FORCE_IRAP (R264). -/
def execEncForceIrap (p : Nat) (asn : Nat) (hv : HostView) (s : State) : Host.Outcome State Fault Refusal :=
  runQuiet (Instr.wellFormed (.encForceIrap p asn hv)) (fun d => (d.see hv).start p asn 0x90 Dev.encForce) s

/-- ENC_END (R258). -/
def execEncEnd (p : Nat) (asn : Nat) (hv : HostView) (s : State) : Host.Outcome State Fault Refusal :=
  runQuiet (Instr.wellFormed (.encEnd p asn hv)) (fun d => (d.see hv).start p asn 0x90 Dev.encEnd) s

/-- ENC_RELEASE (R258). -/
def execEncRelease (p : Nat) (asn : Nat) (hv : HostView) (s : State) : Host.Outcome State Fault Refusal :=
  runQuiet (Instr.wellFormed (.encRelease p asn hv)) (fun d => (d.see hv).start p asn 0x90 Dev.encRelease) s

/-- ENC_LTR (R264). -/
def execEncLtr (p : Nat) (asn : Nat) (hv : HostView) (s : State) : Host.Outcome State Fault Refusal :=
  runQuiet (Instr.wellFormed (.encLtr p asn hv)) (fun d => (d.see hv).start p asn 0x90 Dev.encLtr) s

/-- ENC_SINK_READ (R262). -/
def execEncSinkRead (p : Nat) (asn : Nat) (hv : HostView) (s : State) : Host.Outcome State Fault Refusal :=
  runQuiet (Instr.wellFormed (.encSinkRead p asn hv)) (fun d => (d.see hv).start p asn 0x90 Dev.encSinkRead) s

/-- ENC_PICTURE_START (R265). -/
def execEncPictureStart (n : Nat) (poc : Nat) (qp : Nat) (target : Nat) (hdr : Nat) (hv : HostView)
    (s : State) : Host.Outcome State Fault Refusal :=
  runQuiet (Instr.wellFormed (.encPictureStart n poc qp target hdr hv))
    (fun d => ((d.work (d.encPages n)).see hv).encStart n poc qp target hdr) s

/-- ENC_ROW_END (R267). -/
def execEncRowEnd (n : Nat) (b : Nat) (a : Nat) (fb : Nat) (plan : Nat) (s : State) (floorRow : List Nat := []) : Host.Outcome State Fault Refusal :=
  runQuiet (Instr.wellFormed (.encRowEnd n b a fb plan floorRow)) (fun d => d.encRow n b a fb plan floorRow) s

/-- ENC_PICTURE_COMMIT (R258). -/
def execEncPictureCommit (n : Nat) (qp : Nat) (bs : List Byte) (hv : HostView)
    (s : State) : Host.Outcome State Fault Refusal :=
  runQuiet (Instr.wellFormed (.encPictureCommit n qp bs hv)) (fun d => (d.see hv).encCommit n qp bs) s

/-- PIXEL_ROW_END (R265). -/
def execPixelRowEnd (n : Nat) (b : Nat) (e : Nat) (s : State) (code : RowCode := {}) : Host.Outcome State Fault Refusal :=
  runQuiet (Instr.wellFormed (.pixelRowEnd n b e code)) (fun d => d.pixelRow n b e code) s

end Sys2Proof.Machine
end

