-- ==== Sys2Proof/Machine/ExecFaults.lean ====
section
/-! DEFINITION. ExecFaults: the meanings of the commands of this family, one definition each, over the operations of Faults. -/

namespace Sys2Proof.Machine

/-- HBM_RETIRE (R25). -/
def execHbmRetire (f : Nat) (st : Nat) (v : Nat) (s : State) : Host.Outcome State Fault Refusal :=
  runCmd (Instr.wellFormed (.hbmRetire f st v)) (fun d => d.hbmRetire f st v) s

/-- ETHERNET_LINK_DOWN (R341). -/
def execEthernetLinkDown (port : Nat) (ix : Nat) (fcs : Nat) (s : State) : Host.Outcome State Fault Refusal :=
  runCmd (Instr.wellFormed (.ethernetLinkDown port ix fcs)) (fun d => d.ethernetDown port ix fcs) s

/-- SRAM_ERROR (R341). -/
def execSramError (m : Nat) (row : Nat) (pg : Nat) (corrected : Bool) (spare : Bool) (lost : List (Nat × Nat × Nat))
    (s : State) (unmapped : Option (Nat × Nat × Nat) := none) : Host.Outcome State Fault Refusal :=
  runCmd (Instr.wellFormed (.sramError m row pg corrected spare lost unmapped))
    (fun d => match unmapped with
      | some u => d.unmapped pg u.1 u.2.1 u.2.2
      | none => d.sramError m row pg corrected spare lost) s

/-- HBM_ECC_ERROR (R25). -/
def execHbmEccError (st : Nat) (row : Nat) (corrected : Bool) (kind : Nat) (a : Nat) (b : Nat)
    (s : State) : Host.Outcome State Fault Refusal :=
  runCmd (Instr.wellFormed (.hbmEccError st row corrected kind a b)) (fun d => d.hbmEcc st row corrected kind a b) s

/-- MRAM_UNCORR (R341). -/
def execMramUncorr (rec : Option Nat) (s : State) : Host.Outcome State Fault Refusal :=
  runCmd (Instr.wellFormed (.mramUncorr rec)) (fun d => d.mramUncorr rec) s

/-- PLL_LOSS_OF_LOCK (R27). -/
def execPllLossOfLock (n : Nat) (k : Nat) (s : State) : Host.Outcome State Fault Refusal :=
  runAlways (Instr.wellFormed (.pllLossOfLock n k)) (fun d => d.pllLoss n k) s

/-- PLL_RELOCK (R27). -/
def execPllRelock (n : Nat) (k : Nat) (s : State) : Host.Outcome State Fault Refusal :=
  runAlways (Instr.wellFormed (.pllRelock n k)) (fun d => d.pllRelock n k) s

/-- STACK_INTERFACE_LOSS (R25). -/
def execStackInterfaceLoss (st : Nat) (s : State) : Host.Outcome State Fault Refusal :=
  runCmd (Instr.wellFormed (.stackInterfaceLoss st)) (fun d => d.stackLost st) s

/-- MIRROR_RESTORED (R23). -/
def execMirrorRestored (st : Nat) (s : State) : Host.Outcome State Fault Refusal :=
  runCmd (Instr.wellFormed (.mirrorRestored st)) (fun d => d.mirrorRestored st) s

/-- SPINE_PARITY_ERROR (R17). -/
def execSpineParityError (n : Nat) (third : Bool) (s : State) : Host.Outcome State Fault Refusal :=
  runCmd (Instr.wellFormed (.spineParityError n third)) (fun d => d.spineParity n third) s

/-- ETHERNET_LINK_UP (R341). -/
def execEthernetLinkUp (port : Nat) (ix : Nat) (s : State) : Host.Outcome State Fault Refusal :=
  runCmd (Instr.wellFormed (.ethernetLinkUp port ix)) (fun d => d.ethernetUp port ix) s

/-- PORT_IN_SERVICE (R341). -/
def execPortInService (port : Nat) (s : State) : Host.Outcome State Fault Refusal :=
  runCmd (Instr.wellFormed (.portInService port)) (fun d => d.portIn port) s

end Sys2Proof.Machine
end

