-- ==== Sys2Proof/Machine/ExecFirmware.lean ====
section
/-! DEFINITION. ExecFirmware: the meanings of the commands of this family, one definition each, over the operations of Firmware. -/

namespace Sys2Proof.Machine

/-- FW_STAGE (R347). -/
def execFwStage (p : Nat) (asn : Nat) (hv : HostView) (s : State) : Host.Outcome State Fault Refusal :=
  runQuiet (Instr.wellFormed (.fwStage p asn hv)) (fun d => (d.see hv).start p asn 0x08 Dev.fwStage) s

/-- FW_ACTIVATE (R348). -/
def execFwActivate (p : Nat) (asn : Nat) (hv : HostView) (s : State) : Host.Outcome State Fault Refusal :=
  runQuiet (Instr.wellFormed (.fwActivate p asn hv)) (fun d => (d.see hv).start p asn 0x09 Dev.fwActivate) s

/-- MGMT_PAIR_FAILURE (R341). -/
def execMgmtPairFailure (k : Nat) (s : State) : Host.Outcome State Fault Refusal :=
  runCmd (Instr.wellFormed (.mgmtPairFailure k)) (fun d => d.pairFails k) s

/-- STANDBY_READY (R348). -/
def execStandbyReady (s : State) : Host.Outcome State Fault Refusal :=
  runCmd (Instr.wellFormed (.standbyReady)) (fun d => d.standbyReady) s

/-- HANDOVER (R348). -/
def execHandover (s : State) : Host.Outcome State Fault Refusal :=
  runQuiet (Instr.wellFormed (.handover)) (fun d => d.handover) s

/-- HANDOVER_TIMEOUT (R348). -/
def execHandoverTimeout (s : State) : Host.Outcome State Fault Refusal :=
  runQuiet (Instr.wellFormed (.handoverTimeout)) (fun d => d.handoverTimeout) s

/-- STANDBY_RESTART (R348). -/
def execStandbyRestart (s : State) : Host.Outcome State Fault Refusal :=
  runCmd (Instr.wellFormed (.standbyRestart)) (fun d => d.standbyRestart) s

end Sys2Proof.Machine
end

