-- ==== Sys2Proof/Machine/ExecFlow.lean ====
section
/-! DEFINITION. ExecFlow: the meanings of the commands of this family, one definition each, over the operations of Flow. -/

namespace Sys2Proof.Machine

/-- FLOW_ENABLE (R326). -/
def execFlowEnable (f : Nat) (w : Nat) (v : Nat) (s : State) : Host.Outcome State Fault Refusal :=
  runCmd (Instr.wellFormed (.flowEnable f w v)) (fun d => d.flowEnable f w v) s

/-- FLOW_FRAME_START (R323). -/
def execFlowFrameStart (w : Nat) (s : State) : Host.Outcome State Fault Refusal :=
  runQuiet (Instr.wellFormed (.flowFrameStart w)) (fun d => (d.work [(flowAt w).1]).flowStart w) s

end Sys2Proof.Machine
end

