-- ==== Sys2Proof/Machine/ExecIngest.lean ====
section
/-! DEFINITION. ExecIngest: the meanings of the commands of this family, one definition each, over the operations of Ingest. -/

namespace Sys2Proof.Machine

/-- QUIRE_SEAL (R67). -/
def execQuireSeal (p : Nat) (asn : Nat) (hv : HostView) (s : State) : Host.Outcome State Fault Refusal :=
  runQuiet (Instr.wellFormed (.quireSeal p asn hv)) (fun d => (d.see hv).start p asn 0x88 Dev.quireSeal) s

/-- CONTEXT_BIND (R129). -/
def execContextBind (p : Nat) (asn : Nat) (hv : HostView) (s : State) : Host.Outcome State Fault Refusal :=
  runQuiet (Instr.wellFormed (.contextBind p asn hv)) (fun d => (d.see hv).start p asn 0x8A Dev.contextBind) s

/-- CONTEXT_UNBIND (R130). -/
def execContextUnbind (p : Nat) (asn : Nat) (hv : HostView) (s : State) : Host.Outcome State Fault Refusal :=
  runQuiet (Instr.wellFormed (.contextUnbind p asn hv)) (fun d => (d.see hv).start p asn 0x8A Dev.contextUnbind) s

/-- TAP_ARM (R146). -/
def execTapArm (p : Nat) (asn : Nat) (hv : HostView) (s : State) : Host.Outcome State Fault Refusal :=
  runQuiet (Instr.wellFormed (.tapArm p asn hv)) (fun d => (d.see hv).start p asn 0x8B Dev.tapArm) s

/-- TAP_DISARM (R146). -/
def execTapDisarm (p : Nat) (asn : Nat) (hv : HostView) (s : State) : Host.Outcome State Fault Refusal :=
  runQuiet (Instr.wellFormed (.tapDisarm p asn hv)) (fun d => (d.see hv).start p asn 0x8B Dev.tapDisarm) s

/-- GRP_CTRL_EN (R92). -/
def execGrpCtrlEn (f : Nat) (g : Nat) (v : Nat) (s : State) : Host.Outcome State Fault Refusal :=
  runCmd (Instr.wellFormed (.grpCtrlEn f g v)) (fun d => (d.grpCtrlWrite f g v).settleClosed) s

/-- VCMAP_WRITE (R119). -/
def execVcmapWrite (f : Nat) (g : Nat) (vc : Nat) (v : Nat) (s : State) : Host.Outcome State Fault Refusal :=
  runCmd (Instr.wellFormed (.vcmapWrite f g vc v)) (fun d => (d.vcmapWrite f g vc v).settleClosed) s

/-- VCMAP_UNBIND (R119). -/
def execVcmapUnbind (f : Nat) (g : Nat) (vc : Nat) (v : Nat) (s : State) : Host.Outcome State Fault Refusal :=
  runCmd (Instr.wellFormed (.vcmapUnbind f g vc v)) (fun d => (d.vcmapWrite f g vc v).settleClosed) s

/-- LOOPBACK (R123). -/
def execLoopback (f : Nat) (lane : Nat) (v : Nat) (s : State) : Host.Outcome State Fault Refusal :=
  runCmd (Instr.wellFormed (.loopback f lane v)) (fun d => (d.laneCtrlWrite f lane v).settleClosed) s

/-- SYNC_LOSS (R97). -/
def execSyncLoss (lane : Nat) (s : State) : Host.Outcome State Fault Refusal :=
  runCmd (Instr.wellFormed (.syncLoss lane)) (fun d => (d.syncLoss lane).settleClosed) s

/-- GATHERING (R100). -/
def execGathering (g : Nat) (lines : List (Option (List Bool))) (s : State) : Host.Outcome State Fault Refusal :=
  runCmd (Instr.wellFormed (.gathering g lines))
    (fun d => ((d.work (d.linkPages g)).gathering g lines).settleClosed) s

/-- TRAINING_TIMEOUT (R114). -/
def execTrainingTimeout (g : Nat) (s : State) : Host.Outcome State Fault Refusal :=
  runCmd (Instr.wellFormed (.trainingTimeout g)) (fun d => (d.trainingTimeout g).settleClosed) s

/-- FHDR (R135). -/
def execFhdr (g : Nat) (s : State) : Host.Outcome State Fault Refusal :=
  runCmd (Instr.wellFormed (.fhdr g)) (fun d => (d.work (d.linkPages g)).onFhdr g) s

/-- ROWS (R137). -/
def execRows (g : Nat) (s : State) : Host.Outcome State Fault Refusal :=
  runCmd (Instr.wellFormed (.rows g)) (fun d => (d.work (d.linkPages g)).onRows g) s

/-- FTRL (R136). -/
def execFtrl (g : Nat) (s : State) : Host.Outcome State Fault Refusal :=
  runCmd (Instr.wellFormed (.ftrl g)) (fun d => (d.work (d.linkPages g)).onFtrl g) s

/-- AUX (R138). -/
def execAux (g : Nat) (s : State) : Host.Outcome State Fault Refusal :=
  runCmd (Instr.wellFormed (.aux g)) (fun d => (d.work (d.linkPages g)).onAux g) s

/-- BIND_OFFER (R117). -/
def execBindOffer (g : Nat) (s : State) : Host.Outcome State Fault Refusal :=
  runCmd (Instr.wellFormed (.bindOffer g)) (fun d => ((d.work (d.linkPages g)).bindOffer g).settleClosed) s

/-- ACK_TIMEOUT (R110). -/
def execAckTimeout (g : Nat) (s : State) : Host.Outcome State Fault Refusal :=
  runCmd (Instr.wellFormed (.ackTimeout g)) (fun d => (d.ackTimeout g).settleClosed) s

/-- ROW_TIMEOUT (R136). -/
def execRowTimeout (h : Nat) (cid : Nat) (s : State) : Host.Outcome State Fault Refusal :=
  runCmd (Instr.wellFormed (.rowTimeout h cid)) (fun d => d.close (frameKey h cid) .rowTimeout) s

/-- FRAME_TIMEOUT (R136). -/
def execFrameTimeout (h : Nat) (cid : Nat) (s : State) : Host.Outcome State Fault Refusal :=
  runCmd (Instr.wellFormed (.frameTimeout h cid)) (fun d => d.close (frameKey h cid) .frameTimeout) s

/-- COMPLETE (R136). -/
def execComplete (h : Nat) (cid : Nat) (s : State) : Host.Outcome State Fault Refusal :=
  runCmd (Instr.wellFormed (.complete h cid)) (fun d => d.onComplete h cid) s

/-- ADMIT_RESEND (R132). -/
def execAdmitResend (h : Nat) (s : State) : Host.Outcome State Fault Refusal :=
  runCmd (Instr.wellFormed (.admitResend h)) (fun d => d.admitResend h) s

/-- ADMIT_STALL (R132). -/
def execAdmitStall (h : Nat) (s : State) : Host.Outcome State Fault Refusal :=
  runCmd (Instr.wellFormed (.admitStall h)) (fun d => d.admitStall h) s

/-- MIPI_FRAME_START (R144). -/
def execMipiFrameStart (n : Nat) (corrected : Bool) (s : State) : Host.Outcome State Fault Refusal :=
  runCmd (Instr.wellFormed (.mipiFrameStart n corrected))
    (fun d => (d.work [Pg.MIP n, Pg.ING (d.unitOf (252 + n))]).mipStart n corrected) s

/-- MIPI_LONG_PACKET (R145). -/
def execMipiLongPacket (n : Nat) (payload : List Byte) (crcOk : Bool) (corrected : Bool)
    (s : State) : Host.Outcome State Fault Refusal :=
  runCmd (Instr.wellFormed (.mipiLongPacket n payload crcOk corrected))
    (fun d => (d.work [Pg.MIP n, Pg.ING (d.unitOf (252 + n))]).mipLong n payload crcOk corrected) s

/-- MIPI_EMBEDDED_DATA (R144). -/
def execMipiEmbeddedData (n : Nat) (payload : List Byte) (corrected : Bool) (s : State) (crcOk : Bool := true) : Host.Outcome State Fault Refusal :=
  runCmd (Instr.wellFormed (.mipiEmbeddedData n payload corrected crcOk))
    (fun d => (d.work [Pg.MIP n, Pg.ING (d.unitOf (252 + n))]).mipEmbedded n payload corrected crcOk) s

/-- MIPI_FRAME_END (R144). -/
def execMipiFrameEnd (n : Nat) (corrected : Bool) (s : State) : Host.Outcome State Fault Refusal :=
  runCmd (Instr.wellFormed (.mipiFrameEnd n corrected))
    (fun d => (d.work [Pg.MIP n, Pg.ING (d.unitOf (252 + n))]).mipEnd n corrected) s

/-- SECTION_PASS_START (R9). -/
def execSectionPassStart (h : Nat) (cid : Nat) (s : State) : Host.Outcome State Fault Refusal :=
  runQuiet (Instr.wellFormed (.sectionPassStart h cid))
    (fun d => (d.work (d.framePages (frameKey h cid))).passStart (frameKey h cid)) s

/-- RESPIN_PASS_START (R78), of one member's share or of all that may start (R10). -/
def execRespinPassStart (h : Nat) (cid : Nat) (s : State) (member : Option Nat := none) : Host.Outcome State Fault Refusal :=
  runQuiet (Instr.wellFormed (.respinPassStart h cid member))
    (fun d => (d.work (d.framePages (frameKey h cid))).respinStart (frameKey h cid) member) s

/-- SECTION_PASS_END (R80), of one member's share of a respin or of all that run (R10). -/
def execSectionPassEnd (h : Nat) (cid : Nat) (respin : Bool) (s : State) (member : Option Nat := none) : Host.Outcome State Fault Refusal :=
  runQuiet (Instr.wellFormed (.sectionPassEnd h cid respin member)) (fun d => d.passEnd (frameKey h cid) respin member) s

/-- SEAL_POINT (R75). -/
def execSealPoint (h : Nat) (cid : Nat) (s : State) : Host.Outcome State Fault Refusal :=
  runQuiet (Instr.wellFormed (.sealPoint h cid)) (fun d => d.sealPoint (frameKey h cid)) s

/-- RELEASE_DEADLINE (R82). -/
def execReleaseDeadline (h : Nat) (cid : Nat) (s : State) : Host.Outcome State Fault Refusal :=
  runQuiet (Instr.wellFormed (.releaseDeadline h cid))
    (fun d => (d.releaseDeadline (frameKey h cid)).retire (frameKey h cid)) s

/-- ECHO_LIMIT (R73). -/
def execEchoLimit (c : Nat) (id : Nat) (s : State) : Host.Outcome State Fault Refusal :=
  runQuiet (Instr.wellFormed (.echoLimit c id)) (fun d => d.echoLimit c id) s

/-- MISMATCH_RESEND (R73). -/
def execMismatchResend (c : Nat) (s : State) : Host.Outcome State Fault Refusal :=
  runCmd (Instr.wellFormed (.mismatchResend c)) (fun d => d.mismatchResend c) s

/-- CALIBRATION_APPLY (R154). -/
def execCalibrationApply (p : Nat) (asn : Nat) (s : State) : Host.Outcome State Fault Refusal :=
  runQuiet (Instr.wellFormed (.calibrationApply p asn)) (fun d => d.calibrationApply p asn) s

/-- MIPI_DT_SKIP (R144). -/
def execMipiDtSkip (n : Nat) (s : State) (corrected : Bool := false) : Host.Outcome State Fault Refusal :=
  runCmd (Instr.wellFormed (.mipiDtSkip n corrected)) (fun d => d.mipOther n corrected) s

/-- MIPI_HEADER_ERROR (R145). -/
def execMipiHeaderError (n : Nat) (s : State) : Host.Outcome State Fault Refusal :=
  runCmd (Instr.wellFormed (.mipiHeaderError n)) (fun d => d.mipHeaderError n) s

end Sys2Proof.Machine
end

