-- ==== Sys2Proof/Machine/ExecLink.lean ====
section
/-! DEFINITION. ExecLink: the meanings of the commands of this family, one definition each, over the operations of Link. -/

namespace Sys2Proof.Machine

/-- MAP_RESET (R122). -/
def execMapReset (f : Nat) (g : Nat) (v : Nat) (s : State) : Host.Outcome State Fault Refusal :=
  runCmd (Instr.wellFormed (.mapReset f g v)) (fun d => d.grpCtrlWrite f g v) s

/-- FAR_END_LOOPBACK (R125). -/
def execFarEndLoopback (f : Nat) (lane : Nat) (v : Nat) (s : State) : Host.Outcome State Fault Refusal :=
  runCmd (Instr.wellFormed (.farEndLoopback f lane v)) (fun d => d.laneCtrlWrite f lane v) s

/-- SIGNAL_DETECT (R114). -/
def execSignalDetect (g : Nat) (s : State) : Host.Outcome State Fault Refusal :=
  runCmd (Instr.wellFormed (.signalDetect g)) (fun d => d.signalDetect g) s

/-- SYNC_LOCK (R97). -/
def execSyncLock (lane : Nat) (inverted : Bool) (s : State) : Host.Outcome State Fault Refusal :=
  runCmd (Instr.wellFormed (.syncLock lane inverted)) (fun d => d.syncLock lane inverted) s

/-- BACKOFF_EXPIRY (R118). -/
def execBackoffExpiry (g : Nat) (s : State) : Host.Outcome State Fault Refusal :=
  runCmd (Instr.wellFormed (.backoffExpiry g)) (fun d => d.backoffExpiry g) s

/-- BIND_DONE (R115). -/
def execBindDone (g : Nat) (s : State) : Host.Outcome State Fault Refusal :=
  runCmd (Instr.wellFormed (.bindDone g)) (fun d => (d.work (d.linkPages g)).bindDone g) s

/-- STATUS (R121). -/
def execStatus (g : Nat) (s : State) : Host.Outcome State Fault Refusal :=
  runCmd (Instr.wellFormed (.status g)) (fun d => (d.work (d.linkPages g)).statusReport g) s

/-- SPARE_READY (R122). -/
def execSpareReady (g : Nat) (s : State) : Host.Outcome State Fault Refusal :=
  runCmd (Instr.wellFormed (.spareReady g)) (fun d => (d.work (d.linkPages g)).spareReady g) s

/-- ACK (R110). -/
def execAck (g : Nat) (s : State) : Host.Outcome State Fault Refusal :=
  runCmd (Instr.wellFormed (.ack g)) (fun d => ((d.work (d.linkPages g)).ackArrives g).settleClosed) s

/-- DREQ (R111). -/
def execDreq (g : Nat) (s : State) : Host.Outcome State Fault Refusal :=
  runCmd (Instr.wellFormed (.dreq g)) (fun d => (d.work (d.linkPages g)).delayRequest g) s

/-- TIME_SYNC (R111). -/
def execTimeSync (g : Nat) (ref : Nat) (s : State) : Host.Outcome State Fault Refusal :=
  runCmd (Instr.wellFormed (.timeSync g ref)) (fun d => (d.work (d.linkPages g)).timeSync g ref) s

/-- LANE_SPARE_THRESH (R121). -/
def execLaneSpareThresh (lane : Nat) (s : State) : Host.Outcome State Fault Refusal :=
  runCmd (Instr.wellFormed (.laneSpareThresh lane)) (fun d => d.spareThreshold lane) s

/-- SPARE_READY_TIMEOUT (R122). -/
def execSpareReadyTimeout (g : Nat) (s : State) : Host.Outcome State Fault Refusal :=
  runCmd (Instr.wellFormed (.spareReadyTimeout g)) (fun d => d.spareReadyTimeout g) s

/-- SPARE_SWITCH (R122). -/
def execSpareSwitch (g : Nat) (s : State) : Host.Outcome State Fault Refusal :=
  runCmd (Instr.wellFormed (.spareSwitch g)) (fun d => d.spareSwitch g) s

/-- SPARE_WAIT (R122). -/
def execSpareWait (g : Nat) (s : State) : Host.Outcome State Fault Refusal :=
  runCmd (Instr.wellFormed (.spareWait g)) (fun d => d.commitSpare g) s

/-- BACKOFF_RESET (R118). -/
def execBackoffReset (g : Nat) (s : State) : Host.Outcome State Fault Refusal :=
  runCmd (Instr.wellFormed (.backoffReset g)) (fun d => d.backoffReset g) s

/-- PRBS_LOCK (R124). -/
def execPrbsLock (lane : Nat) (stream : List Bool) (s : State) : Host.Outcome State Fault Refusal :=
  runCmd (Instr.wellFormed (.prbsLock lane stream)) (fun d => d.prbsLock lane stream) s

/-- PRBS_LOCK_LOSS (R124). -/
def execPrbsLockLoss (lane : Nat) (stream : List Bool) (s : State) : Host.Outcome State Fault Refusal :=
  runCmd (Instr.wellFormed (.prbsLockLoss lane stream)) (fun d => d.prbsLockLoss lane stream) s

end Sys2Proof.Machine
end

