-- ==== Sys2Proof/Machine/ExecMagazines.lean ====
section
/-! DEFINITION. ExecMagazines: the meanings of the commands of this family, one definition each, over the operations of Magazines. -/

namespace Sys2Proof.Machine

/-- CREATE (R250). -/
def execCreate (f : Nat) (x : Nat) (v : Nat) (s : State) : Host.Outcome State Fault Refusal :=
  runCmd (Instr.wellFormed (.create f x v)) (fun d => d.setCtrlWrite f x v) s

/-- ASSEMBLE (R250). -/
def execAssemble (f : Nat) (x : Nat) (v : Nat) (s : State) : Host.Outcome State Fault Refusal :=
  runCmd (Instr.wellFormed (.assemble f x v)) (fun d => d.setCtrlWrite f x v) s

/-- KEY (R252). -/
def execKey (f : Nat) (x : Nat) (v : Nat) (s : State) : Host.Outcome State Fault Refusal :=
  runCmd (Instr.wellFormed (.key f x v)) (fun d => d.keyWrite f x 15 v) s

/-- MAGAZINE_LINK_UP (R241). -/
def execMagazineLinkUp (n : Nat) (width : Nat) (gen : Nat) (drive : Option Drive) (fails : Nat)
    (s : State) : Host.Outcome State Fault Refusal :=
  runCmd (Instr.wellFormed (.magazineLinkUp n width gen drive fails)) (fun d => d.magLinkUp n width gen drive fails) s

/-- MAG_COMMAND_TIMEOUT (R242). -/
def execMagCommandTimeout (n : Nat) (reset : Bool) (s : State) : Host.Outcome State Fault Refusal :=
  runCmd (Instr.wellFormed (.magCommandTimeout n reset)) (fun d => d.magTimeout n reset) s

/-- MAG_FAILED (R242). -/
def execMagFailed (n : Nat) (link : Bool) (s : State) : Host.Outcome State Fault Refusal :=
  runCmd (Instr.wellFormed (.magFailed n link)) (fun d => d.magFails n link) s

/-- MAG_MEDIA_ERROR (R242). -/
def execMagMediaError (n : Nat) (lba : Nat) (s : State) : Host.Outcome State Fault Refusal :=
  runCmd (Instr.wellFormed (.magMediaError n lba)) (fun d => d.magMediaError n lba) s

/-- REBUILD_DONE (R251). -/
def execRebuildDone (x : Nat) (s : State) : Host.Outcome State Fault Refusal :=
  runQuiet (Instr.wellFormed (.rebuildDone x)) (fun d => d.rebuildDone x) s

/-- FLT_REBUILD (R249). -/
def execFltRebuild (x : Nat) (s : State) : Host.Outcome State Fault Refusal :=
  runCmd (Instr.wellFormed (.fltRebuild x)) (fun d => (d.fltRebuild x).retireAll) s

end Sys2Proof.Machine
end

