-- ==== Sys2Proof/Machine/ExecPosition.lean ====
section
/-! DEFINITION. ExecPosition: the meanings of the commands of this family, one definition each, over the operations of Position. -/

namespace Sys2Proof.Machine

/-- PRESET (R370). -/
def execPreset (f : Nat) (n : Nat) (v : Nat) (s : State) : Host.Outcome State Fault Refusal :=
  runCmd (Instr.wellFormed (.preset f n v)) (fun d => d.presetWrite f n v) s

/-- Z_ARM (R370). -/
def execZArm (f : Nat) (n : Nat) (v : Nat) (s : State) : Host.Outcome State Fault Refusal :=
  runCmd (Instr.wellFormed (.zArm f n v)) (fun d => d.presetWrite f n v) s

/-- CMP_PAIR_WRITE (R373). -/
def execCmpPairWrite (f : Nat) (u : Nat) (k : Nat) (v : Nat) (s : State) : Host.Outcome State Fault Refusal :=
  runCmd (Instr.wellFormed (.cmpPairWrite f u k v)) (fun d => d.cmpWrite f u k v) s

/-- QUADRATURE_EDGE (R367). -/
def execQuadratureEdge (n : Nat) (t : Nat) (a : Bool) (b : Bool) (s : State) : Host.Outcome State Fault Refusal :=
  runCmd (Instr.wellFormed (.quadratureEdge n t a b)) (fun d => d.quadEdge n t a b) s

/-- HALL_EDGE (R368). -/
def execHallEdge (n : Nat) (t : Nat) (u : Bool) (v : Bool) (w : Bool)
    (s : State) : Host.Outcome State Fault Refusal :=
  runCmd (Instr.wellFormed (.hallEdge n t u v w)) (fun d => d.hallEdge n t u v w) s

/-- SSI_FRAME (R369). -/
def execSsiFrame (n : Nat) (low : Bool) (v : Nat) (s : State) : Host.Outcome State Fault Refusal :=
  runCmd (Instr.wellFormed (.ssiFrame n low v)) (fun d => d.ssiFrame n low v) s

/-- INDEX_EDGE (R370). -/
def execIndexEdge (n : Nat) (s : State) : Host.Outcome State Fault Refusal :=
  runCmd (Instr.wellFormed (.indexEdge n)) (fun d => d.indexEdge n) s

/-- ZERO_SPEED (R371). -/
def execZeroSpeed (n : Nat) (s : State) : Host.Outcome State Fault Refusal :=
  runCmd (Instr.wellFormed (.zeroSpeed n)) (fun d => d.zeroSpeed n) s

/-- POSITION_SNAPSHOT (R372). -/
def execPositionSnapshot (n : Nat) (s : State) : Host.Outcome State Fault Refusal :=
  runCmd (Instr.wellFormed (.positionSnapshot n)) (fun d => d.positionSnapshot n) s

/-- POSITION_LATCH (R372). -/
def execPositionLatch (h : Nat) (cid : Nat) (n : Nat) (s : State) : Host.Outcome State Fault Refusal :=
  runCmd (Instr.wellFormed (.positionLatch h cid n)) (fun d => d.positionLatch h cid n) s

/-- SYNTH_STEP (R375). -/
def execSynthStep (n : Nat) (s : State) : Host.Outcome State Fault Refusal :=
  runCmd (Instr.wellFormed (.synthStep n)) (fun d => d.synthStep n) s

/-- PULSE_END (R374). -/
def execPulseEnd (u : Nat) (s : State) : Host.Outcome State Fault Refusal :=
  runCmd (Instr.wellFormed (.pulseEnd u)) (fun d => d.pulseEnd u) s

end Sys2Proof.Machine
end

