-- ==== Sys2Proof/Machine/ExecPower.lean ====
section
/-! DEFINITION. ExecPower: the meanings of the commands of this family, one definition each, over the operations of Power. -/

namespace Sys2Proof.Machine

/-- GRP_MAX (R379). -/
def execGrpMax (f : Nat) (k : Nat) (v : Nat) (s : State) : Host.Outcome State Fault Refusal :=
  runCmd (Instr.wellFormed (.grpMax f k v)) (fun d => d.grpMaxWrite f k v) s

/-- GROUP_IDLE (R380). -/
def execGroupIdle (g : Nat) (timers : List (Nat × Nat)) (s : State) : Host.Outcome State Fault Refusal :=
  runCmd (Instr.wellFormed (.groupIdle g timers)) (fun d => d.groupIdle g timers) s

/-- CALENDAR_ENTRY_DUE (R381). -/
def execCalendarEntryDue (g : Nat) (timers : List (Nat × Nat)) (s : State) : Host.Outcome State Fault Refusal :=
  runCmd (Instr.wellFormed (.calendarEntryDue g timers)) (fun d => d.calendarDue g timers) s

/-- KEEP_ENTRY (R383). -/
def execKeepEntry (timers : List (Nat × Nat)) (s : State) : Host.Outcome State Fault Refusal :=
  runCmd (Instr.wellFormed (.keepEntry timers)) (fun d => d.keepEntry timers) s

/-- KEEP_WAKE (R384). -/
def execKeepWake (reason : Nat) (s : State) : Host.Outcome State Fault Refusal :=
  runCmd (Instr.wellFormed (.keepWake reason)) (fun d => d.keepWake reason) s

/-- POWER_STATE_ENTRY_END (R315). -/
def execPowerStateEntryEnd (g : Nat) (s : State) : Host.Outcome State Fault Refusal :=
  runCmd (Instr.wellFormed (.powerStateEntryEnd g)) (fun d => d.entryDone g) s

/-- POWER_STATE_EXIT_END (R385). -/
def execPowerStateExitEnd (g : Nat) (s : State) : Host.Outcome State Fault Refusal :=
  runCmd (Instr.wellFormed (.powerStateExitEnd g)) (fun d => d.exitEnd g) s

end Sys2Proof.Machine
end

