-- ==== Sys2Proof/Machine/ExecQueues.lean ====
section
/-! DEFINITION. ExecQueues: the meanings of the commands of this family, one definition each, over the operations of Queues. -/

namespace Sys2Proof.Machine

/-- QUEUE_CREATE (R304). -/
def execQueueCreate (p : Nat) (asn : Nat) (hv : HostView) (s : State) : Host.Outcome State Fault Refusal :=
  runQuiet (Instr.wellFormed (.queueCreate p asn hv)) (fun d => (d.see hv).start p asn 0x01 Dev.queueCreate) s

/-- QUEUE_DELETE (R304). -/
def execQueueDelete (p : Nat) (asn : Nat) (hv : HostView) (s : State) : Host.Outcome State Fault Refusal :=
  runQuiet (Instr.wellFormed (.queueDelete p asn hv)) (fun d => (d.see hv).start p asn 0x02 Dev.queueDelete) s

/-- FEATURE_SET (R316). -/
def execFeatureSet (p : Nat) (asn : Nat) (hv : HostView) (s : State) : Host.Outcome State Fault Refusal :=
  runQuiet (Instr.wellFormed (.featureSet p asn hv)) (fun d => (d.see hv).start p asn 0x05 Dev.featureSet) s

/-- FEATURE_GET (R316). -/
def execFeatureGet (p : Nat) (asn : Nat) (hv : HostView) (s : State) : Host.Outcome State Fault Refusal :=
  runQuiet (Instr.wellFormed (.featureGet p asn hv)) (fun d => (d.see hv).start p asn 0x06 Dev.featureGet) s

/-- EVENT_RING_SET (R316). -/
def execEventRingSet (p : Nat) (asn : Nat) (hv : HostView) (s : State) : Host.Outcome State Fault Refusal :=
  runQuiet (Instr.wellFormed (.eventRingSet p asn hv)) (fun d => (d.see hv).start p asn 0x0C Dev.ringSet) s

/-- EVENT_RING_DELETE (R316). -/
def execEventRingDelete (p : Nat) (asn : Nat) (hv : HostView) (s : State) : Host.Outcome State Fault Refusal :=
  runQuiet (Instr.wellFormed (.eventRingDelete p asn hv)) (fun d => (d.see hv).start p asn 0x0C Dev.ringDelete) s

/-- COMMAND_FETCH (R309). -/
def execCommandFetch (p : Nat) (q : Nat) (hv : HostView) (s : State) : Host.Outcome State Fault Refusal :=
  runCmd (Instr.wellFormed (.commandFetch p q hv)) (fun d => (d.see hv).fetch p q) s

/-- CQ_COALESCE_TIMEOUT (R308). -/
def execCqCoalesceTimeout (p : Nat) (q : Nat) (s : State) : Host.Outcome State Fault Refusal :=
  runCmd (Instr.wellFormed (.cqCoalesceTimeout p q)) (fun d => d.cqTimeout p q) s

/-- SQ_TAIL (R306), of `n` bytes (R30). -/
def execSqTail (f : Nat) (q : Nat) (v : Nat) (s : State) (n : Nat := 4) : Host.Outcome State Fault Refusal :=
  runCmd (Instr.wellFormed (.sqTail f q v n)) (fun d => d.sized f n fun d => d.sqTail f q v) s

/-- CQ_HEAD (R306), of `n` bytes (R30). -/
def execCqHead (f : Nat) (q : Nat) (v : Nat) (s : State) (n : Nat := 4) : Host.Outcome State Fault Refusal :=
  runCmd (Instr.wellFormed (.cqHead f q v n)) (fun d => d.sized f n fun d => d.cqHead f q v) s

/-- EVT_HEAD (R306), of `n` bytes (R30). -/
def execEvtHead (f : Nat) (v : Nat) (s : State) (n : Nat := 4) : Host.Outcome State Fault Refusal :=
  runCmd (Instr.wellFormed (.evtHead f v n)) (fun d => d.sized f n fun d => d.evtHead f v) s

/-- AST_HEAD (R306), of `n` bytes (R30). -/
def execAstHead (f : Nat) (v : Nat) (s : State) (n : Nat := 4) : Host.Outcome State Fault Refusal :=
  runCmd (Instr.wellFormed (.astHead f v n)) (fun d => d.sized f n fun d => d.astHead f v) s

/-- HIF_ENABLE (R303). -/
def execHifEnable (f : Nat) (n : Nat) (v : Nat) (s : State) : Host.Outcome State Fault Refusal :=
  runCmd (Instr.wellFormed (.hifEnable f n v)) (fun d => d.hifEnable f n v) s

/-- EVENT_SUMMARY_POST (R345). -/
def execEventSummaryPost (p : Nat) (s : State) : Host.Outcome State Fault Refusal :=
  runCmd (Instr.wellFormed (.eventSummaryPost p)) (fun d => d.summaryPost p) s

/-- SYSLOG_SEND_TIMEOUT (R346). -/
def execSyslogSendTimeout (s : State) : Host.Outcome State Fault Refusal :=
  runQuiet (Instr.wellFormed (.syslogSendTimeout)) (fun d => d.syslogTimeout) s

end Sys2Proof.Machine
end

