-- ==== Sys2Proof/Machine/Transfer.lean ====
section
/-! DEFINITION. Transfer: the end of a command's data transfer (spec 11 R310, R320). -/

namespace Sys2Proof.Machine

/-- Bytes that a network partition's client sends for a command (R320). -/
def Cmd.inBytes (c : Cmd) : Nat :=
  let op := sf c.entry 8 0 4
  match opcode c.entry with
  | 0x08 | 0x81 | 0x89 => dwAt c.entry 6
  | 0x0A => 32
  | 0x90 => if op ≤ 1 then dwAt c.entry 6 else 0
  | 0x91 => dwAt c.entry 6
  | 0x92 => (frcJob c).inSize
  | 0x98 => replyLen c
  | _ => 0

/-- What the end of a transfer does, by opcode. `luma` is the work of a DECODE's unit (R20). -/
def Dev.moved (d : Dev) (c : Cmd) (luma : Nat) : Dev :=
  match opcode c.entry with
  | 0x03 => d.identifyEnd c
  | 0x04 => d.logReadEnd c
  | 0x08 => d.fwStageEnd c
  | 0x0A => d.partitionKeyEnd c
  | 0x0D => d.returnCaptureEnd c
  | 0x81 => d.writeEnd c
  | 0x82 => d.readEnd c
  | 0x83 => d.frameReadEnd c
  | 0x89 => d.lutLoaded c (d.dataIn c 2 (dwAt c.entry 6))
  | 0x90 => match sf c.entry 8 0 4 with
    | 0 => d.encConfigEnd c
    | 1 => d.encPictureEnd c
    | 2 => d.encCollectEnd c
    | 7 => d.encSinkReadEnd c
    | _ => d
  | 0x91 => match sf c.entry 8 0 2 with
    | 0 => d.decConfigEnd c
    | 1 => d.decDecodeEnd c luma
    | _ => d
  | 0x92 => d.setCmd { c with phase := .running }
  | 0x98 => d.assistReplyEnd c
  | _ => d

/-- DATA_TRANSFER_END: the data of a command that moves has moved, or a range that `hv` names fails, or its client can send no
more. -/
def Dev.transferEnd (d : Dev) (hv : HostView) (p asn luma : Nat) : Dev :=
  let d := d.see hv
  match d.cmd? p asn with
  | none => d
  | some c => if c.phase = .moving ∧ (c.received c.inBytes || d.cut c) = true then d.moved c luma else d

/-- Does an accepted command of a queue pair still wait for data of its client (R321)? -/
def Cmd.owed (c : Cmd) (p q : Nat) : Bool := c.part = p && c.queue = q && !c.gone && c.rx.length < c.inBytes

/-- A command that waits for data its client will not send completes with XFER_ERROR (R321). -/
def Dev.starve (d : Dev) (c : Cmd) : Dev :=
  match (List.range 4).find? fun n => d.engine? n = some (.job c.part c.asn) with
  | some n => d.frcEnd n c .XFER_ERROR 0
  | none => if c.phase = .moving ∧ opcode c.entry ≠ 0x92 then d.moved c 0 else d.complete c .XFER_ERROR

/-- RESPONSE_HOLD_EXPIRY: commands that wait for data complete with XFER_ERROR, and what the session still owes goes to
the Orphan Completion log (R321). -/
def Dev.holdExpiry (d : Dev) (id : Nat) : Dev :=
  match d.session? id with
  | none => d
  | some s =>
    if s.state ≠ .hold then d
    else
      let d := d.dropSession id 4
      (d.hst.cmds.map (·.2)).foldl (fun d c => if c.owed s.part s.queue then d.starve c else d) d

end Sys2Proof.Machine
end

