-- ==== Sys2Proof/Machine/ExecRct.lean ====
section
/-! DEFINITION. ExecRct: the meanings of the commands of this family, one definition each, over the operations of Rct. -/

namespace Sys2Proof.Machine

/-- OPEN_REQ (R318). -/
def execOpenReq (port : Nat) (addr : Nat) (b : List Byte) (s : State) : Host.Outcome State Fault Refusal :=
  runCmd (Instr.wellFormed (.openReq port addr b)) (fun d => (d.work [Pg.NET (2 * port)]).openReq port addr b) s

/-- OPEN_PROVE (R318). -/
def execOpenProve (port : Nat) (addr : Nat) (b : List Byte) (s : State) : Host.Outcome State Fault Refusal :=
  runCmd (Instr.wellFormed (.openProve port addr b)) (fun d => (d.work [Pg.NET (2 * port)]).openProve port addr b) s

/-- CHALLENGE_EXPIRY (R318). -/
def execChallengeExpiry (id : Nat) (s : State) : Host.Outcome State Fault Refusal :=
  runQuiet (Instr.wellFormed (.challengeExpiry id)) (fun d => d.challengeExpiry id) s

/-- RCT_COMMAND (R319). -/
def execRctCommand (port : Nat) (b : List Byte) (s : State) : Host.Outcome State Fault Refusal :=
  runCmd (Instr.wellFormed (.rctCommand port b)) (fun d => (d.work [Pg.NET (2 * port)]).rctCommand port b) s

/-- RCT_DATA (R320). -/
def execRctData (port : Nat) (b : List Byte) (s : State) : Host.Outcome State Fault Refusal :=
  runCmd (Instr.wellFormed (.rctData port b)) (fun d => (d.work [Pg.NET (2 * port)]).rctData port b) s

/-- RCT_ACK (R319). -/
def execRctAck (port : Nat) (b : List Byte) (s : State) : Host.Outcome State Fault Refusal :=
  runCmd (Instr.wellFormed (.rctAck port b)) (fun d => (d.work [Pg.NET (2 * port)]).rctAck port b) s

/-- RCT_CLOSE (R321). -/
def execRctClose (port : Nat) (b : List Byte) (s : State) : Host.Outcome State Fault Refusal :=
  runCmd (Instr.wellFormed (.rctClose port b)) (fun d => (d.work [Pg.NET (2 * port)]).rctClose port b) s

/-- RCT_RTO (R319). -/
def execRctRto (id : Nat) (seq : Nat) (s : State) : Host.Outcome State Fault Refusal :=
  runCmd (Instr.wellFormed (.rctRto id seq)) (fun d => d.rctRto id seq) s

/-- SESSION_TIMEOUT (R319). -/
def execSessionTimeout (id : Nat) (s : State) : Host.Outcome State Fault Refusal :=
  runQuiet (Instr.wellFormed (.sessionTimeout id)) (fun d => d.sessionTimeout id) s

/-- RESPONSE_HOLD_EXPIRY (R321). -/
def execResponseHoldExpiry (id : Nat) (s : State) : Host.Outcome State Fault Refusal :=
  runQuiet (Instr.wellFormed (.responseHoldExpiry id)) (fun d => d.holdExpiry id) s

/-- RCT_KEEPALIVE (R319). -/
def execRctKeepalive (id : Nat) (s : State) : Host.Outcome State Fault Refusal :=
  runCmd (Instr.wellFormed (.rctKeepalive id)) (fun d => d.rctKeepalive id) s

end Sys2Proof.Machine
end

