-- ==== Sys2Proof/Machine/ExecRecording.lean ====
section
/-! DEFINITION. ExecRecording: the meanings of the commands of this family, one definition each, over the operations of Recording. -/

namespace Sys2Proof.Machine

/-- FRAME_READ (R239). -/
def execFrameRead (p : Nat) (asn : Nat) (hv : HostView) (s : State) : Host.Outcome State Fault Refusal :=
  runQuiet (Instr.wellFormed (.frameRead p asn hv)) (fun d => (d.see hv).start p asn 0x83 Dev.frameRead) s

/-- TAKE_OPEN (R233). -/
def execTakeOpen (p : Nat) (asn : Nat) (hv : HostView) (s : State) : Host.Outcome State Fault Refusal :=
  runQuiet (Instr.wellFormed (.takeOpen p asn hv)) (fun d => (d.see hv).start p asn 0x84 Dev.takeOpen) s

/-- TAKE_CLOSE (R237). -/
def execTakeClose (p : Nat) (asn : Nat) (hv : HostView) (s : State) : Host.Outcome State Fault Refusal :=
  runQuiet (Instr.wellFormed (.takeClose p asn hv)) (fun d => (d.see hv).start p asn 0x85 Dev.takeClose) s

/-- TAKE_ERASE (R237). -/
def execTakeErase (p : Nat) (asn : Nat) (hv : HostView) (s : State) : Host.Outcome State Fault Refusal :=
  runQuiet (Instr.wellFormed (.takeErase p asn hv)) (fun d => (d.see hv).start p asn 0x85 Dev.takeErase) s

/-- FRC_COMPRESS (R230). -/
def execFrcCompress (p : Nat) (asn : Nat) (hv : HostView) (s : State) : Host.Outcome State Fault Refusal :=
  runQuiet (Instr.wellFormed (.frcCompress p asn hv)) (fun d => (d.see hv).start p asn 0x92 Dev.frcCompress) s

/-- FRC_EXPAND (R231). -/
def execFrcExpand (p : Nat) (asn : Nat) (hv : HostView) (s : State) : Host.Outcome State Fault Refusal :=
  runQuiet (Instr.wellFormed (.frcExpand p asn hv)) (fun d => (d.see hv).start p asn 0x92 Dev.frcExpand) s

/-- FRC_CODING_START (R235). -/
def execFrcCodingStart (n : Nat) (h : Nat) (cid : Nat) (s : State) : Host.Outcome State Fault Refusal :=
  runQuiet (Instr.wellFormed (.frcCodingStart n h cid))
    (fun d => (d.work [Pg.FRC n, Pg.FRQ]).codingStart n (frameKey h cid)) s

/-- FRC_CODING_END (R235). -/
def execFrcCodingEnd (n : Nat) (bad : List Nat) (fault : Bool) (s : State) : Host.Outcome State Fault Refusal :=
  runQuiet (Instr.wellFormed (.frcCodingEnd n bad fault)) (fun d => d.codingEnd n bad fault) s

/-- STRIPE_WRITE (R245). -/
def execStripeWrite (x : Nat) (t : Nat) (s : State) : Host.Outcome State Fault Refusal :=
  runCmd (Instr.wellFormed (.stripeWrite x t)) (fun d => (d.work (d.setPages x)).stripeWrite x t) s

/-- STRIPE_DURABLE (R245). -/
def execStripeDurable (x : Nat) (t : Nat) (s : State) : Host.Outcome State Fault Refusal :=
  runCmd (Instr.wellFormed (.stripeDurable x t)) (fun d => (d.stripeDurable x t).retireAll) s

/-- FRC_JOB_START (R232). -/
def execFrcJobStart (n : Nat) (p : Nat) (asn : Nat) (s : State) : Host.Outcome State Fault Refusal :=
  runQuiet (Instr.wellFormed (.frcJobStart n p asn)) (fun d => (d.work [Pg.FRC n, Pg.FRQ]).frcJobStart n p asn) s

/-- FRC_JOB_END (R231). -/
def execFrcJobEnd (n : Nat) (bad : List Nat) (fault : Bool) (hv : HostView)
    (s : State) : Host.Outcome State Fault Refusal :=
  runQuiet (Instr.wellFormed (.frcJobEnd n bad fault hv)) (fun d => (d.see hv).frcJobEnd n bad fault) s

end Sys2Proof.Machine
end

