-- ==== Sys2Proof/Machine/ExecRenditions.lean ====
section
/-! DEFINITION. ExecRenditions: the meanings of the commands of this family, one definition each, over the operations of Renditions. -/

namespace Sys2Proof.Machine

/-- LUT_LOAD (R206). -/
def execLutLoad (p : Nat) (asn : Nat) (hv : HostView) (s : State) : Host.Outcome State Fault Refusal :=
  runQuiet (Instr.wellFormed (.lutLoad p asn hv)) (fun d => (d.see hv).start p asn 0x89 Dev.lutLoad) s

/-- LUT_INVALIDATE (R206). -/
def execLutInvalidate (p : Nat) (asn : Nat) (hv : HostView) (s : State) : Host.Outcome State Fault Refusal :=
  runQuiet (Instr.wellFormed (.lutInvalidate p asn hv)) (fun d => (d.see hv).start p asn 0x89 Dev.lutInvalidate) s

/-- DITHER_LOAD (R202). -/
def execDitherLoad (p : Nat) (asn : Nat) (hv : HostView) (s : State) : Host.Outcome State Fault Refusal :=
  runQuiet (Instr.wellFormed (.ditherLoad p asn hv)) (fun d => (d.see hv).start p asn 0x89 Dev.ditherLoad) s

/-- RENDITION_SET (R208). -/
def execRenditionSet (p : Nat) (asn : Nat) (hv : HostView) (s : State) : Host.Outcome State Fault Refusal :=
  runQuiet (Instr.wellFormed (.renditionSet p asn hv)) (fun d => (d.see hv).start p asn 0x8C Dev.renditionSet) s

/-- RENDITION_DELETE (R209). -/
def execRenditionDelete (p : Nat) (asn : Nat) (hv : HostView) (s : State) : Host.Outcome State Fault Refusal :=
  runQuiet (Instr.wellFormed (.renditionDelete p asn hv)) (fun d => (d.see hv).start p asn 0x8C Dev.renditionDelete) s

/-- PETAL_JOB_START (R215). -/
def execPetalJobStart (h : Nat) (cid : Nat) (r : Nat) (first : Bool) (s : State) : Host.Outcome State Fault Refusal :=
  runQuiet (Instr.wellFormed (.petalJobStart h cid r first))
    (fun d => (d.work (d.petalPages r)).petalJobStart (frameKey h cid) r first) s

/-- PETAL_JOB_END (R212). -/
def execPetalJobEnd (h : Nat) (cid : Nat) (r : Nat) (first : Bool) (s : State) : Host.Outcome State Fault Refusal :=
  runQuiet (Instr.wellFormed (.petalJobEnd h cid r first)) (fun d => d.petalJobEnd (frameKey h cid) r first) s

end Sys2Proof.Machine
end

