-- ==== Sys2Proof/Machine/ExecResets.lean ====
section
/-! DEFINITION. ExecResets: the meanings of the commands of this family, one definition each, over the operations of Resets. -/

namespace Sys2Proof.Machine

/-- RST_CTRL_DEV (R336). -/
def execRstCtrlDev (f : Nat) (v : Nat) (s : State) : Host.Outcome State Fault Refusal :=
  runCmd (Instr.wellFormed (.rstCtrlDev f v)) (fun d => d.rstCtrl f v) s

/-- FUNCTION_LEVEL_RESET (R299). -/
def execFunctionLevelReset (f : Nat) (s : State) : Host.Outcome State Fault Refusal :=
  runCmd (Instr.wellFormed (.functionLevelReset f)) (fun d => d.flr f) s

/-- SHUTDOWN (R338). -/
def execShutdown (crc : Nat) (ms : Nat) (s : State) : Host.Outcome State Fault Refusal :=
  runAlways (Instr.wellFormed (.shutdown crc ms)) (fun d => d.shutdown crc ms) s

/-- PWR_OK_RISE (R404). -/
def execPwrOkRise (sel : Nat) (perst : Bool) (s : State) (damaged : Bool := false) (repaired : Bool := false) : Host.Outcome State Fault Refusal :=
  runAlways (Instr.wellFormed (.pwrOkRise sel perst damaged repaired)) (fun d => d.powerOn sel perst damaged repaired) s

/-- PERST_N_DEASSERT (R403). -/
def execPerstNDeassert (sel : Nat) (s : State) : Host.Outcome State Fault Refusal :=
  runAlways (Instr.wellFormed (.perstNDeassert sel)) (fun d => d.perstHigh sel) s

/-- PERST_N (R336). -/
def execPerstN (s : State) : Host.Outcome State Fault Refusal :=
  runAlways (Instr.wellFormed (.perstN)) (fun d => d.perstLow) s

/-- PCIE_HOT_RESET (R336). -/
def execPcieHotReset (s : State) : Host.Outcome State Fault Refusal :=
  runCmd (Instr.wellFormed (.pcieHotReset)) (fun d => d.hotReset) s

/-- PWRFAIL_N (R338). -/
def execPwrfailN (s : State) : Host.Outcome State Fault Refusal :=
  runAlways (Instr.wellFormed (.pwrfailN)) (fun d => d.powerFails) s

/-- PWR_OK_FALL (R402). -/
def execPwrOkFall (s : State) : Host.Outcome State Fault Refusal :=
  runAlways (Instr.wellFormed (.pwrOkFall)) (fun d => d.powerOff false) s

/-- BROWN_OUT (R402). -/
def execBrownOut (s : State) : Host.Outcome State Fault Refusal :=
  runAlways (Instr.wellFormed (.brownOut)) (fun d => d.powerOff true) s

/-- PWRFAIL_N_DEASSERT (R338). -/
def execPwrfailNDeassert (s : State) : Host.Outcome State Fault Refusal :=
  runAlways (Instr.wellFormed (.pwrfailNDeassert)) (fun d => d.powerFailEnds) s

end Sys2Proof.Machine
end

