-- ==== Sys2Proof/Machine/ExecStoreSpace.lean ====
section
/-! DEFINITION. ExecStoreSpace: the meanings of the commands of this family, one definition each, over the operations of StoreSpace. -/

namespace Sys2Proof.Machine

/-- FLUSH (R313). -/
def execFlush (p : Nat) (asn : Nat) (hv : HostView) (s : State) : Host.Outcome State Fault Refusal :=
  runQuiet (Instr.wellFormed (.flush p asn hv)) (fun d => (d.see hv).start p asn 0x80 Dev.flushCmd) s

/-- WRITE (R310). -/
def execWrite (p : Nat) (asn : Nat) (hv : HostView) (s : State) : Host.Outcome State Fault Refusal :=
  runQuiet (Instr.wellFormed (.write p asn hv)) (fun d => (d.see hv).start p asn 0x81 Dev.writeCmd) s

/-- READ (R310). -/
def execRead (p : Nat) (asn : Nat) (hv : HostView) (s : State) : Host.Outcome State Fault Refusal :=
  runQuiet (Instr.wellFormed (.read p asn hv)) (fun d => (d.see hv).start p asn 0x82 Dev.readCmd) s

/-- BAR2_ACCESS (R26). -/
def execBar2Access (f : Nat) (off : Nat) (write : Option (List (Option Byte))) (n : Nat)
    (s : State) : Host.Outcome State Fault Refusal :=
  runCmd (Instr.wellFormed (.bar2Access f off write n)) (fun d => d.bar2 f off write n) s

end Sys2Proof.Machine
end

