-- ==== Sys2Proof/Machine/ExecThermal.lean ====
section
/-! DEFINITION. ExecThermal: the meanings of the commands of this family, one definition each, over the operations of Thermal. -/

namespace Sys2Proof.Machine

/-- TJ_FAIL (R388). -/
def execTjFail (f : Nat) (v : Nat) (s : State) : Host.Outcome State Fault Refusal :=
  runCmd (Instr.wellFormed (.tjFail f v)) (fun d => d.tjFailWrite f v) s

/-- SENSOR_SAMPLE (R386). -/
def execSensorSample (raw : List (Option Int)) (s : State) : Host.Outcome State Fault Refusal :=
  runCmd (Instr.wellFormed (.sensorSample raw)) (fun d => d.sensorSample raw) s

/-- THROTTLE_STEP (R391). -/
def execThrottleStep (g : Nat) (s : State) : Host.Outcome State Fault Refusal :=
  runCmd (Instr.wellFormed (.throttleStep g)) (fun d => d.throttleStep g) s

/-- SHED_STEP (R392). -/
def execShedStep (s : State) : Host.Outcome State Fault Refusal :=
  runCmd (Instr.wellFormed (.shedStep)) (fun d => d.shedStep) s

end Sys2Proof.Machine
end

