-- ==== Sys2Proof/Machine/ExecTransfer.lean ====
section
/-! DEFINITION. ExecTransfer: the meanings of the commands of this family, one definition each, over the operations of Transfer. -/

namespace Sys2Proof.Machine

/-- DATA_TRANSFER_END (R310). -/
def execDataTransferEnd (p : Nat) (asn : Nat) (hv : HostView) (luma : Nat)
    (s : State) : Host.Outcome State Fault Refusal :=
  runQuiet (Instr.wellFormed (.dataTransferEnd p asn hv luma)) (fun d => d.transferEnd hv p asn luma) s

end Sys2Proof.Machine
end

