-- ==== Sys2Proof/Machine/Dispatch.lean ====
section
/-! DEFINITION. Dispatch: one arm per command. -/

namespace Sys2Proof.Machine

def exec (i : Instr) (s : State) : Host.Outcome State Fault Refusal :=
  match i with
  | .queueCreate p asn hv => Sys2Proof.Machine.execQueueCreate p asn hv s
  | .queueDelete p asn hv => Sys2Proof.Machine.execQueueDelete p asn hv s
  | .identify p asn hv => Sys2Proof.Machine.execIdentify p asn hv s
  | .logRead p asn hv => Sys2Proof.Machine.execLogRead p asn hv s
  | .featureSet p asn hv => Sys2Proof.Machine.execFeatureSet p asn hv s
  | .featureGet p asn hv => Sys2Proof.Machine.execFeatureGet p asn hv s
  | .fwStage p asn hv => Sys2Proof.Machine.execFwStage p asn hv s
  | .fwActivate p asn hv => Sys2Proof.Machine.execFwActivate p asn hv s
  | .partitionConfig p asn hv => Sys2Proof.Machine.execPartitionConfig p asn hv s
  | .partitionSetKey p asn hv => Sys2Proof.Machine.execPartitionSetKey p asn hv s
  | .partitionReset p asn hv => Sys2Proof.Machine.execPartitionReset p asn hv s
  | .resourceAssign p asn hv => Sys2Proof.Machine.execResourceAssign p asn hv s
  | .eventRingSet p asn hv => Sys2Proof.Machine.execEventRingSet p asn hv s
  | .eventRingDelete p asn hv => Sys2Proof.Machine.execEventRingDelete p asn hv s
  | .returnCapture p asn hv => Sys2Proof.Machine.execReturnCapture p asn hv s
  | .abort p asn hv => Sys2Proof.Machine.execAbort p asn hv s
  | .flush p asn hv => Sys2Proof.Machine.execFlush p asn hv s
  | .write p asn hv => Sys2Proof.Machine.execWrite p asn hv s
  | .read p asn hv => Sys2Proof.Machine.execRead p asn hv s
  | .frameRead p asn hv => Sys2Proof.Machine.execFrameRead p asn hv s
  | .takeOpen p asn hv => Sys2Proof.Machine.execTakeOpen p asn hv s
  | .takeClose p asn hv => Sys2Proof.Machine.execTakeClose p asn hv s
  | .takeErase p asn hv => Sys2Proof.Machine.execTakeErase p asn hv s
  | .quireSeal p asn hv => Sys2Proof.Machine.execQuireSeal p asn hv s
  | .lutLoad p asn hv => Sys2Proof.Machine.execLutLoad p asn hv s
  | .lutInvalidate p asn hv => Sys2Proof.Machine.execLutInvalidate p asn hv s
  | .ditherLoad p asn hv => Sys2Proof.Machine.execDitherLoad p asn hv s
  | .contextBind p asn hv => Sys2Proof.Machine.execContextBind p asn hv s
  | .contextUnbind p asn hv => Sys2Proof.Machine.execContextUnbind p asn hv s
  | .tapArm p asn hv => Sys2Proof.Machine.execTapArm p asn hv s
  | .tapDisarm p asn hv => Sys2Proof.Machine.execTapDisarm p asn hv s
  | .renditionSet p asn hv => Sys2Proof.Machine.execRenditionSet p asn hv s
  | .renditionDelete p asn hv => Sys2Proof.Machine.execRenditionDelete p asn hv s
  | .encConfig p asn hv => Sys2Proof.Machine.execEncConfig p asn hv s
  | .encPicture p asn hv => Sys2Proof.Machine.execEncPicture p asn hv s
  | .encCollect p asn hv => Sys2Proof.Machine.execEncCollect p asn hv s
  | .encForceIrap p asn hv => Sys2Proof.Machine.execEncForceIrap p asn hv s
  | .encEnd p asn hv => Sys2Proof.Machine.execEncEnd p asn hv s
  | .encRelease p asn hv => Sys2Proof.Machine.execEncRelease p asn hv s
  | .encLtr p asn hv => Sys2Proof.Machine.execEncLtr p asn hv s
  | .encSinkRead p asn hv => Sys2Proof.Machine.execEncSinkRead p asn hv s
  | .decConfig p asn hv => Sys2Proof.Machine.execDecConfig p asn hv s
  | .decDecode p asn hv => Sys2Proof.Machine.execDecDecode p asn hv s
  | .decDrain p asn hv => Sys2Proof.Machine.execDecDrain p asn hv s
  | .decRelease p asn hv => Sys2Proof.Machine.execDecRelease p asn hv s
  | .frcCompress p asn hv => Sys2Proof.Machine.execFrcCompress p asn hv s
  | .frcExpand p asn hv => Sys2Proof.Machine.execFrcExpand p asn hv s
  | .assistReply p asn hv => Sys2Proof.Machine.execAssistReply p asn hv s
  | .commandFetch p q hv => Sys2Proof.Machine.execCommandFetch p q hv s
  | .cqCoalesceTimeout p q => Sys2Proof.Machine.execCqCoalesceTimeout p q s
  | .sqTail f q v n => Sys2Proof.Machine.execSqTail f q v s n
  | .cqHead f q v n => Sys2Proof.Machine.execCqHead f q v s n
  | .evtHead f v n => Sys2Proof.Machine.execEvtHead f v s n
  | .astHead f v n => Sys2Proof.Machine.execAstHead f v s n
  | .registerWrite f pg o v n => Sys2Proof.Machine.execRegisterWrite f pg o v s n
  | .bar2Access f off write n => Sys2Proof.Machine.execBar2Access f off write n s
  | .lowDwRead f pg o n => Sys2Proof.Machine.execLowDwRead f pg o s n
  | .rcRead f pg o n => Sys2Proof.Machine.execRcRead f pg o s n
  | .fenceRead f pg => Sys2Proof.Machine.execFenceRead f pg s
  | .barrier f => Sys2Proof.Machine.execBarrier f s
  | .pageCtrlEn f pg v => Sys2Proof.Machine.execPageCtrlEn f pg v s
  | .pageDrained pg => Sys2Proof.Machine.execPageDrained pg s
  | .softRst f pg v => Sys2Proof.Machine.execSoftRst f pg v s
  | .pageCtrlMode f pg v => Sys2Proof.Machine.execPageCtrlMode f pg v s
  | .pageOwner f pg v => Sys2Proof.Machine.execPageOwner f pg v s
  | .intSet f pg v => Sys2Proof.Machine.execIntSet f pg v s
  | .rstCtrlDev f v => Sys2Proof.Machine.execRstCtrlDev f v s
  | .hbmRetire f st v => Sys2Proof.Machine.execHbmRetire f st v s
  | .grpCtrlEn f g v => Sys2Proof.Machine.execGrpCtrlEn f g v s
  | .mapReset f g v => Sys2Proof.Machine.execMapReset f g v s
  | .vcmapWrite f g vc v => Sys2Proof.Machine.execVcmapWrite f g vc v s
  | .vcmapUnbind f g vc v => Sys2Proof.Machine.execVcmapUnbind f g vc v s
  | .loopback f lane v => Sys2Proof.Machine.execLoopback f lane v s
  | .farEndLoopback f lane v => Sys2Proof.Machine.execFarEndLoopback f lane v s
  | .create f x v => Sys2Proof.Machine.execCreate f x v s
  | .assemble f x v => Sys2Proof.Machine.execAssemble f x v s
  | .key f x v => Sys2Proof.Machine.execKey f x v s
  | .dspCommit f n v => Sys2Proof.Machine.execDspCommit f n v s
  | .auxGo f n v => Sys2Proof.Machine.execAuxGo f n v s
  | .flowEnable f w v => Sys2Proof.Machine.execFlowEnable f w v s
  | .incr f hi v => Sys2Proof.Machine.execIncr f hi v s
  | .step f v => Sys2Proof.Machine.execStep f v s
  | .arm f v => Sys2Proof.Machine.execArm f v s
  | .nowNsRead f => Sys2Proof.Machine.execNowNsRead f s
  | .setGo f n v => Sys2Proof.Machine.execSetGo f n v s
  | .adjGo f n v => Sys2Proof.Machine.execAdjGo f n v s
  | .rxPop f n v => Sys2Proof.Machine.execRxPop f n v s
  | .txGo f n v => Sys2Proof.Machine.execTxGo f n v s
  | .tsPop f n v => Sys2Proof.Machine.execTsPop f n v s
  | .preset f n v => Sys2Proof.Machine.execPreset f n v s
  | .zArm f n v => Sys2Proof.Machine.execZArm f n v s
  | .cmpPairWrite f u k v => Sys2Proof.Machine.execCmpPairWrite f u k v s
  | .lock f v => Sys2Proof.Machine.execLock f v s
  | .xspCommit f v => Sys2Proof.Machine.execXspCommit f v s
  | .i2cTransfer f n v => Sys2Proof.Machine.execI2cTransfer f n v s
  | .i2cTransferEnd n result count data => Sys2Proof.Machine.execI2cTransferEnd n result count data s
  | .txData f v => Sys2Proof.Machine.execTxData f v s
  | .rxData f => Sys2Proof.Machine.execRxData f s
  | .uartReceive b framing => Sys2Proof.Machine.execUartReceive b framing s
  | .bootGo f v => Sys2Proof.Machine.execBootGo f v s
  | .grpMax f k v => Sys2Proof.Machine.execGrpMax f k v s
  | .tjFail f v => Sys2Proof.Machine.execTjFail f v s
  | .hifEnable f n v => Sys2Proof.Machine.execHifEnable f n v s
  | .signalDetect g => Sys2Proof.Machine.execSignalDetect g s
  | .syncLock lane inverted => Sys2Proof.Machine.execSyncLock lane inverted s
  | .syncLoss lane => Sys2Proof.Machine.execSyncLoss lane s
  | .gathering g lines => Sys2Proof.Machine.execGathering g lines s
  | .trainingTimeout g => Sys2Proof.Machine.execTrainingTimeout g s
  | .backoffExpiry g => Sys2Proof.Machine.execBackoffExpiry g s
  | .fhdr g => Sys2Proof.Machine.execFhdr g s
  | .rows g => Sys2Proof.Machine.execRows g s
  | .ftrl g => Sys2Proof.Machine.execFtrl g s
  | .aux g => Sys2Proof.Machine.execAux g s
  | .bindOffer g => Sys2Proof.Machine.execBindOffer g s
  | .bindDone g => Sys2Proof.Machine.execBindDone g s
  | .status g => Sys2Proof.Machine.execStatus g s
  | .spareReady g => Sys2Proof.Machine.execSpareReady g s
  | .teEvent g hv => Sys2Proof.Machine.execTeEvent g hv s
  | .ack g => Sys2Proof.Machine.execAck g s
  | .ackTimeout g => Sys2Proof.Machine.execAckTimeout g s
  | .dreq g => Sys2Proof.Machine.execDreq g s
  | .timeSync g ref => Sys2Proof.Machine.execTimeSync g ref s
  | .laneSpareThresh lane => Sys2Proof.Machine.execLaneSpareThresh lane s
  | .spareReadyTimeout g => Sys2Proof.Machine.execSpareReadyTimeout g s
  | .spareSwitch g => Sys2Proof.Machine.execSpareSwitch g s
  | .spareWait g => Sys2Proof.Machine.execSpareWait g s
  | .rowTimeout h cid => Sys2Proof.Machine.execRowTimeout h cid s
  | .frameTimeout h cid => Sys2Proof.Machine.execFrameTimeout h cid s
  | .complete h cid => Sys2Proof.Machine.execComplete h cid s
  | .admitResend h => Sys2Proof.Machine.execAdmitResend h s
  | .admitStall h => Sys2Proof.Machine.execAdmitStall h s
  | .mipiFrameStart n corrected => Sys2Proof.Machine.execMipiFrameStart n corrected s
  | .mipiLongPacket n payload crcOk corrected => Sys2Proof.Machine.execMipiLongPacket n payload crcOk corrected s
  | .mipiEmbeddedData n payload corrected crcOk => Sys2Proof.Machine.execMipiEmbeddedData n payload corrected s crcOk
  | .mipiFrameEnd n corrected => Sys2Proof.Machine.execMipiFrameEnd n corrected s
  | .sectionPassStart h cid => Sys2Proof.Machine.execSectionPassStart h cid s
  | .respinPassStart h cid member => Sys2Proof.Machine.execRespinPassStart h cid s member
  | .sectionPassEnd h cid respin member => Sys2Proof.Machine.execSectionPassEnd h cid respin s member
  | .sealPoint h cid => Sys2Proof.Machine.execSealPoint h cid s
  | .releaseDeadline h cid => Sys2Proof.Machine.execReleaseDeadline h cid s
  | .echoLimit c id => Sys2Proof.Machine.execEchoLimit c id s
  | .mismatchResend c => Sys2Proof.Machine.execMismatchResend c s
  | .calibrationApply p asn => Sys2Proof.Machine.execCalibrationApply p asn s
  | .assistDeadline part tag => Sys2Proof.Machine.execAssistDeadline part tag s
  | .petalJobStart h cid r first => Sys2Proof.Machine.execPetalJobStart h cid r first s
  | .petalJobEnd h cid r first => Sys2Proof.Machine.execPetalJobEnd h cid r first s
  | .frcCodingStart n h cid => Sys2Proof.Machine.execFrcCodingStart n h cid s
  | .frcCodingEnd n bad fault => Sys2Proof.Machine.execFrcCodingEnd n bad fault s
  | .stripeWrite x t => Sys2Proof.Machine.execStripeWrite x t s
  | .stripeDurable x t => Sys2Proof.Machine.execStripeDurable x t s
  | .magazineLinkUp n width gen drive fails => Sys2Proof.Machine.execMagazineLinkUp n width gen drive fails s
  | .magCommandTimeout n reset => Sys2Proof.Machine.execMagCommandTimeout n reset s
  | .magFailed n link => Sys2Proof.Machine.execMagFailed n link s
  | .magMediaError n lba => Sys2Proof.Machine.execMagMediaError n lba s
  | .rebuildDone x => Sys2Proof.Machine.execRebuildDone x s
  | .fltRebuild x => Sys2Proof.Machine.execFltRebuild x s
  | .encPictureStart n poc qp target hdr hv => Sys2Proof.Machine.execEncPictureStart n poc qp target hdr hv s
  | .encRowEnd n b a fb plan floorRow => Sys2Proof.Machine.execEncRowEnd n b a fb plan s floorRow
  | .encPictureCommit n qp bs hv => Sys2Proof.Machine.execEncPictureCommit n qp bs hv s
  | .decUnitStart g n sequence bad => Sys2Proof.Machine.execDecUnitStart g n sequence bad s
  | .decUnitEnd n pics reorder hv => Sys2Proof.Machine.execDecUnitEnd n pics reorder hv s
  | .decWatchdog g ix done => Sys2Proof.Machine.execDecWatchdog g ix s done
  | .applyPoint n hv => Sys2Proof.Machine.execApplyPoint n s hv
  | .dspFrameStart n hv => Sys2Proof.Machine.execDspFrameStart n hv s
  | .teInput ix => Sys2Proof.Machine.execTeInput ix s
  | .teTimeout n hv => Sys2Proof.Machine.execTeTimeout n hv s
  | .dspUnderrun n l y x => Sys2Proof.Machine.execDspUnderrun n l y x s
  | .hotPlug n present rate lanes adaptive fails => Sys2Proof.Machine.execHotPlug n present rate lanes adaptive fails s
  | .feedLineSend n => Sys2Proof.Machine.execFeedLineSend n s
  | .functionLevelReset f => Sys2Proof.Machine.execFunctionLevelReset f s
  | .vfEnable n => Sys2Proof.Machine.execVfEnable n s
  | .openReq port addr b => Sys2Proof.Machine.execOpenReq port addr b s
  | .openProve port addr b => Sys2Proof.Machine.execOpenProve port addr b s
  | .challengeExpiry id => Sys2Proof.Machine.execChallengeExpiry id s
  | .rctCommand port b => Sys2Proof.Machine.execRctCommand port b s
  | .rctData port b => Sys2Proof.Machine.execRctData port b s
  | .rctAck port b => Sys2Proof.Machine.execRctAck port b s
  | .rctClose port b => Sys2Proof.Machine.execRctClose port b s
  | .rctRto id seq => Sys2Proof.Machine.execRctRto id seq s
  | .sessionTimeout id => Sys2Proof.Machine.execSessionTimeout id s
  | .responseHoldExpiry id => Sys2Proof.Machine.execResponseHoldExpiry id s
  | .rctKeepalive id => Sys2Proof.Machine.execRctKeepalive id s
  | .flowFrameStart w => Sys2Proof.Machine.execFlowFrameStart w s
  | .ethernetLinkDown port ix fcs => Sys2Proof.Machine.execEthernetLinkDown port ix fcs s
  | .shutdown crc ms => Sys2Proof.Machine.execShutdown crc ms s
  | .pwrOkRise sel perst damaged repaired => Sys2Proof.Machine.execPwrOkRise sel perst s damaged repaired
  | .bootSourceTry readOk hv => Sys2Proof.Machine.execBootSourceTry readOk hv s
  | .avsRetry mv ack => Sys2Proof.Machine.execAvsRetry mv ack s
  | .mgmtPairFailure k => Sys2Proof.Machine.execMgmtPairFailure k s
  | .sramError m row pg corrected spare lost unmapped => Sys2Proof.Machine.execSramError m row pg corrected spare lost s unmapped
  | .hbmEccError st row corrected kind a b => Sys2Proof.Machine.execHbmEccError st row corrected kind a b s
  | .mramUncorr rec => Sys2Proof.Machine.execMramUncorr rec s
  | .pllLossOfLock n k => Sys2Proof.Machine.execPllLossOfLock n k s
  | .pllRelock n k => Sys2Proof.Machine.execPllRelock n k s
  | .eventSummaryPost p => Sys2Proof.Machine.execEventSummaryPost p s
  | .cadenceInstant c => Sys2Proof.Machine.execCadenceInstant c s
  | .tlsFrameInstant at_ => Sys2Proof.Machine.execTlsFrameInstant at_ s
  | .tlsHoldover c => Sys2Proof.Machine.execTlsHoldover c s
  | .ptpRx n subif frame => Sys2Proof.Machine.execPtpRx n subif frame s
  | .ptpTxDone n => Sys2Proof.Machine.execPtpTxDone n s
  | .quadratureEdge n t a b => Sys2Proof.Machine.execQuadratureEdge n t a b s
  | .hallEdge n t u v w => Sys2Proof.Machine.execHallEdge n t u v w s
  | .ssiFrame n low v => Sys2Proof.Machine.execSsiFrame n low v s
  | .indexEdge n => Sys2Proof.Machine.execIndexEdge n s
  | .zeroSpeed n => Sys2Proof.Machine.execZeroSpeed n s
  | .positionSnapshot n => Sys2Proof.Machine.execPositionSnapshot n s
  | .positionLatch h cid n => Sys2Proof.Machine.execPositionLatch h cid n s
  | .synthStep n => Sys2Proof.Machine.execSynthStep n s
  | .groupIdle g timers => Sys2Proof.Machine.execGroupIdle g timers s
  | .calendarEntryDue g timers => Sys2Proof.Machine.execCalendarEntryDue g timers s
  | .keepEntry timers => Sys2Proof.Machine.execKeepEntry timers s
  | .keepWake reason => Sys2Proof.Machine.execKeepWake reason s
  | .sensorSample raw => Sys2Proof.Machine.execSensorSample raw s
  | .throttleStep g => Sys2Proof.Machine.execThrottleStep g s
  | .gpioEdge ix high => Sys2Proof.Machine.execGpioEdge ix high s
  | .jtagInstruction k => Sys2Proof.Machine.execJtagInstruction k s
  | .backoffReset g => Sys2Proof.Machine.execBackoffReset g s
  | .prbsLock lane stream => Sys2Proof.Machine.execPrbsLock lane stream s
  | .prbsLockLoss lane stream => Sys2Proof.Machine.execPrbsLockLoss lane stream s
  | .mipiDtSkip n corrected => Sys2Proof.Machine.execMipiDtSkip n s corrected
  | .mipiHeaderError n => Sys2Proof.Machine.execMipiHeaderError n s
  | .dataTransferEnd p asn hv luma => Sys2Proof.Machine.execDataTransferEnd p asn hv luma s
  | .frcJobStart n p asn => Sys2Proof.Machine.execFrcJobStart n p asn s
  | .frcJobEnd n bad fault hv => Sys2Proof.Machine.execFrcJobEnd n bad fault hv s
  | .pixelRowEnd n b e code => Sys2Proof.Machine.execPixelRowEnd n b e s code
  | .auxTransactionEnd n r bs => Sys2Proof.Machine.execAuxTransactionEnd n r bs s
  | .cadenceEn f c v => Sys2Proof.Machine.execCadenceEn f c v s
  | .headCad f h hi v => Sys2Proof.Machine.execHeadCad f h hi v s
  | .pulseEnd u => Sys2Proof.Machine.execPulseEnd u s
  | .perstNDeassert sel => Sys2Proof.Machine.execPerstNDeassert sel s
  | .stackInterfaceLoss st => Sys2Proof.Machine.execStackInterfaceLoss st s
  | .mirrorRestored st => Sys2Proof.Machine.execMirrorRestored st s
  | .spineParityError n third => Sys2Proof.Machine.execSpineParityError n third s
  | .ethernetLinkUp port ix => Sys2Proof.Machine.execEthernetLinkUp port ix s
  | .portInService port => Sys2Proof.Machine.execPortInService port s
  | .avsCommand mv ack => Sys2Proof.Machine.execAvsCommand mv ack s
  | .powerStateEntryEnd g => Sys2Proof.Machine.execPowerStateEntryEnd g s
  | .powerStateExitEnd g => Sys2Proof.Machine.execPowerStateExitEnd g s
  | .armedExpiry => Sys2Proof.Machine.execArmedExpiry s
  | .perstN => Sys2Proof.Machine.execPerstN s
  | .pcieHotReset => Sys2Proof.Machine.execPcieHotReset s
  | .pwrfailN => Sys2Proof.Machine.execPwrfailN s
  | .pwrOkFall => Sys2Proof.Machine.execPwrOkFall s
  | .brownOut => Sys2Proof.Machine.execBrownOut s
  | .hostWaitTimeout => Sys2Proof.Machine.execHostWaitTimeout s
  | .bootBackoff => Sys2Proof.Machine.execBootBackoff s
  | .standbyReady => Sys2Proof.Machine.execStandbyReady s
  | .handover => Sys2Proof.Machine.execHandover s
  | .handoverTimeout => Sys2Proof.Machine.execHandoverTimeout s
  | .ppsOut => Sys2Proof.Machine.execPpsOut s
  | .ppsIn => Sys2Proof.Machine.execPpsIn s
  | .shedStep => Sys2Proof.Machine.execShedStep s
  | .ppsOutFall => Sys2Proof.Machine.execPpsOutFall s
  | .pwrfailNDeassert => Sys2Proof.Machine.execPwrfailNDeassert s
  | .uartCharacterSent => Sys2Proof.Machine.execUartCharacterSent s
  | .syslogSendTimeout => Sys2Proof.Machine.execSyslogSendTimeout s
  | .standbyRestart => Sys2Proof.Machine.execStandbyRestart s

end Sys2Proof.Machine
end

