-- ==== Sys2Proof/Machine/Downstream.lean ====
section
/-! DEFINITION. Downstream: what the part drives on the Head Link lanes: gatherings, packet order, test sequences and near-end
loopback (spec 04 R94 to R101, R113, R114, R122, R123, R125). -/

namespace Sys2Proof.Machine

/-- Priority and words of a message that the device sends on group `g` (R101, R107, R110, R111, R113). -/
def Out.packet (g : Nat) : Out → Option (Nat × List Nat)
  | .time h kind seq ws => if h = g then some (0, (0x9 + ws.length * 2 ^ 8 + kind * 2 ^ 21 + seq % 65536 * 2 ^ 29) :: ws) else none
  | .ack h next => if h = g then some (1, [0xB + next % 65536 * 2 ^ 21]) else none
  | .ctrl h m =>
    if h = g then some (2, (0x8 + m.vc * 2 ^ 4 + m.payload.length * 2 ^ 8 + m.seq % 65536 * 2 ^ 21 + m.msg * 2 ^ 37) :: m.payload)
    else none
  | .retvid h header ws => if h = g then some (3, header :: ws) else none
  | _ => none

/-- The packet that goes next: of the first priority that waits, the oldest (R113). -/
def nextPacket (q : List (Nat × List Nat)) : Option (Nat × List Nat) := (List.range 4).findSome? fun n => q.find? fun e => e.1 = n

/-- The words of a packet area, from the words left of a packet and the packets that wait; IDLE where none waits. Answers the
words, what is left, and the positions from the end at which headers stand. -/
def packetArea : Nat → List Nat → List (Nat × List Nat) → List Nat × List Nat × List (Nat × List Nat) × List Nat
  | 0, cur, q => ([], cur, q, [])
  | n + 1, w :: cur, q =>
    let (ws, r) := packetArea n cur q
    (w :: ws, r)
  | n + 1, [], q =>
    let (cur, q) := match nextPacket q with
      | some e => (e.2, q.erase e)
      | none => ([0], q)
    let (ws, c, q, at_) := packetArea n (cur.drop 1) q
    (cur.getD 0 0 :: ws, c, q, (n + 1) :: at_)

/-- The group gathering header word and packet words of a lane (R98). -/
def laneWords (gseq lanes i first : Nat) (ws : List Nat) : List Nat :=
  (gseq + i * 2 ^ 32 + (lanes - 1) * 2 ^ 36 + first * 2 ^ 40) :: (List.range 253).map fun s => ws.getD (lanes * s + i) 0

/-- Physical lanes that are driven for a logical lane of a group: its own, and both pairs while it is spared (R122). -/
def Dev.pairsOf (d : Dev) (g l : Nat) : List Nat :=
  let pairs := match (d.group g).sparing with
    | some s => if s.lane = l then [s.old, 32 + s.spare] else [d.physOf l]
    | none => [d.physOf l]
  pairs.filter fun p => !d.held (quad p).1

/-- Put line bits on a pin pair; TX_POL inverts them there. -/
def Dev.drive (d : Dev) (phys : Nat) (bs : List Bool) : Dev :=
  d.emit (.line phys (if d.lane phys Reg.HLQ.TX_POL = 1 then bs.map (!·) else bs))

/-- Send one group gathering: KIND TRAIN with IDLE packets up to BOND, KIND DATA from BIND on (R97, R98, R113, R114). -/
def Dev.sendGathering (d : Dev) (g : Nat) : Dev :=
  let x := d.group g
  let data := BIND ≤ d.grpState g
  let q := x.toSend ++ (d.outs.take (d.outs.length - x.queued)).reverse.filterMap (Out.packet g)
  let n := x.lanes * 253
  let (ws, cur, rest, heads) := if data then packetArea n x.sending q else (List.replicate n 0, [], q, [n])
  let first := match heads with | [] => 0xFFF | m :: _ => n - m
  let tag := x.gseq % 32 + if data then 0 else 2 ^ 5
  let sent := (List.range x.lanes).map fun i =>
    let h := x.scrambler.getD i (2 ^ 58 - 1)
    let lw := laneWords x.gseq x.lanes i first ws
    (Line.encode h tag lw, Line.after h (Line.scramble h ((lw ++ [Line.crcWord lw]).flatMap Line.wordBits)))
  let d := d.setGroup g { x with gseq := (x.gseq + 1) % 2 ^ 32, scrambler := sent.map (·.2), sending := cur, toSend := rest,
                                 queued := d.outs.length }
  (sent.zip (d.lanesOf g)).foldl (fun d e => (d.pairsOf g e.2).foldl (fun d p => d.drive p e.1.1) d) d

/-- Line bits of a rate that pass in the tick that ends as tick `e` (1.25 ns). -/
def tickBits (rate e : Nat) : Nat := e * 5 * lineRate rate / 4000 - (e - 1) * 5 * lineRate rate / 4000

/-- Seed of a PRBS generator: any but zero, which the manual leaves open (a free value, log 126). -/
def Dev.prbsSeed (d : Dev) (code : Nat) : Nat := 1 + d.freeNow 31 % (2 ^ (Line.prbsTaps code).1 - 1)

/-- A lane of a group in TEST sends the bits of its PRBS sequence that are due, and receives them itself in near-end loopback
(R123, R125). A lane whose PRBS_GEN is 0, or a reserved code, is squelched. -/
def Dev.sendPrbs (d : Dev) (g l : Nat) : Dev :=
  let p := d.physOf l
  let code := d.lane p Reg.HLQ.PRBS_GEN
  if code = 0 ∨ 5 ≤ code ∨ d.held (quad p).1 then { d with cap := { d.cap with prbsGen := Assoc.del d.cap.prbsGen p } }
  else
    let (h, d) := match Assoc.find d.cap.prbsGen p with
      | some h => (h, d)
      | none => (d.prbsSeed code, d.freeStep)
    let bs := Line.prbs code h (tickBits (d.group g).rate d.elapsed)
    let d := { d with cap := { d.cap with prbsGen := Assoc.put d.cap.prbsGen p (bs.foldl (fun h b => (2 * h + b2n b) % 2 ^ 31) h) } }
    let d := if bs = [] then d else d.drive p bs
    if d.lane p Reg.HLQ.LOOPBACK ∈ [1, 2] then d.prbsReceive p bs else d

/-- Group gatherings of 16,384 line bits a lane begun by tick `e`. -/
def gatheringsBy (rate e : Nat) : Nat := e * 5 * lineRate rate / (4000 * 16384)

/-- What a group sends in one tick: a gathering when the time of one has passed, a test sequence in TEST, nothing in DISABLED and
BACKOFF (R114, R119, R123). That stuff and guard bits take no time of their own is a DESIGN CHOICE (log 126). -/
def Dev.groupTick (d : Dev) (g : Nat) : Dev :=
  let st := d.grpState g
  if !d.grpOn g ∨ st = 0 ∨ st = BACKOFF then d
  else if st = TEST then (d.lanesOf g).foldl (fun d l => d.sendPrbs g l) d
  else
    let r := (d.group g).rate
    if gatheringsBy r d.elapsed = gatheringsBy r (d.elapsed - 1) then d else d.sendGathering g

/-- The Head Link transmitters in one tick. -/
def Dev.linesTick (d : Dev) : Dev := (List.range 32).foldl (fun d g => d.groupTick g) d

end Sys2Proof.Machine
end

