-- ==== Sys2Proof/Machine/Tick.lean ====
section
/-! DEFINITION. Tick: one cycle of the 800 MHz Timebase clock (spec 01 R27; spec 13 R350, R356). -/

namespace Sys2Proof.Machine

/-- Counts whose events have no row: transfers and waits on the Spine, corrected errors and replaced rows of the journal store,
lookups in the Frame Locator Table's cache, translations, corrected errors and retrainings of the host link, failed flash
operations. -/
def tallies : List (Page × Fld) :=
  ((List.range 4).flatMap fun n => [(Pg.SPN n, Reg.SPN.XFER_CNT), (Pg.HIF n, Reg.HIF.CORR_CNT), (Pg.HIF n, Reg.HIF.RETRAIN_CNT)]) ++
  ((List.range 2).flatMap fun n => [(Pg.MMU n, Reg.MMU.HIT_CNT), (Pg.MMU n, Reg.MMU.MISS_CNT)]) ++
  [(Pg.NVS, Reg.NVS.ECC_CORR_CNT), (Pg.NVS, Reg.NVS.ROWS_SPARED), (Pg.FLT, Reg.FLT.CACHE_HIT), (Pg.FLT, Reg.FLT.CACHE_MISS),
    (Pg.XSP, Reg.XSP.PROG_ERR_CNT)]

/-- What those counts grow by in one tick, the longest wait on the Spine, and how far a rebuild has come: free values (log 11). -/
def Dev.tally (d : Dev) : Dev :=
  let v := fun (i : Nat) => (Config.freeValue (d.free + i)).toNat
  let t := tallies.zipIdx.foldl (fun (t : Dev) e => t.bump e.1.1 e.1.2 0 (v e.2)) d
  let t := (List.range 4).foldl (fun (t : Dev) n =>
    t.wr (Pg.SPN n) Reg.SPN.STALL_MAX (max (t.rd (Pg.SPN n) Reg.SPN.STALL_MAX) (v (32 + n) % 65536))) t
  let t := (List.range 8).foldl (fun (t : Dev) s =>
    if (t.sset s).rebuild.isSome then t.setSetReg s Reg.STR.REBUILD_PROG (max (t.setReg s Reg.STR.REBUILD_PROG) (v (36 + s) % 1000)) else t) t
  { t with free := d.free + 44 }

/-- Pages that report their block's busy time: petals, FRC engines, encoders, decoders. -/
def metered : List Page :=
  (List.range 16).map Pg.YPTA ++ (List.range 4).map Pg.FRC ++ (List.range 6).map Pg.ENCPIX ++ (List.range 2).map Pg.DECPIX

/-- Put the tick that ends now into spans of the last second. -/
def spanTick (now : Nat) (l : List (Nat × Nat)) : List (Nat × Nat) :=
  (match l with
    | (a, b) :: r => if b + 1 = now then (a, now) :: r else (now - 1, now) :: l
    | [] => [(now - 1, now)]).filter fun e => now ≤ e.2 + 800000000

/-- Blocks that are busy during a tick. -/
def Dev.meter (d : Dev) : Dev :=
  metered.foldl (fun (d : Dev) pg => if d.busy pg then
    { d with pip := { d.pip with spans := Assoc.put d.pip.spans pg (spanTick d.elapsed ((Assoc.find d.pip.spans pg).getD [])) } } else d) d

/-- One tick: the Timebase and the port times advance by INCR (2^-32 ns, R350, R356), a step that waits is added after that
(R353), the powered time and the counts grow, and the Head Link lanes send, unless no clock runs (R27). -/
def Dev.tick (d : Dev) : Dev :=
  let d := { d with elapsed := d.elapsed + 1 }
  if d.stopped then d
  else
    let n := d.rd64 Pg.TMB Reg.TMB.INCR_LO Reg.TMB.INCR_HI
    ([0, 1].foldl (fun (d : Dev) p => d.portMove p n)
      { d with tb := d.tb + BitVec.ofNat 96 n, jnl := { d.jnl with powered := d.jnl.powered + 1 } }).stepDue.seamDue.meter.tally.linesTick

end Sys2Proof.Machine
end

