-- ==== Sys2Proof/Safety.lean ====
section
/-! DEFINITION. Safety: what the statements call a device that runs, a write that is taken, a command that starts, and a
machine that never stops. -/

namespace Sys2Proof

open Machine

/-- Clocks run (R27), no power-loss sequence does (R338): commands and events reach the blocks. -/
def Ready (d : Dev) : Bool := !d.stopped && !d.jnl.powerLoss

/-- A register write of function `f` at an aligned offset reaches the register: the function exists, firmware runs, every
power group is awake, no SOFT_RST of the page runs, and R48 allows it. -/
def Taken (d : Dev) (f pg o : Nat) : Bool :=
  !d.stopped && o % 4 = 0 && d.hasFn f && Pg.isPage pg && d.running && d.allAwake && d.rd pg Reg.HDR.STATE ≠ 3 && d.mayAccess f pg o true

/-- A register read of function `f` reaches the register. -/
def Readable (d : Dev) (f pg o : Nat) : Bool :=
  !d.stopped && o % 4 = 0 && d.hasFn f && Pg.isPage pg && d.running && d.allAwake && d.mayAccess f pg o false

/-- Partition `p`'s accepted command `asn` is `c`, with opcode `op`; it waits to start, nothing holds it, and its entry
passes the checks common to all commands. -/
def Starts (d : Dev) (p asn op : Nat) (c : Cmd) : Bool :=
  Ready d && d.cmd? p asn = some c && c.part = p && c.asn = asn && opcode c.entry = op && c.phase = .waiting && !d.barred c && (entryFault c).isNone

/-- Partition `p`'s accepted command `asn` is `c`, and its data moves: a network client has sent every byte (R320). -/
def Moves (d : Dev) (p asn op : Nat) (c : Cmd) : Bool :=
  Ready d && d.cmd? p asn = some c && c.part = p && c.asn = asn && opcode c.entry = op && c.phase = .moving && c.received c.inBytes

/-- The state with another device. -/
def Machine.State.withDev (s : State) (d : Dev) : State := { s with dev := d }

/-- The register file without the entries of pages `pgs`. -/
def Machine.Dev.regsBut (d : Dev) (pgs : List Page) : List (Nat × Nat) := d.regs.filter fun e => !pgs.contains (keyPage e.1)

/-- `t` is `d` but for the registers of pages `pgs`. -/
abbrev Still (pgs : List Page) (d t : Dev) : Prop := { d with regs := t.regs } = t ∧ t.regsBut pgs = d.regsBut pgs

/-- The part of a device that events, interrupts and ledger records reach: `d` with that part taken from `t` (R330, R344 to
R346). -/
def Machine.Dev.reported (d t : Dev) : Dev :=
  { d with hst := { d.hst with parts := t.hst.parts, sessions := t.hst.sessions, syslogQueue := t.hst.syslogQueue }
           jnl := t.jnl, hostMem := t.hostMem, outs := t.outs, free := t.free }

/-- `t` is `d` but for the registers of pages `pgs` and for what events, interrupts and ledger records reach: the event
rings and summaries of partitions, sessions that carry them, syslog messages, host memory under the rings, the journal, the
registers of EVT, SYS and NVS, and the counter of free values. -/
abbrev Framed (pgs : List Page) (d t : Dev) : Prop := Still (Pg.EVT :: Pg.SYS :: Pg.NVS :: pgs) (d.reported t) t

/-- The pages of one family, all of them: lane groups, lanes, ingest units, the control pages of Sections. -/
def Machine.Pg.hlls : List Page := (List.range 8).map Pg.HLL
def Machine.Pg.hlqs : List Page := (List.range 9).map Pg.HLQ
def Machine.Pg.ings : List Page := (List.range 4).map Pg.ING
def Machine.Pg.fes : List Page := (List.range 4).map fun n => Pg.FE n 0

/-- Rendition controllers and petals; stripe sets and magazines. -/
def Machine.Pg.petals : List Page := (List.range 4).map Pg.YRC ++ (List.range 16).map Pg.YPTA
def Machine.Pg.sets : List Page := [Pg.STR 0, Pg.STR 1] ++ (List.range 8).map Pg.MAG

/-- The pages a group that stops may write: lane groups, the spares, the ingest units of its heads, and the queues of
Sections. -/
def Machine.Pg.stops : List Page := sparePage :: (Pg.hlls ++ Pg.ings ++ Pg.fes)

/-- Pages whose registers count or report time by themselves: the Spine, host ports, translation, the journal store, the Frame
Locator Table, external flash, stripe sets, firmware management, and the lane quads with their PRBS checkers. -/
def Machine.Pg.counting : List Page :=
  (List.range 4).flatMap (fun n => [Pg.SPN n, Pg.HIF n]) ++ [Pg.STR 0, Pg.STR 1, Pg.MMU 0, Pg.MMU 1, Pg.NVS, Pg.FLT, Pg.XSP, Pg.FWM] ++
    (List.range 9).map Pg.HLQ

/-- The commands that wait name objects the part has. -/
def Sane (s : State) : Bool := s.pending.all Instr.wellFormed

end Sys2Proof
end

