-- ==== Sys2Proof/Certificates/Slice0/Obligations.lean ====
section
/-! DEFINITION. Obligations: the statements for the provers. -/

open Sys2Proof Sys2Proof.Machine

/-- For each of 20 commands of Quires, contexts, Section passes, renditions and petals, which are contextBind,
contextUnbind, quireSeal, tapArm, tapDisarm, echoLimit, mismatchResend, calibrationApply, sectionPassStart,
respinPassStart, sectionPassEnd, sealPoint, releaseDeadline, lutLoad, lutInvalidate, ditherLoad, renditionSet,
renditionDelete, petalJobStart, petalJobEnd: for every state and all operands that meet the conditions named,
which are on the state and the operands alone, exec answers a next state, and the clause gives the command's main
effect in it. The statements further on give each command's other effects, its other cases and its frame. "Moving"
means that the command has started and its data moves (R300, R317), which DATA_TRANSFER_END completes. -/
def Obligations.FramesComplete : Prop :=
  (∀ (s : State) (d : Dev), s.dev = d →
    ∀ (p asn op : Nat) (hv : HostView) (c : Cmd), p < 128 → asn < 2 ^ 64 → Starts (d.see hv) p asn op c = true →
    ((∀ k y, op = 0x8A → sf c.entry 8 8 1 = 0 → k = sf c.entry 1 0 8 → d.ownsCtx c k = true → (sf c.entry 8 10 2 = 0
    ∨ sf c.entry 8 9 1 = 1) → (d.ctx k).head = none → (d.boundCtxs.filter fun e => e.1 ≠ k).any (fun e => e.2.head =
    some (sf c.entry 8 0 8) || (decide (sf c.entry 8 9 1 = 1) && e.2.inl && (sectionsOf e.2.gang e.2.section_).any
    fun n => n ∈ sectionsOf (sf c.entry 8 10 2) (sf c.entry 8 12 2))) = false → y =
    { d.ctx k with head := some (sf c.entry 8 0 8), inl := decide (sf c.entry 8 9 1 = 1), gang := sf c.entry 8 10 2, section_ := sf c.entry 8 12 2, rate := dwAt c.entry 9 }
    → (sectionsOf y.gang y.section_).all (fun n => decide ((d.setCtx k y).sectionLoad n ≤ sectionCap) && decide
    ((d.setCtx k y).sectionLoad n (fun j _ => d.reserved 0 j) ≤ sectionCap)) = true → (d.setCtx k y).declaredLoad ≤
    40000000 → (List.range 4).all (fun n => !(d.setCtx k y).unitCounts n (sf c.entry 8 0 8) || (d.setCtx k
    y).unitLoad n ≤ 20000000) = true → y.rate ≤ d.reserved 0 k → ∃ t, exec (.contextBind p asn hv) s = .next t ∧
    (t.dev.ctx k).head = y.head) ∧
    (∀ k, op = 0x8A → sf c.entry 8 8 1 = 1 → k = sf c.entry 1 0 8 → d.ownsCtx c k = true → ∃ t, exec (.contextUnbind
    p asn hv) s = .next t ∧ (t.dev.ctx k).head = none) ∧
    (∀ k, op = 0x88 → k = sf c.entry 1 0 8 → d.ownsCtx c k = true → dwAt c.entry 8 ≠ 0 → bitAt (dwAt c.entry 8) 31 =
    false → sf c.entry 9 4 1 = 0 → sf c.entry 9 0 2 ≠ 3 → (d.ctx k).outstanding < 16 → ∃ t, exec (.quireSeal p asn
    hv) s = .next t ∧ (t.dev.ctx k).quires.map (fun q => (q.id, q.asn)) = (d.ctx k).quires.map (fun q => (q.id,
    q.asn)) ++ [(dwAt c.entry 8, asn)]) ∧
    (∀ k, op = 0x8B → p < 64 → sf c.entry 8 0 1 = 0 → k = sf c.entry 1 0 8 → d.ownsCtx c k = true → (d.ctx
    k).head.isSome = true → Assoc.has (d.ctx k).taps (sf c.entry 1 16 2) = false → sf c.entry 1 8 3 ≤ 4 → [sf
    c.entry 10 0 16, sf c.entry 10 16 16, sf c.entry 11 0 16, sf c.entry 11 16 16].all (fun v => v % 8 = 0) = true →
    12288 ≤ dwAt c.entry 6 → dwAt c.entry 6 % 4096 = 0 → sf c.entry 7 0 16 ≠ 0 → sf c.entry 7 0 16 ≤ 256 → dw64
    c.entry 2 % 4096 = 0 → ∃ t, exec (.tapArm p asn hv) s = .next t ∧ (Assoc.find (t.dev.ctx k).taps (sf c.entry 1
    16 2)).map (fun y => (y.point, y.ring, y.slotBytes, y.slots, y.count, y.asn)) = some (sf c.entry 1 8 3, dw64
    c.entry 2, dwAt c.entry 6, sf c.entry 7 0 16, dwAt c.entry 9, asn)) ∧
    (∀ k, op = 0x8B → p < 64 → sf c.entry 8 0 1 = 1 → k = sf c.entry 1 0 8 → d.ownsCtx c k = true → (d.ctx
    k).head.isSome = true → Assoc.has (d.ctx k).taps (sf c.entry 1 16 2) = true → ∃ t, exec (.tapDisarm p asn hv) s
    = .next t ∧ Assoc.has (t.dev.ctx k).taps (sf c.entry 1 16 2) = false) ∧
    (op = 0x89 → sf c.entry 1 31 1 = 0 → d.ownerOf 11 (sf c.entry 1 0 9) = c.part → d.lutNamed (sf c.entry 1 0 9) =
    false → sf c.entry 8 0 1 = 0 → ∃ t, exec (.lutLoad p asn hv) s = .next t ∧ (t.dev.cmd? p asn).map (·.phase) =
    some .moving) ∧
    (op = 0x89 → sf c.entry 1 31 1 = 0 → d.ownerOf 11 (sf c.entry 1 0 9) = c.part → d.lutNamed (sf c.entry 1 0 9) =
    false → sf c.entry 8 0 1 = 1 → ∃ t, exec (.lutInvalidate p asn hv) s = .next t ∧ (t.dev.lutSlot (sf c.entry 1 0
    9)).state = 0) ∧
    (op = 0x89 → sf c.entry 1 31 1 = 1 → c.part = 0 → dwAt c.entry 6 = 8192 → ∃ t, exec (.ditherLoad p asn hv) s =
    .next t ∧ (t.dev.cmd? p asn).map (·.phase) = some .moving) ∧
    (∀ b, op = 0x8C → sf c.entry 8 0 1 = 0 → b = rendOf c.entry c.part d.pip.nextInst → d.ownerOf 1 b.rend = c.part
    → d.ownsCtx c b.ctx = true → b.sinks.all (d.ownsSink c.part) = true → d.rendFields b = true →
    (d.rendsHeld.filter fun y => y.rend ≠ b.rend).any (fun y => y.ctx = b.ctx && y.slot = b.slot) = false →
    b.sinks.all (fun y => y.kind < 2) = true → (c.part < 64 ∨ b.hosts = 0) → d.rendCapacity b = true → ∃ t, exec
    (.renditionSet p asn hv) s = .next t ∧ t.dev.rend? b.rend = some b) ∧
    (∀ b, op = 0x8C → sf c.entry 8 0 1 = 1 → sf c.entry 1 0 6 < 48 → d.ownerOf 1 (sf c.entry 1 0 6) = c.part →
    d.rend? (sf c.entry 1 0 6) = some b → d.pip.jobs = [] → d.cap.frames = [] → ∃ t, exec (.renditionDelete p asn
    hv) s = .next t ∧ t.dev.rend? (sf c.entry 1 0 6) = none))) ∧
  (∀ (s : State) (d : Dev), s.dev = d → d.stopped = false →
    ((∀ k < 256, ∀ h < 252, (d.ctx k).head = some h → (d.ctx k).limits.2 ≤ (d.ctx k).mismatchRun → ∃ t, exec
    (.mismatchResend k) s = .next t ∧ (t.dev.ctx k).mismatchRun = 0))) ∧
  (∀ (s : State) (d : Dev), s.dev = d → Ready d = true →
    ((∀ k < 256, ∀ id < 2 ^ 32, ∀ h q, (d.ctx k).quires = [q] → q.id = id → q.target = .echo → q.eff = none →
    q.again = false → (d.ctx k).head = some h → (d.ctx k).limits.1 ≤ q.waited → ∃ t, exec (.echoLimit k id) s =
    .next t ∧ (t.dev.ctx k).quires = [{ q with resent := nextSsq (d.head h).ssq, waited := 0, again := true }]) ∧
    (∀ p < 128, ∀ asn < 2 ^ 64, ∀ x, d.cap.calHeld = [x] → x.part = p → x.asn = asn → d.passRuns x.ctx = false → ∃
    t, exec (.calibrationApply p asn) s = .next t ∧ t.dev.cap.calHeld = []) ∧
    (∀ h < 256, ∀ cid < 2 ^ 48, ∀ fr, d.frame? (frameKey h cid) = some fr → fr.key = frameKey h cid → d.firstReady
    fr = true → (fr.memoryPath = false ∨ d.chosen fr = true) → ∃ t, exec (.sectionPassStart h cid) s = .next t ∧
    (t.dev.frame? (frameKey h cid)).map (fun y => (y.firstGen, y.curGen, y.tFirst)) = some (some (genFor (d.ctx
    fr.ctx).gens fr.ord), some (genFor (d.ctx fr.ctx).gens fr.ord), d.now)) ∧
    (∀ h < 256, ∀ cid < 2 ^ 48, ∀ fr g, d.cap.frames = [(frameKey h cid, fr)] → fr.key = frameKey h cid →
    d.respinReady fr = true → fr.pending = some (g, true) → d.memBusy fr = false → ∃ t, exec (.respinPassStart h
    cid) s = .next t ∧ (t.dev.frame? (frameKey h cid)).map (fun y => (y.pass, y.pending)) = some (some g, none)) ∧
    (∀ h < 256, ∀ cid < 2 ^ 48, ∀ fr g, d.frame? (frameKey h cid) = some fr → fr.key = frameKey h cid → fr.state =
    .ingested → fr.firstGen = some g → fr.firstRunning = true → ∃ t, exec (.sectionPassEnd h cid false) s = .next t
    ∧ (t.dev.frame? (frameKey h cid)).map (fun y => (y.firstOut, y.out)) = some (some (d.runPass fr g).2, some
    (fr.out.getD (d.runPass fr g).2))) ∧
    (∀ h < 256, ∀ cid < 2 ^ 48, ∀ fr, d.frame? (frameKey h cid) = some fr → fr.key = frameKey h cid → fr.state =
    .ingested → d.assisted (Pg.ING fr.ing) = false → fr.firstOut = none → fr.recordOnly = false → ∃ t, exec
    (.sealPoint h cid) s = .next t ∧ (t.dev.frame? (frameKey h cid)).map (fun y => (y.state, y.tSeal)) = some
    (.sealed, d.sealInstant fr)) ∧
    (∀ h < 256, ∀ cid < 2 ^ 48, ∀ fr, d.frame? (frameKey h cid) = some fr → fr.key = frameKey h cid →
    fr.deadlinePassed = false → fr.state ≠ .processed → fr.state ≠ .released → d.bindsOf fr = [] → ∃ t, exec
    (.releaseDeadline h cid) s = .next t ∧ (t.dev.frame? (frameKey h cid)).map (·.deadlinePassed) = some true) ∧
    (∀ h < 256, ∀ cid < 2 ^ 48, ∀ r < 48, ∀ j fr, d.pip.jobs.find? (fun y => y.is (frameKey h cid) r false) = some j
    → d.frame? (frameKey h cid) = some fr → d.bindOf fr r = some j.bind → j.started = false → j.bind.petals =
    [j.bind.petal] → j.bind.petal < 16 → d.allAwake = true → d.works (Pg.YPTA j.bind.petal) = true → d.jobShed j =
    false → d.jobNext j = true → Render.usesLut j.gen.bank j.bind.slot = false → 0 < (d.jobSizes j).1 → 0 <
    (d.jobSizes j).2.1 → (d.jobSizes j).1 * (d.jobSizes j).2.1 ≤ j.bind.maxSrc → (d.jobSizes j).2.2.1 * (d.jobSizes
    j).2.2.2 ≤ j.bind.maxDst → ∃ t, exec (.petalJobStart h cid r false) s = .next t ∧ (t.dev.pip.jobs.find? (fun y
    => y.is (frameKey h cid) r false)).map (fun y => (y.started, y.gen, y.dither)) = some (true, j.gen,
    d.pip.dither)) ∧
    (∀ h < 256, ∀ cid < 2 ^ 48, ∀ r < 48, ∀ j fr o, d.pip.jobs.find? (fun y => y.is (frameKey h cid) r false) = some
    j → d.frame? (frameKey h cid) = some fr → fr.key = frameKey h cid → fr.hdr.cid = cid → j.started = true → fr.out
    = some o → j.is (frameKey h cid) r false = true → ∃ t, exec (.petalJobEnd h cid r false) s = .next t ∧ t.dev.rd
    (yrc r).1 Reg.YRC.LAST_CID_LO (yrc r).2 = cid % 2 ^ 32)))

/-- For each of 21 commands of FRC, Takes, stripe sets and magazines, which are frcCompress, frcExpand, frcJobStart,
frcJobEnd, frcCodingStart, frcCodingEnd, takeOpen, takeClose, takeErase, frameRead, stripeWrite, stripeDurable,
fltRebuild, create, assemble, key, magazineLinkUp, magCommandTimeout, magFailed, magMediaError, rebuildDone: for
every state and all operands that meet the conditions named, which are on the state and the operands alone, exec
answers a next state, and the clause gives the command's main effect in it. -/
def Obligations.RecordingComplete : Prop :=
  (∀ (s : State) (d : Dev), s.dev = d →
    ∀ (p asn op : Nat) (hv : HostView) (c : Cmd), p < 128 → asn < 2 ^ 64 → Starts (d.see hv) p asn op c = true →
    ((op = 0x92 → sf c.entry 8 0 1 = 0 → (frcJob c).valid = true → (frcJob c).inSize ≤ (frcJob c).src → (frcJob
    c).outSize ≤ (frcJob c).dst → ∃ t, exec (.frcCompress p asn hv) s = .next t ∧ (t.dev.cmd? p asn).map (·.phase) =
    some .running) ∧
    (op = 0x92 → sf c.entry 8 0 1 = 1 → (frcJob c).valid = true → (frcJob c).inSize ≤ (frcJob c).src → (frcJob
    c).outSize ≤ (frcJob c).dst → ∃ t, exec (.frcExpand p asn hv) s = .next t ∧ (t.dev.cmd? p asn).map (·.phase) =
    some .running) ∧
    (∀ base, op = 0x84 → d.ownerOf 7 (sf c.entry 1 0 3) = c.part → d.ctxOwner (sf c.entry 1 8 8) = c.part →
    ((takeRends c.entry).any fun r => r < 48 && d.ownerOf 1 r ≠ c.part) = false → d.takeFields c = true → d.takeById
    (sf c.entry 1 0 3) (dw64 c.entry 8) = none → d.openTake (sf c.entry 1 8 8) = none → d.setUp (sf c.entry 1 0 3) =
    true → d.fltRange (dwAt c.entry 14 * (3 + (takeRends c.entry).length)) = some base → d.takeRate (sf c.entry 1 8
    8) + d.takeLoad + d.classLoad * 10000 ≤ 40000000 → ∃ t, exec (.takeOpen p asn hv) s = .next t ∧ (t.dev.take?
    d.pip.nextTake).map (·.takeId) = some (dw64 c.entry 8)) ∧
    (∀ i tk, op = 0x85 → sf c.entry 10 0 2 = 0 → d.ownerOf 7 (sf c.entry 1 0 3) = c.part → d.setUp (sf c.entry 1 0
    3) = true → d.takeById (sf c.entry 1 0 3) (dw64 c.entry 8) = some (i, tk) → tk.state = 0 → tk.frames ≠ [] → ∃ t,
    exec (.takeClose p asn hv) s = .next t ∧ (t.dev.take? i).map (fun y => (y.stop, y.close, y.state)) = some (.now,
    tk.close ++ [(c.part, c.asn)], 0)) ∧
    (∀ i tk, op = 0x85 → sf c.entry 10 0 2 = 2 → d.ownerOf 7 (sf c.entry 1 0 3) = c.part → d.setUp (sf c.entry 1 0
    3) = true → d.takeById (sf c.entry 1 0 3) (dw64 c.entry 8) = some (i, tk) → tk.state = 1 → ∃ t, exec (.takeErase
    p asn hv) s = .next t ∧ (t.dev.take? i).map (fun y => (y.state, y.extents, y.close)) = some (2, [], [(c.part,
    c.asn)])) ∧
    (∀ i tk y, op = 0x83 → d.ownerOf 7 (sf c.entry 1 0 3) = c.part → d.setUp (sf c.entry 1 0 3) = true → d.shed = 0
    → d.takeById (sf c.entry 1 0 3) (dw64 c.entry 8) = some (i, tk) → (d.sset (sf c.entry 1 0 3)).indexed = true →
    (d.readPlan c (tk.atFrame (dwAt c.entry 10))).toOption = some y → ∃ t, exec (.frameRead p asn hv) s = .next t ∧
    (t.dev.cmd? p asn).map (·.phase) = some .moving))) ∧
  (∀ (s : State) (d : Dev), s.dev = d → d.stopped = false →
    ((∀ x < 8, ∀ k < 2 ^ 32, d.allAwake = true → d.setUp x = true → d.going x k = [] → d.pip.places.any (fun y =>
    y.set = x && y.addr / ((d.sset x).n * PAY) = k) = true → d.pip.takes = [] → ∃ t, exec (.stripeWrite x k) s =
    .next t ∧ t.dev.pip.places = d.pip.places.map (fun y => if y.set = x && y.addr / ((d.sset x).n * PAY) = k then
    { y with going := true } else y)) ∧
    (∀ x < 8, ∀ k < 2 ^ 32, d.setUp x = true → d.going x k ≠ [] → d.pip.takes = [] → d.hst.cmds = [] → d.cap.frames
    = [] → ∃ t, exec (.stripeDurable x k) s = .next t ∧ t.dev.pip.places = d.pip.places.filter (fun y => y ∉ d.going
    x k)) ∧
    (∀ x < 8, d.setUp x = true → (d.sset x).indexed = false → d.hst.fetchStopped = false → d.directory x = [] →
    d.cap.frames = [] → ∃ t, exec (.fltRebuild x) s = .next t ∧ (t.dev.sset x).indexed = true) ∧
    (∀ n < 8, ∀ width < 8, ∀ gen < 8, ∀ drive, drive.lbas < 2 ^ 32 → 524288 ≤ drive.lbas → drive.media.all (fun e =>
    e.1 < 2 ^ 32) = true → drive.serial.length ≤ 4096 → d.magState n = ABSENT → (magOf drive).label = none →
    (List.range 8).all (fun y => d.setState y ≠ DEGRADED) = true → ∃ t, exec (.magazineLinkUp n width gen (some
    drive) 0) s = .next t ∧ t.dev.magState n = BLANK) ∧
    (∀ n < 8, d.magState n = MEMBER → ∃ t, exec (.magCommandTimeout n false) s = .next t ∧ t.dev.rd (Pg.MAG n)
    Reg.MAG.TIMEOUT_CNT = min (d.rd (Pg.MAG n) Reg.MAG.TIMEOUT_CNT + 1) 65535) ∧
    (∀ n < 8, ∀ link, d.magState n = MEMBER → (List.range 8).all (fun y => (d.sset y).rebuild ≠ some n && !((d.sset
    y).members.contains n)) = true → ∃ t, exec (.magFailed n link) s = .next t ∧ t.dev.magState n = MFAILED) ∧
    (∀ n < 8, ∀ lba < 2 ^ 32, ∀ m, OPTIMAL ≤ d.setState 0 → 256 ≤ lba → ((List.range ((d.sset 0).n + 1)).filter (fun
    i => i ≠ m)).all (fun i => (d.sset 0).members.getD i 0 ≠ n) = true → (d.sset 0).members.zipIdx.find? (fun e =>
    e.1 = n && e.2 ∈ (d.sset 0).live) = some (n, m) → (d.rebuilt 0 m lba).isSome = true → ∃ t, exec (.magMediaError
    n lba) s = .next t ∧ (t.dev.mag n).block lba = fit 4096 ((d.rebuilt 0 m lba).getD [])))) ∧
  (∀ (s : State) (d : Dev), s.dev = d → Ready d = true →
    ((∀ n < 8, ∀ p < 64, ∀ asn < 2 ^ 64, ∀ c, d.allAwake = true → d.cmd? p asn = some c → c ∈ d.frcQueue → d.engine?
    n = none → d.works (Pg.FRC n) = true → d.shed = 0 → d.frcQueue.any (fun y => (frcJob y).cls = (frcJob c).cls &&
    y.asn < c.asn) = false → d.takeQueue = [] → d.pip.reservedJobs = [] → ∃ t, exec (.frcJobStart n p asn) s = .next
    t ∧ t.dev.engine? n = some (.job p asn)) ∧
    (∀ n < 8, ∀ p < 64, ∀ asn hv bad c, bad.all (fun b => b < 2 ^ 32) = true → d.engine? n = some (.job p asn) →
    d.cmd? p asn = some c → c.part = p → c.asn = asn → ∃ t, exec (.frcJobEnd n bad false hv) s = .next t ∧
    t.dev.engine? n = none) ∧
    (∀ n < 8, ∀ h < 256, ∀ cid < 2 ^ 48, ∀ i tk y, d.allAwake = true → d.takeOf (frameKey h cid) = some (i, tk, y) →
    d.take? i = some tk → y.frame = frameKey h cid → y.coding = .waiting → d.engine? n = none → d.works (Pg.FRC n) =
    true → ∃ t, exec (.frcCodingStart n h cid) s = .next t ∧ t.dev.engine? n = some (.take i y.index)) ∧
    (∀ n < 8, ∀ i ix bad tk y fr, bad.all (fun b => b < 2 ^ 32) = true → d.engine? n = some (.take i ix) → d.take? i
    = some tk → tk.frames.find? (fun z => z.index = ix) = some y → d.frame? y.frame = some fr → fr.state = .ingested
    → ∃ t, exec (.frcCodingEnd n bad false) s = .next t ∧ t.dev.engine? n = none) ∧
    (∀ x < 8, ∀ n, (d.sset x).rebuild = some n → d.setState x = REBUILDING → ∃ t, exec (.rebuildDone x) s = .next t
    ∧ t.dev.setState x = OPTIMAL))) ∧
  (∀ (s : State) (d : Dev), s.dev = d →
    ((∀ x < 8, ∀ v < 2 ^ 32, Taken d 0 (setAt x).1 (Reg.STR.N.at (setAt x).2 0) = true → bitAt v 28 = true → bitAt v
    29 = false → (d.plainWrite 0 (setAt x).1 (Reg.STR.N.at (setAt x).2 0) v).setState x = 0 → (d.plainWrite 0 (setAt
    x).1 (Reg.STR.N.at (setAt x).2 0) v).setReg x Reg.STR.N ≠ 0 → ((List.range 8).filter fun y => bitAt
    ((d.plainWrite 0 (setAt x).1 (Reg.STR.N.at (setAt x).2 0) v).setReg x Reg.STR.MEMBERS) y).length = (d.plainWrite
    0 (setAt x).1 (Reg.STR.N.at (setAt x).2 0) v).setReg x Reg.STR.N + 1 → ((List.range 8).filter fun y => bitAt
    ((d.plainWrite 0 (setAt x).1 (Reg.STR.N.at (setAt x).2 0) v).setReg x Reg.STR.MEMBERS) y).all (fun y =>
    d.magState y = BLANK) = true → (d.plainWrite 0 (setAt x).1 (Reg.STR.N.at (setAt x).2 0) v).setReg x
    Reg.STR.ENC_EN = 0 → ∃ t, exec (.create 0 x v) s = .next t ∧ t.dev.setState x = OPTIMAL) ∧
    (∀ x < 8, ∀ v < 2 ^ 32, Taken d 0 (setAt x).1 (Reg.STR.N.at (setAt x).2 0) = true → bitAt v 28 = false → bitAt v
    29 = true → exec (.assemble 0 x v) s = .next (s.withDev (((d.plainWrite 0 (setAt x).1 (Reg.STR.N.at (setAt x).2
    0) v).assemble x).startRebuild x))) ∧
    (∀ x < 8, ∀ v < 2 ^ 32, Taken d 0 (setAt x).1 (Reg.STR.KEY.at (setAt x).2 15) = true → (d.sset x).enc = false →
    ({ d.sset x with keyWords := Assoc.put (d.sset x).keyWords 15 v } : StripeSet).keyBytes.take 32 ≠
    ({ d.sset x with keyWords := Assoc.put (d.sset x).keyWords 15 v } : StripeSet).keyBytes.drop 32 → ∃ t, exec
    (.key 0 x v) s = .next t ∧ (t.dev.sset x).key = some
    ({ d.sset x with keyWords := Assoc.put (d.sset x).keyWords 15 v } : StripeSet).keyBytes)))

/-- For each of 19 commands of encoders and decoders, which are encConfig, encPicture, encCollect, encForceIrap,
encEnd, encRelease, encLtr, encSinkRead, encPictureStart, pixelRowEnd, encRowEnd, encPictureCommit, decConfig,
decDecode, decDrain, decRelease, decUnitStart, decWatchdog, decUnitEnd: for every state and all operands that meet
the conditions named, which are on the state and the operands alone, exec answers a next state, and the clause
gives the command's main effect in it. -/
def Obligations.CodingComplete : Prop :=
  (∀ (s : State) (d : Dev), s.dev = d →
    ∀ (p asn op : Nat) (hv : HostView) (c : Cmd), p < 128 → asn < 2 ^ 64 → Starts (d.see hv) p asn op c = true →
    ((∀ n, op = 0x90 → n = sf c.entry 1 0 8 → d.ownerOf 2 n = c.part → d.encTurn c = true →  ((sf c.entry 8 0 4 = 0
    → 128 ≤ dwAt c.entry 6 → ∃ t, exec (.encConfig p asn hv) s = .next t ∧ (t.dev.cmd? p asn).map (·.phase) = some
    .moving) ∧ (sf c.entry 8 0 4 = 1 → (d.enc n).cfg.isSome = true → (d.enc n).releasing = false → (d.enc
    n).cfg!.source ≠ 0 → dwAt c.entry 9 % 64 = 0 → (d.enc n).cfg!.hostRow ≤ dwAt c.entry 9 → (d.enc
    n).cfg!.hostBytes (dwAt c.entry 9) ≤ dwAt c.entry 6 → ∃ t, exec (.encPicture p asn hv) s = .next t ∧ (t.dev.cmd?
    p asn).map (·.phase) = some .moving) ∧ (∀ b, sf c.entry 8 0 4 = 2 → (d.enc n).queue.head? = some b → b.length ≤
    dwAt c.entry 7 → d.shed = 0 → ∃ t, exec (.encCollect p asn hv) s = .next t ∧ (t.dev.cmd? p asn).map (·.phase) =
    some .moving) ∧ (sf c.entry 8 0 4 = 3 → (d.enc n).cfg.isSome = true → (d.enc n).releasing = false → ∃ t, exec
    (.encForceIrap p asn hv) s = .next t ∧ (t.dev.enc n).force = true) ∧ (sf c.entry 8 0 4 = 4 → (d.enc
    n).cfg.isSome = true → (d.enc n).releasing = false → (d.enc n).inFlight = false → (d.enc n).later = [] → (d.enc
    n).nextCfg = none → (d.enc n).ending = none → ∃ t, exec (.encEnd p asn hv) s = .next t ∧ (t.dev.enc n).fresh =
    true) ∧ (sf c.entry 8 0 4 = 5 → (d.enc n).cfg.isSome = true → (d.enc n).releasing = false → (d.enc n).inFlight =
    false → (d.enc n).later = [] → (d.enc n).nextCfg = none → (d.enc n).ending = none → d.cap.frames = [] → ∃ t,
    exec (.encRelease p asn hv) s = .next t ∧ (t.dev.enc n).cfg = none) ∧ (sf c.entry 8 0 4 = 6 → (d.enc
    n).cfg.isSome = true → (d.enc n).releasing = false → (sf c.entry 8 12 2 = 0 ∨ sf c.entry 8 12 2 = 2) → sf
    c.entry 8 8 2 < (d.enc n).cfg!.ltr → ∃ t, exec (.encLtr p asn hv) s = .next t ∧ (t.dev.enc n).ltrActs = (d.enc
    n).ltrActs ++ [(sf c.entry 8 12 2, sf c.entry 8 8 2)]) ∧ (∀ b, sf c.entry 8 0 4 = 7 → sf c.entry 10 0 6 < 48 →
    d.ownerOf 1 (sf c.entry 10 0 6) = c.part → d.sinkBuf c = some b → 0x2000 + b.output.bytes.length ≤ dwAt c.entry
    7 → d.shed = 0 → ∃ t, exec (.encSinkRead p asn hv) s = .next t ∧ (t.dev.cmd? p asn).map (·.phase) = some
    .moving))) ∧
    (∀ n, op = 0x91 → n = sf c.entry 1 0 6 → d.ownerOf 3 n = c.part → d.decTurn c = true →  ((sf c.entry 8 0 2 = 0 →
    0x28 ≤ dwAt c.entry 6 → ∃ t, exec (.decConfig p asn hv) s = .next t ∧ (t.dev.cmd? p asn).map (·.phase) = some
    .moving) ∧ (sf c.entry 8 0 2 = 1 → (d.dec n).cfg.isSome = true → ∃ t, exec (.decDecode p asn hv) s = .next t ∧
    (t.dev.cmd? p asn).map (·.phase) = some .moving) ∧ (sf c.entry 8 0 2 = 2 → (d.dec n).cfg.isSome = true → (d.dec
    n).held.all (·.hide) = true → (d.dec n).blocked = [] → ∃ t, exec (.decDrain p asn hv) s = .next t ∧ (t.dev.dec
    n).held = []) ∧ (sf c.entry 8 0 2 = 3 → (d.dec n).held.all (·.hide) = true → (d.dec n).blocked = [] → ∃ t, exec
    (.decRelease p asn hv) s = .next t ∧ t.dev.dec n = {}))))) ∧
  (∀ (s : State) (d : Dev), s.dev = d → Ready d = true →
    ((∀ n < 256, ∀ poc < 2 ^ 32, ∀ qp < 2 ^ 8, ∀ target < 2 ^ 32, ∀ hdr ≤ PIC_HDR, ∀ hv q r, d.allAwake = true →
    (d.enc n).ready = q :: r → d.encWorks (d.enc n) = true → d.encFreeEngines n = true → (d.enc n).refsDone ((d.enc
    n).nextRefs q) = true → d.pip.encs.any (fun e => d.encAhead n e.1 q.src) = false → d.shed < 2 → (d.see
    hv).encRoom n q.src = true → (d.see hv).encAhead n n q.src = false → (d.enc n).plan = none → (d.enc n).asked =
    none → d.assisted (d.enc n).pageRc = false → d.pip.encs.all (fun e => e.1 = n) = true → ∃ t, exec
    (.encPictureStart n poc qp target hdr hv) s = .next t ∧ (t.dev.enc n).ready = r) ∧
    (∀ n < 256, ∀ b < 6, ∀ e < 2 ^ 32, ∀ code y, (d.enc n).pics = [y] → b < y.bands.length → (y.bands.getD b {}).pix
    < (d.enc n).cfg!.rows → (y.bands.getD b {}).pix ≤ (y.bands.getD b {}).row + (d.enc n).cfg!.ahead → (d.enc
    n).syntaxRows b < 64 → rowPossible code y (d.enc n).cfg! (y.bands.getD b {}) = true → ∃ t, exec (.pixelRowEnd n
    b e code) s = .next t ∧ ((t.dev.enc n).pics.map fun z => z.bands) = [y.bands.modify b fun z =>
    { z with pix := z.pix + 1, est := z.est ++ [e], basis := z.basis ++ [z.basisOf (d.enc n).cfg!.ahead z.pix], qps := z.qps ++ [rowQp code y], store := z.store ++ [code.samples] }])
    ∧
    (∀ n < 256, ∀ a < 2 ^ 32, ∀ fb < 2 ^ 32, ∀ plan < 2 ^ 32, ∀ fs y z, (d.enc n).pics = [y] → y.bands = [z] → z.row
    < (d.enc n).cfg!.rows → z.row < z.pix → fb ≤ (d.enc n).cfg!.floorRow (decide (y.type ≤ 1)) z.ctus z.row → ∃ t,
    exec (.encRowEnd n 0 a fb plan fs) s = .next t ∧ ((t.dev.enc n).pics.map fun x => x.bands) = [[(z.endRow ((d.enc
    n).cfg!.reserve (decide (y.type ≤ 1)) z.ctus (z.row + 1)) (d.enc n).cfg!.tol a fb plan fs).1.writeRows (d.enc
    n).cfg!.codec (d.enc n).cfg!.rows none (d.enc n).cfg!.rows]]) ∧
    (∀ n < 256, ∀ qp < 2 ^ 16, ∀ bs hv y z, (d.enc n).pics = [y] → y.bands = [z] → y.src.host = none → (d.enc
    n).held = [] → (d.enc n).ready = [] → (d.enc n).nextCfg = none → (d.enc n).ending = none → (d.enc n).releasing =
    false → (d.enc n).later = [] → (d.enc n).cfg!.ringAddr = 0 → y.done (d.enc n).cfg!.rows = true → bs.length =
    ceilDiv (z.spent + (d.enc n).filler z.spent) 8 → y.fixed = false → ((d.enc n).cfg!.mode ≠ 3 ∨ y.qp * 256 ≤ qp) →
    (d.enc n).cfg!.qpMin * 256 ≤ qp → qp ≤ (d.enc n).cfg!.qpMax * 256 → ∃ t, exec (.encPictureCommit n qp bs hv) s =
    .next t ∧ (t.dev.enc n).pics = []) ∧
    (∀ g < 2, ∀ n < 64, ∀ bad u r c, bad.all (fun y => y < 2 ^ 16) = true → d.allAwake = true → (d.dec n).units = u
    :: r → d.decOn g = none → (d.dec n).takes g = true → d.works (Pg.DECENT g) = true → d.works (Pg.DECPIX g) = true
    → d.works (Pg.DECERR g) = true → d.shed < 2 → d.pip.decs.all (fun e => e.1 = n) = true → d.cmd? u.part u.asn =
    some c → (d.dec n).unsupported = false → d.assisted (Pg.DECERR g) = false → ∃ t, exec (.decUnitStart g n none
    bad) s = .next t ∧ (t.dev.dec n).run = some
    { part := u.part, asn := u.asn, tag := dw64 c.entry 9, engine := some g, started := d.clock }) ∧
    (∀ g < 2, ∀ ix done n x r, d.decOn g = some (n, x) → x.run = some r → r.started + x.budget * 2 ^ 32 ≤ d.clock →
    ∃ t, exec (.decWatchdog g ix done) s = .next t ∧ (t.dev.dec n).run = some
    { r with closed := r.closed ++ [(ix, done)], freed := true }) ∧
    (∀ g < 2, ∀ n < 64, ∀ pics reorder hv r, (d.dec n).run = some r → r.engine = some g → r.asking = [] →
    r.closed.all (fun y => y.1 < pics.length) = true → ∃ t, exec (.decUnitEnd n pics reorder hv) s = .next t ∧
    (t.dev.dec n).run.bind (·.engine) = none)))

/-- For each of 13 commands of scan-out, ports, feeds and flows, which are dspCommit, applyPoint, dspFrameStart,
teInput, teTimeout, teEvent, dspUnderrun, hotPlug, auxGo, auxTransactionEnd, feedLineSend, flowEnable,
flowFrameStart: for every state and all operands that meet the conditions named, which are on the state and the
operands alone, exec answers a next state, and the clause gives the command's main effect in it. -/
def Obligations.OutputsComplete : Prop :=
  (∀ (s : State) (d : Dev), s.dev = d → d.stopped = false →
    ((∀ ix < 2, ∀ n < 16, d.works (Pg.DSP n) = true → d.rdA (Pg.DSP n) Reg.DSP.TE_SEL = ix → d.timing n = 2 → (match
    (d.dsp n).start with | some y => decide (d.activeEnd n y ≤ d.now) | none => true) = true → ∃ t, exec (.teInput
    ix) s = .next t ∧ (t.dev.dsp n).te = some d.now) ∧
    (∀ n < 16, ∀ hv z, d.works (Pg.DSP n) = true → d.timing n = 2 → (d.dsp n).te = none → (d.dsp n).next = some z →
    ∃ t, exec (.teTimeout n hv) s = .next t ∧ t.dev.rd (Pg.DSP n) Reg.DSP.TE_MISS_CNT = min (d.rd (Pg.DSP n)
    Reg.DSP.TE_MISS_CNT + 1) 65535) ∧
    (∀ g < 32, ∀ n < 16, ∀ hv p r b, d.allAwake = true → (d.group g).rx = p :: r → pType p.header = 8 → bits
    p.header 37 8 = 0x46 → Assoc.find (d.group g).vcs (pVc p.header) = some b → d.works (Pg.DSP n) = true → d.timing
    n = 2 → (d.dsp n).start = none → d.now ≤ (p.words.getD 0 0) % 2 ^ 64 * 2 ^ 32 + bits (p.words.getD 1 0) 0 32 +
    d.rdA (Pg.DSP n) Reg.DSP.TE_DELAY * 2 ^ 32 → ((List.range 16).filter fun y => d.rdA (Pg.DSP y) Reg.DSP.TE_SEL =
    2 && d.rdA (Pg.DSP y) Reg.DSP.TE_HEAD = b.head && d.rdA (Pg.DSP y) Reg.DSP.TE_HSRC = bits (p.words.getD 1 0) 32
    2) = [n] → ∃ t, exec (.teEvent g hv) s = .next t ∧ (t.dev.dsp n).te = some ((p.words.getD 0 0) % 2 ^ 64 * 2 ^ 32
    + bits (p.words.getD 1 0) 0 32)) ∧
    (∀ n < 4, ∀ rate < 8, ∀ lanes < 8, ∀ adaptive, ∃ t, exec (.hotPlug n true rate lanes adaptive false) s = .next t
    ∧ t.dev.rd (Pg.DPX n) Reg.DPX.HPD = 1) ∧
    (∀ n < 4, ∀ r < 8, ∀ bs, bs.length ≤ 16 → n ∈ d.pip.auxBusy → ∃ t, exec (.auxTransactionEnd n r bs) s = .next t
    ∧ t.dev.rd (Pg.DPX n) Reg.DPX.AUX_DONE = 1))) ∧
  (∀ (s : State) (d : Dev), s.dev = d → Ready d = true →
    ((∀ n < 16, ∀ q late hv, d.works (Pg.DSP n) = true → (d.dsp n).commits.getLast? = some (q, late) → ∃ t, exec
    (.applyPoint n hv) s = .next t ∧ t.dev.rd (Pg.DSP n) Reg.DSP.APPLIED_SEQ = q % 2 ^ 16) ∧
    (∀ n < 16, ∀ hv z, d.works (Pg.DSP n) = true → d.timing n = 0 → (d.dsp n).blanked = false → (d.dsp n).next =
    some z → ∃ t, exec (.dspFrameStart n hv) s = .next t ∧ t.dev.rd (Pg.DSP n) Reg.DSP.FRAME_CNT = (d.rd (Pg.DSP n)
    Reg.DSP.FRAME_CNT + 1) % 2 ^ 32) ∧
    (∀ n < 16, ∀ l < 4, ∀ y < 2 ^ 16, ∀ x < 2 ^ 16, ∀ z, (d.dsp n).shown = some z → (d.route n).1 ≠ 3 → ∃ t, exec
    (.dspUnderrun n l y x) s = .next t ∧ (t.dev.dsp n).shown = some { z with under := z.under ++ [(l, y, x)] }) ∧
    (∀ n < 32, ∀ m y g vc x ws r, Assoc.find d.pip.feeds n = some x → x.rows = (m, y, ws) :: r → (d.head (d.feed n
    Reg.DSP.F_HEAD)).vc = some (g, vc) → d.admission (d.feed n Reg.DSP.F_HEAD) = 2 → d.feed n Reg.DSP.F_EN = 1 →
    (d.feed n Reg.DSP.F_SRC = 0 ∨ (d.on (Pg.DSP (n / 2)) Reg.HDR.EN = true ∧ ((d.dsp (n / 2)).shown.any fun z =>
    z.stream.isSome) = false)) → Assoc.has d.cap.feedWait n = false → ∃ t, exec (.feedLineSend n) s = .next t ∧
    (Assoc.find t.dev.pip.feeds n).map (·.rows) = some r) ∧
    (∀ w < 48, ∀ x o b, d.allAwake = true → Assoc.find d.hst.flows w = some x → x.next = some (o, b) → d.flw w
    Reg.NETF.EN = 1 → d.works (flowAt w).1 = true → d.shed < 3 → ∃ t, exec (.flowFrameStart w) s = .next t ∧
    (Assoc.find t.dev.hst.flows w).map (·.next.isSome) = some false))) ∧
  (∀ (s : State) (d : Dev), s.dev = d → ∀ f < 64, ∀ v < 2 ^ 32,
    ((∀ n < 16, Taken d f (Pg.DSP n) 0x140 = true → ∃ t, exec (.dspCommit f n v) s = .next t ∧ (t.dev.dsp n).commits
    = (d.dsp n).commits ++ [(v % 2 ^ 16, (d.dsp n).applied)]) ∧
    (∀ n < 4, Taken d f (Pg.DPX n) 0x10C = true → bitAt v 31 = true → n ∉ d.pip.auxBusy → ∃ t, exec (.auxGo f n v) s
    = .next t ∧ t.dev.pip.auxBusy = d.pip.auxBusy ++ [n]) ∧
    (∀ w < 48, Taken d f (flowAt w).1 (0x400 + 0x40 * (flowAt w).2) = true → d.flw w Reg.NETF.EN = 0 → bits v 0 1 =
    1 → ([(Reg.NETF.EN, 0, 1), (Reg.NETF.DUAL, 1, 1), (Reg.NETF.ANC, 2, 1), (Reg.NETF.TPW, 3, 1), (Reg.NETF.FORMAT,
    4, 4), (Reg.NETF.PORT_A, 8, 1), (Reg.NETF.SUBIF_A, 10, 2), (Reg.NETF.SUBIF_B, 12, 2)].foldl (fun y e => y.wr
    (flowAt w).1 e.1 (bits v e.2.1 e.2.2) (flowAt w).2) d).flowFits w = true → ∃ t, exec (.flowEnable f w v) s =
    .next t ∧ t.dev.flw w Reg.NETF.EN = 1)))

/-- For each of 19 commands of queues, rings, features, store and parameter space, which are queueCreate,
queueDelete, sqTail, cqHead, cqCoalesceTimeout, commandFetch, hifEnable, eventRingSet, eventRingDelete, evtHead,
astHead, eventSummaryPost, syslogSendTimeout, featureSet, featureGet, flush, write, read, bar2Access: for every
state and all operands that meet the conditions named, which are on the state and the operands alone, exec answers
a next state, and the clause gives the command's main effect in it. -/
def Obligations.QueuesComplete : Prop :=
  (∀ (s : State) (d : Dev), s.dev = d →
    ∀ (p asn op : Nat) (hv : HostView) (c : Cmd), p < 128 → asn < 2 ^ 64 → Starts (d.see hv) p asn op c = true →
    ((op = 0x01 → c.part < 64 → sf c.entry 1 0 16 ≠ 0 → sf c.entry 1 0 16 ≠ c.queue → sf c.entry 1 0 16 < d.rd (qmg
    c.part).1 Reg.QMG.QUOTA (qmg c.part).2 → d.queue? c.part (sf c.entry 1 0 16) = none → 1 ≤ sf c.entry 8 0 16 → 1
    ≤ sf c.entry 8 16 16 → dw64 c.entry 2 % 4096 = 0 → dw64 c.entry 4 % 4096 = 0 → sf c.entry 9 0 11 < (d.part
    c.part).msix → ∃ t, exec (.queueCreate p asn hv) s = .next t ∧ (t.dev.queue? c.part (sf c.entry 1 0 16)).map
    (·.sqBase) = some (dw64 c.entry 2)) ∧
    (op = 0x02 → c.part < 64 → sf c.entry 1 0 16 ≠ 0 → (d.queue? c.part (sf c.entry 1 0 16)).isSome = true → ∃ t,
    exec (.queueDelete p asn hv) s = .next t ∧ t.dev.queue? c.part (sf c.entry 1 0 16) = none) ∧
    (op = 0x0C → sf c.entry 8 1 1 = 0 → sf c.entry 8 0 1 = 0 → c.part < 64 → 15 ≤ sf c.entry 9 0 16 → dw64 c.entry 2
    % 4096 = 0 → sf c.entry 10 0 11 < (d.part c.part).msix → ∃ t, exec (.eventRingSet p asn hv) s = .next t ∧
    (t.dev.part c.part).evt.map (·.base) = some (dw64 c.entry 2)) ∧
    (op = 0x0C → sf c.entry 8 1 1 = 1 → sf c.entry 8 0 1 = 0 → ∃ t, exec (.eventRingDelete p asn hv) s = .next t ∧
    (t.dev.part c.part).evt = none) ∧
    (op = 0x05 → sf c.entry 8 0 8 = 1 → 1 ≤ dwAt c.entry 9 → dwAt c.entry 9 ≤ 64 → dwAt c.entry 10 = 0 → dwAt
    c.entry 11 = 0 → dwAt c.entry 12 = 0 → ∃ t, exec (.featureSet p asn hv) s = .next t ∧ (t.dev.part c.part).burst
    = dwAt c.entry 9) ∧
    (op = 0x06 → sf c.entry 8 0 8 = 2 → sf c.entry 9 0 2 = 1 → exec (.featureGet p asn hv) s = .next (s.withDev
    ((d.see hv).succeed c ((d.part c.part).hint / 2 ^ 32)))) ∧
    (op = 0x80 → d.flushed c = true → ∃ t, exec (.flush p asn hv) s = .next t ∧ t.dev.pip = d.pip) ∧
    (op = 0x81 → sf c.entry 8 0 2 = 1 → d.ownsCtx c (dwAt c.entry 1) = true → dwAt c.entry 1 * 0x40000 ≤ dw64
    c.entry 10 → dw64 c.entry 10 + dwAt c.entry 6 ≤ dwAt c.entry 1 * 0x40000 + 0x20000 → ∃ t, exec (.write p asn hv)
    s = .next t ∧ (t.dev.cmd? p asn).map (·.phase) = some .moving) ∧
    (op = 0x82 → sf c.entry 8 0 2 = 1 → d.ownsCtx c (dwAt c.entry 1) = true → dwAt c.entry 1 * 0x40000 ≤ dw64
    c.entry 10 → dw64 c.entry 10 + dwAt c.entry 6 ≤ (dwAt c.entry 1 + 1) * 0x40000 → d.shed = 0 → ∃ t, exec (.read p
    asn hv) s = .next t ∧ (t.dev.cmd? p asn).map (·.phase) = some .moving))) ∧
  (∀ (s : State) (d : Dev), s.dev = d → d.stopped = false →
    ((∀ p < 64, ∀ q < 65536, ∀ v < 2 ^ 32, ∀ z, d.hasFn p = true → d.running = true → d.allAwake = true → d.queue? p
    q = some z → v < z.sqDepth → ∃ t, exec (.sqTail p q v) s = .next t ∧ t.dev.queue? p q = some
    { z with sqTail := v }) ∧
    (∀ p < 64, ∀ q < 65536, ∀ v < 2 ^ 32, ∀ z, d.hasFn p = true → d.running = true → d.allAwake = true → d.queue? p
    q = some z → v < z.cqDepth → (v + z.cqDepth - z.cqHead) % z.cqDepth ≤ z.unreturned → ∃ t, exec (.cqHead p q v) s
    = .next t ∧ (t.dev.queue? p q).map (·.cqHead) = some v) ∧
    (∀ p < 64, ∀ q < 65536, ∀ z, d.queue? p q = some z → z.irqEn = true → z.sinceIrq ≠ 0 → z.unreturned ≠ 0 →
    d.hasFn p = true → z.vector < (d.part p).msix → (q ≠ 0 ∨ d.vectorsOff.contains (p, 0) = false) → ∃ t, exec
    (.cqCoalesceTimeout p q) s = .next t ∧ t.dev.queue? p q = some { z with sinceIrq := 0 }) ∧
    (∀ p < 64, ∀ q < 65536, ∀ hv z e ho, d.allAwake = true → d.queue? p q = some z → (d.see hv).hasEntry p q z =
    true → (d.see hv).cqRoom p q z = true → (d.see hv).turnFor p q = some ho → (d.see hv).hostOk p (z.sqBase + 64 *
    z.sqHead) 64 = true → e = ((List.range 16).map fun y => ofLe ((d.see hv).hostRead p (z.sqBase + 64 * z.sqHead +
    4 * y) 4)) → q = 0 → adminOp (opcode e) = true → ∃ t, exec (.commandFetch p q hv) s = .next t ∧ (t.dev.part
    p).asnNext = (d.part p).asnNext + 1) ∧
    (∀ p < 64, ∀ v < 2 ^ 32, ∀ z y, d.hasFn p = true → d.running = true → d.allAwake = true → (d.part p).evt = some
    z → z.toHead v = some y → ∃ t, exec (.evtHead p v) s = .next t ∧ (t.dev.part p).evt = some { z with head := v })
    ∧
    (∀ p < 64, ∀ v < 2 ^ 32, ∀ z y, d.hasFn p = true → d.running = true → d.allAwake = true → (d.part p).ast = some
    z → z.toHead v = some y → ∃ t, exec (.astHead p v) s = .next t ∧ (t.dev.part p).ast = some { z with head := v })
    ∧
    (∀ p < 128, ∀ z y, (d.part p).evt = some z → (d.part p).lost = 0 → (d.part p).summaries = [y] → z.used + 1 + min
    64 (z.depth / 2) < z.depth → ∃ t, exec (.eventSummaryPost p) s = .next t ∧ (t.dev.part p).summaries = []) ∧
    (∀ f < 64, ∀ off < 2 ^ 26, ∀ (b : List Byte), 1 ≤ b.length → off % 4096 + b.length ≤ 4096 → d.hasFn f = true →
    d.running = true → d.allAwake = true → d.keep = false → (f = 0 ∨ d.ctxOwner (off / 0x40000) = f) → 0x1000 ≤ off
    % 0x40000 → off % 0x40000 + b.length ≤ 0x20000 → ∃ t, exec (.bar2Access f off (some (b.map some)) b.length) s =
    .next t ∧ ((seqFrom (off % 0x40000) b.length).map fun i => t.dev.paramByte (off / 0x40000) i) = b.zipIdx.map
    (fun e => e.1 &&& BitVec.ofNat 8 (Pb.mask ((off % 0x40000 + e.2) / 4) / 2 ^ (8 * ((off % 0x40000 + e.2) %
    4))))))) ∧
  (∀ (s : State) (d : Dev), s.dev = d → Ready d = true →
    ((∀ b r, d.hst.syslogQueue = b :: r → ∃ t, exec (.syslogSendTimeout) s = .next t ∧ t.dev.hst.syslogQueue = r))) ∧
  (∀ (s : State) (d : Dev), s.dev = d → ∀ f < 64, ∀ v < 2 ^ 32,
    ((∀ n < 64, Taken d f (hif n).1 (0x414 + 0x40 * (hif n).2) = true → bits v 0 1 = 1 → d.on (hif n).1
    Reg.HIF.ENABLE (hif n).2 = false → d.rd64 (hif n).1 Reg.HIF.ASQ_ADDR_LO Reg.HIF.ASQ_ADDR_HI (hif n).2 % 4096 = 0
    → d.rd64 (hif n).1 Reg.HIF.ACQ_ADDR_LO Reg.HIF.ACQ_ADDR_HI (hif n).2 % 4096 = 0 → 1 ≤ d.rd (hif n).1
    Reg.HIF.ASQ_DEPTH (hif n).2 → d.rd (hif n).1 Reg.HIF.ASQ_DEPTH (hif n).2 ≤ 4095 → 1 ≤ d.rd (hif n).1
    Reg.HIF.ACQ_DEPTH (hif n).2 → d.rd (hif n).1 Reg.HIF.ACQ_DEPTH (hif n).2 ≤ 4095 → ∃ t, exec (.hifEnable f n v) s
    = .next t ∧ t.dev.on (hif n).1 Reg.HIF.ENABLE (hif n).2 = true)))

/-- For each of 11 commands of the Remote Command Transport and its sessions, which are rctCommand, rctData, rctAck,
rctClose, rctRto, rctKeepalive, openReq, openProve, challengeExpiry, sessionTimeout, responseHoldExpiry: for every
state and all operands that meet the conditions named, which are on the state and the operands alone, exec answers
a next state, and the clause gives the command's main effect in it. -/
def Obligations.NetworkComplete : Prop :=
  (∀ (s : State) (d : Dev), s.dev = d →
    ∀ port < 2, ∀ (b : List Byte) (y : RctIn) (z : Session), rctParse b = some y → d.session? y.session = some z →
    z.state = .opened → d.portUp port = true → d.stopped = false → d.allAwake = true → (Crypto.hmac z.key
    y.covered).take 16 = y.mac → z.waiting = [] →
    ((∀ x, y.type = 0x01 → y.seq = z.rxNext % 2 ^ 32 → z.early = [] → z.unacked = [] → d.queue? z.part z.queue =
    some x → y.payload.length = 64 → d.sqRoom z.part z.queue x = true → z.part = 64 → z.queue = 0 → adminOp (opcode
    ((List.range 16).map fun i => ofLe ((y.payload.drop (4 * i)).take 4))) = true → d.hst.sessions = [(y.session,
    z)] → ∃ t, exec (.rctCommand port b) s = .next t ∧ (t.dev.part z.part).asnNext = (d.part z.part).asnNext + 1) ∧
    (∀ c, y.type = 0x03 → y.seq = z.rxNext % 2 ^ 32 → z.early = [] → z.unacked = [] → (d.hst.cmds.map (·.2)).find?
    (fun e => e.part = z.part && e.queue = z.queue && e.cid = ofLe (y.payload.take 2) && e.asn % 2 ^ 32 = ofLe
    ((y.payload.drop 4).take 4)) = some c → c.window = some (0, 8192) → 16 < y.payload.length → y.payload.length ≤
    16 + z.dataKib * 1024 → y.payload.length < 8208 → ofLe ((y.payload.drop 2).take 1) = 0 → ofLe ((y.payload.drop
    8).take 4) = 0 → c.rx = [] → d.cmd? c.part c.asn = some c → d.hst.sessions = [(y.session, z)] → ∃ t, exec
    (.rctData port b) s = .next t ∧ (t.dev.cmd? c.part c.asn).map (·.rx) = some ((y.payload.drop 16).zipIdx.map fun
    e => (e.2, e.1))) ∧
    (y.type = 0x05 → (z.txSeq + 2 ^ 32 - y.ack) % 2 ^ 32 ≤ 256 → y.sack = 0 → z.unacked.all (fun e => e.type = 2) =
    true → ∃ t, exec (.rctAck port b) s = .next t ∧ (t.dev.session? y.session).map (fun e => e.unacked.map (·.seq))
    = some ((z.unacked.filter fun e => !(1 ≤ (y.ack + 2 ^ 32 - e.seq % 2 ^ 32) % 2 ^ 32 && (y.ack + 2 ^ 32 - e.seq %
    2 ^ 32) % 2 ^ 32 ≤ 256)).map (·.seq))) ∧
    (y.type = 0x14 → y.seq = z.rxNext % 2 ^ 32 → z.early = [] → z.unacked = [] → 0 < d.outstanding z.part z.queue →
    ∃ t, exec (.rctClose port b) s = .next t ∧ (t.dev.session? y.session).map (·.state) = some .closing))) ∧
  (∀ (s : State) (d : Dev), s.dev = d → d.stopped = false →
    ((∀ id < 2 ^ 16, ∀ n < 2 ^ 64, ∀ z y, d.session? id = some z → z.state = .opened → z.unacked.find? (fun e =>
    e.seq = n && !e.sack) = some y → y.tries < 15 → ∃ t, exec (.rctRto id n) s = .next t ∧ t.dev.session? id = some
    { z with unacked := z.unacked.map fun e => if e.seq = n then { e with tries := e.tries + 1 } else e }) ∧
    (∀ id < 2 ^ 16, ∀ z, d.session? id = some z → z.state = .opened → ∃ t, exec (.rctKeepalive id) s = .next t ∧
    Out.rct z.port z.addr (rctPacket z id 5 0 []) ∈ t.dev.outs) ∧
    (∀ port < 2, ∀ id < 65536, ∀ addr b y, d.allAwake = true → rctParse b = some y → d.portUp port = true → y.type =
    0x10 → y.session = 0 → y.payload.length = 24 → 1 ≤ ofLe ((y.payload.drop 6).take 2) → ofLe ((y.payload.drop
    6).take 2) ≤ 8 → Assoc.find d.hst.ignored addr = none → id = freeSession (d.hst.sessions.map (·.1))
    (d.hst.sessions.length + 1) 1 → ∃ t, exec (.openReq port addr b) s = .next t ∧ (t.dev.session? id).map (·.state)
    = some .challenged) ∧
    (∀ port < 2, ∀ addr b y z, d.allAwake = true → rctParse b = some y → d.session? y.session = some z → d.portUp
    port = true → y.type = 0x12 → z.state = .challenged → y.payload.length = 32 → d.proofResult y.session z
    y.payload = 0 → (z.queue ≠ 0 ∨ (d.part z.part).evt = none ∧ (d.part z.part).ast = none) → d.hst.sessions.any
    (fun e => e.2.part = z.part && e.2.queue = z.queue && e.2.state = .hold) = false → ∃ t, exec (.openProve port
    addr b) s = .next t ∧ (t.dev.session? y.session).map (·.state) = some .opened))) ∧
  (∀ (s : State) (d : Dev), s.dev = d → Ready d = true →
    ((∀ id < 2 ^ 16, ∀ z, d.session? id = some z → z.state = .challenged → ∃ t, exec (.challengeExpiry id) s = .next
    t ∧ t.dev.session? id = none) ∧
    (∀ id < 2 ^ 16, ∀ z, d.session? id = some z → z.state = .opened → ∃ t, exec (.sessionTimeout id) s = .next t ∧
    (t.dev.session? id).map (·.state) = some .hold) ∧
    (∀ id < 2 ^ 16, ∀ z, d.session? id = some z → z.state = .hold → ∃ t, exec (.responseHoldExpiry id) s = .next t ∧
    t.dev.session? id = none)))

/-- For each of 13 commands of partitions, resources, logs, aborts and assists, which are identify, logRead,
partitionConfig, partitionSetKey, partitionReset, returnCapture, pageOwner, vfEnable, resourceAssign, abort,
assistReply, assistDeadline, dataTransferEnd: for every state and all operands that meet the conditions named,
which are on the state and the operands alone, exec answers a next state, and the clause gives the command's main
effect in it. -/
def Obligations.AdministrationComplete : Prop :=
  (∀ (s : State) (d : Dev), s.dev = d →
    ∀ (p asn op : Nat) (hv : HostView) (c : Cmd), p < 128 → asn < 2 ^ 64 → Starts (d.see hv) p asn op c = true →
    ((op = 0x03 → ∃ t, exec (.identify p asn hv) s = .next t ∧ (t.dev.cmd? p asn).map (·.phase) = some .moving) ∧
    (op = 0x04 → 1 ≤ sf c.entry 8 0 8 → sf c.entry 8 0 8 ≤ 3 → ∃ t, exec (.logRead p asn hv) s = .next t ∧
    (t.dev.cmd? p asn).map (·.phase) = some .moving) ∧
    (op = 0x0A → pcKey c = false → pcReset c = false → d.pcValid c = true → ∃ t, exec (.partitionConfig p asn hv) s
    = .next t ∧ (t.dev.part (pcPart c)).enable = decide (sf c.entry 8 0 1 = 1)) ∧
    (op = 0x0A → pcKey c = true → d.pcValid c = true → ∃ t, exec (.partitionSetKey p asn hv) s = .next t ∧
    (t.dev.cmd? p asn).map (·.phase) = some .moving) ∧
    (op = 0x0A → pcKey c = false → pcReset c = true → d.pcValid c = true → pcPart c ≠ c.part → d.pip.assists = [] →
    ∃ t, exec (.partitionReset p asn hv) s = .next t ∧ t.dev.rd Pg.RST Reg.RST.PART_RESET_CNT = (d.rd Pg.RST
    Reg.RST.PART_RESET_CNT + 1) % 2 ^ Reg.RST.PART_RESET_CNT.width) ∧
    (op = 0x0D → d.returnSize ≤ dwAt c.entry 6 → ∃ t, exec (.returnCapture p asn hv) s = .next t ∧ (t.dev.cmd? p
    asn).map (·.phase) = some .moving) ∧
    (op = 0x0B → sf c.entry 8 0 4 = 5 → d.assignField (sf c.entry 1 0 7) 5 (sf c.entry 8 16 16) (dwAt c.entry 9) =
    false → d.assignBusy (sf c.entry 1 0 7) 5 (sf c.entry 8 16 16) (dwAt c.entry 9) = false → d.assignOver (sf
    c.entry 1 0 7) 5 (sf c.entry 8 16 16) (dwAt c.entry 9) = false → ∃ t, exec (.resourceAssign p asn hv) s = .next
    t ∧ t.dev.rd (qmg (sf c.entry 1 0 7)).1 Reg.QMG.QUOTA (qmg (sf c.entry 1 0 7)).2 = dwAt c.entry 9) ∧
    (op = 0x0E → (d.cmdsOf p).filter (fun y => y.queue = sf c.entry 8 0 16 && y.cid = sf c.entry 8 16 16 && y.asn ≠
    asn) = [] → exec (.abort p asn hv) s = .next (s.withDev ((d.see hv).succeed c 0))) ∧
    (∀ a, op = 0x98 → (d.pip.assists.find? fun y => y.part = p && y.tag = sf c.entry 1 0 16 && y.func = sf c.entry 1
    16 8) = some a → a.func = 8 → replyClear 8 (fun i => dwAt c.entry (8 + i)) = true → bitAt (dwAt c.entry 8) 0 =
    false → 1 ≤ sf c.entry 9 0 3 → sf c.entry 9 0 3 ≤ d.permitted a.object → d.powerState a.object = 1 → Assoc.find
    d.pow.leaving a.object = none → Assoc.find d.pow.entering a.object = none → ∃ t, exec (.assistReply p asn hv) s
    = .next t ∧ t.dev.pip.assists = d.pip.assists.filter fun y => !(y.part = a.part && y.tag = a.tag)))) ∧
  (∀ (s : State) (d : Dev), s.dev = d → d.stopped = false →
    ((∀ n < 64, d.hostLink = true → d.running = true → ∃ t, exec (.vfEnable n) s = .next t ∧ t.dev.hst.numVfs = n))) ∧
  (∀ (s : State) (d : Dev), s.dev = d → Ready d = true →
    ((∀ part < 128, ∀ tag < 65536, ∀ a, (d.pip.assists.find? fun y => y.part = part && y.tag = tag) = some a →
    a.func = 5 → d.on a.page Reg.HDR.FALLBACK = false → ∃ t, exec (.assistDeadline part tag) s = .next t ∧
    t.dev.pip.assists = d.pip.assists.filter fun y => !(y.part = a.part && y.tag = a.tag)))) ∧
  (∀ (s : State) (d : Dev), s.dev = d → ∀ f < 64, ∀ v < 2 ^ 32,
    ((∀ pg < 256, Taken d f pg 0xC = true → Pg.ownKind pg = 1 → v % 128 < 64 → d.pip.assists = [] → ∃ t, exec
    (.pageOwner f pg v) s = .next t ∧ t.dev.rd pg Reg.HDR.OWNER = v % 128))) ∧
  (∀ (s : State) (d : Dev), s.dev = d →
    ((∀ p < 128, ∀ asn < 2 ^ 64, ∀ luma < 2 ^ 64, ∀ k hv c, Moves (d.see hv) p asn 0x81 c = true → p < 64 → sf
    c.entry 8 0 2 = 1 → sf c.entry 0 8 1 = 0 → k = dwAt c.entry 1 → (d.see hv).hostOk p (dw64 c.entry 2) (dwAt
    c.entry 6) = true → k * 0x40000 + 0x1000 ≤ dw64 c.entry 10 → dw64 c.entry 10 + dwAt c.entry 6 ≤ k * 0x40000 +
    0x20000 → ∃ t, exec (.dataTransferEnd p asn hv luma) s = .next t ∧ ((seqFrom (paramOff c) (dwAt c.entry 6)).map
    fun i => t.dev.paramByte k i) = ((d.see hv).hostRead p (dw64 c.entry 2) (dwAt c.entry 6)).zipIdx.map (fun e =>
    e.1 &&& BitVec.ofNat 8 (Pb.mask ((paramOff c + e.2) / 4) / 2 ^ (8 * ((paramOff c + e.2) % 4)))))))

/-- For each of 22 commands of power states, heat, firmware and boot, which are groupIdle, calendarEntryDue,
powerStateEntryEnd, powerStateExitEnd, grpMax, keepEntry, keepWake, sensorSample, throttleStep, shedStep, tjFail,
fwStage, fwActivate, standbyReady, handover, handoverTimeout, standbyRestart, mgmtPairFailure, bootSourceTry,
bootGo, hostWaitTimeout, bootBackoff: for every state and all operands that meet the conditions named, which are
on the state and the operands alone, exec answers a next state, and the clause gives the command's main effect in
it. -/
def Obligations.PowerComplete : Prop :=
  (∀ (s : State) (d : Dev), s.dev = d →
    ∀ (p asn op : Nat) (hv : HostView) (c : Cmd), p < 128 → asn < 2 ^ 64 → Starts (d.see hv) p asn op c = true →
    ((op = 0x08 → 4096 ≤ dwAt c.entry 6 → dwAt c.entry 6 ≤ 2 ^ 20 → dwAt c.entry 6 % 4096 = 0 → dwAt c.entry 9 %
    4096 = 0 → dwAt c.entry 9 + dwAt c.entry 6 ≤ 2 ^ 26 → d.slotRuns (sf c.entry 8 0 1) = false → d.jnl.activation =
    none → (sf c.entry 8 1 1 = 1 ∨ d.slotState (sf c.entry 8 0 1) = 1) → ∃ t, exec (.fwStage p asn hv) s = .next t ∧
    (t.dev.cmd? p asn).map (·.phase) = some .moving) ∧
    (op = 0x09 → d.jnl.activation = none → d.jnl.failedPairs = [] → d.slotState (sf c.entry 8 0 1) = 2 → imageKind
    (d.fwSlot (sf c.entry 8 0 1)).bytes ≠ 1 → ∃ t, exec (.fwActivate p asn hv) s = .next t ∧ t.dev.rd Pg.FWM
    Reg.FWM.ACT_STATE = 1))) ∧
  (∀ (s : State) (d : Dev), s.dev = d → d.stopped = false →
    ((∀ g < 32, ∀ x l, 0 < g → d.keep = false → d.powerState g = 0 → Assoc.has d.pow.groups g = false → Assoc.has
    d.pow.entering 32 = false → (groupPages g).any d.busy = false → d.assisted Pg.PWR = false → x = (d.calendarShow
    l).chooseState g (((d.calendarShow l).nextEvent g l).map fun y => y - d.ns) → ∃ t, exec (.groupIdle g l) s =
    .next t ∧ t.dev.powerState g = min x 1) ∧
    (∀ g < 32, ∀ u x l, Assoc.find d.pow.groups g = some x → Assoc.has d.pow.entering g = false → Assoc.has
    d.pow.leaving g = false → (d.calendarShow l).nextEvent g l = some u → u ≤ d.ns + d.guardNs + d.exitNs x → ∃ t,
    exec (.calendarEntryDue g l) s = .next t ∧ Assoc.find t.dev.pow.leaving g = some ⟨x, 0, d.elapsed, some u⟩) ∧
    (∀ g ≤ 32, ∀ x ≤ 3, Assoc.find d.pow.entering g = some x → 1 ≤ x → ∃ t, exec (.powerStateEntryEnd g) s = .next t
    ∧ t.dev.powerState g = x) ∧
    (∀ g < 32, ∀ x, Assoc.find d.pow.leaving g = some x → x.state ≤ 4 → x.reason < 8 → x.due = none → ∃ t, exec
    (.powerStateExitEnd g) s = .next t ∧ Assoc.has t.dev.pow.groups g = false) ∧
    (∀ l, d.keep = false → Assoc.has d.pow.entering 32 = false → (d.calendarShow l).keepOk l = true → ∃ t, exec
    (.keepEntry l) s = .next t ∧ Assoc.find t.dev.pow.entering 32 = some 4) ∧
    (∀ r < 8, Assoc.has d.pow.entering 32 = false → Assoc.find d.pow.groups 32 = some 4 → Assoc.has d.pow.leaving 32
    = false → ∃ t, exec (.keepWake r) s = .next t ∧ Assoc.find t.dev.pow.leaving 32 = some ⟨4, r, d.elapsed, none⟩)
    ∧
    (∀ i < 61, ∀ l x, l.length = 61 → l.all (fun y => y.isSome) = true → l.all (fun y => decide (-880 ≤ y.getD 0) &&
    decide (y.getD 0 < 16 * (d.rd Pg.THM Reg.THM.TRIP_C : Int)) && decide (y.getD 0 < 2240)) = true → d.rd Pg.THM
    Reg.THM.TRIP_MODE = 0 → d.allAwake = true → l[i]? = some (some x) → d.brokenSensor i = false → (d.sensor i).code
    ≠ some x → ∃ t, exec (.sensorSample l) s = .next t ∧ t.dev.reading i = x) ∧
    (∀ g < 32, unthrottled g = false → d.powerState g = 0 → g ∈ d.pow.hot → d.level g < 10 → d.assisted Pg.THM =
    false → ∃ t, exec (.throttleStep g) s = .next t ∧ t.dev.level g = d.level g + 1) ∧
    (d.shedCond = true → d.shed < 4 → d.assisted Pg.THM = false → ∃ t, exec (.shedStep) s = .next t ∧ t.dev.shed =
    d.shed + 1) ∧
    (∀ a, d.held Pg.FWM = false → d.jnl.activation = some a → d.rd Pg.FWM Reg.FWM.ACT_STATE = 1 → ∃ t, exec
    (.standbyReady) s = .next t ∧ t.dev.rd Pg.FWM Reg.FWM.ACT_STATE = 2) ∧
    (∀ k < 2, d.held Pg.FWM = false → d.jnl.activation = none → d.pair k = 2 → ∃ t, exec (.standbyRestart) s = .next
    t ∧ t.dev.pair k = 1) ∧
    (∀ k < 2, d.jnl.activation = none → d.pair k = 0 → d.pair (1 - k) ≠ 3 → ∃ t, exec (.mgmtPairFailure k) s = .next
    t ∧ t.dev.pair k = 3) ∧
    (∀ r, d.mayBoot = true → d.brd.stage = 1 → d.brd.sources = 0 :: r → ∃ t, exec (.bootSourceTry false {}) s =
    .next t ∧ t.dev.rd Pg.SYS Reg.SYS.FAIL_A = 5) ∧
    (∀ f < 64, ∀ v < 2 ^ 32, d.hasFn f = true → f = 0 → d.allAwake = true → bitAt v 0 = true → d.brd.stage = 2 → ∃
    t, exec (.bootGo f v) s = .next t ∧ t.dev.rd Pg.SYS Reg.SYS.STAGE = 3) ∧
    (∀ r, d.brd.stage = 2 → d.brd.sources = 2 :: r → ∃ t, exec (.hostWaitTimeout) s = .next t ∧ t.dev.rd Pg.SYS
    Reg.SYS.FAIL_HOST = 6) ∧
    (d.brd.stage = 4 → d.bootSources (d.rd Pg.SYS Reg.SYS.BOOT_SEL) ≠ [] → ∃ t, exec (.bootBackoff) s = .next t ∧
    t.dev.rd Pg.SYS Reg.SYS.ATTEMPT_CNT = (d.rd Pg.SYS Reg.SYS.ATTEMPT_CNT + 1) % 2 ^ 32))) ∧
  (∀ (s : State) (d : Dev), s.dev = d → Ready d = true →
    ((∀ a, d.held Pg.FWM = false → d.jnl.activation = some a → 2 ≤ d.rd Pg.FWM Reg.FWM.ACT_STATE → a.pair < 2 →
    a.slot < 2 → ∃ t, exec (.handover) s = .next t ∧ t.dev.pair a.pair = 0) ∧
    (∀ a, d.held Pg.FWM = false → d.jnl.activation = some a → 2 ≤ d.rd Pg.FWM Reg.FWM.ACT_STATE → a.pair < 2 →
    a.slot < 2 → ∃ t, exec (.handoverTimeout) s = .next t ∧ t.dev.pair a.pair = 1))) ∧
  (∀ (s : State) (d : Dev), s.dev = d → ∀ f < 64, ∀ v < 2 ^ 32,
    ((∀ k < 4, Taken d f Pg.PWR (0x120 + 4 * k) = true → ∃ t, exec (.grpMax f k v) s = .next t ∧ t.dev.rd Pg.PWR
    Reg.PWR.GRP_MAX k = (v &&& (if k = 0 then 0x77777770 else 0x77777777))) ∧
    (Taken d f Pg.THM 0x110 = true → d.rd Pg.THM Reg.THM.THROT_C < bits v 0 8 → bits v 0 8 < d.rd Pg.THM
    Reg.THM.TRIP_C → exec (.tjFail f v) s = .next (s.withDev (d.wr Pg.THM Reg.THM.TJ_FAIL (bits v 0 8))))))

/-- For each of 23 commands of resets, power loss, faults and failures, which are perstN, perstNDeassert,
pcieHotReset, rstCtrlDev, functionLevelReset, pwrfailN, pwrfailNDeassert, shutdown, pwrOkFall, brownOut,
pwrOkRise, hbmRetire, stackInterfaceLoss, mirrorRestored, hbmEccError, sramError, mramUncorr, spineParityError,
pllLossOfLock, pllRelock, ethernetLinkDown, ethernetLinkUp, portInService: for every state and all operands that
meet the conditions named, which are on the state and the operands alone, exec answers a next state, and the
clause gives the command's main effect in it. -/
def Obligations.FaultsComplete : Prop :=
  (∀ (s : State) (d : Dev), s.dev = d → d.stopped = false →
    ((∀ f < 64, d.hasFn f = true → d.pip.assists = [] → ∃ t, exec (.functionLevelReset f) s = .next t ∧ t.dev.rd
    Pg.RST Reg.RST.PART_RESET_CNT = (d.rd Pg.RST Reg.RST.PART_RESET_CNT + 1) % 2 ^ Reg.RST.PART_RESET_CNT.width) ∧
    (∀ n < 4, d.stackLive n = true → d.cap.frames = [] → ∃ t, exec (.stackInterfaceLoss n) s = .next t ∧ t.dev.rd
    (Pg.HBM n) Reg.HBM.STATE = 3) ∧
    (∀ n < 4, d.rd (Pg.HBM n) Reg.HBM.STATE = 3 → ∃ t, exec (.mirrorRestored n) s = .next t ∧ t.dev.rd (Pg.HBM n)
    Reg.HBM.STATE = 4) ∧
    (∀ n < 4, ∀ row k a b, d.stackLive n = true → ∃ t, exec (.hbmEccError n row true k a b) s = .next t ∧ t.dev.rd
    (Pg.HBM n) Reg.HBM.ECC_CORR_CNT = min (d.rd (Pg.HBM n) Reg.HBM.ECC_CORR_CNT + 1) (2 ^ Reg.HBM.ECC_CORR_CNT.width
    - 1)) ∧
    (∀ pg < 256, ∀ m row x, Pg.isPage pg = true → (Pg.family pg).1 = 0x42 → (d.jnl.sramRows.any fun e => e.1 = m &&
    e.2.1 = row) = false → ∃ t, exec (.sramError m row pg true x []) s = .next t ∧ t.dev.rd pg
    Reg.YPT_B.ECC_CORR_CNT = min (d.rd pg Reg.YPT_B.ECC_CORR_CNT + 1) (2 ^ Reg.YPT_B.ECC_CORR_CNT.width - 1)) ∧
    (∀ i, i < d.jnl.ledger.length → ∃ t, exec (.mramUncorr (some i)) s = .next t ∧ (t.dev.jnl.ledger.map (·.ok)) =
    (d.jnl.ledger.map (·.ok)).set i false) ∧
    (∀ n < 4, exec (.spineParityError n false) s = .next (s.withDev (d.bump (Pg.SPN n) Reg.SPN.PARITY_ERR))) ∧
    (∀ p < 2, ∀ i < 4, d.rd (netPort p) Reg.NETP.LINK_UP = 2 ^ i → p ∉ d.hst.portsDown → d.hst.sessions = [] → ∃ t,
    exec (.ethernetLinkDown p i 0) s = .next t ∧ t.dev.rd (netPort p) Reg.NETP.LINK_UP = 0) ∧
    (∀ p < 2, ∀ i < 4, d.held (netPort p) = false → bitAt (d.rd (netPort p) Reg.NETP.LINK_UP) i = false → i < 2 ^
    min 2 (d.rd (netPort p) Reg.NETP.BREAKOUT) → d.rd (netPort p) Reg.NETP.LINK_UP = 0 → ∃ t, exec (.ethernetLinkUp
    p i) s = .next t ∧ t.dev.rd (netPort p) Reg.NETP.LINK_UP = 2 ^ i) ∧
    (∀ p < 2, d.rd (netPort p) Reg.NETP.LINK_UP ≠ 0 → ∃ t, exec (.portInService p) s = .next t ∧ p ∉
    t.dev.hst.portsDown))) ∧
  (∀ (s : State) (d : Dev), s.dev = d → Ready d = true →
    ((d.hostLink = true → ∃ t, exec (.pcieHotReset) s = .next t ∧ t.dev.rd Pg.NVS Reg.NVS.EPOCH = (d.rd Pg.NVS
    Reg.NVS.EPOCH + 1) % 2 ^ Reg.NVS.EPOCH.width))) ∧
  (∀ (s : State) (d : Dev), s.dev = d → d.pow.tripped = false →
    ((d.pow.off = false → d.brd.perst = false → d.jnl.powerLoss = false → ∃ t, exec (.perstN) s = .next t ∧ t.dev.rd
    Pg.NVS Reg.NVS.EPOCH = (d.rd Pg.NVS Reg.NVS.EPOCH + 1) % 2 ^ Reg.NVS.EPOCH.width) ∧
    (∀ n < 4, d.pow.off = false → d.brd.perst = true → ∃ t, exec (.perstNDeassert n) s = .next t ∧ t.dev.brd.perst =
    false) ∧
    (d.pow.off = false → d.jnl.powerLoss = false → d.jnl.image = false → exec (.pwrfailN) s = .next (s.withDev
    (({ d with hst := { d.hst with fetchStopped := true }, jnl := { d.jnl with powerLoss := true, powerLossReset := false, waitingCause := 0 } }
    : Dev).wakeGroup 32 7))) ∧
    (d.pow.off = false → d.jnl.powerLoss = true → exec (.pwrfailNDeassert) s = .next (s.withDev
    ({ d with jnl := { d.jnl with powerLossReset := true } }))) ∧
    (∀ crc < 2 ^ 32, ∀ ms < 256, d.pow.off = false → d.jnl.powerLoss = true → d.jnl.powerLossReset = false →
    d.jnl.waitingCause = 0 → d.brd.perst = false → ∃ t, exec (.shutdown crc ms) s = .next t ∧ t.dev.jnl.image =
    true) ∧
    (∀ n < 4, ∀ x m, d.pow.off = true → ∃ t, exec (.pwrOkRise n x m false) s = .next t ∧ t.dev.rd Pg.NVS
    Reg.NVS.EPOCH = (d.rd Pg.NVS Reg.NVS.EPOCH + 1) % 2 ^ Reg.NVS.EPOCH.width) ∧
    (∀ n < 4, ∀ k, hasPll n k = true → d.pow.off = false → d.jnl.image = false → (n, k) ∉ d.pow.lost → d.cap.groups
    = [] → d.hst.sessions = [] → ∃ t, exec (.pllLossOfLock n k) s = .next t ∧ t.dev.pow.lost = d.pow.lost ++ [(n,
    k)]))) ∧
  (∀ (s : State) (d : Dev), s.dev = d → ∀ f < 64, ∀ v < 2 ^ 32,
    ((Taken d f Pg.SYS 0x148 = true → bitAt v 0 = true → d.jnl.powerLoss = false → ∃ t, exec (.rstCtrlDev f v) s =
    .next t ∧ t.dev.rd Pg.NVS Reg.NVS.EPOCH = (d.rd Pg.NVS Reg.NVS.EPOCH + 1) % 2 ^ Reg.NVS.EPOCH.width) ∧
    (∀ n < 4, Taken d f (Pg.HBM n) 0x114 = true → bitAt v 0 = true → d.stackLive n = true → d.cap.frames = [] → ∃ t,
    exec (.hbmRetire f n v) s = .next t ∧ t.dev.rd (Pg.HBM n) Reg.HBM.STATE = 3))) ∧
  (∀ (s : State) (d : Dev), s.dev = d →
    ((d.pow.off = false → exec (.pwrOkFall) s = .next (s.withDev
    ({ d with pow := { d.pow with off := true, brown := false } }))) ∧
    (d.pow.off = false → exec (.brownOut) s = .next (s.withDev
    ({ d with pow := { d.pow with off := true, brown := true } }))) ∧
    (∀ n < 4, ∀ k < 8, exec (.pllRelock n k) s = .next (s.withDev
    ({ d with pow := { d.pow with lost := d.pow.lost.filter (· ≠ (n, k)) } })))))

/-- For every running device whose groups are awake, pin and new level, an edge makes IN show the level; when that
edge is enabled EDGE_NS takes the Timebase and INT_STAT bit i is raised; nothing else changes. A host-owned UART
with room takes a byte to send; the oldest byte leaves, and the last one raises INT_STAT bit 1; a received byte
joins the receive FIFO, is lost when 64 wait, and RX_DATA takes the oldest. A GO on an idle I2C mailbox starts a
transfer, whose end reports result and count and raises INT_STAT bit 0; committing XSP makes MAX_MHZ non-volatile.
Beside its values each such clause says what stays as it was: the registers of all other pages and the other parts
of the device, but for what events, interrupts and ledger records reach where it says Framed. -/
def Obligations.BoardInterfaces : Prop :=
  (∀ (s : State) (ix : Nat) (high : Bool), ix < 16 → s.dev.stopped = false → s.dev.allAwake = true →
    bitAt (s.dev.rd Pg.GPI Reg.GPI.IN) ix = !high →
    bitAt (s.dev.rd Pg.GPI (if high then Reg.GPI.EDGE_RISE else Reg.GPI.EDGE_FALL)) ix = false →
    exec (.gpioEdge ix high) s = .next (s.withDev (s.dev.wr Pg.GPI Reg.GPI.IN (setBits (s.dev.rd Pg.GPI Reg.GPI.IN)
    ix 1 (b2n high))))) ∧
  (∀ (s : State) (ix : Nat) (high : Bool), ix < 16 → s.dev.stopped = false → s.dev.allAwake = true →
    bitAt (s.dev.rd Pg.GPI Reg.GPI.IN) ix = !high →
    bitAt (s.dev.rd Pg.GPI (if high then Reg.GPI.EDGE_RISE else Reg.GPI.EDGE_FALL)) ix = true →
    exec (.gpioEdge ix high) s = .next (s.withDev (((s.dev.wr Pg.GPI Reg.GPI.IN (setBits (s.dev.rd Pg.GPI
    Reg.GPI.IN) ix 1 (b2n high))).wr64 Pg.GPI Reg.GPI.EDGE_NS_LO Reg.GPI.EDGE_NS_HI s.dev.ns ix).raise Pg.GPI ix))) ∧
  (∀ (s : State) (f v : Nat), f < 64 → v < 2 ^ 32 → Taken s.dev f Pg.UAR 0x104 = true →
    s.dev.on Pg.UAR Reg.UAR.HOST_OWN = true → s.dev.brd.uartTx.length < 64 →
    exec (.txData f v) s = .next (s.withDev
    ({ s.dev with brd := { s.dev.brd with uartTx := s.dev.brd.uartTx ++ [BitVec.ofNat 8 (v % 256)], uartHeld := if s.dev.on Pg.UAR Reg.HDR.EN then s.dev.brd.uartHeld else s.dev.brd.uartHeld + 1 } }))) ∧
  (∀ (s : State) (b e : Byte) (r : List Byte), s.dev.stopped = false → s.dev.brd.uartTx = b :: e :: r →
    s.dev.brd.uartHeld < r.length + 2 →
    exec (.uartCharacterSent) s = .next (s.withDev (({ s.dev with brd := { s.dev.brd with uartTx := e :: r } } :
    Dev).emit (.uart b)))) ∧
  (∀ (s : State) (b : Byte), s.dev.stopped = false → s.dev.brd.uartTx = [b] → s.dev.brd.uartHeld = 0 →
    exec (.uartCharacterSent) s = .next (s.withDev ((({ s.dev with brd := { s.dev.brd with uartTx := [] } } :
    Dev).emit (.uart b)).raise Pg.UAR 1))) ∧
  (∀ (s : State) (b : Byte), s.dev.stopped = false → s.dev.allAwake = true → s.dev.brd.uartRx.length < 64 →
    exec (.uartReceive b false) s = .next (s.withDev
    (({ s.dev with brd := { s.dev.brd with uartRx := s.dev.brd.uartRx ++ [b] } } : Dev).raise Pg.UAR 0))) ∧
  (∀ (s : State) (b : Byte), s.dev.stopped = false → s.dev.allAwake = true → 64 ≤ s.dev.brd.uartRx.length →
    exec (.uartReceive b false) s = .next (s.withDev (s.dev.bump Pg.UAR Reg.UAR.RX_OVF_CNT))) ∧
  (∀ (s : State) (b : Byte), s.dev.stopped = false → s.dev.allAwake = true →
    exec (.uartReceive b true) s = .next (s.withDev (s.dev.bump Pg.UAR Reg.UAR.FRAME_ERR_CNT))) ∧
  (∀ (s : State) (f : Nat) (b : Byte) (r : List Byte), f < 64 → Readable s.dev f Pg.UAR 0x108 = true →
    Assoc.find s.dev.latched (halfKey f Pg.UAR 0x108) = none → s.dev.brd.uartRx = b :: r →
    exec (.rxData f) s = .next (s.withDev
    ({ s.dev with brd := { s.dev.brd with uartRx := r }, reply := [b.toNat + 256] }))) ∧
  (∀ (s : State) (f n v : Nat), f < 64 → n < 2 → v < 2 ^ 32 → Taken s.dev f (Pg.I2C n) 0x104 = true →
    s.dev.on (Pg.I2C n) Reg.I2C.BUSY = false → bitAt v 31 = true → (n = 1 ∨ bits v 0 7 ≠ 0x40) →
    ∃ t, exec (.i2cTransfer f n v) s = .next t ∧ Framed [Pg.I2C n]
    { s.dev with brd := t.dev.brd, outs := t.dev.outs } t.dev ∧ (Assoc.find t.dev.brd.i2c n = some (bits v 0 7, bits
    v 8 5, bits v 16 5) ∧ t.dev.brd.i2cHeld = (if s.dev.on (Pg.I2C n) Reg.HDR.EN then s.dev.brd.i2cHeld else n ::
    s.dev.brd.i2cHeld) ∧ t.dev.rd (Pg.I2C n) Reg.I2C.BUSY = 1 ∧ (s.dev.on (Pg.I2C n) Reg.HDR.EN = true → Out.i2c n
    (bits v 0 7) ((s.dev.i2cData n).take (bits v 8 5)) (bits v 16 5) ∈ t.dev.outs))) ∧
  (∀ (s : State) (f v : Nat), f < 64 → v < 2 ^ 32 → Taken s.dev f (Pg.I2C 0) 0x104 = true →
    s.dev.on (Pg.I2C 0) Reg.I2C.BUSY = false → bitAt v 31 = true → bits v 0 7 = 0x40 →
    ∃ t, exec (.i2cTransfer f 0 v) s = .next t ∧ Framed [Pg.I2C 0] { s.dev with brd := t.dev.brd } t.dev ∧
    t.dev.brd.i2c = s.dev.brd.i2c ∧ bitAt (t.dev.rd (Pg.I2C 0) Reg.HDR.ERR_STAT) 0 = true) ∧
  (∀ (s : State) (n result count a w r : Nat) (data : List Byte), n < 2 → result < 4 → count < 32 →
    s.dev.stopped = false → s.dev.brd.i2cHeld.contains n = false → Assoc.find s.dev.brd.i2c n = some (a, w, r) →
    ∃ t, exec (.i2cTransferEnd n result count data) s = .next t ∧ Framed [Pg.I2C n] { s.dev with brd := t.dev.brd }
    t.dev ∧ Assoc.find t.dev.brd.i2c n = none ∧ t.dev.rd (Pg.I2C n) Reg.I2C.BUSY = 0 ∧ t.dev.rd (Pg.I2C n)
    Reg.I2C.DONE = 1 ∧ t.dev.rd (Pg.I2C n) Reg.I2C.RESULT = result ∧ bitAt (t.dev.rd (Pg.I2C n) Reg.HDR.INT_STAT) 0
    = true) ∧
  (∀ (s : State) (f v : Nat), f < 64 → v < 2 ^ 32 → Taken s.dev f Pg.XSP 0x110 = true → bitAt v 0 = true →
    exec (.xspCommit f v) s = .next (s.withDev
    ({ s.dev with brd := { s.dev.brd with maxMhz := s.dev.rd Pg.XSP Reg.XSP.MAX_MHZ } })))

/-- The first acknowledged AVS command makes AVS_MV the fused target; a later one within 5 mV is taken when
acknowledged and otherwise sets AVS_FAIL with a FAULT event; an acknowledged retry clears AVS_FAIL. A TAP
instruction loads, and a restricted one outside PERST_N falls back to BYPASS. Beside its values each such clause
says what stays as it was: the registers of all other pages and the other parts of the device, but for what
events, interrupts and ledger records reach where it says Framed. -/
def Obligations.CoreVoltage : Prop :=
  (∀ (s : State) (mv : Nat), 650 ≤ mv → mv ≤ 800 → s.dev.stopped = false → s.dev.brd.avsAcked = false →
    s.dev.brd.stage = 0 →
    ∃ t, exec (.avsCommand mv true) s = .next t ∧ Still [Pg.SYS] { s.dev with brd := t.dev.brd } t.dev ∧
    t.dev.brd.avsAcked = true ∧ t.dev.rd Pg.SYS Reg.SYS.AVS_MV = mv ∧ t.dev.rd Pg.SYS Reg.SYS.AVS_FAIL = 0 ∧
    t.dev.brd.stage = 0) ∧
  (∀ (s : State) (mv : Nat), 650 ≤ mv → mv ≤ 800 → s.dev.stopped = false → s.dev.brd.avsAcked = true →
    s.dev.on Pg.SYS Reg.SYS.AVS_FAIL = false → s.dev.rd Pg.SYS Reg.SYS.AVS_MV ≤ mv + 5 →
    mv ≤ s.dev.rd Pg.SYS Reg.SYS.AVS_MV + 5 →
    ∃ t, exec (.avsCommand mv true) s = .next t ∧ Framed [] { s.dev with brd := t.dev.brd } t.dev ∧ t.dev.rd Pg.SYS
    Reg.SYS.AVS_MV = mv ∧ t.dev.rd Pg.SYS Reg.SYS.AVS_FAIL = 0) ∧
  (∀ (s : State) (mv : Nat), 650 ≤ mv → mv ≤ 800 → s.dev.stopped = false → s.dev.brd.avsAcked = true →
    s.dev.on Pg.SYS Reg.SYS.AVS_FAIL = false → s.dev.rd Pg.SYS Reg.SYS.AVS_MV ≤ mv + 5 →
    mv ≤ s.dev.rd Pg.SYS Reg.SYS.AVS_MV + 5 →
    exec (.avsCommand mv false) s = .next (s.withDev ((s.dev.wr Pg.SYS Reg.SYS.AVS_FAIL 1).event 0 Pg.SYS FAULT
    0x090F))) ∧
  (∀ (s : State) (mv : Nat), s.dev.stopped = false → s.dev.brd.stage ≠ 7 → s.dev.on Pg.SYS Reg.SYS.AVS_FAIL = true →
    ∃ t, exec (.avsRetry mv true) s = .next t ∧ Still [Pg.SYS] { s.dev with brd := t.dev.brd } t.dev ∧ t.dev.rd
    Pg.SYS Reg.SYS.AVS_FAIL = 0 ∧ t.dev.rd Pg.SYS Reg.SYS.AVS_MV = s.dev.rd Pg.SYS Reg.SYS.AVS_MV) ∧
  (∀ (s : State) (k : Nat), k < 8 → s.dev.stopped = false → (k < 3 ∨ s.dev.brd.perst = true) →
    exec (.jtagInstruction k) s = .next (s.withDev
    ({ s.dev with reply := [if s.dev.brd.jtagFell then 5 else 1], brd := { s.dev.brd with jtag := k, jtagFell := false } }))) ∧
  (∀ (s : State) (k : Nat), 3 ≤ k → k < 8 → s.dev.stopped = false → s.dev.brd.perst = false →
    exec (.jtagInstruction k) s = .next (s.withDev
    ({ s.dev with reply := [if s.dev.brd.jtagFell then 5 else 1], brd := { s.dev.brd with jtag := 0, jtagFell := true } })))

/-- A write that R48 allows to a register with no row of its own writes its DW field by field and may signal the
page interrupt; SCRATCH reads back as written; a denied write is ignored and raises ACCESS_DENIED with page, BAR
and offset; INT_SET sets INT_STAT bits; SCU.LOCK sets; BARRIER changes nothing (each row stands for the instant
its write takes effect, the model's choice of log entry 2). Beside its values each such clause says what stays as
it was: the registers of all other pages and the other parts of the device, but for what events, interrupts and
ledger records reach where it says Framed. -/
def Obligations.RegisterWrites : Prop :=
  (∀ (s : State) (f pg o v : Nat), f < 64 → pg < 256 → o < 4096 → v < 2 ^ 32 → ownRow pg o = false →
    (Pg.family pg).1 ≠ 0x53 → pg ≠ Pg.THM → Taken s.dev f pg o = true →
    exec (.registerWrite f pg o v) s = .next (s.withDev (if o ∈ [0x018, 0x01C, 0x020, 0x028] then s.dev.watch pg fun
    y => y.plainWrite f pg o v else s.dev.plainWrite f pg o v))) ∧
  (∀ (s : State) (f v : Nat), f < 64 → v < 2 ^ 32 → Taken s.dev f Pg.GPI 0x03C = true →
    ∃ t, exec (.registerWrite f Pg.GPI 0x03C v) s = .next t ∧ Framed [Pg.GPI] s.dev t.dev ∧ t.dev.rd Pg.GPI
    Reg.HDR.SCRATCH = v) ∧
  (∀ (s : State) (f pg o v : Nat), f < 64 → pg < 256 → o < 4096 → v < 2 ^ 32 → ownRow pg o = false →
    (Pg.family pg).1 ≠ 0x53 → s.dev.stopped = false → o % 4 = 0 → s.dev.hasFn f = true → Pg.isPage pg = true →
    s.dev.running = true → s.dev.allAwake = true → s.dev.mayAccess f pg o true = false →
    exec (.registerWrite f pg o v) s = .next (s.withDev (s.dev.event f pg WARN 0x0101 (leBytes 1 0 ++ zeros 3 ++
    leBytes 4 o)))) ∧
  (∀ (s : State) (f pg o v : Nat), f < 64 → pg < 256 → o < 4096 → v < 2 ^ 32 → (Pg.family pg).1 ≠ 0x53 → o % 4 ≠ 0 →
    ownRow pg o = false → s.dev.stopped = false →
    exec (.registerWrite f pg o v) s = .next (s.withDev (s.dev.emit (.unsupported f)))) ∧
  (∀ (s : State) (f pg v : Nat), f < 64 → pg < 256 → v < 2 ^ 32 → Taken s.dev f pg 0x020 = true →
    exec (.intSet f pg v) s = .next (s.withDev (s.dev.watch pg fun y => y.wr pg Reg.HDR.INT_STAT (y.rd pg
    Reg.HDR.INT_STAT ||| v % 2 ^ 31)))) ∧
  (∀ (s : State) (f v : Nat), f < 64 → v < 2 ^ 32 → Taken s.dev f Pg.SCU Reg.SCU.LOCK.off = true →
    bitAt v 0 = true →
    ∃ t, exec (.lock f v) s = .next t ∧ Framed [Pg.SCU] s.dev t.dev ∧ t.dev.rd Pg.SCU Reg.SCU.LOCK = 1) ∧
  (∀ (s : State) (f v : Nat), f < 64 → v < 2 ^ 32 → Taken s.dev f Pg.THM 0x10C = true →
    s.dev.on Pg.SCU Reg.SCU.LOCK = true →
    ∃ t, exec (.registerWrite f Pg.THM 0x10C v) s = .next t ∧ Framed [Pg.THM] s.dev t.dev ∧ t.dev.rd Pg.THM
    Reg.THM.TRIP_RATE = s.dev.rd Pg.THM Reg.THM.TRIP_RATE) ∧
  (∀ (s : State) (f : Nat), f < 64 → Taken s.dev f Pg.SYS 0x140 = true →
    exec (.barrier f) s = .next (s.withDev (s.dev)))

/-- A read of the low DW of a pair answers it and latches the high DW for the function; the next read of a latched
DW answers the latched value and lets it go; a read of RC fields answers them and starts them again; FENCE answers
PAGE_ID to any function; NOW_NS low latches the high half and the fraction; a denied read answers 0. Beside its
values each such clause says what stays as it was: the registers of all other pages and the other parts of the
device, but for what events, interrupts and ledger records reach where it says Framed. -/
def Obligations.RegisterReads : Prop :=
  (∀ (s : State) (f pg o : Nat), f < 64 → pg < 256 → o < 4096 → Readable s.dev f pg o = true → pg ≠ Pg.UAR →
    latchesWith pg o = [o + 4] → Assoc.find s.dev.latched (halfKey f pg o) = none →
    (Pg.inDw pg o).all (fun e => (fieldIn (measured pg) e.1).isNone) = true →
    ∃ t, exec (.lowDwRead f pg o) s = .next t ∧ Still [pg]
    { s.dev with latched := t.dev.latched, reply := t.dev.reply } t.dev ∧ t.dev.reply = [s.dev.dw pg o] ∧ Assoc.find
    t.dev.latched (halfKey f pg (o + 4)) = some (s.dev.dw pg (o + 4))) ∧
  (∀ (s : State) (f pg o v : Nat), f < 64 → pg < 256 → o < 4096 → Readable s.dev f pg o = true →
    Assoc.find s.dev.latched (halfKey f pg o) = some v →
    exec (.lowDwRead f pg o) s = .next (s.withDev
    ({ s.dev with latched := Assoc.del s.dev.latched (halfKey f pg o), reply := [v] }))) ∧
  (∀ (s : State) (f pg o : Nat), f < 64 → pg < 256 → o < 4096 → o % 4 = 0 → s.dev.stopped = false →
    s.dev.hasFn f = true → Pg.isPage pg = true → s.dev.running = true → s.dev.allAwake = true →
    s.dev.mayAccess f pg o false = false →
    exec (.lowDwRead f pg o) s = .next (s.withDev ({ s.dev with reply := [0] }))) ∧
  (∀ (s : State) (f pg o : Nat), f < 64 → pg < 256 → o < 4096 → Readable s.dev f pg o = true → pg ≠ Pg.UAR →
    latchesWith pg o = [] → Assoc.find s.dev.latched (halfKey f pg o) = none →
    (Pg.inDw pg o).all (fun e => (fieldIn (measured pg) e.1).isNone) = true →
    exec (.rcRead f pg o) s = .next (s.withDev ({ s.dev.clearRead pg o with reply := [s.dev.dw pg o] }))) ∧
  (∀ (s : State) (f : Nat), f < 64 → Readable s.dev f Pg.TMB 0x130 = true →
    Assoc.find s.dev.latched (halfKey f Pg.TMB 0x130) = none →
    ∃ t, exec (.rcRead f Pg.TMB 0x130) s = .next t ∧ Still [Pg.TMB] { s.dev with reply := t.dev.reply } t.dev ∧
    t.dev.reply = [s.dev.dw Pg.TMB 0x130] ∧ t.dev.rd Pg.TMB Reg.TMB.STEP_CNT = 0 ∧ t.dev.rd Pg.TMB
    Reg.TMB.REFUSED_CNT = 0) ∧
  (∀ (s : State) (f pg : Nat), f < 64 → pg < 256 → s.dev.stopped = false → s.dev.hasFn f = true →
    Pg.isPage pg = true → s.dev.running = true → s.dev.allAwake = true →
    Assoc.find s.dev.latched (halfKey f pg 0x038) = none →
    exec (.fenceRead f pg) s = .next (s.withDev ({ s.dev with reply := [Pg.pageId pg] }))) ∧
  (∀ (s : State) (f : Nat), f < 64 → Readable s.dev f Pg.TMB 0x100 = true →
    Assoc.find s.dev.latched (halfKey f Pg.TMB 0x100) = none →
    ∃ t, exec (.nowNsRead f) s = .next t ∧ Still [Pg.TMB]
    { s.dev with latched := t.dev.latched, reply := t.dev.reply } t.dev ∧ t.dev.reply = [s.dev.ns % 2 ^ 32] ∧
    Assoc.find t.dev.latched (halfKey f Pg.TMB 0x104) = some (s.dev.ns / 2 ^ 32 % 2 ^ 32) ∧ Assoc.find t.dev.latched
    (halfKey f Pg.TMB 0x108) = some (s.dev.now % 2 ^ 32))

/-- A write of PAGE_CTRL sets EN of any page but a Section subpage or a scan-out engine, whose EN is refused with
ERR_STAT bit 0 when its route is taken; MODE enters and leaves host-assisted mode on a page that offers it;
SOFT_RST makes the page reset, and once it has drained STATE is left and INT_STAT is cleared while SCRATCH is
kept. Beside its values each such clause says what stays as it was: the registers of all other pages and the other
parts of the device, but for what events, interrupts and ledger records reach where it says Framed. -/
def Obligations.PageControl : Prop :=
  (∀ (s : State) (f pg v : Nat), f < 64 → pg < 256 → v < 2 ^ 32 → Taken s.dev f pg 0x010 = true →
    ((Pg.family pg).1 ∉ [0x72, 0x84, 0x90, 0x91, 0x92, 0xB2, 0xB3] ∨ s.dev.on pg Reg.HDR.EN = true ∨ bits v 0 1 = 0)
    → ((Pg.family pg).1 < 0x31 ∨ 0x3B < (Pg.family pg).1) → (Pg.family pg).1 ≠ 0x70 → s.dev.assisted pg = false →
    ∃ t, exec (.pageCtrlEn f pg v) s = .next t ∧ Framed [pg] s.dev t.dev ∧ t.dev.rd pg Reg.HDR.EN = bits v 0 1) ∧
  (∀ (s : State) (f n v sub tag : Nat) (b : List Byte), f < 64 → n < 2 → v < 2 ^ 32 →
    Taken s.dev f (Pg.PTP n) 0x010 = true → bitAt v 0 = true → s.dev.on (Pg.PTP n) Reg.HDR.EN = false →
    (s.dev.port n).held = some b → (s.dev.port n).tx = some (sub, tag, 0) →
    ∃ t, exec (.pageCtrlEn f (Pg.PTP n) v) s = .next t ∧ Still [Pg.PTP n]
    { s.dev with tim := t.dev.tim, outs := t.dev.outs } t.dev ∧ t.dev.on (Pg.PTP n) Reg.HDR.EN = true ∧ t.dev.port n
    = { s.dev.port n with held := none, tx := some (sub, tag, (s.dev.port n).time) } ∧ t.dev.outs = .ptp n sub
    (withFcs b) :: s.dev.outs) ∧
  (∀ (s : State) (f n v : Nat), f < 64 → n < 2 → v < 2 ^ 32 → Taken s.dev f (Pg.I2C n) 0x010 = true →
    bitAt v 0 = true → s.dev.on (Pg.I2C n) Reg.HDR.EN = false →
    ∃ t, exec (.pageCtrlEn f (Pg.I2C n) v) s = .next t ∧ Still [Pg.I2C n]
    { s.dev with brd := t.dev.brd, outs := t.dev.outs } t.dev ∧ t.dev.on (Pg.I2C n) Reg.HDR.EN = true ∧ t.dev.brd =
    { s.dev.brd with i2cHeld := s.dev.brd.i2cHeld.filter (· ≠ n) }) ∧
  (∀ (s : State) (f v : Nat), f < 64 → v < 2 ^ 32 → Taken s.dev f Pg.UAR 0x010 = true → bitAt v 0 = true →
    s.dev.on Pg.UAR Reg.HDR.EN = false →
    ∃ t, exec (.pageCtrlEn f Pg.UAR v) s = .next t ∧ Still [Pg.UAR] { s.dev with brd := t.dev.brd } t.dev ∧ t.dev.on
    Pg.UAR Reg.HDR.EN = true ∧ t.dev.brd = { s.dev.brd with uartHeld := 0 }) ∧
  (∀ (s : State) (f c v : Nat), f < 64 → c < 16 → v < 2 ^ 32 → Taken s.dev f Pg.TMB 0x010 = true →
    bitAt v 0 = true → s.dev.on Pg.TMB Reg.HDR.EN = false → s.dev.on Pg.TMB Reg.TMB.C_EN c = true →
    ∃ t, exec (.pageCtrlEn f Pg.TMB v) s = .next t ∧ Framed [Pg.TMB]
    { s.dev with tim := t.dev.tim, cap := t.dev.cap } t.dev ∧ t.dev.on Pg.TMB Reg.HDR.EN = true ∧ (t.dev.cad
    c).running = true ∧ t.dev.rd Pg.TMB Reg.TMB.C_EN c = 1) ∧
  (∀ (s : State) (f pg v : Nat), f < 64 → pg < 256 → v < 2 ^ 32 → Taken s.dev f pg 0x010 = true →
    0x31 ≤ (Pg.family pg).1 → (Pg.family pg).1 ≤ 0x3B → s.dev.assisted pg = false →
    ∃ t, exec (.pageCtrlEn f pg v) s = .next t ∧ Framed [pg] s.dev t.dev ∧ t.dev.rd pg Reg.HDR.EN = s.dev.rd pg
    Reg.HDR.EN) ∧
  (∀ (s : State) (f n v : Nat), f < 64 → n < 16 → v < 2 ^ 32 → Taken s.dev f (Pg.DSP n) 0x010 = true →
    bitAt v 0 = true → s.dev.on (Pg.DSP n) Reg.HDR.EN = false → s.dev.dspMayEnable n = false →
    ∃ t, exec (.pageCtrlEn f (Pg.DSP n) v) s = .next t ∧ Framed [Pg.DSP n] s.dev t.dev ∧ t.dev.on (Pg.DSP n)
    Reg.HDR.EN = false ∧ t.dev.rd (Pg.DSP n) Reg.HDR.SHADOW_EN = s.dev.rd (Pg.DSP n) Reg.HDR.SHADOW_EN ∧ t.dev.rd
    (Pg.DSP n) Reg.HDR.VIEW = s.dev.rd (Pg.DSP n) Reg.HDR.VIEW ∧ t.dev.rd (Pg.DSP n) Reg.HDR.STATE = s.dev.rd
    (Pg.DSP n) Reg.HDR.STATE ∧ bitAt (t.dev.rd (Pg.DSP n) Reg.HDR.ERR_STAT) 0 = true) ∧
  (∀ (s : State) (f pg v : Nat), f < 64 → pg < 256 → v < 2 ^ 32 → Taken s.dev f pg 0x010 = true →
    ((Pg.family pg).1 ∉ [0x72, 0x84, 0x90, 0x91, 0x92, 0xB2, 0xB3] ∨ s.dev.on pg Reg.HDR.EN = true ∨ bits v 0 1 = 0)
    → Pg.assistCap pg = true → bits v 1 2 = 1 →
    ∃ t, exec (.pageCtrlMode f pg v) s = .next t ∧ Framed [pg] s.dev t.dev ∧ t.dev.rd pg Reg.HDR.MODE = 1) ∧
  (∀ (s : State) (f pg v : Nat), f < 64 → pg < 256 → v < 2 ^ 32 → Taken s.dev f pg 0x010 = true →
    ((Pg.family pg).1 ∉ [0x72, 0x84, 0x90, 0x91, 0x92, 0xB2, 0xB3] ∨ s.dev.on pg Reg.HDR.EN = true ∨ bits v 0 1 = 0)
    → Pg.assistCap pg = true → bits v 1 2 = 0 → s.dev.pip.assists.all (fun a => a.page ≠ pg) = true →
    ∃ t, exec (.pageCtrlMode f pg v) s = .next t ∧ Framed [pg] s.dev t.dev ∧ t.dev.rd pg Reg.HDR.MODE = 0) ∧
  (∀ (s : State) (f pg v : Nat), f < 64 → pg < 256 → v < 2 ^ 32 → Taken s.dev f pg 0x010 = true →
    ((Pg.family pg).1 ∉ [0x72, 0x84, 0x90, 0x91, 0x92, 0xB2, 0xB3] ∨ s.dev.on pg Reg.HDR.EN = true ∨ bits v 0 1 = 0)
    → bitAt v 8 = true → s.dev.rd pg Reg.HDR.STATE = 0 → s.dev.assisted pg = false → (Pg.family pg).1 ≠ 0x70 →
    ∃ t, exec (.softRst f pg v) s = .next t ∧ Framed [pg] s.dev t.dev ∧ t.dev.rd pg Reg.HDR.STATE = 3) ∧
  (∀ (s : State) (pg : Nat), pg < 256 → s.dev.stopped = false → s.dev.rd pg Reg.HDR.STATE = 3 →
    s.dev.busy pg = false → (Pg.family pg).1 ∉ [0x84, 0xB3] →
    ∃ t, exec (.pageDrained pg) s = .next t ∧ Framed [pg] s.dev t.dev ∧ t.dev.rd pg Reg.HDR.STATE = 0) ∧
  (∀ (s : State) (n : Nat), n < 2 → s.dev.stopped = false → s.dev.rd (Pg.PTP n) Reg.HDR.STATE = 3 →
    (s.dev.port n).tx = none →
    ∃ t, exec (.pageDrained (Pg.PTP n)) s = .next t ∧ Still [Pg.PTP n] { s.dev with tim := t.dev.tim } t.dev ∧
    t.dev.rd (Pg.PTP n) Reg.HDR.STATE = 0 ∧ t.dev.port n = { s.dev.port n with rx := [], ts := [] }) ∧
  (∀ (s : State), s.dev.stopped = false → s.dev.rd Pg.UAR Reg.HDR.STATE = 3 → s.dev.brd.uartTx = [] →
    ∃ t, exec (.pageDrained Pg.UAR) s = .next t ∧ Still [Pg.UAR] { s.dev with brd := t.dev.brd } t.dev ∧ t.dev.rd
    Pg.UAR Reg.HDR.STATE = 0 ∧ t.dev.brd = { s.dev.brd with uartRx := [] }) ∧
  (∀ (s : State), s.dev.stopped = false → s.dev.rd Pg.GPI Reg.HDR.STATE = 3 →
    ∃ t, exec (.pageDrained Pg.GPI) s = .next t ∧ Framed [Pg.GPI] s.dev t.dev ∧ t.dev.rd Pg.GPI Reg.HDR.INT_STAT = 0
    ∧ t.dev.rd Pg.GPI Reg.HDR.SCRATCH = s.dev.rd Pg.GPI Reg.HDR.SCRATCH ∧ t.dev.rd Pg.GPI Reg.GPI.IN = s.dev.rd
    Pg.GPI Reg.GPI.IN)

/-- The low half of INCR waits; the write of the high half makes INCR the pair when it lies in 0x1_3FAE_147B to
0x1_4051_EB85, and otherwise leaves INCR and sets TMB.ERR_STAT bit 0. Beside its values each such clause says what
stays as it was: the registers of all other pages and the other parts of the device, but for what events,
interrupts and ledger records reach where it says Framed. -/
def Obligations.TimebaseRate : Prop :=
  (∀ (s : State) (f v : Nat), f < 64 → v < 2 ^ 32 → Taken s.dev f Pg.TMB 0x110 = true →
    exec (.incr f 0 v) s = .next (s.withDev
    ({ s.dev with lowHeld := Assoc.put s.dev.lowHeld (halfKey f Pg.TMB 0x110) v }))) ∧
  (∀ (s : State) (f v lo : Nat), f < 64 → v < 2 ^ 32 → Taken s.dev f Pg.TMB 0x114 = true →
    Assoc.find s.dev.lowHeld (halfKey f Pg.TMB 0x110) = some lo → 0x13FAE147B ≤ lo + 2 ^ 32 * v →
    lo + 2 ^ 32 * v ≤ 0x14051EB85 →
    ∃ t, exec (.incr f 1 v) s = .next t ∧ Framed [Pg.TMB] { s.dev with lowHeld := t.dev.lowHeld } t.dev ∧ t.dev.rd64
    Pg.TMB Reg.TMB.INCR_LO Reg.TMB.INCR_HI = lo + 2 ^ 32 * v ∧ t.dev.tb = s.dev.tb) ∧
  (∀ (s : State) (f v lo : Nat), f < 64 → v < 2 ^ 32 → Taken s.dev f Pg.TMB 0x114 = true →
    Assoc.find s.dev.lowHeld (halfKey f Pg.TMB 0x110) = some lo →
    (lo + 2 ^ 32 * v < 0x13FAE147B ∨ 0x14051EB85 < lo + 2 ^ 32 * v) →
    ∃ t, exec (.incr f 1 v) s = .next t ∧ Framed [Pg.TMB] { s.dev with lowHeld := t.dev.lowHeld } t.dev ∧ t.dev.rd64
    Pg.TMB Reg.TMB.INCR_LO Reg.TMB.INCR_HI = s.dev.rd64 Pg.TMB Reg.TMB.INCR_LO Reg.TMB.INCR_HI ∧ bitAt (t.dev.rd
    Pg.TMB Reg.HDR.ERR_STAT) 0 = true)

/-- GO makes the signed step wait with BUSY = 1 while UNLOCKED, within STEP_LIMIT, or once armed, which clears
ARMED; the tick that takes it adds it to the Timebase in 96-bit two's complement and clears BUSY; while LOCKED and
not armed a larger step leaves the Timebase, sets REFUSED and INT_STAT bit 0; a GO while BUSY = 1 is ignored and
sets ERR_STAT bit 1; ARM sets ARMED and moves nothing; 100 ms without GO clear ARMED with no other effect. That
the next tick of the Timebase takes the step, within the 1 µs of R353, is the model's choice (log entry 9). Beside
its values each such clause says what stays as it was: the registers of all other pages and the other parts of the
device, but for what events, interrupts and ledger records reach where it says Framed. -/
def Obligations.TimebaseSteps : Prop :=
  (∀ (s : State) (f v : Nat), f < 64 → v < 2 ^ 32 → Taken s.dev f Pg.TMB 0x124 = true → bitAt v 0 = true →
    bitAt v 1 = false → s.dev.tim.step = none → s.dev.on Pg.TMB Reg.TMB.ARMED = false →
    (s.dev.on Pg.TMB Reg.TMB.STATE = false ∨ s.dev.stepAmount.natAbs ≤ s.dev.rd Pg.TMB Reg.TMB.STEP_LIMIT * 2 ^ 32)
    →
    ∃ t, exec (.step f v) s = .next t ∧ Still [Pg.TMB] { s.dev with tim := t.dev.tim } t.dev ∧ t.dev.rd Pg.TMB
    Reg.TMB.BUSY = 1 ∧ t.dev.tim = { s.dev.tim with step := some (s.dev.stepAmount, none) } ∧ t.dev.rd Pg.TMB
    Reg.HDR.ERR_STAT = s.dev.rd Pg.TMB Reg.HDR.ERR_STAT) ∧
  (∀ (s : State) (f v : Nat), f < 64 → v < 2 ^ 32 → Taken s.dev f Pg.TMB 0x124 = true → bitAt v 0 = true →
    bitAt v 1 = false → s.dev.tim.step = none → s.dev.on Pg.TMB Reg.TMB.ARMED = false →
    s.dev.on Pg.TMB Reg.TMB.STATE = true → s.dev.rd Pg.TMB Reg.TMB.STEP_LIMIT * 2 ^ 32 < s.dev.stepAmount.natAbs →
    ∃ t, exec (.step f v) s = .next t ∧ Framed [Pg.TMB] s.dev t.dev ∧ t.dev.tb = s.dev.tb ∧ t.dev.rd Pg.TMB
    Reg.TMB.REFUSED = 1 ∧ bitAt (t.dev.rd Pg.TMB Reg.HDR.INT_STAT) 0 = true) ∧
  (∀ (s : State) (f v : Nat), f < 64 → v < 2 ^ 32 → Taken s.dev f Pg.TMB 0x124 = true → bitAt v 0 = true →
    s.dev.tim.step = none → s.dev.on Pg.TMB Reg.TMB.ARMED = true →
    ∃ t, exec (.step f v) s = .next t ∧ Still [Pg.TMB] { s.dev with tim := t.dev.tim } t.dev ∧ t.dev.rd Pg.TMB
    Reg.TMB.BUSY = 1 ∧ t.dev.tim.step.map (·.1) = some s.dev.stepAmount ∧ t.dev.rd Pg.TMB Reg.TMB.ARMED = 0) ∧
  (∀ (s : State) (f v : Nat) (x : Int × Option (List Byte)), f < 64 → v < 2 ^ 32 →
    Taken s.dev f Pg.TMB 0x124 = true → bitAt v 0 = true → bitAt v 1 = false → s.dev.tim.step = some x →
    ∃ t, exec (.step f v) s = .next t ∧ Framed [Pg.TMB] s.dev t.dev ∧ t.dev.tim = s.dev.tim ∧ bitAt (t.dev.rd Pg.TMB
    Reg.HDR.ERR_STAT) 1 = true) ∧
  (∀ (d : Dev) (x : Int) (y : Option (List Byte)), d.tim.step = some (x, y) →
    d.stepDue.tb = d.tb + BitVec.ofInt 96 x ∧ d.stepDue.tim.step = none ∧ d.stepDue.rd Pg.TMB Reg.TMB.BUSY = 0) ∧
  (∀ (s : State) (f v : Nat), f < 64 → v < 2 ^ 32 → Taken s.dev f Pg.TMB 0x124 = true → bitAt v 0 = false →
    bitAt v 1 = true →
    ∃ t, exec (.arm f v) s = .next t ∧ Framed [Pg.TMB] s.dev t.dev ∧ t.dev.rd Pg.TMB Reg.TMB.ARMED = 1 ∧ t.dev.tb =
    s.dev.tb) ∧
  (∀ (s : State), s.dev.stopped = false →
    exec (.armedExpiry) s = .next (s.withDev (s.dev.wr Pg.TMB Reg.TMB.ARMED 0)))

/-- At a whole second PPS_OUT rises when enabled, and falls when PPS_W_US is over; a rising edge on PPS_IN puts the
Timebase into PPS_IN_NS, increments PPS_IN_CNT and raises INT_STAT bit 2. Beside its values each such clause says
what stays as it was: the registers of all other pages and the other parts of the device, but for what events,
interrupts and ledger records reach where it says Framed. -/
def Obligations.PulsePerSecond : Prop :=
  (∀ (s : State), s.dev.stopped = false → s.dev.on Pg.TMB Reg.TMB.PPS_OUT_EN = true →
    exec (.ppsOut) s = .next (s.withDev (({ s.dev with tim := { s.dev.tim with ppsOut := true } } : Dev).emit (.pin
    0 0 true)))) ∧
  (∀ (s : State), s.dev.stopped = false → s.dev.tim.ppsOut = true →
    exec (.ppsOutFall) s = .next (s.withDev (({ s.dev with tim := { s.dev.tim with ppsOut := false } } : Dev).emit
    (.pin 0 0 false)))) ∧
  (∀ (s : State), s.dev.stopped = false →
    ∃ t, exec (.ppsIn) s = .next t ∧ Framed [Pg.TMB] s.dev t.dev ∧ t.dev.rd64 Pg.TMB Reg.TMB.PPS_IN_NS_LO
    Reg.TMB.PPS_IN_NS_HI = s.dev.ns ∧ t.dev.rd Pg.TMB Reg.TMB.PPS_IN_CNT = (s.dev.rd Pg.TMB Reg.TMB.PPS_IN_CNT + 1)
    % 2 ^ 32 ∧ bitAt (t.dev.rd Pg.TMB Reg.HDR.INT_STAT) 2 = true)

/-- SET_GO loads the port time with a zero fraction; ADJ_GO adds the signed adjustment; RX_POP and TS_POP release
the oldest entry; GO on an idle transmitter sends TX_DATA; it appends the FCS; the egress timestamp, that of a pin
instant between the beginning of the frame and now (a free value, log entry 145), joins its FIFO with the frame's
TAG; a PTP frame joins a receive FIFO with room, with its ingress timestamp. Beside its values each such clause
says what stays as it was: the registers of all other pages and the other parts of the device, but for what
events, interrupts and ledger records reach where it says Framed. -/
def Obligations.PtpPorts : Prop :=
  (∀ (s : State) (f n v : Nat), f < 64 → n < 2 → v < 2 ^ 32 → Taken s.dev f (Pg.PTP n) 0x118 = true →
    bitAt v 0 = true → bitAt v 1 = false →
    (s.dev.rd64 (Pg.PTP n) Reg.PTP.SET_SEC_LO Reg.PTP.SET_SEC_HI * 10 ^ 9 + s.dev.rd (Pg.PTP n) Reg.PTP.SET_NS) * 2
    ^ 32 < portWrap →
    ∃ t, exec (.setGo f n v) s = .next t ∧ Still [] { s.dev with tim := t.dev.tim } t.dev ∧ (t.dev.port n).time =
    (s.dev.rd64 (Pg.PTP n) Reg.PTP.SET_SEC_LO Reg.PTP.SET_SEC_HI * 10 ^ 9 + s.dev.rd (Pg.PTP n) Reg.PTP.SET_NS) * 2
    ^ 32 ∧ t.dev.tb = s.dev.tb) ∧
  (∀ (s : State) (f n v : Nat), f < 64 → n < 2 → v < 2 ^ 32 → Taken s.dev f (Pg.PTP n) 0x118 = true →
    bitAt v 0 = false → bitAt v 1 = true →
    0 ≤ (s.dev.port n).time + (sgn 64 (s.dev.rd64 (Pg.PTP n) Reg.PTP.ADJ_NS_LO Reg.PTP.ADJ_NS_HI) * 2 ^ 32 +
    (s.dev.rd (Pg.PTP n) Reg.PTP.ADJ_FRAC : Nat)) →
    (s.dev.port n).time + (sgn 64 (s.dev.rd64 (Pg.PTP n) Reg.PTP.ADJ_NS_LO Reg.PTP.ADJ_NS_HI) * 2 ^ 32 + (s.dev.rd
    (Pg.PTP n) Reg.PTP.ADJ_FRAC : Nat)) < portWrap →
    ∃ t, exec (.adjGo f n v) s = .next t ∧ Still [] { s.dev with tim := t.dev.tim } t.dev ∧ ((t.dev.port n).time :
    Int) = (s.dev.port n).time + (sgn 64 (s.dev.rd64 (Pg.PTP n) Reg.PTP.ADJ_NS_LO Reg.PTP.ADJ_NS_HI) * 2 ^ 32 +
    (s.dev.rd (Pg.PTP n) Reg.PTP.ADJ_FRAC : Nat))) ∧
  (∀ (s : State) (f n v : Nat), f < 64 → n < 2 → v < 2 ^ 32 → Taken s.dev f (Pg.PTP n) 0x150 = true →
    bitAt v 0 = true →
    ∃ t, exec (.rxPop f n v) s = .next t ∧ Still [] { s.dev with tim := t.dev.tim } t.dev ∧ (t.dev.port n).rx =
    (s.dev.port n).rx.drop 1) ∧
  (∀ (s : State) (f n v : Nat), f < 64 → n < 2 → v < 2 ^ 32 → Taken s.dev f (Pg.PTP n) 0x174 = true →
    bitAt v 0 = true →
    ∃ t, exec (.tsPop f n v) s = .next t ∧ Still [] { s.dev with tim := t.dev.tim } t.dev ∧ (t.dev.port n).ts =
    (s.dev.port n).ts.drop 1) ∧
  (∀ (s : State) (f n v : Nat), f < 64 → n < 2 → v < 2 ^ 32 → Taken s.dev f (Pg.PTP n) 0x160 = true →
    bitAt v 31 = true → (s.dev.port n).tx = none → s.dev.on (Pg.PTP n) Reg.HDR.EN = true →
    ∃ t, exec (.txGo f n v) s = .next t ∧ Still [Pg.PTP n] { s.dev with tim := t.dev.tim, outs := t.dev.outs } t.dev
    ∧ (t.dev.port n).tx = some (bits v 12 2, bits v 16 8, (s.dev.port n).time) ∧ t.dev.outs = Out.ptp n (bits v 12
    2) (withFcs (((List.range 64).flatMap fun k => leBytes 4 (s.dev.rd (Pg.PTP n) Reg.PTP.TX_DATA k)).take (bits v 0
    9))) :: s.dev.outs) ∧
  (∀ (s : State) (f n v : Nat), f < 64 → n < 2 → v < 2 ^ 32 → Taken s.dev f (Pg.PTP n) 0x160 = true →
    bitAt v 31 = true → (s.dev.port n).tx = none → s.dev.on (Pg.PTP n) Reg.HDR.EN = false →
    ∃ t, exec (.txGo f n v) s = .next t ∧ Still [Pg.PTP n] { s.dev with tim := t.dev.tim } t.dev ∧ (t.dev.port n).tx
    = some (bits v 12 2, bits v 16 8, 0) ∧ (t.dev.port n).held = some (((List.range 64).flatMap fun k => leBytes 4
    (s.dev.rd (Pg.PTP n) Reg.PTP.TX_DATA k)).take (bits v 0 9)) ∧ t.dev.outs = s.dev.outs) ∧
  (∀ (s : State) (f n v : Nat), f < 64 → n < 2 → v < 2 ^ 32 → Taken s.dev f (Pg.PTP n) 0x160 = true →
    (s.dev.port n).tx ≠ none →
    ∃ t, exec (.txGo f n v) s = .next t ∧ Still [Pg.PTP n] s.dev t.dev ∧ t.dev.port n = s.dev.port n) ∧
  (∀ (s : State) (n sub tag since : Nat), n < 2 → s.dev.stopped = false →
    (s.dev.port n).tx = some (sub, tag, since) → since ≤ (s.dev.port n).time → (s.dev.port n).time < portWrap →
    (s.dev.port n).held = none → (s.dev.port n).ts.length < 16 →
    ∃ t, exec (.ptpTxDone n) s = .next t ∧ Framed [Pg.PTP n] { s.dev with tim := t.dev.tim } t.dev ∧ (t.dev.port
    n).tx = none ∧ (t.dev.port n).ts = (s.dev.port n).ts ++ [(tag, portStamp (since + (Config.freeValue
    s.dev.free).toNat % ((s.dev.port n).time - since + 1)) (sgn 16 (s.dev.rd (Pg.PTP n) Reg.PTP.EGR_ASYM_PS)))] ∧
    bitAt (t.dev.rd (Pg.PTP n) Reg.HDR.INT_STAT) 1 = true) ∧
  (∀ (s : State) (n sub : Nat) (fr : List Byte), n < 2 → sub < 4 → s.dev.stopped = false → s.dev.allAwake = true →
    isPtp (s.dev.netOwn n sub) fr = true → (s.dev.port n).rx.length < 64 →
    ∃ t, exec (.ptpRx n sub fr) s = .next t ∧ Framed [Pg.PTP n] { s.dev with tim := t.dev.tim, pow := t.dev.pow }
    t.dev ∧ (t.dev.port n).rx = (s.dev.port n).rx ++ [⟨sub, portStamp (s.dev.port n).time (-sgn 16 (s.dev.rd (Pg.PTP
    n) Reg.PTP.ING_ASYM_PS)), fr⟩] ∧ bitAt (t.dev.rd (Pg.PTP n) Reg.HDR.INT_STAT) 0 = true) ∧
  (∀ (s : State) (n sub : Nat) (fr : List Byte), n < 2 → sub < 4 → s.dev.stopped = false → s.dev.allAwake = true →
    isPtp (s.dev.netOwn n sub) fr = true → 64 ≤ (s.dev.port n).rx.length →
    ∃ t, exec (.ptpRx n sub fr) s = .next t ∧ Framed [Pg.PTP n] { s.dev with tim := t.dev.tim } t.dev ∧ (t.dev.port
    n).rx = (s.dev.port n).rx ∧ bitAt (t.dev.rd (Pg.PTP n) Reg.HDR.INT_STAT) 2 = true)

/-- EN written 1 starts a Timebase cadence at the first grid instant at least SCHED_LEAD_US away, or with TRIG_WAIT
makes it wait; EN written 0 stops it; other fields hold while EN = 1; a taken instant counts in TAKEN_CNT modulo
2^32 and moves the grid on, an instant less than half a period after the last is skipped; an unlocked TLS cadence
counts good intervals, a locked one that misses an instant holds over; a HEAD_CAD entry takes the written value.
The grid of a Timebase cadence with no trigger is OFFSET plus floor(k × PERIOD_NUM × 10⁹ × 2³² ÷ PERIOD_DEN) in
units of 2⁻³² ns; at 1001/24000 with OFFSET 0 instant 10 lies at 417,083,333 ns and fraction 0x5555_5555. Beside
its values each such clause says what stays as it was: the registers of all other pages and the other parts of the
device, but for what events, interrupts and ledger records reach where it says Framed. -/
def Obligations.Cadences : Prop :=
  (∀ (s : State) (f c v : Nat), f < 64 → c < 16 → v < 2 ^ 32 → Taken s.dev f Pg.TMB (0x400 + 0x40 * c) = true →
    s.dev.on Pg.TMB Reg.HDR.EN = true → s.dev.on Pg.TMB Reg.TMB.C_EN c = false → bitAt v 0 = true →
    bitAt v 1 = false → bitAt v 2 = false → (s.dev.cadHeads c) = [] →
    ∃ t, exec (.cadenceEn f c v) s = .next t ∧ Framed [Pg.TMB] { s.dev with tim := t.dev.tim } t.dev ∧ t.dev.rd
    Pg.TMB Reg.TMB.C_EN c = 1 ∧ t.dev.rd Pg.TMB Reg.TMB.C_WAITING c = 0 ∧ (t.dev.cad c).running = true ∧ (t.dev.cad
    c).nextK = t.dev.firstK c (s.dev.now + s.dev.schedLead)) ∧
  (∀ (s : State) (f c v : Nat), f < 64 → c < 16 → v < 2 ^ 32 → Taken s.dev f Pg.TMB (0x400 + 0x40 * c) = true →
    s.dev.on Pg.TMB Reg.HDR.EN = true → s.dev.on Pg.TMB Reg.TMB.C_EN c = false → bitAt v 0 = true →
    bitAt v 2 = true →
    ∃ t, exec (.cadenceEn f c v) s = .next t ∧ Framed [Pg.TMB] { s.dev with tim := t.dev.tim, cap := t.dev.cap }
    t.dev ∧ t.dev.rd Pg.TMB Reg.TMB.C_EN c = 1 ∧ t.dev.rd Pg.TMB Reg.TMB.C_WAITING c = 1 ∧ (t.dev.cad c).running =
    true) ∧
  (∀ (s : State) (f c v : Nat), f < 64 → c < 16 → v < 2 ^ 32 → Taken s.dev f Pg.TMB (0x400 + 0x40 * c) = true →
    s.dev.on Pg.TMB Reg.HDR.EN = false → s.dev.on Pg.TMB Reg.TMB.C_EN c = false → bitAt v 0 = true →
    ∃ t, exec (.cadenceEn f c v) s = .next t ∧ Still [Pg.TMB] s.dev t.dev ∧ t.dev.rd Pg.TMB Reg.TMB.C_EN c = 1 ∧
    t.dev.tim = s.dev.tim ∧ t.dev.outs = s.dev.outs) ∧
  (∀ (s : State) (f c v : Nat), f < 64 → c < 16 → v < 2 ^ 32 → Taken s.dev f Pg.TMB (0x400 + 0x40 * c) = true →
    s.dev.on Pg.TMB Reg.TMB.C_EN c = true → bitAt v 0 = false →
    ∃ t, exec (.cadenceEn f c v) s = .next t ∧ Framed [Pg.TMB]
    { s.dev with tim := t.dev.tim, pip := t.dev.pip, cap := t.dev.cap } t.dev ∧ t.dev.rd Pg.TMB Reg.TMB.C_EN c = 0 ∧
    (t.dev.cad c).running = false ∧ t.dev.rd Pg.TMB Reg.TMB.C_SRC c = s.dev.rd Pg.TMB Reg.TMB.C_SRC c) ∧
  (∀ (s : State) (f c v : Nat), f < 64 → c < 16 → v < 2 ^ 32 → Taken s.dev f Pg.TMB (0x400 + 0x40 * c) = true →
    s.dev.on Pg.TMB Reg.TMB.C_EN c = true → bitAt v 0 = true →
    exec (.cadenceEn f c v) s = .next (s.withDev (s.dev))) ∧
  (∀ (s : State) (c : Nat), c < 16 → s.dev.stopped = false → s.dev.allAwake = true →
    s.dev.on Pg.TMB Reg.TMB.C_SRC c = false → s.dev.on Pg.TMB Reg.TMB.C_WAITING c = false →
    (s.dev.cad c).running = true → s.dev.rd Pg.TMB Reg.TMB.C_PERIOD_NUM c ≠ 0 →
    s.dev.rd Pg.TMB Reg.TMB.C_PERIOD_DEN c ≠ 0 → (s.dev.cad c).last = none → (s.dev.cad c).burst = 0 →
    s.dev.pip.dsps = [] →
    ∃ t, exec (.cadenceInstant c) s = .next t ∧ Framed [Pg.TMB] { s.dev with tim := t.dev.tim } t.dev ∧ t.dev.rd
    Pg.TMB Reg.TMB.C_TAKEN_CNT c = (s.dev.rd Pg.TMB Reg.TMB.C_TAKEN_CNT c + 1) % 2 ^ 32 ∧ (t.dev.cad c).nextK =
    (s.dev.cad c).nextK + 1 ∧ (t.dev.cad c).last = some (s.dev.instant c (s.dev.cad c).nextK)) ∧
  (∀ (s : State) (c : Nat), c < 16 → s.dev.stopped = false → (s.dev.cad c).locked = true →
    (s.dev.cad c).running = true → s.dev.on Pg.TMB Reg.TMB.C_SRC c = true →
    ∃ t, exec (.tlsHoldover c) s = .next t ∧ Framed [Pg.TMB] { s.dev with tim := t.dev.tim } t.dev ∧ (t.dev.cad
    c).locked = false ∧ t.dev.rd Pg.TMB Reg.TMB.C_HOLDOVER c = 1 ∧ (t.dev.cad c).period = (s.dev.cad c).period) ∧
  (∀ (s : State) (at_ : Nat), at_ < 2 ^ 96 → s.dev.stopped = false →
    (List.range 16).all (fun c => !s.dev.on Pg.TMB Reg.TMB.C_SRC c) = true →
    ∃ t, exec (.tlsFrameInstant at_) s = .next t ∧ Framed [Pg.TMB] { s.dev with tim := t.dev.tim } t.dev ∧
    t.dev.tim.tlsLast = some at_ ∧ t.dev.rd64 Pg.TMB Reg.TMB.TLS_LAST_NS_LO Reg.TMB.TLS_LAST_NS_HI = at_ / 2 ^ 32 ∧
    t.dev.tim.cads = s.dev.tim.cads) ∧
  (∀ (s : State) (f h v : Nat), f < 64 → h < 256 → v < 2 ^ 32 → Taken s.dev f Pg.TMB (0x800 + 8 * h) = true →
    s.dev.admission h ≠ 2 →
    ∃ t, exec (.headCad f h 0 v) s = .next t ∧ Framed [Pg.TMB] { s.dev with tim := t.dev.tim } t.dev ∧ t.dev.rd
    Pg.TMB Reg.TMB.CAD h = bits v 0 4 ∧ t.dev.rd Pg.TMB Reg.TMB.VALID h = bits v 8 1 ∧ t.dev.rd Pg.TMB
    Reg.TMB.EXP_OFS_NS h = s.dev.rd Pg.TMB Reg.TMB.EXP_OFS_NS h) ∧
  (∀ (s : State) (f h v : Nat), f < 64 → h < 256 → v < 2 ^ 32 → Taken s.dev f Pg.TMB (0x804 + 8 * h) = true →
    s.dev.admission h ≠ 2 →
    ∃ t, exec (.headCad f h 1 v) s = .next t ∧ Framed [Pg.TMB] { s.dev with tim := t.dev.tim } t.dev ∧ t.dev.rd
    Pg.TMB Reg.TMB.EXP_OFS_NS h = v) ∧
  (∀ (d : Dev) (c : Nat) (k : Int), d.on Pg.TMB Reg.TMB.C_SRC c = false → (d.cad c).origin = none →
    d.instant c k = d.cadOffset c + (k * ((d.rd Pg.TMB Reg.TMB.C_PERIOD_NUM c * 10 ^ 9 * 2 ^ 32 : Nat) : Int)).fdiv
    (d.rd Pg.TMB Reg.TMB.C_PERIOD_DEN c)) ∧
  (∀ (d : Dev) (c : Nat), d.on Pg.TMB Reg.TMB.C_SRC c = false → (d.cad c).origin = none → d.cadOffset c = 0 →
    d.rd Pg.TMB Reg.TMB.C_PERIOD_NUM c = 1001 → d.rd Pg.TMB Reg.TMB.C_PERIOD_DEN c = 24000 →
    d.instant c 10 = 417083333 * 2 ^ 32 + 0x55555555)

/-- A quadrature or Hall step forward adds one to POS below CPR − 1, and at CPR − 1 gives POS 0 and REV + 1; INVERT
exchanges directions; A and B changing together leave the count, and raise INT_STAT bit 0; an SSI frame whose line
is low is discarded and raises INT_STAT bit 2, a valid one gives POS = v mod 2^ST_BITS; ZERO_MS without a count
gives SPEED 0 with SPEED_VALID 1. Beside its values each such clause says what stays as it was: the registers of
all other pages and the other parts of the device, but for what events, interrupts and ledger records reach where
it says Framed. -/
def Obligations.PositionCounting : Prop :=
  (∀ (s : State) (n k : Nat), n < 16 → s.dev.stopped = false → s.dev.counting n 1 = true →
    s.dev.on (Pg.PFB n) Reg.PFB.INVERT = false → (s.dev.chan n).a = false → (s.dev.chan n).b = false →
    s.dev.pfb n Reg.PFB.POS + 1 < s.dev.cpr n → s.dev.cpr n ≤ 2 ^ 32 → s.dev.pfb n Reg.PFB.REV < 2 ^ 32 →
    ∃ t, exec (.quadratureEdge n k true false) s = .next t ∧ Framed [Pg.PFB n, Pg.PCM 0, Pg.PCM 1, Pg.TMB]
    { s.dev with tim := t.dev.tim, cap := t.dev.cap, pip := t.dev.pip, pow := t.dev.pow } t.dev ∧ t.dev.pfb n
    Reg.PFB.POS = s.dev.pfb n Reg.PFB.POS + 1 ∧ t.dev.pfb n Reg.PFB.REV = s.dev.pfb n Reg.PFB.REV) ∧
  (∀ (s : State) (n k : Nat), n < 16 → s.dev.stopped = false → s.dev.counting n 1 = true →
    s.dev.on (Pg.PFB n) Reg.PFB.INVERT = false → (s.dev.chan n).a = true → (s.dev.chan n).b = true →
    s.dev.pfb n Reg.PFB.POS + 1 = s.dev.cpr n → s.dev.cpr n ≤ 2 ^ 32 → s.dev.pfb n Reg.PFB.REV < 2 ^ 32 →
    ∃ t, exec (.quadratureEdge n k false true) s = .next t ∧ Framed [Pg.PFB n, Pg.PCM 0, Pg.PCM 1, Pg.TMB]
    { s.dev with tim := t.dev.tim, cap := t.dev.cap, pip := t.dev.pip, pow := t.dev.pow } t.dev ∧ t.dev.pfb n
    Reg.PFB.POS = 0 ∧ t.dev.pfb n Reg.PFB.REV = (s.dev.pfb n Reg.PFB.REV + 1) % 2 ^ 32) ∧
  (∀ (s : State) (n k : Nat), n < 16 → s.dev.stopped = false → s.dev.counting n 1 = true →
    s.dev.on (Pg.PFB n) Reg.PFB.INVERT = true → (s.dev.chan n).a = false → (s.dev.chan n).b = true →
    s.dev.pfb n Reg.PFB.POS = 0 → 0 < s.dev.cpr n → s.dev.cpr n ≤ 2 ^ 32 → s.dev.pfb n Reg.PFB.REV < 2 ^ 32 →
    ∃ t, exec (.quadratureEdge n k false false) s = .next t ∧ Framed [Pg.PFB n, Pg.PCM 0, Pg.PCM 1, Pg.TMB]
    { s.dev with tim := t.dev.tim, cap := t.dev.cap, pip := t.dev.pip, pow := t.dev.pow } t.dev ∧ t.dev.pfb n
    Reg.PFB.POS = s.dev.cpr n - 1 ∧ t.dev.pfb n Reg.PFB.REV = (s.dev.pfb n Reg.PFB.REV + 0xFFFFFFFF) % 2 ^ 32) ∧
  (∀ (s : State) (n k : Nat), n < 16 → s.dev.stopped = false → s.dev.counting n 1 = true →
    (s.dev.chan n).a = false → (s.dev.chan n).b = false →
    ∃ t, exec (.quadratureEdge n k true true) s = .next t ∧ Framed [Pg.PFB n] { s.dev with tim := t.dev.tim } t.dev
    ∧ t.dev.pfb n Reg.PFB.POS = s.dev.pfb n Reg.PFB.POS ∧ t.dev.pfb n Reg.PFB.REV = s.dev.pfb n Reg.PFB.REV ∧ bitAt
    (t.dev.rd (Pg.PFB n) Reg.HDR.INT_STAT) 0 = true ∧ t.dev.pfb n Reg.PFB.SPEED_VALID = 0) ∧
  (∀ (s : State) (n k : Nat), n < 16 → s.dev.stopped = false → s.dev.counting n 2 = true →
    s.dev.on (Pg.PFB n) Reg.PFB.INVERT = false → (s.dev.chan n).a = true → (s.dev.chan n).b = false →
    (s.dev.chan n).z = false → s.dev.pfb n Reg.PFB.POS + 1 < s.dev.cpr n → s.dev.cpr n ≤ 2 ^ 32 →
    s.dev.pfb n Reg.PFB.REV < 2 ^ 32 →
    ∃ t, exec (.hallEdge n k true true false) s = .next t ∧ Framed [Pg.PFB n, Pg.PCM 0, Pg.PCM 1, Pg.TMB]
    { s.dev with tim := t.dev.tim, cap := t.dev.cap, pip := t.dev.pip, pow := t.dev.pow } t.dev ∧ t.dev.pfb n
    Reg.PFB.POS = s.dev.pfb n Reg.PFB.POS + 1 ∧ t.dev.pfb n Reg.PFB.REV = s.dev.pfb n Reg.PFB.REV) ∧
  (∀ (s : State) (n k : Nat), n < 16 → s.dev.stopped = false → s.dev.counting n 2 = true → (s.dev.chan n).a = true →
    ∃ t, exec (.hallEdge n k true true true) s = .next t ∧ Framed [Pg.PFB n] { s.dev with tim := t.dev.tim } t.dev ∧
    (((s.dev.chan n).b = true ∧ (s.dev.chan n).z = true) ∨ (t.dev.pfb n Reg.PFB.POS = s.dev.pfb n Reg.PFB.POS ∧
    bitAt (t.dev.rd (Pg.PFB n) Reg.HDR.INT_STAT) 0 = true))) ∧
  (∀ (s : State) (n v : Nat), n < 16 → v < 2 ^ 64 → s.dev.stopped = false → s.dev.counting n 3 = true →
    ∃ t, exec (.ssiFrame n true v) s = .next t ∧ Framed [Pg.PFB n] { s.dev with tim := t.dev.tim } t.dev ∧ t.dev.pfb
    n Reg.PFB.POS = s.dev.pfb n Reg.PFB.POS ∧ t.dev.pfb n Reg.PFB.SPEED_VALID = 0 ∧ bitAt (t.dev.rd (Pg.PFB n)
    Reg.HDR.INT_STAT) 2 = true) ∧
  (∀ (s : State) (n v : Nat), n < 16 → v < 2 ^ 64 → s.dev.stopped = false → s.dev.counting n 3 = true →
    s.dev.on (Pg.PFB n) Reg.PFB.GRAY = false → v < 2 ^ s.dev.pfb n Reg.PFB.SSI_BITS →
    s.dev.pfb n Reg.PFB.ST_BITS < s.dev.pfb n Reg.PFB.SSI_BITS → s.dev.pfb n Reg.PFB.SSI_BITS ≤ 32 →
    s.dev.absolute n ≠ v →
    ∃ t, exec (.ssiFrame n false v) s = .next t ∧ Framed [Pg.PFB n, Pg.PCM 0, Pg.PCM 1, Pg.TMB]
    { s.dev with tim := t.dev.tim, cap := t.dev.cap, pip := t.dev.pip, pow := t.dev.pow } t.dev ∧ t.dev.pfb n
    Reg.PFB.POS = v % 2 ^ s.dev.pfb n Reg.PFB.ST_BITS ∧ t.dev.pfb n Reg.PFB.REV = v / 2 ^ s.dev.pfb n
    Reg.PFB.ST_BITS) ∧
  (∀ (s : State) (n : Nat), n < 16 → s.dev.stopped = false → s.dev.pfb n Reg.PFB.MODE ≠ 0 →
    ∃ t, exec (.zeroSpeed n) s = .next t ∧ Still [Pg.PFB n] { s.dev with tim := t.dev.tim } t.dev ∧ t.dev.pfb n
    Reg.PFB.SPEED = 0 ∧ t.dev.pfb n Reg.PFB.SPEED_VALID = 1 ∧ (t.dev.chan n).window = [])

/-- SET_GO loads POS_SET and REV_SET within the revolution and restarts the speed window; Z_ARM arms homing; an
index latches POS, REV and the Timebase, loads Z_VALUE when armed, and with Z_MODE 3 counts a POS off Z_VALUE; a
snapshot joins the history of 16,384; a latch at its instant puts the frame's POSITION entry; SYNTH advances one
state; a pulse ends. Beside its values each such clause says what stays as it was: the registers of all other
pages and the other parts of the device, but for what events, interrupts and ledger records reach where it says
Framed. -/
def Obligations.PositionPresetAndIndex : Prop :=
  (∀ (s : State) (f n v : Nat), f < 64 → n < 16 → v < 2 ^ 32 → Taken s.dev f (Pg.PFB n) 0x120 = true →
    bitAt v 0 = true → s.dev.pfb n Reg.PFB.POS_SET < s.dev.cpr n → s.dev.pfb n Reg.PFB.POS_SET < 2 ^ 32 →
    s.dev.pfb n Reg.PFB.REV_SET < 2 ^ 32 →
    ∃ t, exec (.preset f n v) s = .next t ∧ Framed [Pg.PFB n] { s.dev with tim := t.dev.tim } t.dev ∧ t.dev.pfb n
    Reg.PFB.POS = s.dev.pfb n Reg.PFB.POS_SET ∧ t.dev.pfb n Reg.PFB.REV = s.dev.pfb n Reg.PFB.REV_SET ∧ t.dev.pfb n
    Reg.PFB.SPEED_VALID = 0 ∧ (t.dev.chan n).window = []) ∧
  (∀ (s : State) (f n v : Nat), f < 64 → n < 16 → v < 2 ^ 32 → Taken s.dev f (Pg.PFB n) 0x120 = true →
    bitAt v 0 = false → bitAt v 1 = true →
    ∃ t, exec (.zArm f n v) s = .next t ∧ Framed [] { s.dev with tim := t.dev.tim } t.dev ∧ (t.dev.chan n).zArmed =
    true ∧ t.dev.pfb n Reg.PFB.POS = s.dev.pfb n Reg.PFB.POS) ∧
  (∀ (s : State) (n : Nat), n < 16 → s.dev.stopped = false → s.dev.counting n 1 = true →
    s.dev.pfb n Reg.PFB.Z_MODE = 2 → (s.dev.chan n).zArmed = true → s.dev.pfb n Reg.PFB.Z_VALUE < 2 ^ 32 →
    ∃ t, exec (.indexEdge n) s = .next t ∧ Framed [Pg.PFB n] { s.dev with tim := t.dev.tim } t.dev ∧ t.dev.pfb n
    Reg.PFB.POS = s.dev.pfb n Reg.PFB.Z_VALUE ∧ t.dev.pfb n Reg.PFB.Z_HOMED = 1 ∧ (t.dev.chan n).zArmed = false ∧
    t.dev.rd64 (Pg.PFB n) Reg.PFB.Z_NS_LO Reg.PFB.Z_NS_HI = s.dev.ns) ∧
  (∀ (s : State) (n : Nat), n < 16 → s.dev.stopped = false → s.dev.counting n 1 = true →
    s.dev.pfb n Reg.PFB.Z_MODE = 1 → s.dev.pfb n Reg.PFB.POS < 2 ^ 32 → s.dev.pfb n Reg.PFB.REV < 2 ^ 32 →
    ∃ t, exec (.indexEdge n) s = .next t ∧ Framed [Pg.PFB n] s.dev t.dev ∧ t.dev.pfb n Reg.PFB.Z_POS = s.dev.pfb n
    Reg.PFB.POS ∧ t.dev.pfb n Reg.PFB.Z_REV = s.dev.pfb n Reg.PFB.REV ∧ t.dev.pfb n Reg.PFB.POS = s.dev.pfb n
    Reg.PFB.POS ∧ bitAt (t.dev.rd (Pg.PFB n) Reg.HDR.INT_STAT) 1 = true) ∧
  (∀ (s : State) (n : Nat), n < 16 → s.dev.stopped = false → s.dev.tim.latches = [] →
    ∃ t, exec (.positionSnapshot n) s = .next t ∧ Still [] { s.dev with tim := t.dev.tim } t.dev ∧ (t.dev.chan
    n).hist = (s.dev.snapshotOf n :: (s.dev.chan n).hist).take 16384 ∧ (t.dev.chan n).preset = false) ∧
  (∀ (s : State) (h cid n tm : Nat) (fr : Frame), h < 256 → cid < 2 ^ 48 → n < 16 → s.dev.stopped = false →
    s.dev.tim.latches = [(frameKey h cid, n, tm)] → s.dev.frame? (frameKey h cid) = some fr → fr.tAnn < tm →
    fr.key = frameKey h cid →
    ∃ t, exec (.positionLatch h cid n) s = .next t ∧ Still [] { s.dev with cap := t.dev.cap, tim := t.dev.tim }
    t.dev ∧ t.dev.tim.latches = [] ∧ (t.dev.frame? (frameKey h cid)).map (fun g => (Assoc.find g.pos n).map (fun e
    => e.take 4)) = some (some (leBytes 4 (s.dev.pfb n Reg.PFB.POS)))) ∧
  (∀ (s : State) (n : Nat), n < 16 → s.dev.stopped = false → s.dev.pfb n Reg.PFB.PFO_MODE = 2 →
    (s.dev.chan n).synth < (s.dev.chan n).total →
    ∃ t, exec (.synthStep n) s = .next t ∧ Framed [Pg.PFB n] { s.dev with tim := t.dev.tim } t.dev ∧ (t.dev.chan
    n).synth = (s.dev.chan n).synth + 1 ∧ (t.dev.chan n).total = (s.dev.chan n).total) ∧
  (∀ (s : State) (u : Nat), u < 32 → s.dev.stopped = false →
    exec (.pulseEnd u) s = .next (s.withDev
    ({ s.dev with tim := { s.dev.tim with pulsing := s.dev.tim.pulsing.filter (· ≠ u) } }))) ∧
  (∀ (s : State) (f u v : Nat), f < 64 → u < 32 → v < 2 ^ 32 →
    Taken s.dev f (unitAt u).1 (0x404 + 0x40 * (unitAt u).2) = true →
    ∃ t, exec (.cmpPairWrite f u 1 v) s = .next t ∧ Still [] { s.dev with lowHeld := t.dev.lowHeld } t.dev ∧
    t.dev.tim = s.dev.tim ∧ t.dev.cmp u Reg.PCM.CMP_POS = s.dev.cmp u Reg.PCM.CMP_POS ∧ Assoc.find t.dev.lowHeld
    (halfKey f (unitAt u).1 (0x404 + 0x40 * (unitAt u).2)) = some v) ∧
  (∀ (s : State) (f u v lo : Nat), f < 64 → u < 32 → v < 2 ^ 32 → lo < 2 ^ 32 →
    Taken s.dev f (unitAt u).1 (0x408 + 0x40 * (unitAt u).2) = true →
    Assoc.find s.dev.lowHeld (halfKey f (unitAt u).1 (0x404 + 0x40 * (unitAt u).2)) = some lo →
    ∃ t, exec (.cmpPairWrite f u 2 v) s = .next t ∧ Framed [(unitAt u).1] { s.dev with lowHeld := t.dev.lowHeld }
    t.dev ∧ t.dev.cmp u Reg.PCM.CMP_POS = lo ∧ t.dev.cmp u Reg.PCM.CMP_REV = v ∧ t.dev.cmp u Reg.PCM.ARMED_POS = b2n
    (decide (s.dev.cmp u Reg.PCM.EN = 1) && decide (s.dev.cmp u Reg.PCM.DIR_POS = 1) && (t.dev.armable u).1) ∧
    t.dev.cmp u Reg.PCM.ARMED_NEG = b2n (decide (s.dev.cmp u Reg.PCM.EN = 1) && decide (s.dev.cmp u Reg.PCM.DIR_NEG
    = 1) && (t.dev.armable u).2))

/-- A GRP_CTRL that fits enables the slot and enters DETECT with its LANES and RATE; one that overlaps or is out of
range is ignored and sets ERR_STAT bit 0; EN 0 stops the group; MAP_RESET restores the identity map of its lane; a
VCMAP write takes the Head ID and VALID, and UNBIND ends the binding. Beside its values each such clause says what
stays as it was: the registers of all other pages and the other parts of the device, but for what events,
interrupts and ledger records reach where it says Framed. -/
def Obligations.LinkGroupControl : Prop :=
  (∀ (s : State) (f g v : Nat), f < 64 → g < 32 → v < 2 ^ 32 → s.dev.cap.frames = [] →
    Taken s.dev f (slotOf g).1 (0x100 + 0x20 * (g % 4)) = true → bitAt v 0 = true →
    s.dev.slotFits g (bits v 1 5) (bits v 8 3) = true → s.dev.grpOn g = false →
    ∃ t, exec (.grpCtrlEn f g v) s = .next t ∧ Framed ([(slotOf g).1] ++ Pg.fes) { s.dev with cap := t.dev.cap }
    t.dev ∧ t.dev.grpOn g = true ∧ t.dev.grpState g = DETECT ∧ (t.dev.group g).lanes = bits v 1 5 ∧ (t.dev.group
    g).rate = bits v 8 3) ∧
  (∀ (s : State) (f g v : Nat), f < 64 → g < 32 → v < 2 ^ 32 → s.dev.cap.frames = [] →
    Taken s.dev f (slotOf g).1 (0x100 + 0x20 * (g % 4)) = true → bitAt v 0 = true →
    s.dev.slotFits g (bits v 1 5) (bits v 8 3) = false →
    ∃ t, exec (.grpCtrlEn f g v) s = .next t ∧ Framed ([(slotOf g).1] ++ Pg.fes) s.dev t.dev ∧ t.dev.grpOn g =
    s.dev.grpOn g ∧ t.dev.grp g Reg.HLL.LANES = s.dev.grp g Reg.HLL.LANES ∧ t.dev.cap.groups = s.dev.cap.groups ∧
    bitAt (t.dev.rd (slotOf g).1 Reg.HDR.ERR_STAT) 0 = true) ∧
  (∀ (s : State) (f g v : Nat), f < 64 → g < 32 → v < 2 ^ 32 → s.dev.cap.frames = [] →
    Taken s.dev f (slotOf g).1 (0x100 + 0x20 * (g % 4)) = true → bitAt v 0 = false → bitAt v 24 = false →
    s.dev.grpOn g = true →
    ∃ t, exec (.grpCtrlEn f g v) s = .next t ∧ Framed ([] ++ Pg.stops) { s.dev with cap := t.dev.cap } t.dev ∧
    t.dev.grpOn g = false ∧ t.dev.grpState g = 0 ∧ (t.dev.group g).unacked = [] ∧ (t.dev.group g).sparing = none) ∧
  (∀ (s : State) (f g v : Nat), f < 64 → g < 32 → v < 2 ^ 32 → s.dev.cap.frames = [] →
    Taken s.dev f (slotOf g).1 (0x100 + 0x20 * (g % 4)) = true → bitAt v 0 = false → bitAt v 24 = true →
    s.dev.grpOn g = false → bits v 1 5 = 1 →
    ∃ t, exec (.mapReset f g v) s = .next t ∧ Framed ([] ++ Pg.hlls ++ Pg.hlqs) s.dev t.dev ∧ t.dev.physOf g = g ∧
    t.dev.lane g Reg.HLQ.LOGICAL = g ∧ t.dev.rd (Pg.HLL (g / 4)) Reg.HLL.RETIRED (g % 4) = 0) ∧
  (∀ (s : State) (f g vc v : Nat), f < 64 → g < 32 → vc < 16 → v < 2 ^ 32 → s.dev.cap.frames = [] →
    Taken s.dev f (slotOf g).1 (0x200 + 4 * (16 * (g % 4) + vc)) = true → bitAt v 9 = false →
    ∃ t, exec (.vcmapWrite f g vc v) s = .next t ∧ Framed ([(slotOf g).1] ++ Pg.fes) { s.dev with cap := t.dev.cap }
    t.dev ∧ t.dev.vcmap g vc = (bits v 0 8, bitAt v 8) ∧ t.dev.cap.groups = s.dev.cap.groups) ∧
  (∀ (s : State) (f g vc v : Nat), f < 64 → g < 32 → vc < 16 → v < 2 ^ 32 → s.dev.cap.frames = [] →
    Taken s.dev f (slotOf g).1 (0x200 + 4 * (16 * (g % 4) + vc)) = true → bitAt v 9 = true →
    Assoc.has (s.dev.group g).vcs vc = true → (s.dev.group g).unacked.length < 64 →
    ∃ t, exec (.vcmapUnbind f g vc v) s = .next t ∧ Framed ([(slotOf g).1] ++ Pg.ings ++ Pg.fes)
    { s.dev with cap := t.dev.cap } t.dev ∧ Assoc.has (t.dev.group g).vcs vc = false ∧ Out.ctrl g ⟨(s.dev.group
    g).txSeq, vc, 0x09, []⟩ ∈ t.dev.outs)

/-- Signal on every lane takes DETECT to LOCK; sync lock of a lane takes LOCK to ALIGN when all have it; a good
gathering takes ALIGN to BOND, one whose sync word is missing is discarded, counted and restarts parsing; loss of
lock that no spare can mend fails an ACTIVE group with FAIL_CODE 2; a training time-out fails with FAIL_CODE 1 and
backs off min(1000, 2^b) ms; the backoff ends in DETECT; 10 s of ACTIVE reset it. A group that is DISABLED or in
BACKOFF sends nothing; what goes next is of the first priority that waits, TIME before ACK before CTRL before
RETVID, and IDLE fills what is left (R113). Beside its values each such clause says what stays as it was: the
registers of all other pages and the other parts of the device, but for what events, interrupts and ledger records
reach where it says Framed. -/
def Obligations.LinkTraining : Prop :=
  (∀ (d : Dev) (g : Nat), (d.grpState g = 0 ∨ d.grpState g = BACKOFF) → d.groupTick g = d) ∧
  (∀ (q : List (Nat × List Nat)) (e : Nat × List Nat), nextPacket q = some e → ∀ f ∈ q, e.1 ≤ f.1) ∧
  (∀ (n : Nat), (packetArea n [] []).1 = List.replicate n 0) ∧
  (∀ (s : State) (g : Nat), g < 32 → s.dev.stopped = false → s.dev.grpState g = DETECT →
    ∃ t, exec (.signalDetect g) s = .next t ∧ Still ([(slotOf g).1] ++ Pg.hlqs) { s.dev with pow := t.dev.pow }
    t.dev ∧ t.dev.grpState g = LOCK ∧ t.dev.grp g Reg.HLL.ATTEMPT_CNT = (s.dev.grp g Reg.HLL.ATTEMPT_CNT + 1) % 2 ^
    32) ∧
  (∀ (s : State) (lane g : Nat) (inverted : Bool), lane < 36 → s.dev.stopped = false →
    s.dev.held (quad lane).1 = false → s.dev.groupOfLane (s.dev.lane lane Reg.HLQ.LOGICAL) = some g →
    s.dev.grpState g = LOCK → s.dev.lanesOf g = [s.dev.lane lane Reg.HLQ.LOGICAL] →
    s.dev.physOf (s.dev.lane lane Reg.HLQ.LOGICAL) = lane →
    ∃ t, exec (.syncLock lane inverted) s = .next t ∧ Still [(quad lane).1, (slotOf g).1]
    { s.dev with cap := t.dev.cap } t.dev ∧ t.dev.lane lane Reg.HLQ.SYNC_LOCK = 1 ∧ t.dev.lane lane
    Reg.HLQ.RX_INVERTED = b2n inverted ∧ t.dev.grpState g = ALIGN) ∧
  (∀ (s : State) (lane g : Nat), lane < 36 → s.dev.stopped = false → s.dev.cap.frames = [] →
    s.dev.groupOfLane (s.dev.lane lane Reg.HLQ.LOGICAL) = some g → s.dev.grpState g = ACTIVE →
    (s.dev.group g).sparing = none →
    (s.dev.wr (quad lane).1 Reg.HLQ.SYNC_LOCK 0 (quad lane).2).spareFor g (s.dev.lane lane Reg.HLQ.LOGICAL) = none →
    ∃ t, exec (.syncLoss lane) s = .next t ∧ Framed ([(quad lane).1, (slotOf g).1] ++ Pg.ings ++ Pg.fes)
    { s.dev with cap := t.dev.cap } t.dev ∧ t.dev.lane lane Reg.HLQ.SYNC_LOCK = 0 ∧ t.dev.grpState g = BACKOFF ∧
    t.dev.grp g Reg.HLL.FAIL_STATE = ACTIVE ∧ t.dev.grp g Reg.HLL.FAIL_CODE = 2) ∧
  (∀ (s : State) (g tag : Nat) (ws : List Nat), g < 32 → tag < 128 → bits tag 5 2 < 2 → ws.length = 254 →
    ws.all (fun x => x < 2 ^ 64) = true → s.dev.stopped = false → s.dev.cap.frames = [] → s.dev.grpState g = ALIGN →
    (s.dev.group g).lanes = 1 → (s.dev.group g).fresh = [] → s.dev.lane (s.dev.physOf g) Reg.HLQ.RX_INVERTED = 0 →
    ∃ t, exec (.gathering g [some (Line.encode ((Assoc.find (s.dev.group g).history g).getD 0) tag ws)]) s = .next t
    ∧ Still ([(slotOf g).1] ++ Pg.fes) { s.dev with cap := t.dev.cap, pow := t.dev.pow } t.dev ∧ t.dev.grpState g =
    BOND ∧ (t.dev.group g).lastGseq = some (bits (ws.getD 0 0) 0 32)) ∧
  (∀ (s : State) (g : Nat), g < 32 → s.dev.stopped = false → s.dev.cap.frames = [] → s.dev.grpState g = BIND →
    (s.dev.group g).lanes = 1 → (s.dev.group g).fresh = [] →
    ∃ t, exec (.gathering g [none]) s = .next t ∧ Still ([(slotOf g).1] ++ Pg.fes)
    { s.dev with cap := t.dev.cap, pow := t.dev.pow } t.dev ∧ t.dev.grp g Reg.HLL.DISCARD_CNT = min (s.dev.grp g
    Reg.HLL.DISCARD_CNT + 1) 65535 ∧ (t.dev.group g).resync = true ∧ (t.dev.group g).partialPkt = none ∧
    t.dev.grpState g = BIND) ∧
  (∀ (s : State) (g : Nat), g < 32 → s.dev.stopped = false → s.dev.cap.frames = [] → LOCK ≤ s.dev.grpState g →
    s.dev.grpState g ≤ BIND →
    ∃ t, exec (.trainingTimeout g) s = .next t ∧ Framed ([] ++ Pg.stops) { s.dev with cap := t.dev.cap } t.dev ∧
    t.dev.grpState g = BACKOFF ∧ t.dev.grp g Reg.HLL.FAIL_STATE = s.dev.grpState g ∧ t.dev.grp g Reg.HLL.FAIL_CODE =
    1 ∧ t.dev.grp g Reg.HLL.BACKOFF_MS = min 1000 (2 ^ (s.dev.group g).failures) ∧ (t.dev.group g).failures =
    (s.dev.group g).failures + 1) ∧
  (∀ (s : State) (g : Nat), g < 32 → s.dev.stopped = false → s.dev.grpState g = BACKOFF →
    ∃ t, exec (.backoffExpiry g) s = .next t ∧ Still [(slotOf g).1] { s.dev with cap := t.dev.cap } t.dev ∧
    t.dev.grpState g = DETECT ∧ (t.dev.group g).lanes = s.dev.grp g Reg.HLL.LANES ∧ (t.dev.group g).rate = s.dev.grp
    g Reg.HLL.RATE) ∧
  (∀ (s : State) (g : Nat), g < 32 → s.dev.stopped = false → s.dev.grpState g = ACTIVE →
    exec (.backoffReset g) s = .next (s.withDev ((s.dev.setGroup g { s.dev.group g with failures := 0 }).setGrp g
    Reg.HLL.BACKOFF_MS 1)))

/-- BIND_DONE whose mask was answered makes the group ACTIVE; an acceptable BIND_OFFER binds the VC to its head, an
offer of another version is refused; ACK retires the messages before NEXT_SEQ; a time-out sends every
unacknowledged message again; DREQ is answered with DRESP at the packet's instant; SYNC carries the instant of the
SYNC before; STATUS adds failures to the lane window; sparing starts at the threshold, waits for SPARE_READY,
switches the map and is given up at the time-out. Beside its values each such clause says what stays as it was:
the registers of all other pages and the other parts of the device, but for what events, interrupts and ledger
records reach where it says Framed. -/
def Obligations.LinkMessages : Prop :=
  (∀ (s : State) (g : Nat) (p : Packet) (r : List Packet), g < 32 → s.dev.stopped = false →
    (s.dev.group g).rx = p :: r → pType p.header = 8 → bits p.header 37 8 = 0x42 → s.dev.grpState g = BIND →
    bits (p.words.getD 0 0) 0 16 &&& (s.dev.group g).offered = bits (p.words.getD 0 0) 0 16 →
    ∃ t, exec (.bindDone g) s = .next t ∧ Still [(slotOf g).1] { s.dev with cap := t.dev.cap, pow := t.dev.pow }
    t.dev ∧ t.dev.grpState g = ACTIVE ∧ (t.dev.group g).rx = r) ∧
  (∀ (s : State) (g : Nat) (p : Packet) (r : List Packet), g < 32 → s.dev.stopped = false → s.dev.cap.frames = [] →
    (s.dev.group g).rx = p :: r → pType p.header = 8 → bits p.header 37 8 = 0x41 → s.dev.grpState g = BIND →
    Assoc.find (s.dev.group g).vcs (pVc p.header) = none → (s.dev.vcmap g (pVc p.header)).2 = true →
    (s.dev.vcmap g (pVc p.header)).1 < 252 → bits (p.words.getD 3 0) 16 16 = 0x0100 →
    s.dev.boundAny (fun y => y.uid = p.words.getD 0 0) = false →
    s.dev.boundAny (fun y => y.head = (s.dev.vcmap g (pVc p.header)).1) = false →
    ((s.dev.group g).vcs.foldl (fun a e => a + e.2.pixelRate) 0) + p.words.getD 2 0 ≤ groupPayload (s.dev.group
    g).lanes (s.dev.group g).rate → s.dev.ctxOfHead (s.dev.vcmap g (pVc p.header)).1 = none →
    ∃ t, exec (.bindOffer g) s = .next t ∧ Framed ([(slotOf g).1] ++ Pg.ings ++ Pg.fes)
    { s.dev with cap := t.dev.cap, pow := t.dev.pow } t.dev ∧ (Assoc.find (t.dev.group g).vcs (pVc p.header)).map
    (fun b => (b.head, b.uid)) = some ((s.dev.vcmap g (pVc p.header)).1, p.words.getD 0 0) ∧ (t.dev.head
    (s.dev.vcmap g (pVc p.header)).1).vc = some (g, pVc p.header) ∧ t.dev.admission (s.dev.vcmap g (pVc p.header)).1
    = 1 ∧ bitAt (t.dev.rd (slotOf g).1 Reg.HDR.INT_STAT) 1 = true) ∧
  (∀ (s : State) (g : Nat) (p : Packet) (r : List Packet), g < 32 → s.dev.stopped = false → s.dev.cap.frames = [] →
    (s.dev.group g).rx = p :: r → pType p.header = 8 → bits p.header 37 8 = 0x41 → s.dev.grpState g = BIND →
    Assoc.find (s.dev.group g).vcs (pVc p.header) = none → bits (p.words.getD 3 0) 16 16 ≠ 0x0100 →
    (s.dev.group g).unacked.length < 64 →
    ∃ t, exec (.bindOffer g) s = .next t ∧ Framed ([(slotOf g).1] ++ Pg.fes)
    { s.dev with cap := t.dev.cap, pow := t.dev.pow } t.dev ∧ (t.dev.group g).vcs = (s.dev.group g).vcs ∧ Out.ctrl g
    ⟨(s.dev.group g).txSeq, pVc p.header, 0x02, [4, p.words.getD 0 0]⟩ ∈ t.dev.outs ∧ bitAt (t.dev.rd (slotOf g).1
    Reg.HDR.INT_STAT) 2 = true) ∧
  (∀ (s : State) (g : Nat) (p : Packet) (r : List Packet), g < 32 → s.dev.stopped = false →
    (s.dev.group g).rx = p :: r → pType p.header = 8 → bits p.header 37 8 = 0x43 → (s.dev.group g).lanes = 1 →
    bits (p.words.getD 0 0) 0 16 ≠ 0 →
    ∃ t, exec (.status g) s = .next t ∧ Still [(slotOf g).1] { s.dev with cap := t.dev.cap, pow := t.dev.pow } t.dev
    ∧ Assoc.find (t.dev.group g).window g = some (min 65535 ((Assoc.find (s.dev.group g).window g).getD 0 + bits
    (p.words.getD 0 0) 0 16))) ∧
  (∀ (s : State) (g : Nat) (p : Packet) (r : List Packet) (x : Sparing), g < 32 → s.dev.stopped = false →
    (s.dev.group g).rx = p :: r → pType p.header = 8 → bits p.header 37 8 = 0x44 →
    (s.dev.group g).sparing = some x → x.lane = bits (p.words.getD 0 0) 0 5 →
    ∃ t, exec (.spareReady g) s = .next t ∧ Still [] { s.dev with cap := t.dev.cap, pow := t.dev.pow } t.dev ∧
    (t.dev.group g).sparing = some { x with ready := true } ∧ (t.dev.group g).rx = r) ∧
  (∀ (s : State) (g : Nat) (p : Packet) (r : List Packet) (m : CtrlMsg) (u : List CtrlMsg), g < 32 →
    s.dev.stopped = false → (s.dev.group g).rx = p :: r → pType p.header = 0xB → (s.dev.group g).unacked = m :: u →
    m.seq < 65536 → bits p.header 21 16 = (m.seq + 1) % 65536 → (s.dev.group g).waiting = [] →
    (s.dev.group g).sparing = none → (s.dev.group g).test = none →
    ∃ t, exec (.ack g) s = .next t ∧ Still [] { s.dev with cap := t.dev.cap, outs := t.dev.outs, pow := t.dev.pow }
    t.dev ∧ (t.dev.group g).unacked = u ∧ (t.dev.group g).timeouts = 0 ∧ (t.dev.group g).rx = r) ∧
  (∀ (s : State) (g : Nat), g < 32 → s.dev.stopped = false → s.dev.cap.frames = [] → (s.dev.group g).unacked ≠ [] →
    (s.dev.group g).timeouts < 15 →
    ∃ t, exec (.ackTimeout g) s = .next t ∧ Still ([(slotOf g).1] ++ Pg.fes)
    { s.dev with cap := t.dev.cap, outs := t.dev.outs } t.dev ∧ (t.dev.group g).timeouts = (s.dev.group g).timeouts
    + 1 ∧ (t.dev.group g).unacked = (s.dev.group g).unacked ∧ ((s.dev.group g).unacked.all fun m => decide (Out.ctrl
    g m ∈ t.dev.outs)) = true) ∧
  (∀ (s : State) (g : Nat), g < 32 → s.dev.stopped = false → s.dev.cap.frames = [] → (s.dev.group g).unacked ≠ [] →
    15 ≤ (s.dev.group g).timeouts →
    ∃ t, exec (.ackTimeout g) s = .next t ∧ Framed ([] ++ Pg.stops) { s.dev with cap := t.dev.cap } t.dev ∧
    t.dev.grpState g = BACKOFF ∧ t.dev.grp g Reg.HLL.FAIL_CODE = 4 ∧ (t.dev.group g).unacked = []) ∧
  (∀ (s : State) (g : Nat) (p : Packet) (r : List Packet), g < 32 → s.dev.stopped = false →
    (s.dev.group g).rx = p :: r → pType p.header = 9 →
    ∃ t, exec (.dreq g) s = .next t ∧ Still [] { s.dev with cap := t.dev.cap, outs := t.dev.outs, pow := t.dev.pow }
    t.dev ∧ Out.time g 0x02 (s.dev.group g).dresp [p.at_ / 2 ^ 32 % 2 ^ 64, p.at_ % 2 ^ 32 + bits (p.words.getD 0 0)
    0 16 * 2 ^ 32] ∈ t.dev.outs ∧ (t.dev.group g).dresp = ((s.dev.group g).dresp + 1) % 65536) ∧
  (∀ (s : State) (g ref u : Nat), g < 32 → ref < 2 ^ 96 → s.dev.stopped = false → s.dev.grpState g = ACTIVE →
    (s.dev.group g).syncAt = some u →
    ∃ t, exec (.timeSync g ref) s = .next t ∧ Still []
    { s.dev with cap := t.dev.cap, outs := t.dev.outs, pow := t.dev.pow } t.dev ∧ Out.time g 0x01 (s.dev.group
    g).sync [u / 2 ^ 32 % 2 ^ 64, u % 2 ^ 32 + ((s.dev.group g).sync + 65535) % 65536 * 2 ^ 32] ∈ t.dev.outs ∧
    (t.dev.group g).syncAt = some (ref + psUnits (sgn 16 (s.dev.grp g Reg.HLL.TX_ASYM_PS))).toNat) ∧
  (∀ (s : State) (l g k : Nat), l < 32 → s.dev.stopped = false → s.dev.groupOfLane l = some g →
    s.dev.grpState g = ACTIVE → (s.dev.group g).sparing = none →
    s.dev.rd (Pg.HLL (l / 4)) Reg.HLL.LANE_SPARE_THRESH ≤ (Assoc.find (s.dev.group g).window l).getD 0 →
    s.dev.spareFor g l = some k →
    ∃ t, exec (.laneSpareThresh l) s = .next t ∧ Still [] { s.dev with cap := t.dev.cap, outs := t.dev.outs } t.dev
    ∧ (t.dev.group g).sparing = some { lane := l, spare := k, old := s.dev.physOf l }) ∧
  (∀ (s : State) (g : Nat) (x : Sparing), g < 32 → s.dev.stopped = false → (s.dev.group g).sparing = some x →
    x.ready = false →
    ∃ t, exec (.spareReadyTimeout g) s = .next t ∧ Framed [(slotOf g).1] { s.dev with cap := t.dev.cap } t.dev ∧
    (t.dev.group g).sparing = none ∧ bitAt (t.dev.rd (slotOf g).1 Reg.HDR.INT_STAT) 4 = true) ∧
  (∀ (s : State) (g : Nat) (x : Sparing), g < 32 → s.dev.stopped = false →
    ((s.dev.group g).between.all fun v => !Assoc.has (s.dev.group g).vcs v) = true →
    (s.dev.group g).sparing = some x → x.ready = true → x.switched = false → x.lane < 32 → x.spare < 4 →
    s.dev.lane (32 + x.spare) Reg.HLQ.SYNC_LOCK = 1 →
    ∃ t, exec (.spareSwitch g) s = .next t ∧ Still ([Pg.HLL (x.lane / 4)] ++ Pg.hlqs)
    { s.dev with cap := t.dev.cap, outs := t.dev.outs } t.dev ∧ t.dev.physOf x.lane = 32 + x.spare ∧ (t.dev.group
    g).sparing = some { x with switched := true, commitSeq := some (s.dev.group g).txSeq }) ∧
  (∀ (s : State) (g : Nat) (x : Sparing), g < 32 → s.dev.stopped = false → (s.dev.group g).sparing = some x →
    x.ready = true → x.switched = false → x.lane < 32 → x.spare < 4 →
    s.dev.lane (32 + x.spare) Reg.HLQ.SYNC_LOCK = 1 →
    ∃ t, exec (.spareWait g) s = .next t ∧ Still ([Pg.HLL (x.lane / 4)] ++ Pg.hlqs)
    { s.dev with cap := t.dev.cap, outs := t.dev.outs } t.dev ∧ t.dev.physOf x.lane = 32 + x.spare ∧ (t.dev.group
    g).sparing = some { x with switched := true, commitSeq := some (s.dev.group g).txSeq })

/-- LANE_CTRL of a lane in no group takes its fields; far-end loopback is refused without an ACTIVE group and else
sends TEST; a checker that does not lock within the bits received shows PRBS_LOCK 0; a locked one counts every bit
it compares. Beside its values each such clause says what stays as it was: the registers of all other pages and
the other parts of the device, but for what events, interrupts and ledger records reach where it says Framed. -/
def Obligations.LinkTestModes : Prop :=
  (∀ (s : State) (f lane v : Nat), f < 64 → lane < 36 → v < 2 ^ 32 → s.dev.cap.frames = [] →
    Taken s.dev f (quad lane).1 (0x100 + 0x40 * (lane % 4)) = true →
    s.dev.groupOfLane (s.dev.lane lane Reg.HLQ.LOGICAL) = none → bits v 0 3 ≠ 4 →
    ∃ t, exec (.loopback f lane v) s = .next t ∧ Framed ([(quad lane).1] ++ Pg.fes) { s.dev with cap := t.dev.cap }
    t.dev ∧ t.dev.lane lane Reg.HLQ.LOOPBACK = bits v 0 3 ∧ t.dev.lane lane Reg.HLQ.PRBS_GEN = bits v 4 3 ∧
    t.dev.lane lane Reg.HLQ.PRBS_CHK = bits v 8 3 ∧ t.dev.lane lane Reg.HLQ.TX_POL = bits v 16 1) ∧
  (∀ (s : State) (f lane v g : Nat), f < 64 → lane < 36 → v < 2 ^ 32 → s.dev.cap.frames = [] →
    Taken s.dev f (quad lane).1 (0x100 + 0x40 * (lane % 4)) = true →
    s.dev.groupOfLane (s.dev.lane lane Reg.HLQ.LOGICAL) = some g → bits v 0 3 = 1 → s.dev.grpState g ≠ TEST →
    ∃ t, exec (.loopback f lane v) s = .next t ∧ Framed ([(quad lane).1] ++ Pg.stops)
    { s.dev with cap := t.dev.cap } t.dev ∧ t.dev.grpState g = TEST ∧ t.dev.lane lane Reg.HLQ.LOOPBACK = 1 ∧
    (t.dev.group g).unacked = []) ∧
  (∀ (s : State) (f lane v g : Nat), f < 64 → lane < 36 → v < 2 ^ 32 → s.dev.cap.frames = [] →
    Taken s.dev f (quad lane).1 (0x100 + 0x40 * (lane % 4)) = true →
    s.dev.groupOfLane (s.dev.lane lane Reg.HLQ.LOGICAL) = some g → bits v 0 3 = 4 →
    s.dev.lane lane Reg.HLQ.LOOPBACK ≠ 4 → s.dev.grpState g = ACTIVE → (s.dev.group g).test = none →
    ∃ t, exec (.farEndLoopback f lane v) s = .next t ∧ Framed [(quad lane).1] { s.dev with cap := t.dev.cap } t.dev
    ∧ (t.dev.group g).test.map (·.seq) = some (s.dev.group g).txSeq ∧ (t.dev.group g).txSeq = ((s.dev.group g).txSeq
    + 1) % 65536 ∧ t.dev.lane lane Reg.HLQ.LOOPBACK = 4 ∧ t.dev.grpState g = ACTIVE) ∧
  (∀ (s : State) (f lane v : Nat), f < 64 → lane < 36 → v < 2 ^ 32 → s.dev.cap.frames = [] →
    Taken s.dev f (quad lane).1 (0x100 + 0x40 * (lane % 4)) = true →
    s.dev.groupOfLane (s.dev.lane lane Reg.HLQ.LOGICAL) = none → bits v 0 3 = 4 →
    ∃ t, exec (.farEndLoopback f lane v) s = .next t ∧ Framed [(quad lane).1] s.dev t.dev ∧ t.dev.lane lane
    Reg.HLQ.FE_REFUSED = 1 ∧ t.dev.lane lane Reg.HLQ.LOOPBACK = s.dev.lane lane Reg.HLQ.LOOPBACK) ∧
  (∀ (s : State) (lane : Nat) (bs : List Bool), lane < 36 → s.dev.stopped = false →
    s.dev.lane lane Reg.HLQ.PRBS_LOCK = 0 → s.dev.lane lane Reg.HLQ.PRBS_CHK = 1 →
    Assoc.find s.dev.cap.prbs lane = none → bs.length < 263 →
    ∃ t, exec (.prbsLock lane bs) s = .next t ∧ Still [(quad lane).1] { s.dev with cap := t.dev.cap } t.dev ∧
    t.dev.lane lane Reg.HLQ.PRBS_LOCK = 0 ∧ (Assoc.find t.dev.cap.prbs lane).map (·.locked) = some false) ∧
  (∀ (s : State) (lane : Nat) (k : Checker) (b : Bool), lane < 36 → s.dev.stopped = false →
    s.dev.lane lane Reg.HLQ.PRBS_LOCK = 1 → s.dev.lane lane Reg.HLQ.PRBS_CHK = 4 →
    Assoc.find s.dev.cap.prbs lane = some k → k.locked = true → k.flags = [] →
    s.dev.rd64 (quad lane).1 Reg.HLQ.PRBS_BITS_LO Reg.HLQ.PRBS_BITS_HI (quad lane).2 < 2 ^ 48 - 1 →
    s.dev.rd64 (quad lane).1 Reg.HLQ.PRBS_ERR_LO Reg.HLQ.PRBS_ERR_HI (quad lane).2 < 2 ^ 48 - 1 →
    ∃ t, exec (.prbsLockLoss lane [b]) s = .next t ∧ Still [(quad lane).1] { s.dev with cap := t.dev.cap } t.dev ∧
    t.dev.rd64 (quad lane).1 Reg.HLQ.PRBS_BITS_LO Reg.HLQ.PRBS_BITS_HI (quad lane).2 = s.dev.rd64 (quad lane).1
    Reg.HLQ.PRBS_BITS_LO Reg.HLQ.PRBS_BITS_HI (quad lane).2 + 1 ∧ t.dev.rd64 (quad lane).1 Reg.HLQ.PRBS_ERR_LO
    Reg.HLQ.PRBS_ERR_HI (quad lane).2 = s.dev.rd64 (quad lane).1 Reg.HLQ.PRBS_ERR_LO Reg.HLQ.PRBS_ERR_HI (quad
    lane).2 + b2n (b != Line.prbsNext 4 k.history) ∧ t.dev.lane lane Reg.HLQ.PRBS_LOCK = 1)

/-- For every scrambler history, every sync tag with bit 7 zero and every 254 words of 64 bits, the receiver of the
transmitter's line bits finds the tag, the 254 words and their CRC word, and calls the gathering good; the same on
a lane of inverted polarity. -/
def Obligations.LineCodingRoundTrip : Prop :=
  (∀ (h tag : Nat) (ws : List Nat), tag < 128 → ws.length = 254 → ws.all (fun x => x < 2 ^ 64) = true →
    ((Line.receive false h (Line.encode h tag ws)).tag = tag ∧ (Line.receive false h (Line.encode h tag ws)).words =
    ws ++ [Line.crcWord ws] ∧ (Line.receive false h (Line.encode h tag ws)).good = true)) ∧
  (∀ (h tag : Nat) (ws : List Nat), tag < 128 → ws.length = 254 → ws.all (fun x => x < 2 ^ 64) = true →
    Line.receive true h ((Line.encode h tag ws).map fun b => !b) = Line.receive false h (Line.encode h tag ws))

/-- A header of an ADMITTED head whose context has room announces a frame and opens it on its VC; a head without a
context has its frame dropped; a well-formed ROWS packet in order puts its samples into the open frame; an AUX
record that fits is appended; FTRL with the open frame's Capture ID, the row and frame time-outs, and completeness
close the frame. Beside its values each such clause says what stays as it was: the registers of all other pages
and the other parts of the device, but for what events, interrupts and ledger records reach where it says Framed.
-/
def Obligations.IngestOfFrames : Prop :=
  (∀ (s : State) (g c : Nat) (p : Packet) (r : List Packet) (b : Binding), g < 32 → s.dev.stopped = false →
    (s.dev.group g).rx = p :: r → pType p.header = 1 → p.words.length = 8 →
    Assoc.find (s.dev.group g).openFrames (pVc p.header) = none →
    Assoc.find (s.dev.group g).vcs (pVc p.header) = some b → s.dev.shutHead (g / 8) b.head = false →
    s.dev.rd (Pg.ING (g / 8)) Reg.ING.ADMIT b.head = 2 → s.dev.ctxOfHead b.head = some c →
    (s.dev.head b.head).lastCid = none → s.dev.cap.frames = [] → (s.dev.ctx c).quires = [] →
    (s.dev.ctx c).paused = false → (fhdrOf p.words).width ≠ 0 → 8 ≤ (fhdrOf p.words).depth →
    (fhdrOf p.words).depth ≤ 16 → (fhdrOf p.words).cfaKind ≤ 4 →
    (s.dev.placeFrame c (Pb.fe (genFor (s.dev.ctx c).gens (s.dev.ctx c).ord).bank 0 Pb.CTL.CFG_WIDTH) (Pb.fe (genFor
    (s.dev.ctx c).gens (s.dev.ctx c).ord).bank 0 Pb.CTL.CFG_HEIGHT)).isSome = true → s.dev.pip.takes = [] →
    ∃ t, exec (.fhdr g) s = .next t ∧ Framed [Pg.ING (g / 8), s.dev.rspPage c]
    { s.dev with cap := t.dev.cap, pow := t.dev.pow, tim := t.dev.tim } t.dev ∧ (t.dev.frame? (frameKey b.head
    (fhdrOf p.words).cid)).map (fun y => (y.state, y.ctx, y.hdr)) = some (.announced, c, fhdrOf p.words) ∧
    Assoc.find (t.dev.group g).openFrames (pVc p.header) = some (frameKey b.head (fhdrOf p.words).cid) ∧ (t.dev.head
    b.head).lastCid = some (fhdrOf p.words).cid) ∧
  (∀ (s : State) (g : Nat) (p : Packet) (r : List Packet) (b : Binding), g < 32 → s.dev.stopped = false →
    (s.dev.group g).rx = p :: r → pType p.header = 1 → p.words.length = 8 →
    Assoc.find (s.dev.group g).openFrames (pVc p.header) = none →
    Assoc.find (s.dev.group g).vcs (pVc p.header) = some b → s.dev.shutHead (g / 8) b.head = false →
    s.dev.rd (Pg.ING (g / 8)) Reg.ING.ADMIT b.head = 2 → s.dev.ctxOfHead b.head = none →
    ∃ t, exec (.fhdr g) s = .next t ∧ Framed [Pg.ING (g / 8)] { s.dev with cap := t.dev.cap, pow := t.dev.pow }
    t.dev ∧ t.dev.cap.frames = s.dev.cap.frames ∧ Assoc.find (t.dev.group g).dropping (pVc p.header) = some (fhdrOf
    p.words).cid ∧ (t.dev.head b.head).dropped = (s.dev.head b.head).dropped ++ [(fhdrOf p.words).cid]) ∧
  (∀ (s : State) (g k : Nat) (p : Packet) (r : List Packet) (fr : Frame), g < 32 → s.dev.stopped = false →
    (s.dev.group g).rx = p :: r → pType p.header = 2 →
    Assoc.find (s.dev.group g).openFrames (pVc p.header) = some k → s.dev.frame? k = some fr → fr.key = k →
    bits p.header 50 14 ≠ 0 → 8 ≤ fr.hdr.depth → pWords p.header = ceilDiv (bits p.header 50 14 * fr.hdr.depth) 64 →
    p.words.length = pWords p.header →
    p.words.foldr (fun w a => w + 2 ^ 64 * a) 0 < 2 ^ (bits p.header 50 14 * fr.hdr.depth) →
    fr.row.getD 0 ≤ bits p.header 21 14 → bits p.header 21 14 < fr.cfgH →
    ∃ t, exec (.rows g) s = .next t ∧ Still [] { s.dev with cap := t.dev.cap, pow := t.dev.pow } t.dev ∧
    (t.dev.frame? k).map (fun y => (y.state, y.row, y.raw)) = some (if bits p.header 35 15 < fr.cfgW then .ingesting
    else fr.state, some (bits p.header 21 14), (fr.putRow (bits p.header 21 14) (bits p.header 35 15) ((List.range
    (bits p.header 50 14)).map fun ix => bits (p.words.foldr (fun w a => w + 2 ^ 64 * a) 0) (ix * fr.hdr.depth)
    fr.hdr.depth) true).1.raw)) ∧
  (∀ (s : State) (g k : Nat) (p : Packet) (r : List Packet) (fr : Frame), g < 32 → s.dev.stopped = false →
    (s.dev.group g).rx = p :: r → pType p.header = 4 →
    Assoc.find (s.dev.group g).openFrames (pVc p.header) = some k → s.dev.frame? k = some fr → fr.key = k →
    p.words ≠ [] → bits (p.words.getD 0 0) 0 48 = fr.hdr.cid → fr.aux.length + 8 + 8 * p.words.length ≤ 65536 →
    ∃ t, exec (.aux g) s = .next t ∧ Still [] { s.dev with cap := t.dev.cap, pow := t.dev.pow } t.dev ∧
    (t.dev.frame? k).map (·.aux) = some (fr.aux ++ (leBytes 4 (8 * p.words.length) ++ leBytes 2 (bits p.header 21
    16) ++ zeros 2 ++ p.words.flatMap (leBytes 8)))) ∧
  (∀ (s : State) (g k : Nat) (p : Packet) (r : List Packet) (fr : Frame), g < 32 → s.dev.stopped = false →
    s.dev.allAwake = true → (s.dev.group g).rx = p :: r → pType p.header = 3 → p.header ≠ 0 → p.words.length = 2 →
    Assoc.find (s.dev.group g).openFrames (pVc p.header) = some k → s.dev.frame? k = some fr → fr.key = k →
    fr.hdr.cid = bits (p.words.getD 0 0) 0 48 →
    exec (.ftrl g) s = .next (s.withDev (((s.dev.setGroup g { s.dev.group g with rx := r }).closeFrame k
    .trailer).settleClosed))) ∧
  (∀ (s : State) (h cid : Nat), h < 256 → cid < 2 ^ 48 → s.dev.stopped = false →
    exec (.rowTimeout h cid) s = .next (s.withDev ((s.dev.closeFrame (frameKey h cid) .rowTimeout).settleClosed))) ∧
  (∀ (s : State) (h cid : Nat), h < 256 → cid < 2 ^ 48 → s.dev.stopped = false →
    exec (.frameTimeout h cid) s = .next (s.withDev ((s.dev.closeFrame (frameKey h cid)
    .frameTimeout).settleClosed))) ∧
  (∀ (s : State) (h cid : Nat) (fr : Frame), h < 256 → cid < 2 ^ 48 → s.dev.stopped = false →
    s.dev.frame? (frameKey h cid) = some fr → fr.key = frameKey h cid → fr.isComplete = true →
    exec (.complete h cid) s = .next (s.withDev ((s.dev.closeFrame (frameKey h cid) .complete).settleClosed))) ∧
  (∀ (d : Dev) (k : Nat) (fr : Frame) (cause : CloseCause), d.frame? k = some fr → fr.key = k →
    (fr.state = .announced ∨ fr.state = .ingesting) →
    (((d.closeFrame k cause).frame? k).map (fun y => (y.state, y.tIng, y.row)) = some (.ingested, d.now, none) ∧
    (d.closeFrame k cause).cap.mipOpen = d.cap.mipOpen.filter (fun e => e.2 ≠ k)))

/-- A Frame Start on an enabled MIPI port whose context has room announces a frame under CAPTURE_NEXT and increments
it; a long packet is the next row; embedded data is auxiliary data of kind 0x0012; Frame End closes the frame;
other packets are counted, an uncorrectable header makes the port discard until Frame End. An unanswered
configuration goes out again under the next SSQ, and a stalled one raises INT_STAT bit 5. Beside its values each
such clause says what stays as it was: the registers of all other pages and the other parts of the device, but for
what events, interrupts and ledger records reach where it says Framed. -/
def Obligations.IngestOfMipi : Prop :=
  (∀ (s : State) (n c : Nat), n < 4 → s.dev.stopped = false → s.dev.mipOn n = true →
    s.dev.cap.mipLost.contains n = false → s.dev.mipFrame n = none → s.dev.shutHead n (252 + n) = false →
    s.dev.ctxOfHead (252 + n) = some c → (s.dev.head (252 + n)).lastCid = none → s.dev.cap.frames = [] →
    (s.dev.ctx c).quires = [] → (s.dev.ctx c).paused = false → s.dev.rd (Pg.MIP n) Reg.MIP.WIDTH ≠ 0 →
    dtDepth (s.dev.rd (Pg.MIP n) Reg.MIP.DT) ≠ 0 → s.dev.rd (Pg.MIP n) Reg.MIP.CFA_KIND ≤ 4 → s.dev.pip.takes = [] →
    (s.dev.placeFrame c (Pb.fe (genFor (s.dev.ctx c).gens (s.dev.ctx c).ord).bank 0 Pb.CTL.CFG_WIDTH) (Pb.fe (genFor
    (s.dev.ctx c).gens (s.dev.ctx c).ord).bank 0 Pb.CTL.CFG_HEIGHT)).isSome = true →
    ∃ t, exec (.mipiFrameStart n false) s = .next t ∧ Framed [Pg.MIP n, Pg.ING n, s.dev.rspPage c]
    { s.dev with cap := t.dev.cap, pow := t.dev.pow, tim := t.dev.tim } t.dev ∧ Assoc.find t.dev.cap.mipOpen n =
    some (frameKey (252 + n) (s.dev.rd64 (Pg.MIP n) Reg.MIP.CAPTURE_NEXT_LO Reg.MIP.CAPTURE_NEXT_HI)) ∧
    (t.dev.frame? (frameKey (252 + n) (s.dev.rd64 (Pg.MIP n) Reg.MIP.CAPTURE_NEXT_LO Reg.MIP.CAPTURE_NEXT_HI))).map
    (fun y => (y.state, y.ctx, y.hdr.ssq, y.hdr.width)) = some (.announced, c, 0, s.dev.rd (Pg.MIP n) Reg.MIP.WIDTH)
    ∧ t.dev.rd64 (Pg.MIP n) Reg.MIP.CAPTURE_NEXT_LO Reg.MIP.CAPTURE_NEXT_HI = (s.dev.rd64 (Pg.MIP n)
    Reg.MIP.CAPTURE_NEXT_LO Reg.MIP.CAPTURE_NEXT_HI + 1) % 2 ^ 48) ∧
  (∀ (s : State) (n : Nat) (payload : List Byte) (fr : Frame), n < 4 → s.dev.stopped = false →
    s.dev.mipOn n = true → s.dev.mipDrops n = false → s.dev.mipFrame n = some fr →
    fr.key = frameKey (252 + n) fr.hdr.cid → fr.row.getD 0 ≤ (Assoc.find s.dev.cap.mipRow n).getD 0 →
    (Assoc.find s.dev.cap.mipRow n).getD 0 < fr.cfgH →
    ∃ t, exec (.mipiLongPacket n payload true false) s = .next t ∧ Still []
    { s.dev with cap := t.dev.cap, pow := t.dev.pow } t.dev ∧ Assoc.find t.dev.cap.mipRow n = some ((Assoc.find
    s.dev.cap.mipRow n).getD 0 + 1) ∧ (t.dev.frame? fr.key).map (fun y => (y.state, y.row, y.raw)) = some
    (.ingesting, some ((Assoc.find s.dev.cap.mipRow n).getD 0), (fr.putRow ((Assoc.find s.dev.cap.mipRow n).getD 0)
    0 (unpackRow fr.hdr.depth (payload.length + 1) payload) true).1.raw)) ∧
  (∀ (s : State) (n : Nat) (payload : List Byte) (fr : Frame), n < 4 → s.dev.stopped = false →
    s.dev.mipOn n = true → s.dev.mipDrops n = false → s.dev.mipFrame n = some fr →
    fr.key = frameKey (252 + n) fr.hdr.cid → fr.aux.length + 8 + payload.length ≤ 65536 →
    ∃ t, exec (.mipiEmbeddedData n payload false) s = .next t ∧ Still []
    { s.dev with cap := t.dev.cap, pow := t.dev.pow } t.dev ∧ (t.dev.frame? fr.key).map (·.aux) = some (fr.aux ++
    (leBytes 4 payload.length ++ leBytes 2 0x0012 ++ zeros 2 ++ payload))) ∧
  (∀ (s : State) (n : Nat) (fr : Frame), n < 4 → s.dev.stopped = false → s.dev.mipOn n = true →
    s.dev.mipDrops n = false → s.dev.allAwake = true → s.dev.mipFrame n = some fr →
    fr.key = frameKey (252 + n) fr.hdr.cid →
    exec (.mipiFrameEnd n false) s = .next (s.withDev (((((s.dev.mipSkips n false).mipLoses n false)).closeFrame
    fr.key .trailer).settleClosed))) ∧
  (∀ (s : State) (n : Nat), n < 4 → s.dev.stopped = false → s.dev.mipOn n = true →
    exec (.mipiDtSkip n) s = .next (s.withDev (s.dev.bump (Pg.MIP n) Reg.MIP.DT_SKIP_CNT))) ∧
  (∀ (s : State) (n : Nat), n < 4 → s.dev.stopped = false → s.dev.mipOn n = true →
    ∃ t, exec (.mipiHeaderError n) s = .next t ∧ Framed [Pg.MIP n] { s.dev with cap := t.dev.cap } t.dev ∧
    t.dev.cap.mipLost.contains n = true ∧ bitAt (t.dev.rd (Pg.MIP n) Reg.HDR.INT_STAT) 0 = true) ∧
  (∀ (s : State) (h c g vc : Nat), h < 256 → s.dev.stopped = false →
    s.dev.rd (Pg.ING (s.dev.unitOf h)) Reg.ING.ADMIT h = 1 → (s.dev.head h).cfg.isSome = true →
    s.dev.ctxOfHead h = some c → (s.dev.head h).vc = some (g, vc) →
    ∃ t, exec (.admitResend h) s = .next t ∧ Still [] { s.dev with cap := t.dev.cap, outs := t.dev.outs } t.dev ∧
    (t.dev.head h).ssq = nextSsq (s.dev.head h).ssq ∧ (t.dev.head h).cfg = some (nextSsq (s.dev.head h).ssq, crc32c
    (Pb.headBytes (s.dev.ctx c).newest.bank))) ∧
  (∀ (s : State) (h : Nat), h < 256 → s.dev.stopped = false →
    s.dev.rd (Pg.ING (s.dev.unitOf h)) Reg.ING.ADMIT h = 1 →
    ∃ t, exec (.admitStall h) s = .next t ∧ Framed [Pg.ING (s.dev.unitOf h)] s.dev t.dev ∧ bitAt (t.dev.rd (Pg.ING
    (s.dev.unitOf h)) Reg.HDR.INT_STAT) 5 = true ∧ t.dev.cap = s.dev.cap)

/-- CONTEXT_BIND that passes R129 binds the head with its path and completes; CONTEXT_UNBIND ends the binding and
completes; QUIRE_SEAL joins the context's outstanding Quires and waits; TAP_ARM arms a free tap and waits,
TAP_DISARM ends it; a Quire that met no echo has its settings sent again under a new SSQ; mismatching frames make
the newest settings go out again; a held calibration write takes effect once no pass runs. Beside its values each
such clause says what stays as it was: the registers of all other pages and the other parts of the device, but for
what events, interrupts and ledger records reach where it says Framed. -/
def Obligations.ContextsAndQuires : Prop :=
  (∀ (s : State) (p asn k : Nat) (hv : HostView) (c : Cmd) (y : Ctx), p < 128 → asn < 2 ^ 64 →
    Starts (s.dev.see hv) p asn 0x8A c = true → sf c.entry 8 8 1 = 0 → k = sf c.entry 1 0 8 →
    s.dev.ownsCtx c k = true → (sf c.entry 8 10 2 = 0 ∨ sf c.entry 8 9 1 = 1) → (s.dev.ctx k).head = none →
    (s.dev.boundCtxs.filter fun e => e.1 ≠ k).any (fun e => e.2.head = some (sf c.entry 8 0 8) || (decide (sf
    c.entry 8 9 1 = 1) && e.2.inl && (sectionsOf e.2.gang e.2.section_).any fun n => n ∈ sectionsOf (sf c.entry 8 10
    2) (sf c.entry 8 12 2))) = false →
    y =
    { s.dev.ctx k with head := some (sf c.entry 8 0 8), inl := decide (sf c.entry 8 9 1 = 1), gang := sf c.entry 8 10 2, section_ := sf c.entry 8 12 2, rate := dwAt c.entry 9 }
    →
    (sectionsOf y.gang y.section_).all (fun n => decide ((s.dev.setCtx k y).sectionLoad n ≤ sectionCap) && decide
    ((s.dev.setCtx k y).sectionLoad n (fun j _ => s.dev.reserved 0 j) ≤ sectionCap)) = true →
    (s.dev.setCtx k y).declaredLoad ≤ 40000000 →
    (List.range 4).all (fun n => !(s.dev.setCtx k y).unitCounts n (sf c.entry 8 0 8) || (s.dev.setCtx k y).unitLoad
    n ≤ 20000000) = true → y.rate ≤ s.dev.reserved 0 k →
    ∃ t, exec (.contextBind p asn hv) s = .next t ∧ Framed ([] ++ Pg.fes)
    { s.dev with cap := t.dev.cap, hst := t.dev.hst, hostFails := t.dev.hostFails, vectorsOff := t.dev.vectorsOff }
    t.dev ∧ (t.dev.ctx k).head = y.head ∧ (t.dev.ctx k).inl = y.inl ∧ (t.dev.ctx k).gang = y.gang ∧ (t.dev.ctx
    k).section_ = y.section_ ∧ (t.dev.ctx k).rate = y.rate ∧ t.dev.cmd? p asn = none) ∧
  (∀ (s : State) (p asn k : Nat) (hv : HostView) (c : Cmd), p < 128 → asn < 2 ^ 64 →
    Starts (s.dev.see hv) p asn 0x8A c = true → sf c.entry 8 8 1 = 1 → k = sf c.entry 1 0 8 →
    s.dev.ownsCtx c k = true →
    ∃ t, exec (.contextUnbind p asn hv) s = .next t ∧ Framed ([] ++ Pg.fes)
    { s.dev with cap := t.dev.cap, hst := t.dev.hst, hostFails := t.dev.hostFails, vectorsOff := t.dev.vectorsOff }
    t.dev ∧ (t.dev.ctx k).head = none ∧ t.dev.cmd? p asn = none) ∧
  (∀ (s : State) (p asn k : Nat) (hv : HostView) (c : Cmd), p < 128 → asn < 2 ^ 64 →
    Starts (s.dev.see hv) p asn 0x88 c = true → k = sf c.entry 1 0 8 → s.dev.ownsCtx c k = true →
    dwAt c.entry 8 ≠ 0 → bitAt (dwAt c.entry 8) 31 = false → sf c.entry 9 4 1 = 0 → sf c.entry 9 0 2 ≠ 3 →
    (s.dev.ctx k).outstanding < 16 →
    ∃ t, exec (.quireSeal p asn hv) s = .next t ∧ Framed [s.dev.rspPage k]
    { s.dev with cap := t.dev.cap, hst := t.dev.hst, hostFails := t.dev.hostFails, vectorsOff := t.dev.vectorsOff }
    t.dev ∧ (t.dev.ctx k).quires.map (fun q => (q.id, q.asn)) = (s.dev.ctx k).quires.map (fun q => (q.id, q.asn)) ++
    [(dwAt c.entry 8, asn)] ∧ (t.dev.cmd? p asn).map (·.phase) = some .running) ∧
  (∀ (s : State) (p asn k : Nat) (hv : HostView) (c : Cmd), p < 128 → asn < 2 ^ 64 →
    Starts (s.dev.see hv) p asn 0x88 c = true → k = sf c.entry 1 0 8 → s.dev.ownsCtx c k = true →
    dwAt c.entry 8 ≠ 0 → bitAt (dwAt c.entry 8) 31 = false → sf c.entry 9 4 1 = 0 → sf c.entry 9 0 2 ≠ 3 →
    16 ≤ (s.dev.ctx k).outstanding →
    exec (.quireSeal p asn hv) s = .next (s.withDev ((s.dev.see hv).complete c QUIRE_FULL))) ∧
  (∀ (s : State) (p asn k : Nat) (hv : HostView) (c : Cmd), p < 128 → asn < 2 ^ 64 →
    Starts (s.dev.see hv) p asn 0x8B c = true → p < 64 → sf c.entry 8 0 1 = 0 → k = sf c.entry 1 0 8 →
    s.dev.ownsCtx c k = true → (s.dev.ctx k).head.isSome = true →
    Assoc.has (s.dev.ctx k).taps (sf c.entry 1 16 2) = false → sf c.entry 1 8 3 ≤ 4 →
    [sf c.entry 10 0 16, sf c.entry 10 16 16, sf c.entry 11 0 16, sf c.entry 11 16 16].all (fun v => v % 8 = 0) =
    true → 12288 ≤ dwAt c.entry 6 → dwAt c.entry 6 % 4096 = 0 → sf c.entry 7 0 16 ≠ 0 → sf c.entry 7 0 16 ≤ 256 →
    dw64 c.entry 2 % 4096 = 0 →
    ∃ t, exec (.tapArm p asn hv) s = .next t ∧ Framed []
    { s.dev with cap := t.dev.cap, hst := t.dev.hst, hostFails := t.dev.hostFails, vectorsOff := t.dev.vectorsOff }
    t.dev ∧ (Assoc.find (t.dev.ctx k).taps (sf c.entry 1 16 2)).map (fun y => (y.point, y.ring, y.slotBytes,
    y.slots, y.count, y.asn)) = some (sf c.entry 1 8 3, dw64 c.entry 2, dwAt c.entry 6, sf c.entry 7 0 16, dwAt
    c.entry 9, asn) ∧ (t.dev.cmd? p asn).map (·.phase) = some .running) ∧
  (∀ (s : State) (p asn k : Nat) (hv : HostView) (c : Cmd), p < 128 → asn < 2 ^ 64 →
    Starts (s.dev.see hv) p asn 0x8B c = true → p < 64 → sf c.entry 8 0 1 = 1 → k = sf c.entry 1 0 8 →
    s.dev.ownsCtx c k = true → (s.dev.ctx k).head.isSome = true →
    Assoc.has (s.dev.ctx k).taps (sf c.entry 1 16 2) = true →
    ∃ t, exec (.tapDisarm p asn hv) s = .next t ∧ Framed []
    { s.dev with cap := t.dev.cap, hst := t.dev.hst, hostFails := t.dev.hostFails, vectorsOff := t.dev.vectorsOff }
    t.dev ∧ Assoc.has (t.dev.ctx k).taps (sf c.entry 1 16 2) = false ∧ t.dev.cmd? p asn = none) ∧
  (∀ (s : State) (k id h : Nat) (q : Quire), k < 256 → id < 2 ^ 32 → Ready s.dev = true →
    (s.dev.ctx k).quires = [q] → q.id = id → q.target = .echo → q.eff = none → q.again = false →
    (s.dev.ctx k).head = some h → (s.dev.ctx k).limits.1 ≤ q.waited →
    ∃ t, exec (.echoLimit k id) s = .next t ∧ Still [] { s.dev with cap := t.dev.cap, outs := t.dev.outs } t.dev ∧
    (t.dev.ctx k).quires = [{ q with resent := nextSsq (s.dev.head h).ssq, waited := 0, again := true }] ∧
    (t.dev.head h).ssq = nextSsq (s.dev.head h).ssq) ∧
  (∀ (s : State) (k h : Nat), k < 256 → s.dev.stopped = false → (s.dev.ctx k).head = some h → h < 252 →
    (s.dev.ctx k).limits.2 ≤ (s.dev.ctx k).mismatchRun →
    ∃ t, exec (.mismatchResend k) s = .next t ∧ Still [] { s.dev with cap := t.dev.cap, outs := t.dev.outs } t.dev ∧
    (t.dev.ctx k).mismatchRun = 0 ∧ (t.dev.head h).ssq = nextSsq (s.dev.head h).ssq) ∧
  (∀ (s : State) (p asn : Nat) (x : CalWrite), p < 128 → asn < 2 ^ 64 → Ready s.dev = true →
    s.dev.cap.calHeld = [x] → x.part = p → x.asn = asn → s.dev.passRuns x.ctx = false →
    ∃ t, exec (.calibrationApply p asn) s = .next t ∧ Framed [s.dev.fePage x.ctx 0]
    { s.dev with cap := t.dev.cap, hst := t.dev.hst } t.dev ∧ t.dev.cap.calHeld = [] ∧ (t.dev.ctx x.ctx).calSeq =
    ((s.dev.ctx x.ctx).calSeq + 1) % 2 ^ 32 ∧ t.dev.cmd? p asn = none)

/-- A first pass that may start takes the generation that R63 fixes for its frame, which becomes the context's
active bank; a Section respin that may start takes the pending generation; the end of a first pass keeps what it
made; at the seal point an INGESTED frame becomes SEALED; the release deadline is noted and the frame retires when
nothing more needs it. Beside its values each such clause says what stays as it was: the registers of all other
pages and the other parts of the device, but for what events, interrupts and ledger records reach where it says
Framed. -/
def Obligations.SectionPasses : Prop :=
  (∀ (s : State) (h cid : Nat) (fr : Frame), h < 256 → cid < 2 ^ 48 → Ready s.dev = true →
    s.dev.frame? (frameKey h cid) = some fr → fr.key = frameKey h cid → s.dev.firstReady fr = true →
    (fr.memoryPath = false ∨ s.dev.chosen fr = true) →
    ∃ t, exec (.sectionPassStart h cid) s = .next t ∧ Still [Pg.FE (lowestSection fr.gang fr.section_) 0,
    s.dev.rspPage fr.ctx] { s.dev with cap := t.dev.cap, pow := t.dev.pow } t.dev ∧ (t.dev.frame? (frameKey h
    cid)).map (fun y => (y.firstGen, y.curGen, y.tFirst)) = some (some (genFor (s.dev.ctx fr.ctx).gens fr.ord), some
    (genFor (s.dev.ctx fr.ctx).gens fr.ord), s.dev.now) ∧ (t.dev.ctx fr.ctx).active = genFor (s.dev.ctx fr.ctx).gens
    fr.ord ∧ (t.dev.ctx fr.ctx).appliedCid = ((s.dev.ctx fr.ctx).applied.find? (fun (e : Gen × Nat × Nat) => e.1 =
    genFor (s.dev.ctx fr.ctx).gens fr.ord)).elim fr.hdr.cid (fun (e : Gen × Nat × Nat) => if e.2.1 ≤ fr.ord then
    e.2.2 else fr.hdr.cid)) ∧
  (∀ (s : State) (h cid : Nat) (fr : Frame) (g : Gen), h < 256 → cid < 2 ^ 48 → Ready s.dev = true →
    s.dev.cap.frames = [(frameKey h cid, fr)] → fr.key = frameKey h cid → s.dev.respinReady fr = true →
    fr.pending = some (g, true) → s.dev.memBusy fr = false →
    ∃ t, exec (.respinPassStart h cid) s = .next t ∧ (t.dev.frame? (frameKey h cid)).map (fun y => (y.pass,
    y.pending)) = some (some g, none)) ∧
  (∀ (s : State) (h cid : Nat) (fr : Frame) (g : Gen), h < 256 → cid < 2 ^ 48 → Ready s.dev = true →
    s.dev.frame? (frameKey h cid) = some fr → fr.key = frameKey h cid → fr.state = .ingested →
    fr.firstGen = some g → fr.firstRunning = true →
    ∃ t, exec (.sectionPassEnd h cid false) s = .next t ∧ Framed [Pg.FE (lowestSection fr.gang fr.section_) 0, Pg.FE
    (lowestSection fr.gang fr.section_) 1, Pg.FE (lowestSection fr.gang fr.section_) 2, Pg.FE (lowestSection fr.gang
    fr.section_) 7, Pg.FE (lowestSection fr.gang fr.section_) 8] { s.dev with cap := t.dev.cap, pip := t.dev.pip }
    t.dev ∧ (t.dev.frame? (frameKey h cid)).map (fun y => (y.firstOut, y.out)) = some (some (s.dev.runPass fr g).2,
    some (fr.out.getD (s.dev.runPass fr g).2))) ∧
  (∀ (s : State) (h cid : Nat) (fr : Frame) (g : Gen), h < 256 → cid < 2 ^ 48 → Ready s.dev = true →
    s.dev.frame? (frameKey h cid) = some fr → fr.key = frameKey h cid → fr.state = .ingested → fr.pass = some g →
    ∃ t, exec (.sectionPassEnd h cid true) s = .next t ∧ Framed [Pg.FE (lowestSection fr.gang fr.section_) 0, Pg.FE
    (lowestSection fr.gang fr.section_) 1, Pg.FE (lowestSection fr.gang fr.section_) 2, Pg.FE (lowestSection fr.gang
    fr.section_) 7, Pg.FE (lowestSection fr.gang fr.section_) 8] { s.dev with cap := t.dev.cap, pip := t.dev.pip }
    t.dev ∧ (t.dev.frame? (frameKey h cid)).map (fun y => (y.pass, y.curGen, y.out)) = some (none, some g, some
    (s.dev.runPass fr g).2)) ∧
  (∀ (s : State) (h cid : Nat) (fr : Frame), h < 256 → cid < 2 ^ 48 → Ready s.dev = true →
    s.dev.frame? (frameKey h cid) = some fr → fr.key = frameKey h cid → fr.state = .ingested →
    s.dev.assisted (Pg.ING fr.ing) = false → fr.firstOut = none → fr.recordOnly = false →
    ∃ t, exec (.sealPoint h cid) s = .next t ∧ Framed [] { s.dev with cap := t.dev.cap, hst := t.dev.hst } t.dev ∧
    (t.dev.frame? (frameKey h cid)).map (fun y => (y.state, y.tSeal)) = some (.sealed, s.dev.sealInstant fr)) ∧
  (∀ (s : State) (h cid : Nat) (fr : Frame), h < 256 → cid < 2 ^ 48 → Ready s.dev = true →
    s.dev.frame? (frameKey h cid) = some fr → fr.key = frameKey h cid → fr.deadlinePassed = false →
    fr.state ≠ .processed → fr.state ≠ .released → s.dev.bindsOf fr = [] →
    ∃ t, exec (.releaseDeadline h cid) s = .next t ∧ Still [s.dev.rspPage fr.ctx] { s.dev with cap := t.dev.cap }
    t.dev ∧ (t.dev.frame? (frameKey h cid)).map (·.deadlinePassed) = some true)

/-- LUT_LOAD makes the slot LOADING and moves its data, LUT_INVALIDATE makes it EMPTY and completes; LUT_LOAD with
DITHER moves 8,192 bytes; a RENDITION_SET whose checks pass makes the binding its entry describes and completes,
its DELETE removes the binding. A job that is the next on its petals, whose petals work, whose LUT slot is not
LOADING and whose sizes its binding covers starts: a petal's JOB_STATE and RENDITION say so; a job whose sizes
exceed the binding is given up; at its end the petals count it and LAST_CID names its frame. Beside its values
each such clause says what stays as it was: the registers of all other pages and the other parts of the device,
but for what events, interrupts and ledger records reach where it says Framed. -/
def Obligations.RenditionCommands : Prop :=
  (∀ (s : State) (p asn : Nat) (hv : HostView) (c : Cmd), p < 128 → asn < 2 ^ 64 →
    Starts (s.dev.see hv) p asn 0x89 c = true → sf c.entry 1 31 1 = 0 →
    s.dev.ownerOf 11 (sf c.entry 1 0 9) = c.part → s.dev.lutNamed (sf c.entry 1 0 9) = false →
    sf c.entry 8 0 1 = 0 →
    ∃ t, exec (.lutLoad p asn hv) s = .next t ∧ Framed []
    { s.dev with pip := t.dev.pip, hst := t.dev.hst, hostFails := t.dev.hostFails, vectorsOff := t.dev.vectorsOff }
    t.dev ∧ (t.dev.lutSlot (sf c.entry 1 0 9)).state = 1 ∧ (t.dev.lutSlot (sf c.entry 1 0 9)).seq = (s.dev.lutSlot
    (sf c.entry 1 0 9)).seq ∧ (t.dev.cmd? p asn).map (·.phase) = some .moving) ∧
  (∀ (s : State) (p asn : Nat) (hv : HostView) (c : Cmd), p < 128 → asn < 2 ^ 64 →
    Starts (s.dev.see hv) p asn 0x89 c = true → sf c.entry 1 31 1 = 0 →
    s.dev.ownerOf 11 (sf c.entry 1 0 9) = c.part → s.dev.lutNamed (sf c.entry 1 0 9) = false →
    sf c.entry 8 0 1 = 1 →
    ∃ t, exec (.lutInvalidate p asn hv) s = .next t ∧ Framed []
    { s.dev with pip := t.dev.pip, hst := t.dev.hst, hostFails := t.dev.hostFails, vectorsOff := t.dev.vectorsOff }
    t.dev ∧ (t.dev.lutSlot (sf c.entry 1 0 9)).state = 0 ∧ t.dev.cmd? p asn = none) ∧
  (∀ (s : State) (p asn : Nat) (hv : HostView) (c : Cmd), p < 128 → asn < 2 ^ 64 →
    Starts (s.dev.see hv) p asn 0x89 c = true → sf c.entry 1 31 1 = 1 → c.part = 0 → dwAt c.entry 6 = 8192 →
    ∃ t, exec (.ditherLoad p asn hv) s = .next t ∧ Framed []
    { s.dev with hst := t.dev.hst, hostFails := t.dev.hostFails, vectorsOff := t.dev.vectorsOff } t.dev ∧ t.dev.pip
    = s.dev.pip ∧ (t.dev.cmd? p asn).map (·.phase) = some .moving) ∧
  (∀ (s : State) (p asn : Nat) (hv : HostView) (c : Cmd) (b : Rend), p < 128 → asn < 2 ^ 64 →
    Starts (s.dev.see hv) p asn 0x8C c = true → sf c.entry 8 0 1 = 0 →
    b = rendOf c.entry c.part s.dev.pip.nextInst → s.dev.ownerOf 1 b.rend = c.part → s.dev.ownsCtx c b.ctx = true →
    b.sinks.all (s.dev.ownsSink c.part) = true → s.dev.rendFields b = true →
    (s.dev.rendsHeld.filter fun y => y.rend ≠ b.rend).any (fun y => y.ctx = b.ctx && y.slot = b.slot) = false →
    b.sinks.all (fun y => y.kind < 2) = true → (c.part < 64 ∨ b.hosts = 0) → s.dev.rendCapacity b = true →
    ∃ t, exec (.renditionSet p asn hv) s = .next t ∧ Framed ([] ++ Pg.petals)
    { s.dev with pip := t.dev.pip, hst := t.dev.hst, hostFails := t.dev.hostFails, vectorsOff := t.dev.vectorsOff }
    t.dev ∧ t.dev.rend? b.rend = some b ∧ t.dev.rd (yrc b.rend).1 Reg.YRC.BOUND (yrc b.rend).2 = 1 ∧
    t.dev.pip.nextInst = b.inst + 1 ∧ t.dev.cmd? p asn = none) ∧
  (∀ (s : State) (p asn : Nat) (hv : HostView) (c : Cmd) (b : Rend), p < 128 → asn < 2 ^ 64 →
    Starts (s.dev.see hv) p asn 0x8C c = true → sf c.entry 8 0 1 = 1 → sf c.entry 1 0 6 < 48 →
    s.dev.ownerOf 1 (sf c.entry 1 0 6) = c.part → s.dev.rend? (sf c.entry 1 0 6) = some b → s.dev.pip.jobs = [] →
    s.dev.cap.frames = [] →
    ∃ t, exec (.renditionDelete p asn hv) s = .next t ∧ Framed ([] ++ Pg.petals)
    { s.dev with pip := t.dev.pip, cap := t.dev.cap, hst := t.dev.hst, hostFails := t.dev.hostFails, vectorsOff := t.dev.vectorsOff }
    t.dev ∧ t.dev.rend? (sf c.entry 1 0 6) = none ∧ t.dev.rd (yrc (sf c.entry 1 0 6)).1 Reg.YRC.BOUND (yrc (sf
    c.entry 1 0 6)).2 = 0 ∧ t.dev.cmd? p asn = none) ∧
  (∀ (s : State) (h cid r : Nat) (j : Job) (fr : Frame), h < 256 → cid < 2 ^ 48 → r < 48 → Ready s.dev = true →
    s.dev.pip.jobs.find? (fun y => y.is (frameKey h cid) r false) = some j →
    s.dev.frame? (frameKey h cid) = some fr → s.dev.bindOf fr r = some j.bind → j.started = false →
    j.bind.petals = [j.bind.petal] → j.bind.petal < 16 → s.dev.allAwake = true →
    s.dev.works (Pg.YPTA j.bind.petal) = true → s.dev.jobShed j = false → s.dev.jobNext j = true →
    Render.usesLut j.gen.bank j.bind.slot = false → 0 < (s.dev.jobSizes j).1 → 0 < (s.dev.jobSizes j).2.1 →
    (s.dev.jobSizes j).1 * (s.dev.jobSizes j).2.1 ≤ j.bind.maxSrc →
    (s.dev.jobSizes j).2.2.1 * (s.dev.jobSizes j).2.2.2 ≤ j.bind.maxDst →
    ∃ t, exec (.petalJobStart h cid r false) s = .next t ∧ Still [Pg.YPTA j.bind.petal]
    { s.dev with cap := t.dev.cap, pip := t.dev.pip } t.dev ∧ (t.dev.pip.jobs.find? (fun y => y.is (frameKey h cid)
    r false)).map (fun y => (y.started, y.gen, y.dither)) = some (true, j.gen, s.dev.pip.dither) ∧ t.dev.rd (Pg.YPTA
    j.bind.petal) Reg.YPT_A.JOB_STATE = 3 ∧ t.dev.rd (Pg.YPTA j.bind.petal) Reg.YPT_A.RENDITION = r % 2 ^ 6) ∧
  (∀ (s : State) (h cid r : Nat) (j : Job) (fr : Frame) (o : PassOut), h < 256 → cid < 2 ^ 48 → r < 48 →
    Ready s.dev = true → s.dev.pip.jobs.find? (fun y => y.is (frameKey h cid) r false) = some j →
    s.dev.frame? (frameKey h cid) = some fr → fr.key = frameKey h cid → fr.hdr.cid = cid → j.started = true →
    fr.out = some o → j.is (frameKey h cid) r false = true →
    ∃ t, exec (.petalJobEnd h cid r false) s = .next t ∧ t.dev.rd (yrc r).1 Reg.YRC.LAST_CID_LO (yrc r).2 = cid % 2
    ^ 32 ∧ t.dev.rd (yrc r).1 Reg.YRC.LAST_CID_HI (yrc r).2 = cid / 2 ^ 32 ∧ t.dev.pip.jobs.any (fun y => y.is
    (frameKey h cid) r false) = false)

/-- An FRC_JOB with valid fields and large enough buffers waits for an engine; a free engine starts the oldest job
of its class; the job's end frees the engine and completes it; a free engine starts coding a frame of a Take that
waits, and the coded plane waits for its commit. With a static table t, the bits of every value m below 2^17 - 1
and whatever follows them decode to m and leave exactly what follows; a number of n bits written most significant
first reads back; a band stored with RATIO NONE decodes to the samples stored, when they fit 16 bits. Beside its
values each such clause says what stays as it was: the registers of all other pages and the other parts of the
device, but for what events, interrupts and ledger records reach where it says Framed. -/
def Obligations.FrcJobs : Prop :=
  (∀ (s : State) (p asn : Nat) (hv : HostView) (c : Cmd), p < 128 → asn < 2 ^ 64 →
    Starts (s.dev.see hv) p asn 0x92 c = true → sf c.entry 8 0 1 = 0 → (frcJob c).valid = true →
    (frcJob c).inSize ≤ (frcJob c).src → (frcJob c).outSize ≤ (frcJob c).dst →
    ∃ t, exec (.frcCompress p asn hv) s = .next t ∧ Framed []
    { s.dev with pip := t.dev.pip, hst := t.dev.hst, hostFails := t.dev.hostFails, vectorsOff := t.dev.vectorsOff }
    t.dev ∧ (t.dev.cmd? p asn).map (·.phase) = some .running ∧ t.dev.pip.engines = s.dev.pip.engines) ∧
  (∀ (s : State) (p asn : Nat) (hv : HostView) (c : Cmd), p < 128 → asn < 2 ^ 64 →
    Starts (s.dev.see hv) p asn 0x92 c = true → sf c.entry 8 0 1 = 0 → (frcJob c).valid = true →
    (frcJob c).inSize ≤ (frcJob c).src → (frcJob c).dst < (frcJob c).outSize →
    exec (.frcCompress p asn hv) s = .next (s.withDev ((s.dev.see hv).complete c FRC_SPACE (frcJob c).outSize))) ∧
  (∀ (s : State) (p asn : Nat) (hv : HostView) (c : Cmd), p < 128 → asn < 2 ^ 64 →
    Starts (s.dev.see hv) p asn 0x92 c = true → sf c.entry 8 0 1 = 1 → (frcJob c).valid = true →
    (frcJob c).inSize ≤ (frcJob c).src → (frcJob c).outSize ≤ (frcJob c).dst →
    ∃ t, exec (.frcExpand p asn hv) s = .next t ∧ Framed []
    { s.dev with pip := t.dev.pip, hst := t.dev.hst, hostFails := t.dev.hostFails, vectorsOff := t.dev.vectorsOff }
    t.dev ∧ (t.dev.cmd? p asn).map (·.phase) = some .running ∧ t.dev.pip.engines = s.dev.pip.engines) ∧
  (∀ (s : State) (n p asn : Nat) (c : Cmd), n < 8 → p < 64 → asn < 2 ^ 64 → Ready s.dev = true →
    s.dev.allAwake = true → s.dev.cmd? p asn = some c → c ∈ s.dev.frcQueue → s.dev.engine? n = none →
    s.dev.works (Pg.FRC n) = true → s.dev.shed = 0 →
    s.dev.frcQueue.any (fun y => (frcJob y).cls = (frcJob c).cls && y.asn < c.asn) = false → s.dev.takeQueue = [] →
    s.dev.pip.reservedJobs = [] →
    ∃ t, exec (.frcJobStart n p asn) s = .next t ∧ Still [] { s.dev with pip := t.dev.pip } t.dev ∧ t.dev.engine? n
    = some (.job p asn) ∧ (t.dev.cmd? p asn).map (·.phase) = some c.phase) ∧
  (∀ (s : State) (n p asn : Nat) (hv : HostView) (bad : List Nat) (c : Cmd), n < 8 →
    bad.all (fun b => b < 2 ^ 32) = true → Ready s.dev = true → s.dev.engine? n = some (.job p asn) →
    s.dev.cmd? p asn = some c → c.part = p → c.asn = asn → p < 64 →
    ∃ t, exec (.frcJobEnd n bad false hv) s = .next t ∧ Framed [Pg.FRC n, Pg.FRQ]
    { s.dev with pip := t.dev.pip, hst := t.dev.hst, hostFails := t.dev.hostFails, vectorsOff := t.dev.vectorsOff }
    t.dev ∧ t.dev.engine? n = none ∧ t.dev.cmd? p asn = none) ∧
  (∀ (s : State) (n h cid i : Nat) (tk : Take) (y : TakeFrame), n < 8 → h < 256 → cid < 2 ^ 48 →
    Ready s.dev = true → s.dev.allAwake = true → s.dev.takeOf (frameKey h cid) = some (i, tk, y) →
    s.dev.take? i = some tk → y.frame = frameKey h cid → y.coding = .waiting → s.dev.engine? n = none →
    s.dev.works (Pg.FRC n) = true →
    ∃ t, exec (.frcCodingStart n h cid) s = .next t ∧ Still [] { s.dev with pip := t.dev.pip } t.dev ∧ t.dev.engine?
    n = some (.take i y.index) ∧ (t.dev.take? i).map (·.frames) = some (tk.frames.map fun z => if z.frame = frameKey
    h cid then { z with coding := .coding n } else z)) ∧
  (∀ (s : State) (n i ix : Nat) (bad : List Nat) (tk : Take) (y : TakeFrame) (fr : Frame), n < 8 →
    bad.all (fun b => b < 2 ^ 32) = true → Ready s.dev = true → s.dev.engine? n = some (.take i ix) →
    s.dev.take? i = some tk → tk.frames.find? (fun z => z.index = ix) = some y → s.dev.frame? y.frame = some fr →
    fr.state = .ingested →
    ∃ t, exec (.frcCodingEnd n bad false) s = .next t ∧ Framed [Pg.FRC n]
    { s.dev with cap := t.dev.cap, pip := t.dev.pip } t.dev ∧ t.dev.engine? n = none ∧ (t.dev.take? i).map (fun z =>
    z.frames.any fun w => w.frame = y.frame && w.coding = .coding n) = some false) ∧
  (∀ (k m : Nat) (r : List Bool), k ≤ 7 → m ≤ 2 ^ 17 - 2 →
    ((Frc.Table.rice k).bits m).bind (fun w => (Frc.Table.rice k).take (w ++ r)) = some (m, r)) ∧
  (∀ (n m : Nat) (r : List Bool), m < 2 ^ n → Frc.take n (Frc.msb n m ++ r) = some (m, r)) ∧
  (∀ (w n cid band : Nat) (rows : List (List Nat)),
    (rows.length = n ∧ rows.all (fun y => y.length = w && y.all fun v => v < 2 ^ 16) = true) →
    let body := rows.flatMap fun y => y.flatMap (leBytes 2)
    Frc.decodeBand w n 16 Frc.NONE 1 1 cid band 20 (body ++ leBytes 4 (crc32c body)) = .ok rows)

/-- TAKE_OPEN whose checks pass makes an OPEN Take at the lowest free range of the table and completes; TAKE_CLOSE
with STOP 0 stops the Take now and waits; STOP 2 erases a CLOSED Take and frees its extents; a FRAME_READ whose
checks pass moves its data; STRIPE_WRITE sends out the data placed in a stripe, and once it is durable nothing of
it waits; the table is rebuilt once a set is up. Beside its values each such clause says what stays as it was: the
registers of all other pages and the other parts of the device, but for what events, interrupts and ledger records
reach where it says Framed. -/
def Obligations.TakesAndStripes : Prop :=
  (∀ (s : State) (p asn base : Nat) (hv : HostView) (c : Cmd), p < 128 → asn < 2 ^ 64 →
    Starts (s.dev.see hv) p asn 0x84 c = true → s.dev.ownerOf 7 (sf c.entry 1 0 3) = c.part →
    s.dev.ctxOwner (sf c.entry 1 8 8) = c.part →
    ((takeRends c.entry).any fun r => r < 48 && s.dev.ownerOf 1 r ≠ c.part) = false → s.dev.takeFields c = true →
    s.dev.takeById (sf c.entry 1 0 3) (dw64 c.entry 8) = none → s.dev.openTake (sf c.entry 1 8 8) = none →
    s.dev.setUp (sf c.entry 1 0 3) = true →
    s.dev.fltRange (dwAt c.entry 14 * (3 + (takeRends c.entry).length)) = some base →
    s.dev.takeRate (sf c.entry 1 8 8) + s.dev.takeLoad + s.dev.classLoad * 10000 ≤ 40000000 →
    ∃ t, exec (.takeOpen p asn hv) s = .next t ∧ Framed []
    { s.dev with pip := t.dev.pip, hst := t.dev.hst, hostFails := t.dev.hostFails, vectorsOff := t.dev.vectorsOff }
    t.dev ∧ (t.dev.take? s.dev.pip.nextTake).map (fun y => [y.set, y.takeId, y.ctx, y.owner, y.base, y.maxFrames,
    y.planes, y.count, y.state]) = some [sf c.entry 1 0 3, dw64 c.entry 8, sf c.entry 1 8 8, c.part, base, dwAt
    c.entry 14, 3 + (takeRends c.entry).length, 0, 0] ∧ t.dev.cmd? p asn = none) ∧
  (∀ (s : State) (p asn i : Nat) (hv : HostView) (c : Cmd) (tk : Take), p < 128 → asn < 2 ^ 64 →
    Starts (s.dev.see hv) p asn 0x85 c = true → sf c.entry 10 0 2 = 0 →
    s.dev.ownerOf 7 (sf c.entry 1 0 3) = c.part → s.dev.setUp (sf c.entry 1 0 3) = true →
    s.dev.takeById (sf c.entry 1 0 3) (dw64 c.entry 8) = some (i, tk) → tk.state = 0 → tk.frames ≠ [] →
    ∃ t, exec (.takeClose p asn hv) s = .next t ∧ Framed []
    { s.dev with pip := t.dev.pip, hst := t.dev.hst, hostFails := t.dev.hostFails, vectorsOff := t.dev.vectorsOff }
    t.dev ∧ (t.dev.take? i).map (fun y => (y.stop, y.close, y.state)) = some (.now, tk.close ++ [(c.part, c.asn)],
    0) ∧ (t.dev.cmd? p asn).map (·.phase) = some .running) ∧
  (∀ (s : State) (p asn i : Nat) (hv : HostView) (c : Cmd) (tk : Take), p < 128 → asn < 2 ^ 64 →
    Starts (s.dev.see hv) p asn 0x85 c = true → sf c.entry 10 0 2 = 2 →
    s.dev.ownerOf 7 (sf c.entry 1 0 3) = c.part → s.dev.setUp (sf c.entry 1 0 3) = true →
    s.dev.takeById (sf c.entry 1 0 3) (dw64 c.entry 8) = some (i, tk) → tk.state = 1 →
    ∃ t, exec (.takeErase p asn hv) s = .next t ∧ Framed [(setAt tk.set).1]
    { s.dev with pip := t.dev.pip, hst := t.dev.hst, hostFails := t.dev.hostFails, vectorsOff := t.dev.vectorsOff }
    t.dev ∧ (t.dev.take? i).map (fun y => (y.state, y.extents, y.close)) = some (2, [], [(c.part, c.asn)]) ∧
    (t.dev.cmd? p asn).map (·.phase) = some .running) ∧
  (∀ (s : State) (p asn i : Nat) (hv : HostView) (c : Cmd) (tk : Take) (y : ReadPlan), p < 128 → asn < 2 ^ 64 →
    Starts (s.dev.see hv) p asn 0x83 c = true → s.dev.ownerOf 7 (sf c.entry 1 0 3) = c.part →
    s.dev.setUp (sf c.entry 1 0 3) = true → s.dev.shed = 0 →
    s.dev.takeById (sf c.entry 1 0 3) (dw64 c.entry 8) = some (i, tk) →
    (s.dev.sset (sf c.entry 1 0 3)).indexed = true →
    (s.dev.readPlan c (tk.atFrame (dwAt c.entry 10))).toOption = some y →
    ∃ t, exec (.frameRead p asn hv) s = .next t ∧ Framed []
    { s.dev with hst := t.dev.hst, hostFails := t.dev.hostFails, vectorsOff := t.dev.vectorsOff } t.dev ∧ t.dev.pip
    = s.dev.pip ∧ (t.dev.cmd? p asn).map (·.phase) = some .moving) ∧
  (∀ (s : State) (x k : Nat), x < 8 → k < 2 ^ 32 → s.dev.stopped = false → s.dev.allAwake = true →
    s.dev.setUp x = true → s.dev.going x k = [] →
    s.dev.pip.places.any (fun y => y.set = x && y.addr / ((s.dev.sset x).n * PAY) = k) = true →
    s.dev.pip.takes = [] →
    ∃ t, exec (.stripeWrite x k) s = .next t ∧ Still [] { s.dev with pip := t.dev.pip } t.dev ∧ t.dev.pip.places =
    s.dev.pip.places.map (fun y => if y.set = x && y.addr / ((s.dev.sset x).n * PAY) = k then
    { y with going := true } else y)) ∧
  (∀ (s : State) (x k : Nat), x < 8 → k < 2 ^ 32 → s.dev.stopped = false → s.dev.setUp x = true →
    s.dev.going x k ≠ [] → s.dev.pip.takes = [] → s.dev.hst.cmds = [] → s.dev.cap.frames = [] →
    ∃ t, exec (.stripeDurable x k) s = .next t ∧ Framed [(setAt x).1]
    { s.dev with pip := t.dev.pip, hst := t.dev.hst } t.dev ∧ t.dev.pip.places = s.dev.pip.places.filter (fun y => y
    ∉ s.dev.going x k) ∧ t.dev.rd (setAt x).1 Reg.STR.STRIPE_WR_CNT (setAt x).2 = (s.dev.rd (setAt x).1
    Reg.STR.STRIPE_WR_CNT (setAt x).2 + 1) % 2 ^ 32) ∧
  (∀ (s : State) (x : Nat), x < 8 → s.dev.stopped = false → s.dev.setUp x = true → (s.dev.sset x).indexed = false →
    s.dev.hst.fetchStopped = false → s.dev.directory x = [] → s.dev.cap.frames = [] →
    ∃ t, exec (.fltRebuild x) s = .next t ∧ Still [(setAt x).1] { s.dev with pip := t.dev.pip } t.dev ∧ (t.dev.sset
    x).indexed = true ∧ t.dev.setReg x Reg.STR.EXTENTS = (s.dev.sset x).extentCount ∧ t.dev.pip.takes =
    s.dev.pip.takes)

/-- CREATE on BLANK ports makes the set OPTIMAL with epoch 1; ASSEMBLE assembles it from its labels; KEY word 15
loads a key whose halves differ, else only sets ERR_STAT bit 0; a suitable drive without a label is BLANK, one
below 2 GiB UNSUITABLE; time-outs and resets are counted; a failed port is FAILED; a rebuilt set is OPTIMAL in a
new epoch. Beside its values each such clause says what stays as it was: the registers of all other pages and the
other parts of the device, but for what events, interrupts and ledger records reach where it says Framed. -/
def Obligations.SetsAndMagazines : Prop :=
  (∀ (s : State) (x v : Nat), x < 8 → v < 2 ^ 32 → Taken s.dev 0 (setAt x).1 (Reg.STR.N.at (setAt x).2 0) = true →
    bitAt v 28 = true → bitAt v 29 = false →
    (s.dev.plainWrite 0 (setAt x).1 (Reg.STR.N.at (setAt x).2 0) v).setState x = 0 →
    (s.dev.plainWrite 0 (setAt x).1 (Reg.STR.N.at (setAt x).2 0) v).setReg x Reg.STR.N ≠ 0 →
    ((List.range 8).filter fun y => bitAt ((s.dev.plainWrite 0 (setAt x).1 (Reg.STR.N.at (setAt x).2 0) v).setReg x
    Reg.STR.MEMBERS) y).length = (s.dev.plainWrite 0 (setAt x).1 (Reg.STR.N.at (setAt x).2 0) v).setReg x Reg.STR.N
    + 1 →
    ((List.range 8).filter fun y => bitAt ((s.dev.plainWrite 0 (setAt x).1 (Reg.STR.N.at (setAt x).2 0) v).setReg x
    Reg.STR.MEMBERS) y).all (fun y => s.dev.magState y = BLANK) = true →
    (s.dev.plainWrite 0 (setAt x).1 (Reg.STR.N.at (setAt x).2 0) v).setReg x Reg.STR.ENC_EN = 0 →
    ∃ t, exec (.create 0 x v) s = .next t ∧ Framed ([] ++ Pg.sets) { s.dev with pip := t.dev.pip } t.dev ∧
    t.dev.setState x = OPTIMAL ∧ t.dev.setReg x Reg.STR.EPOCH = 1 ∧ (t.dev.sset x).live.length = t.dev.setReg x
    Reg.STR.N + 1 ∧ (List.range 8).all (fun y => !bitAt (t.dev.setReg x Reg.STR.MEMBERS) y || t.dev.magState y =
    MEMBER) = true) ∧
  (∀ (s : State) (x v : Nat), x < 8 → v < 2 ^ 32 → Taken s.dev 0 (setAt x).1 (Reg.STR.N.at (setAt x).2 0) = true →
    bitAt v 28 = false → bitAt v 29 = true →
    exec (.assemble 0 x v) s = .next (s.withDev (((s.dev.plainWrite 0 (setAt x).1 (Reg.STR.N.at (setAt x).2 0)
    v).assemble x).startRebuild x))) ∧
  (∀ (s : State) (x v : Nat), x < 8 → v < 2 ^ 32 →
    Taken s.dev 0 (setAt x).1 (Reg.STR.KEY.at (setAt x).2 15) = true → (s.dev.sset x).enc = false →
    ({ s.dev.sset x with keyWords := Assoc.put (s.dev.sset x).keyWords 15 v } : StripeSet).keyBytes.take 32 ≠
    ({ s.dev.sset x with keyWords := Assoc.put (s.dev.sset x).keyWords 15 v } : StripeSet).keyBytes.drop 32 →
    ∃ t, exec (.key 0 x v) s = .next t ∧ Framed [(setAt x).1] { s.dev with pip := t.dev.pip } t.dev ∧ (t.dev.sset
    x).key = some ({ s.dev.sset x with keyWords := Assoc.put (s.dev.sset x).keyWords 15 v } : StripeSet).keyBytes ∧
    t.dev.setReg x Reg.STR.KCV = kcvOf ({ s.dev.sset x with keyWords := Assoc.put (s.dev.sset x).keyWords 15 v } :
    StripeSet).keyBytes % 2 ^ 32) ∧
  (∀ (s : State) (x v : Nat), x < 8 → v < 2 ^ 32 →
    Taken s.dev 0 (setAt x).1 (Reg.STR.KEY.at (setAt x).2 15) = true →
    ({ s.dev.sset x with keyWords := Assoc.put (s.dev.sset x).keyWords 15 v } : StripeSet).keyBytes.take 32 =
    ({ s.dev.sset x with keyWords := Assoc.put (s.dev.sset x).keyWords 15 v } : StripeSet).keyBytes.drop 32 →
    ∃ t, exec (.key 0 x v) s = .next t ∧ Framed [(setAt x).1] { s.dev with pip := t.dev.pip } t.dev ∧ (t.dev.sset
    x).key = (s.dev.sset x).key ∧ bitAt (t.dev.rd (setAt x).1 Reg.HDR.ERR_STAT) 0 = true) ∧
  (∀ (s : State) (n width gen : Nat) (drive : Drive), n < 8 → width < 8 → gen < 8 → s.dev.stopped = false →
    drive.lbas < 2 ^ 32 → 524288 ≤ drive.lbas → drive.media.all (fun e => e.1 < 2 ^ 32) = true →
    drive.serial.length ≤ 4096 → s.dev.magState n = ABSENT → (magOf drive).label = none →
    (List.range 8).all (fun y => s.dev.setState y ≠ DEGRADED) = true →
    ∃ t, exec (.magazineLinkUp n width gen (some drive) 0) s = .next t ∧ Framed [Pg.MAG n]
    { s.dev with pip := t.dev.pip } t.dev ∧ t.dev.magState n = BLANK ∧ t.dev.rd (Pg.MAG n) Reg.MAG.LINK_WIDTH =
    width ∧ t.dev.rd (Pg.MAG n) Reg.MAG.CAP_LBA_LO = drive.lbas ∧ bitAt (t.dev.rd (Pg.MAG n) Reg.HDR.INT_STAT) 0 =
    true) ∧
  (∀ (s : State) (n width gen : Nat) (drive : Drive), n < 8 → width < 8 → gen < 8 → s.dev.stopped = false →
    drive.lbas < 524288 → drive.media.all (fun e => e.1 < 2 ^ 32) = true → drive.serial.length ≤ 4096 →
    s.dev.magState n = ABSENT →
    ∃ t, exec (.magazineLinkUp n width gen (some drive) 0) s = .next t ∧ Framed [Pg.MAG n]
    { s.dev with pip := t.dev.pip } t.dev ∧ t.dev.magState n = UNSUITABLE ∧ bitAt (t.dev.rd (Pg.MAG n)
    Reg.HDR.INT_STAT) 2 = true) ∧
  (∀ (s : State) (n : Nat), n < 8 → s.dev.stopped = false → s.dev.magState n = MEMBER →
    ∃ t, exec (.magCommandTimeout n false) s = .next t ∧ Framed [Pg.MAG n] s.dev t.dev ∧ t.dev.rd (Pg.MAG n)
    Reg.MAG.TIMEOUT_CNT = min (s.dev.rd (Pg.MAG n) Reg.MAG.TIMEOUT_CNT + 1) 65535 ∧ bitAt (t.dev.rd (Pg.MAG n)
    Reg.HDR.INT_STAT) 1 = true) ∧
  (∀ (s : State) (n : Nat), n < 8 → s.dev.stopped = false → s.dev.magState n = MEMBER →
    (s.dev.mag n).resetAt = none →
    ∃ t, exec (.magCommandTimeout n true) s = .next t ∧ Still [Pg.MAG n] { s.dev with pip := t.dev.pip } t.dev ∧
    t.dev.rd (Pg.MAG n) Reg.MAG.RESET_CNT = min (s.dev.rd (Pg.MAG n) Reg.MAG.RESET_CNT + 1) 65535 ∧ (t.dev.mag
    n).resetAt = some s.dev.elapsed ∧ t.dev.magState n = MEMBER) ∧
  (∀ (s : State) (n : Nat) (link : Bool), n < 8 → s.dev.stopped = false → s.dev.magState n = MEMBER →
    (List.range 8).all (fun y => (s.dev.sset y).rebuild ≠ some n && !((s.dev.sset y).members.contains n)) = true →
    ∃ t, exec (.magFailed n link) s = .next t ∧ Framed [Pg.MAG n] s.dev t.dev ∧ t.dev.magState n = MFAILED ∧ bitAt
    (t.dev.rd (Pg.MAG n) Reg.HDR.INT_STAT) 2 = true) ∧
  (∀ (s : State) (n m lba : Nat), n < 8 → lba < 2 ^ 32 → s.dev.stopped = false → OPTIMAL ≤ s.dev.setState 0 →
    256 ≤ lba →
    ((List.range ((s.dev.sset 0).n + 1)).filter (fun i => i ≠ m)).all (fun i => (s.dev.sset 0).members.getD i 0 ≠ n)
    = true → (s.dev.sset 0).members.zipIdx.find? (fun e => e.1 = n && e.2 ∈ (s.dev.sset 0).live) = some (n, m) →
    (s.dev.rebuilt 0 m lba).isSome = true →
    ∃ t, exec (.magMediaError n lba) s = .next t ∧ Still [Pg.MAG n] { s.dev with pip := t.dev.pip } t.dev ∧
    (t.dev.mag n).block lba = fit 4096 ((s.dev.rebuilt 0 m lba).getD []) ∧ t.dev.rd (Pg.MAG n) Reg.MAG.MEDIA_ERR_CNT
    = min (s.dev.rd (Pg.MAG n) Reg.MAG.MEDIA_ERR_CNT + 1) 65535) ∧
  (∀ (s : State) (x n : Nat), x < 8 → Ready s.dev = true → (s.dev.sset x).rebuild = some n →
    s.dev.setState x = REBUILDING →
    ∃ t, exec (.rebuildDone x) s = .next t ∧ Framed [(setAt x).1, Pg.MAG n] { s.dev with pip := t.dev.pip } t.dev ∧
    t.dev.setState x = OPTIMAL ∧ t.dev.setReg x Reg.STR.EPOCH = (s.dev.setReg x Reg.STR.EPOCH + 1) % 2 ^ 32 ∧
    t.dev.setReg x Reg.STR.REBUILD_PROG = 1000 ∧ (t.dev.sset x).rebuild = none ∧ bitAt (t.dev.rd (setAt x).1
    Reg.HDR.INT_STAT) 1 = true)

/-- In their turn: CONFIG, PICTURE, COLLECT and SINK_READ move their data when their fields, buffer sizes and state
allow it; FORCE_IRAP makes the next picture to arrive an IDR; END with nothing in flight completes and the next
picture starts a new sequence; RELEASE with nothing in flight frees queue and configuration; LTR waits for the
next picture coded. Beside its values each such clause says what stays as it was: the registers of all other pages
and the other parts of the device, but for what events, interrupts and ledger records reach where it says Framed.
-/
def Obligations.EncoderCommands : Prop :=
  (∀ (s : State) (p asn n : Nat) (hv : HostView) (c : Cmd), p < 128 → asn < 2 ^ 64 →
    Starts (s.dev.see hv) p asn 0x90 c = true → n = sf c.entry 1 0 8 → sf c.entry 8 0 4 = 0 →
    s.dev.ownerOf 2 n = c.part → s.dev.encTurn c = true → 128 ≤ dwAt c.entry 6 →
    ∃ t, exec (.encConfig p asn hv) s = .next t ∧ Framed []
    { s.dev with hst := t.dev.hst, hostFails := t.dev.hostFails, vectorsOff := t.dev.vectorsOff } t.dev ∧ t.dev.pip
    = s.dev.pip ∧ (t.dev.cmd? p asn).map (·.phase) = some .moving) ∧
  (∀ (s : State) (p asn n : Nat) (hv : HostView) (c : Cmd), p < 128 → asn < 2 ^ 64 →
    Starts (s.dev.see hv) p asn 0x90 c = true → n = sf c.entry 1 0 8 → sf c.entry 8 0 4 = 1 →
    s.dev.ownerOf 2 n = c.part → s.dev.encTurn c = true → (s.dev.enc n).cfg.isSome = true →
    (s.dev.enc n).releasing = false → (s.dev.enc n).cfg!.source ≠ 0 → dwAt c.entry 9 % 64 = 0 →
    (s.dev.enc n).cfg!.hostRow ≤ dwAt c.entry 9 → (s.dev.enc n).cfg!.hostBytes (dwAt c.entry 9) ≤ dwAt c.entry 6 →
    ∃ t, exec (.encPicture p asn hv) s = .next t ∧ Framed []
    { s.dev with hst := t.dev.hst, hostFails := t.dev.hostFails, vectorsOff := t.dev.vectorsOff } t.dev ∧ t.dev.pip
    = s.dev.pip ∧ (t.dev.cmd? p asn).map (·.phase) = some .moving) ∧
  (∀ (s : State) (p asn n : Nat) (hv : HostView) (c : Cmd) (b : List Byte), p < 128 → asn < 2 ^ 64 →
    Starts (s.dev.see hv) p asn 0x90 c = true → n = sf c.entry 1 0 8 → sf c.entry 8 0 4 = 2 →
    s.dev.ownerOf 2 n = c.part → s.dev.encTurn c = true → (s.dev.enc n).queue.head? = some b →
    b.length ≤ dwAt c.entry 7 → s.dev.shed = 0 →
    ∃ t, exec (.encCollect p asn hv) s = .next t ∧ Framed []
    { s.dev with hst := t.dev.hst, hostFails := t.dev.hostFails, vectorsOff := t.dev.vectorsOff } t.dev ∧ t.dev.pip
    = s.dev.pip ∧ (t.dev.cmd? p asn).map (·.phase) = some .moving) ∧
  (∀ (s : State) (p asn n : Nat) (hv : HostView) (c : Cmd), p < 128 → asn < 2 ^ 64 →
    Starts (s.dev.see hv) p asn 0x90 c = true → n = sf c.entry 1 0 8 → sf c.entry 8 0 4 = 3 →
    s.dev.ownerOf 2 n = c.part → s.dev.encTurn c = true → (s.dev.enc n).cfg.isSome = true →
    (s.dev.enc n).releasing = false →
    ∃ t, exec (.encForceIrap p asn hv) s = .next t ∧ Framed []
    { s.dev with pip := t.dev.pip, hst := t.dev.hst, hostFails := t.dev.hostFails, vectorsOff := t.dev.vectorsOff }
    t.dev ∧ (t.dev.enc n).force = true ∧ (t.dev.enc n).ready = (s.dev.enc n).ready ∧ t.dev.cmd? p asn = none) ∧
  (∀ (s : State) (p asn n : Nat) (hv : HostView) (c : Cmd), p < 128 → asn < 2 ^ 64 →
    Starts (s.dev.see hv) p asn 0x90 c = true → n = sf c.entry 1 0 8 → sf c.entry 8 0 4 = 4 →
    s.dev.ownerOf 2 n = c.part → s.dev.encTurn c = true → (s.dev.enc n).cfg.isSome = true →
    (s.dev.enc n).releasing = false → (s.dev.enc n).inFlight = false → (s.dev.enc n).later = [] →
    (s.dev.enc n).nextCfg = none → (s.dev.enc n).ending = none →
    ∃ t, exec (.encEnd p asn hv) s = .next t ∧ Framed []
    { s.dev with pip := t.dev.pip, hst := t.dev.hst, hostFails := t.dev.hostFails, vectorsOff := t.dev.vectorsOff }
    t.dev ∧ (t.dev.enc n).fresh = true ∧ (t.dev.enc n).ending = none ∧ (t.dev.enc n).cfg = (s.dev.enc n).cfg ∧
    t.dev.cmd? p asn = none) ∧
  (∀ (s : State) (p asn n : Nat) (hv : HostView) (c : Cmd), p < 128 → asn < 2 ^ 64 →
    Starts (s.dev.see hv) p asn 0x90 c = true → n = sf c.entry 1 0 8 → sf c.entry 8 0 4 = 5 →
    s.dev.ownerOf 2 n = c.part → s.dev.encTurn c = true → (s.dev.enc n).cfg.isSome = true →
    (s.dev.enc n).releasing = false → (s.dev.enc n).inFlight = false → (s.dev.enc n).later = [] →
    (s.dev.enc n).nextCfg = none → (s.dev.enc n).ending = none → s.dev.cap.frames = [] →
    ∃ t, exec (.encRelease p asn hv) s = .next t ∧ Framed ([] ++ (List.range 6).map Pg.ENCPIX)
    { s.dev with pip := t.dev.pip, cap := t.dev.cap, hst := t.dev.hst, hostFails := t.dev.hostFails, vectorsOff := t.dev.vectorsOff }
    t.dev ∧ (t.dev.enc n).cfg = none ∧ (t.dev.enc n).queue = [] ∧ t.dev.cmd? p asn = none) ∧
  (∀ (s : State) (p asn n : Nat) (hv : HostView) (c : Cmd), p < 128 → asn < 2 ^ 64 →
    Starts (s.dev.see hv) p asn 0x90 c = true → n = sf c.entry 1 0 8 → sf c.entry 8 0 4 = 6 →
    s.dev.ownerOf 2 n = c.part → s.dev.encTurn c = true → (s.dev.enc n).cfg.isSome = true →
    (s.dev.enc n).releasing = false → (sf c.entry 8 12 2 = 0 ∨ sf c.entry 8 12 2 = 2) →
    sf c.entry 8 8 2 < (s.dev.enc n).cfg!.ltr →
    ∃ t, exec (.encLtr p asn hv) s = .next t ∧ Framed []
    { s.dev with pip := t.dev.pip, hst := t.dev.hst, hostFails := t.dev.hostFails, vectorsOff := t.dev.vectorsOff }
    t.dev ∧ (t.dev.enc n).ltrActs = (s.dev.enc n).ltrActs ++ [(sf c.entry 8 12 2, sf c.entry 8 8 2)] ∧ t.dev.cmd? p
    asn = none) ∧
  (∀ (s : State) (p asn n : Nat) (hv : HostView) (c : Cmd) (b : MemBuf), p < 128 → asn < 2 ^ 64 →
    Starts (s.dev.see hv) p asn 0x90 c = true → n = sf c.entry 1 0 8 → sf c.entry 8 0 4 = 7 →
    s.dev.ownerOf 2 n = c.part → s.dev.encTurn c = true → sf c.entry 10 0 6 < 48 →
    s.dev.ownerOf 1 (sf c.entry 10 0 6) = c.part → s.dev.sinkBuf c = some b →
    0x2000 + b.output.bytes.length ≤ dwAt c.entry 7 → s.dev.shed = 0 →
    ∃ t, exec (.encSinkRead p asn hv) s = .next t ∧ Framed []
    { s.dev with pip := t.dev.pip, hst := t.dev.hst, hostFails := t.dev.hostFails, vectorsOff := t.dev.vectorsOff }
    t.dev ∧ (t.dev.sinkBuf c).map (·.reads) = some (b.reads ++ [(c.part, c.asn)]) ∧ (t.dev.cmd? p asn).map (·.phase)
    = some .moving)

/-- A ready picture whose references are done, with free engines and room for its output, starts at the QP of its
rate mode under the context's cap; the pixel engine ends a row and leaves its estimate; the entropy engine's row
is committed under the floor and rollback checks; the committed picture goes to the output queue with its slot
header. Beside its values each such clause says what stays as it was: the registers of all other pages and the
other parts of the device, but for what events, interrupts and ledger records reach where it says Framed. -/
def Obligations.EncoderEngines : Prop :=
  (∀ (s : State) (n poc qp target hdr : Nat) (hv : HostView) (q : EncNext) (r : List EncNext), n < 256 →
    poc < 2 ^ 32 → qp < 2 ^ 8 → target < 2 ^ 32 → hdr ≤ PIC_HDR → Ready s.dev = true → s.dev.allAwake = true →
    (s.dev.enc n).ready = q :: r → s.dev.encWorks (s.dev.enc n) = true → s.dev.encFreeEngines n = true →
    (s.dev.enc n).refsDone ((s.dev.enc n).nextRefs q) = true →
    s.dev.pip.encs.any (fun e => s.dev.encAhead n e.1 q.src) = false → s.dev.shed < 2 →
    (s.dev.see hv).encRoom n q.src = true → (s.dev.see hv).encAhead n n q.src = false → (s.dev.enc n).plan = none →
    (s.dev.enc n).asked = none → s.dev.assisted (s.dev.enc n).pageRc = false →
    s.dev.pip.encs.all (fun e => e.1 = n) = true →
    ∃ t, exec (.encPictureStart n poc qp target hdr hv) s = .next t ∧ Framed ([Pg.ENCPIX (s.dev.enc n).cfg!.engine]
    ++ (s.dev.enc n).cfg!.engines.map Pg.ENCPIX)
    { s.dev with pip := t.dev.pip, hostFails := t.dev.hostFails, vectorsOff := t.dev.vectorsOff } t.dev ∧ (t.dev.enc
    n).pics.getLast?.map (fun y => [y.num, y.type, y.poc, y.qp, y.cap]) = some [q.num, q.type, poc, (s.dev.enc
    n).cfg!.qpFor q.type qp, (s.dev.enc n).capNow] ∧ (t.dev.enc n).pics.length = (s.dev.enc n).pics.length + 1 ∧
    (t.dev.enc n).ready = r) ∧
  (∀ (s : State) (n b e : Nat) (code : RowCode) (y : EncPic), n < 256 → b < 6 → e < 2 ^ 32 → Ready s.dev = true →
    (s.dev.enc n).pics = [y] → b < y.bands.length → (y.bands.getD b {}).pix < (s.dev.enc n).cfg!.rows →
    (y.bands.getD b {}).pix ≤ (y.bands.getD b {}).row + (s.dev.enc n).cfg!.ahead → (s.dev.enc n).syntaxRows b < 64 →
    rowPossible code y (s.dev.enc n).cfg! (y.bands.getD b {}) = true →
    ∃ t, exec (.pixelRowEnd n b e code) s = .next t ∧ Still [Pg.ENCPIX ((s.dev.enc n).cfg!.engine + b), Pg.ENCENT
    ((s.dev.enc n).cfg!.engine + b), Pg.ENCENT (s.dev.enc n).cfg!.engine]
    { s.dev with pip := t.dev.pip, cap := t.dev.cap } t.dev ∧ ((t.dev.enc n).pics.map fun z => z.bands) =
    [y.bands.modify b fun z =>
    { z with pix := z.pix + 1, est := z.est ++ [e], basis := z.basis ++ [z.basisOf (s.dev.enc n).cfg!.ahead z.pix], qps := z.qps ++ [rowQp code y], store := z.store ++ [code.samples] }]) ∧
  (∀ (s : State) (n a fb plan : Nat) (fs : List Nat) (y : EncPic) (z : Band), n < 256 → a < 2 ^ 32 → fb < 2 ^ 32 →
    plan < 2 ^ 32 → Ready s.dev = true → (s.dev.enc n).pics = [y] → y.bands = [z] →
    z.row < (s.dev.enc n).cfg!.rows → z.row < z.pix →
    fb ≤ (s.dev.enc n).cfg!.floorRow (decide (y.type ≤ 1)) z.ctus z.row →
    ∃ t, exec (.encRowEnd n 0 a fb plan fs) s = .next t ∧ Still [Pg.ENCPIX (s.dev.enc n).cfg!.engine, Pg.ENCENT
    (s.dev.enc n).cfg!.engine] { s.dev with pip := t.dev.pip } t.dev ∧ ((t.dev.enc n).pics.map fun x => x.bands) =
    [[(z.endRow ((s.dev.enc n).cfg!.reserve (decide (y.type ≤ 1)) z.ctus (z.row + 1)) (s.dev.enc n).cfg!.tol a fb
    plan fs).1.writeRows (s.dev.enc n).cfg!.codec (s.dev.enc n).cfg!.rows none (s.dev.enc n).cfg!.rows]]) ∧
  (∀ (s : State) (n qp : Nat) (bs : List Byte) (hv : HostView) (y : EncPic) (z : Band), n < 256 → qp < 2 ^ 16 →
    Ready s.dev = true → (s.dev.enc n).pics = [y] → y.bands = [z] → y.src.host = none → (s.dev.enc n).held = [] →
    (s.dev.enc n).ready = [] → (s.dev.enc n).nextCfg = none → (s.dev.enc n).ending = none →
    (s.dev.enc n).releasing = false → (s.dev.enc n).later = [] → (s.dev.enc n).cfg!.ringAddr = 0 →
    y.done (s.dev.enc n).cfg!.rows = true → bs.length = ceilDiv (z.spent + (s.dev.enc n).filler z.spent) 8 →
    y.fixed = false → ((s.dev.enc n).cfg!.mode ≠ 3 ∨ y.qp * 256 ≤ qp) → (s.dev.enc n).cfg!.qpMin * 256 ≤ qp →
    qp ≤ (s.dev.enc n).cfg!.qpMax * 256 →
    ∃ t, exec (.encPictureCommit n qp bs hv) s = .next t ∧ Framed ([Pg.ENCRC (s.dev.enc n).cfg!.engine] ++
    (s.dev.enc n).cfg!.engines.map Pg.ENCPIX)
    { s.dev with pip := t.dev.pip, hostFails := t.dev.hostFails, vectorsOff := t.dev.vectorsOff } t.dev ∧ (t.dev.enc
    n).pics = [] ∧ (t.dev.enc n).queue = (s.dev.enc n).queue ++ [encSlot y z.floored ((s.dev.enc n).ring.seq + 1)
    (s.dev.enc n).skipped qp bs] ∧ (t.dev.enc n).fullness = min ((s.dev.enc n).cfg!.vbv * 1000) ((s.dev.enc
    n).fullness - z.spent + (s.dev.enc n).cfg!.perPicture) ∧ (t.dev.enc n).skipped = 0) ∧
  (∀ (y : EncCfg) (intra : Bool) (n tol a fb plan : Nat) (fs : List Nat) (z : Band), z.row < y.rows →
    fb ≤ y.floorRow intra n z.row → z.spent + y.reserve intra n z.row ≤ z.cap →
    let z2 := (z.endRow (y.reserve intra n (z.row + 1)) tol a fb plan fs).1
    z2.row = z.row + 1 ∧ z2.cap = z.cap ∧ z2.spent + y.reserve intra n z2.row ≤ z2.cap)

/-- In their turn CONFIG and DECODE move their data, DRAIN with nothing held completes, RELEASE clears the context;
a free engine starts the oldest unit of a context, and refuses one of an unsupported sequence with
DEC_UNSUPPORTED; once its cycle budget is over a picture is closed and the engine freed; at a unit's end the
engine is free and counts it, and the decoded picture buffer is what its pictures leave. An HEVC picture that is
shown waits or goes out, no more than its parameter set's bound wait; that output process is the standard's, which
the rules name (log entry 143). Beside its values each such clause says what stays as it was: the registers of all
other pages and the other parts of the device, but for what events, interrupts and ledger records reach where it
says Framed. -/
def Obligations.Decoders : Prop :=
  (∀ (s : State) (p asn n : Nat) (hv : HostView) (c : Cmd), p < 128 → asn < 2 ^ 64 →
    Starts (s.dev.see hv) p asn 0x91 c = true → n = sf c.entry 1 0 6 → sf c.entry 8 0 2 = 0 →
    s.dev.ownerOf 3 n = c.part → s.dev.decTurn c = true → 0x28 ≤ dwAt c.entry 6 →
    ∃ t, exec (.decConfig p asn hv) s = .next t ∧ Framed []
    { s.dev with hst := t.dev.hst, hostFails := t.dev.hostFails, vectorsOff := t.dev.vectorsOff } t.dev ∧ t.dev.pip
    = s.dev.pip ∧ (t.dev.cmd? p asn).map (·.phase) = some .moving) ∧
  (∀ (s : State) (p asn n : Nat) (hv : HostView) (c : Cmd), p < 128 → asn < 2 ^ 64 →
    Starts (s.dev.see hv) p asn 0x91 c = true → n = sf c.entry 1 0 6 → sf c.entry 8 0 2 = 1 →
    s.dev.ownerOf 3 n = c.part → s.dev.decTurn c = true → (s.dev.dec n).cfg.isSome = true →
    ∃ t, exec (.decDecode p asn hv) s = .next t ∧ Framed []
    { s.dev with hst := t.dev.hst, hostFails := t.dev.hostFails, vectorsOff := t.dev.vectorsOff } t.dev ∧ t.dev.pip
    = s.dev.pip ∧ (t.dev.cmd? p asn).map (·.phase) = some .moving) ∧
  (∀ (s : State) (p asn n : Nat) (hv : HostView) (c : Cmd), p < 128 → asn < 2 ^ 64 →
    Starts (s.dev.see hv) p asn 0x91 c = true → n = sf c.entry 1 0 6 → sf c.entry 8 0 2 = 2 →
    s.dev.ownerOf 3 n = c.part → s.dev.decTurn c = true → (s.dev.dec n).cfg.isSome = true →
    (s.dev.dec n).held.all (·.hide) = true → (s.dev.dec n).blocked = [] →
    ∃ t, exec (.decDrain p asn hv) s = .next t ∧ Framed []
    { s.dev with pip := t.dev.pip, hst := t.dev.hst, hostFails := t.dev.hostFails, vectorsOff := t.dev.vectorsOff }
    t.dev ∧ (t.dev.dec n).held = [] ∧ (t.dev.dec n).blocked = [] ∧ t.dev.cmd? p asn = none) ∧
  (∀ (s : State) (p asn n : Nat) (hv : HostView) (c : Cmd), p < 128 → asn < 2 ^ 64 →
    Starts (s.dev.see hv) p asn 0x91 c = true → n = sf c.entry 1 0 6 → sf c.entry 8 0 2 = 3 →
    s.dev.ownerOf 3 n = c.part → s.dev.decTurn c = true → (s.dev.dec n).held.all (·.hide) = true →
    (s.dev.dec n).blocked = [] →
    ∃ t, exec (.decRelease p asn hv) s = .next t ∧ Framed []
    { s.dev with pip := t.dev.pip, hst := t.dev.hst, hostFails := t.dev.hostFails, vectorsOff := t.dev.vectorsOff }
    t.dev ∧ t.dev.dec n = {} ∧ t.dev.cmd? p asn = none) ∧
  (∀ (s : State) (g n : Nat) (bad : List Nat) (u : DecUnit) (r : List DecUnit) (c : Cmd), g < 2 → n < 64 →
    bad.all (fun y => y < 2 ^ 16) = true → Ready s.dev = true → s.dev.allAwake = true →
    (s.dev.dec n).units = u :: r → s.dev.decOn g = none → (s.dev.dec n).takes g = true →
    s.dev.works (Pg.DECENT g) = true → s.dev.works (Pg.DECPIX g) = true → s.dev.works (Pg.DECERR g) = true →
    s.dev.shed < 2 → s.dev.pip.decs.all (fun e => e.1 = n) = true → s.dev.cmd? u.part u.asn = some c →
    (s.dev.dec n).unsupported = false → s.dev.assisted (Pg.DECERR g) = false →
    ∃ t, exec (.decUnitStart g n none bad) s = .next t ∧ Still [Pg.DECENT g] { s.dev with pip := t.dev.pip } t.dev ∧
    (t.dev.dec n).run = some
    { part := u.part, asn := u.asn, tag := dw64 c.entry 9, engine := some g, started := s.dev.clock } ∧ (t.dev.dec
    n).units = r ∧ t.dev.rd (Pg.DECENT g) Reg.DEC_ENT.CONTEXT = n) ∧
  (∀ (s : State) (g n : Nat) (bad q : List Nat) (u : DecUnit) (r : List DecUnit) (c : Cmd), g < 2 → n < 64 →
    q.length = 5 → q.all (fun y => y < 2 ^ 16) = true → bad.all (fun y => y < 2 ^ 16) = true → Ready s.dev = true →
    s.dev.allAwake = true → (s.dev.dec n).units = u :: r → s.dev.decOn g = none → (s.dev.dec n).takes g = true →
    s.dev.works (Pg.DECENT g) = true → s.dev.works (Pg.DECPIX g) = true → s.dev.works (Pg.DECERR g) = true →
    s.dev.shed < 2 → s.dev.pip.decs.all (fun e => e.1 = n) = true → s.dev.cmd? u.part u.asn = some c →
    (s.dev.dec n).cfg!.supports q = false → c.part = u.part → c.asn = u.asn →
    ∃ t, exec (.decUnitStart g n (some q) bad) s = .next t ∧ Framed [Pg.DECENT g, Pg.DECERR g]
    { s.dev with pip := t.dev.pip, hst := t.dev.hst } t.dev ∧ (t.dev.dec n).units = r ∧ (t.dev.dec n).unsupported =
    true ∧ (t.dev.dec n).run = (s.dev.dec n).run ∧ t.dev.cmd? u.part u.asn = none ∧ t.dev.rd (Pg.DECERR g)
    Reg.DEC_ERR.UNSUPP_CNT = min (s.dev.rd (Pg.DECERR g) Reg.DEC_ERR.UNSUPP_CNT + 1) 65535) ∧
  (∀ (s : State) (g ix done n : Nat) (x : DecCtx) (r : DecRun), g < 2 → Ready s.dev = true →
    s.dev.decOn g = some (n, x) → x.run = some r → r.started + x.budget * 2 ^ 32 ≤ s.dev.clock →
    ∃ t, exec (.decWatchdog g ix done) s = .next t ∧ Framed [Pg.DECERR g] { s.dev with pip := t.dev.pip } t.dev ∧
    (t.dev.dec n).run = some { r with closed := r.closed ++ [(ix, done)], freed := true } ∧ t.dev.rd (Pg.DECERR g)
    Reg.DEC_ERR.WD_CNT = min (s.dev.rd (Pg.DECERR g) Reg.DEC_ERR.WD_CNT + 1) 65535 ∧ bitAt (t.dev.rd (Pg.DECERR g)
    Reg.HDR.INT_STAT) 1 = true) ∧
  (∀ (s : State) (g n : Nat) (pics : List Picture) (reorder : List Nat) (hv : HostView) (r : DecRun), n < 64 →
    g < 2 → Ready s.dev = true → (s.dev.dec n).run = some r → r.engine = some g → r.asking = [] →
    r.closed.all (fun y => y.1 < pics.length) = true →
    ∃ t, exec (.decUnitEnd n pics reorder hv) s = .next t ∧ Framed [Pg.DECENT g, Pg.DECERR g, Pg.DECPIX 0, Pg.DECPIX
    1, (layerAt (s.dev.dec n).cfg!.layer).1]
    { s.dev with pip := t.dev.pip, hst := t.dev.hst, hostFails := t.dev.hostFails, vectorsOff := t.dev.vectorsOff }
    t.dev ∧ (t.dev.dec n).run.bind (·.engine) = none ∧ t.dev.rd (Pg.DECENT g) Reg.DEC_ENT.UNIT_CNT = (s.dev.rd
    (Pg.DECENT g) Reg.DEC_ENT.UNIT_CNT + 1) % 2 ^ 32 ∧ (t.dev.dec n).dpb = (pics.zipIdx.foldl (r.next (s.dev.dec
    n).cfg! reorder)
    { held := (s.dev.dec n).held, dpb := (s.dev.dec n).dpb, last := (s.dev.dec n).last, lost := (s.dev.dec n).lost }).dpb) ∧
  (∀ (r : DecRun) (y : DecCfg) (reorder : List Nat) (a : DecAcc) (q : Picture) (i : Nat), y.codec ≠ 1 →
    (r.next y reorder a (q, i)).held.length ≤ reorder.getD i 0 ∧ (r.next y reorder a (q, i)).held.length + (r.next y
    reorder a (q, i)).out.length = a.held.length + a.out.length + (if q.isShown then 1 else 0))

/-- COMMIT waits for the next apply point, where the last SEQ becomes APPLIED_SEQ and nothing is pending; a
free-running engine starts the frame of its apply point at its instant and counts it; a TE instant outside active
video waits for its delay, one that is missing starts the frame and is counted; an underrun makes the line
transparent and is counted. A sink that comes trains the port at the larger rate code and the smaller lane code,
one whose training fails leaves TRAINED 0 and is counted; GO starts an AUX transaction that ends with AUX_DONE and
its result; a feed's next line goes in one RETVID packet numbered by SEQ. Beside its values each such clause says
what stays as it was: the registers of all other pages and the other parts of the device, but for what events,
interrupts and ledger records reach where it says Framed. -/
def Obligations.ScanOut : Prop :=
  (∀ (s : State) (f n v : Nat), f < 64 → n < 16 → v < 2 ^ 32 → Taken s.dev f (Pg.DSP n) 0x140 = true →
    ∃ t, exec (.dspCommit f n v) s = .next t ∧ Still [Pg.DSP n] { s.dev with pip := t.dev.pip } t.dev ∧ (t.dev.dsp
    n).commits = (s.dev.dsp n).commits ++ [(v % 2 ^ 16, (s.dev.dsp n).applied)] ∧ t.dev.rd (Pg.DSP n)
    Reg.DSP.PENDING = 1 ∧ t.dev.rd (Pg.DSP n) Reg.DSP.APPLIED_SEQ = s.dev.rd (Pg.DSP n) Reg.DSP.APPLIED_SEQ) ∧
  (∀ (s : State) (n q : Nat) (late : Bool) (hv : HostView), n < 16 → Ready s.dev = true →
    s.dev.works (Pg.DSP n) = true → (s.dev.dsp n).commits.getLast? = some (q, late) →
    ∃ t, exec (.applyPoint n hv) s = .next t ∧ Framed [Pg.DSP n]
    { s.dev with pip := t.dev.pip, act := t.dev.act, cap := t.dev.cap, hostFails := t.dev.hostFails, vectorsOff := t.dev.vectorsOff }
    t.dev ∧ t.dev.rd (Pg.DSP n) Reg.DSP.APPLIED_SEQ = q % 2 ^ 16 ∧ t.dev.rd (Pg.DSP n) Reg.DSP.PENDING = 0 ∧
    t.dev.rd (Pg.DSP n) Reg.DSP.LAST_LATE = b2n late ∧ (t.dev.dsp n).commits = [] ∧ (t.dev.dsp n).applied = true ∧
    (t.dev.dsp n).next.isSome = true) ∧
  (∀ (s : State) (n : Nat) (hv : HostView) (z : Shot), n < 16 → Ready s.dev = true → s.dev.works (Pg.DSP n) = true →
    s.dev.timing n = 0 → (s.dev.dsp n).blanked = false → (s.dev.dsp n).next = some z →
    ∃ t, exec (.dspFrameStart n hv) s = .next t ∧ Framed [Pg.DSP n, Pg.SDI (s.dev.route n).2]
    { s.dev with pip := t.dev.pip, cap := t.dev.cap, hostFails := t.dev.hostFails, vectorsOff := t.dev.vectorsOff }
    t.dev ∧ t.dev.rd (Pg.DSP n) Reg.DSP.FRAME_CNT = (s.dev.rd (Pg.DSP n) Reg.DSP.FRAME_CNT + 1) % 2 ^ 32 ∧
    (t.dev.dsp n).start = some s.dev.now ∧ (t.dev.dsp n).applied = false ∧ (t.dev.dsp n).next = none) ∧
  (∀ (s : State) (ix n : Nat), ix < 2 → n < 16 → s.dev.stopped = false → s.dev.works (Pg.DSP n) = true →
    s.dev.rdA (Pg.DSP n) Reg.DSP.TE_SEL = ix → s.dev.timing n = 2 →
    (match (s.dev.dsp n).start with | some y => decide (s.dev.activeEnd n y ≤ s.dev.now) | none => true) = true →
    ∃ t, exec (.teInput ix) s = .next t ∧ Framed ([] ++ (List.range 16).map Pg.DSP) { s.dev with pip := t.dev.pip }
    t.dev ∧ (t.dev.dsp n).te = some s.dev.now) ∧
  (∀ (s : State) (n : Nat) (hv : HostView) (z : Shot), n < 16 → s.dev.stopped = false →
    s.dev.works (Pg.DSP n) = true → s.dev.timing n = 2 → (s.dev.dsp n).te = none → (s.dev.dsp n).next = some z →
    ∃ t, exec (.teTimeout n hv) s = .next t ∧ Framed [Pg.DSP n, Pg.SDI (s.dev.route n).2]
    { s.dev with pip := t.dev.pip, cap := t.dev.cap, hostFails := t.dev.hostFails, vectorsOff := t.dev.vectorsOff }
    t.dev ∧ t.dev.rd (Pg.DSP n) Reg.DSP.TE_MISS_CNT = min (s.dev.rd (Pg.DSP n) Reg.DSP.TE_MISS_CNT + 1) 65535 ∧
    bitAt (t.dev.rd (Pg.DSP n) Reg.HDR.INT_STAT) 2 = true ∧ (t.dev.dsp n).start = some s.dev.now) ∧
  (∀ (s : State) (g n : Nat) (hv : HostView) (p : Packet) (r : List Packet) (b : Binding), g < 32 → n < 16 →
    s.dev.stopped = false → s.dev.allAwake = true → (s.dev.group g).rx = p :: r → pType p.header = 8 →
    bits p.header 37 8 = 0x46 → Assoc.find (s.dev.group g).vcs (pVc p.header) = some b →
    s.dev.works (Pg.DSP n) = true → s.dev.timing n = 2 → (s.dev.dsp n).start = none →
    s.dev.now ≤ (p.words.getD 0 0) % 2 ^ 64 * 2 ^ 32 + bits (p.words.getD 1 0) 0 32 + s.dev.rdA (Pg.DSP n)
    Reg.DSP.TE_DELAY * 2 ^ 32 →
    ((List.range 16).filter fun y => s.dev.rdA (Pg.DSP y) Reg.DSP.TE_SEL = 2 && s.dev.rdA (Pg.DSP y) Reg.DSP.TE_HEAD
    = b.head && s.dev.rdA (Pg.DSP y) Reg.DSP.TE_HSRC = bits (p.words.getD 1 0) 32 2) = [n] →
    ∃ t, exec (.teEvent g hv) s = .next t ∧ Framed []
    { s.dev with pip := t.dev.pip, cap := t.dev.cap, hostFails := t.dev.hostFails, vectorsOff := t.dev.vectorsOff }
    t.dev ∧ (t.dev.dsp n).te = some ((p.words.getD 0 0) % 2 ^ 64 * 2 ^ 32 + bits (p.words.getD 1 0) 0 32) ∧
    (t.dev.group g).rx = r) ∧
  (∀ (s : State) (n l y x : Nat) (z : Shot), n < 16 → l < 4 → y < 2 ^ 16 → x < 2 ^ 16 → Ready s.dev = true →
    (s.dev.dsp n).shown = some z → (s.dev.route n).1 ≠ 3 →
    ∃ t, exec (.dspUnderrun n l y x) s = .next t ∧ Framed [Pg.DSP n] { s.dev with pip := t.dev.pip } t.dev ∧
    (t.dev.dsp n).shown = some { z with under := z.under ++ [(l, y, x)] } ∧ t.dev.rd (Pg.DSP n) Reg.DSP.UNDERRUN_CNT
    = min (s.dev.rd (Pg.DSP n) Reg.DSP.UNDERRUN_CNT + 1) 65535 ∧ bitAt (t.dev.rd (Pg.DSP n) Reg.HDR.INT_STAT) 1 =
    true) ∧
  (∀ (s : State) (n rate lanes : Nat) (adaptive : Bool), n < 4 → rate < 8 → lanes < 8 → s.dev.stopped = false →
    ∃ t, exec (.hotPlug n true rate lanes adaptive false) s = .next t ∧ Framed ([Pg.DPX n] ++ (List.range 16).map
    Pg.DSP) { s.dev with pip := t.dev.pip } t.dev ∧ t.dev.rd (Pg.DPX n) Reg.DPX.HPD = 1 ∧ t.dev.rd (Pg.DPX n)
    Reg.DPX.TRAINED = 1 ∧ t.dev.rd (Pg.DPX n) Reg.DPX.RATE_TRAINED = max (s.dev.rd (Pg.DPX n) Reg.DPX.LINK_RATE)
    rate % 2 ^ Reg.DPX.RATE_TRAINED.width ∧ t.dev.rd (Pg.DPX n) Reg.DPX.LANES_TRAINED = min (s.dev.rd (Pg.DPX n)
    Reg.DPX.LANES) lanes % 2 ^ Reg.DPX.LANES_TRAINED.width ∧ bitAt (t.dev.rd (Pg.DPX n) Reg.HDR.INT_STAT) 0 = true) ∧
  (∀ (s : State) (n rate lanes : Nat) (adaptive : Bool), n < 4 → rate < 8 → lanes < 8 → s.dev.stopped = false →
    ∃ t, exec (.hotPlug n true rate lanes adaptive true) s = .next t ∧ Framed ([Pg.DPX n] ++ (List.range 16).map
    Pg.DSP) { s.dev with pip := t.dev.pip } t.dev ∧ t.dev.rd (Pg.DPX n) Reg.DPX.TRAINED = 0 ∧ t.dev.rd (Pg.DPX n)
    Reg.DPX.TRAIN_FAIL_CNT = min (s.dev.rd (Pg.DPX n) Reg.DPX.TRAIN_FAIL_CNT + 1) (2 ^ Reg.DPX.TRAIN_FAIL_CNT.width
    - 1) ∧ bitAt (t.dev.rd (Pg.DPX n) Reg.HDR.INT_STAT) 1 = true) ∧
  (∀ (s : State) (f n v : Nat), f < 64 → n < 4 → v < 2 ^ 32 → Taken s.dev f (Pg.DPX n) 0x10C = true →
    bitAt v 31 = true → n ∉ s.dev.pip.auxBusy →
    ∃ t, exec (.auxGo f n v) s = .next t ∧ Framed [Pg.DPX n] { s.dev with pip := t.dev.pip } t.dev ∧
    t.dev.pip.auxBusy = s.dev.pip.auxBusy ++ [n] ∧ t.dev.rd (Pg.DPX n) Reg.DPX.AUX_DONE = 0) ∧
  (∀ (s : State) (n r : Nat) (bs : List Byte), n < 4 → r < 8 → bs.length ≤ 16 → s.dev.stopped = false →
    n ∈ s.dev.pip.auxBusy →
    ∃ t, exec (.auxTransactionEnd n r bs) s = .next t ∧ Framed [Pg.DPX n] { s.dev with pip := t.dev.pip } t.dev ∧
    t.dev.rd (Pg.DPX n) Reg.DPX.AUX_DONE = 1 ∧ t.dev.rd (Pg.DPX n) Reg.DPX.AUX_RESULT = r % 2 ^
    Reg.DPX.AUX_RESULT.width ∧ n ∉ t.dev.pip.auxBusy ∧ bitAt (t.dev.rd (Pg.DPX n) Reg.HDR.INT_STAT) 2 = true) ∧
  (∀ (s : State) (n m y g vc : Nat) (x : Feed) (ws : List Nat) (r : List (Nat × Nat × List Nat)), n < 32 →
    Ready s.dev = true → Assoc.find s.dev.pip.feeds n = some x → x.rows = (m, y, ws) :: r →
    (s.dev.head (s.dev.feed n Reg.DSP.F_HEAD)).vc = some (g, vc) →
    s.dev.admission (s.dev.feed n Reg.DSP.F_HEAD) = 2 → s.dev.feed n Reg.DSP.F_EN = 1 →
    (s.dev.feed n Reg.DSP.F_SRC = 0 ∨ (s.dev.on (Pg.DSP (n / 2)) Reg.HDR.EN = true ∧ ((s.dev.dsp (n / 2)).shown.any
    fun z => z.stream.isSome) = false)) → Assoc.has s.dev.cap.feedWait n = false →
    ∃ t, exec (.feedLineSend n) s = .next t ∧ Still [] { s.dev with pip := t.dev.pip, outs := t.dev.outs } t.dev ∧
    Assoc.find t.dev.pip.feeds n = some { x with rows := r, seq := (x.seq + 1) % 65536 } ∧ Out.retvid g (0xA + vc *
    2 ^ 4 + ws.length * 2 ^ 8 + n * 2 ^ 21 + y * 2 ^ 26 + x.seq % 65536 * 2 ^ 40 + m % 256 * 2 ^ 56) ws ∈
    t.dev.outs)

/-- QUEUE_CREATE with a free number within the quota and valid fields makes the queue pair, QUEUE_DELETE removes it;
SQ_TAIL and CQ_HEAD take valid values and count invalid ones; COMMAND_FETCH at the queue's turn takes the next
entry, which gets the partition's next ASN; the coalescing time-out gives the interrupt; HIF ENABLE creates or
deletes the admin queue pair or is refused. EVENT_RING_SET with valid fields creates the ring of its kind, DELETE
removes it; EVT_HEAD and AST_HEAD take a valid head; the kept summaries are posted once the ring has room;
FEATURE_SET of a valid value takes it, FEATURE_GET returns the DW its WORD selects; the oldest message that could
not be sent in time is dropped and counted. Beside its values each such clause says what stays as it was: the
registers of all other pages and the other parts of the device, but for what events, interrupts and ledger records
reach where it says Framed. -/
def Obligations.QueuePairs : Prop :=
  (∀ (s : State) (p asn : Nat) (hv : HostView) (c : Cmd), p < 128 → asn < 2 ^ 64 →
    Starts (s.dev.see hv) p asn 0x01 c = true → c.part < 64 → sf c.entry 1 0 16 ≠ 0 → sf c.entry 1 0 16 ≠ c.queue →
    sf c.entry 1 0 16 < s.dev.rd (qmg c.part).1 Reg.QMG.QUOTA (qmg c.part).2 →
    s.dev.queue? c.part (sf c.entry 1 0 16) = none → 1 ≤ sf c.entry 8 0 16 → 1 ≤ sf c.entry 8 16 16 →
    dw64 c.entry 2 % 4096 = 0 → dw64 c.entry 4 % 4096 = 0 → sf c.entry 9 0 11 < (s.dev.part c.part).msix →
    ∃ t, exec (.queueCreate p asn hv) s = .next t ∧ Framed []
    { s.dev with hst := t.dev.hst, hostFails := t.dev.hostFails, vectorsOff := t.dev.vectorsOff } t.dev ∧
    t.dev.queue? c.part (sf c.entry 1 0 16) = some
    { sqBase := dw64 c.entry 2, cqBase := dw64 c.entry 4, sqDepth := sf c.entry 8 0 16 + 1, cqDepth := sf c.entry 8 16 16 + 1, vector := sf c.entry 9 0 11, irqEn := decide (sf c.entry 9 16 1 = 1), weight := sf c.entry 9 20 4, coalCount := max 1 (sf c.entry 10 0 16), coalUs := sf c.entry 10 16 16 }
    ∧ t.dev.cmd? p asn = none) ∧
  (∀ (s : State) (p asn : Nat) (hv : HostView) (c : Cmd), p < 128 → asn < 2 ^ 64 →
    Starts (s.dev.see hv) p asn 0x02 c = true → c.part < 64 → sf c.entry 1 0 16 ≠ 0 →
    (s.dev.queue? c.part (sf c.entry 1 0 16)).isSome = true →
    ∃ t, exec (.queueDelete p asn hv) s = .next t ∧ Framed []
    { s.dev with hst := t.dev.hst, hostFails := t.dev.hostFails, vectorsOff := t.dev.vectorsOff } t.dev ∧
    t.dev.queue? c.part (sf c.entry 1 0 16) = none ∧ t.dev.cmd? p asn = none) ∧
  (∀ (s : State) (p q v : Nat) (z : Queue), p < 64 → q < 65536 → v < 2 ^ 32 → s.dev.stopped = false →
    s.dev.hasFn p = true → s.dev.running = true → s.dev.allAwake = true → s.dev.queue? p q = some z →
    v < z.sqDepth →
    ∃ t, exec (.sqTail p q v) s = .next t ∧ Still [] { s.dev with hst := t.dev.hst } t.dev ∧ t.dev.queue? p q = some
    { z with sqTail := v } ∧ t.dev.regs = s.dev.regs) ∧
  (∀ (s : State) (p q v : Nat) (z : Queue), p < 64 → q < 65536 → v < 2 ^ 32 → s.dev.stopped = false →
    s.dev.hasFn p = true → s.dev.running = true → s.dev.allAwake = true → s.dev.queue? p q = some z →
    z.sqDepth ≤ v →
    ∃ t, exec (.sqTail p q v) s = .next t ∧ Framed [(qmg p).1] { s.dev with hst := t.dev.hst } t.dev ∧ t.dev.queue?
    p q = some z ∧ t.dev.rd (qmg p).1 Reg.QMG.DB_INVALID_CNT (qmg p).2 = min (s.dev.rd (qmg p).1
    Reg.QMG.DB_INVALID_CNT (qmg p).2 + 1) (2 ^ Reg.QMG.DB_INVALID_CNT.width - 1)) ∧
  (∀ (s : State) (f q v n : Nat), f < 64 → q < 65536 → n ≠ 4 → s.dev.stopped = false → s.dev.hasFn f = true →
    ∃ t, exec (.sqTail f q v n) s = .next t ∧ { s.dev with outs := t.dev.outs } = t.dev ∧ t.dev.outs.head? = some
    (.unsupported f)) ∧
  (∀ (s : State) (p q v : Nat) (z : Queue), p < 64 → q < 65536 → v < 2 ^ 32 → s.dev.stopped = false →
    s.dev.hasFn p = true → s.dev.running = true → s.dev.allAwake = true → s.dev.queue? p q = some z →
    v < z.cqDepth → (v + z.cqDepth - z.cqHead) % z.cqDepth ≤ z.unreturned →
    ∃ t, exec (.cqHead p q v) s = .next t ∧ Framed [] { s.dev with hst := t.dev.hst } t.dev ∧ (t.dev.queue? p q).map
    (fun y => (y.cqHead, y.cqTail, y.sqTail)) = some (v, z.cqTail, z.sqTail)) ∧
  (∀ (s : State) (p q v : Nat) (z : Queue), p < 64 → q < 65536 → v < 2 ^ 32 → s.dev.stopped = false →
    s.dev.hasFn p = true → s.dev.running = true → s.dev.allAwake = true → s.dev.queue? p q = some z →
    z.unreturned < (v + z.cqDepth - z.cqHead) % z.cqDepth →
    ∃ t, exec (.cqHead p q v) s = .next t ∧ Framed [(qmg p).1] { s.dev with hst := t.dev.hst } t.dev ∧ t.dev.queue?
    p q = some z ∧ t.dev.rd (qmg p).1 Reg.QMG.DB_INVALID_CNT (qmg p).2 = min (s.dev.rd (qmg p).1
    Reg.QMG.DB_INVALID_CNT (qmg p).2 + 1) (2 ^ Reg.QMG.DB_INVALID_CNT.width - 1)) ∧
  (∀ (s : State) (p q : Nat) (z : Queue), p < 64 → q < 65536 → s.dev.stopped = false → s.dev.queue? p q = some z →
    z.irqEn = true → z.sinceIrq ≠ 0 → z.unreturned ≠ 0 → s.dev.hasFn p = true → z.vector < (s.dev.part p).msix →
    (q ≠ 0 ∨ s.dev.vectorsOff.contains (p, 0) = false) →
    ∃ t, exec (.cqCoalesceTimeout p q) s = .next t ∧ Framed [] { s.dev with hst := t.dev.hst } t.dev ∧ t.dev.queue?
    p q = some { z with sinceIrq := 0 } ∧ Out.msix p z.vector ∈ t.dev.outs) ∧
  (∀ (s : State) (p q : Nat) (hv : HostView) (z : Queue) (e : List Nat) (ho : HostSt), p < 64 → q < 65536 →
    s.dev.stopped = false → s.dev.allAwake = true → s.dev.queue? p q = some z →
    (s.dev.see hv).hasEntry p q z = true → (s.dev.see hv).cqRoom p q z = true →
    (s.dev.see hv).turnFor p q = some ho → (s.dev.see hv).hostOk p (z.sqBase + 64 * z.sqHead) 64 = true →
    e = ((List.range 16).map fun y => ofLe ((s.dev.see hv).hostRead p (z.sqBase + 64 * z.sqHead + 4 * y) 4)) →
    q = 0 → adminOp (opcode e) = true →
    ∃ t, exec (.commandFetch p q hv) s = .next t ∧ Framed [(qmg p).1]
    { s.dev with hst := t.dev.hst, hostFails := t.dev.hostFails, vectorsOff := t.dev.vectorsOff } t.dev ∧
    (t.dev.cmd? p (s.dev.part p).asnNext).map (fun x => (x.entry, x.cid, x.queue)) = some (e, sf e 0 16 16, q) ∧
    (t.dev.cmd? p (s.dev.part p).asnNext).map (·.phase) = some .waiting ∧ (t.dev.part p).asnNext = (s.dev.part
    p).asnNext + 1 ∧ (t.dev.queue? p q).map (·.sqHead) = some ((z.sqHead + 1) % z.sqDepth)) ∧
  (∀ (s : State) (f n v : Nat), f < 64 → n < 64 → v < 2 ^ 32 →
    Taken s.dev f (hif n).1 (0x414 + 0x40 * (hif n).2) = true → bits v 0 1 = 1 →
    s.dev.on (hif n).1 Reg.HIF.ENABLE (hif n).2 = false →
    s.dev.rd64 (hif n).1 Reg.HIF.ASQ_ADDR_LO Reg.HIF.ASQ_ADDR_HI (hif n).2 % 4096 = 0 →
    s.dev.rd64 (hif n).1 Reg.HIF.ACQ_ADDR_LO Reg.HIF.ACQ_ADDR_HI (hif n).2 % 4096 = 0 →
    1 ≤ s.dev.rd (hif n).1 Reg.HIF.ASQ_DEPTH (hif n).2 → s.dev.rd (hif n).1 Reg.HIF.ASQ_DEPTH (hif n).2 ≤ 4095 →
    1 ≤ s.dev.rd (hif n).1 Reg.HIF.ACQ_DEPTH (hif n).2 → s.dev.rd (hif n).1 Reg.HIF.ACQ_DEPTH (hif n).2 ≤ 4095 →
    ∃ t, exec (.hifEnable f n v) s = .next t ∧ Framed [(hif n).1] { s.dev with hst := t.dev.hst } t.dev ∧ t.dev.on
    (hif n).1 Reg.HIF.ENABLE (hif n).2 = true ∧ t.dev.on (hif n).1 Reg.HIF.READY (hif n).2 = true ∧ t.dev.on (hif
    n).1 Reg.HIF.REFUSED (hif n).2 = false ∧ (t.dev.queue? n 0).map (fun y => (y.sqDepth, y.cqDepth)) = some
    (s.dev.rd (hif n).1 Reg.HIF.ASQ_DEPTH (hif n).2 + 1, s.dev.rd (hif n).1 Reg.HIF.ACQ_DEPTH (hif n).2 + 1) ∧
    (t.dev.part n).paused = false) ∧
  (∀ (s : State) (f n v : Nat), f < 64 → n < 64 → v < 2 ^ 32 →
    Taken s.dev f (hif n).1 (0x414 + 0x40 * (hif n).2) = true → bits v 0 1 = 1 →
    s.dev.on (hif n).1 Reg.HIF.ENABLE (hif n).2 = false → s.dev.rd (hif n).1 Reg.HIF.ASQ_DEPTH (hif n).2 = 0 →
    ∃ t, exec (.hifEnable f n v) s = .next t ∧ Still [(hif n).1] s.dev t.dev ∧ t.dev.on (hif n).1 Reg.HIF.ENABLE
    (hif n).2 = false ∧ t.dev.on (hif n).1 Reg.HIF.REFUSED (hif n).2 = true ∧ t.dev.hst.queues = s.dev.hst.queues) ∧
  (∀ (s : State) (p asn : Nat) (hv : HostView) (c : Cmd), p < 128 → asn < 2 ^ 64 →
    Starts (s.dev.see hv) p asn 0x0C c = true → sf c.entry 8 1 1 = 0 → sf c.entry 8 0 1 = 0 → c.part < 64 →
    15 ≤ sf c.entry 9 0 16 → dw64 c.entry 2 % 4096 = 0 → sf c.entry 10 0 11 < (s.dev.part c.part).msix →
    ∃ t, exec (.eventRingSet p asn hv) s = .next t ∧ Framed []
    { s.dev with hst := t.dev.hst, hostFails := t.dev.hostFails, vectorsOff := t.dev.vectorsOff } t.dev ∧
    (t.dev.part c.part).evt = some
    { base := dw64 c.entry 2, depth := sf c.entry 9 0 16 + 1, classes := sf c.entry 8 8 3, vector := sf c.entry 10 0 11, irqEn := decide (sf c.entry 10 16 1 = 1) }
    ∧ (t.dev.part c.part).ast = (s.dev.part c.part).ast ∧ t.dev.cmd? p asn = none) ∧
  (∀ (s : State) (p asn : Nat) (hv : HostView) (c : Cmd), p < 128 → asn < 2 ^ 64 →
    Starts (s.dev.see hv) p asn 0x0C c = true → sf c.entry 8 1 1 = 0 → sf c.entry 8 0 1 = 1 → c.part < 64 →
    1 ≤ sf c.entry 9 0 16 → dw64 c.entry 2 % 4096 = 0 → sf c.entry 10 0 11 < (s.dev.part c.part).msix →
    ∃ t, exec (.eventRingSet p asn hv) s = .next t ∧ Framed []
    { s.dev with hst := t.dev.hst, hostFails := t.dev.hostFails, vectorsOff := t.dev.vectorsOff } t.dev ∧
    (t.dev.part c.part).ast.map (fun y => (y.base, y.depth, y.head, y.tail)) = some (dw64 c.entry 2, sf c.entry 9 0
    16 + 1, 0, 0) ∧ (t.dev.part c.part).evt = (s.dev.part c.part).evt ∧ t.dev.cmd? p asn = none) ∧
  (∀ (s : State) (p asn : Nat) (hv : HostView) (c : Cmd), p < 128 → asn < 2 ^ 64 →
    Starts (s.dev.see hv) p asn 0x0C c = true → sf c.entry 8 1 1 = 1 → sf c.entry 8 0 1 = 0 →
    ∃ t, exec (.eventRingDelete p asn hv) s = .next t ∧ Framed []
    { s.dev with hst := t.dev.hst, hostFails := t.dev.hostFails, vectorsOff := t.dev.vectorsOff } t.dev ∧
    (t.dev.part c.part).evt = none ∧ (t.dev.part c.part).ast = (s.dev.part c.part).ast ∧ t.dev.cmd? p asn = none) ∧
  (∀ (s : State) (p v : Nat) (z y : Ring), p < 64 → v < 2 ^ 32 → s.dev.stopped = false → s.dev.hasFn p = true →
    s.dev.running = true → s.dev.allAwake = true → (s.dev.part p).evt = some z → z.toHead v = some y →
    ∃ t, exec (.evtHead p v) s = .next t ∧ Still [] { s.dev with hst := t.dev.hst } t.dev ∧ (t.dev.part p).evt =
    some { z with head := v }) ∧
  (∀ (s : State) (p v : Nat) (z y : Ring), p < 64 → v < 2 ^ 32 → s.dev.stopped = false → s.dev.hasFn p = true →
    s.dev.running = true → s.dev.allAwake = true → (s.dev.part p).ast = some z → z.toHead v = some y →
    ∃ t, exec (.astHead p v) s = .next t ∧ Still [] { s.dev with hst := t.dev.hst } t.dev ∧ (t.dev.part p).ast =
    some { z with head := v }) ∧
  (∀ (s : State) (p v : Nat) (z : Ring), p < 64 → v < 2 ^ 32 → s.dev.stopped = false → s.dev.hasFn p = true →
    s.dev.running = true → s.dev.allAwake = true → (s.dev.part p).ast = some z → z.toHead v = none →
    ∃ t, exec (.astHead p v) s = .next t ∧ Framed [(qmg p).1] { s.dev with hst := t.dev.hst } t.dev ∧ (t.dev.part
    p).ast = some z ∧ t.dev.rd (qmg p).1 Reg.QMG.DB_INVALID_CNT (qmg p).2 = min (s.dev.rd (qmg p).1
    Reg.QMG.DB_INVALID_CNT (qmg p).2 + 1) (2 ^ Reg.QMG.DB_INVALID_CNT.width - 1)) ∧
  (∀ (s : State) (p : Nat) (z : Ring) (y : Summary), p < 128 → s.dev.stopped = false → (s.dev.part p).evt = some z →
    (s.dev.part p).lost = 0 → (s.dev.part p).summaries = [y] → z.used + 1 + min 64 (z.depth / 2) < z.depth →
    ∃ t, exec (.eventSummaryPost p) s = .next t ∧ Framed [] s.dev t.dev ∧ (t.dev.part p).summaries = [] ∧
    (t.dev.part p).evt.map (·.tail) = some ((z.tail + 1) % z.depth)) ∧
  (∀ (s : State) (b : List Byte) (r : List (List Byte)), Ready s.dev = true → s.dev.hst.syslogQueue = b :: r →
    ∃ t, exec (.syslogSendTimeout) s = .next t ∧ Still [Pg.EVT] { s.dev with hst := t.dev.hst } t.dev ∧
    t.dev.hst.syslogQueue = r ∧ t.dev.rd Pg.EVT Reg.EVT.SYSLOG_DROP_CNT = min (s.dev.rd Pg.EVT
    Reg.EVT.SYSLOG_DROP_CNT + 1) (2 ^ Reg.EVT.SYSLOG_DROP_CNT.width - 1)) ∧
  (∀ (s : State) (p asn : Nat) (hv : HostView) (c : Cmd), p < 128 → asn < 2 ^ 64 →
    Starts (s.dev.see hv) p asn 0x05 c = true → sf c.entry 8 0 8 = 1 → 1 ≤ dwAt c.entry 9 → dwAt c.entry 9 ≤ 64 →
    dwAt c.entry 10 = 0 → dwAt c.entry 11 = 0 → dwAt c.entry 12 = 0 →
    ∃ t, exec (.featureSet p asn hv) s = .next t ∧ Framed []
    { s.dev with hst := t.dev.hst, hostFails := t.dev.hostFails, vectorsOff := t.dev.vectorsOff } t.dev ∧
    (t.dev.part c.part).burst = dwAt c.entry 9 ∧ t.dev.cmd? p asn = none) ∧
  (∀ (s : State) (p asn : Nat) (hv : HostView) (c : Cmd), p < 128 → asn < 2 ^ 64 →
    Starts (s.dev.see hv) p asn 0x06 c = true → sf c.entry 8 0 8 = 2 → sf c.entry 9 0 2 = 1 →
    exec (.featureGet p asn hv) s = .next (s.withDev ((s.dev.see hv).succeed c ((s.dev.part c.part).hint / 2 ^
    32))))

/-- Completing a command of a PCIe partition whose queue pair exists removes it from the accepted commands, writes
its 16 B completion entry at the CQ's tail, and moves the tail, whose wrap inverts the phase; without its queue
pair the entry goes to the Orphan Completion log. -/
def Obligations.CompletionsArePosted : Prop :=
  (∀ (d : Dev) (c : Cmd) (st : Status) (result : Nat) (z : Queue), c.part < 64 → d.queue? c.part c.queue = some z →
    z.cqBase + 16 * z.cqTail + 16 ≤ 2 ^ 64 → d.hostOk c.part (z.cqBase + 16 * z.cqTail) 16 = true →
    ((d.complete c st result).cmd? c.part c.asn = none ∧ (d.complete c st result).hostRead c.part (z.cqBase + 16 *
    z.cqTail) 16 = dwBytes (completionEntry result c.asn z.sqHead c.queue c.cid z.phase st) ∧ ((d.complete c st
    result).queue? c.part c.queue).map (fun y => (y.cqTail, y.phase)) = some ((z.cqTail + 1) % z.cqDepth, if
    (z.cqTail + 1) % z.cqDepth = 0 then !z.phase else z.phase))) ∧
  (∀ (d : Dev) (c : Cmd) (st : Status) (result : Nat), d.queue? c.part c.queue = none →
    (d.part c.part).orphans.length < 8192 →
    ((d.complete c st result).cmd? c.part c.asn = none ∧ (d.complete c st result).hostMem = d.hostMem ∧ ((d.complete
    c st result).part c.part).orphans = insertOrphan
    { entry := completionEntry result c.asn ((c.idx + 1) % c.depth) c.queue c.cid false st, asn := c.asn, opcode := opcode c.entry, reason := c.reason, ms := d.ns / 1000000 % 2 ^ 32 }
    (d.part c.part).orphans))

/-- A WRITE or READ of parameter space within its context's block, and a WRITE of store space that its set, its
locks and the pending window let start, moves its data; FLUSH completes at once when nothing it covers waits, else
it waits; the bytes of a BAR2 write to the shadow bank read back there but for reserved bits, and a read returns
the bytes addressed. Beside its values each such clause says what stays as it was: the registers of all other
pages and the other parts of the device, but for what events, interrupts and ledger records reach where it says
Framed. -/
def Obligations.StoreAndParameterSpace : Prop :=
  (∀ (s : State) (p asn : Nat) (hv : HostView) (c : Cmd), p < 128 → asn < 2 ^ 64 →
    Starts (s.dev.see hv) p asn 0x80 c = true → s.dev.flushed c = true →
    ∃ t, exec (.flush p asn hv) s = .next t ∧ Framed []
    { s.dev with hst := t.dev.hst, hostFails := t.dev.hostFails, vectorsOff := t.dev.vectorsOff } t.dev ∧ t.dev.pip
    = s.dev.pip ∧ t.dev.cmd? p asn = none) ∧
  (∀ (s : State) (p asn : Nat) (hv : HostView) (c : Cmd), p < 128 → asn < 2 ^ 64 →
    Starts (s.dev.see hv) p asn 0x80 c = true → s.dev.flushed c = false →
    ∃ t, exec (.flush p asn hv) s = .next t ∧ Framed []
    { s.dev with hst := t.dev.hst, hostFails := t.dev.hostFails, vectorsOff := t.dev.vectorsOff } t.dev ∧ t.dev.pip
    = s.dev.pip ∧ (t.dev.cmd? p asn).map (·.phase) = some .running) ∧
  (∀ (s : State) (p asn : Nat) (hv : HostView) (c : Cmd), p < 128 → asn < 2 ^ 64 →
    Starts (s.dev.see hv) p asn 0x81 c = true → sf c.entry 8 0 2 = 1 → s.dev.ownsCtx c (dwAt c.entry 1) = true →
    dwAt c.entry 1 * 0x40000 ≤ dw64 c.entry 10 →
    dw64 c.entry 10 + dwAt c.entry 6 ≤ dwAt c.entry 1 * 0x40000 + 0x20000 →
    ∃ t, exec (.write p asn hv) s = .next t ∧ Framed []
    { s.dev with hst := t.dev.hst, hostFails := t.dev.hostFails, vectorsOff := t.dev.vectorsOff } t.dev ∧ t.dev.pip
    = s.dev.pip ∧ (t.dev.cmd? p asn).map (·.phase) = some .moving) ∧
  (∀ (s : State) (p asn : Nat) (hv : HostView) (c : Cmd), p < 128 → asn < 2 ^ 64 →
    Starts (s.dev.see hv) p asn 0x81 c = true → sf c.entry 8 0 2 = 0 → dwAt c.entry 1 < 8 →
    s.dev.setOwner (dwAt c.entry 1) = c.part → dw64 c.entry 10 % 4096 = 0 → dwAt c.entry 6 % 4096 = 0 →
    4096 ≤ dwAt c.entry 6 → dwAt c.entry 6 ≤ 2 ^ 24 → s.dev.setUp (dwAt c.entry 1) = true →
    dw64 c.entry 10 + dwAt c.entry 6 ≤ ((s.dev.sset (dwAt c.entry 1)).storeExtents c.part).length * (s.dev.sset
    (dwAt c.entry 1)).extentSize → s.dev.locked c = false → s.dev.pendingRoom (dwAt c.entry 6) = true →
    ∃ t, exec (.write p asn hv) s = .next t ∧ Framed []
    { s.dev with hst := t.dev.hst, hostFails := t.dev.hostFails, vectorsOff := t.dev.vectorsOff } t.dev ∧ t.dev.pip
    = s.dev.pip ∧ (t.dev.cmd? p asn).map (·.phase) = some .moving) ∧
  (∀ (s : State) (p asn : Nat) (hv : HostView) (c : Cmd), p < 128 → asn < 2 ^ 64 →
    Starts (s.dev.see hv) p asn 0x82 c = true → sf c.entry 8 0 2 = 1 → s.dev.ownsCtx c (dwAt c.entry 1) = true →
    dwAt c.entry 1 * 0x40000 ≤ dw64 c.entry 10 → dw64 c.entry 10 + dwAt c.entry 6 ≤ (dwAt c.entry 1 + 1) * 0x40000 →
    s.dev.shed = 0 →
    ∃ t, exec (.read p asn hv) s = .next t ∧ Framed []
    { s.dev with hst := t.dev.hst, hostFails := t.dev.hostFails, vectorsOff := t.dev.vectorsOff } t.dev ∧ t.dev.pip
    = s.dev.pip ∧ (t.dev.cmd? p asn).map (·.phase) = some .moving) ∧
  (∀ (s : State) (p asn : Nat) (hv : HostView) (c : Cmd), p < 128 → asn < 2 ^ 64 →
    Starts (s.dev.see hv) p asn 0x82 c = true → sf c.entry 8 0 2 = 1 → s.dev.ownsCtx c (dwAt c.entry 1) = true →
    dwAt c.entry 1 * 0x40000 ≤ dw64 c.entry 10 → dw64 c.entry 10 + dwAt c.entry 6 ≤ (dwAt c.entry 1 + 1) * 0x40000 →
    1 ≤ s.dev.shed → exec (.read p asn hv) s = .next (s.withDev (s.dev.see hv))) ∧
  (∀ (s : State) (f off : Nat) (b : List Byte), f < 64 → off < 2 ^ 26 → 1 ≤ b.length →
    off % 4096 + b.length ≤ 4096 → s.dev.stopped = false → s.dev.hasFn f = true → s.dev.running = true →
    s.dev.allAwake = true → s.dev.keep = false → (f = 0 ∨ s.dev.ctxOwner (off / 0x40000) = f) →
    0x1000 ≤ off % 0x40000 → off % 0x40000 + b.length ≤ 0x20000 →
    ∃ t, exec (.bar2Access f off (some (b.map some)) b.length) s = .next t ∧ Still []
    { s.dev with cap := t.dev.cap, reply := t.dev.reply } t.dev ∧ ((seqFrom (off % 0x40000) b.length).map fun i =>
    t.dev.paramByte (off / 0x40000) i) = b.zipIdx.map (fun e => e.1 &&& BitVec.ofNat 8 (Pb.mask ((off % 0x40000 +
    e.2) / 4) / 2 ^ (8 * ((off % 0x40000 + e.2) % 4)))) ∧ t.dev.reply = []) ∧
  (∀ (s : State) (f off n : Nat), f < 64 → off < 2 ^ 26 → 1 ≤ n → off % 4096 + n ≤ 4096 → s.dev.stopped = false →
    s.dev.hasFn f = true → s.dev.running = true → s.dev.allAwake = true → s.dev.keep = false →
    (f = 0 ∨ s.dev.ctxOwner (off / 0x40000) = f) →
    exec (.bar2Access f off none n) s = .next (s.withDev
    ({ s.dev with reply := (seqFrom (off % 0x40000) n).map fun i => (s.dev.paramByte (off / 0x40000) i).toNat }))) ∧
  (∀ (s : State) (f off n : Nat), f < 64 → off < 2 ^ 26 → 1 ≤ n → off % 4096 + n ≤ 4096 → s.dev.stopped = false →
    s.dev.hasFn f = true → s.dev.running = true → s.dev.allAwake = true → s.dev.keep = false → f ≠ 0 →
    s.dev.ctxOwner (off / 0x40000) ≠ f →
    ∃ t, exec (.bar2Access f off none n) s = .next t ∧ Framed [Pg.MMU 1] { s.dev with reply := t.dev.reply } t.dev ∧
    t.dev.reply = List.replicate n 0 ∧ t.dev.rd (Pg.MMU 1) Reg.MMU.DENY_CNT = min (s.dev.rd (Pg.MMU 1)
    Reg.MMU.DENY_CNT + 1) (2 ^ Reg.MMU.DENY_CNT.width - 1) ∧ t.dev.cap = s.dev.cap)

/-- A packet whose MAC is wrong is counted and changes nothing else; in SEQ order a COMMAND with room is accepted
under the partition's next ASN, DATA within its window is kept, CLOSE makes the session closing; ACK removes the
packets before it; a time-out sends a packet again and counts it, the sixteenth in succession puts the session on
hold; a keep-alive sends an ACK. OPEN_REQ with valid fields makes a challenged session with a free number; a proof
that is right opens it with its derived key, one that is not removes it and counts; a challenge or a hold that
expires removes the session; a failed session is held with its RESPONSEs queued in order. Beside its values each
such clause says what stays as it was: the registers of all other pages and the other parts of the device, but for
what events, interrupts and ledger records reach where it says Framed. -/
def Obligations.RemoteCommandTransport : Prop :=
  (∀ (s : State) (port : Nat) (b : List Byte) (y : RctIn) (z : Session) (x : Queue), rctParse b = some y →
    y.type = 0x01 → s.dev.session? y.session = some z → z.state = .opened → s.dev.portUp port = true → port < 2 →
    s.dev.stopped = false → s.dev.allAwake = true → (Crypto.hmac z.key y.covered).take 16 = y.mac →
    y.seq = z.rxNext % 2 ^ 32 → z.early = [] → z.unacked = [] → z.waiting = [] →
    s.dev.queue? z.part z.queue = some x → y.payload.length = 64 → s.dev.sqRoom z.part z.queue x = true →
    z.part = 64 → z.queue = 0 →
    adminOp (opcode ((List.range 16).map fun i => ofLe ((y.payload.drop (4 * i)).take 4))) = true →
    s.dev.hst.sessions = [(y.session, z)] →
    ∃ t, exec (.rctCommand port b) s = .next t ∧ Framed [(qmg z.part).1] { s.dev with hst := t.dev.hst } t.dev ∧
    (t.dev.part z.part).asnNext = (s.dev.part z.part).asnNext + 1 ∧ (t.dev.cmd? z.part (s.dev.part
    z.part).asnNext).map (·.entry) = some ((List.range 16).map fun i => ofLe ((y.payload.drop (4 * i)).take 4)) ∧
    (t.dev.session? y.session).map (·.rxNext) = some (z.rxNext + 1)) ∧
  (∀ (s : State) (port : Nat) (b : List Byte) (y : RctIn) (z : Session), rctParse b = some y → y.type = 0x01 →
    s.dev.session? y.session = some z → z.state = .opened → s.dev.portUp port = true → port < 2 →
    s.dev.stopped = false → s.dev.allAwake = true → (Crypto.hmac z.key y.covered).take 16 ≠ y.mac →
    exec (.rctCommand port b) s = .next (s.withDev (s.dev.bump (netPort port) Reg.NETP.MAC_FAIL_CNT))) ∧
  (∀ (s : State) (port : Nat) (b : List Byte) (y : RctIn) (z : Session) (c : Cmd), rctParse b = some y →
    y.type = 0x03 → s.dev.session? y.session = some z → z.state = .opened → s.dev.portUp port = true → port < 2 →
    s.dev.stopped = false → s.dev.allAwake = true → (Crypto.hmac z.key y.covered).take 16 = y.mac →
    y.seq = z.rxNext % 2 ^ 32 → z.early = [] → z.unacked = [] → z.waiting = [] →
    (s.dev.hst.cmds.map (·.2)).find? (fun e => e.part = z.part && e.queue = z.queue && e.cid = ofLe (y.payload.take
    2) && e.asn % 2 ^ 32 = ofLe ((y.payload.drop 4).take 4)) = some c → c.window = some (0, 8192) →
    16 < y.payload.length → y.payload.length ≤ 16 + z.dataKib * 1024 → y.payload.length < 8208 →
    ofLe ((y.payload.drop 2).take 1) = 0 → ofLe ((y.payload.drop 8).take 4) = 0 → c.rx = [] →
    s.dev.cmd? c.part c.asn = some c → s.dev.hst.sessions = [(y.session, z)] →
    ∃ t, exec (.rctData port b) s = .next t ∧ Framed [] { s.dev with hst := t.dev.hst } t.dev ∧ (t.dev.cmd? c.part
    c.asn).map (·.rx) = some ((y.payload.drop 16).zipIdx.map fun e => (e.2, e.1)) ∧ (t.dev.session? y.session).map
    (·.rxNext) = some (z.rxNext + 1)) ∧
  (∀ (s : State) (port : Nat) (b : List Byte) (y : RctIn) (z : Session), rctParse b = some y → y.type = 0x03 →
    s.dev.session? y.session = some z → z.state = .opened → s.dev.portUp port = true → port < 2 →
    s.dev.stopped = false → s.dev.allAwake = true → (Crypto.hmac z.key y.covered).take 16 ≠ y.mac →
    exec (.rctData port b) s = .next (s.withDev (s.dev.bump (netPort port) Reg.NETP.MAC_FAIL_CNT))) ∧
  (∀ (s : State) (port : Nat) (b : List Byte) (y : RctIn) (z : Session), rctParse b = some y → y.type = 0x05 →
    s.dev.session? y.session = some z → z.state = .opened → s.dev.portUp port = true → port < 2 →
    s.dev.stopped = false → s.dev.allAwake = true → (Crypto.hmac z.key y.covered).take 16 = y.mac → z.waiting = [] →
    (z.txSeq + 2 ^ 32 - y.ack) % 2 ^ 32 ≤ 256 → y.sack = 0 → z.unacked.all (fun e => e.type = 2) = true →
    ∃ t, exec (.rctAck port b) s = .next t ∧ Framed [] { s.dev with hst := t.dev.hst } t.dev ∧ (t.dev.session?
    y.session).map (fun e => e.unacked.map (·.seq)) = some ((z.unacked.filter fun e => !(1 ≤ (y.ack + 2 ^ 32 - e.seq
    % 2 ^ 32) % 2 ^ 32 && (y.ack + 2 ^ 32 - e.seq % 2 ^ 32) % 2 ^ 32 ≤ 256)).map (·.seq))) ∧
  (∀ (s : State) (port : Nat) (b : List Byte) (y : RctIn) (z : Session), rctParse b = some y → y.type = 0x05 →
    s.dev.session? y.session = some z → z.state = .opened → s.dev.portUp port = true → port < 2 →
    s.dev.stopped = false → s.dev.allAwake = true → (Crypto.hmac z.key y.covered).take 16 ≠ y.mac →
    exec (.rctAck port b) s = .next (s.withDev (s.dev.bump (netPort port) Reg.NETP.MAC_FAIL_CNT))) ∧
  (∀ (s : State) (port : Nat) (b : List Byte) (y : RctIn) (z : Session), rctParse b = some y → y.type = 0x14 →
    s.dev.session? y.session = some z → z.state = .opened → s.dev.portUp port = true → port < 2 →
    s.dev.stopped = false → s.dev.allAwake = true → (Crypto.hmac z.key y.covered).take 16 = y.mac →
    y.seq = z.rxNext % 2 ^ 32 → z.early = [] → z.unacked = [] → z.waiting = [] →
    0 < s.dev.outstanding z.part z.queue →
    ∃ t, exec (.rctClose port b) s = .next t ∧ Framed [] { s.dev with hst := t.dev.hst } t.dev ∧ (t.dev.session?
    y.session).map (fun e => (e.state, e.rxNext)) = some (.closing, z.rxNext + 1)) ∧
  (∀ (s : State) (port : Nat) (b : List Byte) (y : RctIn) (z : Session), rctParse b = some y → y.type = 0x14 →
    s.dev.session? y.session = some z → z.state = .opened → s.dev.portUp port = true → port < 2 →
    s.dev.stopped = false → s.dev.allAwake = true → (Crypto.hmac z.key y.covered).take 16 ≠ y.mac →
    exec (.rctClose port b) s = .next (s.withDev (s.dev.bump (netPort port) Reg.NETP.MAC_FAIL_CNT))) ∧
  (∀ (s : State) (id n : Nat) (z : Session) (y : RctPacket), id < 2 ^ 16 → n < 2 ^ 64 → s.dev.stopped = false →
    s.dev.session? id = some z → z.state = .opened → z.unacked.find? (fun e => e.seq = n && !e.sack) = some y →
    y.tries < 15 →
    ∃ t, exec (.rctRto id n) s = .next t ∧ Still [netPort z.port]
    { s.dev with hst := t.dev.hst, outs := t.dev.outs } t.dev ∧ t.dev.session? id = some
    { z with unacked := z.unacked.map fun e => if e.seq = n then { e with tries := e.tries + 1 } else e } ∧ t.dev.rd
    (netPort z.port) Reg.NETP.RETX_CNT = (s.dev.rd (netPort z.port) Reg.NETP.RETX_CNT + 1) % 2 ^ 32 ∧ Out.rct z.port
    z.addr (rctPacket z id y.type y.seq y.payload) ∈ t.dev.outs) ∧
  (∀ (s : State) (id n : Nat) (z : Session) (y : RctPacket), id < 2 ^ 16 → n < 2 ^ 64 → s.dev.stopped = false →
    s.dev.session? id = some z → z.state = .opened → z.unacked.find? (fun e => e.seq = n && !e.sack) = some y →
    15 ≤ y.tries →
    ∃ t, exec (.rctRto id n) s = .next t ∧ Framed [netPort z.port] { s.dev with hst := t.dev.hst } t.dev ∧
    (t.dev.session? id).map (fun e => (e.state, e.unacked, e.queued)) = some (.hold, [], ((z.unacked ++
    z.waiting).filter fun e => e.type = 4 || e.type = 3).map fun e => { e with tries := 0 })) ∧
  (∀ (s : State) (id : Nat) (z : Session), id < 2 ^ 16 → s.dev.stopped = false → s.dev.session? id = some z →
    z.state = .opened →
    ∃ t, exec (.rctKeepalive id) s = .next t ∧ Still [] { s.dev with outs := t.dev.outs } t.dev ∧ Out.rct z.port
    z.addr (rctPacket z id 5 0 []) ∈ t.dev.outs ∧ t.dev.hst = s.dev.hst) ∧
  (∀ (s : State) (port addr id : Nat) (b : List Byte) (y : RctIn), port < 2 → s.dev.stopped = false →
    s.dev.allAwake = true → rctParse b = some y → s.dev.portUp port = true → y.type = 0x10 → y.session = 0 →
    y.payload.length = 24 → 1 ≤ ofLe ((y.payload.drop 6).take 2) → ofLe ((y.payload.drop 6).take 2) ≤ 8 →
    Assoc.find s.dev.hst.ignored addr = none →
    id = freeSession (s.dev.hst.sessions.map (·.1)) (s.dev.hst.sessions.length + 1) 1 → id < 65536 →
    ∃ t, exec (.openReq port addr b) s = .next t ∧ Still []
    { s.dev with hst := t.dev.hst, outs := t.dev.outs, free := t.dev.free } t.dev ∧ (t.dev.session? id).map (fun e
    => (e.state, e.part, e.queue, e.nc)) = some (.challenged, ofLe (y.payload.take 1), ofLe ((y.payload.drop 2).take
    2), y.payload.drop 8) ∧ s.dev.session? id = none ∧ t.dev.hst.queues = s.dev.hst.queues) ∧
  (∀ (s : State) (port addr : Nat) (b : List Byte) (y : RctIn) (z : Session), port < 2 → s.dev.stopped = false →
    s.dev.allAwake = true → rctParse b = some y → s.dev.session? y.session = some z → s.dev.portUp port = true →
    y.type = 0x12 → z.state = .challenged → y.payload.length = 32 → s.dev.proofResult y.session z y.payload = 0 →
    (z.queue ≠ 0 ∨ (s.dev.part z.part).evt = none ∧ (s.dev.part z.part).ast = none) →
    s.dev.hst.sessions.any (fun e => e.2.part = z.part && e.2.queue = z.queue && e.2.state = .hold) = false →
    ∃ t, exec (.openProve port addr b) s = .next t ∧ Framed [] { s.dev with hst := t.dev.hst } t.dev ∧
    (t.dev.session? y.session).map (fun e => (e.state, e.port, e.addr)) = some (.opened, port, addr) ∧
    (t.dev.session? y.session).map (·.key) = some (Crypto.hmac ((s.dev.part z.part).key.getD []) (ascii "RCT-K" ++
    z.nc ++ z.nd ++ leBytes 2 y.session))) ∧
  (∀ (s : State) (port addr : Nat) (b : List Byte) (y : RctIn) (z : Session), port < 2 → s.dev.stopped = false →
    s.dev.allAwake = true → rctParse b = some y → s.dev.session? y.session = some z → s.dev.portUp port = true →
    y.type = 0x12 → z.state = .challenged → y.payload.length = 32 → s.dev.proofResult y.session z y.payload = 1 →
    ∃ t, exec (.openProve port addr b) s = .next t ∧ Framed [netPort port] { s.dev with hst := t.dev.hst } t.dev ∧
    t.dev.session? y.session = none ∧ t.dev.rd (netPort port) Reg.NETP.AUTH_FAIL_CNT = min (s.dev.rd (netPort port)
    Reg.NETP.AUTH_FAIL_CNT + 1) (2 ^ Reg.NETP.AUTH_FAIL_CNT.width - 1)) ∧
  (∀ (s : State) (id : Nat) (z : Session), id < 2 ^ 16 → Ready s.dev = true → s.dev.session? id = some z →
    z.state = .challenged →
    ∃ t, exec (.challengeExpiry id) s = .next t ∧ Still [] { s.dev with hst := t.dev.hst } t.dev ∧ t.dev.session? id
    = none ∧ t.dev.regs = s.dev.regs) ∧
  (∀ (s : State) (id : Nat) (z : Session), id < 2 ^ 16 → Ready s.dev = true → s.dev.session? id = some z →
    z.state = .opened →
    ∃ t, exec (.sessionTimeout id) s = .next t ∧ Framed [netPort z.port] { s.dev with hst := t.dev.hst } t.dev ∧
    (t.dev.session? id).map (fun e => (e.state, e.unacked, e.queued)) = some (.hold, [], ((z.unacked ++
    z.waiting).filter fun e => e.type = 4 || e.type = 3).map fun e => { e with tries := 0 }) ∧ bitAt (t.dev.rd
    (netPort z.port) Reg.HDR.INT_STAT) 1 = true) ∧
  (∀ (s : State) (id : Nat) (z : Session), id < 2 ^ 16 → Ready s.dev = true → s.dev.session? id = some z →
    z.state = .hold →
    ∃ t, exec (.responseHoldExpiry id) s = .next t ∧ Framed [] { s.dev with hst := t.dev.hst } t.dev ∧
    t.dev.session? id = none)

/-- EN = 1 on a stopped flow is taken when the flow fits its reservation and the sub-interfaces of its paths, and
RATE_MBPS shows its rate, else only ERR_STAT bit 0 is set; EN = 0 stops the sender; at a frame-period instant the
waiting frame is sent and the sequence number goes on by its packets, at shed level 3 it is given up and counted.
Beside its values each such clause says what stays as it was: the registers of all other pages and the other parts
of the device, but for what events, interrupts and ledger records reach where it says Framed. -/
def Obligations.Flows : Prop :=
  (∀ (s : State) (f w v : Nat), f < 64 → w < 48 → v < 2 ^ 32 →
    Taken s.dev f (flowAt w).1 (0x400 + 0x40 * (flowAt w).2) = true → s.dev.flw w Reg.NETF.EN = 0 → bits v 0 1 = 1 →
    ([(Reg.NETF.EN, 0, 1), (Reg.NETF.DUAL, 1, 1), (Reg.NETF.ANC, 2, 1), (Reg.NETF.TPW, 3, 1), (Reg.NETF.FORMAT, 4,
    4), (Reg.NETF.PORT_A, 8, 1), (Reg.NETF.SUBIF_A, 10, 2), (Reg.NETF.SUBIF_B, 12, 2)].foldl (fun y e => y.wr
    (flowAt w).1 e.1 (bits v e.2.1 e.2.2) (flowAt w).2) s.dev).flowFits w = true →
    ∃ t, exec (.flowEnable f w v) s = .next t ∧ Framed [(flowAt w).1] s.dev t.dev ∧ t.dev.flw w Reg.NETF.EN = 1 ∧
    t.dev.flw w Reg.NETF.FORMAT = bits v 4 4 ∧ t.dev.flw w Reg.NETF.RATE_MBPS = ((([(Reg.NETF.EN, 0, 1),
    (Reg.NETF.DUAL, 1, 1), (Reg.NETF.ANC, 2, 1), (Reg.NETF.TPW, 3, 1), (Reg.NETF.FORMAT, 4, 4), (Reg.NETF.PORT_A, 8,
    1), (Reg.NETF.SUBIF_A, 10, 2), (Reg.NETF.SUBIF_B, 12, 2)].foldl (fun y e => y.wr (flowAt w).1 e.1 (bits v e.2.1
    e.2.2) (flowAt w).2) s.dev).flowRate w).1 / ((([(Reg.NETF.EN, 0, 1), (Reg.NETF.DUAL, 1, 1), (Reg.NETF.ANC, 2,
    1), (Reg.NETF.TPW, 3, 1), (Reg.NETF.FORMAT, 4, 4), (Reg.NETF.PORT_A, 8, 1), (Reg.NETF.SUBIF_A, 10, 2),
    (Reg.NETF.SUBIF_B, 12, 2)].foldl (fun y e => y.wr (flowAt w).1 e.1 (bits v e.2.1 e.2.2) (flowAt w).2)
    s.dev).flowRate w).2 * 10 ^ 6)) % 2 ^ Reg.NETF.RATE_MBPS.width) ∧
  (∀ (s : State) (f w v : Nat), f < 64 → w < 48 → v < 2 ^ 32 →
    Taken s.dev f (flowAt w).1 (0x400 + 0x40 * (flowAt w).2) = true → s.dev.flw w Reg.NETF.EN = 0 → bits v 0 1 = 1 →
    ([(Reg.NETF.EN, 0, 1), (Reg.NETF.DUAL, 1, 1), (Reg.NETF.ANC, 2, 1), (Reg.NETF.TPW, 3, 1), (Reg.NETF.FORMAT, 4,
    4), (Reg.NETF.PORT_A, 8, 1), (Reg.NETF.SUBIF_A, 10, 2), (Reg.NETF.SUBIF_B, 12, 2)].foldl (fun y e => y.wr
    (flowAt w).1 e.1 (bits v e.2.1 e.2.2) (flowAt w).2) s.dev).flowFits w = false →
    ∃ t, exec (.flowEnable f w v) s = .next t ∧ Framed [(flowAt w).1] s.dev t.dev ∧ t.dev.flw w Reg.NETF.EN = 0 ∧
    t.dev.flw w Reg.NETF.FORMAT = s.dev.flw w Reg.NETF.FORMAT ∧ bitAt (t.dev.rd (flowAt w).1 Reg.HDR.ERR_STAT) 0 =
    true) ∧
  (∀ (s : State) (f w v : Nat), f < 64 → w < 48 → v < 2 ^ 32 →
    Taken s.dev f (flowAt w).1 (0x400 + 0x40 * (flowAt w).2) = true → s.dev.flw w Reg.NETF.EN = 1 → bits v 0 1 = 0 →
    ∃ t, exec (.flowEnable f w v) s = .next t ∧ Framed [(flowAt w).1] { s.dev with hst := t.dev.hst } t.dev ∧
    t.dev.flw w Reg.NETF.EN = 0 ∧ ((Assoc.find t.dev.hst.flows w).bind (·.next)) = none) ∧
  (∀ (s : State) (w : Nat) (x : Flow) (o : Render.Output) (b : List Byte), w < 48 → Ready s.dev = true →
    s.dev.allAwake = true → Assoc.find s.dev.hst.flows w = some x → x.next = some (o, b) →
    s.dev.flw w Reg.NETF.EN = 1 → s.dev.works (flowAt w).1 = true → s.dev.shed < 3 →
    ∃ t, exec (.flowFrameStart w) s = .next t ∧ Framed ([(flowAt w).1] ++ (List.range 4).map Pg.NET)
    { s.dev with hst := t.dev.hst } t.dev ∧ (Assoc.find t.dev.hst.flows w).map (fun y => (y.next.isSome, y.seq)) =
    some (false, (x.seq + (s.dev.videoPackets w o (((ofLe ((b.drop 0xA0).take 6)) * 10 ^ 9 + ofLe ((b.drop
    0xA6).take 4)) * 9 / 10 ^ 5 % 2 ^ 32) x.seq).length) % 2 ^ 32)) ∧
  (∀ (s : State) (w : Nat) (x : Flow) (o : Render.Output) (b : List Byte), w < 48 → Ready s.dev = true →
    s.dev.allAwake = true → Assoc.find s.dev.hst.flows w = some x → x.next = some (o, b) →
    s.dev.flw w Reg.NETF.EN = 1 → s.dev.works (flowAt w).1 = true → 3 ≤ s.dev.shed →
    ∃ t, exec (.flowFrameStart w) s = .next t ∧ Still [(flowAt w).1] { s.dev with hst := t.dev.hst } t.dev ∧
    Assoc.find t.dev.hst.flows w = some { x with next := none } ∧ t.dev.flw w Reg.NETF.GIVEUP_CNT = min (s.dev.flw w
    Reg.NETF.GIVEUP_CNT + 1) (2 ^ Reg.NETF.GIVEUP_CNT.width - 1))

/-- A valid PARTITION_CONFIG without key or reset sets ENABLE and the vector count of the next VF enable and
completes; with SET_KEY its key moves first; an invalid one changes no partition and completes; with RESET the
partition is reset, which counts, records the cause and takes its queues away. IDENTIFY, LOG_READ of a log that
exists and a RETURN_CAPTURE with room start moving their data; a page moves to the partition that PAGE_OWNER
names; VF_ENABLE sets the number of functions and their vector counts. A valid assignment of queue pairs sets the
quota; of a context, rendition or other object its owner and reservation. ABORT completes the caught command and
itself, and alone where none matches. A reply that governs takes the request away; one to an unknown tag changes
nothing but its completion; a request that reaches its deadline is taken away and counted, and with FALLBACK the
page leaves host-assisted mode. The end of a parameter WRITE transfer puts the host's bytes into the shadow bank,
but for reserved bits. Beside its values each such clause says what stays as it was: the registers of all other
pages and the other parts of the device, but for what events, interrupts and ledger records reach where it says
Framed. -/
def Obligations.PartitionAdministration : Prop :=
  (∀ (s : State) (p asn : Nat) (hv : HostView) (c : Cmd), p < 128 → asn < 2 ^ 64 →
    Starts (s.dev.see hv) p asn 0x03 c = true →
    ∃ t, exec (.identify p asn hv) s = .next t ∧ Framed []
    { s.dev with hst := t.dev.hst, hostFails := t.dev.hostFails, vectorsOff := t.dev.vectorsOff } t.dev ∧ t.dev.regs
    = s.dev.regs ∧ (t.dev.cmd? p asn).map (·.phase) = some .moving) ∧
  (∀ (s : State) (p asn : Nat) (hv : HostView) (c : Cmd), p < 128 → asn < 2 ^ 64 →
    Starts (s.dev.see hv) p asn 0x04 c = true → 1 ≤ sf c.entry 8 0 8 → sf c.entry 8 0 8 ≤ 3 →
    ∃ t, exec (.logRead p asn hv) s = .next t ∧ Framed []
    { s.dev with hst := t.dev.hst, hostFails := t.dev.hostFails, vectorsOff := t.dev.vectorsOff } t.dev ∧ t.dev.regs
    = s.dev.regs ∧ (t.dev.cmd? p asn).map (·.phase) = some .moving) ∧
  (∀ (s : State) (p asn : Nat) (hv : HostView) (c : Cmd), p < 128 → asn < 2 ^ 64 →
    Starts (s.dev.see hv) p asn 0x0A c = true → pcKey c = false → pcReset c = false → s.dev.pcValid c = true →
    ∃ t, exec (.partitionConfig p asn hv) s = .next t ∧ Framed []
    { s.dev with hst := t.dev.hst, hostFails := t.dev.hostFails, vectorsOff := t.dev.vectorsOff } t.dev ∧
    ((t.dev.part (pcPart c)).enable = decide (sf c.entry 8 0 1 = 1) ∧ (pcVectors c ≠ 0 → (t.dev.part (pcPart
    c)).msixNext = pcVectors c) ∧ (pcSessions c ≠ 0 → (t.dev.part (pcPart c)).maxSessions = pcSessions c) ∧
    t.dev.cmd? p asn = none)) ∧
  (∀ (s : State) (p asn : Nat) (hv : HostView) (c : Cmd), p < 128 → asn < 2 ^ 64 →
    Starts (s.dev.see hv) p asn 0x0A c = true → pcKey c = false → pcReset c = false → s.dev.pcValid c = false →
    ∃ t, exec (.partitionConfig p asn hv) s = .next t ∧ Framed []
    { s.dev with hst := t.dev.hst, hostFails := t.dev.hostFails, vectorsOff := t.dev.vectorsOff } t.dev ∧
    (t.dev.part (pcPart c)).msixNext = (s.dev.part (pcPart c)).msixNext ∧ t.dev.cmd? p asn = none) ∧
  (∀ (s : State) (p asn : Nat) (hv : HostView) (c : Cmd), p < 128 → asn < 2 ^ 64 →
    Starts (s.dev.see hv) p asn 0x0A c = true → pcKey c = true → s.dev.pcValid c = true →
    ∃ t, exec (.partitionSetKey p asn hv) s = .next t ∧ Framed []
    { s.dev with hst := t.dev.hst, hostFails := t.dev.hostFails, vectorsOff := t.dev.vectorsOff } t.dev ∧
    t.dev.hst.parts = s.dev.hst.parts ∧ (t.dev.cmd? p asn).map (·.phase) = some .moving) ∧
  (∀ (s : State) (p asn : Nat) (hv : HostView) (c : Cmd), p < 128 → asn < 2 ^ 64 →
    Starts (s.dev.see hv) p asn 0x0A c = true → pcKey c = false → pcReset c = true → s.dev.pcValid c = true →
    pcPart c ≠ c.part → s.dev.pip.assists = [] →
    ∃ t, exec (.partitionReset p asn hv) s = .next t ∧ t.dev.rd Pg.RST Reg.RST.PART_RESET_CNT = (s.dev.rd Pg.RST
    Reg.RST.PART_RESET_CNT + 1) % 2 ^ Reg.RST.PART_RESET_CNT.width ∧ t.dev.rd Pg.RST Reg.RST.LAST_PART = pcPart c ∧
    t.dev.rd Pg.RST Reg.RST.LAST_PART_CAUSE = 1 ∧ bitAt (t.dev.rd Pg.RST Reg.HDR.INT_STAT) 0 = true ∧ (pcPart c < 64
    → t.dev.hst.queues.all (fun y => y.1 / 65536 ≠ pcPart c) = true) ∧ t.dev.cmd? p asn = none) ∧
  (∀ (s : State) (p asn : Nat) (hv : HostView) (c : Cmd), p < 128 → asn < 2 ^ 64 →
    Starts (s.dev.see hv) p asn 0x0D c = true → s.dev.returnSize ≤ dwAt c.entry 6 →
    ∃ t, exec (.returnCapture p asn hv) s = .next t ∧ Framed []
    { s.dev with hst := t.dev.hst, hostFails := t.dev.hostFails, vectorsOff := t.dev.vectorsOff } t.dev ∧ t.dev.jnl
    = s.dev.jnl ∧ (t.dev.cmd? p asn).map (·.phase) = some .moving) ∧
  (∀ (s : State) (p asn : Nat) (hv : HostView) (c : Cmd), p < 128 → asn < 2 ^ 64 →
    Starts (s.dev.see hv) p asn 0x0D c = true → dwAt c.entry 6 < s.dev.returnSize →
    ∃ t, exec (.returnCapture p asn hv) s = .next t ∧ Framed []
    { s.dev with hst := t.dev.hst, hostFails := t.dev.hostFails, vectorsOff := t.dev.vectorsOff } t.dev ∧
    t.dev.jnl.lastReturn = s.dev.jnl.lastReturn ∧ t.dev.cmd? p asn = none) ∧
  (∀ (s : State) (f pg v : Nat), f < 64 → pg < 256 → v < 2 ^ 32 → Taken s.dev f pg 0xC = true → Pg.ownKind pg = 1 →
    v % 128 < 64 → s.dev.pip.assists = [] →
    ∃ t, exec (.pageOwner f pg v) s = .next t ∧ Framed [pg] { s.dev with act := t.dev.act } t.dev ∧ t.dev.rd pg
    Reg.HDR.OWNER = v % 128) ∧
  (∀ (s : State) (n : Nat), n < 64 → s.dev.stopped = false → s.dev.hostLink = true → s.dev.running = true →
    ∃ t, exec (.vfEnable n) s = .next t ∧ Still [] { s.dev with hst := t.dev.hst } t.dev ∧ t.dev.hst.numVfs = n ∧
    t.dev.regs = s.dev.regs ∧ (seqFrom 1 n).all (fun q => (t.dev.part q).msix = (s.dev.part q).msixNext) = true) ∧
  (∀ (s : State) (p asn : Nat) (hv : HostView) (c : Cmd), p < 128 → asn < 2 ^ 64 →
    Starts (s.dev.see hv) p asn 0x0B c = true → sf c.entry 8 0 4 = 5 →
    s.dev.assignField (sf c.entry 1 0 7) 5 (sf c.entry 8 16 16) (dwAt c.entry 9) = false →
    s.dev.assignBusy (sf c.entry 1 0 7) 5 (sf c.entry 8 16 16) (dwAt c.entry 9) = false →
    s.dev.assignOver (sf c.entry 1 0 7) 5 (sf c.entry 8 16 16) (dwAt c.entry 9) = false →
    ∃ t, exec (.resourceAssign p asn hv) s = .next t ∧ Framed [(qmg (sf c.entry 1 0 7)).1]
    { s.dev with hst := t.dev.hst, hostFails := t.dev.hostFails, vectorsOff := t.dev.vectorsOff } t.dev ∧ t.dev.rd
    (qmg (sf c.entry 1 0 7)).1 Reg.QMG.QUOTA (qmg (sf c.entry 1 0 7)).2 = dwAt c.entry 9 ∧ t.dev.cmd? p asn = none) ∧
  (∀ (s : State) (p asn : Nat) (hv : HostView) (c : Cmd), p < 128 → asn < 2 ^ 64 →
    Starts (s.dev.see hv) p asn 0x0B c = true → sf c.entry 8 0 4 ∉ [5, 6, 12, 13] →
    s.dev.assignField (sf c.entry 1 0 7) (sf c.entry 8 0 4) (sf c.entry 8 16 16) (dwAt c.entry 9) = false →
    s.dev.assignBusy (sf c.entry 1 0 7) (sf c.entry 8 0 4) (sf c.entry 8 16 16) (dwAt c.entry 9) = false →
    s.dev.assignOver (sf c.entry 1 0 7) (sf c.entry 8 0 4) (sf c.entry 8 16 16) (dwAt c.entry 9) = false →
    s.dev.pip.assists = [] →
    ∃ t, exec (.resourceAssign p asn hv) s = .next t ∧ Framed []
    { s.dev with hst := t.dev.hst, hostFails := t.dev.hostFails, vectorsOff := t.dev.vectorsOff, cap := t.dev.cap, pip := t.dev.pip }
    t.dev ∧ t.dev.ownerOf (sf c.entry 8 0 4) (sf c.entry 8 16 16) = sf c.entry 1 0 7 ∧ t.dev.reserved (sf c.entry 8
    0 4) (sf c.entry 8 16 16) = dwAt c.entry 9 ∧ t.dev.cmd? p asn = none) ∧
  (∀ (s : State) (p asn : Nat) (hv : HostView) (c : Cmd), p < 128 → asn < 2 ^ 64 →
    Starts (s.dev.see hv) p asn 0x0E c = true →
    (s.dev.cmdsOf p).filter (fun y => y.queue = sf c.entry 8 0 16 && y.cid = sf c.entry 8 16 16 && y.asn ≠ asn) = []
    → exec (.abort p asn hv) s = .next (s.withDev ((s.dev.see hv).succeed c 0))) ∧
  (∀ (s : State) (p asn : Nat) (hv : HostView) (c : Cmd) (y : Cmd), p < 128 → asn < 2 ^ 64 →
    Starts (s.dev.see hv) p asn 0x0E c = true →
    (s.dev.cmdsOf p).filter (fun z => z.queue = sf c.entry 8 0 16 && z.cid = sf c.entry 8 16 16 && z.asn ≠ asn) =
    [y] → y.queue ≠ 0 → y.phase = .waiting → opcode y.entry = 0x82 → s.dev.cmd? y.part y.asn = some y →
    ∃ t, exec (.abort p asn hv) s = .next t ∧ Framed []
    { s.dev with hst := t.dev.hst, hostFails := t.dev.hostFails, vectorsOff := t.dev.vectorsOff } t.dev ∧ t.dev.cmd?
    y.part y.asn = none ∧ t.dev.cmd? p asn = none) ∧
  (∀ (s : State) (p asn : Nat) (hv : HostView) (c : Cmd) (a : Assist), p < 128 → asn < 2 ^ 64 →
    Starts (s.dev.see hv) p asn 0x98 c = true →
    (s.dev.pip.assists.find? fun y => y.part = p && y.tag = sf c.entry 1 0 16 && y.func = sf c.entry 1 16 8) = some
    a → a.func = 8 → replyClear 8 (fun i => dwAt c.entry (8 + i)) = true → bitAt (dwAt c.entry 8) 0 = false →
    1 ≤ sf c.entry 9 0 3 → sf c.entry 9 0 3 ≤ s.dev.permitted a.object → s.dev.powerState a.object = 1 →
    Assoc.find s.dev.pow.leaving a.object = none → Assoc.find s.dev.pow.entering a.object = none →
    ∃ t, exec (.assistReply p asn hv) s = .next t ∧ Framed []
    { s.dev with hst := t.dev.hst, hostFails := t.dev.hostFails, vectorsOff := t.dev.vectorsOff, pip := t.dev.pip, pow := t.dev.pow }
    t.dev ∧ t.dev.pip.assists = s.dev.pip.assists.filter fun y => !(y.part = a.part && y.tag = a.tag) ∧
    t.dev.powerState a.object = 1 ∧ (Assoc.find t.dev.pow.entering a.object).getD 1 = sf c.entry 9 0 3 ∧ t.dev.cmd?
    p asn = none) ∧
  (∀ (s : State) (p asn : Nat) (hv : HostView) (c : Cmd) (a : Assist), p < 128 → asn < 2 ^ 64 →
    Starts (s.dev.see hv) p asn 0x98 c = true →
    (s.dev.pip.assists.find? fun y => y.part = p && y.tag = sf c.entry 1 0 16 && y.func = sf c.entry 1 16 8) = some
    a → a.func = 5 → bitAt (dwAt c.entry 8) 0 = true →
    ∃ t, exec (.assistReply p asn hv) s = .next t ∧ Framed []
    { s.dev with hst := t.dev.hst, hostFails := t.dev.hostFails, vectorsOff := t.dev.vectorsOff, pip := t.dev.pip }
    t.dev ∧ t.dev.pip.assists = s.dev.pip.assists.filter fun y => !(y.part = a.part && y.tag = a.tag) ∧ t.dev.cap =
    s.dev.cap ∧ t.dev.cmd? p asn = none) ∧
  (∀ (s : State) (p asn : Nat) (hv : HostView) (c : Cmd), p < 128 → asn < 2 ^ 64 →
    Starts (s.dev.see hv) p asn 0x98 c = true →
    (s.dev.pip.assists.find? fun y => y.part = p && y.tag = sf c.entry 1 0 16 && y.func = sf c.entry 1 16 8) = none
    →
    (s.dev.pip.resolved.find? fun y => y.1 = p && y.2.1 = sf c.entry 1 0 16 && y.2.2.1 = sf c.entry 1 16 8) = none →
    exec (.assistReply p asn hv) s = .next (s.withDev ((s.dev.see hv).complete c ASSIST_TAG))) ∧
  (∀ (s : State) (part tag : Nat) (a : Assist), part < 128 → tag < 65536 → Ready s.dev = true →
    (s.dev.pip.assists.find? fun y => y.part = part && y.tag = tag) = some a → a.func = 5 →
    s.dev.on a.page Reg.HDR.FALLBACK = false →
    ∃ t, exec (.assistDeadline part tag) s = .next t ∧ Still [a.page] { s.dev with pip := t.dev.pip } t.dev ∧
    t.dev.pip.assists = s.dev.pip.assists.filter fun y => !(y.part = a.part && y.tag = a.tag) ∧ (part, tag, a.func,
    a.page, Resolved.late) ∈ t.dev.pip.resolved ∧ t.dev.rd a.page Reg.HDR.TIMEOUT_CNT = min (s.dev.rd a.page
    Reg.HDR.TIMEOUT_CNT + 1) (2 ^ Reg.HDR.TIMEOUT_CNT.width - 1) ∧ t.dev.cap = s.dev.cap) ∧
  (∀ (s : State) (part tag : Nat) (a : Assist), part < 128 → tag < 65536 → Ready s.dev = true →
    (s.dev.pip.assists.find? fun y => y.part = part && y.tag = tag) = some a → a.func = 5 →
    s.dev.on a.page Reg.HDR.FALLBACK = true →
    s.dev.pip.assists.all (fun y => y.page ≠ a.page || (y.part = part && y.tag = tag)) = true →
    ∃ t, exec (.assistDeadline part tag) s = .next t ∧ Framed [a.page] { s.dev with pip := t.dev.pip } t.dev ∧
    t.dev.pip.assists = s.dev.pip.assists.filter fun y => !(y.part = a.part && y.tag = a.tag) ∧ t.dev.rd a.page
    Reg.HDR.MODE = 0 ∧ t.dev.rd a.page Reg.HDR.TIMEOUT_CNT = min (s.dev.rd a.page Reg.HDR.TIMEOUT_CNT + 1) (2 ^
    Reg.HDR.TIMEOUT_CNT.width - 1)) ∧
  (∀ (s : State) (p asn luma k : Nat) (hv : HostView) (c : Cmd), p < 128 → asn < 2 ^ 64 →
    Moves (s.dev.see hv) p asn 0x81 c = true → p < 64 → luma < 2 ^ 64 → sf c.entry 8 0 2 = 1 →
    sf c.entry 0 8 1 = 0 → k = dwAt c.entry 1 → (s.dev.see hv).hostOk p (dw64 c.entry 2) (dwAt c.entry 6) = true →
    k * 0x40000 + 0x1000 ≤ dw64 c.entry 10 → dw64 c.entry 10 + dwAt c.entry 6 ≤ k * 0x40000 + 0x20000 →
    ∃ t, exec (.dataTransferEnd p asn hv luma) s = .next t ∧ Framed []
    { s.dev with hst := t.dev.hst, hostFails := t.dev.hostFails, vectorsOff := t.dev.vectorsOff, cap := t.dev.cap }
    t.dev ∧ ((seqFrom (paramOff c) (dwAt c.entry 6)).map fun i => t.dev.paramByte k i) = ((s.dev.see hv).hostRead p
    (dw64 c.entry 2) (dwAt c.entry 6)).zipIdx.map (fun e => e.1 &&& BitVec.ofNat 8 (Pb.mask ((paramOff c + e.2) / 4)
    / 2 ^ (8 * ((paramOff c + e.2) % 4)))) ∧ t.dev.cmd? p asn = none)

/-- An idle group enters the deepest permitted state that fits the time to its next event: PS1 at once, a deeper one
through PS1, and stays in PS0 when none fits. The end of an entry makes the target the state; the end of an exit
puts the group into PS0 and shows what it left. A due calendar entry starts the exit. GRP_MAX takes its value but
for group 0. Entry into Keep takes the links down and counts; a wake cancels it, or starts the exit. Beside its
values each such clause says what stays as it was: the registers of all other pages and the other parts of the
device, but for what events, interrupts and ledger records reach where it says Framed. -/
def Obligations.PowerStates : Prop :=
  (∀ (s : State) (g x : Nat) (l : List (Nat × Nat)), 0 < g → g < 32 → s.dev.stopped = false → s.dev.keep = false →
    s.dev.powerState g = 0 → Assoc.has s.dev.pow.groups g = false → Assoc.has s.dev.pow.entering 32 = false →
    (groupPages g).any s.dev.busy = false → s.dev.assisted Pg.PWR = false →
    x = (s.dev.calendarShow l).chooseState g (((s.dev.calendarShow l).nextEvent g l).map fun y => y - s.dev.ns) →
    ∃ t, exec (.groupIdle g l) s = .next t ∧ Still [Pg.PWR] { s.dev with pow := t.dev.pow } t.dev ∧
    (t.dev.powerState g = min x 1 ∧ (2 ≤ x → Assoc.find t.dev.pow.entering g = some x) ∧ t.dev.rd Pg.PWR
    Reg.PWR.CAL_USED = min (s.dev.allEvents l).length 256 ∧ t.dev.cap = s.dev.cap ∧ t.dev.pip = s.dev.pip)) ∧
  (∀ (s : State) (g u x : Nat) (l : List (Nat × Nat)), g < 32 → s.dev.stopped = false →
    Assoc.find s.dev.pow.groups g = some x → Assoc.has s.dev.pow.entering g = false →
    Assoc.has s.dev.pow.leaving g = false → (s.dev.calendarShow l).nextEvent g l = some u →
    u ≤ s.dev.ns + s.dev.guardNs + s.dev.exitNs x →
    ∃ t, exec (.calendarEntryDue g l) s = .next t ∧ Still [Pg.PWR] { s.dev with pow := t.dev.pow } t.dev ∧
    Assoc.find t.dev.pow.leaving g = some ⟨x, 0, s.dev.elapsed, some u⟩ ∧ t.dev.pow.groups = s.dev.pow.groups) ∧
  (∀ (s : State) (g x : Nat), g ≤ 32 → s.dev.stopped = false → Assoc.find s.dev.pow.entering g = some x → 1 ≤ x →
    x ≤ 3 →
    ∃ t, exec (.powerStateEntryEnd g) s = .next t ∧ Still ([] ++ groupPages g)
    { s.dev with pow := t.dev.pow, act := t.dev.act } t.dev ∧ t.dev.powerState g = x ∧ Assoc.has t.dev.pow.entering
    g = false ∧ t.dev.cap = s.dev.cap ∧ t.dev.pip = s.dev.pip) ∧
  (∀ (s : State) (g : Nat), g = 32 → s.dev.stopped = false → Assoc.find s.dev.pow.entering g = some 4 →
    ∃ t, exec (.powerStateEntryEnd g) s = .next t ∧ t.dev.pow.groups = [(32, 4)] ∧ t.dev.keep = true ∧
    t.dev.pip.bufs = [] ∧ t.dev.pip.takes = s.dev.pip.takes ∧ t.dev.hst = s.dev.hst ∧ t.dev.jnl = s.dev.jnl) ∧
  (∀ (s : State) (g : Nat) (x : PowerExit), g < 32 → s.dev.stopped = false →
    Assoc.find s.dev.pow.leaving g = some x → x.state ≤ 4 → x.reason < 8 → x.due = none →
    ∃ t, exec (.powerStateExitEnd g) s = .next t ∧ Framed ([Pg.PWR] ++ groupPages g) { s.dev with pow := t.dev.pow }
    t.dev ∧ Assoc.has t.dev.pow.groups g = false ∧ Assoc.has t.dev.pow.leaving g = false ∧ t.dev.rd Pg.PWR
    Reg.PWR.LAST_STATE = x.state ∧ t.dev.rd Pg.PWR Reg.PWR.LAST_GROUP = g ∧ t.dev.rd Pg.PWR Reg.PWR.LAST_REASON =
    x.reason ∧ t.dev.cap = s.dev.cap) ∧
  (∀ (s : State) (x : PowerExit), s.dev.stopped = false → Assoc.find s.dev.pow.leaving 32 = some x → x.state ≤ 4 →
    x.reason < 8 → x.due = none →
    ∃ t, exec (.powerStateExitEnd 32) s = .next t ∧ Framed ([Pg.PWR] ++ (List.range 4).map Pg.HBM)
    { s.dev with pow := t.dev.pow } t.dev ∧ Assoc.has t.dev.pow.groups 32 = false ∧ Assoc.has t.dev.pow.leaving 32 =
    false ∧ t.dev.rd Pg.PWR Reg.PWR.LAST_STATE = x.state ∧ t.dev.rd Pg.PWR Reg.PWR.LAST_GROUP = 31 ∧ bitAt (t.dev.rd
    Pg.PWR Reg.HDR.INT_STAT) 0 = true) ∧
  (∀ (s : State) (g u : Nat) (x : PowerExit), g < 32 → s.dev.stopped = false →
    Assoc.find s.dev.pow.leaving g = some x → x.due = some u → u < s.dev.ns →
    ∃ t, exec (.powerStateExitEnd g) s = .next t ∧ Framed ([Pg.PWR] ++ groupPages g) { s.dev with pow := t.dev.pow }
    t.dev ∧ t.dev.rd Pg.PWR Reg.PWR.LATE_WAKE_CNT = min (s.dev.rd Pg.PWR Reg.PWR.LATE_WAKE_CNT + 1) (2 ^
    Reg.PWR.LATE_WAKE_CNT.width - 1) ∧ bitAt (t.dev.rd Pg.PWR Reg.HDR.INT_STAT) 1 = true ∧ Assoc.has
    t.dev.pow.groups g = false) ∧
  (∀ (s : State) (f k v : Nat), f < 64 → k < 4 → v < 2 ^ 32 → Taken s.dev f Pg.PWR (0x120 + 4 * k) = true →
    ∃ t, exec (.grpMax f k v) s = .next t ∧ Framed [Pg.PWR] { s.dev with pow := t.dev.pow } t.dev ∧ t.dev.rd Pg.PWR
    Reg.PWR.GRP_MAX k = (v &&& (if k = 0 then 0x77777770 else 0x77777777)) ∧ t.dev.pow.groups = [] ∧
    t.dev.pow.leaving = s.dev.pow.leaving) ∧
  (∀ (s : State) (l : List (Nat × Nat)), s.dev.stopped = false → s.dev.keep = false →
    Assoc.has s.dev.pow.entering 32 = false → (s.dev.calendarShow l).keepOk l = true →
    ∃ t, exec (.keepEntry l) s = .next t ∧ Framed ([Pg.PWR] ++ (List.range 4).map Pg.NET ++ Pg.sets)
    { s.dev with pow := t.dev.pow } t.dev ∧ Assoc.find t.dev.pow.entering 32 = some 4 ∧ t.dev.rd Pg.PWR
    Reg.PWR.KEEP_CNT = (s.dev.rd Pg.PWR Reg.PWR.KEEP_CNT + 1) % 2 ^ 32 ∧ t.dev.rd (Pg.NET 0) Reg.NETP.LINK_UP = 0 ∧
    t.dev.rd (Pg.NET 2) Reg.NETP.LINK_UP = 0 ∧ (List.range 8).all (fun n => t.dev.rd (Pg.MAG n) Reg.MAG.LINK_WIDTH =
    0) = true) ∧
  (∀ (s : State) (r : Nat), r < 8 → s.dev.stopped = false → Assoc.has s.dev.pow.entering 32 = false →
    Assoc.find s.dev.pow.groups 32 = some 4 → Assoc.has s.dev.pow.leaving 32 = false →
    ∃ t, exec (.keepWake r) s = .next t ∧ Still [] { s.dev with pow := t.dev.pow } t.dev ∧ Assoc.find
    t.dev.pow.leaving 32 = some ⟨4, r, s.dev.elapsed, none⟩ ∧ t.dev.keep = true ∧ t.dev.regs = s.dev.regs) ∧
  (∀ (s : State) (r : Nat), r < 8 → s.dev.stopped = false → Assoc.find s.dev.pow.entering 32 = some 4 →
    ∃ t, exec (.keepWake r) s = .next t ∧ Still [] { s.dev with pow := t.dev.pow } t.dev ∧ Assoc.has
    t.dev.pow.entering 32 = false ∧ Assoc.has t.dev.pow.groups 32 = false ∧ t.dev.regs = s.dev.regs)

/-- A sample below every trip threshold makes each powered sensor that is not broken show its reading; one at TRIP_C
or above in level mode trips the device: a record is kept, THERM_TRIP_N goes low and every clock stops. A hot
group's throttle level rises by one step, a cool one's falls by one; the shed level rises while a hot group is at
level 10 or cannot be throttled, and falls by one when none is. A TJ_FAIL within its limits is taken, another is
ignored. Beside its values each such clause says what stays as it was: the registers of all other pages and the
other parts of the device, but for what events, interrupts and ledger records reach where it says Framed. -/
def Obligations.Thermal : Prop :=
  (∀ (s : State) (l : List (Option Int)) (i : Nat) (x : Int), l.length = 61 → l.all (fun y => y.isSome) = true →
    l.all (fun y => decide (-880 ≤ y.getD 0) && decide (y.getD 0 < 16 * (s.dev.rd Pg.THM Reg.THM.TRIP_C : Int)) &&
    decide (y.getD 0 < 2240)) = true → s.dev.rd Pg.THM Reg.THM.TRIP_MODE = 0 → s.dev.stopped = false →
    s.dev.allAwake = true → i < 61 → l[i]? = some (some x) → s.dev.brokenSensor i = false →
    (s.dev.sensor i).code ≠ some x →
    ∃ t, exec (.sensorSample l) s = .next t ∧ Framed ([Pg.THM] ++ (List.range 4).map Pg.HBM)
    { s.dev with pow := t.dev.pow } t.dev ∧ s.dev.stopped = false ∧ t.dev.pow.tripped = false ∧ t.dev.reading i = x
    ∧ t.dev.rd Pg.THM Reg.THM.STALE i = 0 ∧ t.dev.hst.cmds = s.dev.hst.cmds ∧ t.dev.pip = s.dev.pip) ∧
  (∀ (s : State) (l : List (Option Int)) (i : Nat) (x : Int), l.length = 61 →
    s.dev.rd Pg.THM Reg.THM.TRIP_MODE = 0 → s.dev.stopped = false → s.dev.allAwake = true → i < 61 →
    l[i]? = some (some x) → s.dev.brokenSensor i = false → 16 * (s.dev.rd Pg.THM Reg.THM.TRIP_C : Int) ≤ x →
    ∃ t, exec (.sensorSample l) s = .next t ∧ Still []
    { s.dev with jnl := t.dev.jnl, pow := t.dev.pow, outs := t.dev.outs } t.dev ∧ t.dev.pow.tripped = true ∧
    t.dev.stopped = true ∧ t.dev.regs = s.dev.regs ∧ t.dev.jnl.ledger = s.dev.jnl.ledger ∧ (t.dev.jnl.trips.drop 1)
    = s.dev.jnl.trips.take 63 ∧ Out.pin PIN_THERM_TRIP_N 0 false ∈ t.dev.outs) ∧
  (∀ (s : State) (g : Nat), g < 32 → s.dev.stopped = false → unthrottled g = false → s.dev.powerState g = 0 →
    g ∈ s.dev.pow.hot → s.dev.level g < 10 → s.dev.assisted Pg.THM = false →
    ∃ t, exec (.throttleStep g) s = .next t ∧ Framed [Pg.THM] s.dev t.dev ∧ t.dev.level g = s.dev.level g + 1 ∧
    t.dev.pow = s.dev.pow ∧ t.dev.cap = s.dev.cap) ∧
  (∀ (s : State) (g : Nat), g < 32 → s.dev.stopped = false → unthrottled g = false → s.dev.powerState g = 0 →
    g ∉ s.dev.pow.hot → s.dev.level g ≠ 0 →
    exec (.throttleStep g) s = .next (s.withDev (s.dev.wr Pg.THM Reg.THM.LEVEL (s.dev.level g - 1) g))) ∧
  (∀ (s : State) (g : Nat), g < 32 → s.dev.stopped = false → (unthrottled g = true ∨ s.dev.powerState g ≠ 0) →
    exec (.throttleStep g) s = .next (s.withDev (s.dev))) ∧
  (∀ (s : State), s.dev.stopped = false → s.dev.shedCond = true → s.dev.shed < 4 → s.dev.assisted Pg.THM = false →
    ∃ t, exec (.shedStep) s = .next t ∧ Framed [Pg.THM] s.dev t.dev ∧ t.dev.shed = s.dev.shed + 1 ∧ bitAt (t.dev.rd
    Pg.THM Reg.HDR.INT_STAT) 2 = true ∧ t.dev.pow = s.dev.pow) ∧
  (∀ (s : State), s.dev.stopped = false → s.dev.shedCond = false → s.dev.shed ≠ 0 →
    ∃ t, exec (.shedStep) s = .next t ∧ Framed [Pg.THM] s.dev t.dev ∧ t.dev.shed = s.dev.shed - 1 ∧ bitAt (t.dev.rd
    Pg.THM Reg.HDR.INT_STAT) 2 = true ∧ t.dev.pow = s.dev.pow) ∧
  (∀ (s : State) (f v : Nat), f < 64 → v < 2 ^ 32 → Taken s.dev f Pg.THM 0x110 = true →
    s.dev.rd Pg.THM Reg.THM.THROT_C < bits v 0 8 → bits v 0 8 < s.dev.rd Pg.THM Reg.THM.TRIP_C →
    exec (.tjFail f v) s = .next (s.withDev (s.dev.wr Pg.THM Reg.THM.TJ_FAIL (bits v 0 8)))) ∧
  (∀ (s : State) (f v : Nat), f < 64 → v < 2 ^ 32 → Taken s.dev f Pg.THM 0x110 = true →
    (bits v 0 8 ≤ s.dev.rd Pg.THM Reg.THM.THROT_C ∨ s.dev.rd Pg.THM Reg.THM.TRIP_C ≤ bits v 0 8) →
    0 < s.dev.rd Pg.THM Reg.THM.TRIP_C →
    ∃ t, exec (.tjFail f v) s = .next t ∧ Framed [Pg.THM] s.dev t.dev ∧ t.dev.rd Pg.THM Reg.THM.TJ_FAIL = s.dev.rd
    Pg.THM Reg.THM.TJ_FAIL)

/-- A well-shaped chunk for a slot that does not run starts to move; FW_ACTIVATE of a valid hot slot has the standby
pair load it; once that is ready fetching pauses and the hand-over begins; its end makes the slot active on the
other pair and completes the command; its time-out fails the activation and keeps the old image. A failing pair is
marked, and the standby takes over from the active one. A source that cannot be read, or whose image fails a check
of R405, is recorded with its code and the next source has its turn; an image whose header passes runs, on both
pairs, and fetching opens, if its signature is valid, else it fails with code 4. BOOT_GO in HOST_WAIT starts the
host load, before it is held; without it the source fails with code 6; after the back-off the sources are tried
again and counted. Beside its values each such clause says what stays as it was: the registers of all other pages
and the other parts of the device, but for what events, interrupts and ledger records reach where it says Framed.
-/
def Obligations.FirmwareSlots : Prop :=
  (∀ (s : State) (p asn : Nat) (hv : HostView) (c : Cmd), p < 128 → asn < 2 ^ 64 →
    Starts (s.dev.see hv) p asn 0x08 c = true → 4096 ≤ dwAt c.entry 6 → dwAt c.entry 6 ≤ 2 ^ 20 →
    dwAt c.entry 6 % 4096 = 0 → dwAt c.entry 9 % 4096 = 0 → dwAt c.entry 9 + dwAt c.entry 6 ≤ 2 ^ 26 →
    s.dev.slotRuns (sf c.entry 8 0 1) = false → s.dev.jnl.activation = none →
    (sf c.entry 8 1 1 = 1 ∨ s.dev.slotState (sf c.entry 8 0 1) = 1) →
    ∃ t, exec (.fwStage p asn hv) s = .next t ∧ Framed []
    { s.dev with hst := t.dev.hst, hostFails := t.dev.hostFails, vectorsOff := t.dev.vectorsOff } t.dev ∧ t.dev.jnl
    = s.dev.jnl ∧ t.dev.regs = s.dev.regs ∧ (t.dev.cmd? p asn).map (·.phase) = some .moving) ∧
  (∀ (s : State) (p asn : Nat) (hv : HostView) (c : Cmd), p < 128 → asn < 2 ^ 64 →
    Starts (s.dev.see hv) p asn 0x08 c = true → 4096 ≤ dwAt c.entry 6 → dwAt c.entry 6 ≤ 2 ^ 20 →
    dwAt c.entry 6 % 4096 = 0 → dwAt c.entry 9 % 4096 = 0 → dwAt c.entry 9 + dwAt c.entry 6 ≤ 2 ^ 26 →
    s.dev.slotRuns (sf c.entry 8 0 1) = true →
    exec (.fwStage p asn hv) s = .next (s.withDev ((s.dev.see hv).complete c .FW_SLOT))) ∧
  (∀ (s : State) (p asn : Nat) (hv : HostView) (c : Cmd), p < 128 → asn < 2 ^ 64 →
    Starts (s.dev.see hv) p asn 0x09 c = true → s.dev.jnl.activation = none → s.dev.jnl.failedPairs = [] →
    s.dev.slotState (sf c.entry 8 0 1) = 2 → imageKind (s.dev.fwSlot (sf c.entry 8 0 1)).bytes ≠ 1 →
    ∃ t, exec (.fwActivate p asn hv) s = .next t ∧ Framed [Pg.FWM]
    { s.dev with hst := t.dev.hst, hostFails := t.dev.hostFails, vectorsOff := t.dev.vectorsOff } t.dev ∧ t.dev.rd
    Pg.FWM Reg.FWM.ACT_STATE = 1 ∧ t.dev.pair (1 - s.dev.activePair) = 2 ∧ (t.dev.jnl.activation).map (·.slot) =
    some (sf c.entry 8 0 1) ∧ t.dev.rd Pg.FWM Reg.FWM.ACTIVE_SLOT = s.dev.rd Pg.FWM Reg.FWM.ACTIVE_SLOT ∧
    (t.dev.cmd? p asn).map (·.phase) = some .running) ∧
  (∀ (s : State) (p asn : Nat) (hv : HostView) (c : Cmd), p < 128 → asn < 2 ^ 64 →
    Starts (s.dev.see hv) p asn 0x09 c = true → s.dev.jnl.activation = none → s.dev.jnl.failedPairs = [] →
    s.dev.slotState (sf c.entry 8 0 1) = 2 → imageKind (s.dev.fwSlot (sf c.entry 8 0 1)).bytes = 1 →
    ∃ t, exec (.fwActivate p asn hv) s = .next t ∧ Framed [Pg.FWM]
    { s.dev with hst := t.dev.hst, hostFails := t.dev.hostFails, vectorsOff := t.dev.vectorsOff } t.dev ∧ t.dev.rd
    Pg.FWM Reg.FWM.BOOT_SLOT = sf c.entry 8 0 1 ∧ t.dev.jnl.activation = none ∧ t.dev.rd Pg.FWM Reg.FWM.ACTIVE_SLOT
    = s.dev.rd Pg.FWM Reg.FWM.ACTIVE_SLOT ∧ t.dev.cmd? p asn = none) ∧
  (∀ (s : State) (a : Activation), s.dev.stopped = false → s.dev.held Pg.FWM = false →
    s.dev.jnl.activation = some a → s.dev.rd Pg.FWM Reg.FWM.ACT_STATE = 1 →
    ∃ t, exec (.standbyReady) s = .next t ∧ Still [Pg.FWM] { s.dev with jnl := t.dev.jnl, free := t.dev.free } t.dev
    ∧ t.dev.rd Pg.FWM Reg.FWM.ACT_STATE = 2 ∧ (t.dev.jnl.activation.map (·.pause)).all (· ≤ 2000) = true ∧
    t.dev.jnl.activation = some { a with seam := s.dev.elapsed, pause := s.dev.freeNow 16 % 2001 } ∧ t.dev.hst =
    s.dev.hst) ∧
  (∀ (d : Dev) (a : Activation), d.jnl.activation = some a → d.rd Pg.FWM Reg.FWM.ACT_STATE = 2 →
    a.seam + 800 * a.pause ≤ d.elapsed → a.pause ≤ 2000 →
    d.seamDue.rd Pg.FWM Reg.FWM.ACT_STATE = 3 ∧ d.seamDue.rd Pg.FWM Reg.FWM.FETCH_PAUSE_US = a.pause) ∧
  (∀ (d : Dev) (a : Activation), d.jnl.activation = some a → d.elapsed < a.seam + 800 * a.pause → d.seamDue = d) ∧
  (∀ (s : State) (a : Activation), Ready s.dev = true → s.dev.held Pg.FWM = false → s.dev.jnl.activation = some a →
    2 ≤ s.dev.rd Pg.FWM Reg.FWM.ACT_STATE → a.pair < 2 → a.slot < 2 →
    ∃ t, exec (.handover) s = .next t ∧ Framed [Pg.FWM] { s.dev with hst := t.dev.hst } t.dev ∧ t.dev.pair a.pair =
    0 ∧ t.dev.pair (1 - a.pair) = 2 ∧ t.dev.rd Pg.FWM Reg.FWM.ACTIVE_SLOT = a.slot ∧ t.dev.rd Pg.SYS Reg.SYS.SOURCE
    = a.slot ∧ t.dev.rd Pg.FWM Reg.FWM.BOOT_SLOT = (if a.persist then a.slot else s.dev.rd Pg.FWM Reg.FWM.BOOT_SLOT)
    ∧ t.dev.rd Pg.FWM Reg.FWM.ACT_STATE = 0 ∧ t.dev.jnl.activation = none ∧ t.dev.cmd? a.part a.asn = none) ∧
  (∀ (s : State) (a : Activation), Ready s.dev = true → s.dev.held Pg.FWM = false → s.dev.jnl.activation = some a →
    2 ≤ s.dev.rd Pg.FWM Reg.FWM.ACT_STATE → a.pair < 2 → a.slot < 2 →
    ∃ t, exec (.handoverTimeout) s = .next t ∧ Framed [Pg.FWM] { s.dev with hst := t.dev.hst } t.dev ∧ t.dev.pair
    a.pair = 1 ∧ t.dev.slotState a.slot = 3 ∧ t.dev.rd Pg.FWM Reg.FWM.ACTIVE_SLOT = s.dev.rd Pg.FWM
    Reg.FWM.ACTIVE_SLOT ∧ t.dev.rd Pg.FWM Reg.FWM.ACT_STATE = 0 ∧ t.dev.rd Pg.FWM Reg.FWM.ACT_FAIL_CNT = min
    (s.dev.rd Pg.FWM Reg.FWM.ACT_FAIL_CNT + 1) (2 ^ Reg.FWM.ACT_FAIL_CNT.width - 1) ∧ t.dev.jnl.activation = none ∧
    t.dev.cmd? a.part a.asn = none) ∧
  (∀ (s : State) (k : Nat), s.dev.stopped = false → s.dev.held Pg.FWM = false → s.dev.jnl.activation = none →
    k < 2 → s.dev.pair k = 2 →
    ∃ t, exec (.standbyRestart) s = .next t ∧ Still [Pg.FWM] s.dev t.dev ∧ t.dev.pair k = 1 ∧ t.dev.pair (1 - k) ≠ 2
    ∧ t.dev.jnl = s.dev.jnl ∧ t.dev.hst = s.dev.hst) ∧
  (∀ (s : State) (k : Nat), k < 2 → s.dev.stopped = false → s.dev.jnl.activation = none → s.dev.pair k = 0 →
    s.dev.pair (1 - k) ≠ 3 →
    ∃ t, exec (.mgmtPairFailure k) s = .next t ∧ Framed [Pg.FWM] { s.dev with hst := t.dev.hst } t.dev ∧ t.dev.pair
    k = 3 ∧ t.dev.pair (1 - k) = 0 ∧ t.dev.rd Pg.SYS Reg.SYS.MGMT_FAILED = 1 ∧ bitAt (t.dev.rd Pg.FWM
    Reg.HDR.INT_STAT) 1 = true ∧ k ∈ t.dev.jnl.failedPairs ∧ (t.dev.hst.cmds.map fun e => (e.2.part, e.2.asn)) =
    s.dev.hst.cmds.map fun e => (e.2.part, e.2.asn)) ∧
  (∀ (s : State) (k : Nat), k < 2 → s.dev.stopped = false → s.dev.jnl.activation = none → s.dev.pair k = 1 →
    ∃ t, exec (.mgmtPairFailure k) s = .next t ∧ Framed [Pg.FWM] { s.dev with hst := t.dev.hst } t.dev ∧ t.dev.pair
    k = 3 ∧ t.dev.pair (1 - k) = s.dev.pair (1 - k) ∧ t.dev.rd Pg.SYS Reg.SYS.MGMT_FAILED = 1 ∧ t.dev.hst.cmds =
    s.dev.hst.cmds) ∧
  (∀ (s : State) (r : List Nat), s.dev.stopped = false → s.dev.mayBoot = true → s.dev.brd.stage = 1 →
    s.dev.brd.sources = 0 :: r →
    ∃ t, exec (.bootSourceTry false {}) s = .next t ∧ Still [Pg.SYS, Pg.XSP]
    { s.dev with brd := t.dev.brd, outs := t.dev.outs, hostFails := t.dev.hostFails, vectorsOff := t.dev.vectorsOff }
    t.dev ∧ (t.dev.rd Pg.SYS Reg.SYS.FAIL_A = 5 ∧ t.dev.brd.sources = r ∧ t.dev.rd Pg.XSP Reg.XSP.READ_ERR_CNT = min
    (s.dev.rd Pg.XSP Reg.XSP.READ_ERR_CNT + 1) (2 ^ Reg.XSP.READ_ERR_CNT.width - 1) ∧ (r = [] → t.dev.rd Pg.SYS
    Reg.SYS.STAGE = 4) ∧ t.dev.running = false)) ∧
  (∀ (s : State) (r : List Nat) (hv : HostView), s.dev.stopped = false → s.dev.mayBoot = true →
    s.dev.brd.stage = 1 → s.dev.brd.sources = 0 :: r → ofLe ((s.dev.fwSlot 0).bytes 0 4) ≠ 0x4D524946 →
    ∃ t, exec (.bootSourceTry true hv) s = .next t ∧ Framed [Pg.SYS]
    { s.dev with brd := t.dev.brd, hostFails := t.dev.hostFails, vectorsOff := t.dev.vectorsOff } t.dev ∧ t.dev.rd
    Pg.SYS Reg.SYS.FAIL_A = 1 ∧ t.dev.brd.sources = r ∧ t.dev.running = false) ∧
  (∀ (s : State) (k len key : Nat) (r : List Nat) (hv : HostView), k < 2 → s.dev.stopped = false →
    s.dev.mayBoot = true → s.dev.brd.stage = 1 → s.dev.brd.sources = k :: r →
    len = ofLe ((s.dev.fwSlot k).bytes 8 4) → key = ofLe ((s.dev.fwSlot k).bytes 12 1) →
    ofLe ((s.dev.fwSlot k).bytes 0 4) = 0x4D524946 → 0x2000 ≤ len → len ≤ 2 ^ 26 →
    key ≤ s.dev.rd Pg.SCU Reg.SCU.BOOT_KEY → bitAt (s.dev.rd Pg.SCU Reg.SCU.KEY_REVOKED) key = false →
    s.dev.jnl.failedPairs = [] →
    ∃ t, exec (.bootSourceTry true hv) s = .next t ∧ Framed [Pg.SYS, Pg.SCU, Pg.FWM]
    { s.dev with brd := t.dev.brd, hostFails := t.dev.hostFails, vectorsOff := t.dev.vectorsOff } t.dev ∧ (if
    Config.bootSignatureValid key ((s.dev.fwSlot k).bytes 0 0x80 ++ (s.dev.fwSlot k).bytes 0x1000 (len - 0x1000))
    ((s.dev.fwSlot k).bytes 0x80 96) = true then t.dev.rd Pg.SYS Reg.SYS.STAGE = 6 ∧ t.dev.running = true ∧ t.dev.rd
    Pg.SYS Reg.SYS.SOURCE = k ∧ t.dev.rd Pg.FWM Reg.FWM.ACTIVE_SLOT = k ∧ t.dev.pair 0 = 0 ∧ t.dev.pair 1 = 1 else
    t.dev.rd Pg.SYS (if k = 0 then Reg.SYS.FAIL_A else Reg.SYS.FAIL_B) = 4 ∧ t.dev.brd.sources = r ∧ t.dev.rd Pg.SCU
    Reg.SCU.VERIFY_FAIL_CNT = min (s.dev.rd Pg.SCU Reg.SCU.VERIFY_FAIL_CNT + 1) (2 ^ Reg.SCU.VERIFY_FAIL_CNT.width -
    1))) ∧
  (∀ (s : State) (f v : Nat), f < 64 → v < 2 ^ 32 → s.dev.stopped = false → s.dev.hasFn f = true → f = 0 →
    s.dev.allAwake = true → bitAt v 0 = true → s.dev.brd.stage = 2 →
    ∃ t, exec (.bootGo f v) s = .next t ∧ Framed [Pg.SYS] { s.dev with brd := t.dev.brd } t.dev ∧ t.dev.rd Pg.SYS
    Reg.SYS.STAGE = 3 ∧ t.dev.brd.stage = 3 ∧ t.dev.brd.sources = s.dev.brd.sources) ∧
  (∀ (s : State) (f v : Nat), f < 64 → v < 2 ^ 32 → s.dev.stopped = false → s.dev.hasFn f = true → f = 0 →
    s.dev.allAwake = true → bitAt v 0 = true → s.dev.brd.stage ≠ 2 →
    ∃ t, exec (.bootGo f v) s = .next t ∧ Framed [Pg.SYS] { s.dev with brd := t.dev.brd } t.dev ∧ t.dev.brd.bootGo =
    true ∧ t.dev.brd.stage = s.dev.brd.stage) ∧
  (∀ (s : State) (r : List Nat), s.dev.stopped = false → s.dev.brd.stage = 2 → s.dev.brd.sources = 2 :: r →
    ∃ t, exec (.hostWaitTimeout) s = .next t ∧ Still [Pg.SYS] { s.dev with brd := t.dev.brd, outs := t.dev.outs }
    t.dev ∧ (t.dev.rd Pg.SYS Reg.SYS.FAIL_HOST = 6 ∧ t.dev.brd.sources = r ∧ (r = [] → t.dev.rd Pg.SYS Reg.SYS.STAGE
    = 4))) ∧
  (∀ (s : State), s.dev.stopped = false → s.dev.brd.stage = 4 →
    s.dev.bootSources (s.dev.rd Pg.SYS Reg.SYS.BOOT_SEL) ≠ [] →
    ∃ t, exec (.bootBackoff) s = .next t ∧ Still [Pg.SYS] { s.dev with brd := t.dev.brd, outs := t.dev.outs } t.dev
    ∧ t.dev.rd Pg.SYS Reg.SYS.ATTEMPT_CNT = (s.dev.rd Pg.SYS Reg.SYS.ATTEMPT_CNT + 1) % 2 ^ 32 ∧ t.dev.brd.sources =
    s.dev.bootSources (s.dev.rd Pg.SYS Reg.SYS.BOOT_SEL) ∧ t.dev.brd.stage ≠ 4)

/-- PERST_N low, RST_CTRL.DEV and a hot reset each reset the device: the epoch rises by one, LAST_CAUSE names the
reset, boot starts over, and queues, sessions and frames are gone; the kept Timebase runs on. During the
power-loss sequence they wait for its end. PERST_N high samples BOOT_SEL. A function level reset counts and takes
the function's queues. PWRFAIL_N low stops fetching and starts the power-loss sequence; high again, a device reset
follows the sequence. SHUTDOWN ends it: the SHUTDOWN record is last, the hold-up time is shown, NVS rests in state
3 and the device stops. PWR_OK low and a brown-out stop every clock at once. At power-on boot starts over with the
sampled straps, the epoch and the count rise by one, LAST_CAUSE and CLEAN_BOOT say what went before, and the
Timebase is 0. Beside its values each such clause says what stays as it was: the registers of all other pages and
the other parts of the device, but for what events, interrupts and ledger records reach where it says Framed. -/
def Obligations.DeviceResets : Prop :=
  (∀ (s : State), s.dev.pow.off = false → s.dev.pow.tripped = false → s.dev.brd.perst = false →
    s.dev.jnl.powerLoss = false →
    ∃ t, exec (.perstN) s = .next t ∧ t.dev.rd Pg.NVS Reg.NVS.EPOCH = (s.dev.rd Pg.NVS Reg.NVS.EPOCH + 1) % 2 ^
    Reg.NVS.EPOCH.width ∧ t.dev.rd Pg.RST Reg.RST.LAST_CAUSE = 1 ∧ t.dev.brd.stage = 0 ∧ t.dev.hst.queues.all (fun y
    => 64 ≤ y.1 / 65536) = true ∧ t.dev.hst.sessions = [] ∧ t.dev.cap.frames = [] ∧ t.dev.brd.perst = true ∧
    t.dev.tb = s.dev.tb ∧ t.dev.rd Pg.RST Reg.RST.DEV_RESET_CNT = (s.dev.rd Pg.RST Reg.RST.DEV_RESET_CNT + 1) % 2 ^
    Reg.RST.DEV_RESET_CNT.width) ∧
  (∀ (s : State), s.dev.pow.off = false → s.dev.pow.tripped = false → s.dev.brd.perst = false →
    s.dev.jnl.powerLoss = true →
    exec (.perstN) s = .next (s.withDev ({ s.dev with brd := { s.dev.brd with perst := true } }))) ∧
  (∀ (s : State) (n : Nat), n < 4 → s.dev.pow.off = false → s.dev.pow.tripped = false → s.dev.brd.perst = true →
    ∃ t, exec (.perstNDeassert n) s = .next t ∧ Still [Pg.SYS] { s.dev with brd := t.dev.brd } t.dev ∧
    t.dev.brd.perst = false ∧ t.dev.rd Pg.SYS Reg.SYS.BOOT_SEL = n ∧ t.dev.hst = s.dev.hst ∧ t.dev.jnl = s.dev.jnl) ∧
  (∀ (s : State), Ready s.dev = true → s.dev.hostLink = true →
    ∃ t, exec (.pcieHotReset) s = .next t ∧ t.dev.rd Pg.NVS Reg.NVS.EPOCH = (s.dev.rd Pg.NVS Reg.NVS.EPOCH + 1) % 2
    ^ Reg.NVS.EPOCH.width ∧ t.dev.rd Pg.RST Reg.RST.LAST_CAUSE = 3 ∧ t.dev.brd.stage = 0 ∧ t.dev.hst.queues.all (fun
    y => 64 ≤ y.1 / 65536) = true ∧ t.dev.hst.sessions = [] ∧ t.dev.cap.frames = [] ∧ t.dev.tb = s.dev.tb ∧ t.dev.rd
    Pg.RST Reg.RST.DEV_RESET_CNT = (s.dev.rd Pg.RST Reg.RST.DEV_RESET_CNT + 1) % 2 ^ Reg.RST.DEV_RESET_CNT.width) ∧
  (∀ (s : State), s.dev.stopped = false → s.dev.hostLink = true → s.dev.jnl.powerLoss = true →
    exec (.pcieHotReset) s = .next (s.withDev ({ s.dev with jnl := { s.dev.jnl with waitingCause := 3 } }))) ∧
  (∀ (s : State) (f v : Nat), f < 64 → v < 2 ^ 32 → Taken s.dev f Pg.SYS 0x148 = true → bitAt v 0 = true →
    s.dev.jnl.powerLoss = false →
    ∃ t, exec (.rstCtrlDev f v) s = .next t ∧ t.dev.rd Pg.NVS Reg.NVS.EPOCH = (s.dev.rd Pg.NVS Reg.NVS.EPOCH + 1) %
    2 ^ Reg.NVS.EPOCH.width ∧ t.dev.rd Pg.RST Reg.RST.LAST_CAUSE = 2 ∧ t.dev.brd.stage = 0 ∧ t.dev.hst.queues.all
    (fun y => 64 ≤ y.1 / 65536) = true ∧ t.dev.hst.sessions = [] ∧ t.dev.cap.frames = [] ∧ t.dev.tb = s.dev.tb) ∧
  (∀ (s : State) (f : Nat), f < 64 → s.dev.stopped = false → s.dev.hasFn f = true → s.dev.pip.assists = [] →
    ∃ t, exec (.functionLevelReset f) s = .next t ∧ t.dev.rd Pg.RST Reg.RST.PART_RESET_CNT = (s.dev.rd Pg.RST
    Reg.RST.PART_RESET_CNT + 1) % 2 ^ Reg.RST.PART_RESET_CNT.width ∧ t.dev.rd Pg.RST Reg.RST.LAST_PART = f ∧
    t.dev.rd Pg.RST Reg.RST.LAST_PART_CAUSE = 0 ∧ t.dev.hst.queues.all (fun y => y.1 / 65536 ≠ f) = true ∧
    (t.dev.part f).evt = none ∧ (t.dev.part f).ast = none ∧ t.dev.brd = s.dev.brd) ∧
  (∀ (s : State), s.dev.pow.off = false → s.dev.pow.tripped = false → s.dev.jnl.powerLoss = false →
    s.dev.jnl.image = false →
    exec (.pwrfailN) s = .next (s.withDev
    (({ s.dev with hst := { s.dev.hst with fetchStopped := true }, jnl := { s.dev.jnl with powerLoss := true, powerLossReset := false, waitingCause := 0 } }
    : Dev).wakeGroup 32 7))) ∧
  (∀ (s : State), s.dev.pow.off = false → s.dev.pow.tripped = false → s.dev.jnl.powerLoss = true →
    exec (.pwrfailNDeassert) s = .next (s.withDev
    ({ s.dev with jnl := { s.dev.jnl with powerLossReset := true } }))) ∧
  (∀ (s : State) (crc ms : Nat), crc < 2 ^ 32 → ms < 256 → s.dev.pow.off = false → s.dev.pow.tripped = false →
    s.dev.jnl.powerLoss = true → s.dev.jnl.powerLossReset = false → s.dev.jnl.waitingCause = 0 →
    s.dev.brd.perst = false →
    ∃ t, exec (.shutdown crc ms) s = .next t ∧ Framed [] s.dev t.dev ∧ t.dev.jnl.image = true ∧ t.dev.jnl.powerLoss
    = false ∧ t.dev.stopped = true ∧ t.dev.rd Pg.NVS Reg.NVS.STATE = 3 ∧ t.dev.rd Pg.NVS Reg.NVS.HOLDUP_MS = ms ∧
    (t.dev.jnl.ledger.getLast?).map (·.body) = some (.shutdown (s.dev.pip.places.foldl (fun a p => a +
    p.bytes.length) 0) crc) ∧ t.dev.pip = s.dev.pip) ∧
  (∀ (s : State) (crc ms : Nat), crc < 2 ^ 32 → ms < 256 → s.dev.pow.off = false → s.dev.pow.tripped = false →
    s.dev.jnl.powerLoss = true → s.dev.brd.perst = true →
    ∃ t, exec (.shutdown crc ms) s = .next t ∧ t.dev.rd Pg.NVS Reg.NVS.EPOCH = (s.dev.rd Pg.NVS Reg.NVS.EPOCH + 1) %
    2 ^ Reg.NVS.EPOCH.width ∧ t.dev.rd Pg.RST Reg.RST.LAST_CAUSE = 1 ∧ t.dev.brd.stage = 0 ∧ t.dev.hst.queues.all
    (fun y => 64 ≤ y.1 / 65536) = true ∧ t.dev.hst.sessions = [] ∧ t.dev.cap.frames = [] ∧ t.dev.jnl.powerLoss =
    false ∧ t.dev.jnl.image = false) ∧
  (∀ (s : State) (crc ms : Nat), crc < 2 ^ 32 → ms < 256 → s.dev.pow.off = false → s.dev.pow.tripped = false →
    s.dev.jnl.powerLoss = true → s.dev.brd.perst = false → s.dev.jnl.waitingCause ≠ 0 →
    s.dev.jnl.waitingCause < 16 →
    ∃ t, exec (.shutdown crc ms) s = .next t ∧ t.dev.rd Pg.NVS Reg.NVS.EPOCH = (s.dev.rd Pg.NVS Reg.NVS.EPOCH + 1) %
    2 ^ Reg.NVS.EPOCH.width ∧ t.dev.rd Pg.RST Reg.RST.LAST_CAUSE = s.dev.jnl.waitingCause ∧ t.dev.brd.stage = 0 ∧
    t.dev.hst.queues.all (fun y => 64 ≤ y.1 / 65536) = true ∧ t.dev.hst.sessions = [] ∧ t.dev.cap.frames = [] ∧
    t.dev.jnl.powerLoss = false ∧ t.dev.jnl.image = false) ∧
  (∀ (s : State), s.dev.pow.off = false →
    exec (.pwrOkFall) s = .next (s.withDev ({ s.dev with pow := { s.dev.pow with off := true, brown := false } }))) ∧
  (∀ (s : State), s.dev.pow.off = false →
    exec (.brownOut) s = .next (s.withDev ({ s.dev with pow := { s.dev.pow with off := true, brown := true } }))) ∧
  (∀ (s : State) (n : Nat) (x m : Bool), n < 4 → s.dev.pow.off = true → s.dev.pow.tripped = false →
    ∃ t, exec (.pwrOkRise n x m false) s = .next t ∧ t.dev.rd Pg.NVS Reg.NVS.EPOCH = (s.dev.rd Pg.NVS Reg.NVS.EPOCH
    + 1) % 2 ^ Reg.NVS.EPOCH.width ∧ t.dev.rd Pg.RST Reg.RST.LAST_CAUSE = (if s.dev.pow.brown then 4 else 0) ∧
    t.dev.brd.stage = 0 ∧ t.dev.hst.queues.all (fun y => 64 ≤ y.1 / 65536) = true ∧ t.dev.hst.sessions = [] ∧
    t.dev.cap.frames = [] ∧ t.dev.brd.perst = x ∧ t.dev.pow.off = false ∧ t.dev.rd Pg.SYS Reg.SYS.BOOT_SEL = n ∧
    t.dev.tb = 0 ∧ t.dev.rd Pg.NVS Reg.NVS.CLEAN_BOOT = b2n (s.dev.jnl.image && s.dev.jnl.ledger.all (·.ok) && !m) ∧
    t.dev.rd Pg.RST Reg.RST.POWER_ON_CNT = (s.dev.rd Pg.RST Reg.RST.POWER_ON_CNT + 1) % 2 ^
    Reg.RST.POWER_ON_CNT.width) ∧
  (∀ (s : State) (n : Nat) (x m : Bool), n < 4 → s.dev.pow.off = true →
    ∃ t, exec (.pwrOkRise n x m true) s = .next t ∧ t.dev.hst.queues.all (fun y => 64 ≤ y.1 / 65536) = true ∧
    (List.range 128).all (fun p => (t.dev.part p).asnNext = 1) = true ∧ t.dev.jnl.slotA = s.dev.jnl.slotA ∧
    t.dev.jnl.slotB = s.dev.jnl.slotB ∧ t.dev.cap.frames = []) ∧
  (∀ (s : State) (n : Nat) (x m : Bool), n < 4 → s.dev.pow.off = true → s.dev.pow.tripped = true →
    ∃ t, exec (.pwrOkRise n x m false) s = .next t ∧ t.dev.rd Pg.NVS Reg.NVS.EPOCH = (s.dev.rd Pg.NVS Reg.NVS.EPOCH
    + 1) % 2 ^ Reg.NVS.EPOCH.width ∧ t.dev.rd Pg.RST Reg.RST.LAST_CAUSE = 5 ∧ t.dev.brd.stage = 0 ∧
    t.dev.hst.queues.all (fun y => 64 ≤ y.1 / 65536) = true ∧ t.dev.hst.sessions = [] ∧ t.dev.cap.frames = [] ∧
    t.dev.pow.tripped = false ∧ t.dev.rd Pg.THM Reg.THM.TRIP_SEEN = 1)

/-- A memory stack that is retired, or loses its interface, leaves service and gives up its regions and pool, and is
retired once every region has two copies again. Errors are counted in their registers and raise their interrupts;
a lost journal record is marked bad; the third failure of a Spine link takes it out of service. A PLL that loses
lock is counted and holds its blocks until it locks again. An Ethernet port without a link, or with more than
1,000 bad frames in a second, goes out of service. Beside its values each such clause says what stays as it was:
the registers of all other pages and the other parts of the device, but for what events, interrupts and ledger
records reach where it says Framed. -/
def Obligations.FaultsAndFailures : Prop :=
  (∀ (s : State) (f n v : Nat), f < 64 → n < 4 → v < 2 ^ 32 → Taken s.dev f (Pg.HBM n) 0x114 = true →
    bitAt v 0 = true → s.dev.stackLive n = true → s.dev.cap.frames = [] →
    ∃ t, exec (.hbmRetire f n v) s = .next t ∧ Framed [Pg.HBM n] { s.dev with cap := t.dev.cap } t.dev ∧ t.dev.rd
    (Pg.HBM n) Reg.HBM.STATE = 3 ∧ t.dev.rd (Pg.HBM n) Reg.HBM.REGIONS = 0 ∧ t.dev.rd (Pg.HBM n) Reg.HBM.POOL_MIB =
    0 ∧ bitAt (t.dev.rd (Pg.HBM n) Reg.HDR.INT_STAT) 2 = true) ∧
  (∀ (s : State) (n : Nat), n < 4 → s.dev.stopped = false → s.dev.stackLive n = true → s.dev.cap.frames = [] →
    ∃ t, exec (.stackInterfaceLoss n) s = .next t ∧ Framed [Pg.HBM n] { s.dev with cap := t.dev.cap } t.dev ∧
    t.dev.rd (Pg.HBM n) Reg.HBM.STATE = 3 ∧ t.dev.rd (Pg.HBM n) Reg.HBM.REGIONS = 0 ∧ t.dev.rd (Pg.HBM n)
    Reg.HBM.POOL_MIB = 0 ∧ bitAt (t.dev.rd (Pg.HBM n) Reg.HDR.INT_STAT) 2 = true) ∧
  (∀ (s : State) (n : Nat), n < 4 → s.dev.stopped = false → s.dev.rd (Pg.HBM n) Reg.HBM.STATE = 3 →
    ∃ t, exec (.mirrorRestored n) s = .next t ∧ Framed ([] ++ (List.range 4).map Pg.HBM)
    { s.dev with cap := t.dev.cap } t.dev ∧ t.dev.rd (Pg.HBM n) Reg.HBM.STATE = 4 ∧ t.dev.rd (Pg.HBM n)
    Reg.HDR.STATE = 7 ∧ t.dev.jnl = s.dev.jnl) ∧
  (∀ (s : State) (n row k a b : Nat), n < 4 → s.dev.stopped = false → s.dev.stackLive n = true →
    ∃ t, exec (.hbmEccError n row true k a b) s = .next t ∧ Framed [Pg.HBM n] s.dev t.dev ∧ t.dev.rd (Pg.HBM n)
    Reg.HBM.ECC_CORR_CNT = min (s.dev.rd (Pg.HBM n) Reg.HBM.ECC_CORR_CNT + 1) (2 ^ Reg.HBM.ECC_CORR_CNT.width - 1) ∧
    bitAt (t.dev.rd (Pg.HBM n) Reg.HDR.INT_STAT) 0 = true ∧ t.dev.cap = s.dev.cap) ∧
  (∀ (s : State) (n row a b : Nat), n < 4 → s.dev.stopped = false → s.dev.stackLive n = true →
    s.dev.jnl.hbmLast = [] → 0 < s.dev.rd (Pg.HBM n) Reg.HBM.SPARES_LEFT →
    ∃ t, exec (.hbmEccError n row false 0 a b) s = .next t ∧ Framed [Pg.HBM n] s.dev t.dev ∧ t.dev.rd (Pg.HBM n)
    Reg.HBM.ECC_UNCORR_CNT = min (s.dev.rd (Pg.HBM n) Reg.HBM.ECC_UNCORR_CNT + 1) (2 ^ Reg.HBM.ECC_UNCORR_CNT.width
    - 1) ∧ bitAt (t.dev.rd (Pg.HBM n) Reg.HDR.INT_STAT) 1 = true ∧ t.dev.rd (Pg.HBM n) Reg.HBM.SPARES_LEFT =
    s.dev.rd (Pg.HBM n) Reg.HBM.SPARES_LEFT - 1 ∧ t.dev.cap = s.dev.cap) ∧
  (∀ (s : State) (m row pg : Nat) (x : Bool), pg < 256 → Pg.isPage pg = true → (Pg.family pg).1 = 0x42 →
    s.dev.stopped = false → (s.dev.jnl.sramRows.any fun e => e.1 = m && e.2.1 = row) = false →
    ∃ t, exec (.sramError m row pg true x []) s = .next t ∧ Still [pg] { s.dev with jnl := t.dev.jnl } t.dev ∧
    t.dev.rd pg Reg.YPT_B.ECC_CORR_CNT = min (s.dev.rd pg Reg.YPT_B.ECC_CORR_CNT + 1) (2 ^
    Reg.YPT_B.ECC_CORR_CNT.width - 1) ∧ (m, row, s.dev.elapsed) ∈ t.dev.jnl.sramRows ∧ t.dev.cap = s.dev.cap) ∧
  (∀ (s : State) (m row pg : Nat), pg < 256 → Pg.isPage pg = true → (Pg.family pg).1 = 0x42 →
    s.dev.stopped = false → (s.dev.pip.jobs.any fun j => j.started) = false →
    ∃ t, exec (.sramError m row pg false true []) s = .next t ∧ Framed [pg] s.dev t.dev ∧ t.dev.rd pg
    Reg.YPT_B.ECC_UNCORR_CNT = min (s.dev.rd pg Reg.YPT_B.ECC_UNCORR_CNT + 1) (2 ^ Reg.YPT_B.ECC_UNCORR_CNT.width -
    1) ∧ t.dev.rd pg Reg.YPT_B.HELD_VALID = 0 ∧ t.dev.rd pg Reg.HDR.STATE = s.dev.rd pg Reg.HDR.STATE) ∧
  (∀ (s : State) (i : Nat), i < s.dev.jnl.ledger.length → s.dev.stopped = false →
    ∃ t, exec (.mramUncorr (some i)) s = .next t ∧ Framed [] s.dev t.dev ∧ (t.dev.jnl.ledger.map (·.ok)) =
    (s.dev.jnl.ledger.map (·.ok)).set i false ∧ t.dev.rd Pg.NVS Reg.NVS.ECC_UNCORR_CNT = min (s.dev.rd Pg.NVS
    Reg.NVS.ECC_UNCORR_CNT + 1) (2 ^ Reg.NVS.ECC_UNCORR_CNT.width - 1) ∧ bitAt (t.dev.rd Pg.NVS Reg.HDR.ERR_STAT) 0
    = true ∧ t.dev.rd Pg.SYS Reg.SYS.MRAM_UNCORR = 1) ∧
  (∀ (s : State), s.dev.stopped = false →
    ∃ t, exec (.mramUncorr none) s = .next t ∧ Framed [] s.dev t.dev ∧ t.dev.jnl.ledger = s.dev.jnl.ledger ∧
    t.dev.rd Pg.NVS Reg.NVS.ECC_UNCORR_CNT = min (s.dev.rd Pg.NVS Reg.NVS.ECC_UNCORR_CNT + 1) (2 ^
    Reg.NVS.ECC_UNCORR_CNT.width - 1) ∧ t.dev.rd Pg.SYS Reg.SYS.MRAM_UNCORR = 1) ∧
  (∀ (s : State) (n : Nat), n < 4 → s.dev.stopped = false →
    exec (.spineParityError n false) s = .next (s.withDev (s.dev.bump (Pg.SPN n) Reg.SPN.PARITY_ERR))) ∧
  (∀ (s : State) (n : Nat), n < 4 → s.dev.stopped = false →
    ∃ t, exec (.spineParityError n true) s = .next t ∧ Framed [Pg.SPN n] s.dev t.dev ∧ t.dev.rd (Pg.SPN n)
    Reg.SPN.PARITY_ERR = min (s.dev.rd (Pg.SPN n) Reg.SPN.PARITY_ERR + 1) (2 ^ Reg.SPN.PARITY_ERR.width - 1) ∧
    t.dev.rd (Pg.SPN n) Reg.SPN.LINK_DOWN = min (s.dev.rd (Pg.SPN n) Reg.SPN.LINK_DOWN + 1) (2 ^
    Reg.SPN.LINK_DOWN.width - 1) ∧ t.dev.cap = s.dev.cap) ∧
  (∀ (s : State) (n k : Nat), n < 4 → hasPll n k = true → s.dev.pow.off = false → s.dev.pow.tripped = false →
    s.dev.jnl.image = false → (n, k) ∉ s.dev.pow.lost → s.dev.cap.groups = [] → s.dev.hst.sessions = [] →
    ∃ t, exec (.pllLossOfLock n k) s = .next t ∧ Framed ([Pg.CLK n] ++ Pg.stops ++ Pg.hlqs ++ (List.range 4).map
    Pg.NET ++ Pg.sets) { s.dev with cap := t.dev.cap, hst := t.dev.hst, pow := t.dev.pow } t.dev ∧ t.dev.pow.lost =
    s.dev.pow.lost ++ [(n, k)] ∧ t.dev.rd (Pg.CLK n) Reg.CLK.LOL_CNT k = min (s.dev.rd (Pg.CLK n) Reg.CLK.LOL_CNT k
    + 1) (2 ^ Reg.CLK.LOL_CNT.width - 1) ∧ bitAt (t.dev.rd (Pg.CLK n) Reg.HDR.INT_STAT) k = true) ∧
  (∀ (s : State) (n k : Nat), n < 4 → k < 8 →
    exec (.pllRelock n k) s = .next (s.withDev
    ({ s.dev with pow := { s.dev.pow with lost := s.dev.pow.lost.filter (· ≠ (n, k)) } }))) ∧
  (∀ (s : State) (p i : Nat), p < 2 → i < 4 → s.dev.stopped = false →
    s.dev.rd (netPort p) Reg.NETP.LINK_UP = 2 ^ i → p ∉ s.dev.hst.portsDown → s.dev.hst.sessions = [] →
    ∃ t, exec (.ethernetLinkDown p i 0) s = .next t ∧ Framed ([] ++ (List.range 4).map Pg.NET)
    { s.dev with hst := t.dev.hst } t.dev ∧ t.dev.rd (netPort p) Reg.NETP.LINK_UP = 0 ∧ bitAt (t.dev.rd (netPort p)
    Reg.HDR.INT_STAT) 0 = true ∧ p ∈ t.dev.hst.portsDown) ∧
  (∀ (s : State) (p i n : Nat), p < 2 → i < 4 → 0 < n → n ≤ 1000 → s.dev.stopped = false →
    exec (.ethernetLinkDown p i n) s = .next (s.withDev (s.dev.bump (netPort p) Reg.NETP.FCS_ERR_CNT 0 n))) ∧
  (∀ (s : State) (p i : Nat), p < 2 → i < 4 → s.dev.stopped = false → s.dev.held (netPort p) = false →
    bitAt (s.dev.rd (netPort p) Reg.NETP.LINK_UP) i = false →
    i < 2 ^ min 2 (s.dev.rd (netPort p) Reg.NETP.BREAKOUT) → s.dev.rd (netPort p) Reg.NETP.LINK_UP = 0 →
    ∃ t, exec (.ethernetLinkUp p i) s = .next t ∧ Framed ([] ++ (List.range 4).map Pg.NET)
    { s.dev with hst := t.dev.hst } t.dev ∧ t.dev.rd (netPort p) Reg.NETP.LINK_UP = 2 ^ i ∧ bitAt (t.dev.rd (netPort
    p) Reg.HDR.INT_STAT) 0 = true ∧ (if p = 0 then t.dev.hst.breakout.1 else t.dev.hst.breakout.2) = min 2 (s.dev.rd
    (netPort p) Reg.NETP.BREAKOUT)) ∧
  (∀ (s : State) (p : Nat), p < 2 → s.dev.stopped = false → s.dev.rd (netPort p) Reg.NETP.LINK_UP ≠ 0 →
    ∃ t, exec (.portInService p) s = .next t ∧ Framed ([] ++ (List.range 4).map Pg.NET)
    { s.dev with hst := t.dev.hst } t.dev ∧ p ∉ t.dev.hst.portsDown ∧ t.dev.rd (netPort p) Reg.NETP.LINK_UP =
    s.dev.rd (netPort p) Reg.NETP.LINK_UP)

/-- For every command and state, step with the command at the front of the queue is exec of it on the state with the
queue's rest. On an empty queue step lets one Timebase tick pass. The queue, and the tick in place of idling, are
the model's own (log entries 1 and 3). -/
def Obligations.StepRunsFront : Prop :=
  (∀ (c : Instr) (rest : List Instr) (d : Dev),
    step { pending := c :: rest, dev := d } = exec c { pending := rest, dev := d }) ∧
  (∀ (d : Dev), step { pending := [], dev := d } = .next { pending := [], dev := d.tick })

/-- For every one of the commands, with any operands, and every state: the command answers a next state in which the
queue is as it was. No command faults and none is refused. A command whose operands name no object of the part
changes nothing at all, which is the model's choice (log entry 8). -/
def Obligations.EveryCommandAnswers : Prop :=
  (∀ (c : Instr) (s : State), ∃ t, exec c s = .next t ∧ t.pending = s.pending) ∧
  (∀ (c : Instr) (s : State), c.wellFormed = false → exec c s = .next s)

/-- From every state any number of steps gives a next state with that many commands gone from the front. Commands
queued behind others do not change what those do: if a queue runs out and leaves device e, then with more commands
behind it it leaves the same device e and those commands waiting. A waiting command that names no object of the
part is passed over: what stands before and behind it runs as if it were not there. -/
def Obligations.QueueRuns : Prop :=
  (∀ (s t : State), Sane s = true → step s = .next t → Sane t = true) ∧
  (∀ (n : Nat) (s : State), ∃ t, Host.Core.run core n s = .next t ∧ t.pending = s.pending.drop n) ∧
  (∀ (a b : List Instr) (d e : Dev),
    Host.Core.run core a.length { pending := a, dev := d } = .next { pending := [], dev := e } →
    Host.Core.run core a.length { pending := a ++ b, dev := d } = .next { pending := b, dev := e }) ∧
  (∀ (a b : List Instr) (c : Instr) (d e : Dev),
    Host.Core.run core a.length { pending := a, dev := d } = .next { pending := [], dev := e } →
    c.wellFormed = false →
    Host.Core.run core (a.length + 1) { pending := a ++ c :: b, dev := d } = .next { pending := b, dev := e })

/-- While no clock runs (power off, tripped, at rest after SHUTDOWN, or CLK0 PLL 0 or 1 out of lock) every command
changes nothing, but for power, reset and power-fail pins, the end of the power-loss sequence and PLL locks.
During the power-loss sequence the commands of Sections, Yarrow, codecs, scan-out and network senders, and
accepted commands, change nothing (that these are all of what step 2 of R338 stops is the model's reading, log
entry 21). -/
def Obligations.StoppedIgnores : Prop :=
  (∀ (c : Instr) (s : State), s.dev.stopped = true → c.always = false → exec c s = .next s) ∧
  (∀ (c : Instr) (s : State), s.dev.jnl.powerLoss = true → c.quiet = true → exec c s = .next s)

/-- On a tripped device every command but PWR_OK_RISE, pins and locks included, leaves it tripped and changes at
most the record of which supplies and PLLs are good: registers, journal, memory and outputs stay as they are. So
it does through any number of steps, idle ticks among them, as long as no PWR_OK_RISE waits in the queue. -/
def Obligations.TripHolds : Prop :=
  (∀ (c : Instr) (s : State), s.dev.pow.tripped = true → (∀ n x a b, c ≠ .pwrOkRise n x a b) →
    ∃ t, exec c s = .next t ∧ t.dev.pow.tripped = true ∧ { s.dev with pow := t.dev.pow } = t.dev) ∧
  (∀ (n : Nat) (s : State), s.dev.pow.tripped = true → (∀ c ∈ s.pending, ∀ k x a b, c ≠ .pwrOkRise k x a b) →
    ∃ t, Host.Core.run core n s = .next t ∧ t.pending = s.pending.drop n ∧ t.dev.pow.tripped = true ∧
    { s.dev with pow := t.dev.pow, elapsed := t.dev.elapsed } = t.dev)

/-- While clocks run and no Timebase step waits, n ticks add n × INCR to the 96-bit Timebase, and to each PTP port's
time modulo its range. Beside the counts of elapsed and powered ticks, and what the Head Link lanes send, they
change nothing but registers that count or report time, the spans in which blocks were busy, Head Link
transmitters and PRBS checkers, and the count of free values: queues, journal, memory, frames, power and board
stay as they are. While no clock runs the Timebase stands. That a step on an empty queue is one tick is the
model's choice (log entry 3). -/
def Obligations.IdleTicks : Prop :=
  (∀ (n : Nat) (d : Dev), d.stopped = false → d.tim.step = none →
    ∃ e, Host.Core.run core n { pending := [], dev := d } = .next { pending := [], dev := e } ∧ e.tb = d.tb +
    BitVec.ofNat 96 (n * d.rd64 Pg.TMB Reg.TMB.INCR_LO Reg.TMB.INCR_HI) ∧ (∀ p < 2, (e.port p).time % portWrap =
    ((d.port p).time + n * d.rd64 Pg.TMB Reg.TMB.INCR_LO Reg.TMB.INCR_HI) % portWrap) ∧
    { d with tb := e.tb, elapsed := d.elapsed + n, regs := e.regs, free := e.free, outs := e.outs, cap := e.cap, pip := e.pip, tim := e.tim, jnl := { d.jnl with powered := d.jnl.powered + n } }
    = e ∧ e.regsBut Pg.counting = d.regsBut Pg.counting ∧ (∃ l, e.outs = l ++ d.outs) ∧
    { e.cap with groups := d.cap.groups, prbs := d.cap.prbs, prbsGen := d.cap.prbsGen } = d.cap ∧
    { e.pip with spans := d.pip.spans } = d.pip ∧ { e.tim with ports := d.tim.ports } = d.tim) ∧
  (∀ (n : Nat) (d : Dev), d.stopped = true →
    Host.Core.run core n { pending := [], dev := d } = .next
    { pending := [], dev := { d with elapsed := d.elapsed + n } })

/-- After reset nothing waits, the Timebase is 0, INCR is 1.25 ns (R350), the thermal thresholds and TJ_FAIL have
their reset values (R388 and the THM table), no queue, session, frame or Take exists, the journal is empty and
nothing has been sent. That it is the state in which PWR_OK has just risen, with every power group in PS0 and the
boot ROM at stage 0, is the model's choice (log entry 4). -/
def Obligations.ResetState : Prop :=
  (State.reset.pending = [] ∧ Sane State.reset = true ∧ State.reset.dev.stopped = false ∧ State.reset.dev.brd.stage
    = 0 ∧ State.reset.dev.tb = 0 ∧ State.reset.dev.outs = []) ∧
  (State.reset.dev.rd64 Pg.TMB Reg.TMB.INCR_LO Reg.TMB.INCR_HI = 0x140000000 ∧ State.reset.dev.rd Pg.THM
    Reg.THM.TJ_FAIL = 119 ∧ State.reset.dev.rd Pg.THM Reg.THM.THROT_C = 118 ∧ State.reset.dev.rd Pg.THM
    Reg.THM.TRIP_C = 132 ∧ State.reset.dev.rd Pg.THM Reg.THM.TRIP_MODE = 0) ∧
  (State.reset.dev.hst.queues = [] ∧ State.reset.dev.hst.sessions = [] ∧ State.reset.dev.cap.frames = [] ∧
    State.reset.dev.jnl.ledger = [] ∧ Sparse.wf State.reset.dev.hostMem (fun _ => 0) = true)

/-- A write of up to 2^64 bytes to the host memory of a partition reads back byte for byte, addresses modulo 2^64;
every other byte of that host and of every other host reads as before. Device writes, and the host's own as
commands bring them, keep the canonical form: keys strictly rise and no listed byte is 0. The store is the model's
own (log entry 5). -/
def Obligations.HostMemoryReadsBack : Prop :=
  (∀ (d : Dev) (p a i : Nat) (l : List Byte) (b : Byte), l.length ≤ 2 ^ 64 → l[i]? = some b →
    (d.hostWrite p a l).hostByte p (a + i) = b) ∧
  (∀ (d : Dev) (p q a x : Nat) (l : List Byte), (∀ i < l.length, hostKey q x ≠ hostKey p (a + i)) →
    (d.hostWrite p a l).hostByte q x = d.hostByte q x) ∧
  (∀ (d : Dev) (p a : Nat) (l : List Byte), Sparse.wf d.hostMem (fun _ => 0) = true →
    Sparse.wf (d.hostWrite p a l).hostMem (fun _ => 0) = true) ∧
  (∀ (d : Dev) (hv : HostView), Sparse.wf d.hostMem (fun _ => 0) = true →
    Sparse.wf (d.see hv).hostMem (fun _ => 0) = true ∧
    { d.see hv with hostMem := d.hostMem, hostFails := d.hostFails } = d)

/-- An error on a page whose ERR_STAT is all zero sets its bit and captures its bit number in ERR_INFO, without OVF;
an error while ERR_STAT (OVF is its bit 31) is not all zero sets its bit and OVF and leaves ERR_INFO as it is;
clearing ERR_STAT bits leaves ERR_INFO as it is. -/
def Obligations.ErrorCapture : Prop :=
  (∀ (d : Dev) (pg b : Nat), b < 31 → d.rd pg Reg.HDR.ERR_STAT = 0 → d.rd pg Reg.HDR.OVF = 0 →
    (d.error pg b).rd pg Reg.HDR.ERR_STAT = 2 ^ b ∧ (d.error pg b).rd pg Reg.HDR.OVF = 0 ∧ (d.error pg b).rd pg
    Reg.HDR.ERR_BIT = b) ∧
  (∀ (d : Dev) (pg b : Nat), b < 31 → (d.rd pg Reg.HDR.ERR_STAT ≠ 0 ∨ d.rd pg Reg.HDR.OVF ≠ 0) →
    (d.error pg b).rd pg Reg.HDR.ERR_STAT = (d.rd pg Reg.HDR.ERR_STAT ||| 2 ^ b) % 2 ^ 31 ∧ (d.error pg b).rd pg
    Reg.HDR.OVF = 1 ∧ (d.error pg b).rd pg Reg.HDR.ERR_CODE = d.rd pg Reg.HDR.ERR_CODE ∧ (d.error pg b).rd pg
    Reg.HDR.ERR_BIT = d.rd pg Reg.HDR.ERR_BIT ∧ (d.error pg b).rd pg Reg.HDR.ERR_DETAIL = d.rd pg
    Reg.HDR.ERR_DETAIL) ∧
  (∀ (s : State) (f pg v : Nat), f < 64 → pg < 256 → v < 2 ^ 32 → (Pg.family pg).1 ≠ 0x53 →
    Taken s.dev f pg 0x028 = true →
    ∃ t, exec (.registerWrite f pg 0x028 v) s = .next t ∧ t.dev.rd pg Reg.HDR.ERR_STAT = s.dev.rd pg
    Reg.HDR.ERR_STAT &&& (2 ^ 31 - 1 - v % 2 ^ 31) ∧ t.dev.rd pg Reg.HDR.ERR_CODE = s.dev.rd pg Reg.HDR.ERR_CODE ∧
    t.dev.rd pg Reg.HDR.ERR_BIT = s.dev.rd pg Reg.HDR.ERR_BIT ∧ t.dev.rd pg Reg.HDR.ERR_DETAIL = s.dev.rd pg
    Reg.HDR.ERR_DETAIL)

/-- Whatever TRIP_MODE and every threshold say: a sample in which a powered sensor that is not broken reads 140 °C
or more trips the device, which asserts THERM_TRIP_N and stops its clocks. -/
def Obligations.FixedTrip : Prop :=
  ∀ (s : State) (l : List (Option Int)) (i : Nat) (x : Int), l.length = 61 → s.dev.stopped = false → i < 61 →
    l[i]? = some (some x) → s.dev.sensed (sensorGroup i) = true → s.dev.brokenSensor i = false → 16 * 140 ≤ x →
    ∃ t, exec (.sensorSample l) s = .next t ∧ t.dev.pow.tripped = true ∧ t.dev.stopped = true ∧ Out.pin
    PIN_THERM_TRIP_N 0 false ∈ t.dev.outs ∧ t.dev.regs = s.dev.regs

/-- While a management core pair is failed FW_ACTIVATE completes with FW_SLOT. When a pair fails and the other has
not failed, the other is active afterwards, and firmware stays at its boot stage. -/
def Obligations.FailedPair : Prop :=
  (∀ (s : State) (p asn : Nat) (hv : HostView) (c : Cmd), p < 128 → asn < 2 ^ 64 →
    Starts (s.dev.see hv) p asn 0x09 c = true → s.dev.jnl.failedPairs ≠ [] →
    exec (.fwActivate p asn hv) s = .next (s.withDev ((s.dev.see hv).complete c .FW_SLOT))) ∧
  (∀ (s : State) (k : Nat), k < 2 → s.dev.stopped = false → s.dev.pair k ≠ 3 → s.dev.pair (1 - k) ≠ 3 →
    (s.dev.pair k = 0 ∨ s.dev.pair (1 - k) = 0) →
    s.dev.jnl.activation.all (fun a => a.pair ≠ 1 - k || s.dev.pair k = 0) = true →
    ∃ t, exec (.mgmtPairFailure k) s = .next t ∧ t.dev.pair k = 3 ∧ t.dev.pair (1 - k) = 0 ∧ k ∈
    t.dev.jnl.failedPairs ∧ t.dev.brd = s.dev.brd)
end

