-- ==== Sys2Proof/Laws/Run.lean ====
section
/-! SUPPORT. Run: what a meaning does with the machine, what a taken write and a starting command become. -/

namespace Sys2Proof.Laws

open Machine

@[simp] theorem withDev_dev (s : State) (d : Dev) : (s.withDev d).dev = d := rfl

@[simp] theorem withDev_pending (s : State) (d : Dev) : (s.withDev d).pending = s.pending := rfl

@[simp] theorem withDev_self (s : State) : s.withDev s.dev = s := rfl

@[simp] theorem runAlways_ok (f : Dev → Dev) (s : State) : runAlways true f s = .next (s.withDev (f s.dev)) := rfl

theorem runCmd_ok (f : Dev → Dev) (s : State) (h : s.dev.stopped = false) :
    runCmd true f s = .next (s.withDev (f s.dev)) := by
  simp [runCmd, runAlways, h, State.withDev]

theorem runQuiet_ok (f : Dev → Dev) (s : State) (h : Ready s.dev = true) :
    runQuiet true f s = .next (s.withDev (f s.dev)) := by
  simp only [Ready, Bool.and_eq_true, Bool.not_eq_true'] at h
  simp [runQuiet, runCmd, runAlways, h.1, h.2, State.withDev]

/-- A stopped device does nothing. -/
theorem runCmd_stopped (f : Dev → Dev) (s : State) (h : s.dev.stopped = true) : runCmd true f s = .next s := by
  simp [runCmd, runAlways, h]

/-- During the power-loss sequence commands of the blocks it stops do nothing. -/
theorem runQuiet_powerLoss (f : Dev → Dev) (s : State) (h : s.dev.jnl.powerLoss = true) : runQuiet true f s = .next s := by
  simp [runQuiet, runCmd, runAlways, h]

/-- A command that names no object of the part leaves the machine as it is. -/
theorem runAlways_ill (f : Dev → Dev) (s : State) : runAlways false f s = .next s := rfl

/-- Every meaning answers a next state with the same queue. -/
theorem runAlways_cases (ok : Bool) (f : Dev → Dev) (s : State) : ∃ d, runAlways ok f s = .next (s.withDev d) :=
  ⟨if ok then f s.dev else s.dev, rfl⟩

/-- Seeing the host's writes changes its memory, and which accesses fail, and nothing else. -/
theorem see_only (d : Dev) (hv : HostView) :
    ∃ m, d.see hv = { d with hostMem := m, hostFails := hv.fails, vectorsOff := hv.vectorsOff } := by
  have h : ∀ (l : List Host.Cell) (d : Dev), ∃ m, (l.foldl (fun (d : Dev) c =>
      { d with hostMem := Sparse.set d.hostMem c.1 c.2 0 }) d) = { d with hostMem := m } := by
    intro l
    induction l with
    | nil => exact fun d => ⟨d.hostMem, rfl⟩
    | cons a r ih => exact fun d => (ih { d with hostMem := Sparse.set d.hostMem a.1 a.2 0 })
  obtain ⟨m, e⟩ := h hv.writes d
  exact ⟨m, by simp only [Dev.see, e]⟩

@[simp] theorem see_stopped (d : Dev) (hv : HostView) : (d.see hv).stopped = d.stopped := by
  obtain ⟨m, e⟩ := see_only d hv
  rw [e]; rfl

@[simp] theorem see_ready (d : Dev) (hv : HostView) : Ready (d.see hv) = Ready d := by
  obtain ⟨m, e⟩ := see_only d hv
  rw [e]; rfl

theorem keep_awake (d : Dev) (h : d.allAwake = true) : d.keep = false := by
  simp only [Dev.allAwake, Bool.and_eq_true, decide_eq_true_eq] at h
  simp [Dev.keep, h.1]

theorem wake_awake (d : Dev) (pages : List Page) (r : Nat) (h : d.allAwake = true) : d.wake pages r = d := by
  simp [Dev.wake, h]

/-- A write that is taken applies its change; one of INT_STAT, INT_EN, INT_SET or ERR_STAT signals when INT_STAT & INT_EN
becomes non-zero. -/
theorem checkedWrite_taken (d : Dev) (f pg o : Nat) (k : Dev → Dev) (h : Taken d f pg o = true) :
    d.checkedWrite f pg o k = if o ∈ [0x018, 0x01C, 0x020, 0x028] then d.watch pg k else k d := by
  simp only [Taken, Bool.and_eq_true, Bool.not_eq_true', decide_eq_true_eq] at h
  obtain ⟨⟨⟨⟨⟨⟨⟨_, ha⟩, hf⟩, hp⟩, hr⟩, hw⟩, hs⟩, hm⟩ := h
  simp [Dev.checkedWrite, Dev.keepDenies, Dev.pageDrained, ha, hf, hp, hr, hs, hm, keep_awake d hw, wake_awake d _ _ hw]

theorem taken_runs {d : Dev} {f pg o : Nat} (h : Taken d f pg o = true) : d.stopped = false := by
  simp only [Taken, Bool.and_eq_true, Bool.not_eq_true'] at h
  exact h.1.1.1.1.1.1.1

theorem readable_runs {d : Dev} {f pg o : Nat} (h : Readable d f pg o = true) : d.stopped = false := by
  simp only [Readable, Bool.and_eq_true, Bool.not_eq_true'] at h
  exact h.1.1.1.1.1.1

theorem ready_runs {d : Dev} (h : Ready d = true) : d.stopped = false := by
  simp only [Ready, Bool.and_eq_true, Bool.not_eq_true'] at h
  exact h.1

theorem starts_ready {d : Dev} {p asn op : Nat} {c : Cmd} (h : Starts d p asn op c = true) : Ready d = true := by
  simp only [Starts, Bool.and_eq_true] at h
  exact h.1.1.1.1.1.1.1

theorem moves_ready {d : Dev} {p asn op : Nat} {c : Cmd} (h : Moves d p asn op c = true) : Ready d = true := by
  simp only [Moves, Bool.and_eq_true] at h
  exact h.1.1.1.1.1.1

/-- A read that is allowed. -/
theorem readDw_readable (d : Dev) (f pg o : Nat) (h : Readable d f pg o = true) : d.readDw f pg o = d.readTaken f pg o := by
  simp only [Readable, Bool.and_eq_true, Bool.not_eq_true', decide_eq_true_eq] at h
  obtain ⟨⟨⟨⟨⟨⟨_, ha⟩, hf⟩, hp⟩, hr⟩, hw⟩, hm⟩ := h
  simp [Dev.readDw, Dev.keepDenies, ha, hf, hp, hr, hm, keep_awake d hw, wake_awake d _ _ hw]

theorem work_awake (d : Dev) (pages : List Page) (h : d.allAwake = true) : d.work pages = d := by
  simp [Dev.work, h]

/-- Devices that differ in what their power groups do alone. -/
def SameButSleep (d e : Dev) : Prop :=
  ∃ en gr le, e = { d with pow := { d.pow with entering := en, groups := gr, leaving := le } }

theorem SameButSleep.refl (d : Dev) : SameButSleep d d := ⟨d.pow.entering, d.pow.groups, d.pow.leaving, rfl⟩

theorem SameButSleep.trans {a b c : Dev} (h : SameButSleep a b) (k : SameButSleep b c) : SameButSleep a c := by
  obtain ⟨_, _, _, rfl⟩ := h
  obtain ⟨e, g, l, rfl⟩ := k
  exact ⟨e, g, l, rfl⟩

theorem wakeGroup_only (d : Dev) (g r : Nat) (due : Option Nat) : SameButSleep d (d.wakeGroup g r due) := by
  unfold Dev.wakeGroup
  split
  · exact ⟨_, _, _, rfl⟩
  · split
    · exact SameButSleep.refl d
    · split
      · exact SameButSleep.refl d
      · exact ⟨_, _, _, rfl⟩

theorem wakeGroups_only (l : List Nat) (d : Dev) :
    SameButSleep d (l.foldl (fun (d : Dev) g => d.wakeGroup g 3) d) := by
  induction l generalizing d with
  | nil => exact SameButSleep.refl d
  | cons a r ih => exact (wakeGroup_only d a 3 none).trans (ih _)

/-- Work and wakes change nothing but the sleep of groups. -/
theorem work_only (d : Dev) (pages : List Page) : SameButSleep d (d.work pages) := by
  unfold Dev.work
  split
  · exact SameButSleep.refl d
  · exact wakeGroups_only _ d

theorem wake_only (d : Dev) (pages : List Page) (r : Nat) : SameButSleep d (d.wake pages r) := by
  unfold Dev.wake
  split
  · exact SameButSleep.refl d
  · exact (wakeGroup_only d 32 r none).trans (wakeGroups_only _ _)

/-- A command that starts runs its meaning. -/
theorem start_starts (d : Dev) (p asn op : Nat) (c : Cmd) (f : Dev → Cmd → Dev) (h : Starts d p asn op c = true) :
    d.start p asn op f = f d c := by
  simp only [Starts, Bool.and_eq_true, Bool.not_eq_true', decide_eq_true_eq] at h
  obtain ⟨⟨⟨⟨⟨⟨⟨_, hc⟩, _⟩, _⟩, ho⟩, hp⟩, hb⟩, he⟩ := h
  have he' : entryFault c = none := by
    cases hx : entryFault c with
    | none => rfl
    | some y => simp [hx] at he
  simp [Dev.start, hc, ho, hp, hb, he']

/-- A change that leaves no enabled cause new is just the change. -/
theorem watch_quiet (d : Dev) (pg : Page) (k : Dev → Dev) (h : d.intPending pg = true ∨ (k d).intPending pg = false) :
    d.watch pg k = k d := by
  rcases h with h | h <;> simp [Dev.watch, h]

end Sys2Proof.Laws
end

