-- ==== Sys2Proof/Laws/Exec.lean ====
section
/-! SUPPORT. Exec: what every command has in common, said once. -/

namespace Sys2Proof.Laws

open Machine

/-- A command runs one change of the device, under one of the three conditions of Run. -/
theorem exec_runs (c : Instr) :
    (c.always = true ∧ c.quiet = false ∧ ∃ f, ∀ s, exec c s = runAlways c.wellFormed f s) ∨
    (c.always = false ∧ c.quiet = false ∧ ∃ f, ∀ s, exec c s = runCmd c.wellFormed f s) ∨
    (c.always = false ∧ c.quiet = true ∧ ∃ f, ∀ s, exec c s = runQuiet c.wellFormed f s) := by
  cases c <;> simp only [exec, execQueueCreate, execQueueDelete, execIdentify, execLogRead, execFeatureSet, execFeatureGet, execFwStage,
    execFwActivate, execPartitionConfig, execPartitionSetKey, execPartitionReset, execResourceAssign,
    execEventRingSet, execEventRingDelete, execReturnCapture, execAbort, execFlush, execWrite, execRead,
    execFrameRead, execTakeOpen, execTakeClose, execTakeErase, execQuireSeal, execLutLoad, execLutInvalidate,
    execDitherLoad, execContextBind, execContextUnbind, execTapArm, execTapDisarm, execRenditionSet,
    execRenditionDelete, execEncConfig, execEncPicture, execEncCollect, execEncForceIrap, execEncEnd,
    execEncRelease, execEncLtr, execEncSinkRead, execDecConfig, execDecDecode, execDecDrain, execDecRelease,
    execFrcCompress, execFrcExpand, execAssistReply, execCommandFetch, execCqCoalesceTimeout, execSqTail,
    execCqHead, execEvtHead, execAstHead, execRegisterWrite, execBar2Access, execLowDwRead, execRcRead,
    execFenceRead, execBarrier, execPageCtrlEn, execPageDrained, execSoftRst, execPageCtrlMode, execPageOwner,
    execIntSet, execRstCtrlDev, execHbmRetire, execGrpCtrlEn, execMapReset, execVcmapWrite, execVcmapUnbind,
    execLoopback, execFarEndLoopback, execCreate, execAssemble, execKey, execDspCommit, execAuxGo, execFlowEnable,
    execIncr, execStep, execArm, execNowNsRead, execSetGo, execAdjGo, execRxPop, execTxGo, execTsPop, execPreset,
    execZArm, execCmpPairWrite, execLock, execXspCommit, execI2cTransfer, execI2cTransferEnd, execTxData,
    execRxData, execUartReceive, execBootGo, execGrpMax, execTjFail, execHifEnable, execSignalDetect, execSyncLock,
    execSyncLoss, execGathering, execTrainingTimeout, execBackoffExpiry, execFhdr, execRows, execFtrl, execAux,
    execBindOffer, execBindDone, execStatus, execSpareReady, execTeEvent, execAck, execAckTimeout, execDreq,
    execTimeSync, execLaneSpareThresh, execSpareReadyTimeout, execSpareSwitch, execSpareWait, execRowTimeout,
    execFrameTimeout, execComplete, execAdmitResend, execAdmitStall, execMipiFrameStart, execMipiLongPacket,
    execMipiEmbeddedData, execMipiFrameEnd, execSectionPassStart, execRespinPassStart, execSectionPassEnd,
    execSealPoint, execReleaseDeadline, execEchoLimit, execMismatchResend, execCalibrationApply,
    execAssistDeadline, execPetalJobStart, execPetalJobEnd, execFrcCodingStart, execFrcCodingEnd, execStripeWrite,
    execStripeDurable, execMagazineLinkUp, execMagCommandTimeout, execMagFailed, execMagMediaError,
    execRebuildDone, execFltRebuild, execEncPictureStart, execEncRowEnd, execEncPictureCommit, execDecUnitStart,
    execDecUnitEnd, execDecWatchdog, execApplyPoint, execDspFrameStart, execTeInput, execTeTimeout,
    execDspUnderrun, execHotPlug, execFeedLineSend, execFunctionLevelReset, execVfEnable, execOpenReq,
    execOpenProve, execChallengeExpiry, execRctCommand, execRctData, execRctAck, execRctClose, execRctRto,
    execSessionTimeout, execResponseHoldExpiry, execRctKeepalive, execFlowFrameStart, execEthernetLinkDown,
    execShutdown, execPwrOkRise, execBootSourceTry, execAvsRetry, execMgmtPairFailure, execSramError,
    execHbmEccError, execMramUncorr, execPllLossOfLock, execPllRelock, execEventSummaryPost, execCadenceInstant,
    execTlsFrameInstant, execTlsHoldover, execPtpRx, execPtpTxDone, execQuadratureEdge, execHallEdge, execSsiFrame,
    execIndexEdge, execZeroSpeed, execPositionSnapshot, execPositionLatch, execSynthStep, execGroupIdle,
    execCalendarEntryDue, execKeepEntry, execKeepWake, execSensorSample, execThrottleStep, execGpioEdge,
    execJtagInstruction, execBackoffReset, execPrbsLock, execPrbsLockLoss, execMipiDtSkip, execMipiHeaderError,
    execDataTransferEnd, execFrcJobStart, execFrcJobEnd, execPixelRowEnd, execAuxTransactionEnd, execCadenceEn,
    execHeadCad, execPulseEnd, execPerstNDeassert, execStackInterfaceLoss, execMirrorRestored,
    execSpineParityError, execEthernetLinkUp, execPortInService, execAvsCommand, execPowerStateEntryEnd,
    execPowerStateExitEnd, execArmedExpiry, execPerstN, execPcieHotReset, execPwrfailN, execPwrOkFall,
    execBrownOut, execHostWaitTimeout, execBootBackoff, execStandbyReady, execHandover, execHandoverTimeout,
    execPpsOut, execPpsIn, execShedStep, execPpsOutFall, execPwrfailNDeassert, execUartCharacterSent,
    execSyslogSendTimeout, execStandbyRestart] <;> first
    | exact .inr (.inl ⟨rfl, rfl, _, fun _ => rfl⟩)
    | exact .inr (.inr ⟨rfl, rfl, _, fun _ => rfl⟩)
    | exact .inl ⟨rfl, rfl, _, fun _ => rfl⟩

/-- A run of a machine goes on where its first step ends, and stops where that stops. -/
theorem core_run_next (M : Host.Core) {s t : M.State} (n : Nat) (h : M.step s = .next t) : M.run (n + 1) s = M.run n t := by
  simp only [Host.Core.run, h]

theorem core_run_fault (M : Host.Core) {s : M.State} {r : M.Fault} (n : Nat) (h : M.step s = .fault r) : M.run (n + 1) s = .fault r := by
  simp only [Host.Core.run, h]

/-- The same of the device. -/
theorem run_next {s t : State} (n : Nat) (h : step s = .next t) : Host.Core.run core (n + 1) s = Host.Core.run core n t :=
  core_run_next core n h

theorem run_fault {s : State} {r : Fault} (n : Nat) (h : step s = .fault r) : Host.Core.run core (n + 1) s = .fault r :=
  core_run_fault core n h

theorem step_front (c : Instr) (rest : List Instr) (d : Dev) :
    step { pending := c :: rest, dev := d } = exec c { pending := rest, dev := d } := rfl

theorem step_empty (d : Dev) : step { pending := [], dev := d } = .next { pending := [], dev := d.tick } := rfl

end Sys2Proof.Laws
end

