-- ==== Sys2Proof/Laws/Store.lean ====
section
/-! SUPPORT. Store: reading and writing lists of (key, value) pairs, and their canonical form. -/

namespace Sys2Proof.Laws

variable {α : Type}

theorem find_put_same (l : List (Nat × α)) (k : Nat) (v : α) : Assoc.find (Assoc.put l k v) k = some v := by
  induction l with
  | nil => simp [Assoc.put, Assoc.find]
  | cons e r ih =>
    simp only [Assoc.put]
    split
    · rename_i h; simp [Assoc.find, Nat.ne_of_lt h, ih]
    · split <;> simp [Assoc.find]

theorem find_put_ne (l : List (Nat × α)) {k k' : Nat} (v : α) (h : k' ≠ k) :
    Assoc.find (Assoc.put l k v) k' = Assoc.find l k' := by
  induction l with
  | nil => simp [Assoc.put, Assoc.find, Ne.symm h]
  | cons e r ih =>
    simp only [Assoc.put]
    split
    · simp [Assoc.find, ih]
    · split
      · rename_i h1 h2; simp [Assoc.find, Ne.symm h, h2]
      · simp [Assoc.find, Ne.symm h]

theorem find_del_same (l : List (Nat × α)) (k : Nat) : Assoc.find (Assoc.del l k) k = none := by
  induction l with
  | nil => rfl
  | cons e r ih =>
    by_cases h : e.1 = k
    · simpa [Assoc.del, h] using ih
    · simpa [Assoc.del, h, Assoc.find] using ih

theorem find_del_ne (l : List (Nat × α)) {k k' : Nat} (h : k' ≠ k) : Assoc.find (Assoc.del l k) k' = Assoc.find l k' := by
  induction l with
  | nil => rfl
  | cons e r ih =>
    by_cases he : e.1 = k
    · have : e.1 ≠ k' := fun x => h (x ▸ he)
      simp only [Assoc.del, he, List.filter_cons, Assoc.find] at ih ⊢
      simpa [this, he, Ne.symm h] using ih
    · simp only [Assoc.del, List.filter_cons, ne_eq, he, not_false_eq_true, decide_true, if_true, Assoc.find] at ih ⊢
      split
      · rfl
      · exact ih

variable [DecidableEq α]

theorem get_set_same (l : List (Nat × α)) (k : Nat) (v dflt : α) : Sparse.get (Sparse.set l k v dflt) k dflt = v := by
  unfold Sparse.set
  split
  · rename_i h; simp [Sparse.get, find_del_same, h]
  · simp [Sparse.get, find_put_same]

theorem get_set_ne (l : List (Nat × α)) {k k' : Nat} (v dflt dflt' : α) (h : k' ≠ k) :
    Sparse.get (Sparse.set l k v dflt) k' dflt' = Sparse.get l k' dflt' := by
  unfold Sparse.set
  split
  · simp [Sparse.get, find_del_ne l h]
  · simp [Sparse.get, find_put_ne l v h]

/-! ### The canonical form -/

/-- Every key of a list is above `k`. -/
def above (k : Nat) (l : List (Nat × α)) : Prop := ∀ e ∈ l, k < e.1

omit [DecidableEq α] in
theorem rising_cons (a : Nat × α) (l : List (Nat × α)) : Store.rising (a :: l) = true ↔ above a.1 l ∧ Store.rising l = true := by
  induction l generalizing a with
  | nil => simp [Store.rising, above]
  | cons b r ih =>
    simp only [Store.rising, Bool.and_eq_true, decide_eq_true_eq]
    constructor
    · rintro ⟨h, hr⟩
      refine ⟨?_, hr⟩
      intro e he
      rcases List.mem_cons.mp he with rfl | he
      · exact h
      · exact Nat.lt_trans h (((ih b).mp hr).1 e he)
    · rintro ⟨h, hr⟩
      exact ⟨h b (by simp), hr⟩

omit [DecidableEq α] in
theorem rising_del (l : List (Nat × α)) (k : Nat) (h : Store.rising l = true) : Store.rising (Assoc.del l k) = true := by
  induction l with
  | nil => exact h
  | cons a r ih =>
    obtain ⟨ha, hr⟩ := (rising_cons a r).mp h
    by_cases hk : a.1 = k
    · simpa [Assoc.del, hk] using ih hr
    · have : Assoc.del (a :: r) k = a :: Assoc.del r k := by simp [Assoc.del, hk]
      rw [this, rising_cons]
      exact ⟨fun e he => ha e ((List.mem_filter.mp he).1), ih hr⟩

omit [DecidableEq α] in
theorem mem_put (l : List (Nat × α)) (k : Nat) (v : α) (e : Nat × α) (h : e ∈ Assoc.put l k v) : e = (k, v) ∨ e ∈ l := by
  induction l with
  | nil => simpa [Assoc.put] using h
  | cons a r ih =>
    simp only [Assoc.put] at h
    split at h
    · rcases List.mem_cons.mp h with h | h
      · exact .inr (h ▸ List.mem_cons_self ..)
      · exact (ih h).imp_right (List.mem_cons_of_mem _)
    · split at h
      · exact (List.mem_cons.mp h).imp_right (List.mem_cons_of_mem _)
      · exact List.mem_cons.mp h

omit [DecidableEq α] in
theorem rising_put (l : List (Nat × α)) (k : Nat) (v : α) (h : Store.rising l = true) : Store.rising (Assoc.put l k v) = true := by
  induction l with
  | nil => rfl
  | cons a r ih =>
    obtain ⟨ha, hr⟩ := (rising_cons a r).mp h
    simp only [Assoc.put]
    split
    · rename_i hk
      rw [rising_cons]
      refine ⟨fun e he => ?_, ih hr⟩
      rcases mem_put r k v e he with rfl | he
      · exact hk
      · exact ha e he
    · split
      · rename_i h1 h2
        rw [rising_cons]
        exact ⟨fun e he => h2 ▸ ha e he, hr⟩
      · rename_i h1 h2
        rw [rising_cons]
        refine ⟨fun e he => ?_, h⟩
        rcases List.mem_cons.mp he with rfl | he
        · omega
        · have := ha e he; omega

/-- A write keeps the canonical form: keys strictly rise, and no entry equals what its unlisted key reads as. -/
theorem wf_set (l : List (Nat × α)) (k : Nat) (v : α) (dflt : Nat → α) (h : Sparse.wf l dflt = true) :
    Sparse.wf (Sparse.set l k v (dflt k)) dflt = true := by
  simp only [Sparse.wf, Bool.and_eq_true, List.all_eq_true, decide_eq_true_eq] at h ⊢
  unfold Sparse.set
  split
  · exact ⟨rising_del l k h.1, fun e he => h.2 e ((List.mem_filter.mp he).1)⟩
  · rename_i hv
    refine ⟨rising_put l k v h.1, fun e he => ?_⟩
    rcases mem_put l k v e he with rfl | he
    · exact hv
    · exact h.2 e he

end Sys2Proof.Laws
end

