-- ==== Sys2Proof/Laws/Regs.lean ====
section
/-! SUPPORT. Regs: reading a field after a write. -/

namespace Sys2Proof.Laws

open Machine

/-- A write stores the value cut to the field's width. -/
theorem rd_wr_same (d : Dev) (pg : Page) (F : Fld) (v i j : Nat) : (d.wr pg F v i j).rd pg F i j = v % 2 ^ F.width :=
  get_set_same _ _ _ _

/-- A write leaves every other field alone. -/
theorem rd_wr_ne (d : Dev) {pg pg' : Page} {F F' : Fld} (v : Nat) {i j i' j' : Nat}
    (h : regKey pg F i j ≠ regKey pg' F' i' j') : (d.wr pg' F' v i' j').rd pg F i j = d.rd pg F i j :=
  get_set_ne _ _ _ _ h

theorem rdA_wr (d : Dev) (pg pg' : Page) (F F' : Fld) (v i j i' j' : Nat) :
    (d.wr pg' F' v i' j').rdA pg F i j = d.rdA pg F i j := rfl

/-- Fields at other DWs or other bits have other keys. -/
theorem regKey_ne {pg pg' : Page} {F F' : Fld} {i j i' j' : Nat} (hl : F.lo < 32) (hl' : F'.lo < 32)
    (h : pg * 1024 + F.at (i % F.cnt) (j % F.cnt2) / 4 ≠ pg' * 1024 + F'.at (i' % F'.cnt) (j' % F'.cnt2) / 4 ∨ F.lo ≠ F'.lo) : regKey pg F i j ≠ regKey pg' F' i' j' := by
  have k : ∀ A B a b : Nat, a < 32 → b < 32 → A * 32 + a = B * 32 + b → A = B ∧ a = b := by omega
  intro e
  have e := k _ _ _ _ hl hl' e
  exact h.elim (fun x => x e.1) (fun x => x e.2)

/-- Every element of a field lies in its page. -/
def fits (F : Fld) : Bool :=
  F.lo < 32 && 0 < F.cnt && 0 < F.cnt2 && F.off + F.st * (F.cnt - 1) + F.st2 * (F.cnt2 - 1) < 4096

theorem at_lt {F : Fld} (h : fits F = true) (i j : Nat) : F.at (i % F.cnt) (j % F.cnt2) / 4 < 1024 := by
  simp only [fits, Bool.and_eq_true, decide_eq_true_eq] at h
  have hi : i % F.cnt ≤ F.cnt - 1 := by have := Nat.mod_lt i h.1.1.2; omega
  have hj : j % F.cnt2 ≤ F.cnt2 - 1 := by have := Nat.mod_lt j h.1.2; omega
  have a := Nat.mul_le_mul_left F.st hi
  have b := Nat.mul_le_mul_left F.st2 hj
  have e : F.at (i % F.cnt) (j % F.cnt2) = F.off + F.st * (i % F.cnt) + F.st2 * (j % F.cnt2) := rfl
  omega

/-- The page of a register key. -/
theorem regKey_div {pg : Page} {F : Fld} {i j : Nat} (h : fits F = true) : regKey pg F i j / 32768 = pg := by
  have a := at_lt h i j
  have l : F.lo < 32 := by simp only [fits, Bool.and_eq_true, decide_eq_true_eq] at h; exact h.1.1.1
  have k : ∀ p x y : Nat, x < 1024 → y < 32 → ((p * 1024 + x) * 32 + y) / 32768 = p := by omega
  exact k pg _ _ a l

/-- A write leaves every other page alone. -/
theorem rd_wr_page (d : Dev) {pg pg' : Page} {F F' : Fld} (v : Nat) {i j i' j' : Nat} (hf : fits F = true)
    (hf' : fits F' = true) (h : pg ≠ pg') : (d.wr pg' F' v i' j').rd pg F i j = d.rd pg F i j := by
  refine rd_wr_ne d v fun e => h ?_
  rw [← regKey_div (pg := pg) (i := i) (j := j) hf, e, regKey_div hf']

/-- Every field of every page lies in its page. -/
theorem all_fit (pg : Page) (F : Fld) (h : F ∈ Pg.fields pg) : fits F = true := by
  have k : ∀ l : List Fld, l.all fits = true → F ∈ l → fits F = true := fun l a m => List.all_eq_true.mp a F m
  simp only [Pg.fields, List.mem_append] at h
  rcases h with h | h
  · exact k _ (by decide) h
  · unfold Pg.block at h
    split at h <;> first | exact k _ (by decide) h | (split at h <;> exact k _ (by decide) h)

end Sys2Proof.Laws
end

