-- ==== Sys2Proof/Laws/Frame.lean ====
section
/-! SUPPORT. Frame: what the shared operations leave unchanged. -/

namespace Sys2Proof.Laws

open Machine

theorem filter_put {α : Type} (p : Nat → Bool) (l : List (Nat × α)) (k : Nat) (v : α) (h : p k = false) :
    (Assoc.put l k v).filter (fun e => p e.1) = l.filter fun e => p e.1 := by
  induction l with
  | nil => simp [Assoc.put, h]
  | cons a r ih =>
    simp only [Assoc.put]
    split
    · simp only [List.filter_cons, ih]
    · split
      · rename_i e; simp [h, e]
      · simp [h]

theorem filter_del {α : Type} (p : Nat → Bool) (l : List (Nat × α)) (k : Nat) (h : p k = false) :
    (Assoc.del l k).filter (fun e => p e.1) = l.filter fun e => p e.1 := by
  simp only [Assoc.del, List.filter_filter]
  apply List.filter_congr
  intro a _
  by_cases e : a.1 = k <;> simp [e, h]

theorem filter_set {α : Type} [DecidableEq α] (p : Nat → Bool) (l : List (Nat × α)) (k : Nat) (v d : α) (h : p k = false) :
    (Sparse.set l k v d).filter (fun e => p e.1) = l.filter fun e => p e.1 := by
  unfold Sparse.set
  split
  · exact filter_del p l k h
  · exact filter_put p l k v h

/-- A write leaves the other pages alone. -/
theorem wr_regsBut (d : Dev) {pgs : List Page} {pg : Page} {F : Fld} (v i j : Nat) (hf : fits F = true) (h : pg ∈ pgs) :
    (d.wr pg F v i j).regsBut pgs = d.regsBut pgs := by
  have e : keyPage (regKey pg F i j) = pg := by
    have := regKey_div (pg := pg) (i := i) (j := j) hf
    simp only [keyPage, Nat.div_div_eq_div_mul]; exact this
  exact filter_set (fun k => !pgs.contains (keyPage k)) _ _ _ _ (by simp [e, h])

/-- A page outside the named ones reads as before. -/
theorem rd_regsBut {d t : Dev} {pgs : List Page} {pg : Page} {F : Fld} (i j : Nat) (hf : fits F = true) (h : pg ∉ pgs)
    (k : t.regsBut pgs = d.regsBut pgs) : t.rd pg F i j = d.rd pg F i j := by
  have e : keyPage (regKey pg F i j) = pg := by
    have := regKey_div (pg := pg) (i := i) (j := j) hf
    simp only [keyPage, Nat.div_div_eq_div_mul]; exact this
  have g : ∀ l : List (Nat × Nat), Assoc.find (l.filter fun a => !pgs.contains (keyPage a.1)) (regKey pg F i j) =
      Assoc.find l (regKey pg F i j) := by
    intro l
    induction l with
    | nil => rfl
    | cons a r ih =>
      by_cases c : a.1 = regKey pg F i j
      · have : keyPage a.1 = pg := c ▸ e
        rw [List.filter_cons_of_pos (by simp [this, h])]
        simp [Assoc.find, c]
      · rw [List.filter_cons]
        split
        · simpa [Assoc.find, c] using ih
        · simpa [Assoc.find, c] using ih
  simp only [Dev.regsBut] at k
  simp only [Dev.rd, Sparse.get]
  rw [← g t.regs, k, g]

/-! ### Frames compose -/

theorem regsBut_mono {d t : Dev} {pgs qs : List Page} (h : ∀ x ∈ pgs, x ∈ qs) (k : t.regsBut pgs = d.regsBut pgs) :
    t.regsBut qs = d.regsBut qs := by
  have g : ∀ l : List (Nat × Nat), l.filter (fun a => !qs.contains (keyPage a.1)) =
      (l.filter fun a => !pgs.contains (keyPage a.1)).filter fun a => !qs.contains (keyPage a.1) := by
    intro l
    rw [List.filter_filter]
    apply List.filter_congr
    intro a _
    by_cases c : keyPage a.1 ∈ pgs
    · simp [c, h _ c]
    · simp [c]
  simp only [Dev.regsBut] at k ⊢
  rw [g t.regs, k, ← g]

theorem still_refl (pgs : List Page) (d : Dev) : Still pgs d d := ⟨rfl, rfl⟩

theorem still_trans {pgs : List Page} {d t u : Dev} (h : Still pgs d t) (k : Still pgs t u) : Still pgs d u := by
  refine ⟨?_, k.2.trans h.2⟩
  have a := h.1
  have b := k.1
  rw [← a] at b
  exact b

theorem still_mono {pgs qs : List Page} {d t : Dev} (h : ∀ x ∈ pgs, x ∈ qs) (k : Still pgs d t) : Still qs d t :=
  ⟨k.1, regsBut_mono h k.2⟩

theorem frame_refl (pgs : List Page) (d : Dev) : Framed pgs d d := ⟨rfl, rfl⟩

theorem frame_trans {pgs : List Page} {d t u : Dev} (h : Framed pgs d t) (k : Framed pgs t u) : Framed pgs d u := by
  refine ⟨?_, k.2.trans h.2⟩
  have a := h.1
  have b := k.1
  rw [← a] at b
  exact b

theorem frame_mono {pgs qs : List Page} {d t : Dev} (h : ∀ x ∈ pgs, x ∈ qs) (k : Framed pgs d t) : Framed qs d t :=
  ⟨k.1, regsBut_mono (by simpa using fun x a => Or.inr (Or.inr (Or.inr (h x a)))) k.2⟩

theorem frame_of_still {pgs : List Page} {d t : Dev} (k : Still pgs d t) : Framed pgs d t := by
  obtain ⟨a, b⟩ := k
  refine ⟨?_, regsBut_mono (fun x h => by simp [h]) b⟩
  rw [← a]; rfl

/-! ### The shared operations -/

theorem wr_still (d : Dev) {pgs : List Page} {pg : Page} {F : Fld} (v i j : Nat) (hf : fits F = true) (h : pg ∈ pgs) :
    Still pgs d (d.wr pg F v i j) := ⟨rfl, wr_regsBut d v i j hf h⟩

theorem wr_frame (d : Dev) {pgs : List Page} {pg : Page} {F : Fld} (v i j : Nat) (hf : fits F = true)
    (h : pg ∈ Pg.EVT :: Pg.SYS :: Pg.NVS :: pgs) : Framed pgs d (d.wr pg F v i j) := ⟨rfl, wr_regsBut d v i j hf h⟩

theorem bump_frame (d : Dev) {pgs : List Page} {pg : Page} {F : Fld} (i n : Nat) (hf : fits F = true)
    (h : pg ∈ Pg.EVT :: Pg.SYS :: Pg.NVS :: pgs) : Framed pgs d (d.bump pg F i n) := wr_frame d _ _ _ hf h

theorem emit_frame (pgs : List Page) (d : Dev) (o : Out) : Framed pgs d (d.emit o) := ⟨rfl, rfl⟩

theorem console_frame (pgs : List Page) (d : Dev) (k v : Nat) : Framed pgs d (d.console k v) := by
  unfold Dev.console
  split
  · exact frame_refl _ _
  · exact emit_frame _ _ _

theorem freeStep_frame (pgs : List Page) (d : Dev) : Framed pgs d d.freeStep := ⟨rfl, rfl⟩

theorem jnl_frame (pgs : List Page) (d : Dev) (j : JournalSt) : Framed pgs d { d with jnl := j } := ⟨rfl, rfl⟩

theorem setPart_frame (pgs : List Page) (d : Dev) (p : PartId) (r : PartRec) : Framed pgs d (d.setPart p r) := ⟨rfl, rfl⟩

theorem setSession_frame (pgs : List Page) (d : Dev) (i : Nat) (s : Session) : Framed pgs d (d.setSession i s) := ⟨rfl, rfl⟩

theorem msix_frame (pgs : List Page) (d : Dev) (f v : Nat) : Framed pgs d (d.msix f v) := by
  unfold Dev.msix
  split
  · exact emit_frame _ _ _
  · exact frame_refl _ _

theorem hostWrite_only (p : PartId) (l : List Byte) (d : Dev) (a : Nat) : ∃ m, d.hostWrite p a l = { d with hostMem := m } := by
  induction l generalizing d a with
  | nil => exact ⟨d.hostMem, rfl⟩
  | cons b r ih => exact ih (d.hostPut p a b) (a + 1)

theorem hostWrite_frame (pgs : List Page) (d : Dev) (p : PartId) (a : Nat) (l : List Byte) :
    Framed pgs d (d.hostWrite p a l) := by
  obtain ⟨m, e⟩ := hostWrite_only p l d a
  rw [e]; exact ⟨rfl, rfl⟩

theorem record_frame (pgs : List Page) (d : Dev) (p asn : Nat) (b : Body) : Framed pgs d (d.record p asn b) := by
  unfold Dev.record
  refine frame_trans ?_ (wr_frame _ _ _ _ (by decide) (by simp))
  refine frame_trans ?_ (bump_frame _ _ _ (by decide) (by simp))
  exact ⟨rfl, rfl⟩

theorem reclaim_frame (pgs : List Page) (d : Dev) (p asn : Nat) : Framed pgs d (d.reclaim p asn) := by
  unfold Dev.reclaim
  split
  · exact ⟨rfl, rfl⟩
  · exact frame_refl _ _

theorem rctIssue_frame (pgs : List Page) (d : Dev) (i : Nat) (s : Session) (x : RctPacket) :
    Framed pgs d (d.rctIssue i s x) := by
  exact frame_trans (setSession_frame _ d i _) (emit_frame _ _ _)

theorem rctSend_frame (pgs : List Page) (d : Dev) (i ty : Nat) (l : List Byte) (o : Option Orphan) :
    Framed pgs d (d.rctSend i ty l o) := by
  unfold Dev.rctSend
  repeat' (first | exact frame_refl _ _ | exact setSession_frame _ _ _ _ | exact emit_frame _ _ _ | exact rctIssue_frame _ _ _ _ _ | split)

theorem ringPut_frame (pgs : List Page) (d : Dev) (p : PartId) (r : Ring) (n k : Nat) (rec : Bool → List Byte) :
    Framed pgs d (d.ringPut p r n k rec).1 := by
  unfold Dev.ringPut
  dsimp only
  repeat' (first | exact frame_refl _ _ | exact hostWrite_frame _ _ _ _ _ | exact rctSend_frame _ _ _ _ _ _ | exact msix_frame _ _ _ _ |
    exact frame_trans (hostWrite_frame _ _ _ _ _) (msix_frame _ _ _ _) | split)

theorem loseEvent_frame (pgs : List Page) (d : Dev) (p : PartId) : Framed pgs d (d.loseEvent p) := by
  unfold Dev.loseEvent
  have a : Framed pgs d (((d.bump Pg.EVT Reg.EVT.LOSS_CNT p).wr Pg.EVT Reg.EVT.LOSS 1 p).wr Pg.SYS Reg.SYS.EVENT_LOSS 1) :=
    frame_trans (bump_frame _ _ _ (by decide) (by simp)) (frame_trans (wr_frame _ _ _ _ (by decide) (by simp))
      (wr_frame _ _ _ _ (by decide) (by simp)))
  exact frame_trans a (frame_trans (wr_frame _ _ _ _ (by decide) (by simp)) (setPart_frame _ _ _ _))

theorem postEvent_frame (pgs : List Page) (d : Dev) (p : PartId) (e : Event) : Framed pgs d (d.postEvent p e) := by
  have lose := loseEvent_frame pgs d p
  unfold Dev.postEvent
  generalize d.loseEvent p = x at lose ⊢
  dsimp only
  repeat' (first | exact lose | exact frame_refl _ _ | exact bump_frame _ _ _ (by decide) (by simp) |
    exact frame_trans (bump_frame _ _ _ (by decide) (by simp)) (setPart_frame _ _ _ _) |
    exact frame_trans (ringPut_frame _ _ _ _ _ _ _) (setPart_frame _ _ _ _) | split)

theorem mirror_frame (pgs : List Page) (d : Dev) (e : Event) : Framed pgs d (d.mirror e) := by
  unfold Dev.mirror Dev.sendSyslog
  dsimp only
  repeat' (first | exact frame_refl _ _ | exact emit_frame _ _ _ | exact ⟨rfl, rfl⟩ | split)

theorem lossInterrupt_frame (pgs : List Page) (d : Dev) : Framed pgs d d.lossInterrupt := by
  unfold Dev.lossInterrupt
  dsimp only
  split
  · exact frame_trans (msix_frame _ _ _ _) (frame_trans (postEvent_frame _ _ _ _) (mirror_frame _ _ _))
  · exact msix_frame _ _ _ _

/-- An event reaches rings, summaries, sessions, syslog, the journal and the registers of EVT, SYS and NVS, nothing else. -/
theorem event_frame (pgs : List Page) (d : Dev) (p : PartId) (pg : Page) (c k : Nat) (l : List Byte) (n : Nat) :
    Framed pgs d (d.event p pg c k l n) := by
  unfold Dev.event
  dsimp only
  have a : Framed pgs d (if l = [] then (d.freeStep.freeStep, leBytes 8 (d.freeNow 64) ++ leBytes 8 (d.freeStep.freeNow 64)) else (d, l)).1 := by
    split
    · exact frame_trans (freeStep_frame _ _) (freeStep_frame _ _)
    · exact frame_refl _ _
  revert a
  generalize (if l = [] then (d.freeStep.freeStep, leBytes 8 (d.freeNow 64) ++ leBytes 8 (d.freeStep.freeNow 64)) else (d, l)) = x
  intro a
  have f : ∀ y : Dev, Framed pgs d y → ∀ e : Event, Framed pgs d (if c = 0 ∧ p ≠ 0 then (y.postEvent p e).postEvent 0 e else y.postEvent p e) := by
    intro y h e
    split
    · exact frame_trans h (frame_trans (postEvent_frame _ _ _ _) (postEvent_frame _ _ _ _))
    · exact frame_trans h (postEvent_frame _ _ _ _)
  have g : ∀ y e, Framed pgs d y → Framed pgs d (y.mirror e).lossInterrupt ∧ Framed pgs d (y.mirror e) := fun y e h =>
    ⟨frame_trans (frame_trans h (mirror_frame _ _ _)) (lossInterrupt_frame _ _), frame_trans h (mirror_frame _ _ _)⟩
  suffices h : ∀ y e b, Framed pgs d y →
      Framed pgs d (if b = true then ((if c = 0 ∧ p ≠ 0 then (y.postEvent p e).postEvent 0 e else y.postEvent p e).mirror e).lossInterrupt
        else (if c = 0 ∧ p ≠ 0 then (y.postEvent p e).postEvent 0 e else y.postEvent p e).mirror e) by
    refine h _ _ _ ?_
    split
    · exact frame_trans a (frame_trans (jnl_frame _ _ _) (frame_trans (bump_frame _ _ _ (by decide) (by simp)) (console_frame _ _ _ _)))
    · exact a
  intro y e b h
  split
  · exact (g _ _ (f y h e)).1
  · exact (g _ _ (f y h e)).2

theorem interrupt_frame (pgs : List Page) (d : Dev) (pg : Page) : Framed pgs d (d.interrupt pg) := by
  unfold Dev.interrupt
  dsimp only
  split
  · exact frame_trans (msix_frame _ _ _ _) (event_frame _ _ _ _ _ _ _ _)
  · exact msix_frame _ _ _ _

/-- A watched change reaches what the change reaches, and what its interrupt does. -/
theorem watch_frame {pgs : List Page} (d : Dev) (pg : Page) (k : Dev → Dev) (h : Framed pgs d (k d)) :
    Framed pgs d (d.watch pg k) := by
  unfold Dev.watch
  dsimp only
  split
  · exact frame_trans h (interrupt_frame _ _ _)
  · exact h

theorem raise_frame {pgs : List Page} (d : Dev) (pg : Page) (b : Nat) (h : pg ∈ Pg.EVT :: Pg.SYS :: Pg.NVS :: pgs) :
    Framed pgs d (d.raise pg b) := watch_frame _ _ _ (wr_frame _ _ _ _ (by decide) h)

theorem error_frame {pgs : List Page} (d : Dev) (pg : Page) (b : Nat) (h : pg ∈ Pg.EVT :: Pg.SYS :: Pg.NVS :: pgs) :
    Framed pgs d (d.error pg b) := by
  refine watch_frame _ _ _ ?_
  dsimp only
  split
  · exact frame_trans (wr_frame _ _ _ _ (by decide) h) (frame_trans (wr_frame _ _ _ _ (by decide) h)
      (frame_trans (wr_frame _ _ _ _ (by decide) h) (frame_trans (wr_frame _ _ _ _ (by decide) h) (freeStep_frame _ _))))
  · exact frame_trans (wr_frame _ _ _ _ (by decide) h) (wr_frame _ _ _ _ (by decide) h)

theorem blockFault_frame {pgs : List Page} (d : Dev) (pg : Page) (h : pg ∈ Pg.EVT :: Pg.SYS :: Pg.NVS :: pgs) :
    Framed pgs d (d.blockFault pg) := frame_trans (wr_frame _ _ _ _ (by decide) h) (event_frame _ _ _ _ _ _ _ _)

theorem journal_frame (pgs : List Page) (d : Dev) (p asn : Nat) (b : Body) : Framed pgs d (d.journal p asn b) := by
  unfold Dev.journal
  dsimp only
  split
  · refine frame_trans (record_frame _ d p asn b) ?_
    refine frame_trans (jnl_frame _ _ { (d.record p asn b).jnl with stalls := (d.record p asn b).jnl.stalls + 1 }) ?_
    exact frame_trans (bump_frame _ _ _ (by decide) (by simp)) (raise_frame _ _ _ (by simp))
  · exact record_frame _ _ _ _ _

end Sys2Proof.Laws
end

