-- ==== Sys2Proof/Laws/Memory.lean ====
section
/-! SUPPORT. Memory: the host's memory and the port times, read after one write. -/

namespace Sys2Proof.Laws

open Machine

theorem hostByte_put_same (d : Dev) (p a : Nat) (b : Byte) : (d.hostPut p a b).hostByte p a = b := get_set_same _ _ _ _

theorem hostByte_put_ne (d : Dev) {p q a x : Nat} (b : Byte) (h : hostKey q x ≠ hostKey p a) :
    (d.hostPut p a b).hostByte q x = d.hostByte q x := get_set_ne _ _ _ _ h

/-- Bytes of one host have different cells unless their addresses agree modulo 2^64; bytes of different hosts always. -/
theorem hostKey_inj {p q a x : Nat} : hostKey p a = hostKey q x ↔ p = q ∧ a % 2 ^ 64 = x % 2 ^ 64 := by
  unfold hostKey; omega

/-- A byte written keeps the canonical form. -/
theorem wf_hostPut (d : Dev) (p a : Nat) (b : Byte) (h : Sparse.wf d.hostMem (fun _ => 0) = true) :
    Sparse.wf (d.hostPut p a b).hostMem (fun _ => 0) = true := wf_set d.hostMem (hostKey p a) b (fun _ => 0) h

theorem wf_reset : Sparse.wf State.reset.dev.hostMem (fun _ => 0) = true := rfl

end Sys2Proof.Laws
end

