-- ==== Sys2Proof/Laws/State.lean ====
section
/-! SUPPORT. State: what each named update of the device leaves alone, field by field. -/

namespace Sys2Proof.Laws

open Machine

variable (d : Dev)

@[simp] theorem wr_act (pg : Page) (F : Fld) (v i j : Nat) : (d.wr pg F v i j).act = d.act := rfl
@[simp] theorem wr_latched (pg : Page) (F : Fld) (v i j : Nat) : (d.wr pg F v i j).latched = d.latched := rfl
@[simp] theorem wr_lowHeld (pg : Page) (F : Fld) (v i j : Nat) : (d.wr pg F v i j).lowHeld = d.lowHeld := rfl
@[simp] theorem wr_hostMem (pg : Page) (F : Fld) (v i j : Nat) : (d.wr pg F v i j).hostMem = d.hostMem := rfl
@[simp] theorem wr_hostFails (pg : Page) (F : Fld) (v i j : Nat) : (d.wr pg F v i j).hostFails = d.hostFails := rfl
@[simp] theorem wr_vectorsOff (pg : Page) (F : Fld) (v i j : Nat) : (d.wr pg F v i j).vectorsOff = d.vectorsOff := rfl
@[simp] theorem wr_reply (pg : Page) (F : Fld) (v i j : Nat) : (d.wr pg F v i j).reply = d.reply := rfl
@[simp] theorem wr_outs (pg : Page) (F : Fld) (v i j : Nat) : (d.wr pg F v i j).outs = d.outs := rfl
@[simp] theorem wr_free (pg : Page) (F : Fld) (v i j : Nat) : (d.wr pg F v i j).free = d.free := rfl
@[simp] theorem wr_elapsed (pg : Page) (F : Fld) (v i j : Nat) : (d.wr pg F v i j).elapsed = d.elapsed := rfl
@[simp] theorem wr_tb (pg : Page) (F : Fld) (v i j : Nat) : (d.wr pg F v i j).tb = d.tb := rfl
@[simp] theorem wr_hst (pg : Page) (F : Fld) (v i j : Nat) : (d.wr pg F v i j).hst = d.hst := rfl
@[simp] theorem wr_jnl (pg : Page) (F : Fld) (v i j : Nat) : (d.wr pg F v i j).jnl = d.jnl := rfl
@[simp] theorem wr_cap (pg : Page) (F : Fld) (v i j : Nat) : (d.wr pg F v i j).cap = d.cap := rfl
@[simp] theorem wr_tim (pg : Page) (F : Fld) (v i j : Nat) : (d.wr pg F v i j).tim = d.tim := rfl
@[simp] theorem wr_pip (pg : Page) (F : Fld) (v i j : Nat) : (d.wr pg F v i j).pip = d.pip := rfl
@[simp] theorem wr_pow (pg : Page) (F : Fld) (v i j : Nat) : (d.wr pg F v i j).pow = d.pow := rfl
@[simp] theorem wr_brd (pg : Page) (F : Fld) (v i j : Nat) : (d.wr pg F v i j).brd = d.brd := rfl
@[simp] theorem wr_stopped (pg : Page) (F : Fld) (v i j : Nat) : (d.wr pg F v i j).stopped = d.stopped := rfl
@[simp] theorem wr_now (pg : Page) (F : Fld) (v i j : Nat) : (d.wr pg F v i j).now = d.now := rfl
@[simp] theorem wr_ns (pg : Page) (F : Fld) (v i j : Nat) : (d.wr pg F v i j).ns = d.ns := rfl

@[simp] theorem wrA_regs (pg : Page) (F : Fld) (v i j : Nat) : (d.wrA pg F v i j).regs = d.regs := rfl
@[simp] theorem wrA_latched (pg : Page) (F : Fld) (v i j : Nat) : (d.wrA pg F v i j).latched = d.latched := rfl
@[simp] theorem wrA_lowHeld (pg : Page) (F : Fld) (v i j : Nat) : (d.wrA pg F v i j).lowHeld = d.lowHeld := rfl
@[simp] theorem wrA_hostMem (pg : Page) (F : Fld) (v i j : Nat) : (d.wrA pg F v i j).hostMem = d.hostMem := rfl
@[simp] theorem wrA_hostFails (pg : Page) (F : Fld) (v i j : Nat) : (d.wrA pg F v i j).hostFails = d.hostFails := rfl
@[simp] theorem wrA_vectorsOff (pg : Page) (F : Fld) (v i j : Nat) : (d.wrA pg F v i j).vectorsOff = d.vectorsOff := rfl
@[simp] theorem wrA_reply (pg : Page) (F : Fld) (v i j : Nat) : (d.wrA pg F v i j).reply = d.reply := rfl
@[simp] theorem wrA_outs (pg : Page) (F : Fld) (v i j : Nat) : (d.wrA pg F v i j).outs = d.outs := rfl
@[simp] theorem wrA_free (pg : Page) (F : Fld) (v i j : Nat) : (d.wrA pg F v i j).free = d.free := rfl
@[simp] theorem wrA_elapsed (pg : Page) (F : Fld) (v i j : Nat) : (d.wrA pg F v i j).elapsed = d.elapsed := rfl
@[simp] theorem wrA_tb (pg : Page) (F : Fld) (v i j : Nat) : (d.wrA pg F v i j).tb = d.tb := rfl
@[simp] theorem wrA_hst (pg : Page) (F : Fld) (v i j : Nat) : (d.wrA pg F v i j).hst = d.hst := rfl
@[simp] theorem wrA_jnl (pg : Page) (F : Fld) (v i j : Nat) : (d.wrA pg F v i j).jnl = d.jnl := rfl
@[simp] theorem wrA_cap (pg : Page) (F : Fld) (v i j : Nat) : (d.wrA pg F v i j).cap = d.cap := rfl
@[simp] theorem wrA_tim (pg : Page) (F : Fld) (v i j : Nat) : (d.wrA pg F v i j).tim = d.tim := rfl
@[simp] theorem wrA_pip (pg : Page) (F : Fld) (v i j : Nat) : (d.wrA pg F v i j).pip = d.pip := rfl
@[simp] theorem wrA_pow (pg : Page) (F : Fld) (v i j : Nat) : (d.wrA pg F v i j).pow = d.pow := rfl
@[simp] theorem wrA_brd (pg : Page) (F : Fld) (v i j : Nat) : (d.wrA pg F v i j).brd = d.brd := rfl
@[simp] theorem wrA_stopped (pg : Page) (F : Fld) (v i j : Nat) : (d.wrA pg F v i j).stopped = d.stopped := rfl
@[simp] theorem wrA_now (pg : Page) (F : Fld) (v i j : Nat) : (d.wrA pg F v i j).now = d.now := rfl
@[simp] theorem wrA_ns (pg : Page) (F : Fld) (v i j : Nat) : (d.wrA pg F v i j).ns = d.ns := rfl
@[simp] theorem wrA_rd (pg : Page) (F : Fld) (v i j : Nat) (pg' : Page) (F' : Fld) (i' j' : Nat) : (d.wrA pg F v i j).rd pg' F' i' j' = d.rd pg' F' i' j' := rfl

@[simp] theorem emit_regs (o : Out) : (d.emit o).regs = d.regs := rfl
@[simp] theorem emit_act (o : Out) : (d.emit o).act = d.act := rfl
@[simp] theorem emit_latched (o : Out) : (d.emit o).latched = d.latched := rfl
@[simp] theorem emit_lowHeld (o : Out) : (d.emit o).lowHeld = d.lowHeld := rfl
@[simp] theorem emit_hostMem (o : Out) : (d.emit o).hostMem = d.hostMem := rfl
@[simp] theorem emit_hostFails (o : Out) : (d.emit o).hostFails = d.hostFails := rfl
@[simp] theorem emit_vectorsOff (o : Out) : (d.emit o).vectorsOff = d.vectorsOff := rfl
@[simp] theorem emit_reply (o : Out) : (d.emit o).reply = d.reply := rfl
@[simp] theorem emit_free (o : Out) : (d.emit o).free = d.free := rfl
@[simp] theorem emit_elapsed (o : Out) : (d.emit o).elapsed = d.elapsed := rfl
@[simp] theorem emit_tb (o : Out) : (d.emit o).tb = d.tb := rfl
@[simp] theorem emit_hst (o : Out) : (d.emit o).hst = d.hst := rfl
@[simp] theorem emit_jnl (o : Out) : (d.emit o).jnl = d.jnl := rfl
@[simp] theorem emit_cap (o : Out) : (d.emit o).cap = d.cap := rfl
@[simp] theorem emit_tim (o : Out) : (d.emit o).tim = d.tim := rfl
@[simp] theorem emit_pip (o : Out) : (d.emit o).pip = d.pip := rfl
@[simp] theorem emit_pow (o : Out) : (d.emit o).pow = d.pow := rfl
@[simp] theorem emit_brd (o : Out) : (d.emit o).brd = d.brd := rfl
@[simp] theorem emit_stopped (o : Out) : (d.emit o).stopped = d.stopped := rfl
@[simp] theorem emit_now (o : Out) : (d.emit o).now = d.now := rfl
@[simp] theorem emit_ns (o : Out) : (d.emit o).ns = d.ns := rfl
@[simp] theorem emit_rd (o : Out) (pg' : Page) (F' : Fld) (i' j' : Nat) : (d.emit o).rd pg' F' i' j' = d.rd pg' F' i' j' := rfl

@[simp] theorem freeStep_regs : (d.freeStep).regs = d.regs := rfl
@[simp] theorem freeStep_act : (d.freeStep).act = d.act := rfl
@[simp] theorem freeStep_latched : (d.freeStep).latched = d.latched := rfl
@[simp] theorem freeStep_lowHeld : (d.freeStep).lowHeld = d.lowHeld := rfl
@[simp] theorem freeStep_hostMem : (d.freeStep).hostMem = d.hostMem := rfl
@[simp] theorem freeStep_hostFails : (d.freeStep).hostFails = d.hostFails := rfl
@[simp] theorem freeStep_vectorsOff : (d.freeStep).vectorsOff = d.vectorsOff := rfl
@[simp] theorem freeStep_reply : (d.freeStep).reply = d.reply := rfl
@[simp] theorem freeStep_outs : (d.freeStep).outs = d.outs := rfl
@[simp] theorem freeStep_elapsed : (d.freeStep).elapsed = d.elapsed := rfl
@[simp] theorem freeStep_tb : (d.freeStep).tb = d.tb := rfl
@[simp] theorem freeStep_hst : (d.freeStep).hst = d.hst := rfl
@[simp] theorem freeStep_jnl : (d.freeStep).jnl = d.jnl := rfl
@[simp] theorem freeStep_cap : (d.freeStep).cap = d.cap := rfl
@[simp] theorem freeStep_tim : (d.freeStep).tim = d.tim := rfl
@[simp] theorem freeStep_pip : (d.freeStep).pip = d.pip := rfl
@[simp] theorem freeStep_pow : (d.freeStep).pow = d.pow := rfl
@[simp] theorem freeStep_brd : (d.freeStep).brd = d.brd := rfl
@[simp] theorem freeStep_stopped  : (d.freeStep).stopped = d.stopped := rfl
@[simp] theorem freeStep_now  : (d.freeStep).now = d.now := rfl
@[simp] theorem freeStep_ns  : (d.freeStep).ns = d.ns := rfl
@[simp] theorem freeStep_rd  (pg' : Page) (F' : Fld) (i' j' : Nat) : (d.freeStep).rd pg' F' i' j' = d.rd pg' F' i' j' := rfl

@[simp] theorem hostPut_regs (p : PartId) (a : Nat) (b : Byte) : (d.hostPut p a b).regs = d.regs := rfl
@[simp] theorem hostPut_act (p : PartId) (a : Nat) (b : Byte) : (d.hostPut p a b).act = d.act := rfl
@[simp] theorem hostPut_latched (p : PartId) (a : Nat) (b : Byte) : (d.hostPut p a b).latched = d.latched := rfl
@[simp] theorem hostPut_lowHeld (p : PartId) (a : Nat) (b : Byte) : (d.hostPut p a b).lowHeld = d.lowHeld := rfl
@[simp] theorem hostPut_hostFails (p : PartId) (a : Nat) (b : Byte) : (d.hostPut p a b).hostFails = d.hostFails := rfl
@[simp] theorem hostPut_vectorsOff (p : PartId) (a : Nat) (b : Byte) : (d.hostPut p a b).vectorsOff = d.vectorsOff := rfl
@[simp] theorem hostPut_reply (p : PartId) (a : Nat) (b : Byte) : (d.hostPut p a b).reply = d.reply := rfl
@[simp] theorem hostPut_outs (p : PartId) (a : Nat) (b : Byte) : (d.hostPut p a b).outs = d.outs := rfl
@[simp] theorem hostPut_free (p : PartId) (a : Nat) (b : Byte) : (d.hostPut p a b).free = d.free := rfl
@[simp] theorem hostPut_elapsed (p : PartId) (a : Nat) (b : Byte) : (d.hostPut p a b).elapsed = d.elapsed := rfl
@[simp] theorem hostPut_tb (p : PartId) (a : Nat) (b : Byte) : (d.hostPut p a b).tb = d.tb := rfl
@[simp] theorem hostPut_hst (p : PartId) (a : Nat) (b : Byte) : (d.hostPut p a b).hst = d.hst := rfl
@[simp] theorem hostPut_jnl (p : PartId) (a : Nat) (b : Byte) : (d.hostPut p a b).jnl = d.jnl := rfl
@[simp] theorem hostPut_cap (p : PartId) (a : Nat) (b : Byte) : (d.hostPut p a b).cap = d.cap := rfl
@[simp] theorem hostPut_tim (p : PartId) (a : Nat) (b : Byte) : (d.hostPut p a b).tim = d.tim := rfl
@[simp] theorem hostPut_pip (p : PartId) (a : Nat) (b : Byte) : (d.hostPut p a b).pip = d.pip := rfl
@[simp] theorem hostPut_pow (p : PartId) (a : Nat) (b : Byte) : (d.hostPut p a b).pow = d.pow := rfl
@[simp] theorem hostPut_brd (p : PartId) (a : Nat) (b : Byte) : (d.hostPut p a b).brd = d.brd := rfl
@[simp] theorem hostPut_stopped (p : PartId) (a : Nat) (b : Byte) : (d.hostPut p a b).stopped = d.stopped := rfl
@[simp] theorem hostPut_now (p : PartId) (a : Nat) (b : Byte) : (d.hostPut p a b).now = d.now := rfl
@[simp] theorem hostPut_ns (p : PartId) (a : Nat) (b : Byte) : (d.hostPut p a b).ns = d.ns := rfl
@[simp] theorem hostPut_rd (p : PartId) (a : Nat) (b : Byte) (pg' : Page) (F' : Fld) (i' j' : Nat) : (d.hostPut p a b).rd pg' F' i' j' = d.rd pg' F' i' j' := rfl

@[simp] theorem setPart_regs (p : PartId) (r : PartRec) : (d.setPart p r).regs = d.regs := rfl
@[simp] theorem setPart_act (p : PartId) (r : PartRec) : (d.setPart p r).act = d.act := rfl
@[simp] theorem setPart_latched (p : PartId) (r : PartRec) : (d.setPart p r).latched = d.latched := rfl
@[simp] theorem setPart_lowHeld (p : PartId) (r : PartRec) : (d.setPart p r).lowHeld = d.lowHeld := rfl
@[simp] theorem setPart_hostMem (p : PartId) (r : PartRec) : (d.setPart p r).hostMem = d.hostMem := rfl
@[simp] theorem setPart_hostFails (p : PartId) (r : PartRec) : (d.setPart p r).hostFails = d.hostFails := rfl
@[simp] theorem setPart_vectorsOff (p : PartId) (r : PartRec) : (d.setPart p r).vectorsOff = d.vectorsOff := rfl
@[simp] theorem setPart_reply (p : PartId) (r : PartRec) : (d.setPart p r).reply = d.reply := rfl
@[simp] theorem setPart_outs (p : PartId) (r : PartRec) : (d.setPart p r).outs = d.outs := rfl
@[simp] theorem setPart_free (p : PartId) (r : PartRec) : (d.setPart p r).free = d.free := rfl
@[simp] theorem setPart_elapsed (p : PartId) (r : PartRec) : (d.setPart p r).elapsed = d.elapsed := rfl
@[simp] theorem setPart_tb (p : PartId) (r : PartRec) : (d.setPart p r).tb = d.tb := rfl
@[simp] theorem setPart_jnl (p : PartId) (r : PartRec) : (d.setPart p r).jnl = d.jnl := rfl
@[simp] theorem setPart_cap (p : PartId) (r : PartRec) : (d.setPart p r).cap = d.cap := rfl
@[simp] theorem setPart_tim (p : PartId) (r : PartRec) : (d.setPart p r).tim = d.tim := rfl
@[simp] theorem setPart_pip (p : PartId) (r : PartRec) : (d.setPart p r).pip = d.pip := rfl
@[simp] theorem setPart_pow (p : PartId) (r : PartRec) : (d.setPart p r).pow = d.pow := rfl
@[simp] theorem setPart_brd (p : PartId) (r : PartRec) : (d.setPart p r).brd = d.brd := rfl
@[simp] theorem setPart_stopped (p : PartId) (r : PartRec) : (d.setPart p r).stopped = d.stopped := rfl
@[simp] theorem setPart_now (p : PartId) (r : PartRec) : (d.setPart p r).now = d.now := rfl
@[simp] theorem setPart_ns (p : PartId) (r : PartRec) : (d.setPart p r).ns = d.ns := rfl
@[simp] theorem setPart_rd (p : PartId) (r : PartRec) (pg' : Page) (F' : Fld) (i' j' : Nat) : (d.setPart p r).rd pg' F' i' j' = d.rd pg' F' i' j' := rfl

@[simp] theorem setQueue_regs (p q : Nat) (x : Queue) : (d.setQueue p q x).regs = d.regs := rfl
@[simp] theorem setQueue_act (p q : Nat) (x : Queue) : (d.setQueue p q x).act = d.act := rfl
@[simp] theorem setQueue_latched (p q : Nat) (x : Queue) : (d.setQueue p q x).latched = d.latched := rfl
@[simp] theorem setQueue_lowHeld (p q : Nat) (x : Queue) : (d.setQueue p q x).lowHeld = d.lowHeld := rfl
@[simp] theorem setQueue_hostMem (p q : Nat) (x : Queue) : (d.setQueue p q x).hostMem = d.hostMem := rfl
@[simp] theorem setQueue_hostFails (p q : Nat) (x : Queue) : (d.setQueue p q x).hostFails = d.hostFails := rfl
@[simp] theorem setQueue_vectorsOff (p q : Nat) (x : Queue) : (d.setQueue p q x).vectorsOff = d.vectorsOff := rfl
@[simp] theorem setQueue_reply (p q : Nat) (x : Queue) : (d.setQueue p q x).reply = d.reply := rfl
@[simp] theorem setQueue_outs (p q : Nat) (x : Queue) : (d.setQueue p q x).outs = d.outs := rfl
@[simp] theorem setQueue_free (p q : Nat) (x : Queue) : (d.setQueue p q x).free = d.free := rfl
@[simp] theorem setQueue_elapsed (p q : Nat) (x : Queue) : (d.setQueue p q x).elapsed = d.elapsed := rfl
@[simp] theorem setQueue_tb (p q : Nat) (x : Queue) : (d.setQueue p q x).tb = d.tb := rfl
@[simp] theorem setQueue_jnl (p q : Nat) (x : Queue) : (d.setQueue p q x).jnl = d.jnl := rfl
@[simp] theorem setQueue_cap (p q : Nat) (x : Queue) : (d.setQueue p q x).cap = d.cap := rfl
@[simp] theorem setQueue_tim (p q : Nat) (x : Queue) : (d.setQueue p q x).tim = d.tim := rfl
@[simp] theorem setQueue_pip (p q : Nat) (x : Queue) : (d.setQueue p q x).pip = d.pip := rfl
@[simp] theorem setQueue_pow (p q : Nat) (x : Queue) : (d.setQueue p q x).pow = d.pow := rfl
@[simp] theorem setQueue_brd (p q : Nat) (x : Queue) : (d.setQueue p q x).brd = d.brd := rfl
@[simp] theorem setQueue_stopped (p q : Nat) (x : Queue) : (d.setQueue p q x).stopped = d.stopped := rfl
@[simp] theorem setQueue_now (p q : Nat) (x : Queue) : (d.setQueue p q x).now = d.now := rfl
@[simp] theorem setQueue_ns (p q : Nat) (x : Queue) : (d.setQueue p q x).ns = d.ns := rfl
@[simp] theorem setQueue_rd (p q : Nat) (x : Queue) (pg' : Page) (F' : Fld) (i' j' : Nat) : (d.setQueue p q x).rd pg' F' i' j' = d.rd pg' F' i' j' := rfl

@[simp] theorem setCmd_regs (c : Cmd) : (d.setCmd c).regs = d.regs := rfl
@[simp] theorem setCmd_act (c : Cmd) : (d.setCmd c).act = d.act := rfl
@[simp] theorem setCmd_latched (c : Cmd) : (d.setCmd c).latched = d.latched := rfl
@[simp] theorem setCmd_lowHeld (c : Cmd) : (d.setCmd c).lowHeld = d.lowHeld := rfl
@[simp] theorem setCmd_hostMem (c : Cmd) : (d.setCmd c).hostMem = d.hostMem := rfl
@[simp] theorem setCmd_hostFails (c : Cmd) : (d.setCmd c).hostFails = d.hostFails := rfl
@[simp] theorem setCmd_vectorsOff (c : Cmd) : (d.setCmd c).vectorsOff = d.vectorsOff := rfl
@[simp] theorem setCmd_reply (c : Cmd) : (d.setCmd c).reply = d.reply := rfl
@[simp] theorem setCmd_outs (c : Cmd) : (d.setCmd c).outs = d.outs := rfl
@[simp] theorem setCmd_free (c : Cmd) : (d.setCmd c).free = d.free := rfl
@[simp] theorem setCmd_elapsed (c : Cmd) : (d.setCmd c).elapsed = d.elapsed := rfl
@[simp] theorem setCmd_tb (c : Cmd) : (d.setCmd c).tb = d.tb := rfl
@[simp] theorem setCmd_jnl (c : Cmd) : (d.setCmd c).jnl = d.jnl := rfl
@[simp] theorem setCmd_cap (c : Cmd) : (d.setCmd c).cap = d.cap := rfl
@[simp] theorem setCmd_tim (c : Cmd) : (d.setCmd c).tim = d.tim := rfl
@[simp] theorem setCmd_pip (c : Cmd) : (d.setCmd c).pip = d.pip := rfl
@[simp] theorem setCmd_pow (c : Cmd) : (d.setCmd c).pow = d.pow := rfl
@[simp] theorem setCmd_brd (c : Cmd) : (d.setCmd c).brd = d.brd := rfl
@[simp] theorem setCmd_stopped (c : Cmd) : (d.setCmd c).stopped = d.stopped := rfl
@[simp] theorem setCmd_now (c : Cmd) : (d.setCmd c).now = d.now := rfl
@[simp] theorem setCmd_ns (c : Cmd) : (d.setCmd c).ns = d.ns := rfl
@[simp] theorem setCmd_rd (c : Cmd) (pg' : Page) (F' : Fld) (i' j' : Nat) : (d.setCmd c).rd pg' F' i' j' = d.rd pg' F' i' j' := rfl

@[simp] theorem delCmd_regs (p asn : Nat) : (d.delCmd p asn).regs = d.regs := rfl
@[simp] theorem delCmd_act (p asn : Nat) : (d.delCmd p asn).act = d.act := rfl
@[simp] theorem delCmd_latched (p asn : Nat) : (d.delCmd p asn).latched = d.latched := rfl
@[simp] theorem delCmd_lowHeld (p asn : Nat) : (d.delCmd p asn).lowHeld = d.lowHeld := rfl
@[simp] theorem delCmd_hostMem (p asn : Nat) : (d.delCmd p asn).hostMem = d.hostMem := rfl
@[simp] theorem delCmd_hostFails (p asn : Nat) : (d.delCmd p asn).hostFails = d.hostFails := rfl
@[simp] theorem delCmd_vectorsOff (p asn : Nat) : (d.delCmd p asn).vectorsOff = d.vectorsOff := rfl
@[simp] theorem delCmd_reply (p asn : Nat) : (d.delCmd p asn).reply = d.reply := rfl
@[simp] theorem delCmd_outs (p asn : Nat) : (d.delCmd p asn).outs = d.outs := rfl
@[simp] theorem delCmd_free (p asn : Nat) : (d.delCmd p asn).free = d.free := rfl
@[simp] theorem delCmd_elapsed (p asn : Nat) : (d.delCmd p asn).elapsed = d.elapsed := rfl
@[simp] theorem delCmd_tb (p asn : Nat) : (d.delCmd p asn).tb = d.tb := rfl
@[simp] theorem delCmd_jnl (p asn : Nat) : (d.delCmd p asn).jnl = d.jnl := rfl
@[simp] theorem delCmd_cap (p asn : Nat) : (d.delCmd p asn).cap = d.cap := rfl
@[simp] theorem delCmd_tim (p asn : Nat) : (d.delCmd p asn).tim = d.tim := rfl
@[simp] theorem delCmd_pip (p asn : Nat) : (d.delCmd p asn).pip = d.pip := rfl
@[simp] theorem delCmd_pow (p asn : Nat) : (d.delCmd p asn).pow = d.pow := rfl
@[simp] theorem delCmd_brd (p asn : Nat) : (d.delCmd p asn).brd = d.brd := rfl
@[simp] theorem delCmd_stopped (p asn : Nat) : (d.delCmd p asn).stopped = d.stopped := rfl
@[simp] theorem delCmd_now (p asn : Nat) : (d.delCmd p asn).now = d.now := rfl
@[simp] theorem delCmd_ns (p asn : Nat) : (d.delCmd p asn).ns = d.ns := rfl
@[simp] theorem delCmd_rd (p asn : Nat) (pg' : Page) (F' : Fld) (i' j' : Nat) : (d.delCmd p asn).rd pg' F' i' j' = d.rd pg' F' i' j' := rfl

@[simp] theorem setSession_regs (id : Nat) (x : Session) : (d.setSession id x).regs = d.regs := rfl
@[simp] theorem setSession_act (id : Nat) (x : Session) : (d.setSession id x).act = d.act := rfl
@[simp] theorem setSession_latched (id : Nat) (x : Session) : (d.setSession id x).latched = d.latched := rfl
@[simp] theorem setSession_lowHeld (id : Nat) (x : Session) : (d.setSession id x).lowHeld = d.lowHeld := rfl
@[simp] theorem setSession_hostMem (id : Nat) (x : Session) : (d.setSession id x).hostMem = d.hostMem := rfl
@[simp] theorem setSession_hostFails (id : Nat) (x : Session) : (d.setSession id x).hostFails = d.hostFails := rfl
@[simp] theorem setSession_vectorsOff (id : Nat) (x : Session) : (d.setSession id x).vectorsOff = d.vectorsOff := rfl
@[simp] theorem setSession_reply (id : Nat) (x : Session) : (d.setSession id x).reply = d.reply := rfl
@[simp] theorem setSession_outs (id : Nat) (x : Session) : (d.setSession id x).outs = d.outs := rfl
@[simp] theorem setSession_free (id : Nat) (x : Session) : (d.setSession id x).free = d.free := rfl
@[simp] theorem setSession_elapsed (id : Nat) (x : Session) : (d.setSession id x).elapsed = d.elapsed := rfl
@[simp] theorem setSession_tb (id : Nat) (x : Session) : (d.setSession id x).tb = d.tb := rfl
@[simp] theorem setSession_jnl (id : Nat) (x : Session) : (d.setSession id x).jnl = d.jnl := rfl
@[simp] theorem setSession_cap (id : Nat) (x : Session) : (d.setSession id x).cap = d.cap := rfl
@[simp] theorem setSession_tim (id : Nat) (x : Session) : (d.setSession id x).tim = d.tim := rfl
@[simp] theorem setSession_pip (id : Nat) (x : Session) : (d.setSession id x).pip = d.pip := rfl
@[simp] theorem setSession_pow (id : Nat) (x : Session) : (d.setSession id x).pow = d.pow := rfl
@[simp] theorem setSession_brd (id : Nat) (x : Session) : (d.setSession id x).brd = d.brd := rfl
@[simp] theorem setSession_stopped (id : Nat) (x : Session) : (d.setSession id x).stopped = d.stopped := rfl
@[simp] theorem setSession_now (id : Nat) (x : Session) : (d.setSession id x).now = d.now := rfl
@[simp] theorem setSession_ns (id : Nat) (x : Session) : (d.setSession id x).ns = d.ns := rfl
@[simp] theorem setSession_rd (id : Nat) (x : Session) (pg' : Page) (F' : Fld) (i' j' : Nat) : (d.setSession id x).rd pg' F' i' j' = d.rd pg' F' i' j' := rfl

@[simp] theorem setGroup_regs (g : Nat) (x : Group) : (d.setGroup g x).regs = d.regs := rfl
@[simp] theorem setGroup_act (g : Nat) (x : Group) : (d.setGroup g x).act = d.act := rfl
@[simp] theorem setGroup_latched (g : Nat) (x : Group) : (d.setGroup g x).latched = d.latched := rfl
@[simp] theorem setGroup_lowHeld (g : Nat) (x : Group) : (d.setGroup g x).lowHeld = d.lowHeld := rfl
@[simp] theorem setGroup_hostMem (g : Nat) (x : Group) : (d.setGroup g x).hostMem = d.hostMem := rfl
@[simp] theorem setGroup_hostFails (g : Nat) (x : Group) : (d.setGroup g x).hostFails = d.hostFails := rfl
@[simp] theorem setGroup_vectorsOff (g : Nat) (x : Group) : (d.setGroup g x).vectorsOff = d.vectorsOff := rfl
@[simp] theorem setGroup_reply (g : Nat) (x : Group) : (d.setGroup g x).reply = d.reply := rfl
@[simp] theorem setGroup_outs (g : Nat) (x : Group) : (d.setGroup g x).outs = d.outs := rfl
@[simp] theorem setGroup_free (g : Nat) (x : Group) : (d.setGroup g x).free = d.free := rfl
@[simp] theorem setGroup_elapsed (g : Nat) (x : Group) : (d.setGroup g x).elapsed = d.elapsed := rfl
@[simp] theorem setGroup_tb (g : Nat) (x : Group) : (d.setGroup g x).tb = d.tb := rfl
@[simp] theorem setGroup_hst (g : Nat) (x : Group) : (d.setGroup g x).hst = d.hst := rfl
@[simp] theorem setGroup_jnl (g : Nat) (x : Group) : (d.setGroup g x).jnl = d.jnl := rfl
@[simp] theorem setGroup_tim (g : Nat) (x : Group) : (d.setGroup g x).tim = d.tim := rfl
@[simp] theorem setGroup_pip (g : Nat) (x : Group) : (d.setGroup g x).pip = d.pip := rfl
@[simp] theorem setGroup_pow (g : Nat) (x : Group) : (d.setGroup g x).pow = d.pow := rfl
@[simp] theorem setGroup_brd (g : Nat) (x : Group) : (d.setGroup g x).brd = d.brd := rfl
@[simp] theorem setGroup_stopped (g : Nat) (x : Group) : (d.setGroup g x).stopped = d.stopped := rfl
@[simp] theorem setGroup_now (g : Nat) (x : Group) : (d.setGroup g x).now = d.now := rfl
@[simp] theorem setGroup_ns (g : Nat) (x : Group) : (d.setGroup g x).ns = d.ns := rfl
@[simp] theorem setGroup_rd (g : Nat) (x : Group) (pg' : Page) (F' : Fld) (i' j' : Nat) : (d.setGroup g x).rd pg' F' i' j' = d.rd pg' F' i' j' := rfl

@[simp] theorem setHead_regs (h : Nat) (x : Head) : (d.setHead h x).regs = d.regs := rfl
@[simp] theorem setHead_act (h : Nat) (x : Head) : (d.setHead h x).act = d.act := rfl
@[simp] theorem setHead_latched (h : Nat) (x : Head) : (d.setHead h x).latched = d.latched := rfl
@[simp] theorem setHead_lowHeld (h : Nat) (x : Head) : (d.setHead h x).lowHeld = d.lowHeld := rfl
@[simp] theorem setHead_hostMem (h : Nat) (x : Head) : (d.setHead h x).hostMem = d.hostMem := rfl
@[simp] theorem setHead_hostFails (h : Nat) (x : Head) : (d.setHead h x).hostFails = d.hostFails := rfl
@[simp] theorem setHead_vectorsOff (h : Nat) (x : Head) : (d.setHead h x).vectorsOff = d.vectorsOff := rfl
@[simp] theorem setHead_reply (h : Nat) (x : Head) : (d.setHead h x).reply = d.reply := rfl
@[simp] theorem setHead_outs (h : Nat) (x : Head) : (d.setHead h x).outs = d.outs := rfl
@[simp] theorem setHead_free (h : Nat) (x : Head) : (d.setHead h x).free = d.free := rfl
@[simp] theorem setHead_elapsed (h : Nat) (x : Head) : (d.setHead h x).elapsed = d.elapsed := rfl
@[simp] theorem setHead_tb (h : Nat) (x : Head) : (d.setHead h x).tb = d.tb := rfl
@[simp] theorem setHead_hst (h : Nat) (x : Head) : (d.setHead h x).hst = d.hst := rfl
@[simp] theorem setHead_jnl (h : Nat) (x : Head) : (d.setHead h x).jnl = d.jnl := rfl
@[simp] theorem setHead_tim (h : Nat) (x : Head) : (d.setHead h x).tim = d.tim := rfl
@[simp] theorem setHead_pip (h : Nat) (x : Head) : (d.setHead h x).pip = d.pip := rfl
@[simp] theorem setHead_pow (h : Nat) (x : Head) : (d.setHead h x).pow = d.pow := rfl
@[simp] theorem setHead_brd (h : Nat) (x : Head) : (d.setHead h x).brd = d.brd := rfl
@[simp] theorem setHead_stopped (h : Nat) (x : Head) : (d.setHead h x).stopped = d.stopped := rfl
@[simp] theorem setHead_now (h : Nat) (x : Head) : (d.setHead h x).now = d.now := rfl
@[simp] theorem setHead_ns (h : Nat) (x : Head) : (d.setHead h x).ns = d.ns := rfl
@[simp] theorem setHead_rd (h : Nat) (x : Head) (pg' : Page) (F' : Fld) (i' j' : Nat) : (d.setHead h x).rd pg' F' i' j' = d.rd pg' F' i' j' := rfl

@[simp] theorem setCtx_regs (c : Nat) (x : Ctx) : (d.setCtx c x).regs = d.regs := rfl
@[simp] theorem setCtx_act (c : Nat) (x : Ctx) : (d.setCtx c x).act = d.act := rfl
@[simp] theorem setCtx_latched (c : Nat) (x : Ctx) : (d.setCtx c x).latched = d.latched := rfl
@[simp] theorem setCtx_lowHeld (c : Nat) (x : Ctx) : (d.setCtx c x).lowHeld = d.lowHeld := rfl
@[simp] theorem setCtx_hostMem (c : Nat) (x : Ctx) : (d.setCtx c x).hostMem = d.hostMem := rfl
@[simp] theorem setCtx_hostFails (c : Nat) (x : Ctx) : (d.setCtx c x).hostFails = d.hostFails := rfl
@[simp] theorem setCtx_vectorsOff (c : Nat) (x : Ctx) : (d.setCtx c x).vectorsOff = d.vectorsOff := rfl
@[simp] theorem setCtx_reply (c : Nat) (x : Ctx) : (d.setCtx c x).reply = d.reply := rfl
@[simp] theorem setCtx_outs (c : Nat) (x : Ctx) : (d.setCtx c x).outs = d.outs := rfl
@[simp] theorem setCtx_free (c : Nat) (x : Ctx) : (d.setCtx c x).free = d.free := rfl
@[simp] theorem setCtx_elapsed (c : Nat) (x : Ctx) : (d.setCtx c x).elapsed = d.elapsed := rfl
@[simp] theorem setCtx_tb (c : Nat) (x : Ctx) : (d.setCtx c x).tb = d.tb := rfl
@[simp] theorem setCtx_hst (c : Nat) (x : Ctx) : (d.setCtx c x).hst = d.hst := rfl
@[simp] theorem setCtx_jnl (c : Nat) (x : Ctx) : (d.setCtx c x).jnl = d.jnl := rfl
@[simp] theorem setCtx_tim (c : Nat) (x : Ctx) : (d.setCtx c x).tim = d.tim := rfl
@[simp] theorem setCtx_pip (c : Nat) (x : Ctx) : (d.setCtx c x).pip = d.pip := rfl
@[simp] theorem setCtx_pow (c : Nat) (x : Ctx) : (d.setCtx c x).pow = d.pow := rfl
@[simp] theorem setCtx_brd (c : Nat) (x : Ctx) : (d.setCtx c x).brd = d.brd := rfl
@[simp] theorem setCtx_stopped (c : Nat) (x : Ctx) : (d.setCtx c x).stopped = d.stopped := rfl
@[simp] theorem setCtx_now (c : Nat) (x : Ctx) : (d.setCtx c x).now = d.now := rfl
@[simp] theorem setCtx_ns (c : Nat) (x : Ctx) : (d.setCtx c x).ns = d.ns := rfl
@[simp] theorem setCtx_rd (c : Nat) (x : Ctx) (pg' : Page) (F' : Fld) (i' j' : Nat) : (d.setCtx c x).rd pg' F' i' j' = d.rd pg' F' i' j' := rfl

@[simp] theorem setFrame_regs (f : Frame) : (d.setFrame f).regs = d.regs := rfl
@[simp] theorem setFrame_act (f : Frame) : (d.setFrame f).act = d.act := rfl
@[simp] theorem setFrame_latched (f : Frame) : (d.setFrame f).latched = d.latched := rfl
@[simp] theorem setFrame_lowHeld (f : Frame) : (d.setFrame f).lowHeld = d.lowHeld := rfl
@[simp] theorem setFrame_hostMem (f : Frame) : (d.setFrame f).hostMem = d.hostMem := rfl
@[simp] theorem setFrame_hostFails (f : Frame) : (d.setFrame f).hostFails = d.hostFails := rfl
@[simp] theorem setFrame_vectorsOff (f : Frame) : (d.setFrame f).vectorsOff = d.vectorsOff := rfl
@[simp] theorem setFrame_reply (f : Frame) : (d.setFrame f).reply = d.reply := rfl
@[simp] theorem setFrame_outs (f : Frame) : (d.setFrame f).outs = d.outs := rfl
@[simp] theorem setFrame_free (f : Frame) : (d.setFrame f).free = d.free := rfl
@[simp] theorem setFrame_elapsed (f : Frame) : (d.setFrame f).elapsed = d.elapsed := rfl
@[simp] theorem setFrame_tb (f : Frame) : (d.setFrame f).tb = d.tb := rfl
@[simp] theorem setFrame_hst (f : Frame) : (d.setFrame f).hst = d.hst := rfl
@[simp] theorem setFrame_jnl (f : Frame) : (d.setFrame f).jnl = d.jnl := rfl
@[simp] theorem setFrame_tim (f : Frame) : (d.setFrame f).tim = d.tim := rfl
@[simp] theorem setFrame_pip (f : Frame) : (d.setFrame f).pip = d.pip := rfl
@[simp] theorem setFrame_pow (f : Frame) : (d.setFrame f).pow = d.pow := rfl
@[simp] theorem setFrame_brd (f : Frame) : (d.setFrame f).brd = d.brd := rfl
@[simp] theorem setFrame_stopped (f : Frame) : (d.setFrame f).stopped = d.stopped := rfl
@[simp] theorem setFrame_now (f : Frame) : (d.setFrame f).now = d.now := rfl
@[simp] theorem setFrame_ns (f : Frame) : (d.setFrame f).ns = d.ns := rfl
@[simp] theorem setFrame_rd (f : Frame) (pg' : Page) (F' : Fld) (i' j' : Nat) : (d.setFrame f).rd pg' F' i' j' = d.rd pg' F' i' j' := rfl

@[simp] theorem setPort_regs (p : Nat) (x : PtpPort) : (d.setPort p x).regs = d.regs := rfl
@[simp] theorem setPort_act (p : Nat) (x : PtpPort) : (d.setPort p x).act = d.act := rfl
@[simp] theorem setPort_latched (p : Nat) (x : PtpPort) : (d.setPort p x).latched = d.latched := rfl
@[simp] theorem setPort_lowHeld (p : Nat) (x : PtpPort) : (d.setPort p x).lowHeld = d.lowHeld := rfl
@[simp] theorem setPort_hostMem (p : Nat) (x : PtpPort) : (d.setPort p x).hostMem = d.hostMem := rfl
@[simp] theorem setPort_hostFails (p : Nat) (x : PtpPort) : (d.setPort p x).hostFails = d.hostFails := rfl
@[simp] theorem setPort_vectorsOff (p : Nat) (x : PtpPort) : (d.setPort p x).vectorsOff = d.vectorsOff := rfl
@[simp] theorem setPort_reply (p : Nat) (x : PtpPort) : (d.setPort p x).reply = d.reply := rfl
@[simp] theorem setPort_outs (p : Nat) (x : PtpPort) : (d.setPort p x).outs = d.outs := rfl
@[simp] theorem setPort_free (p : Nat) (x : PtpPort) : (d.setPort p x).free = d.free := rfl
@[simp] theorem setPort_elapsed (p : Nat) (x : PtpPort) : (d.setPort p x).elapsed = d.elapsed := rfl
@[simp] theorem setPort_tb (p : Nat) (x : PtpPort) : (d.setPort p x).tb = d.tb := rfl
@[simp] theorem setPort_hst (p : Nat) (x : PtpPort) : (d.setPort p x).hst = d.hst := rfl
@[simp] theorem setPort_jnl (p : Nat) (x : PtpPort) : (d.setPort p x).jnl = d.jnl := rfl
@[simp] theorem setPort_cap (p : Nat) (x : PtpPort) : (d.setPort p x).cap = d.cap := rfl
@[simp] theorem setPort_pip (p : Nat) (x : PtpPort) : (d.setPort p x).pip = d.pip := rfl
@[simp] theorem setPort_pow (p : Nat) (x : PtpPort) : (d.setPort p x).pow = d.pow := rfl
@[simp] theorem setPort_brd (p : Nat) (x : PtpPort) : (d.setPort p x).brd = d.brd := rfl
@[simp] theorem setPort_stopped (p : Nat) (x : PtpPort) : (d.setPort p x).stopped = d.stopped := rfl
@[simp] theorem setPort_now (p : Nat) (x : PtpPort) : (d.setPort p x).now = d.now := rfl
@[simp] theorem setPort_ns (p : Nat) (x : PtpPort) : (d.setPort p x).ns = d.ns := rfl
@[simp] theorem setPort_rd (p : Nat) (x : PtpPort) (pg' : Page) (F' : Fld) (i' j' : Nat) : (d.setPort p x).rd pg' F' i' j' = d.rd pg' F' i' j' := rfl

end Sys2Proof.Laws
end

