-- ==== Sys2Proof/Tests/Slice0.lean ====
section
/-! SUPPORT. Slice0: ill-formed commands are refused, and states and operands that meet the hypotheses of each statement. -/

set_option maxRecDepth 8000

namespace Sys2Proof.Tests

open Machine

/-! ### States -/

/-- After reset, with firmware running and nothing else done. -/
def W.on : State := { dev := { brd := { stage := 6 } } }

/-- A change to the device of `W.on`. -/
def W.of (f : Dev → Dev) : State := { dev := f W.on.dev }

/-- A field of a page holds a value. -/
def W.reg (pg : Page) (F : Fld) (v : Nat) (i : Nat := 0) : State := W.of fun d => d.wr pg F v i

/-- A frame of head `h` and context `c`. -/
def W.frame (h c cid : Nat) : Frame :=
  { head := h, ctx := c, owner := 0, hdr := ⟨cid, 1, 0, 0, 0, 0, 0, 2, 2, 12, 0, 0, 0⟩, cfgW := 2, cfgH := 2, ingGen := {},
    inl := true, gang := 0, section_ := 0, stack := 0, tAnn := 0 }

/-- The device with a frame. -/
def W.framed (f : Frame) (d : Dev) : Dev := { d with cap := { d.cap with frames := Assoc.put d.cap.frames f.key f } }

/-- A submission entry: an opcode and its DWs. -/
def W.entry (op : Nat) (dws : List (Nat × Nat)) : List Nat :=
  (List.range 16).map fun i => if i = 0 then op else (Assoc.find dws i).getD 0

/-- An accepted command of partition 0. -/
def W.cmd (op : Nat) (dws : List (Nat × Nat)) : Cmd :=
  { part := 0, queue := 1, asn := 5, cid := 7, idx := 0, entry := W.entry op dws }

/-- The device with commands accepted. -/
def W.run (l : List Cmd) (d : Dev) : Dev := l.foldl (fun d c => d.setCmd c) d


/-- An encoder descriptor: a HOST source of 64 by 64, one CTU, constant QP 26. -/
def W.encBytes : List Byte :=
  layout 128 [(1, leBytes 1 1), (2, leBytes 1 255), (4, leBytes 2 64), (6, leBytes 2 64), (8, leBytes 1 1), (9, leBytes 1 8),
    (0xA, leBytes 1 1), (0xE, leBytes 1 1), (0xF, leBytes 1 1), (0x14, leBytes 1 1), (0x15, leBytes 1 2), (0x17, leBytes 1 1),
    (0x1A, leBytes 1 51), (0x1B, leBytes 1 26), (0x1C, leBytes 1 26), (0x2C, leBytes 1 50), (0x2D, leBytes 1 16),
    (0x30, leBytes 4 30), (0x34, leBytes 4 1), (0x38, leBytes 4 1000), (0x4E, leBytes 1 4)]

/-- The device with an encoder context 0. -/
def W.enc (x : EncCtx) (d : Dev) : Dev := d.setEnc 0 x

/-- A decoder descriptor: HEVC Main 10 up to 64 by 64 on either engine, to a ring. -/
def W.decBytes : List Byte := layout 40 [(1, leBytes 1 2), (2, leBytes 2 64), (4, leBytes 2 64)]

/-- An RCT packet under a key, and the session of partition 64 that it reaches. -/
def W.rct (key : List Byte) (type id seq ack : Nat) (payload : List Byte) : List Byte :=
  let h := rctHeader type id payload.length seq ack 0
  h ++ payload ++ (Crypto.hmac key (h ++ payload)).take 16

def W.sess : Session :=
  { port := 1, addr := 9, part := 64, queue := 0, keyId := 0, dataKib := 8, nc := [1], nd := [2], state := .opened, key := [7] }

/-- The device with session 3, its partition enabled with a key and an admin queue pair. -/
def W.net (x : Session) (d : Dev) : Dev :=
  ((d.updPart 64 fun r => { r with enable := true, key := some [5] }).setQueue 64 0 networkAdmin).setSession 3 x

/-- The device with a reservation of object `o` of kind `k`. -/
def W.rsv (k o v : Nat) (d : Dev) : Dev := { d with hst := { d.hst with reserve := [(k * 65536 + o, v)] } }

/-! ### Islands: the die's map is free -/

theorem W.idle : ∀ pg ∈ Pg.allPages, W.on.dev.busy pg = false := by decide

/-- Pages whose groups are never throttled. -/
def W.kept : List Page := Pg.allPages.filter fun pg => (Pg.family pg).1 ∈ [0x05, 0x53, 0x52, 0x50, 0xA0]

/-- A list without repeats, all of whose members another list holds, is no longer than it. -/
theorem W.fewer : ∀ (l m : List Nat), l.Nodup → (∀ x ∈ l, x ∈ m) → l.length ≤ m.length
  | [], _, _, _ => Nat.zero_le _
  | a :: l, m, n, h => by
    have n := List.nodup_cons.mp n
    have r := W.fewer l (m.erase a) n.2 fun x hx =>
      (List.mem_erase_of_ne fun (e : x = a) => n.1 (e ▸ hx)).mpr (h x (List.mem_cons_of_mem _ hx))
    have k := List.length_erase_of_mem (h a List.mem_cons_self)
    have p := List.length_pos_of_mem (h a List.mem_cons_self)
    simp only [List.length_cons]
    omega

/-- Some group can be throttled, whatever the island map: fewer pages keep theirs from it than there are groups. -/
theorem W.cooled : ∃ g, g < 32 ∧ unthrottled g = false := by
  refine Classical.byContradiction fun h => ?_
  have all : ∀ g < 32, unthrottled g = true := fun g k => by
    cases e : unthrottled g with
    | true => rfl
    | false => exact absurd ⟨g, k, e⟩ h
  have sub : ∀ g ∈ List.range' 1 31, g ∈ W.kept.map Pg.groupOf := fun g m => by
    have m := List.mem_range'_1.mp m
    have u := all g (by omega)
    simp only [unthrottled, groupHas, groupPages, Bool.or_eq_true, decide_eq_true_eq, List.any_eq_true, List.mem_filter] at u
    rcases u with u | ⟨pg, ⟨ha, hg⟩, hf⟩
    · omega
    · exact List.mem_map.mpr ⟨pg, List.mem_filter.mpr ⟨ha, by simpa using hf⟩, hg⟩
  have n := W.fewer _ _ (by decide : (List.range' 1 31).Nodup) sub
  have k : W.kept.length = 19 := by decide
  simp [k] at n

/-- A group that transmits nothing and has a limit may rest in PS1 (R379). -/
theorem W.permits (d : Dev) (g : Nat) (h : g ≠ 0) (t : ∀ pg ∈ Pg.allPages, d.pageTransmits pg = false)
    (m : 1 ≤ d.groupMax g) : 1 ≤ d.permitted g := by
  have e : (groupPages g).any d.pageTransmits = false :=
    List.any_eq_false.mpr fun pg hp => by rw [t pg (List.mem_filter.mp hp).1]; simp
  simp only [Dev.permitted, h, e]
  repeat' split
  all_goals (first | omega | simp_all)
theorem wit_gpioEdge_plain : ((15) < 16) ∧ ((W.on).dev.stopped = false) ∧ ((W.on).dev.allAwake = true) ∧ (bitAt
  ((W.on).dev.rd Pg.GPI Reg.GPI.IN) (15) = !((true : Bool))) ∧ (bitAt ((W.on).dev.rd Pg.GPI (if ((true : Bool)) then
  Reg.GPI.EDGE_RISE else Reg.GPI.EDGE_FALL)) (15) = false) := by decide

theorem wit_gpioEdge_edge : ((0) < 16) ∧ (((W.reg Pg.GPI Reg.GPI.EDGE_RISE 1)).dev.stopped = false) ∧ (((W.reg
  Pg.GPI Reg.GPI.EDGE_RISE 1)).dev.allAwake = true) ∧ (bitAt (((W.reg Pg.GPI Reg.GPI.EDGE_RISE 1)).dev.rd Pg.GPI
  Reg.GPI.IN) (0) = !((true : Bool))) ∧ (bitAt (((W.reg Pg.GPI Reg.GPI.EDGE_RISE 1)).dev.rd Pg.GPI (if ((true :
  Bool)) then Reg.GPI.EDGE_RISE else Reg.GPI.EDGE_FALL)) (0) = true) := by decide

theorem wit_txData : ((0) < 64) ∧ ((65) < 2 ^ 32) ∧ (Taken ((W.reg Pg.UAR Reg.UAR.HOST_OWN 1)).dev (0) Pg.UAR 0x104
  = true) ∧ (((W.reg Pg.UAR Reg.UAR.HOST_OWN 1)).dev.on Pg.UAR Reg.UAR.HOST_OWN = true) ∧ (((W.reg Pg.UAR
  Reg.UAR.HOST_OWN 1)).dev.brd.uartTx.length < 64) := by decide

theorem wit_uartCharacterSent_more : (((W.of fun d =>
  { d with brd := { d.brd with uartTx := [1, 2] } })).dev.stopped = false) ∧ (((W.of fun d =>
  { d with brd := { d.brd with uartTx := [1, 2] } })).dev.brd.uartTx = ((1 : Byte)) :: ((2 : Byte)) :: (([] : List
  Byte))) ∧ (((W.of fun d => { d with brd := { d.brd with uartTx := [1, 2] } })).dev.brd.uartHeld < (([] : List
  Byte)).length + 2) := by decide

theorem wit_uartCharacterSent_last : (((W.of fun d => { d with brd := { d.brd with uartTx := [1] } })).dev.stopped =
  false) ∧ (((W.of fun d => { d with brd := { d.brd with uartTx := [1] } })).dev.brd.uartTx = [((1 : Byte))]) ∧
  (((W.of fun d => { d with brd := { d.brd with uartTx := [1] } })).dev.brd.uartHeld = 0) := by decide

theorem wit_uartReceive_room : ((W.on).dev.stopped = false) ∧ ((W.on).dev.allAwake = true) ∧
  ((W.on).dev.brd.uartRx.length < 64) := by decide

theorem wit_uartReceive_full : (((W.of fun d =>
  { d with brd := { d.brd with uartRx := List.replicate 64 0 } })).dev.stopped = false) ∧ (((W.of fun d =>
  { d with brd := { d.brd with uartRx := List.replicate 64 0 } })).dev.allAwake = true) ∧ (64 ≤ ((W.of fun d =>
  { d with brd := { d.brd with uartRx := List.replicate 64 0 } })).dev.brd.uartRx.length) := by decide

theorem wit_uartReceive_framing : ((W.on).dev.stopped = false) ∧ ((W.on).dev.allAwake = true) := by decide

theorem wit_rxData : ((0) < 64) ∧ (Readable ((W.of fun d => { d with brd := { d.brd with uartRx := [9] } })).dev (0)
  Pg.UAR 0x108 = true) ∧ (Assoc.find ((W.of fun d => { d with brd := { d.brd with uartRx := [9] } })).dev.latched
  (halfKey (0) Pg.UAR 0x108) = none) ∧ (((W.of fun d =>
  { d with brd := { d.brd with uartRx := [9] } })).dev.brd.uartRx = (((9 : Byte) : Byte)) :: ((([] : List Byte) :
  List Byte))) := by decide

theorem wit_i2cTransfer : ((0) < 64) ∧ ((0) < 2) ∧ ((0x80010050) < 2 ^ 32) ∧ (Taken (W.on).dev (0) (Pg.I2C (0))
  0x104 = true) ∧ ((W.on).dev.on (Pg.I2C (0)) Reg.I2C.BUSY = false) ∧ (bitAt (0x80010050) 31 = true) ∧ ((0) = 1 ∨
  bits (0x80010050) 0 7 ≠ 0x40) := by decide

theorem wit_i2cTransfer_reserved : ((0) < 64) ∧ ((0x80010040) < 2 ^ 32) ∧ (Taken (W.on).dev (0) (Pg.I2C 0) 0x104 =
  true) ∧ ((W.on).dev.on (Pg.I2C 0) Reg.I2C.BUSY = false) ∧ (bitAt (0x80010040) 31 = true) ∧ (bits (0x80010040) 0 7
  = 0x40) := by decide

theorem wit_i2cTransferEnd : ((1) < 2) ∧ ((3) < 4) ∧ ((0) < 32) ∧ (((W.of fun d =>
  { d with brd := { d.brd with i2c := [(1, (0x50, 1, 2))] } })).dev.stopped = false) ∧ (((W.of fun d =>
  { d with brd := { d.brd with i2c := [(1, (0x50, 1, 2))] } })).dev.brd.i2cHeld.contains (1) = false) ∧ (Assoc.find
  ((W.of fun d => { d with brd := { d.brd with i2c := [(1, (0x50, 1, 2))] } })).dev.brd.i2c (1) = some ((0x50), (1),
  (2))) := by decide

theorem wit_xspCommit : ((0) < 64) ∧ ((1) < 2 ^ 32) ∧ (Taken (W.on).dev (0) Pg.XSP 0x110 = true) ∧ (bitAt (1) 0 =
  true) := by decide

theorem wit_avsCommand_first : (650 ≤ (800)) ∧ ((800) ≤ 800) ∧ ((State.reset).dev.stopped = false) ∧
  ((State.reset).dev.brd.avsAcked = false) ∧ ((State.reset).dev.brd.stage = 0) := by decide

theorem wit_avsCommand_step : (650 ≤ (705)) ∧ ((705) ≤ 800) ∧ (((W.of fun d =>
  { d.wr Pg.SYS Reg.SYS.AVS_MV 700 with brd := { d.brd with avsAcked := true } })).dev.stopped = false) ∧ (((W.of
  fun d => { d.wr Pg.SYS Reg.SYS.AVS_MV 700 with brd := { d.brd with avsAcked := true } })).dev.brd.avsAcked = true)
  ∧ (((W.of fun d => { d.wr Pg.SYS Reg.SYS.AVS_MV 700 with brd := { d.brd with avsAcked := true } })).dev.on Pg.SYS
  Reg.SYS.AVS_FAIL = false) ∧ (((W.of fun d =>
  { d.wr Pg.SYS Reg.SYS.AVS_MV 700 with brd := { d.brd with avsAcked := true } })).dev.rd Pg.SYS Reg.SYS.AVS_MV ≤
  (705) + 5) ∧ ((705) ≤ ((W.of fun d =>
  { d.wr Pg.SYS Reg.SYS.AVS_MV 700 with brd := { d.brd with avsAcked := true } })).dev.rd Pg.SYS Reg.SYS.AVS_MV + 5)
  := by decide

theorem wit_avsCommand_fails : (650 ≤ (700)) ∧ ((700) ≤ 800) ∧ (((W.of fun d =>
  { d.wr Pg.SYS Reg.SYS.AVS_MV 700 with brd := { d.brd with avsAcked := true } })).dev.stopped = false) ∧ (((W.of
  fun d => { d.wr Pg.SYS Reg.SYS.AVS_MV 700 with brd := { d.brd with avsAcked := true } })).dev.brd.avsAcked = true)
  ∧ (((W.of fun d => { d.wr Pg.SYS Reg.SYS.AVS_MV 700 with brd := { d.brd with avsAcked := true } })).dev.on Pg.SYS
  Reg.SYS.AVS_FAIL = false) ∧ (((W.of fun d =>
  { d.wr Pg.SYS Reg.SYS.AVS_MV 700 with brd := { d.brd with avsAcked := true } })).dev.rd Pg.SYS Reg.SYS.AVS_MV ≤
  (700) + 5) ∧ ((700) ≤ ((W.of fun d =>
  { d.wr Pg.SYS Reg.SYS.AVS_MV 700 with brd := { d.brd with avsAcked := true } })).dev.rd Pg.SYS Reg.SYS.AVS_MV + 5)
  := by decide

theorem wit_avsRetry : (((W.reg Pg.SYS Reg.SYS.AVS_FAIL 1)).dev.stopped = false) ∧ (((W.reg Pg.SYS Reg.SYS.AVS_FAIL
  1)).dev.brd.stage ≠ 7) ∧ (((W.reg Pg.SYS Reg.SYS.AVS_FAIL 1)).dev.on Pg.SYS Reg.SYS.AVS_FAIL = true) := by decide

theorem wit_jtagInstruction_loads : ((2) < 8) ∧ ((W.on).dev.stopped = false) ∧ ((2) < 3 ∨ (W.on).dev.brd.perst =
  true) := by decide

theorem wit_jtagInstruction_falls : (3 ≤ (3)) ∧ ((3) < 8) ∧ ((W.on).dev.stopped = false) ∧ ((W.on).dev.brd.perst =
  false) := by decide

theorem wit_registerWrite_plain : ((0) < 64) ∧ ((Pg.GPI) < 256) ∧ ((0x03C) < 4096) ∧ ((5) < 2 ^ 32) ∧ (ownRow
  (Pg.GPI) (0x03C) = false) ∧ ((Pg.family (Pg.GPI)).1 ≠ 0x53) ∧ ((Pg.GPI) ≠ Pg.THM) ∧ (Taken (W.on).dev (0) (Pg.GPI)
  (0x03C) = true) := by decide

theorem wit_registerWrite_scratch : ((0) < 64) ∧ ((0xFFFFFFFF) < 2 ^ 32) ∧ (Taken (W.on).dev (0) Pg.GPI 0x03C =
  true) := by decide

theorem wit_registerWrite_denied : ((1) < 64) ∧ ((Pg.GPI) < 256) ∧ ((0x03C) < 4096) ∧ ((5) < 2 ^ 32) ∧ (ownRow
  (Pg.GPI) (0x03C) = false) ∧ ((Pg.family (Pg.GPI)).1 ≠ 0x53) ∧ (((W.of fun d =>
  { d with hst := { d.hst with numVfs := 1 } })).dev.stopped = false) ∧ ((0x03C) % 4 = 0) ∧ (((W.of fun d =>
  { d with hst := { d.hst with numVfs := 1 } })).dev.hasFn (1) = true) ∧ (Pg.isPage (Pg.GPI) = true) ∧ (((W.of fun d
  => { d with hst := { d.hst with numVfs := 1 } })).dev.running = true) ∧ (((W.of fun d =>
  { d with hst := { d.hst with numVfs := 1 } })).dev.allAwake = true) ∧ (((W.of fun d =>
  { d with hst := { d.hst with numVfs := 1 } })).dev.mayAccess (1) (Pg.GPI) (0x03C) true = false) := by decide

theorem wit_registerWrite_misaligned : ((0) < 64) ∧ ((Pg.GPI) < 256) ∧ ((0x101) < 4096) ∧ ((5) < 2 ^ 32) ∧
  ((Pg.family (Pg.GPI)).1 ≠ 0x53) ∧ ((0x101) % 4 ≠ 0) ∧ (ownRow (Pg.GPI) (0x101) = false) ∧ ((W.on).dev.stopped =
  false) := by decide

theorem wit_intSet : ((0) < 64) ∧ ((Pg.TMB) < 256) ∧ ((0x80000001) < 2 ^ 32) ∧ (Taken (W.on).dev (0) (Pg.TMB) 0x020
  = true) := by decide

theorem wit_lock : ((0) < 64) ∧ ((1) < 2 ^ 32) ∧ (Taken (W.on).dev (0) Pg.SCU Reg.SCU.LOCK.off = true) ∧ (bitAt (1)
  0 = true) := by decide

theorem wit_registerWrite_locked : ((0) < 64) ∧ ((1) < 2 ^ 32) ∧ (Taken ((W.reg Pg.SCU Reg.SCU.LOCK 1)).dev (0)
  Pg.THM 0x10C = true) ∧ (((W.reg Pg.SCU Reg.SCU.LOCK 1)).dev.on Pg.SCU Reg.SCU.LOCK = true) := by decide

theorem wit_barrier : ((63) < 64) ∧ (Taken ((W.of fun d => { d with hst := { d.hst with numVfs := 63 } })).dev (63)
  Pg.SYS 0x140 = true) := by decide

theorem wit_lowDwRead_latches : ((0) < 64) ∧ ((Pg.TMB) < 256) ∧ ((0x110) < 4096) ∧ (Readable (W.on).dev (0) (Pg.TMB)
  (0x110) = true) ∧ ((Pg.TMB) ≠ Pg.UAR) ∧ (latchesWith (Pg.TMB) (0x110) = [(0x110) + 4]) ∧ (Assoc.find
  (W.on).dev.latched (halfKey (0) (Pg.TMB) (0x110)) = none) ∧ ((Pg.inDw (Pg.TMB) (0x110)).all (fun e => (fieldIn
  (measured (Pg.TMB)) e.1).isNone) = true) := by decide

theorem wit_lowDwRead_high : ((0) < 64) ∧ ((Pg.TMB) < 256) ∧ ((0x114) < 4096) ∧ (Readable ((W.of fun d =>
  { d with latched := [(halfKey 0 Pg.TMB 0x114, 77)] })).dev (0) (Pg.TMB) (0x114) = true) ∧ (Assoc.find ((W.of fun d
  => { d with latched := [(halfKey 0 Pg.TMB 0x114, 77)] })).dev.latched (halfKey (0) (Pg.TMB) (0x114)) = some (77))
  := by decide

theorem wit_lowDwRead_denied : ((1) < 64) ∧ ((Pg.GPI) < 256) ∧ ((0x03C) < 4096) ∧ ((0x03C) % 4 = 0) ∧ (((W.of fun d
  => { d with hst := { d.hst with numVfs := 1 } })).dev.stopped = false) ∧ (((W.of fun d =>
  { d with hst := { d.hst with numVfs := 1 } })).dev.hasFn (1) = true) ∧ (Pg.isPage (Pg.GPI) = true) ∧ (((W.of fun d
  => { d with hst := { d.hst with numVfs := 1 } })).dev.running = true) ∧ (((W.of fun d =>
  { d with hst := { d.hst with numVfs := 1 } })).dev.allAwake = true) ∧ (((W.of fun d =>
  { d with hst := { d.hst with numVfs := 1 } })).dev.mayAccess (1) (Pg.GPI) (0x03C) false = false) := by decide

theorem wit_rcRead : ((0) < 64) ∧ ((Pg.TMB) < 256) ∧ ((0x130) < 4096) ∧ (Readable (W.on).dev (0) (Pg.TMB) (0x130) =
  true) ∧ ((Pg.TMB) ≠ Pg.UAR) ∧ (latchesWith (Pg.TMB) (0x130) = []) ∧ (Assoc.find (W.on).dev.latched (halfKey (0)
  (Pg.TMB) (0x130)) = none) ∧ ((Pg.inDw (Pg.TMB) (0x130)).all (fun e => (fieldIn (measured (Pg.TMB)) e.1).isNone) =
  true) := by decide

theorem wit_rcRead_counts : ((0) < 64) ∧ (Readable ((W.reg Pg.TMB Reg.TMB.STEP_CNT 3)).dev (0) Pg.TMB 0x130 = true)
  ∧ (Assoc.find ((W.reg Pg.TMB Reg.TMB.STEP_CNT 3)).dev.latched (halfKey (0) Pg.TMB 0x130) = none) := by decide

theorem wit_fenceRead : ((5) < 64) ∧ ((Pg.GPI) < 256) ∧ (((W.of fun d =>
  { d with hst := { d.hst with numVfs := 5 } })).dev.stopped = false) ∧ (((W.of fun d =>
  { d with hst := { d.hst with numVfs := 5 } })).dev.hasFn (5) = true) ∧ (Pg.isPage (Pg.GPI) = true) ∧ (((W.of fun d
  => { d with hst := { d.hst with numVfs := 5 } })).dev.running = true) ∧ (((W.of fun d =>
  { d with hst := { d.hst with numVfs := 5 } })).dev.allAwake = true) ∧ (Assoc.find ((W.of fun d =>
  { d with hst := { d.hst with numVfs := 5 } })).dev.latched (halfKey (5) (Pg.GPI) 0x038) = none) := by decide

theorem wit_nowNsRead : ((0) < 64) ∧ (Readable ((W.of fun d => { d with tb := 0x5_0000_0007_8000_0000 })).dev (0)
  Pg.TMB 0x100 = true) ∧ (Assoc.find ((W.of fun d => { d with tb := 0x5_0000_0007_8000_0000 })).dev.latched (halfKey
  (0) Pg.TMB 0x100) = none) := by decide

theorem wit_pageCtrlEn : ((0) < 64) ∧ ((Pg.MIP 1) < 256) ∧ ((1) < 2 ^ 32) ∧ (Taken (W.on).dev (0) (Pg.MIP 1) 0x010 =
  true) ∧ ((Pg.family (Pg.MIP 1)).1 ∉ [0x72, 0x84, 0x90, 0x91, 0x92, 0xB2, 0xB3] ∨ (W.on).dev.on (Pg.MIP 1)
  Reg.HDR.EN = true ∨ bits (1) 0 1 = 0) ∧ ((Pg.family (Pg.MIP 1)).1 < 0x31 ∨ 0x3B < (Pg.family (Pg.MIP 1)).1) ∧
  ((Pg.family (Pg.MIP 1)).1 ≠ 0x70) ∧ ((W.on).dev.assisted (Pg.MIP 1) = false) := by decide

theorem wit_pageCtrlEn_ptp : ((0) < 64) ∧ ((1) < 2) ∧ ((1) < 2 ^ 32) ∧ (Taken ((W.of fun d =>
  ({ d with tim := { d.tim with ports := [(1, { held := some [7], tx := some (2, 5, 0) })] } } : Dev).wr (Pg.PTP 1)
  Reg.HDR.EN 0)).dev (0) (Pg.PTP (1)) 0x010 = true) ∧ (bitAt (1) 0 = true) ∧ (((W.of fun d =>
  ({ d with tim := { d.tim with ports := [(1, { held := some [7], tx := some (2, 5, 0) })] } } : Dev).wr (Pg.PTP 1)
  Reg.HDR.EN 0)).dev.on (Pg.PTP (1)) Reg.HDR.EN = false) ∧ ((((W.of fun d =>
  ({ d with tim := { d.tim with ports := [(1, { held := some [7], tx := some (2, 5, 0) })] } } : Dev).wr (Pg.PTP 1)
  Reg.HDR.EN 0)).dev.port (1)).held = some (([7] : List Byte))) ∧ ((((W.of fun d =>
  ({ d with tim := { d.tim with ports := [(1, { held := some [7], tx := some (2, 5, 0) })] } } : Dev).wr (Pg.PTP 1)
  Reg.HDR.EN 0)).dev.port (1)).tx = some ((2), (5), 0)) := by decide

theorem wit_pageCtrlEn_i2c : ((0) < 64) ∧ ((1) < 2) ∧ ((1) < 2 ^ 32) ∧ (Taken ((W.of fun d =>
  ({ d with brd := { d.brd with i2cHeld := [1, 0] } } : Dev).wr (Pg.I2C 1) Reg.HDR.EN 0)).dev (0) (Pg.I2C (1)) 0x010
  = true) ∧ (bitAt (1) 0 = true) ∧ (((W.of fun d => ({ d with brd := { d.brd with i2cHeld := [1, 0] } } : Dev).wr
  (Pg.I2C 1) Reg.HDR.EN 0)).dev.on (Pg.I2C (1)) Reg.HDR.EN = false) := by decide

theorem wit_pageCtrlEn_uart : ((0) < 64) ∧ ((1) < 2 ^ 32) ∧ (Taken ((W.of fun d =>
  ({ d with brd := { d.brd with uartHeld := 3 } } : Dev).wr Pg.UAR Reg.HDR.EN 0)).dev (0) Pg.UAR 0x010 = true) ∧
  (bitAt (1) 0 = true) ∧ (((W.of fun d => ({ d with brd := { d.brd with uartHeld := 3 } } : Dev).wr Pg.UAR
  Reg.HDR.EN 0)).dev.on Pg.UAR Reg.HDR.EN = false) := by decide

theorem wit_pageCtrlEn_cadences : ((0) < 64) ∧ ((3) < 16) ∧ ((1) < 2 ^ 32) ∧ (Taken ((W.of fun d => (d.wr Pg.TMB
  Reg.TMB.C_EN 1 3).wr Pg.TMB Reg.HDR.EN 0)).dev (0) Pg.TMB 0x010 = true) ∧ (bitAt (1) 0 = true) ∧ (((W.of fun d =>
  (d.wr Pg.TMB Reg.TMB.C_EN 1 3).wr Pg.TMB Reg.HDR.EN 0)).dev.on Pg.TMB Reg.HDR.EN = false) ∧ (((W.of fun d => (d.wr
  Pg.TMB Reg.TMB.C_EN 1 3).wr Pg.TMB Reg.HDR.EN 0)).dev.on Pg.TMB Reg.TMB.C_EN (3) = true) := by decide

theorem wit_pageCtrlEn_section : ((0) < 64) ∧ ((Pg.FE 3 11) < 256) ∧ ((0) < 2 ^ 32) ∧ (Taken (W.on).dev (0) (Pg.FE 3
  11) 0x010 = true) ∧ (0x31 ≤ (Pg.family (Pg.FE 3 11)).1) ∧ ((Pg.family (Pg.FE 3 11)).1 ≤ 0x3B) ∧
  ((W.on).dev.assisted (Pg.FE 3 11) = false) := by decide

theorem wit_pageCtrlEn_refused : ((0) < 64) ∧ ((0) < 16) ∧ ((1) < 2 ^ 32) ∧ (Taken ((W.of fun d => (d.wr (Pg.DSP 0)
  Reg.DSP.ROUTE_KIND 3).wr (Pg.DSP 0) Reg.DSP.ROUTE_IDX 2)).dev (0) (Pg.DSP (0)) 0x010 = true) ∧ (bitAt (1) 0 =
  true) ∧ (((W.of fun d => (d.wr (Pg.DSP 0) Reg.DSP.ROUTE_KIND 3).wr (Pg.DSP 0) Reg.DSP.ROUTE_IDX 2)).dev.on (Pg.DSP
  (0)) Reg.HDR.EN = false) ∧ (((W.of fun d => (d.wr (Pg.DSP 0) Reg.DSP.ROUTE_KIND 3).wr (Pg.DSP 0) Reg.DSP.ROUTE_IDX
  2)).dev.dspMayEnable (0) = false) := by decide

theorem wit_pageCtrlMode_enter : ((0) < 64) ∧ ((Pg.THM) < 256) ∧ ((3) < 2 ^ 32) ∧ (Taken (W.on).dev (0) (Pg.THM)
  0x010 = true) ∧ ((Pg.family (Pg.THM)).1 ∉ [0x72, 0x84, 0x90, 0x91, 0x92, 0xB2, 0xB3] ∨ (W.on).dev.on (Pg.THM)
  Reg.HDR.EN = true ∨ bits (3) 0 1 = 0) ∧ (Pg.assistCap (Pg.THM) = true) ∧ (bits (3) 1 2 = 1) := by decide

theorem wit_pageCtrlMode_leave : ((0) < 64) ∧ ((Pg.THM) < 256) ∧ ((1) < 2 ^ 32) ∧ (Taken ((W.reg Pg.THM Reg.HDR.MODE
  1)).dev (0) (Pg.THM) 0x010 = true) ∧ ((Pg.family (Pg.THM)).1 ∉ [0x72, 0x84, 0x90, 0x91, 0x92, 0xB2, 0xB3] ∨
  ((W.reg Pg.THM Reg.HDR.MODE 1)).dev.on (Pg.THM) Reg.HDR.EN = true ∨ bits (1) 0 1 = 0) ∧ (Pg.assistCap (Pg.THM) =
  true) ∧ (bits (1) 1 2 = 0) ∧ (((W.reg Pg.THM Reg.HDR.MODE 1)).dev.pip.assists.all (fun a => a.page ≠ (Pg.THM)) =
  true) := by decide

theorem wit_softRst : ((0) < 64) ∧ ((Pg.GPI) < 256) ∧ ((0x101) < 2 ^ 32) ∧ (Taken (W.on).dev (0) (Pg.GPI) 0x010 =
  true) ∧ ((Pg.family (Pg.GPI)).1 ∉ [0x72, 0x84, 0x90, 0x91, 0x92, 0xB2, 0xB3] ∨ (W.on).dev.on (Pg.GPI) Reg.HDR.EN =
  true ∨ bits (0x101) 0 1 = 0) ∧ (bitAt (0x101) 8 = true) ∧ ((W.on).dev.rd (Pg.GPI) Reg.HDR.STATE = 0) ∧
  ((W.on).dev.assisted (Pg.GPI) = false) ∧ ((Pg.family (Pg.GPI)).1 ≠ 0x70) := by decide

theorem wit_pageDrained : ((Pg.GPI) < 256) ∧ (((W.reg Pg.GPI Reg.HDR.STATE 3)).dev.stopped = false) ∧ (((W.reg
  Pg.GPI Reg.HDR.STATE 3)).dev.rd (Pg.GPI) Reg.HDR.STATE = 3) ∧ (((W.reg Pg.GPI Reg.HDR.STATE 3)).dev.busy (Pg.GPI)
  = false) ∧ ((Pg.family (Pg.GPI)).1 ∉ [0x84, 0xB3]) := by decide

theorem wit_pageDrained_ptp : ((1) < 2) ∧ (((W.of fun d =>
  ({ d with tim := { d.tim with ports := [(1, { rx := [⟨0, 1, []⟩] })] } } : Dev).wr (Pg.PTP 1) Reg.HDR.STATE
  3)).dev.stopped = false) ∧ (((W.of fun d =>
  ({ d with tim := { d.tim with ports := [(1, { rx := [⟨0, 1, []⟩] })] } } : Dev).wr (Pg.PTP 1) Reg.HDR.STATE
  3)).dev.rd (Pg.PTP (1)) Reg.HDR.STATE = 3) ∧ ((((W.of fun d =>
  ({ d with tim := { d.tim with ports := [(1, { rx := [⟨0, 1, []⟩] })] } } : Dev).wr (Pg.PTP 1) Reg.HDR.STATE
  3)).dev.port (1)).tx = none) := by decide

theorem wit_pageDrained_uart : (((W.of fun d => ({ d with brd := { d.brd with uartRx := [1] } } : Dev).wr Pg.UAR
  Reg.HDR.STATE 3)).dev.stopped = false) ∧ (((W.of fun d => ({ d with brd := { d.brd with uartRx := [1] } } :
  Dev).wr Pg.UAR Reg.HDR.STATE 3)).dev.rd Pg.UAR Reg.HDR.STATE = 3) ∧ (((W.of fun d =>
  ({ d with brd := { d.brd with uartRx := [1] } } : Dev).wr Pg.UAR Reg.HDR.STATE 3)).dev.brd.uartTx = []) := by
  decide

theorem wit_pageDrained_classes : (((W.of fun d => (d.wr Pg.GPI Reg.HDR.STATE 3).wr Pg.GPI Reg.HDR.INT_STAT
  1)).dev.stopped = false) ∧ (((W.of fun d => (d.wr Pg.GPI Reg.HDR.STATE 3).wr Pg.GPI Reg.HDR.INT_STAT 1)).dev.rd
  Pg.GPI Reg.HDR.STATE = 3) := by decide

theorem wit_incr_low : ((0) < 64) ∧ ((5) < 2 ^ 32) ∧ (Taken (W.on).dev (0) Pg.TMB 0x110 = true) := by decide

theorem wit_incr_taken : ((0) < 64) ∧ ((1) < 2 ^ 32) ∧ (Taken ((W.of fun d =>
  { d with lowHeld := [(halfKey 0 Pg.TMB 0x110, 0x4051EB85)] })).dev (0) Pg.TMB 0x114 = true) ∧ (Assoc.find ((W.of
  fun d => { d with lowHeld := [(halfKey 0 Pg.TMB 0x110, 0x4051EB85)] })).dev.lowHeld (halfKey (0) Pg.TMB 0x110) =
  some (0x4051EB85)) ∧ (0x13FAE147B ≤ (0x4051EB85) + 2 ^ 32 * (1)) ∧ ((0x4051EB85) + 2 ^ 32 * (1) ≤ 0x14051EB85) :=
  by decide

theorem wit_incr_refused : ((0) < 64) ∧ ((1) < 2 ^ 32) ∧ (Taken ((W.of fun d =>
  { d with lowHeld := [(halfKey 0 Pg.TMB 0x110, 0x4051EB86)] })).dev (0) Pg.TMB 0x114 = true) ∧ (Assoc.find ((W.of
  fun d => { d with lowHeld := [(halfKey 0 Pg.TMB 0x110, 0x4051EB86)] })).dev.lowHeld (halfKey (0) Pg.TMB 0x110) =
  some (0x4051EB86)) ∧ ((0x4051EB86) + 2 ^ 32 * (1) < 0x13FAE147B ∨ 0x14051EB85 < (0x4051EB86) + 2 ^ 32 * (1)) := by
  decide

theorem wit_step_applied : ((0) < 64) ∧ ((1) < 2 ^ 32) ∧ (Taken ((W.reg Pg.TMB Reg.TMB.STEP_NS_HI 0xFFFFFFFF)).dev
  (0) Pg.TMB 0x124 = true) ∧ (bitAt (1) 0 = true) ∧ (bitAt (1) 1 = false) ∧ (((W.reg Pg.TMB Reg.TMB.STEP_NS_HI
  0xFFFFFFFF)).dev.tim.step = none) ∧ (((W.reg Pg.TMB Reg.TMB.STEP_NS_HI 0xFFFFFFFF)).dev.on Pg.TMB Reg.TMB.ARMED =
  false) ∧ (((W.reg Pg.TMB Reg.TMB.STEP_NS_HI 0xFFFFFFFF)).dev.on Pg.TMB Reg.TMB.STATE = false ∨ ((W.reg Pg.TMB
  Reg.TMB.STEP_NS_HI 0xFFFFFFFF)).dev.stepAmount.natAbs ≤ ((W.reg Pg.TMB Reg.TMB.STEP_NS_HI 0xFFFFFFFF)).dev.rd
  Pg.TMB Reg.TMB.STEP_LIMIT * 2 ^ 32) := by decide

theorem wit_step_refused : ((0) < 64) ∧ ((1) < 2 ^ 32) ∧ (Taken ((W.of fun d => (d.wr Pg.TMB Reg.TMB.STEP_NS_LO
  1001).wr Pg.TMB Reg.TMB.STATE 1)).dev (0) Pg.TMB 0x124 = true) ∧ (bitAt (1) 0 = true) ∧ (bitAt (1) 1 = false) ∧
  (((W.of fun d => (d.wr Pg.TMB Reg.TMB.STEP_NS_LO 1001).wr Pg.TMB Reg.TMB.STATE 1)).dev.tim.step = none) ∧ (((W.of
  fun d => (d.wr Pg.TMB Reg.TMB.STEP_NS_LO 1001).wr Pg.TMB Reg.TMB.STATE 1)).dev.on Pg.TMB Reg.TMB.ARMED = false) ∧
  (((W.of fun d => (d.wr Pg.TMB Reg.TMB.STEP_NS_LO 1001).wr Pg.TMB Reg.TMB.STATE 1)).dev.on Pg.TMB Reg.TMB.STATE =
  true) ∧ (((W.of fun d => (d.wr Pg.TMB Reg.TMB.STEP_NS_LO 1001).wr Pg.TMB Reg.TMB.STATE 1)).dev.rd Pg.TMB
  Reg.TMB.STEP_LIMIT * 2 ^ 32 < ((W.of fun d => (d.wr Pg.TMB Reg.TMB.STEP_NS_LO 1001).wr Pg.TMB Reg.TMB.STATE
  1)).dev.stepAmount.natAbs) := by decide

theorem wit_step_forced : ((0) < 64) ∧ ((1) < 2 ^ 32) ∧ (Taken ((W.of fun d => ((d.wr Pg.TMB Reg.TMB.STEP_NS_LO
  1001).wr Pg.TMB Reg.TMB.STATE 1).wr Pg.TMB Reg.TMB.ARMED 1)).dev (0) Pg.TMB 0x124 = true) ∧ (bitAt (1) 0 = true) ∧
  (((W.of fun d => ((d.wr Pg.TMB Reg.TMB.STEP_NS_LO 1001).wr Pg.TMB Reg.TMB.STATE 1).wr Pg.TMB Reg.TMB.ARMED
  1)).dev.tim.step = none) ∧ (((W.of fun d => ((d.wr Pg.TMB Reg.TMB.STEP_NS_LO 1001).wr Pg.TMB Reg.TMB.STATE 1).wr
  Pg.TMB Reg.TMB.ARMED 1)).dev.on Pg.TMB Reg.TMB.ARMED = true) := by decide

theorem wit_step_busy : ((0) < 64) ∧ ((1) < 2 ^ 32) ∧ (Taken ((W.of fun d =>
  { d with tim := { d.tim with step := some (5, none) } })).dev (0) Pg.TMB 0x124 = true) ∧ (bitAt (1) 0 = true) ∧
  (bitAt (1) 1 = false) ∧ (((W.of fun d => { d with tim := { d.tim with step := some (5, none) } })).dev.tim.step =
  some (((5, none) : Int × Option (List Byte)))) := by decide

theorem wit_step_due : (W.of fun d => { d with tim := { d.tim with step := some (-5, none) } }).dev.tim.step = some (-5, none) := by decide

theorem wit_arm : ((0) < 64) ∧ ((2) < 2 ^ 32) ∧ (Taken (W.on).dev (0) Pg.TMB 0x124 = true) ∧ (bitAt (2) 0 = false) ∧
  (bitAt (2) 1 = true) := by decide

theorem wit_armedExpiry : (((W.reg Pg.TMB Reg.TMB.ARMED 1)).dev.stopped = false) := by decide

theorem wit_ppsOut : (((W.reg Pg.TMB Reg.TMB.PPS_OUT_EN 1)).dev.stopped = false) ∧ (((W.reg Pg.TMB
  Reg.TMB.PPS_OUT_EN 1)).dev.on Pg.TMB Reg.TMB.PPS_OUT_EN = true) := by decide

theorem wit_ppsOutFall : (((W.of fun d => { d with tim := { d.tim with ppsOut := true } })).dev.stopped = false) ∧
  (((W.of fun d => { d with tim := { d.tim with ppsOut := true } })).dev.tim.ppsOut = true) := by decide

theorem wit_ppsIn : (((W.reg Pg.TMB Reg.TMB.PPS_IN_CNT 0xFFFFFFFF)).dev.stopped = false) := by decide

theorem wit_setGo : ((0) < 64) ∧ ((1) < 2) ∧ ((1) < 2 ^ 32) ∧ (Taken ((W.reg (Pg.PTP 1) Reg.PTP.SET_NS 7)).dev (0)
  (Pg.PTP (1)) 0x118 = true) ∧ (bitAt (1) 0 = true) ∧ (bitAt (1) 1 = false) ∧ ((((W.reg (Pg.PTP 1) Reg.PTP.SET_NS
  7)).dev.rd64 (Pg.PTP (1)) Reg.PTP.SET_SEC_LO Reg.PTP.SET_SEC_HI * 10 ^ 9 + ((W.reg (Pg.PTP 1) Reg.PTP.SET_NS
  7)).dev.rd (Pg.PTP (1)) Reg.PTP.SET_NS) * 2 ^ 32 < portWrap) := by decide

theorem wit_adjGo : ((0) < 64) ∧ ((0) < 2) ∧ ((2) < 2 ^ 32) ∧ (Taken ((W.of fun d =>
  { (d.wr (Pg.PTP 0) Reg.PTP.ADJ_NS_LO 0xFFFFFFFF).wr (Pg.PTP 0) Reg.PTP.ADJ_NS_HI 0xFFFFFFFF with tim := { d.tim with ports := [(0, { time := 5000000000 })] } })).dev
  (0) (Pg.PTP (0)) 0x118 = true) ∧ (bitAt (2) 0 = false) ∧ (bitAt (2) 1 = true) ∧ (0 ≤ (((W.of fun d =>
  { (d.wr (Pg.PTP 0) Reg.PTP.ADJ_NS_LO 0xFFFFFFFF).wr (Pg.PTP 0) Reg.PTP.ADJ_NS_HI 0xFFFFFFFF with tim := { d.tim with ports := [(0, { time := 5000000000 })] } })).dev.port
  (0)).time + (sgn 64 (((W.of fun d =>
  { (d.wr (Pg.PTP 0) Reg.PTP.ADJ_NS_LO 0xFFFFFFFF).wr (Pg.PTP 0) Reg.PTP.ADJ_NS_HI 0xFFFFFFFF with tim := { d.tim with ports := [(0, { time := 5000000000 })] } })).dev.rd64
  (Pg.PTP (0)) Reg.PTP.ADJ_NS_LO Reg.PTP.ADJ_NS_HI) * 2 ^ 32 + (((W.of fun d =>
  { (d.wr (Pg.PTP 0) Reg.PTP.ADJ_NS_LO 0xFFFFFFFF).wr (Pg.PTP 0) Reg.PTP.ADJ_NS_HI 0xFFFFFFFF with tim := { d.tim with ports := [(0, { time := 5000000000 })] } })).dev.rd
  (Pg.PTP (0)) Reg.PTP.ADJ_FRAC : Nat))) ∧ ((((W.of fun d =>
  { (d.wr (Pg.PTP 0) Reg.PTP.ADJ_NS_LO 0xFFFFFFFF).wr (Pg.PTP 0) Reg.PTP.ADJ_NS_HI 0xFFFFFFFF with tim := { d.tim with ports := [(0, { time := 5000000000 })] } })).dev.port
  (0)).time + (sgn 64 (((W.of fun d =>
  { (d.wr (Pg.PTP 0) Reg.PTP.ADJ_NS_LO 0xFFFFFFFF).wr (Pg.PTP 0) Reg.PTP.ADJ_NS_HI 0xFFFFFFFF with tim := { d.tim with ports := [(0, { time := 5000000000 })] } })).dev.rd64
  (Pg.PTP (0)) Reg.PTP.ADJ_NS_LO Reg.PTP.ADJ_NS_HI) * 2 ^ 32 + (((W.of fun d =>
  { (d.wr (Pg.PTP 0) Reg.PTP.ADJ_NS_LO 0xFFFFFFFF).wr (Pg.PTP 0) Reg.PTP.ADJ_NS_HI 0xFFFFFFFF with tim := { d.tim with ports := [(0, { time := 5000000000 })] } })).dev.rd
  (Pg.PTP (0)) Reg.PTP.ADJ_FRAC : Nat)) < portWrap) := by decide

theorem wit_rxPop : ((0) < 64) ∧ ((0) < 2) ∧ ((1) < 2 ^ 32) ∧ (Taken ((W.of fun d =>
  { d with tim := { d.tim with ports := [(0, { rx := [⟨0, 1, []⟩] })] } })).dev (0) (Pg.PTP (0)) 0x150 = true) ∧
  (bitAt (1) 0 = true) := by decide

theorem wit_tsPop : ((0) < 64) ∧ ((0) < 2) ∧ ((1) < 2 ^ 32) ∧ (Taken ((W.of fun d =>
  { d with tim := { d.tim with ports := [(0, { ts := [(1, 2)] })] } })).dev (0) (Pg.PTP (0)) 0x174 = true) ∧ (bitAt
  (1) 0 = true) := by decide

theorem wit_txGo : ((0) < 64) ∧ ((1) < 2) ∧ ((0x80051004) < 2 ^ 32) ∧ (Taken ((W.reg (Pg.PTP 1) Reg.PTP.TX_DATA
  9)).dev (0) (Pg.PTP (1)) 0x160 = true) ∧ (bitAt (0x80051004) 31 = true) ∧ ((((W.reg (Pg.PTP 1) Reg.PTP.TX_DATA
  9)).dev.port (1)).tx = none) ∧ (((W.reg (Pg.PTP 1) Reg.PTP.TX_DATA 9)).dev.on (Pg.PTP (1)) Reg.HDR.EN = true) :=
  by decide

theorem wit_txGo_held : ((0) < 64) ∧ ((1) < 2) ∧ ((0x80051004) < 2 ^ 32) ∧ (Taken ((W.reg (Pg.PTP 1) Reg.HDR.EN
  0)).dev (0) (Pg.PTP (1)) 0x160 = true) ∧ (bitAt (0x80051004) 31 = true) ∧ ((((W.reg (Pg.PTP 1) Reg.HDR.EN
  0)).dev.port (1)).tx = none) ∧ (((W.reg (Pg.PTP 1) Reg.HDR.EN 0)).dev.on (Pg.PTP (1)) Reg.HDR.EN = false) := by
  decide

theorem wit_txGo_busy : ((0) < 64) ∧ ((1) < 2) ∧ ((0x80051004) < 2 ^ 32) ∧ (Taken ((W.of fun d =>
  { d with tim := { d.tim with ports := [(1, { tx := some (0, 1, 0) })] } })).dev (0) (Pg.PTP (1)) 0x160 = true) ∧
  ((((W.of fun d => { d with tim := { d.tim with ports := [(1, { tx := some (0, 1, 0) })] } })).dev.port (1)).tx ≠
  none) := by decide

theorem wit_ptpTxDone : ((0) < 2) ∧ (((W.of fun d =>
  { d with tim := { d.tim with ports := [(0, { tx := some (0, 3, 98), time := 99 })] } })).dev.stopped = false) ∧
  ((((W.of fun d =>
  { d with tim := { d.tim with ports := [(0, { tx := some (0, 3, 98), time := 99 })] } })).dev.port (0)).tx = some
  ((0), (3), (98))) ∧ ((98) ≤ (((W.of fun d =>
  { d with tim := { d.tim with ports := [(0, { tx := some (0, 3, 98), time := 99 })] } })).dev.port (0)).time) ∧
  ((((W.of fun d =>
  { d with tim := { d.tim with ports := [(0, { tx := some (0, 3, 98), time := 99 })] } })).dev.port (0)).time <
  portWrap) ∧ ((((W.of fun d =>
  { d with tim := { d.tim with ports := [(0, { tx := some (0, 3, 98), time := 99 })] } })).dev.port (0)).held =
  none) ∧ ((((W.of fun d =>
  { d with tim := { d.tim with ports := [(0, { tx := some (0, 3, 98), time := 99 })] } })).dev.port (0)).ts.length <
  16) := by decide

theorem wit_ptpRx : ((0) < 2) ∧ ((1) < 4) ∧ ((W.on).dev.stopped = false) ∧ ((W.on).dev.allAwake = true) ∧ (isPtp
  ((W.on).dev.netOwn (0) (1)) (((zeros 12 ++ [0x88, 0xF7, 0, 2]) : List Byte)) = true) ∧ (((W.on).dev.port
  (0)).rx.length < 64) := by decide

theorem wit_ptpRx_full : ((0) < 2) ∧ ((1) < 4) ∧ (((W.of fun d =>
  { d with tim := { d.tim with ports := [(0, { rx := List.replicate 64 ⟨0, 0, []⟩ })] } })).dev.stopped = false) ∧
  (((W.of fun d =>
  { d with tim := { d.tim with ports := [(0, { rx := List.replicate 64 ⟨0, 0, []⟩ })] } })).dev.allAwake = true) ∧
  (isPtp (((W.of fun d =>
  { d with tim := { d.tim with ports := [(0, { rx := List.replicate 64 ⟨0, 0, []⟩ })] } })).dev.netOwn (0) (1))
  (((zeros 12 ++ [0x88, 0xF7, 0, 2]) : List Byte)) = true) ∧ (64 ≤ (((W.of fun d =>
  { d with tim := { d.tim with ports := [(0, { rx := List.replicate 64 ⟨0, 0, []⟩ })] } })).dev.port (0)).rx.length)
  := by decide

theorem wit_cadenceEn_start : ((0) < 64) ∧ ((15) < 16) ∧ ((1) < 2 ^ 32) ∧ (Taken (W.on).dev (0) Pg.TMB (0x400 + 0x40
  * (15)) = true) ∧ ((W.on).dev.on Pg.TMB Reg.HDR.EN = true) ∧ ((W.on).dev.on Pg.TMB Reg.TMB.C_EN (15) = false) ∧
  (bitAt (1) 0 = true) ∧ (bitAt (1) 1 = false) ∧ (bitAt (1) 2 = false) ∧ (((W.on).dev.cadHeads (15)) = []) := by
  decide

theorem wit_cadenceEn_waits : ((0) < 64) ∧ ((0) < 16) ∧ ((5) < 2 ^ 32) ∧ (Taken (W.on).dev (0) Pg.TMB (0x400 + 0x40
  * (0)) = true) ∧ ((W.on).dev.on Pg.TMB Reg.HDR.EN = true) ∧ ((W.on).dev.on Pg.TMB Reg.TMB.C_EN (0) = false) ∧
  (bitAt (5) 0 = true) ∧ (bitAt (5) 2 = true) := by decide

theorem wit_cadenceEn_page : ((0) < 64) ∧ ((0) < 16) ∧ ((5) < 2 ^ 32) ∧ (Taken ((W.reg Pg.TMB Reg.HDR.EN 0)).dev (0)
  Pg.TMB (0x400 + 0x40 * (0)) = true) ∧ (((W.reg Pg.TMB Reg.HDR.EN 0)).dev.on Pg.TMB Reg.HDR.EN = false) ∧ (((W.reg
  Pg.TMB Reg.HDR.EN 0)).dev.on Pg.TMB Reg.TMB.C_EN (0) = false) ∧ (bitAt (5) 0 = true) := by decide

theorem wit_cadenceEn_stop : ((0) < 64) ∧ ((2) < 16) ∧ ((2) < 2 ^ 32) ∧ (Taken ((W.reg Pg.TMB Reg.TMB.C_EN 1 2)).dev
  (0) Pg.TMB (0x400 + 0x40 * (2)) = true) ∧ (((W.reg Pg.TMB Reg.TMB.C_EN 1 2)).dev.on Pg.TMB Reg.TMB.C_EN (2) =
  true) ∧ (bitAt (2) 0 = false) := by decide

theorem wit_cadenceEn_holds : ((0) < 64) ∧ ((2) < 16) ∧ ((7) < 2 ^ 32) ∧ (Taken ((W.reg Pg.TMB Reg.TMB.C_EN 1
  2)).dev (0) Pg.TMB (0x400 + 0x40 * (2)) = true) ∧ (((W.reg Pg.TMB Reg.TMB.C_EN 1 2)).dev.on Pg.TMB Reg.TMB.C_EN
  (2) = true) ∧ (bitAt (7) 0 = true) := by decide

theorem wit_cadenceInstant : ((3) < 16) ∧ (((W.of fun d =>
  { d with tim := { d.tim with cads := [(3, { running := true, burst := 0, nextK := 4 })] } })).dev.stopped = false)
  ∧ (((W.of fun d =>
  { d with tim := { d.tim with cads := [(3, { running := true, burst := 0, nextK := 4 })] } })).dev.allAwake = true)
  ∧ (((W.of fun d =>
  { d with tim := { d.tim with cads := [(3, { running := true, burst := 0, nextK := 4 })] } })).dev.on Pg.TMB
  Reg.TMB.C_SRC (3) = false) ∧ (((W.of fun d =>
  { d with tim := { d.tim with cads := [(3, { running := true, burst := 0, nextK := 4 })] } })).dev.on Pg.TMB
  Reg.TMB.C_WAITING (3) = false) ∧ ((((W.of fun d =>
  { d with tim := { d.tim with cads := [(3, { running := true, burst := 0, nextK := 4 })] } })).dev.cad (3)).running
  = true) ∧ (((W.of fun d =>
  { d with tim := { d.tim with cads := [(3, { running := true, burst := 0, nextK := 4 })] } })).dev.rd Pg.TMB
  Reg.TMB.C_PERIOD_NUM (3) ≠ 0) ∧ (((W.of fun d =>
  { d with tim := { d.tim with cads := [(3, { running := true, burst := 0, nextK := 4 })] } })).dev.rd Pg.TMB
  Reg.TMB.C_PERIOD_DEN (3) ≠ 0) ∧ ((((W.of fun d =>
  { d with tim := { d.tim with cads := [(3, { running := true, burst := 0, nextK := 4 })] } })).dev.cad (3)).last =
  none) ∧ ((((W.of fun d =>
  { d with tim := { d.tim with cads := [(3, { running := true, burst := 0, nextK := 4 })] } })).dev.cad (3)).burst =
  0) ∧ (((W.of fun d =>
  { d with tim := { d.tim with cads := [(3, { running := true, burst := 0, nextK := 4 })] } })).dev.pip.dsps = [])
  := by decide

theorem wit_tlsHoldover : ((1) < 16) ∧ (((W.of fun d =>
  { d.wr Pg.TMB Reg.TMB.C_SRC 1 1 with tim := { d.tim with cads := [(1, { running := true, locked := true, period := 99 })] } })).dev.stopped
  = false) ∧ ((((W.of fun d =>
  { d.wr Pg.TMB Reg.TMB.C_SRC 1 1 with tim := { d.tim with cads := [(1, { running := true, locked := true, period := 99 })] } })).dev.cad
  (1)).locked = true) ∧ ((((W.of fun d =>
  { d.wr Pg.TMB Reg.TMB.C_SRC 1 1 with tim := { d.tim with cads := [(1, { running := true, locked := true, period := 99 })] } })).dev.cad
  (1)).running = true) ∧ (((W.of fun d =>
  { d.wr Pg.TMB Reg.TMB.C_SRC 1 1 with tim := { d.tim with cads := [(1, { running := true, locked := true, period := 99 })] } })).dev.on
  Pg.TMB Reg.TMB.C_SRC (1) = true) := by decide

theorem wit_tlsFrameInstant : ((2 ^ 96 - 1) < 2 ^ 96) ∧ ((W.on).dev.stopped = false) ∧ ((List.range 16).all (fun c
  => !(W.on).dev.on Pg.TMB Reg.TMB.C_SRC c) = true) := by decide

theorem wit_headCad : ((0) < 64) ∧ ((251) < 256) ∧ ((0x105) < 2 ^ 32) ∧ (Taken (W.on).dev (0) Pg.TMB (0x800 + 8 *
  (251)) = true) ∧ ((W.on).dev.admission (251) ≠ 2) := by decide

theorem wit_headCad_high : ((0) < 64) ∧ ((0) < 256) ∧ ((0xFFFFFFFF) < 2 ^ 32) ∧ (Taken (W.on).dev (0) Pg.TMB (0x804
  + 8 * (0)) = true) ∧ ((W.on).dev.admission (0) ≠ 2) := by decide

theorem wit_grid : W.on.dev.on Pg.TMB Reg.TMB.C_SRC 0 = false ∧ (W.on.dev.cad 0).origin = none := by decide

theorem wit_grid_example : let d := (W.of fun d => (d.wr Pg.TMB Reg.TMB.C_PERIOD_NUM 1001 3).wr Pg.TMB Reg.TMB.C_PERIOD_DEN 24000 3).dev; d.on Pg.TMB Reg.TMB.C_SRC 3 = false ∧ (d.cad 3).origin = none ∧ d.cadOffset 3 = 0 ∧ d.rd Pg.TMB Reg.TMB.C_PERIOD_NUM 3 = 1001 ∧ d.rd Pg.TMB Reg.TMB.C_PERIOD_DEN 3 = 24000 := by decide

theorem wit_quadratureEdge_up : ((15) < 16) ∧ (((W.of fun d => (d.wr (Pg.PFB 15) Reg.PFB.MODE 1).wr (Pg.PFB 15)
  Reg.PFB.COUNTS_PER_REV 2)).dev.stopped = false) ∧ (((W.of fun d => (d.wr (Pg.PFB 15) Reg.PFB.MODE 1).wr (Pg.PFB
  15) Reg.PFB.COUNTS_PER_REV 2)).dev.counting (15) 1 = true) ∧ (((W.of fun d => (d.wr (Pg.PFB 15) Reg.PFB.MODE 1).wr
  (Pg.PFB 15) Reg.PFB.COUNTS_PER_REV 2)).dev.on (Pg.PFB (15)) Reg.PFB.INVERT = false) ∧ ((((W.of fun d => (d.wr
  (Pg.PFB 15) Reg.PFB.MODE 1).wr (Pg.PFB 15) Reg.PFB.COUNTS_PER_REV 2)).dev.chan (15)).a = false) ∧ ((((W.of fun d
  => (d.wr (Pg.PFB 15) Reg.PFB.MODE 1).wr (Pg.PFB 15) Reg.PFB.COUNTS_PER_REV 2)).dev.chan (15)).b = false) ∧ (((W.of
  fun d => (d.wr (Pg.PFB 15) Reg.PFB.MODE 1).wr (Pg.PFB 15) Reg.PFB.COUNTS_PER_REV 2)).dev.pfb (15) Reg.PFB.POS + 1
  < ((W.of fun d => (d.wr (Pg.PFB 15) Reg.PFB.MODE 1).wr (Pg.PFB 15) Reg.PFB.COUNTS_PER_REV 2)).dev.cpr (15)) ∧
  (((W.of fun d => (d.wr (Pg.PFB 15) Reg.PFB.MODE 1).wr (Pg.PFB 15) Reg.PFB.COUNTS_PER_REV 2)).dev.cpr (15) ≤ 2 ^
  32) ∧ (((W.of fun d => (d.wr (Pg.PFB 15) Reg.PFB.MODE 1).wr (Pg.PFB 15) Reg.PFB.COUNTS_PER_REV 2)).dev.pfb (15)
  Reg.PFB.REV < 2 ^ 32) := by decide

theorem wit_quadratureEdge_wrap : ((0) < 16) ∧ (((W.of fun d =>
  { ((d.wr (Pg.PFB 0) Reg.PFB.MODE 1).wr (Pg.PFB 0) Reg.PFB.POS 0xFFFFFFFF).wr (Pg.PFB 0) Reg.PFB.REV 0xFFFFFFFF with tim := { d.tim with chans := [(0, { a := true, b := true })] } })).dev.stopped
  = false) ∧ (((W.of fun d =>
  { ((d.wr (Pg.PFB 0) Reg.PFB.MODE 1).wr (Pg.PFB 0) Reg.PFB.POS 0xFFFFFFFF).wr (Pg.PFB 0) Reg.PFB.REV 0xFFFFFFFF with tim := { d.tim with chans := [(0, { a := true, b := true })] } })).dev.counting
  (0) 1 = true) ∧ (((W.of fun d =>
  { ((d.wr (Pg.PFB 0) Reg.PFB.MODE 1).wr (Pg.PFB 0) Reg.PFB.POS 0xFFFFFFFF).wr (Pg.PFB 0) Reg.PFB.REV 0xFFFFFFFF with tim := { d.tim with chans := [(0, { a := true, b := true })] } })).dev.on
  (Pg.PFB (0)) Reg.PFB.INVERT = false) ∧ ((((W.of fun d =>
  { ((d.wr (Pg.PFB 0) Reg.PFB.MODE 1).wr (Pg.PFB 0) Reg.PFB.POS 0xFFFFFFFF).wr (Pg.PFB 0) Reg.PFB.REV 0xFFFFFFFF with tim := { d.tim with chans := [(0, { a := true, b := true })] } })).dev.chan
  (0)).a = true) ∧ ((((W.of fun d =>
  { ((d.wr (Pg.PFB 0) Reg.PFB.MODE 1).wr (Pg.PFB 0) Reg.PFB.POS 0xFFFFFFFF).wr (Pg.PFB 0) Reg.PFB.REV 0xFFFFFFFF with tim := { d.tim with chans := [(0, { a := true, b := true })] } })).dev.chan
  (0)).b = true) ∧ (((W.of fun d =>
  { ((d.wr (Pg.PFB 0) Reg.PFB.MODE 1).wr (Pg.PFB 0) Reg.PFB.POS 0xFFFFFFFF).wr (Pg.PFB 0) Reg.PFB.REV 0xFFFFFFFF with tim := { d.tim with chans := [(0, { a := true, b := true })] } })).dev.pfb
  (0) Reg.PFB.POS + 1 = ((W.of fun d =>
  { ((d.wr (Pg.PFB 0) Reg.PFB.MODE 1).wr (Pg.PFB 0) Reg.PFB.POS 0xFFFFFFFF).wr (Pg.PFB 0) Reg.PFB.REV 0xFFFFFFFF with tim := { d.tim with chans := [(0, { a := true, b := true })] } })).dev.cpr
  (0)) ∧ (((W.of fun d =>
  { ((d.wr (Pg.PFB 0) Reg.PFB.MODE 1).wr (Pg.PFB 0) Reg.PFB.POS 0xFFFFFFFF).wr (Pg.PFB 0) Reg.PFB.REV 0xFFFFFFFF with tim := { d.tim with chans := [(0, { a := true, b := true })] } })).dev.cpr
  (0) ≤ 2 ^ 32) ∧ (((W.of fun d =>
  { ((d.wr (Pg.PFB 0) Reg.PFB.MODE 1).wr (Pg.PFB 0) Reg.PFB.POS 0xFFFFFFFF).wr (Pg.PFB 0) Reg.PFB.REV 0xFFFFFFFF with tim := { d.tim with chans := [(0, { a := true, b := true })] } })).dev.pfb
  (0) Reg.PFB.REV < 2 ^ 32) := by decide

theorem wit_quadratureEdge_inverted : ((0) < 16) ∧ (((W.of fun d =>
  { (d.wr (Pg.PFB 0) Reg.PFB.MODE 1).wr (Pg.PFB 0) Reg.PFB.INVERT 1 with tim := { d.tim with chans := [(0, { b := true })] } })).dev.stopped
  = false) ∧ (((W.of fun d =>
  { (d.wr (Pg.PFB 0) Reg.PFB.MODE 1).wr (Pg.PFB 0) Reg.PFB.INVERT 1 with tim := { d.tim with chans := [(0, { b := true })] } })).dev.counting
  (0) 1 = true) ∧ (((W.of fun d =>
  { (d.wr (Pg.PFB 0) Reg.PFB.MODE 1).wr (Pg.PFB 0) Reg.PFB.INVERT 1 with tim := { d.tim with chans := [(0, { b := true })] } })).dev.on
  (Pg.PFB (0)) Reg.PFB.INVERT = true) ∧ ((((W.of fun d =>
  { (d.wr (Pg.PFB 0) Reg.PFB.MODE 1).wr (Pg.PFB 0) Reg.PFB.INVERT 1 with tim := { d.tim with chans := [(0, { b := true })] } })).dev.chan
  (0)).a = false) ∧ ((((W.of fun d =>
  { (d.wr (Pg.PFB 0) Reg.PFB.MODE 1).wr (Pg.PFB 0) Reg.PFB.INVERT 1 with tim := { d.tim with chans := [(0, { b := true })] } })).dev.chan
  (0)).b = true) ∧ (((W.of fun d =>
  { (d.wr (Pg.PFB 0) Reg.PFB.MODE 1).wr (Pg.PFB 0) Reg.PFB.INVERT 1 with tim := { d.tim with chans := [(0, { b := true })] } })).dev.pfb
  (0) Reg.PFB.POS = 0) ∧ (0 < ((W.of fun d =>
  { (d.wr (Pg.PFB 0) Reg.PFB.MODE 1).wr (Pg.PFB 0) Reg.PFB.INVERT 1 with tim := { d.tim with chans := [(0, { b := true })] } })).dev.cpr
  (0)) ∧ (((W.of fun d =>
  { (d.wr (Pg.PFB 0) Reg.PFB.MODE 1).wr (Pg.PFB 0) Reg.PFB.INVERT 1 with tim := { d.tim with chans := [(0, { b := true })] } })).dev.cpr
  (0) ≤ 2 ^ 32) ∧ (((W.of fun d =>
  { (d.wr (Pg.PFB 0) Reg.PFB.MODE 1).wr (Pg.PFB 0) Reg.PFB.INVERT 1 with tim := { d.tim with chans := [(0, { b := true })] } })).dev.pfb
  (0) Reg.PFB.REV < 2 ^ 32) := by decide

theorem wit_quadratureEdge_illegal : ((2) < 16) ∧ (((W.reg (Pg.PFB 2) Reg.PFB.MODE 1)).dev.stopped = false) ∧
  (((W.reg (Pg.PFB 2) Reg.PFB.MODE 1)).dev.counting (2) 1 = true) ∧ ((((W.reg (Pg.PFB 2) Reg.PFB.MODE 1)).dev.chan
  (2)).a = false) ∧ ((((W.reg (Pg.PFB 2) Reg.PFB.MODE 1)).dev.chan (2)).b = false) := by decide

theorem wit_hallEdge_up : ((1) < 16) ∧ (((W.of fun d =>
  { (d.wr (Pg.PFB 1) Reg.PFB.MODE 2).wr (Pg.PFB 1) Reg.PFB.COUNTS_PER_REV 6 with tim := { d.tim with chans := [(1, { a := true })] } })).dev.stopped
  = false) ∧ (((W.of fun d =>
  { (d.wr (Pg.PFB 1) Reg.PFB.MODE 2).wr (Pg.PFB 1) Reg.PFB.COUNTS_PER_REV 6 with tim := { d.tim with chans := [(1, { a := true })] } })).dev.counting
  (1) 2 = true) ∧ (((W.of fun d =>
  { (d.wr (Pg.PFB 1) Reg.PFB.MODE 2).wr (Pg.PFB 1) Reg.PFB.COUNTS_PER_REV 6 with tim := { d.tim with chans := [(1, { a := true })] } })).dev.on
  (Pg.PFB (1)) Reg.PFB.INVERT = false) ∧ ((((W.of fun d =>
  { (d.wr (Pg.PFB 1) Reg.PFB.MODE 2).wr (Pg.PFB 1) Reg.PFB.COUNTS_PER_REV 6 with tim := { d.tim with chans := [(1, { a := true })] } })).dev.chan
  (1)).a = true) ∧ ((((W.of fun d =>
  { (d.wr (Pg.PFB 1) Reg.PFB.MODE 2).wr (Pg.PFB 1) Reg.PFB.COUNTS_PER_REV 6 with tim := { d.tim with chans := [(1, { a := true })] } })).dev.chan
  (1)).b = false) ∧ ((((W.of fun d =>
  { (d.wr (Pg.PFB 1) Reg.PFB.MODE 2).wr (Pg.PFB 1) Reg.PFB.COUNTS_PER_REV 6 with tim := { d.tim with chans := [(1, { a := true })] } })).dev.chan
  (1)).z = false) ∧ (((W.of fun d =>
  { (d.wr (Pg.PFB 1) Reg.PFB.MODE 2).wr (Pg.PFB 1) Reg.PFB.COUNTS_PER_REV 6 with tim := { d.tim with chans := [(1, { a := true })] } })).dev.pfb
  (1) Reg.PFB.POS + 1 < ((W.of fun d =>
  { (d.wr (Pg.PFB 1) Reg.PFB.MODE 2).wr (Pg.PFB 1) Reg.PFB.COUNTS_PER_REV 6 with tim := { d.tim with chans := [(1, { a := true })] } })).dev.cpr
  (1)) ∧ (((W.of fun d =>
  { (d.wr (Pg.PFB 1) Reg.PFB.MODE 2).wr (Pg.PFB 1) Reg.PFB.COUNTS_PER_REV 6 with tim := { d.tim with chans := [(1, { a := true })] } })).dev.cpr
  (1) ≤ 2 ^ 32) ∧ (((W.of fun d =>
  { (d.wr (Pg.PFB 1) Reg.PFB.MODE 2).wr (Pg.PFB 1) Reg.PFB.COUNTS_PER_REV 6 with tim := { d.tim with chans := [(1, { a := true })] } })).dev.pfb
  (1) Reg.PFB.REV < 2 ^ 32) := by decide

theorem wit_hallEdge_illegal : ((1) < 16) ∧ (((W.of fun d =>
  { d.wr (Pg.PFB 1) Reg.PFB.MODE 2 with tim := { d.tim with chans := [(1, { a := true })] } })).dev.stopped = false)
  ∧ (((W.of fun d =>
  { d.wr (Pg.PFB 1) Reg.PFB.MODE 2 with tim := { d.tim with chans := [(1, { a := true })] } })).dev.counting (1) 2 =
  true) ∧ ((((W.of fun d =>
  { d.wr (Pg.PFB 1) Reg.PFB.MODE 2 with tim := { d.tim with chans := [(1, { a := true })] } })).dev.chan (1)).a =
  true) := by decide

theorem wit_ssiFrame_invalid : ((1) < 16) ∧ ((9) < 2 ^ 64) ∧ (((W.reg (Pg.PFB 1) Reg.PFB.MODE 3)).dev.stopped =
  false) ∧ (((W.reg (Pg.PFB 1) Reg.PFB.MODE 3)).dev.counting (1) 3 = true) := by decide

theorem wit_ssiFrame_valid : ((1) < 16) ∧ ((9) < 2 ^ 64) ∧ (((W.of fun d => (d.wr (Pg.PFB 1) Reg.PFB.MODE 3).wr
  (Pg.PFB 1) Reg.PFB.GRAY 0)).dev.stopped = false) ∧ (((W.of fun d => (d.wr (Pg.PFB 1) Reg.PFB.MODE 3).wr (Pg.PFB 1)
  Reg.PFB.GRAY 0)).dev.counting (1) 3 = true) ∧ (((W.of fun d => (d.wr (Pg.PFB 1) Reg.PFB.MODE 3).wr (Pg.PFB 1)
  Reg.PFB.GRAY 0)).dev.on (Pg.PFB (1)) Reg.PFB.GRAY = false) ∧ ((9) < 2 ^ ((W.of fun d => (d.wr (Pg.PFB 1)
  Reg.PFB.MODE 3).wr (Pg.PFB 1) Reg.PFB.GRAY 0)).dev.pfb (1) Reg.PFB.SSI_BITS) ∧ (((W.of fun d => (d.wr (Pg.PFB 1)
  Reg.PFB.MODE 3).wr (Pg.PFB 1) Reg.PFB.GRAY 0)).dev.pfb (1) Reg.PFB.ST_BITS < ((W.of fun d => (d.wr (Pg.PFB 1)
  Reg.PFB.MODE 3).wr (Pg.PFB 1) Reg.PFB.GRAY 0)).dev.pfb (1) Reg.PFB.SSI_BITS) ∧ (((W.of fun d => (d.wr (Pg.PFB 1)
  Reg.PFB.MODE 3).wr (Pg.PFB 1) Reg.PFB.GRAY 0)).dev.pfb (1) Reg.PFB.SSI_BITS ≤ 32) ∧ (((W.of fun d => (d.wr (Pg.PFB
  1) Reg.PFB.MODE 3).wr (Pg.PFB 1) Reg.PFB.GRAY 0)).dev.absolute (1) ≠ (9)) := by decide

theorem wit_zeroSpeed : ((1) < 16) ∧ (((W.reg (Pg.PFB 1) Reg.PFB.MODE 2)).dev.stopped = false) ∧ (((W.reg (Pg.PFB 1)
  Reg.PFB.MODE 2)).dev.pfb (1) Reg.PFB.MODE ≠ 0) := by decide

theorem wit_preset : ((0) < 64) ∧ ((3) < 16) ∧ ((1) < 2 ^ 32) ∧ (Taken ((W.reg (Pg.PFB 3) Reg.PFB.POS_SET 77)).dev
  (0) (Pg.PFB (3)) 0x120 = true) ∧ (bitAt (1) 0 = true) ∧ (((W.reg (Pg.PFB 3) Reg.PFB.POS_SET 77)).dev.pfb (3)
  Reg.PFB.POS_SET < ((W.reg (Pg.PFB 3) Reg.PFB.POS_SET 77)).dev.cpr (3)) ∧ (((W.reg (Pg.PFB 3) Reg.PFB.POS_SET
  77)).dev.pfb (3) Reg.PFB.POS_SET < 2 ^ 32) ∧ (((W.reg (Pg.PFB 3) Reg.PFB.POS_SET 77)).dev.pfb (3) Reg.PFB.REV_SET
  < 2 ^ 32) := by decide

theorem wit_zArm : ((0) < 64) ∧ ((3) < 16) ∧ ((2) < 2 ^ 32) ∧ (Taken (W.on).dev (0) (Pg.PFB (3)) 0x120 = true) ∧
  (bitAt (2) 0 = false) ∧ (bitAt (2) 1 = true) := by decide

theorem wit_indexEdge_homes : ((1) < 16) ∧ (((W.of fun d =>
  { (d.wr (Pg.PFB 1) Reg.PFB.MODE 1).wr (Pg.PFB 1) Reg.PFB.Z_MODE 2 with tim := { d.tim with chans := [(1, { zArmed := true })] } })).dev.stopped
  = false) ∧ (((W.of fun d =>
  { (d.wr (Pg.PFB 1) Reg.PFB.MODE 1).wr (Pg.PFB 1) Reg.PFB.Z_MODE 2 with tim := { d.tim with chans := [(1, { zArmed := true })] } })).dev.counting
  (1) 1 = true) ∧ (((W.of fun d =>
  { (d.wr (Pg.PFB 1) Reg.PFB.MODE 1).wr (Pg.PFB 1) Reg.PFB.Z_MODE 2 with tim := { d.tim with chans := [(1, { zArmed := true })] } })).dev.pfb
  (1) Reg.PFB.Z_MODE = 2) ∧ ((((W.of fun d =>
  { (d.wr (Pg.PFB 1) Reg.PFB.MODE 1).wr (Pg.PFB 1) Reg.PFB.Z_MODE 2 with tim := { d.tim with chans := [(1, { zArmed := true })] } })).dev.chan
  (1)).zArmed = true) ∧ (((W.of fun d =>
  { (d.wr (Pg.PFB 1) Reg.PFB.MODE 1).wr (Pg.PFB 1) Reg.PFB.Z_MODE 2 with tim := { d.tim with chans := [(1, { zArmed := true })] } })).dev.pfb
  (1) Reg.PFB.Z_VALUE < 2 ^ 32) := by decide

theorem wit_indexEdge_latches : ((1) < 16) ∧ (((W.of fun d => ((d.wr (Pg.PFB 1) Reg.PFB.MODE 1).wr (Pg.PFB 1)
  Reg.PFB.Z_MODE 1).wr (Pg.PFB 1) Reg.PFB.POS 8)).dev.stopped = false) ∧ (((W.of fun d => ((d.wr (Pg.PFB 1)
  Reg.PFB.MODE 1).wr (Pg.PFB 1) Reg.PFB.Z_MODE 1).wr (Pg.PFB 1) Reg.PFB.POS 8)).dev.counting (1) 1 = true) ∧ (((W.of
  fun d => ((d.wr (Pg.PFB 1) Reg.PFB.MODE 1).wr (Pg.PFB 1) Reg.PFB.Z_MODE 1).wr (Pg.PFB 1) Reg.PFB.POS 8)).dev.pfb
  (1) Reg.PFB.Z_MODE = 1) ∧ (((W.of fun d => ((d.wr (Pg.PFB 1) Reg.PFB.MODE 1).wr (Pg.PFB 1) Reg.PFB.Z_MODE 1).wr
  (Pg.PFB 1) Reg.PFB.POS 8)).dev.pfb (1) Reg.PFB.POS < 2 ^ 32) ∧ (((W.of fun d => ((d.wr (Pg.PFB 1) Reg.PFB.MODE
  1).wr (Pg.PFB 1) Reg.PFB.Z_MODE 1).wr (Pg.PFB 1) Reg.PFB.POS 8)).dev.pfb (1) Reg.PFB.REV < 2 ^ 32) := by decide

theorem wit_positionSnapshot : ((1) < 16) ∧ ((W.on).dev.stopped = false) ∧ ((W.on).dev.tim.latches = []) := by
  decide

theorem wit_positionLatch : ((0) < 256) ∧ ((5) < 2 ^ 48) ∧ ((1) < 16) ∧ (((W.of fun d =>
  { d with tim := { d.tim with latches := [(frameKey 0 5, 1, 9)] }, cap := { d.cap with frames := [(frameKey 0 5, W.frame 0 0 5)] } })).dev.stopped
  = false) ∧ (((W.of fun d =>
  { d with tim := { d.tim with latches := [(frameKey 0 5, 1, 9)] }, cap := { d.cap with frames := [(frameKey 0 5, W.frame 0 0 5)] } })).dev.tim.latches
  = [(frameKey (0) (5), (1), (9))]) ∧ (((W.of fun d =>
  { d with tim := { d.tim with latches := [(frameKey 0 5, 1, 9)] }, cap := { d.cap with frames := [(frameKey 0 5, W.frame 0 0 5)] } })).dev.frame?
  (frameKey (0) (5)) = some ((W.frame 0 0 5 : Frame))) ∧ (((W.frame 0 0 5 : Frame)).tAnn < (9)) ∧ (((W.frame 0 0 5 :
  Frame)).key = frameKey (0) (5)) := by decide

theorem wit_synthStep : ((1) < 16) ∧ (((W.of fun d =>
  { d.wr (Pg.PFB 1) Reg.PFB.PFO_MODE 2 with tim := { d.tim with chans := [(1, { total := 2000 })] } })).dev.stopped
  = false) ∧ (((W.of fun d =>
  { d.wr (Pg.PFB 1) Reg.PFB.PFO_MODE 2 with tim := { d.tim with chans := [(1, { total := 2000 })] } })).dev.pfb (1)
  Reg.PFB.PFO_MODE = 2) ∧ ((((W.of fun d =>
  { d.wr (Pg.PFB 1) Reg.PFB.PFO_MODE 2 with tim := { d.tim with chans := [(1, { total := 2000 })] } })).dev.chan
  (1)).synth < (((W.of fun d =>
  { d.wr (Pg.PFB 1) Reg.PFB.PFO_MODE 2 with tim := { d.tim with chans := [(1, { total := 2000 })] } })).dev.chan
  (1)).total) := by decide

theorem wit_pulseEnd : ((31) < 32) ∧ (((W.of fun d =>
  { d with tim := { d.tim with pulsing := [31, 2] } })).dev.stopped = false) := by decide

theorem wit_cmpPairWrite_low : ((0) < 64) ∧ ((17) < 32) ∧ ((9) < 2 ^ 32) ∧ (Taken (W.on).dev (0) (unitAt (17)).1
  (0x404 + 0x40 * (unitAt (17)).2) = true) := by decide

theorem wit_cmpPairWrite_high : ((0) < 64) ∧ ((17) < 32) ∧ ((0) < 2 ^ 32) ∧ ((25000) < 2 ^ 32) ∧ (Taken ((W.of fun d
  =>
  { (d.setCmp 17 Reg.PCM.EN 1).setCmp 17 Reg.PCM.DIR_POS 1 with lowHeld := [(halfKey 0 (Pg.PCM 1) 0x444, 25000)] })).dev
  (0) (unitAt (17)).1 (0x408 + 0x40 * (unitAt (17)).2) = true) ∧ (Assoc.find ((W.of fun d =>
  { (d.setCmp 17 Reg.PCM.EN 1).setCmp 17 Reg.PCM.DIR_POS 1 with lowHeld := [(halfKey 0 (Pg.PCM 1) 0x444, 25000)] })).dev.lowHeld
  (halfKey (0) (unitAt (17)).1 (0x404 + 0x40 * (unitAt (17)).2)) = some (25000)) := by decide

theorem wit_grpCtrlEn : ((0) < 64) ∧ ((31) < 32) ∧ ((0x403) < 2 ^ 32) ∧ ((W.on).dev.cap.frames = []) ∧ (Taken
  (W.on).dev (0) (slotOf (31)).1 (0x100 + 0x20 * ((31) % 4)) = true) ∧ (bitAt (0x403) 0 = true) ∧
  ((W.on).dev.slotFits (31) (bits (0x403) 1 5) (bits (0x403) 8 3) = true) ∧ ((W.on).dev.grpOn (31) = false) := by
  decide

theorem wit_grpCtrlEn_refused : ((0) < 64) ∧ ((31) < 32) ∧ ((5) < 2 ^ 32) ∧ ((W.on).dev.cap.frames = []) ∧ (Taken
  (W.on).dev (0) (slotOf (31)).1 (0x100 + 0x20 * ((31) % 4)) = true) ∧ (bitAt (5) 0 = true) ∧ ((W.on).dev.slotFits
  (31) (bits (5) 1 5) (bits (5) 8 3) = false) := by decide

theorem wit_grpCtrlEn_disables : ((0) < 64) ∧ ((4) < 32) ∧ ((2) < 2 ^ 32) ∧ (((W.of fun d => (d.setGrp 4 Reg.HLL.EN
  1).setGrpState 4 6)).dev.cap.frames = []) ∧ (Taken ((W.of fun d => (d.setGrp 4 Reg.HLL.EN 1).setGrpState 4 6)).dev
  (0) (slotOf (4)).1 (0x100 + 0x20 * ((4) % 4)) = true) ∧ (bitAt (2) 0 = false) ∧ (bitAt (2) 24 = false) ∧ (((W.of
  fun d => (d.setGrp 4 Reg.HLL.EN 1).setGrpState 4 6)).dev.grpOn (4) = true) := by decide

theorem wit_mapReset : ((0) < 64) ∧ ((4) < 32) ∧ ((0x1000002) < 2 ^ 32) ∧ (((W.reg (Pg.HLL 1) Reg.HLL.PHYS
  33)).dev.cap.frames = []) ∧ (Taken ((W.reg (Pg.HLL 1) Reg.HLL.PHYS 33)).dev (0) (slotOf (4)).1 (0x100 + 0x20 *
  ((4) % 4)) = true) ∧ (bitAt (0x1000002) 0 = false) ∧ (bitAt (0x1000002) 24 = true) ∧ (((W.reg (Pg.HLL 1)
  Reg.HLL.PHYS 33)).dev.grpOn (4) = false) ∧ (bits (0x1000002) 1 5 = 1) := by decide

theorem wit_vcmapWrite : ((0) < 64) ∧ ((31) < 32) ∧ ((15) < 16) ∧ ((0x1FB) < 2 ^ 32) ∧ ((W.on).dev.cap.frames = [])
  ∧ (Taken (W.on).dev (0) (slotOf (31)).1 (0x200 + 4 * (16 * ((31) % 4) + (15))) = true) ∧ (bitAt (0x1FB) 9 = false)
  := by decide

theorem wit_vcmapUnbind : ((0) < 64) ∧ ((0) < 32) ∧ ((2) < 16) ∧ ((0x200) < 2 ^ 32) ∧ (((W.of fun d => d.setGroup 0
  { vcs := [(2, { head := 7, uid := 1, pixelRate := 5, lead := 0, spareOk := true, teCap := false, retvidCap := false, digest := 0 })] })).dev.cap.frames
  = []) ∧ (Taken ((W.of fun d => d.setGroup 0
  { vcs := [(2, { head := 7, uid := 1, pixelRate := 5, lead := 0, spareOk := true, teCap := false, retvidCap := false, digest := 0 })] })).dev
  (0) (slotOf (0)).1 (0x200 + 4 * (16 * ((0) % 4) + (2))) = true) ∧ (bitAt (0x200) 9 = true) ∧ (Assoc.has (((W.of
  fun d => d.setGroup 0
  { vcs := [(2, { head := 7, uid := 1, pixelRate := 5, lead := 0, spareOk := true, teCap := false, retvidCap := false, digest := 0 })] })).dev.group
  (0)).vcs (2) = true) ∧ ((((W.of fun d => d.setGroup 0
  { vcs := [(2, { head := 7, uid := 1, pixelRate := 5, lead := 0, spareOk := true, teCap := false, retvidCap := false, digest := 0 })] })).dev.group
  (0)).unacked.length < 64) := by decide

theorem wit_tx_off : (W.of fun d => d.setGrpState 3 BACKOFF).dev.grpState 3 = BACKOFF := by decide

theorem wit_tx_order : nextPacket [(3, [7]), (0, [9])] = some (0, [9]) := by decide

theorem wit_signalDetect : ((3) < 32) ∧ (((W.of fun d => d.setGrpState 3 1)).dev.stopped = false) ∧ (((W.of fun d =>
  d.setGrpState 3 1)).dev.grpState (3) = DETECT) := by decide

theorem wit_syncLock : ((3) < 36) ∧ (((W.of fun d => (d.setGrpState 3 2).setGrp 3 Reg.HLL.EN 1)).dev.stopped =
  false) ∧ (((W.of fun d => (d.setGrpState 3 2).setGrp 3 Reg.HLL.EN 1)).dev.held (quad (3)).1 = false) ∧ (((W.of fun
  d => (d.setGrpState 3 2).setGrp 3 Reg.HLL.EN 1)).dev.groupOfLane (((W.of fun d => (d.setGrpState 3 2).setGrp 3
  Reg.HLL.EN 1)).dev.lane (3) Reg.HLQ.LOGICAL) = some (3)) ∧ (((W.of fun d => (d.setGrpState 3 2).setGrp 3
  Reg.HLL.EN 1)).dev.grpState (3) = LOCK) ∧ (((W.of fun d => (d.setGrpState 3 2).setGrp 3 Reg.HLL.EN 1)).dev.lanesOf
  (3) = [((W.of fun d => (d.setGrpState 3 2).setGrp 3 Reg.HLL.EN 1)).dev.lane (3) Reg.HLQ.LOGICAL]) ∧ (((W.of fun d
  => (d.setGrpState 3 2).setGrp 3 Reg.HLL.EN 1)).dev.physOf (((W.of fun d => (d.setGrpState 3 2).setGrp 3 Reg.HLL.EN
  1)).dev.lane (3) Reg.HLQ.LOGICAL) = (3)) := by decide

theorem wit_syncLoss : ((3) < 36) ∧ (((W.of fun d => (d.setGrpState 3 6).setGrp 3 Reg.HLL.EN 1)).dev.stopped =
  false) ∧ (((W.of fun d => (d.setGrpState 3 6).setGrp 3 Reg.HLL.EN 1)).dev.cap.frames = []) ∧ (((W.of fun d =>
  (d.setGrpState 3 6).setGrp 3 Reg.HLL.EN 1)).dev.groupOfLane (((W.of fun d => (d.setGrpState 3 6).setGrp 3
  Reg.HLL.EN 1)).dev.lane (3) Reg.HLQ.LOGICAL) = some (3)) ∧ (((W.of fun d => (d.setGrpState 3 6).setGrp 3
  Reg.HLL.EN 1)).dev.grpState (3) = ACTIVE) ∧ ((((W.of fun d => (d.setGrpState 3 6).setGrp 3 Reg.HLL.EN
  1)).dev.group (3)).sparing = none) ∧ ((((W.of fun d => (d.setGrpState 3 6).setGrp 3 Reg.HLL.EN 1)).dev.wr (quad
  (3)).1 Reg.HLQ.SYNC_LOCK 0 (quad (3)).2).spareFor (3) (((W.of fun d => (d.setGrpState 3 6).setGrp 3 Reg.HLL.EN
  1)).dev.lane (3) Reg.HLQ.LOGICAL) = none) := by decide

theorem wit_gathering_aligns : ((3) < 32) ∧ ((5) < 128) ∧ (bits (5) 5 2 < 2) ∧ (((List.replicate 254 (2 ^ 64 - 1) :
  List Nat)).length = 254) ∧ (((List.replicate 254 (2 ^ 64 - 1) : List Nat)).all (fun x => x < 2 ^ 64) = true) ∧
  (((W.of fun d => d.setGrpState 3 3)).dev.stopped = false) ∧ (((W.of fun d => d.setGrpState 3 3)).dev.cap.frames =
  []) ∧ (((W.of fun d => d.setGrpState 3 3)).dev.grpState (3) = ALIGN) ∧ ((((W.of fun d => d.setGrpState 3
  3)).dev.group (3)).lanes = 1) ∧ ((((W.of fun d => d.setGrpState 3 3)).dev.group (3)).fresh = []) ∧ (((W.of fun d
  => d.setGrpState 3 3)).dev.lane (((W.of fun d => d.setGrpState 3 3)).dev.physOf (3)) Reg.HLQ.RX_INVERTED = 0) :=
  by decide

theorem wit_gathering_missing : ((3) < 32) ∧ (((W.of fun d => d.setGrpState 3 5)).dev.stopped = false) ∧ (((W.of fun
  d => d.setGrpState 3 5)).dev.cap.frames = []) ∧ (((W.of fun d => d.setGrpState 3 5)).dev.grpState (3) = BIND) ∧
  ((((W.of fun d => d.setGrpState 3 5)).dev.group (3)).lanes = 1) ∧ ((((W.of fun d => d.setGrpState 3 5)).dev.group
  (3)).fresh = []) := by decide

theorem wit_trainingTimeout : ((3) < 32) ∧ (((W.of fun d => (d.setGrpState 3 5).setGroup 3
  { failures := 12 })).dev.stopped = false) ∧ (((W.of fun d => (d.setGrpState 3 5).setGroup 3
  { failures := 12 })).dev.cap.frames = []) ∧ (LOCK ≤ ((W.of fun d => (d.setGrpState 3 5).setGroup 3
  { failures := 12 })).dev.grpState (3)) ∧ (((W.of fun d => (d.setGrpState 3 5).setGroup 3
  { failures := 12 })).dev.grpState (3) ≤ BIND) := by decide

theorem wit_backoffExpiry : ((3) < 32) ∧ (((W.of fun d => d.setGrpState 3 7)).dev.stopped = false) ∧ (((W.of fun d
  => d.setGrpState 3 7)).dev.grpState (3) = BACKOFF) := by decide

theorem wit_backoffReset : ((3) < 32) ∧ (((W.of fun d => d.setGrpState 3 6)).dev.stopped = false) ∧ (((W.of fun d =>
  d.setGrpState 3 6)).dev.grpState (3) = ACTIVE) := by decide

theorem wit_bindDone : ((3) < 32) ∧ (((W.of fun d => (d.setGrpState 3 5).setGroup 3
  { rx := [⟨8 + 0x42 * 2 ^ 37, [3], 0⟩], offered := 7 })).dev.stopped = false) ∧ ((((W.of fun d => (d.setGrpState 3
  5).setGroup 3 { rx := [⟨8 + 0x42 * 2 ^ 37, [3], 0⟩], offered := 7 })).dev.group (3)).rx = ((⟨8 + 0x42 * 2 ^ 37,
  [3], 0⟩ : Packet)) :: ((([] : List Packet) : List Packet))) ∧ (pType ((⟨8 + 0x42 * 2 ^ 37, [3], 0⟩ :
  Packet)).header = 8) ∧ (bits ((⟨8 + 0x42 * 2 ^ 37, [3], 0⟩ : Packet)).header 37 8 = 0x42) ∧ (((W.of fun d =>
  (d.setGrpState 3 5).setGroup 3 { rx := [⟨8 + 0x42 * 2 ^ 37, [3], 0⟩], offered := 7 })).dev.grpState (3) = BIND) ∧
  (bits (((⟨8 + 0x42 * 2 ^ 37, [3], 0⟩ : Packet)).words.getD 0 0) 0 16 &&& (((W.of fun d => (d.setGrpState 3
  5).setGroup 3 { rx := [⟨8 + 0x42 * 2 ^ 37, [3], 0⟩], offered := 7 })).dev.group (3)).offered = bits (((⟨8 + 0x42 *
  2 ^ 37, [3], 0⟩ : Packet)).words.getD 0 0) 0 16) := by decide

theorem wit_bindOffer : ((3) < 32) ∧ (((W.of fun d => (((d.setGrpState 3 5).setGroup 3
  { rx := [⟨8 + 0x41 * 2 ^ 37, [9, 0, 5, 0x1000000], 0⟩] }).wr (Pg.HLL 0) Reg.HLL.HEAD_ID 77 48).wr (Pg.HLL 0)
  Reg.HLL.VALID 1 48)).dev.stopped = false) ∧ (((W.of fun d => (((d.setGrpState 3 5).setGroup 3
  { rx := [⟨8 + 0x41 * 2 ^ 37, [9, 0, 5, 0x1000000], 0⟩] }).wr (Pg.HLL 0) Reg.HLL.HEAD_ID 77 48).wr (Pg.HLL 0)
  Reg.HLL.VALID 1 48)).dev.cap.frames = []) ∧ ((((W.of fun d => (((d.setGrpState 3 5).setGroup 3
  { rx := [⟨8 + 0x41 * 2 ^ 37, [9, 0, 5, 0x1000000], 0⟩] }).wr (Pg.HLL 0) Reg.HLL.HEAD_ID 77 48).wr (Pg.HLL 0)
  Reg.HLL.VALID 1 48)).dev.group (3)).rx = ((⟨8 + 0x41 * 2 ^ 37, [9, 0, 5, 0x1000000], 0⟩ : Packet)) :: ((([] : List
  Packet) : List Packet))) ∧ (pType ((⟨8 + 0x41 * 2 ^ 37, [9, 0, 5, 0x1000000], 0⟩ : Packet)).header = 8) ∧ (bits
  ((⟨8 + 0x41 * 2 ^ 37, [9, 0, 5, 0x1000000], 0⟩ : Packet)).header 37 8 = 0x41) ∧ (((W.of fun d => (((d.setGrpState
  3 5).setGroup 3 { rx := [⟨8 + 0x41 * 2 ^ 37, [9, 0, 5, 0x1000000], 0⟩] }).wr (Pg.HLL 0) Reg.HLL.HEAD_ID 77 48).wr
  (Pg.HLL 0) Reg.HLL.VALID 1 48)).dev.grpState (3) = BIND) ∧ (Assoc.find (((W.of fun d => (((d.setGrpState 3
  5).setGroup 3 { rx := [⟨8 + 0x41 * 2 ^ 37, [9, 0, 5, 0x1000000], 0⟩] }).wr (Pg.HLL 0) Reg.HLL.HEAD_ID 77 48).wr
  (Pg.HLL 0) Reg.HLL.VALID 1 48)).dev.group (3)).vcs (pVc ((⟨8 + 0x41 * 2 ^ 37, [9, 0, 5, 0x1000000], 0⟩ :
  Packet)).header) = none) ∧ ((((W.of fun d => (((d.setGrpState 3 5).setGroup 3
  { rx := [⟨8 + 0x41 * 2 ^ 37, [9, 0, 5, 0x1000000], 0⟩] }).wr (Pg.HLL 0) Reg.HLL.HEAD_ID 77 48).wr (Pg.HLL 0)
  Reg.HLL.VALID 1 48)).dev.vcmap (3) (pVc ((⟨8 + 0x41 * 2 ^ 37, [9, 0, 5, 0x1000000], 0⟩ : Packet)).header)).2 =
  true) ∧ ((((W.of fun d => (((d.setGrpState 3 5).setGroup 3
  { rx := [⟨8 + 0x41 * 2 ^ 37, [9, 0, 5, 0x1000000], 0⟩] }).wr (Pg.HLL 0) Reg.HLL.HEAD_ID 77 48).wr (Pg.HLL 0)
  Reg.HLL.VALID 1 48)).dev.vcmap (3) (pVc ((⟨8 + 0x41 * 2 ^ 37, [9, 0, 5, 0x1000000], 0⟩ : Packet)).header)).1 <
  252) ∧ (bits (((⟨8 + 0x41 * 2 ^ 37, [9, 0, 5, 0x1000000], 0⟩ : Packet)).words.getD 3 0) 16 16 = 0x0100) ∧ (((W.of
  fun d => (((d.setGrpState 3 5).setGroup 3 { rx := [⟨8 + 0x41 * 2 ^ 37, [9, 0, 5, 0x1000000], 0⟩] }).wr (Pg.HLL 0)
  Reg.HLL.HEAD_ID 77 48).wr (Pg.HLL 0) Reg.HLL.VALID 1 48)).dev.boundAny (fun y => y.uid = ((⟨8 + 0x41 * 2 ^ 37, [9,
  0, 5, 0x1000000], 0⟩ : Packet)).words.getD 0 0) = false) ∧ (((W.of fun d => (((d.setGrpState 3 5).setGroup 3
  { rx := [⟨8 + 0x41 * 2 ^ 37, [9, 0, 5, 0x1000000], 0⟩] }).wr (Pg.HLL 0) Reg.HLL.HEAD_ID 77 48).wr (Pg.HLL 0)
  Reg.HLL.VALID 1 48)).dev.boundAny (fun y => y.head = (((W.of fun d => (((d.setGrpState 3 5).setGroup 3
  { rx := [⟨8 + 0x41 * 2 ^ 37, [9, 0, 5, 0x1000000], 0⟩] }).wr (Pg.HLL 0) Reg.HLL.HEAD_ID 77 48).wr (Pg.HLL 0)
  Reg.HLL.VALID 1 48)).dev.vcmap (3) (pVc ((⟨8 + 0x41 * 2 ^ 37, [9, 0, 5, 0x1000000], 0⟩ : Packet)).header)).1) =
  false) ∧ (((((W.of fun d => (((d.setGrpState 3 5).setGroup 3
  { rx := [⟨8 + 0x41 * 2 ^ 37, [9, 0, 5, 0x1000000], 0⟩] }).wr (Pg.HLL 0) Reg.HLL.HEAD_ID 77 48).wr (Pg.HLL 0)
  Reg.HLL.VALID 1 48)).dev.group (3)).vcs.foldl (fun a e => a + e.2.pixelRate) 0) + ((⟨8 + 0x41 * 2 ^ 37, [9, 0, 5,
  0x1000000], 0⟩ : Packet)).words.getD 2 0 ≤ groupPayload (((W.of fun d => (((d.setGrpState 3 5).setGroup 3
  { rx := [⟨8 + 0x41 * 2 ^ 37, [9, 0, 5, 0x1000000], 0⟩] }).wr (Pg.HLL 0) Reg.HLL.HEAD_ID 77 48).wr (Pg.HLL 0)
  Reg.HLL.VALID 1 48)).dev.group (3)).lanes (((W.of fun d => (((d.setGrpState 3 5).setGroup 3
  { rx := [⟨8 + 0x41 * 2 ^ 37, [9, 0, 5, 0x1000000], 0⟩] }).wr (Pg.HLL 0) Reg.HLL.HEAD_ID 77 48).wr (Pg.HLL 0)
  Reg.HLL.VALID 1 48)).dev.group (3)).rate) ∧ (((W.of fun d => (((d.setGrpState 3 5).setGroup 3
  { rx := [⟨8 + 0x41 * 2 ^ 37, [9, 0, 5, 0x1000000], 0⟩] }).wr (Pg.HLL 0) Reg.HLL.HEAD_ID 77 48).wr (Pg.HLL 0)
  Reg.HLL.VALID 1 48)).dev.ctxOfHead (((W.of fun d => (((d.setGrpState 3 5).setGroup 3
  { rx := [⟨8 + 0x41 * 2 ^ 37, [9, 0, 5, 0x1000000], 0⟩] }).wr (Pg.HLL 0) Reg.HLL.HEAD_ID 77 48).wr (Pg.HLL 0)
  Reg.HLL.VALID 1 48)).dev.vcmap (3) (pVc ((⟨8 + 0x41 * 2 ^ 37, [9, 0, 5, 0x1000000], 0⟩ : Packet)).header)).1 =
  none) := by decide

theorem wit_bindOffer_version : ((3) < 32) ∧ (((W.of fun d => (d.setGrpState 3 5).setGroup 3
  { rx := [⟨8 + 0x41 * 2 ^ 37, [9, 0, 5, 0x2000000], 0⟩] })).dev.stopped = false) ∧ (((W.of fun d => (d.setGrpState
  3 5).setGroup 3 { rx := [⟨8 + 0x41 * 2 ^ 37, [9, 0, 5, 0x2000000], 0⟩] })).dev.cap.frames = []) ∧ ((((W.of fun d
  => (d.setGrpState 3 5).setGroup 3 { rx := [⟨8 + 0x41 * 2 ^ 37, [9, 0, 5, 0x2000000], 0⟩] })).dev.group (3)).rx =
  ((⟨8 + 0x41 * 2 ^ 37, [9, 0, 5, 0x2000000], 0⟩ : Packet)) :: ((([] : List Packet) : List Packet))) ∧ (pType ((⟨8 +
  0x41 * 2 ^ 37, [9, 0, 5, 0x2000000], 0⟩ : Packet)).header = 8) ∧ (bits ((⟨8 + 0x41 * 2 ^ 37, [9, 0, 5, 0x2000000],
  0⟩ : Packet)).header 37 8 = 0x41) ∧ (((W.of fun d => (d.setGrpState 3 5).setGroup 3
  { rx := [⟨8 + 0x41 * 2 ^ 37, [9, 0, 5, 0x2000000], 0⟩] })).dev.grpState (3) = BIND) ∧ (Assoc.find (((W.of fun d =>
  (d.setGrpState 3 5).setGroup 3 { rx := [⟨8 + 0x41 * 2 ^ 37, [9, 0, 5, 0x2000000], 0⟩] })).dev.group (3)).vcs (pVc
  ((⟨8 + 0x41 * 2 ^ 37, [9, 0, 5, 0x2000000], 0⟩ : Packet)).header) = none) ∧ (bits (((⟨8 + 0x41 * 2 ^ 37, [9, 0, 5,
  0x2000000], 0⟩ : Packet)).words.getD 3 0) 16 16 ≠ 0x0100) ∧ ((((W.of fun d => (d.setGrpState 3 5).setGroup 3
  { rx := [⟨8 + 0x41 * 2 ^ 37, [9, 0, 5, 0x2000000], 0⟩] })).dev.group (3)).unacked.length < 64) := by decide

theorem wit_status : ((3) < 32) ∧ (((W.of fun d => d.setGroup 3
  { rx := [⟨8 + 0x43 * 2 ^ 37, [3], 0⟩] })).dev.stopped = false) ∧ ((((W.of fun d => d.setGroup 3
  { rx := [⟨8 + 0x43 * 2 ^ 37, [3], 0⟩] })).dev.group (3)).rx = ((⟨8 + 0x43 * 2 ^ 37, [3], 0⟩ : Packet)) :: ((([] :
  List Packet) : List Packet))) ∧ (pType ((⟨8 + 0x43 * 2 ^ 37, [3], 0⟩ : Packet)).header = 8) ∧ (bits ((⟨8 + 0x43 *
  2 ^ 37, [3], 0⟩ : Packet)).header 37 8 = 0x43) ∧ ((((W.of fun d => d.setGroup 3
  { rx := [⟨8 + 0x43 * 2 ^ 37, [3], 0⟩] })).dev.group (3)).lanes = 1) ∧ (bits (((⟨8 + 0x43 * 2 ^ 37, [3], 0⟩ :
  Packet)).words.getD 0 0) 0 16 ≠ 0) := by decide

theorem wit_spareReady : ((3) < 32) ∧ (((W.of fun d => d.setGroup 3
  { rx := [⟨8 + 0x44 * 2 ^ 37, [3], 0⟩], sparing := some { lane := 3, spare := 1 } })).dev.stopped = false) ∧
  ((((W.of fun d => d.setGroup 3
  { rx := [⟨8 + 0x44 * 2 ^ 37, [3], 0⟩], sparing := some { lane := 3, spare := 1 } })).dev.group (3)).rx = ((⟨8 +
  0x44 * 2 ^ 37, [3], 0⟩ : Packet)) :: ((([] : List Packet) : List Packet))) ∧ (pType ((⟨8 + 0x44 * 2 ^ 37, [3], 0⟩
  : Packet)).header = 8) ∧ (bits ((⟨8 + 0x44 * 2 ^ 37, [3], 0⟩ : Packet)).header 37 8 = 0x44) ∧ ((((W.of fun d =>
  d.setGroup 3 { rx := [⟨8 + 0x44 * 2 ^ 37, [3], 0⟩], sparing := some { lane := 3, spare := 1 } })).dev.group
  (3)).sparing = some (({ lane := 3, spare := 1 } : Sparing))) ∧ ((({ lane := 3, spare := 1 } : Sparing)).lane =
  bits (((⟨8 + 0x44 * 2 ^ 37, [3], 0⟩ : Packet)).words.getD 0 0) 0 5) := by decide

theorem wit_ack : ((3) < 32) ∧ (((W.of fun d => d.setGroup 3
  { rx := [⟨0xB, [], 0⟩], timeouts := 3, unacked := [⟨65535, 0, 9, []⟩, ⟨0, 0, 9, []⟩] })).dev.stopped = false) ∧
  ((((W.of fun d => d.setGroup 3
  { rx := [⟨0xB, [], 0⟩], timeouts := 3, unacked := [⟨65535, 0, 9, []⟩, ⟨0, 0, 9, []⟩] })).dev.group (3)).rx =
  ((⟨0xB, [], 0⟩ : Packet)) :: ((([] : List Packet) : List Packet))) ∧ (pType ((⟨0xB, [], 0⟩ : Packet)).header =
  0xB) ∧ ((((W.of fun d => d.setGroup 3
  { rx := [⟨0xB, [], 0⟩], timeouts := 3, unacked := [⟨65535, 0, 9, []⟩, ⟨0, 0, 9, []⟩] })).dev.group (3)).unacked =
  ((⟨65535, 0, 9, []⟩ : CtrlMsg)) :: (([⟨0, 0, 9, []⟩] : List CtrlMsg))) ∧ (((⟨65535, 0, 9, []⟩ : CtrlMsg)).seq <
  65536) ∧ (bits ((⟨0xB, [], 0⟩ : Packet)).header 21 16 = (((⟨65535, 0, 9, []⟩ : CtrlMsg)).seq + 1) % 65536) ∧
  ((((W.of fun d => d.setGroup 3
  { rx := [⟨0xB, [], 0⟩], timeouts := 3, unacked := [⟨65535, 0, 9, []⟩, ⟨0, 0, 9, []⟩] })).dev.group (3)).waiting =
  []) ∧ ((((W.of fun d => d.setGroup 3
  { rx := [⟨0xB, [], 0⟩], timeouts := 3, unacked := [⟨65535, 0, 9, []⟩, ⟨0, 0, 9, []⟩] })).dev.group (3)).sparing =
  none) ∧ ((((W.of fun d => d.setGroup 3
  { rx := [⟨0xB, [], 0⟩], timeouts := 3, unacked := [⟨65535, 0, 9, []⟩, ⟨0, 0, 9, []⟩] })).dev.group (3)).test =
  none) := by decide

theorem wit_ackTimeout : ((3) < 32) ∧ (((W.of fun d => d.setGroup 3
  { timeouts := 14, unacked := [⟨65535, 0, 9, []⟩, ⟨0, 0, 9, []⟩] })).dev.stopped = false) ∧ (((W.of fun d =>
  d.setGroup 3 { timeouts := 14, unacked := [⟨65535, 0, 9, []⟩, ⟨0, 0, 9, []⟩] })).dev.cap.frames = []) ∧ ((((W.of
  fun d => d.setGroup 3 { timeouts := 14, unacked := [⟨65535, 0, 9, []⟩, ⟨0, 0, 9, []⟩] })).dev.group (3)).unacked ≠
  []) ∧ ((((W.of fun d => d.setGroup 3 { timeouts := 14, unacked := [⟨65535, 0, 9, []⟩, ⟨0, 0, 9, []⟩] })).dev.group
  (3)).timeouts < 15) := by decide

theorem wit_ackTimeout_fails : ((3) < 32) ∧ (((W.of fun d => d.setGroup 3
  { timeouts := 15, unacked := [⟨65535, 0, 9, []⟩] })).dev.stopped = false) ∧ (((W.of fun d => d.setGroup 3
  { timeouts := 15, unacked := [⟨65535, 0, 9, []⟩] })).dev.cap.frames = []) ∧ ((((W.of fun d => d.setGroup 3
  { timeouts := 15, unacked := [⟨65535, 0, 9, []⟩] })).dev.group (3)).unacked ≠ []) ∧ (15 ≤ (((W.of fun d =>
  d.setGroup 3 { timeouts := 15, unacked := [⟨65535, 0, 9, []⟩] })).dev.group (3)).timeouts) := by decide

theorem wit_dreq : ((3) < 32) ∧ (((W.of fun d => d.setGroup 3 { rx := [⟨9, [7], 123⟩] })).dev.stopped = false) ∧
  ((((W.of fun d => d.setGroup 3 { rx := [⟨9, [7], 123⟩] })).dev.group (3)).rx = ((⟨9, [7], 123⟩ : Packet)) :: ((([]
  : List Packet) : List Packet))) ∧ (pType ((⟨9, [7], 123⟩ : Packet)).header = 9) := by decide

theorem wit_timeSync : ((3) < 32) ∧ ((55) < 2 ^ 96) ∧ (((W.of fun d => (d.setGrpState 3 6).setGroup 3
  { syncAt := some 77 })).dev.stopped = false) ∧ (((W.of fun d => (d.setGrpState 3 6).setGroup 3
  { syncAt := some 77 })).dev.grpState (3) = ACTIVE) ∧ ((((W.of fun d => (d.setGrpState 3 6).setGroup 3
  { syncAt := some 77 })).dev.group (3)).syncAt = some (77)) := by decide

theorem wit_laneSpareThresh : ((3) < 32) ∧ (((W.of fun d => (((((d.setGrpState 3 6).setGrp 3 Reg.HLL.EN 1).setGrp 3
  Reg.HLL.SPARE_EN 1).setGroup 3 { window := [(3, 16)] }).wr sparePage Reg.HLQ.SPARE_VALID 1).wr sparePage
  Reg.HLQ.SPARE_GROUP 3)).dev.stopped = false) ∧ (((W.of fun d => (((((d.setGrpState 3 6).setGrp 3 Reg.HLL.EN
  1).setGrp 3 Reg.HLL.SPARE_EN 1).setGroup 3 { window := [(3, 16)] }).wr sparePage Reg.HLQ.SPARE_VALID 1).wr
  sparePage Reg.HLQ.SPARE_GROUP 3)).dev.groupOfLane (3) = some (3)) ∧ (((W.of fun d => (((((d.setGrpState 3
  6).setGrp 3 Reg.HLL.EN 1).setGrp 3 Reg.HLL.SPARE_EN 1).setGroup 3 { window := [(3, 16)] }).wr sparePage
  Reg.HLQ.SPARE_VALID 1).wr sparePage Reg.HLQ.SPARE_GROUP 3)).dev.grpState (3) = ACTIVE) ∧ ((((W.of fun d =>
  (((((d.setGrpState 3 6).setGrp 3 Reg.HLL.EN 1).setGrp 3 Reg.HLL.SPARE_EN 1).setGroup 3 { window := [(3, 16)] }).wr
  sparePage Reg.HLQ.SPARE_VALID 1).wr sparePage Reg.HLQ.SPARE_GROUP 3)).dev.group (3)).sparing = none) ∧ (((W.of fun
  d => (((((d.setGrpState 3 6).setGrp 3 Reg.HLL.EN 1).setGrp 3 Reg.HLL.SPARE_EN 1).setGroup 3
  { window := [(3, 16)] }).wr sparePage Reg.HLQ.SPARE_VALID 1).wr sparePage Reg.HLQ.SPARE_GROUP 3)).dev.rd (Pg.HLL
  ((3) / 4)) Reg.HLL.LANE_SPARE_THRESH ≤ (Assoc.find (((W.of fun d => (((((d.setGrpState 3 6).setGrp 3 Reg.HLL.EN
  1).setGrp 3 Reg.HLL.SPARE_EN 1).setGroup 3 { window := [(3, 16)] }).wr sparePage Reg.HLQ.SPARE_VALID 1).wr
  sparePage Reg.HLQ.SPARE_GROUP 3)).dev.group (3)).window (3)).getD 0) ∧ (((W.of fun d => (((((d.setGrpState 3
  6).setGrp 3 Reg.HLL.EN 1).setGrp 3 Reg.HLL.SPARE_EN 1).setGroup 3 { window := [(3, 16)] }).wr sparePage
  Reg.HLQ.SPARE_VALID 1).wr sparePage Reg.HLQ.SPARE_GROUP 3)).dev.spareFor (3) (3) = some (0)) := by decide

theorem wit_spareReadyTimeout : ((3) < 32) ∧ (((W.of fun d => d.setGroup 3
  { sparing := some { lane := 3, spare := 1 } })).dev.stopped = false) ∧ ((((W.of fun d => d.setGroup 3
  { sparing := some { lane := 3, spare := 1 } })).dev.group (3)).sparing = some (({ lane := 3, spare := 1 } :
  Sparing))) ∧ ((({ lane := 3, spare := 1 } : Sparing)).ready = false) := by decide

theorem wit_spareSwitch : ((3) < 32) ∧ (((W.of fun d => (d.setGroup 3
  { between := [5], sparing := some { lane := 3, spare := 3, ready := true } }).setLane 35 Reg.HLQ.SYNC_LOCK
  1)).dev.stopped = false) ∧ (((((W.of fun d => (d.setGroup 3
  { between := [5], sparing := some { lane := 3, spare := 3, ready := true } }).setLane 35 Reg.HLQ.SYNC_LOCK
  1)).dev.group (3)).between.all fun v => !Assoc.has (((W.of fun d => (d.setGroup 3
  { between := [5], sparing := some { lane := 3, spare := 3, ready := true } }).setLane 35 Reg.HLQ.SYNC_LOCK
  1)).dev.group (3)).vcs v) = true) ∧ ((((W.of fun d => (d.setGroup 3
  { between := [5], sparing := some { lane := 3, spare := 3, ready := true } }).setLane 35 Reg.HLQ.SYNC_LOCK
  1)).dev.group (3)).sparing = some (({ lane := 3, spare := 3, ready := true } : Sparing))) ∧
  ((({ lane := 3, spare := 3, ready := true } : Sparing)).ready = true) ∧
  ((({ lane := 3, spare := 3, ready := true } : Sparing)).switched = false) ∧
  ((({ lane := 3, spare := 3, ready := true } : Sparing)).lane < 32) ∧ ((({ lane := 3, spare := 3, ready := true } :
  Sparing)).spare < 4) ∧ (((W.of fun d => (d.setGroup 3
  { between := [5], sparing := some { lane := 3, spare := 3, ready := true } }).setLane 35 Reg.HLQ.SYNC_LOCK
  1)).dev.lane (32 + (({ lane := 3, spare := 3, ready := true } : Sparing)).spare) Reg.HLQ.SYNC_LOCK = 1) := by
  decide

theorem wit_spareWait : ((3) < 32) ∧ (((W.of fun d => (d.setGroup 3
  { between := [0], vcs := [(0, { head := 7, uid := 1, pixelRate := 5, lead := 0, spareOk := true, teCap := false, retvidCap := false, digest := 0 })], sparing := some { lane := 3, spare := 0, ready := true } }).setLane
  32 Reg.HLQ.SYNC_LOCK 1)).dev.stopped = false) ∧ ((((W.of fun d => (d.setGroup 3
  { between := [0], vcs := [(0, { head := 7, uid := 1, pixelRate := 5, lead := 0, spareOk := true, teCap := false, retvidCap := false, digest := 0 })], sparing := some { lane := 3, spare := 0, ready := true } }).setLane
  32 Reg.HLQ.SYNC_LOCK 1)).dev.group (3)).sparing = some (({ lane := 3, spare := 0, ready := true } : Sparing))) ∧
  ((({ lane := 3, spare := 0, ready := true } : Sparing)).ready = true) ∧
  ((({ lane := 3, spare := 0, ready := true } : Sparing)).switched = false) ∧
  ((({ lane := 3, spare := 0, ready := true } : Sparing)).lane < 32) ∧ ((({ lane := 3, spare := 0, ready := true } :
  Sparing)).spare < 4) ∧ (((W.of fun d => (d.setGroup 3
  { between := [0], vcs := [(0, { head := 7, uid := 1, pixelRate := 5, lead := 0, spareOk := true, teCap := false, retvidCap := false, digest := 0 })], sparing := some { lane := 3, spare := 0, ready := true } }).setLane
  32 Reg.HLQ.SYNC_LOCK 1)).dev.lane (32 + (({ lane := 3, spare := 0, ready := true } : Sparing)).spare)
  Reg.HLQ.SYNC_LOCK = 1) := by decide

theorem wit_loopback : ((0) < 64) ∧ ((35) < 36) ∧ ((0x10341) < 2 ^ 32) ∧ ((W.on).dev.cap.frames = []) ∧ (Taken
  (W.on).dev (0) (quad (35)).1 (0x100 + 0x40 * ((35) % 4)) = true) ∧ ((W.on).dev.groupOfLane ((W.on).dev.lane (35)
  Reg.HLQ.LOGICAL) = none) ∧ (bits (0x10341) 0 3 ≠ 4) := by decide

theorem wit_loopback_test : ((0) < 64) ∧ ((3) < 36) ∧ ((1) < 2 ^ 32) ∧ (((W.of fun d => (d.setGrpState 3 6).setGrp 3
  Reg.HLL.EN 1)).dev.cap.frames = []) ∧ (Taken ((W.of fun d => (d.setGrpState 3 6).setGrp 3 Reg.HLL.EN 1)).dev (0)
  (quad (3)).1 (0x100 + 0x40 * ((3) % 4)) = true) ∧ (((W.of fun d => (d.setGrpState 3 6).setGrp 3 Reg.HLL.EN
  1)).dev.groupOfLane (((W.of fun d => (d.setGrpState 3 6).setGrp 3 Reg.HLL.EN 1)).dev.lane (3) Reg.HLQ.LOGICAL) =
  some (3)) ∧ (bits (1) 0 3 = 1) ∧ (((W.of fun d => (d.setGrpState 3 6).setGrp 3 Reg.HLL.EN 1)).dev.grpState (3) ≠
  TEST) := by decide

theorem wit_farEndLoopback : ((0) < 64) ∧ ((3) < 36) ∧ ((4) < 2 ^ 32) ∧ (((W.of fun d => (d.setGrpState 3 6).setGrp
  3 Reg.HLL.EN 1)).dev.cap.frames = []) ∧ (Taken ((W.of fun d => (d.setGrpState 3 6).setGrp 3 Reg.HLL.EN 1)).dev (0)
  (quad (3)).1 (0x100 + 0x40 * ((3) % 4)) = true) ∧ (((W.of fun d => (d.setGrpState 3 6).setGrp 3 Reg.HLL.EN
  1)).dev.groupOfLane (((W.of fun d => (d.setGrpState 3 6).setGrp 3 Reg.HLL.EN 1)).dev.lane (3) Reg.HLQ.LOGICAL) =
  some (3)) ∧ (bits (4) 0 3 = 4) ∧ (((W.of fun d => (d.setGrpState 3 6).setGrp 3 Reg.HLL.EN 1)).dev.lane (3)
  Reg.HLQ.LOOPBACK ≠ 4) ∧ (((W.of fun d => (d.setGrpState 3 6).setGrp 3 Reg.HLL.EN 1)).dev.grpState (3) = ACTIVE) ∧
  ((((W.of fun d => (d.setGrpState 3 6).setGrp 3 Reg.HLL.EN 1)).dev.group (3)).test = none) := by decide

theorem wit_farEndLoopback_refused : ((0) < 64) ∧ ((3) < 36) ∧ ((4) < 2 ^ 32) ∧ ((W.on).dev.cap.frames = []) ∧
  (Taken (W.on).dev (0) (quad (3)).1 (0x100 + 0x40 * ((3) % 4)) = true) ∧ ((W.on).dev.groupOfLane ((W.on).dev.lane
  (3) Reg.HLQ.LOGICAL) = none) ∧ (bits (4) 0 3 = 4) := by decide

theorem wit_prbsLock_short : ((3) < 36) ∧ (((W.of fun d => d.setLane 3 Reg.HLQ.PRBS_CHK 1)).dev.stopped = false) ∧
  (((W.of fun d => d.setLane 3 Reg.HLQ.PRBS_CHK 1)).dev.lane (3) Reg.HLQ.PRBS_LOCK = 0) ∧ (((W.of fun d => d.setLane
  3 Reg.HLQ.PRBS_CHK 1)).dev.lane (3) Reg.HLQ.PRBS_CHK = 1) ∧ (Assoc.find ((W.of fun d => d.setLane 3
  Reg.HLQ.PRBS_CHK 1)).dev.cap.prbs (3) = none) ∧ ((([true] : List Bool)).length < 263) := by decide

theorem wit_prbsLockLoss_none : ((3) < 36) ∧ (((W.of fun d =>
  { (d.setLane 3 Reg.HLQ.PRBS_CHK 4).setLane 3 Reg.HLQ.PRBS_LOCK 1 with cap := { d.cap with prbs := [(3, { locked := true })] } })).dev.stopped
  = false) ∧ (((W.of fun d =>
  { (d.setLane 3 Reg.HLQ.PRBS_CHK 4).setLane 3 Reg.HLQ.PRBS_LOCK 1 with cap := { d.cap with prbs := [(3, { locked := true })] } })).dev.lane
  (3) Reg.HLQ.PRBS_LOCK = 1) ∧ (((W.of fun d =>
  { (d.setLane 3 Reg.HLQ.PRBS_CHK 4).setLane 3 Reg.HLQ.PRBS_LOCK 1 with cap := { d.cap with prbs := [(3, { locked := true })] } })).dev.lane
  (3) Reg.HLQ.PRBS_CHK = 4) ∧ (Assoc.find ((W.of fun d =>
  { (d.setLane 3 Reg.HLQ.PRBS_CHK 4).setLane 3 Reg.HLQ.PRBS_LOCK 1 with cap := { d.cap with prbs := [(3, { locked := true })] } })).dev.cap.prbs
  (3) = some (({ locked := true } : Checker))) ∧ ((({ locked := true } : Checker)).locked = true) ∧
  ((({ locked := true } : Checker)).flags = []) ∧ (((W.of fun d =>
  { (d.setLane 3 Reg.HLQ.PRBS_CHK 4).setLane 3 Reg.HLQ.PRBS_LOCK 1 with cap := { d.cap with prbs := [(3, { locked := true })] } })).dev.rd64
  (quad (3)).1 Reg.HLQ.PRBS_BITS_LO Reg.HLQ.PRBS_BITS_HI (quad (3)).2 < 2 ^ 48 - 1) ∧ (((W.of fun d =>
  { (d.setLane 3 Reg.HLQ.PRBS_CHK 4).setLane 3 Reg.HLQ.PRBS_LOCK 1 with cap := { d.cap with prbs := [(3, { locked := true })] } })).dev.rd64
  (quad (3)).1 Reg.HLQ.PRBS_ERR_LO Reg.HLQ.PRBS_ERR_HI (quad (3)).2 < 2 ^ 48 - 1) := by decide

theorem wit_line_round : (127 < 128 ∧ (List.replicate 254 0).length = 254 ∧ (List.replicate 254 0).all (fun x => x < 2 ^ 64) = true) := by decide

theorem wit_line_inverted : (0 < 128 ∧ (List.replicate 254 1).length = 254 ∧ (List.replicate 254 1).all (fun x => x < 2 ^ 64) = true) := by decide

theorem wit_fhdr : ((3) < 32) ∧ (((W.of fun d => ((d.setGroup 3
  { rx := [⟨0x801, [5, 0, 0, 0, 0, 0, 2 + 2 * 2 ^ 16 + 12 * 2 ^ 32, 0], 0⟩], vcs := [(0, { head := 7, uid := 1, pixelRate := 5, lead := 0, spareOk := true, teCap := false, retvidCap := false, digest := 0 })] }).wr
  (Pg.ING 0) Reg.ING.ADMIT 2 7).setCtx 1 { head := some 7 })).dev.stopped = false) ∧ ((((W.of fun d => ((d.setGroup
  3
  { rx := [⟨0x801, [5, 0, 0, 0, 0, 0, 2 + 2 * 2 ^ 16 + 12 * 2 ^ 32, 0], 0⟩], vcs := [(0, { head := 7, uid := 1, pixelRate := 5, lead := 0, spareOk := true, teCap := false, retvidCap := false, digest := 0 })] }).wr
  (Pg.ING 0) Reg.ING.ADMIT 2 7).setCtx 1 { head := some 7 })).dev.group (3)).rx = ((⟨0x801, [5, 0, 0, 0, 0, 0, 2 + 2
  * 2 ^ 16 + 12 * 2 ^ 32, 0], 0⟩ : Packet)) :: (([] : List Packet))) ∧ (pType ((⟨0x801, [5, 0, 0, 0, 0, 0, 2 + 2 * 2
  ^ 16 + 12 * 2 ^ 32, 0], 0⟩ : Packet)).header = 1) ∧ (((⟨0x801, [5, 0, 0, 0, 0, 0, 2 + 2 * 2 ^ 16 + 12 * 2 ^ 32,
  0], 0⟩ : Packet)).words.length = 8) ∧ (Assoc.find (((W.of fun d => ((d.setGroup 3
  { rx := [⟨0x801, [5, 0, 0, 0, 0, 0, 2 + 2 * 2 ^ 16 + 12 * 2 ^ 32, 0], 0⟩], vcs := [(0, { head := 7, uid := 1, pixelRate := 5, lead := 0, spareOk := true, teCap := false, retvidCap := false, digest := 0 })] }).wr
  (Pg.ING 0) Reg.ING.ADMIT 2 7).setCtx 1 { head := some 7 })).dev.group (3)).openFrames (pVc ((⟨0x801, [5, 0, 0, 0,
  0, 0, 2 + 2 * 2 ^ 16 + 12 * 2 ^ 32, 0], 0⟩ : Packet)).header) = none) ∧ (Assoc.find (((W.of fun d => ((d.setGroup
  3
  { rx := [⟨0x801, [5, 0, 0, 0, 0, 0, 2 + 2 * 2 ^ 16 + 12 * 2 ^ 32, 0], 0⟩], vcs := [(0, { head := 7, uid := 1, pixelRate := 5, lead := 0, spareOk := true, teCap := false, retvidCap := false, digest := 0 })] }).wr
  (Pg.ING 0) Reg.ING.ADMIT 2 7).setCtx 1 { head := some 7 })).dev.group (3)).vcs (pVc ((⟨0x801, [5, 0, 0, 0, 0, 0, 2
  + 2 * 2 ^ 16 + 12 * 2 ^ 32, 0], 0⟩ : Packet)).header) = some
  (({ head := 7, uid := 1, pixelRate := 5, lead := 0, spareOk := true, teCap := false, retvidCap := false, digest := 0 }
  : Binding))) ∧ (((W.of fun d => ((d.setGroup 3
  { rx := [⟨0x801, [5, 0, 0, 0, 0, 0, 2 + 2 * 2 ^ 16 + 12 * 2 ^ 32, 0], 0⟩], vcs := [(0, { head := 7, uid := 1, pixelRate := 5, lead := 0, spareOk := true, teCap := false, retvidCap := false, digest := 0 })] }).wr
  (Pg.ING 0) Reg.ING.ADMIT 2 7).setCtx 1 { head := some 7 })).dev.shutHead ((3) / 8)
  (({ head := 7, uid := 1, pixelRate := 5, lead := 0, spareOk := true, teCap := false, retvidCap := false, digest := 0 }
  : Binding)).head = false) ∧ (((W.of fun d => ((d.setGroup 3
  { rx := [⟨0x801, [5, 0, 0, 0, 0, 0, 2 + 2 * 2 ^ 16 + 12 * 2 ^ 32, 0], 0⟩], vcs := [(0, { head := 7, uid := 1, pixelRate := 5, lead := 0, spareOk := true, teCap := false, retvidCap := false, digest := 0 })] }).wr
  (Pg.ING 0) Reg.ING.ADMIT 2 7).setCtx 1 { head := some 7 })).dev.rd (Pg.ING ((3) / 8)) Reg.ING.ADMIT
  (({ head := 7, uid := 1, pixelRate := 5, lead := 0, spareOk := true, teCap := false, retvidCap := false, digest := 0 }
  : Binding)).head = 2) ∧ (((W.of fun d => ((d.setGroup 3
  { rx := [⟨0x801, [5, 0, 0, 0, 0, 0, 2 + 2 * 2 ^ 16 + 12 * 2 ^ 32, 0], 0⟩], vcs := [(0, { head := 7, uid := 1, pixelRate := 5, lead := 0, spareOk := true, teCap := false, retvidCap := false, digest := 0 })] }).wr
  (Pg.ING 0) Reg.ING.ADMIT 2 7).setCtx 1 { head := some 7 })).dev.ctxOfHead
  (({ head := 7, uid := 1, pixelRate := 5, lead := 0, spareOk := true, teCap := false, retvidCap := false, digest := 0 }
  : Binding)).head = some (1)) ∧ ((((W.of fun d => ((d.setGroup 3
  { rx := [⟨0x801, [5, 0, 0, 0, 0, 0, 2 + 2 * 2 ^ 16 + 12 * 2 ^ 32, 0], 0⟩], vcs := [(0, { head := 7, uid := 1, pixelRate := 5, lead := 0, spareOk := true, teCap := false, retvidCap := false, digest := 0 })] }).wr
  (Pg.ING 0) Reg.ING.ADMIT 2 7).setCtx 1 { head := some 7 })).dev.head
  (({ head := 7, uid := 1, pixelRate := 5, lead := 0, spareOk := true, teCap := false, retvidCap := false, digest := 0 }
  : Binding)).head).lastCid = none) ∧ (((W.of fun d => ((d.setGroup 3
  { rx := [⟨0x801, [5, 0, 0, 0, 0, 0, 2 + 2 * 2 ^ 16 + 12 * 2 ^ 32, 0], 0⟩], vcs := [(0, { head := 7, uid := 1, pixelRate := 5, lead := 0, spareOk := true, teCap := false, retvidCap := false, digest := 0 })] }).wr
  (Pg.ING 0) Reg.ING.ADMIT 2 7).setCtx 1 { head := some 7 })).dev.cap.frames = []) ∧ ((((W.of fun d => ((d.setGroup
  3
  { rx := [⟨0x801, [5, 0, 0, 0, 0, 0, 2 + 2 * 2 ^ 16 + 12 * 2 ^ 32, 0], 0⟩], vcs := [(0, { head := 7, uid := 1, pixelRate := 5, lead := 0, spareOk := true, teCap := false, retvidCap := false, digest := 0 })] }).wr
  (Pg.ING 0) Reg.ING.ADMIT 2 7).setCtx 1 { head := some 7 })).dev.ctx (1)).quires = []) ∧ ((((W.of fun d =>
  ((d.setGroup 3
  { rx := [⟨0x801, [5, 0, 0, 0, 0, 0, 2 + 2 * 2 ^ 16 + 12 * 2 ^ 32, 0], 0⟩], vcs := [(0, { head := 7, uid := 1, pixelRate := 5, lead := 0, spareOk := true, teCap := false, retvidCap := false, digest := 0 })] }).wr
  (Pg.ING 0) Reg.ING.ADMIT 2 7).setCtx 1 { head := some 7 })).dev.ctx (1)).paused = false) ∧ ((fhdrOf ((⟨0x801, [5,
  0, 0, 0, 0, 0, 2 + 2 * 2 ^ 16 + 12 * 2 ^ 32, 0], 0⟩ : Packet)).words).width ≠ 0) ∧ (8 ≤ (fhdrOf ((⟨0x801, [5, 0,
  0, 0, 0, 0, 2 + 2 * 2 ^ 16 + 12 * 2 ^ 32, 0], 0⟩ : Packet)).words).depth) ∧ ((fhdrOf ((⟨0x801, [5, 0, 0, 0, 0, 0,
  2 + 2 * 2 ^ 16 + 12 * 2 ^ 32, 0], 0⟩ : Packet)).words).depth ≤ 16) ∧ ((fhdrOf ((⟨0x801, [5, 0, 0, 0, 0, 0, 2 + 2 *
  2 ^ 16 + 12 * 2 ^ 32, 0], 0⟩ : Packet)).words).cfaKind ≤ 4) ∧ ((((W.of fun d => ((d.setGroup 3
  { rx := [⟨0x801, [5, 0, 0, 0, 0, 0, 2 + 2 * 2 ^ 16 + 12 * 2 ^ 32, 0], 0⟩], vcs := [(0, { head := 7, uid := 1, pixelRate := 5, lead := 0, spareOk := true, teCap := false, retvidCap := false, digest := 0 })] }).wr
  (Pg.ING 0) Reg.ING.ADMIT 2 7).setCtx 1 { head := some 7 })).dev.placeFrame (1) (Pb.fe (genFor (((W.of fun d =>
  ((d.setGroup 3
  { rx := [⟨0x801, [5, 0, 0, 0, 0, 0, 2 + 2 * 2 ^ 16 + 12 * 2 ^ 32, 0], 0⟩], vcs := [(0, { head := 7, uid := 1, pixelRate := 5, lead := 0, spareOk := true, teCap := false, retvidCap := false, digest := 0 })] }).wr
  (Pg.ING 0) Reg.ING.ADMIT 2 7).setCtx 1 { head := some 7 })).dev.ctx (1)).gens (((W.of fun d => ((d.setGroup 3
  { rx := [⟨0x801, [5, 0, 0, 0, 0, 0, 2 + 2 * 2 ^ 16 + 12 * 2 ^ 32, 0], 0⟩], vcs := [(0, { head := 7, uid := 1, pixelRate := 5, lead := 0, spareOk := true, teCap := false, retvidCap := false, digest := 0 })] }).wr
  (Pg.ING 0) Reg.ING.ADMIT 2 7).setCtx 1 { head := some 7 })).dev.ctx (1)).ord).bank 0 Pb.CTL.CFG_WIDTH) (Pb.fe
  (genFor (((W.of fun d => ((d.setGroup 3
  { rx := [⟨0x801, [5, 0, 0, 0, 0, 0, 2 + 2 * 2 ^ 16 + 12 * 2 ^ 32, 0], 0⟩], vcs := [(0, { head := 7, uid := 1, pixelRate := 5, lead := 0, spareOk := true, teCap := false, retvidCap := false, digest := 0 })] }).wr
  (Pg.ING 0) Reg.ING.ADMIT 2 7).setCtx 1 { head := some 7 })).dev.ctx (1)).gens (((W.of fun d => ((d.setGroup 3
  { rx := [⟨0x801, [5, 0, 0, 0, 0, 0, 2 + 2 * 2 ^ 16 + 12 * 2 ^ 32, 0], 0⟩], vcs := [(0, { head := 7, uid := 1, pixelRate := 5, lead := 0, spareOk := true, teCap := false, retvidCap := false, digest := 0 })] }).wr
  (Pg.ING 0) Reg.ING.ADMIT 2 7).setCtx 1 { head := some 7 })).dev.ctx (1)).ord).bank 0 Pb.CTL.CFG_HEIGHT)).isSome =
  true) ∧ (((W.of fun d => ((d.setGroup 3
  { rx := [⟨0x801, [5, 0, 0, 0, 0, 0, 2 + 2 * 2 ^ 16 + 12 * 2 ^ 32, 0], 0⟩], vcs := [(0, { head := 7, uid := 1, pixelRate := 5, lead := 0, spareOk := true, teCap := false, retvidCap := false, digest := 0 })] }).wr
  (Pg.ING 0) Reg.ING.ADMIT 2 7).setCtx 1 { head := some 7 })).dev.pip.takes = []) := by decide

theorem wit_fhdr_orphan : ((3) < 32) ∧ (((W.of fun d => (d.setGroup 3
  { rx := [⟨0x801, [5, 0, 0, 0, 0, 0, 0, 0], 0⟩], vcs := [(0, { head := 7, uid := 1, pixelRate := 5, lead := 0, spareOk := true, teCap := false, retvidCap := false, digest := 0 })] }).wr
  (Pg.ING 0) Reg.ING.ADMIT 2 7)).dev.stopped = false) ∧ ((((W.of fun d => (d.setGroup 3
  { rx := [⟨0x801, [5, 0, 0, 0, 0, 0, 0, 0], 0⟩], vcs := [(0, { head := 7, uid := 1, pixelRate := 5, lead := 0, spareOk := true, teCap := false, retvidCap := false, digest := 0 })] }).wr
  (Pg.ING 0) Reg.ING.ADMIT 2 7)).dev.group (3)).rx = ((⟨0x801, [5, 0, 0, 0, 0, 0, 0, 0], 0⟩ : Packet)) :: (([] :
  List Packet))) ∧ (pType ((⟨0x801, [5, 0, 0, 0, 0, 0, 0, 0], 0⟩ : Packet)).header = 1) ∧ (((⟨0x801, [5, 0, 0, 0, 0,
  0, 0, 0], 0⟩ : Packet)).words.length = 8) ∧ (Assoc.find (((W.of fun d => (d.setGroup 3
  { rx := [⟨0x801, [5, 0, 0, 0, 0, 0, 0, 0], 0⟩], vcs := [(0, { head := 7, uid := 1, pixelRate := 5, lead := 0, spareOk := true, teCap := false, retvidCap := false, digest := 0 })] }).wr
  (Pg.ING 0) Reg.ING.ADMIT 2 7)).dev.group (3)).openFrames (pVc ((⟨0x801, [5, 0, 0, 0, 0, 0, 0, 0], 0⟩ :
  Packet)).header) = none) ∧ (Assoc.find (((W.of fun d => (d.setGroup 3
  { rx := [⟨0x801, [5, 0, 0, 0, 0, 0, 0, 0], 0⟩], vcs := [(0, { head := 7, uid := 1, pixelRate := 5, lead := 0, spareOk := true, teCap := false, retvidCap := false, digest := 0 })] }).wr
  (Pg.ING 0) Reg.ING.ADMIT 2 7)).dev.group (3)).vcs (pVc ((⟨0x801, [5, 0, 0, 0, 0, 0, 0, 0], 0⟩ : Packet)).header) =
  some
  (({ head := 7, uid := 1, pixelRate := 5, lead := 0, spareOk := true, teCap := false, retvidCap := false, digest := 0 }
  : Binding))) ∧ (((W.of fun d => (d.setGroup 3
  { rx := [⟨0x801, [5, 0, 0, 0, 0, 0, 0, 0], 0⟩], vcs := [(0, { head := 7, uid := 1, pixelRate := 5, lead := 0, spareOk := true, teCap := false, retvidCap := false, digest := 0 })] }).wr
  (Pg.ING 0) Reg.ING.ADMIT 2 7)).dev.shutHead ((3) / 8)
  (({ head := 7, uid := 1, pixelRate := 5, lead := 0, spareOk := true, teCap := false, retvidCap := false, digest := 0 }
  : Binding)).head = false) ∧ (((W.of fun d => (d.setGroup 3
  { rx := [⟨0x801, [5, 0, 0, 0, 0, 0, 0, 0], 0⟩], vcs := [(0, { head := 7, uid := 1, pixelRate := 5, lead := 0, spareOk := true, teCap := false, retvidCap := false, digest := 0 })] }).wr
  (Pg.ING 0) Reg.ING.ADMIT 2 7)).dev.rd (Pg.ING ((3) / 8)) Reg.ING.ADMIT
  (({ head := 7, uid := 1, pixelRate := 5, lead := 0, spareOk := true, teCap := false, retvidCap := false, digest := 0 }
  : Binding)).head = 2) ∧ (((W.of fun d => (d.setGroup 3
  { rx := [⟨0x801, [5, 0, 0, 0, 0, 0, 0, 0], 0⟩], vcs := [(0, { head := 7, uid := 1, pixelRate := 5, lead := 0, spareOk := true, teCap := false, retvidCap := false, digest := 0 })] }).wr
  (Pg.ING 0) Reg.ING.ADMIT 2 7)).dev.ctxOfHead
  (({ head := 7, uid := 1, pixelRate := 5, lead := 0, spareOk := true, teCap := false, retvidCap := false, digest := 0 }
  : Binding)).head = none) := by decide

theorem wit_rows : ((3) < 32) ∧ (((W.of fun d => (W.framed (W.frame 7 1 5) d).setGroup 3
  { rx := [⟨0x102 + 2 ^ 21 + 2 * 2 ^ 50, [0xABCDEF], 0⟩], openFrames := [(0, frameKey 7 5)], vcs := [(0, { head := 7, uid := 1, pixelRate := 5, lead := 0, spareOk := true, teCap := false, retvidCap := false, digest := 0 })] })).dev.stopped
  = false) ∧ ((((W.of fun d => (W.framed (W.frame 7 1 5) d).setGroup 3
  { rx := [⟨0x102 + 2 ^ 21 + 2 * 2 ^ 50, [0xABCDEF], 0⟩], openFrames := [(0, frameKey 7 5)], vcs := [(0, { head := 7, uid := 1, pixelRate := 5, lead := 0, spareOk := true, teCap := false, retvidCap := false, digest := 0 })] })).dev.group
  (3)).rx = ((⟨0x102 + 2 ^ 21 + 2 * 2 ^ 50, [0xABCDEF], 0⟩ : Packet)) :: (([] : List Packet))) ∧ (pType ((⟨0x102 + 2
  ^ 21 + 2 * 2 ^ 50, [0xABCDEF], 0⟩ : Packet)).header = 2) ∧ (Assoc.find (((W.of fun d => (W.framed (W.frame 7 1 5)
  d).setGroup 3
  { rx := [⟨0x102 + 2 ^ 21 + 2 * 2 ^ 50, [0xABCDEF], 0⟩], openFrames := [(0, frameKey 7 5)], vcs := [(0, { head := 7, uid := 1, pixelRate := 5, lead := 0, spareOk := true, teCap := false, retvidCap := false, digest := 0 })] })).dev.group
  (3)).openFrames (pVc ((⟨0x102 + 2 ^ 21 + 2 * 2 ^ 50, [0xABCDEF], 0⟩ : Packet)).header) = some (frameKey 7 5)) ∧
  (((W.of fun d => (W.framed (W.frame 7 1 5) d).setGroup 3
  { rx := [⟨0x102 + 2 ^ 21 + 2 * 2 ^ 50, [0xABCDEF], 0⟩], openFrames := [(0, frameKey 7 5)], vcs := [(0, { head := 7, uid := 1, pixelRate := 5, lead := 0, spareOk := true, teCap := false, retvidCap := false, digest := 0 })] })).dev.frame?
  (frameKey 7 5) = some ((W.frame 7 1 5 : Frame))) ∧ (((W.frame 7 1 5 : Frame)).key = (frameKey 7 5)) ∧ (bits
  ((⟨0x102 + 2 ^ 21 + 2 * 2 ^ 50, [0xABCDEF], 0⟩ : Packet)).header 50 14 ≠ 0) ∧ (8 ≤ ((W.frame 7 1 5 :
  Frame)).hdr.depth) ∧ (pWords ((⟨0x102 + 2 ^ 21 + 2 * 2 ^ 50, [0xABCDEF], 0⟩ : Packet)).header = ceilDiv (bits
  ((⟨0x102 + 2 ^ 21 + 2 * 2 ^ 50, [0xABCDEF], 0⟩ : Packet)).header 50 14 * ((W.frame 7 1 5 : Frame)).hdr.depth) 64)
  ∧ (((⟨0x102 + 2 ^ 21 + 2 * 2 ^ 50, [0xABCDEF], 0⟩ : Packet)).words.length = pWords ((⟨0x102 + 2 ^ 21 + 2 * 2 ^ 50,
  [0xABCDEF], 0⟩ : Packet)).header) ∧ (((⟨0x102 + 2 ^ 21 + 2 * 2 ^ 50, [0xABCDEF], 0⟩ : Packet)).words.foldr (fun w
  a => w + 2 ^ 64 * a) 0 < 2 ^ (bits ((⟨0x102 + 2 ^ 21 + 2 * 2 ^ 50, [0xABCDEF], 0⟩ : Packet)).header 50 14 *
  ((W.frame 7 1 5 : Frame)).hdr.depth)) ∧ (((W.frame 7 1 5 : Frame)).row.getD 0 ≤ bits ((⟨0x102 + 2 ^ 21 + 2 * 2 ^
  50, [0xABCDEF], 0⟩ : Packet)).header 21 14) ∧ (bits ((⟨0x102 + 2 ^ 21 + 2 * 2 ^ 50, [0xABCDEF], 0⟩ :
  Packet)).header 21 14 < ((W.frame 7 1 5 : Frame)).cfgH) := by decide

theorem wit_aux : ((3) < 32) ∧ (((W.of fun d => (W.framed (W.frame 7 1 5) d).setGroup 3
  { rx := [⟨0x104 + 0x11 * 2 ^ 21, [5], 0⟩], openFrames := [(0, frameKey 7 5)], vcs := [(0, { head := 7, uid := 1, pixelRate := 5, lead := 0, spareOk := true, teCap := false, retvidCap := false, digest := 0 })] })).dev.stopped
  = false) ∧ ((((W.of fun d => (W.framed (W.frame 7 1 5) d).setGroup 3
  { rx := [⟨0x104 + 0x11 * 2 ^ 21, [5], 0⟩], openFrames := [(0, frameKey 7 5)], vcs := [(0, { head := 7, uid := 1, pixelRate := 5, lead := 0, spareOk := true, teCap := false, retvidCap := false, digest := 0 })] })).dev.group
  (3)).rx = ((⟨0x104 + 0x11 * 2 ^ 21, [5], 0⟩ : Packet)) :: (([] : List Packet))) ∧ (pType ((⟨0x104 + 0x11 * 2 ^ 21,
  [5], 0⟩ : Packet)).header = 4) ∧ (Assoc.find (((W.of fun d => (W.framed (W.frame 7 1 5) d).setGroup 3
  { rx := [⟨0x104 + 0x11 * 2 ^ 21, [5], 0⟩], openFrames := [(0, frameKey 7 5)], vcs := [(0, { head := 7, uid := 1, pixelRate := 5, lead := 0, spareOk := true, teCap := false, retvidCap := false, digest := 0 })] })).dev.group
  (3)).openFrames (pVc ((⟨0x104 + 0x11 * 2 ^ 21, [5], 0⟩ : Packet)).header) = some (frameKey 7 5)) ∧ (((W.of fun d
  => (W.framed (W.frame 7 1 5) d).setGroup 3
  { rx := [⟨0x104 + 0x11 * 2 ^ 21, [5], 0⟩], openFrames := [(0, frameKey 7 5)], vcs := [(0, { head := 7, uid := 1, pixelRate := 5, lead := 0, spareOk := true, teCap := false, retvidCap := false, digest := 0 })] })).dev.frame?
  (frameKey 7 5) = some ((W.frame 7 1 5 : Frame))) ∧ (((W.frame 7 1 5 : Frame)).key = (frameKey 7 5)) ∧ (((⟨0x104 +
  0x11 * 2 ^ 21, [5], 0⟩ : Packet)).words ≠ []) ∧ (bits (((⟨0x104 + 0x11 * 2 ^ 21, [5], 0⟩ : Packet)).words.getD 0
  0) 0 48 = ((W.frame 7 1 5 : Frame)).hdr.cid) ∧ (((W.frame 7 1 5 : Frame)).aux.length + 8 + 8 * ((⟨0x104 + 0x11 * 2
  ^ 21, [5], 0⟩ : Packet)).words.length ≤ 65536) := by decide

theorem wit_ftrl : ((3) < 32) ∧ (((W.of fun d => (W.framed (W.frame 7 1 5) d).setGroup 3
  { rx := [⟨0x203, [5, 0], 0⟩], openFrames := [(0, frameKey 7 5)], vcs := [(0, { head := 7, uid := 1, pixelRate := 5, lead := 0, spareOk := true, teCap := false, retvidCap := false, digest := 0 })] })).dev.stopped
  = false) ∧ (((W.of fun d => (W.framed (W.frame 7 1 5) d).setGroup 3
  { rx := [⟨0x203, [5, 0], 0⟩], openFrames := [(0, frameKey 7 5)], vcs := [(0, { head := 7, uid := 1, pixelRate := 5, lead := 0, spareOk := true, teCap := false, retvidCap := false, digest := 0 })] })).dev.allAwake
  = true) ∧ ((((W.of fun d => (W.framed (W.frame 7 1 5) d).setGroup 3
  { rx := [⟨0x203, [5, 0], 0⟩], openFrames := [(0, frameKey 7 5)], vcs := [(0, { head := 7, uid := 1, pixelRate := 5, lead := 0, spareOk := true, teCap := false, retvidCap := false, digest := 0 })] })).dev.group
  (3)).rx = ((⟨0x203, [5, 0], 0⟩ : Packet)) :: (([] : List Packet))) ∧ (pType ((⟨0x203, [5, 0], 0⟩ : Packet)).header
  = 3) ∧ (((⟨0x203, [5, 0], 0⟩ : Packet)).header ≠ 0) ∧ (((⟨0x203, [5, 0], 0⟩ : Packet)).words.length = 2) ∧
  (Assoc.find (((W.of fun d => (W.framed (W.frame 7 1 5) d).setGroup 3
  { rx := [⟨0x203, [5, 0], 0⟩], openFrames := [(0, frameKey 7 5)], vcs := [(0, { head := 7, uid := 1, pixelRate := 5, lead := 0, spareOk := true, teCap := false, retvidCap := false, digest := 0 })] })).dev.group
  (3)).openFrames (pVc ((⟨0x203, [5, 0], 0⟩ : Packet)).header) = some (frameKey 7 5)) ∧ (((W.of fun d => (W.framed
  (W.frame 7 1 5) d).setGroup 3
  { rx := [⟨0x203, [5, 0], 0⟩], openFrames := [(0, frameKey 7 5)], vcs := [(0, { head := 7, uid := 1, pixelRate := 5, lead := 0, spareOk := true, teCap := false, retvidCap := false, digest := 0 })] })).dev.frame?
  (frameKey 7 5) = some ((W.frame 7 1 5 : Frame))) ∧ (((W.frame 7 1 5 : Frame)).key = (frameKey 7 5)) ∧ (((W.frame 7
  1 5 : Frame)).hdr.cid = bits (((⟨0x203, [5, 0], 0⟩ : Packet)).words.getD 0 0) 0 48) := by decide

theorem wit_rowTimeout : ((7) < 256) ∧ ((5) < 2 ^ 48) ∧ (((W.of (W.framed (W.frame 7 1 5)))).dev.stopped = false) :=
  by decide

theorem wit_frameTimeout : ((7) < 256) ∧ ((5) < 2 ^ 48) ∧ (((W.of (W.framed (W.frame 7 1 5)))).dev.stopped = false)
  := by decide

theorem wit_complete : ((7) < 256) ∧ ((5) < 2 ^ 48) ∧ (((W.of (W.framed
  { W.frame 7 1 5 with raw := [(0, 1), (65536, 2)] }))).dev.stopped = false) ∧ (((W.of (W.framed
  { W.frame 7 1 5 with raw := [(0, 1), (65536, 2)] }))).dev.frame? (frameKey (7) (5)) = some
  (({ W.frame 7 1 5 with raw := [(0, 1), (65536, 2)] } : Frame))) ∧
  ((({ W.frame 7 1 5 with raw := [(0, 1), (65536, 2)] } : Frame)).key = frameKey (7) (5)) ∧
  ((({ W.frame 7 1 5 with raw := [(0, 1), (65536, 2)] } : Frame)).isComplete = true) := by decide

theorem wit_closeFrame : (W.of (W.framed (W.frame 7 1 5))).dev.frame? (frameKey 7 5) = some (W.frame 7 1 5) ∧ (W.frame 7 1 5).key = frameKey 7 5 ∧ (W.frame 7 1 5).state = .announced := by decide

theorem wit_mipiFrameStart : ((0) < 4) ∧ (((W.of fun d => (((d.wr (Pg.MIP 0) Reg.HDR.EN 1).wr (Pg.MIP 0)
  Reg.MIP.WIDTH 64).wr (Pg.MIP 0) Reg.MIP.DT 0x2B).setCtx 1 { head := some 252 })).dev.stopped = false) ∧ (((W.of
  fun d => (((d.wr (Pg.MIP 0) Reg.HDR.EN 1).wr (Pg.MIP 0) Reg.MIP.WIDTH 64).wr (Pg.MIP 0) Reg.MIP.DT 0x2B).setCtx 1
  { head := some 252 })).dev.mipOn (0) = true) ∧ (((W.of fun d => (((d.wr (Pg.MIP 0) Reg.HDR.EN 1).wr (Pg.MIP 0)
  Reg.MIP.WIDTH 64).wr (Pg.MIP 0) Reg.MIP.DT 0x2B).setCtx 1 { head := some 252 })).dev.cap.mipLost.contains (0) =
  false) ∧ (((W.of fun d => (((d.wr (Pg.MIP 0) Reg.HDR.EN 1).wr (Pg.MIP 0) Reg.MIP.WIDTH 64).wr (Pg.MIP 0)
  Reg.MIP.DT 0x2B).setCtx 1 { head := some 252 })).dev.mipFrame (0) = none) ∧ (((W.of fun d => (((d.wr (Pg.MIP 0)
  Reg.HDR.EN 1).wr (Pg.MIP 0) Reg.MIP.WIDTH 64).wr (Pg.MIP 0) Reg.MIP.DT 0x2B).setCtx 1
  { head := some 252 })).dev.shutHead (0) (252 + (0)) = false) ∧ (((W.of fun d => (((d.wr (Pg.MIP 0) Reg.HDR.EN
  1).wr (Pg.MIP 0) Reg.MIP.WIDTH 64).wr (Pg.MIP 0) Reg.MIP.DT 0x2B).setCtx 1 { head := some 252 })).dev.ctxOfHead
  (252 + (0)) = some (1)) ∧ ((((W.of fun d => (((d.wr (Pg.MIP 0) Reg.HDR.EN 1).wr (Pg.MIP 0) Reg.MIP.WIDTH 64).wr
  (Pg.MIP 0) Reg.MIP.DT 0x2B).setCtx 1 { head := some 252 })).dev.head (252 + (0))).lastCid = none) ∧ (((W.of fun d
  => (((d.wr (Pg.MIP 0) Reg.HDR.EN 1).wr (Pg.MIP 0) Reg.MIP.WIDTH 64).wr (Pg.MIP 0) Reg.MIP.DT 0x2B).setCtx 1
  { head := some 252 })).dev.cap.frames = []) ∧ ((((W.of fun d => (((d.wr (Pg.MIP 0) Reg.HDR.EN 1).wr (Pg.MIP 0)
  Reg.MIP.WIDTH 64).wr (Pg.MIP 0) Reg.MIP.DT 0x2B).setCtx 1 { head := some 252 })).dev.ctx (1)).quires = []) ∧
  ((((W.of fun d => (((d.wr (Pg.MIP 0) Reg.HDR.EN 1).wr (Pg.MIP 0) Reg.MIP.WIDTH 64).wr (Pg.MIP 0) Reg.MIP.DT
  0x2B).setCtx 1 { head := some 252 })).dev.ctx (1)).paused = false) ∧ (((W.of fun d => (((d.wr (Pg.MIP 0)
  Reg.HDR.EN 1).wr (Pg.MIP 0) Reg.MIP.WIDTH 64).wr (Pg.MIP 0) Reg.MIP.DT 0x2B).setCtx 1
  { head := some 252 })).dev.rd (Pg.MIP (0)) Reg.MIP.WIDTH ≠ 0) ∧ (dtDepth (((W.of fun d => (((d.wr (Pg.MIP 0)
  Reg.HDR.EN 1).wr (Pg.MIP 0) Reg.MIP.WIDTH 64).wr (Pg.MIP 0) Reg.MIP.DT 0x2B).setCtx 1
  { head := some 252 })).dev.rd (Pg.MIP (0)) Reg.MIP.DT) ≠ 0) ∧ (((W.of fun d => (((d.wr (Pg.MIP 0) Reg.HDR.EN 1).wr
  (Pg.MIP 0) Reg.MIP.WIDTH 64).wr (Pg.MIP 0) Reg.MIP.DT 0x2B).setCtx 1 { head := some 252 })).dev.rd (Pg.MIP (0))
  Reg.MIP.CFA_KIND ≤ 4) ∧ (((W.of fun d => (((d.wr (Pg.MIP 0) Reg.HDR.EN 1).wr (Pg.MIP 0) Reg.MIP.WIDTH 64).wr
  (Pg.MIP 0) Reg.MIP.DT 0x2B).setCtx 1 { head := some 252 })).dev.pip.takes = []) ∧ ((((W.of fun d => (((d.wr
  (Pg.MIP 0) Reg.HDR.EN 1).wr (Pg.MIP 0) Reg.MIP.WIDTH 64).wr (Pg.MIP 0) Reg.MIP.DT 0x2B).setCtx 1
  { head := some 252 })).dev.placeFrame (1) (Pb.fe (genFor (((W.of fun d => (((d.wr (Pg.MIP 0) Reg.HDR.EN 1).wr
  (Pg.MIP 0) Reg.MIP.WIDTH 64).wr (Pg.MIP 0) Reg.MIP.DT 0x2B).setCtx 1 { head := some 252 })).dev.ctx (1)).gens
  (((W.of fun d => (((d.wr (Pg.MIP 0) Reg.HDR.EN 1).wr (Pg.MIP 0) Reg.MIP.WIDTH 64).wr (Pg.MIP 0) Reg.MIP.DT
  0x2B).setCtx 1 { head := some 252 })).dev.ctx (1)).ord).bank 0 Pb.CTL.CFG_WIDTH) (Pb.fe (genFor (((W.of fun d =>
  (((d.wr (Pg.MIP 0) Reg.HDR.EN 1).wr (Pg.MIP 0) Reg.MIP.WIDTH 64).wr (Pg.MIP 0) Reg.MIP.DT 0x2B).setCtx 1
  { head := some 252 })).dev.ctx (1)).gens (((W.of fun d => (((d.wr (Pg.MIP 0) Reg.HDR.EN 1).wr (Pg.MIP 0)
  Reg.MIP.WIDTH 64).wr (Pg.MIP 0) Reg.MIP.DT 0x2B).setCtx 1 { head := some 252 })).dev.ctx (1)).ord).bank 0
  Pb.CTL.CFG_HEIGHT)).isSome = true) := by decide

theorem wit_mipiLongPacket : ((0) < 4) ∧ (((W.of fun d =>
  { (W.framed (W.frame 252 1 5) d).wr (Pg.MIP 0) Reg.HDR.EN 1 with cap := { (W.framed (W.frame 252 1 5) d).cap with mipOpen := [(0, frameKey 252 5)] } })).dev.stopped
  = false) ∧ (((W.of fun d =>
  { (W.framed (W.frame 252 1 5) d).wr (Pg.MIP 0) Reg.HDR.EN 1 with cap := { (W.framed (W.frame 252 1 5) d).cap with mipOpen := [(0, frameKey 252 5)] } })).dev.mipOn
  (0) = true) ∧ (((W.of fun d =>
  { (W.framed (W.frame 252 1 5) d).wr (Pg.MIP 0) Reg.HDR.EN 1 with cap := { (W.framed (W.frame 252 1 5) d).cap with mipOpen := [(0, frameKey 252 5)] } })).dev.mipDrops
  (0) = false) ∧ (((W.of fun d =>
  { (W.framed (W.frame 252 1 5) d).wr (Pg.MIP 0) Reg.HDR.EN 1 with cap := { (W.framed (W.frame 252 1 5) d).cap with mipOpen := [(0, frameKey 252 5)] } })).dev.mipFrame
  (0) = some ((W.frame 252 1 5 : Frame))) ∧ (((W.frame 252 1 5 : Frame)).key = frameKey (252 + (0)) ((W.frame 252 1
  5 : Frame)).hdr.cid) ∧ (((W.frame 252 1 5 : Frame)).row.getD 0 ≤ (Assoc.find ((W.of fun d =>
  { (W.framed (W.frame 252 1 5) d).wr (Pg.MIP 0) Reg.HDR.EN 1 with cap := { (W.framed (W.frame 252 1 5) d).cap with mipOpen := [(0, frameKey 252 5)] } })).dev.cap.mipRow
  (0)).getD 0) ∧ ((Assoc.find ((W.of fun d =>
  { (W.framed (W.frame 252 1 5) d).wr (Pg.MIP 0) Reg.HDR.EN 1 with cap := { (W.framed (W.frame 252 1 5) d).cap with mipOpen := [(0, frameKey 252 5)] } })).dev.cap.mipRow
  (0)).getD 0 < ((W.frame 252 1 5 : Frame)).cfgH) := by decide

theorem wit_mipiEmbeddedData : ((0) < 4) ∧ (((W.of fun d =>
  { (W.framed (W.frame 252 1 5) d).wr (Pg.MIP 0) Reg.HDR.EN 1 with cap := { (W.framed (W.frame 252 1 5) d).cap with mipOpen := [(0, frameKey 252 5)] } })).dev.stopped
  = false) ∧ (((W.of fun d =>
  { (W.framed (W.frame 252 1 5) d).wr (Pg.MIP 0) Reg.HDR.EN 1 with cap := { (W.framed (W.frame 252 1 5) d).cap with mipOpen := [(0, frameKey 252 5)] } })).dev.mipOn
  (0) = true) ∧ (((W.of fun d =>
  { (W.framed (W.frame 252 1 5) d).wr (Pg.MIP 0) Reg.HDR.EN 1 with cap := { (W.framed (W.frame 252 1 5) d).cap with mipOpen := [(0, frameKey 252 5)] } })).dev.mipDrops
  (0) = false) ∧ (((W.of fun d =>
  { (W.framed (W.frame 252 1 5) d).wr (Pg.MIP 0) Reg.HDR.EN 1 with cap := { (W.framed (W.frame 252 1 5) d).cap with mipOpen := [(0, frameKey 252 5)] } })).dev.mipFrame
  (0) = some ((W.frame 252 1 5 : Frame))) ∧ (((W.frame 252 1 5 : Frame)).key = frameKey (252 + (0)) ((W.frame 252 1
  5 : Frame)).hdr.cid) ∧ (((W.frame 252 1 5 : Frame)).aux.length + 8 + (([1, 2, 0x43] : List Byte)).length ≤ 65536)
  := by decide

theorem wit_mipiFrameEnd : ((0) < 4) ∧ (((W.of fun d =>
  { (W.framed (W.frame 252 1 5) d).wr (Pg.MIP 0) Reg.HDR.EN 1 with cap := { (W.framed (W.frame 252 1 5) d).cap with mipOpen := [(0, frameKey 252 5)] } })).dev.stopped
  = false) ∧ (((W.of fun d =>
  { (W.framed (W.frame 252 1 5) d).wr (Pg.MIP 0) Reg.HDR.EN 1 with cap := { (W.framed (W.frame 252 1 5) d).cap with mipOpen := [(0, frameKey 252 5)] } })).dev.mipOn
  (0) = true) ∧ (((W.of fun d =>
  { (W.framed (W.frame 252 1 5) d).wr (Pg.MIP 0) Reg.HDR.EN 1 with cap := { (W.framed (W.frame 252 1 5) d).cap with mipOpen := [(0, frameKey 252 5)] } })).dev.mipDrops
  (0) = false) ∧ (((W.of fun d =>
  { (W.framed (W.frame 252 1 5) d).wr (Pg.MIP 0) Reg.HDR.EN 1 with cap := { (W.framed (W.frame 252 1 5) d).cap with mipOpen := [(0, frameKey 252 5)] } })).dev.allAwake
  = true) ∧ (((W.of fun d =>
  { (W.framed (W.frame 252 1 5) d).wr (Pg.MIP 0) Reg.HDR.EN 1 with cap := { (W.framed (W.frame 252 1 5) d).cap with mipOpen := [(0, frameKey 252 5)] } })).dev.mipFrame
  (0) = some ((W.frame 252 1 5 : Frame))) ∧ (((W.frame 252 1 5 : Frame)).key = frameKey (252 + (0)) ((W.frame 252 1
  5 : Frame)).hdr.cid) := by decide

theorem wit_mipiDtSkip : ((0) < 4) ∧ (((W.reg (Pg.MIP 0) Reg.HDR.EN 1)).dev.stopped = false) ∧ (((W.reg (Pg.MIP 0)
  Reg.HDR.EN 1)).dev.mipOn (0) = true) := by decide

theorem wit_mipiHeaderError : ((3) < 4) ∧ (((W.reg (Pg.MIP 3) Reg.HDR.EN 1)).dev.stopped = false) ∧ (((W.reg (Pg.MIP
  3) Reg.HDR.EN 1)).dev.mipOn (3) = true) := by decide

theorem wit_admitResend : ((7) < 256) ∧ (((W.of fun d => ((d.setHead 7
  { vc := some (3, 0), cfg := some (1, 2), ssq := 65535 }).wr (Pg.ING 0) Reg.ING.ADMIT 1 7).setCtx 1
  { head := some 7 })).dev.stopped = false) ∧ (((W.of fun d => ((d.setHead 7
  { vc := some (3, 0), cfg := some (1, 2), ssq := 65535 }).wr (Pg.ING 0) Reg.ING.ADMIT 1 7).setCtx 1
  { head := some 7 })).dev.rd (Pg.ING (((W.of fun d => ((d.setHead 7
  { vc := some (3, 0), cfg := some (1, 2), ssq := 65535 }).wr (Pg.ING 0) Reg.ING.ADMIT 1 7).setCtx 1
  { head := some 7 })).dev.unitOf (7))) Reg.ING.ADMIT (7) = 1) ∧ ((((W.of fun d => ((d.setHead 7
  { vc := some (3, 0), cfg := some (1, 2), ssq := 65535 }).wr (Pg.ING 0) Reg.ING.ADMIT 1 7).setCtx 1
  { head := some 7 })).dev.head (7)).cfg.isSome = true) ∧ (((W.of fun d => ((d.setHead 7
  { vc := some (3, 0), cfg := some (1, 2), ssq := 65535 }).wr (Pg.ING 0) Reg.ING.ADMIT 1 7).setCtx 1
  { head := some 7 })).dev.ctxOfHead (7) = some (1)) ∧ ((((W.of fun d => ((d.setHead 7
  { vc := some (3, 0), cfg := some (1, 2), ssq := 65535 }).wr (Pg.ING 0) Reg.ING.ADMIT 1 7).setCtx 1
  { head := some 7 })).dev.head (7)).vc = some ((3), (0))) := by decide

theorem wit_admitStall : ((7) < 256) ∧ (((W.reg (Pg.ING 0) Reg.ING.ADMIT 1 7)).dev.stopped = false) ∧ (((W.reg
  (Pg.ING 0) Reg.ING.ADMIT 1 7)).dev.rd (Pg.ING (((W.reg (Pg.ING 0) Reg.ING.ADMIT 1 7)).dev.unitOf (7)))
  Reg.ING.ADMIT (7) = 1) := by decide

theorem wit_contextBind : ((0) < 128) ∧ ((5) < 2 ^ 64) ∧ (Starts (((W.of (W.run [W.cmd 0x8A [(1, 2), (8, 7 +
  0x200)]]))).dev.see (({} : HostView))) (0) (5) 0x8A ((W.cmd 0x8A [(1, 2), (8, 7 + 0x200)] : Cmd)) = true) ∧ (sf
  ((W.cmd 0x8A [(1, 2), (8, 7 + 0x200)] : Cmd)).entry 8 8 1 = 0) ∧ ((2) = sf ((W.cmd 0x8A [(1, 2), (8, 7 + 0x200)] :
  Cmd)).entry 1 0 8) ∧ (((W.of (W.run [W.cmd 0x8A [(1, 2), (8, 7 + 0x200)]]))).dev.ownsCtx ((W.cmd 0x8A [(1, 2), (8,
  7 + 0x200)] : Cmd)) (2) = true) ∧ (sf ((W.cmd 0x8A [(1, 2), (8, 7 + 0x200)] : Cmd)).entry 8 10 2 = 0 ∨ sf ((W.cmd
  0x8A [(1, 2), (8, 7 + 0x200)] : Cmd)).entry 8 9 1 = 1) ∧ ((((W.of (W.run [W.cmd 0x8A [(1, 2), (8, 7 +
  0x200)]]))).dev.ctx (2)).head = none) ∧ ((((W.of (W.run [W.cmd 0x8A [(1, 2), (8, 7 +
  0x200)]]))).dev.boundCtxs.filter fun e => e.1 ≠ (2)).any (fun e => e.2.head = some (sf ((W.cmd 0x8A [(1, 2), (8, 7
  + 0x200)] : Cmd)).entry 8 0 8) || (decide (sf ((W.cmd 0x8A [(1, 2), (8, 7 + 0x200)] : Cmd)).entry 8 9 1 = 1) &&
  e.2.inl && (sectionsOf e.2.gang e.2.section_).any fun n => n ∈ sectionsOf (sf ((W.cmd 0x8A [(1, 2), (8, 7 +
  0x200)] : Cmd)).entry 8 10 2) (sf ((W.cmd 0x8A [(1, 2), (8, 7 + 0x200)] : Cmd)).entry 8 12 2))) = false) ∧
  ((({ head := some 7, inl := true } : Ctx)) =
  { ((W.of (W.run [W.cmd 0x8A [(1, 2), (8, 7 + 0x200)]]))).dev.ctx (2) with head := some (sf ((W.cmd 0x8A [(1, 2), (8, 7 + 0x200)] : Cmd)).entry 8 0 8), inl := decide (sf ((W.cmd 0x8A [(1, 2), (8, 7 + 0x200)] : Cmd)).entry 8 9 1 = 1), gang := sf ((W.cmd 0x8A [(1, 2), (8, 7 + 0x200)] : Cmd)).entry 8 10 2, section_ := sf ((W.cmd 0x8A [(1, 2), (8, 7 + 0x200)] : Cmd)).entry 8 12 2, rate := dwAt ((W.cmd 0x8A [(1, 2), (8, 7 + 0x200)] : Cmd)).entry 9 })
  ∧ ((sectionsOf (({ head := some 7, inl := true } : Ctx)).gang (({ head := some 7, inl := true } :
  Ctx)).section_).all (fun n => decide ((((W.of (W.run [W.cmd 0x8A [(1, 2), (8, 7 + 0x200)]]))).dev.setCtx (2)
  (({ head := some 7, inl := true } : Ctx))).sectionLoad n ≤ sectionCap) && decide ((((W.of (W.run [W.cmd 0x8A [(1,
  2), (8, 7 + 0x200)]]))).dev.setCtx (2) (({ head := some 7, inl := true } : Ctx))).sectionLoad n (fun j _ => ((W.of
  (W.run [W.cmd 0x8A [(1, 2), (8, 7 + 0x200)]]))).dev.reserved 0 j) ≤ sectionCap)) = true) ∧ ((((W.of (W.run [W.cmd
  0x8A [(1, 2), (8, 7 + 0x200)]]))).dev.setCtx (2) (({ head := some 7, inl := true } : Ctx))).declaredLoad ≤
  40000000) ∧ ((List.range 4).all (fun n => !(((W.of (W.run [W.cmd 0x8A [(1, 2), (8, 7 + 0x200)]]))).dev.setCtx (2)
  (({ head := some 7, inl := true } : Ctx))).unitCounts n (sf ((W.cmd 0x8A [(1, 2), (8, 7 + 0x200)] : Cmd)).entry 8
  0 8) || (((W.of (W.run [W.cmd 0x8A [(1, 2), (8, 7 + 0x200)]]))).dev.setCtx (2) (({ head := some 7, inl := true } :
  Ctx))).unitLoad n ≤ 20000000) = true) ∧ ((({ head := some 7, inl := true } : Ctx)).rate ≤ ((W.of (W.run [W.cmd
  0x8A [(1, 2), (8, 7 + 0x200)]]))).dev.reserved 0 (2)) := by decide

theorem wit_contextUnbind : ((0) < 128) ∧ ((5) < 2 ^ 64) ∧ (Starts (((W.of fun d => (W.run [W.cmd 0x8A [(1, 2), (8,
  0x100)]] d).setCtx 2 { head := some 9 })).dev.see (({} : HostView))) (0) (5) 0x8A ((W.cmd 0x8A [(1, 2), (8,
  0x100)] : Cmd)) = true) ∧ (sf ((W.cmd 0x8A [(1, 2), (8, 0x100)] : Cmd)).entry 8 8 1 = 1) ∧ ((2) = sf ((W.cmd 0x8A
  [(1, 2), (8, 0x100)] : Cmd)).entry 1 0 8) ∧ (((W.of fun d => (W.run [W.cmd 0x8A [(1, 2), (8, 0x100)]] d).setCtx 2
  { head := some 9 })).dev.ownsCtx ((W.cmd 0x8A [(1, 2), (8, 0x100)] : Cmd)) (2) = true) := by decide

theorem wit_quireSeal : ((0) < 128) ∧ ((5) < 2 ^ 64) ∧ (Starts (((W.of (W.run [W.cmd 0x88 [(1, 2), (8,
  9)]]))).dev.see (({} : HostView))) (0) (5) 0x88 ((W.cmd 0x88 [(1, 2), (8, 9)] : Cmd)) = true) ∧ ((2) = sf ((W.cmd
  0x88 [(1, 2), (8, 9)] : Cmd)).entry 1 0 8) ∧ (((W.of (W.run [W.cmd 0x88 [(1, 2), (8, 9)]]))).dev.ownsCtx ((W.cmd
  0x88 [(1, 2), (8, 9)] : Cmd)) (2) = true) ∧ (dwAt ((W.cmd 0x88 [(1, 2), (8, 9)] : Cmd)).entry 8 ≠ 0) ∧ (bitAt
  (dwAt ((W.cmd 0x88 [(1, 2), (8, 9)] : Cmd)).entry 8) 31 = false) ∧ (sf ((W.cmd 0x88 [(1, 2), (8, 9)] : Cmd)).entry
  9 4 1 = 0) ∧ (sf ((W.cmd 0x88 [(1, 2), (8, 9)] : Cmd)).entry 9 0 2 ≠ 3) ∧ ((((W.of (W.run [W.cmd 0x88 [(1, 2), (8,
  9)]]))).dev.ctx (2)).outstanding < 16) := by decide

theorem wit_quireSeal_full : ((0) < 128) ∧ ((5) < 2 ^ 64) ∧ (Starts (((W.of fun d => (W.run [W.cmd 0x88 [(1, 2), (8,
  9)]] d).setCtx 2 { quires := List.replicate 16 { id := 1, asn := 1, target := .frame 0, bank := [] } })).dev.see
  (({} : HostView))) (0) (5) 0x88 ((W.cmd 0x88 [(1, 2), (8, 9)] : Cmd)) = true) ∧ ((2) = sf ((W.cmd 0x88 [(1, 2),
  (8, 9)] : Cmd)).entry 1 0 8) ∧ (((W.of fun d => (W.run [W.cmd 0x88 [(1, 2), (8, 9)]] d).setCtx 2
  { quires := List.replicate 16 { id := 1, asn := 1, target := .frame 0, bank := [] } })).dev.ownsCtx ((W.cmd 0x88
  [(1, 2), (8, 9)] : Cmd)) (2) = true) ∧ (dwAt ((W.cmd 0x88 [(1, 2), (8, 9)] : Cmd)).entry 8 ≠ 0) ∧ (bitAt (dwAt
  ((W.cmd 0x88 [(1, 2), (8, 9)] : Cmd)).entry 8) 31 = false) ∧ (sf ((W.cmd 0x88 [(1, 2), (8, 9)] : Cmd)).entry 9 4 1
  = 0) ∧ (sf ((W.cmd 0x88 [(1, 2), (8, 9)] : Cmd)).entry 9 0 2 ≠ 3) ∧ (16 ≤ (((W.of fun d => (W.run [W.cmd 0x88 [(1,
  2), (8, 9)]] d).setCtx 2
  { quires := List.replicate 16 { id := 1, asn := 1, target := .frame 0, bank := [] } })).dev.ctx (2)).outstanding)
  := by decide

theorem wit_tapArm : ((0) < 128) ∧ ((5) < 2 ^ 64) ∧ (Starts (((W.of fun d => (W.run [W.cmd 0x8B [(1, 2 + 4 * 256),
  (6, 12288), (7, 256)]] d).setCtx 2 { head := some 9 })).dev.see (({} : HostView))) (0) (5) 0x8B ((W.cmd 0x8B [(1,
  2 + 4 * 256), (6, 12288), (7, 256)] : Cmd)) = true) ∧ ((0) < 64) ∧ (sf ((W.cmd 0x8B [(1, 2 + 4 * 256), (6, 12288),
  (7, 256)] : Cmd)).entry 8 0 1 = 0) ∧ ((2) = sf ((W.cmd 0x8B [(1, 2 + 4 * 256), (6, 12288), (7, 256)] : Cmd)).entry
  1 0 8) ∧ (((W.of fun d => (W.run [W.cmd 0x8B [(1, 2 + 4 * 256), (6, 12288), (7, 256)]] d).setCtx 2
  { head := some 9 })).dev.ownsCtx ((W.cmd 0x8B [(1, 2 + 4 * 256), (6, 12288), (7, 256)] : Cmd)) (2) = true) ∧
  ((((W.of fun d => (W.run [W.cmd 0x8B [(1, 2 + 4 * 256), (6, 12288), (7, 256)]] d).setCtx 2
  { head := some 9 })).dev.ctx (2)).head.isSome = true) ∧ (Assoc.has (((W.of fun d => (W.run [W.cmd 0x8B [(1, 2 + 4
  * 256), (6, 12288), (7, 256)]] d).setCtx 2 { head := some 9 })).dev.ctx (2)).taps (sf ((W.cmd 0x8B [(1, 2 + 4 *
  256), (6, 12288), (7, 256)] : Cmd)).entry 1 16 2) = false) ∧ (sf ((W.cmd 0x8B [(1, 2 + 4 * 256), (6, 12288), (7,
  256)] : Cmd)).entry 1 8 3 ≤ 4) ∧ ([sf ((W.cmd 0x8B [(1, 2 + 4 * 256), (6, 12288), (7, 256)] : Cmd)).entry 10 0 16,
  sf ((W.cmd 0x8B [(1, 2 + 4 * 256), (6, 12288), (7, 256)] : Cmd)).entry 10 16 16, sf ((W.cmd 0x8B [(1, 2 + 4 *
  256), (6, 12288), (7, 256)] : Cmd)).entry 11 0 16, sf ((W.cmd 0x8B [(1, 2 + 4 * 256), (6, 12288), (7, 256)] :
  Cmd)).entry 11 16 16].all (fun v => v % 8 = 0) = true) ∧ (12288 ≤ dwAt ((W.cmd 0x8B [(1, 2 + 4 * 256), (6, 12288),
  (7, 256)] : Cmd)).entry 6) ∧ (dwAt ((W.cmd 0x8B [(1, 2 + 4 * 256), (6, 12288), (7, 256)] : Cmd)).entry 6 % 4096 =
  0) ∧ (sf ((W.cmd 0x8B [(1, 2 + 4 * 256), (6, 12288), (7, 256)] : Cmd)).entry 7 0 16 ≠ 0) ∧ (sf ((W.cmd 0x8B [(1, 2
  + 4 * 256), (6, 12288), (7, 256)] : Cmd)).entry 7 0 16 ≤ 256) ∧ (dw64 ((W.cmd 0x8B [(1, 2 + 4 * 256), (6, 12288),
  (7, 256)] : Cmd)).entry 2 % 4096 = 0) := by decide

theorem wit_tapDisarm : ((0) < 128) ∧ ((5) < 2 ^ 64) ∧ (Starts (((W.of fun d => (W.run [W.cmd 0x8B [(1, 2), (8, 1)]]
  d).setCtx 2
  { head := some 9, taps := [(0, { point := 0, ring := 0, slotBytes := 12288, slots := 1, decimate := 0, count := 0, x0 := 0, y0 := 0, w := 0, h := 0, part := 0, asn := 4, armedAt := 0 })] })).dev.see
  (({} : HostView))) (0) (5) 0x8B ((W.cmd 0x8B [(1, 2), (8, 1)] : Cmd)) = true) ∧ ((0) < 64) ∧ (sf ((W.cmd 0x8B [(1,
  2), (8, 1)] : Cmd)).entry 8 0 1 = 1) ∧ ((2) = sf ((W.cmd 0x8B [(1, 2), (8, 1)] : Cmd)).entry 1 0 8) ∧ (((W.of fun
  d => (W.run [W.cmd 0x8B [(1, 2), (8, 1)]] d).setCtx 2
  { head := some 9, taps := [(0, { point := 0, ring := 0, slotBytes := 12288, slots := 1, decimate := 0, count := 0, x0 := 0, y0 := 0, w := 0, h := 0, part := 0, asn := 4, armedAt := 0 })] })).dev.ownsCtx
  ((W.cmd 0x8B [(1, 2), (8, 1)] : Cmd)) (2) = true) ∧ ((((W.of fun d => (W.run [W.cmd 0x8B [(1, 2), (8, 1)]]
  d).setCtx 2
  { head := some 9, taps := [(0, { point := 0, ring := 0, slotBytes := 12288, slots := 1, decimate := 0, count := 0, x0 := 0, y0 := 0, w := 0, h := 0, part := 0, asn := 4, armedAt := 0 })] })).dev.ctx
  (2)).head.isSome = true) ∧ (Assoc.has (((W.of fun d => (W.run [W.cmd 0x8B [(1, 2), (8, 1)]] d).setCtx 2
  { head := some 9, taps := [(0, { point := 0, ring := 0, slotBytes := 12288, slots := 1, decimate := 0, count := 0, x0 := 0, y0 := 0, w := 0, h := 0, part := 0, asn := 4, armedAt := 0 })] })).dev.ctx
  (2)).taps (sf ((W.cmd 0x8B [(1, 2), (8, 1)] : Cmd)).entry 1 16 2) = true) := by decide

theorem wit_echoLimit : ((2) < 256) ∧ ((9) < 2 ^ 32) ∧ (Ready ((W.of fun d => d.setCtx 2
  { head := some 7, quires := [{ id := 9, asn := 5, target := .echo, waited := 8, bank := [] }] })).dev = true) ∧
  ((((W.of fun d => d.setCtx 2
  { head := some 7, quires := [{ id := 9, asn := 5, target := .echo, waited := 8, bank := [] }] })).dev.ctx
  (2)).quires = [(({ id := 9, asn := 5, target := .echo, waited := 8, bank := [] } : Quire))]) ∧
  ((({ id := 9, asn := 5, target := .echo, waited := 8, bank := [] } : Quire)).id = (9)) ∧
  ((({ id := 9, asn := 5, target := .echo, waited := 8, bank := [] } : Quire)).target = .echo) ∧
  ((({ id := 9, asn := 5, target := .echo, waited := 8, bank := [] } : Quire)).eff = none) ∧
  ((({ id := 9, asn := 5, target := .echo, waited := 8, bank := [] } : Quire)).again = false) ∧ ((((W.of fun d =>
  d.setCtx 2
  { head := some 7, quires := [{ id := 9, asn := 5, target := .echo, waited := 8, bank := [] }] })).dev.ctx
  (2)).head = some (7)) ∧ ((((W.of fun d => d.setCtx 2
  { head := some 7, quires := [{ id := 9, asn := 5, target := .echo, waited := 8, bank := [] }] })).dev.ctx
  (2)).limits.1 ≤ (({ id := 9, asn := 5, target := .echo, waited := 8, bank := [] } : Quire)).waited) := by decide

theorem wit_mismatchResend : ((2) < 256) ∧ (((W.of fun d => d.setCtx 2
  { head := some 7, mismatchRun := 3 })).dev.stopped = false) ∧ ((((W.of fun d => d.setCtx 2
  { head := some 7, mismatchRun := 3 })).dev.ctx (2)).head = some (7)) ∧ ((7) < 252) ∧ ((((W.of fun d => d.setCtx 2
  { head := some 7, mismatchRun := 3 })).dev.ctx (2)).limits.2 ≤ (((W.of fun d => d.setCtx 2
  { head := some 7, mismatchRun := 3 })).dev.ctx (2)).mismatchRun) := by decide

theorem wit_calibrationApply : ((0) < 128) ∧ ((5) < 2 ^ 64) ∧ (Ready ((W.of fun d =>
  { d with cap := { d.cap with calHeld := [{ part := 0, asn := 5, ctx := 2, cells := [(0, 1)] }] } })).dev = true) ∧
  (((W.of fun d =>
  { d with cap := { d.cap with calHeld := [{ part := 0, asn := 5, ctx := 2, cells := [(0, 1)] }] } })).dev.cap.calHeld
  = [(({ part := 0, asn := 5, ctx := 2, cells := [(0, 1)] } : CalWrite))]) ∧
  ((({ part := 0, asn := 5, ctx := 2, cells := [(0, 1)] } : CalWrite)).part = (0)) ∧
  ((({ part := 0, asn := 5, ctx := 2, cells := [(0, 1)] } : CalWrite)).asn = (5)) ∧ (((W.of fun d =>
  { d with cap := { d.cap with calHeld := [{ part := 0, asn := 5, ctx := 2, cells := [(0, 1)] }] } })).dev.passRuns
  (({ part := 0, asn := 5, ctx := 2, cells := [(0, 1)] } : CalWrite)).ctx = false) := by decide

theorem wit_sectionPassStart : ((7) < 256) ∧ ((5) < 2 ^ 48) ∧ (Ready ((W.of (W.framed
  { W.frame 7 1 5 with state := .ingested }))).dev = true) ∧ (((W.of (W.framed
  { W.frame 7 1 5 with state := .ingested }))).dev.frame? (frameKey (7) (5)) = some
  (({ W.frame 7 1 5 with state := .ingested } : Frame))) ∧ ((({ W.frame 7 1 5 with state := .ingested } :
  Frame)).key = frameKey (7) (5)) ∧ (((W.of (W.framed { W.frame 7 1 5 with state := .ingested }))).dev.firstReady
  (({ W.frame 7 1 5 with state := .ingested } : Frame)) = true) ∧ ((({ W.frame 7 1 5 with state := .ingested } :
  Frame)).memoryPath = false ∨ ((W.of (W.framed { W.frame 7 1 5 with state := .ingested }))).dev.chosen
  (({ W.frame 7 1 5 with state := .ingested } : Frame)) = true) := by decide

theorem wit_respinPassStart : ((7) < 256) ∧ ((5) < 2 ^ 48) ∧ (Ready ((W.of (W.framed
  { W.frame 7 1 5 with state := .ingested, pending := some ({ qid := 3 }, true) }))).dev = true) ∧ (((W.of (W.framed
  { W.frame 7 1 5 with state := .ingested, pending := some ({ qid := 3 }, true) }))).dev.cap.frames = [(frameKey (7)
  (5), (({ W.frame 7 1 5 with state := .ingested, pending := some ({ qid := 3 }, true) } : Frame)))]) ∧
  ((({ W.frame 7 1 5 with state := .ingested, pending := some ({ qid := 3 }, true) } : Frame)).key = frameKey (7)
  (5)) ∧ (((W.of (W.framed
  { W.frame 7 1 5 with state := .ingested, pending := some ({ qid := 3 }, true) }))).dev.respinReady
  (({ W.frame 7 1 5 with state := .ingested, pending := some ({ qid := 3 }, true) } : Frame)) = true) ∧
  ((({ W.frame 7 1 5 with state := .ingested, pending := some ({ qid := 3 }, true) } : Frame)).pending = some
  ((({ qid := 3 } : Gen)), true)) ∧ (((W.of (W.framed
  { W.frame 7 1 5 with state := .ingested, pending := some ({ qid := 3 }, true) }))).dev.memBusy
  (({ W.frame 7 1 5 with state := .ingested, pending := some ({ qid := 3 }, true) } : Frame)) = false) := by decide

theorem wit_sectionPassEnd : ((7) < 256) ∧ ((5) < 2 ^ 48) ∧ (Ready ((W.of (W.framed
  { W.frame 7 1 5 with state := .ingested, firstGen := some { qid := 3 } }))).dev = true) ∧ (((W.of (W.framed
  { W.frame 7 1 5 with state := .ingested, firstGen := some { qid := 3 } }))).dev.frame? (frameKey (7) (5)) = some
  (({ W.frame 7 1 5 with state := .ingested, firstGen := some { qid := 3 } } : Frame))) ∧
  ((({ W.frame 7 1 5 with state := .ingested, firstGen := some { qid := 3 } } : Frame)).key = frameKey (7) (5)) ∧
  ((({ W.frame 7 1 5 with state := .ingested, firstGen := some { qid := 3 } } : Frame)).state = .ingested) ∧
  ((({ W.frame 7 1 5 with state := .ingested, firstGen := some { qid := 3 } } : Frame)).firstGen = some
  (({ qid := 3 } : Gen))) ∧ ((({ W.frame 7 1 5 with state := .ingested, firstGen := some { qid := 3 } } :
  Frame)).firstRunning = true) := by decide

theorem wit_sectionPassEnd_respin : ((7) < 256) ∧ ((5) < 2 ^ 48) ∧ (Ready ((W.of (W.framed
  { W.frame 7 1 5 with state := .ingested, pass := some { qid := 3 } }))).dev = true) ∧ (((W.of (W.framed
  { W.frame 7 1 5 with state := .ingested, pass := some { qid := 3 } }))).dev.frame? (frameKey (7) (5)) = some
  (({ W.frame 7 1 5 with state := .ingested, pass := some { qid := 3 } } : Frame))) ∧
  ((({ W.frame 7 1 5 with state := .ingested, pass := some { qid := 3 } } : Frame)).key = frameKey (7) (5)) ∧
  ((({ W.frame 7 1 5 with state := .ingested, pass := some { qid := 3 } } : Frame)).state = .ingested) ∧
  ((({ W.frame 7 1 5 with state := .ingested, pass := some { qid := 3 } } : Frame)).pass = some (({ qid := 3 } :
  Gen))) := by decide

theorem wit_sealPoint : ((7) < 256) ∧ ((5) < 2 ^ 48) ∧ (Ready ((W.of (W.framed
  { W.frame 7 1 5 with state := .ingested }))).dev = true) ∧ (((W.of (W.framed
  { W.frame 7 1 5 with state := .ingested }))).dev.frame? (frameKey (7) (5)) = some
  (({ W.frame 7 1 5 with state := .ingested } : Frame))) ∧ ((({ W.frame 7 1 5 with state := .ingested } :
  Frame)).key = frameKey (7) (5)) ∧ ((({ W.frame 7 1 5 with state := .ingested } : Frame)).state = .ingested) ∧
  (((W.of (W.framed { W.frame 7 1 5 with state := .ingested }))).dev.assisted (Pg.ING
  (({ W.frame 7 1 5 with state := .ingested } : Frame)).ing) = false) ∧ ((({ W.frame 7 1 5 with state := .ingested }
  : Frame)).firstOut = none) ∧ ((({ W.frame 7 1 5 with state := .ingested } : Frame)).recordOnly = false) := by
  decide

theorem wit_releaseDeadline : ((7) < 256) ∧ ((5) < 2 ^ 48) ∧ (Ready ((W.of (W.framed (W.frame 7 1 5)))).dev = true)
  ∧ (((W.of (W.framed (W.frame 7 1 5)))).dev.frame? (frameKey (7) (5)) = some ((W.frame 7 1 5 : Frame))) ∧
  (((W.frame 7 1 5 : Frame)).key = frameKey (7) (5)) ∧ (((W.frame 7 1 5 : Frame)).deadlinePassed = false) ∧
  (((W.frame 7 1 5 : Frame)).state ≠ .processed) ∧ (((W.frame 7 1 5 : Frame)).state ≠ .released) ∧ (((W.of (W.framed
  (W.frame 7 1 5)))).dev.bindsOf ((W.frame 7 1 5 : Frame)) = []) := by decide

theorem wit_lutLoad : ((0) < 128) ∧ ((5) < 2 ^ 64) ∧ (Starts (((W.of (W.run [W.cmd 0x89 [(1, 3), (6,
  4096)]]))).dev.see (({} : HostView))) (0) (5) 0x89 ((W.cmd 0x89 [(1, 3), (6, 4096)] : Cmd)) = true) ∧ (sf ((W.cmd
  0x89 [(1, 3), (6, 4096)] : Cmd)).entry 1 31 1 = 0) ∧ (((W.of (W.run [W.cmd 0x89 [(1, 3), (6,
  4096)]]))).dev.ownerOf 11 (sf ((W.cmd 0x89 [(1, 3), (6, 4096)] : Cmd)).entry 1 0 9) = ((W.cmd 0x89 [(1, 3), (6,
  4096)] : Cmd)).part) ∧ (((W.of (W.run [W.cmd 0x89 [(1, 3), (6, 4096)]]))).dev.lutNamed (sf ((W.cmd 0x89 [(1, 3),
  (6, 4096)] : Cmd)).entry 1 0 9) = false) ∧ (sf ((W.cmd 0x89 [(1, 3), (6, 4096)] : Cmd)).entry 8 0 1 = 0) := by
  decide

theorem wit_lutInvalidate : ((0) < 128) ∧ ((5) < 2 ^ 64) ∧ (Starts (((W.of (W.run [W.cmd 0x89 [(1, 3), (8,
  1)]]))).dev.see (({} : HostView))) (0) (5) 0x89 ((W.cmd 0x89 [(1, 3), (8, 1)] : Cmd)) = true) ∧ (sf ((W.cmd 0x89
  [(1, 3), (8, 1)] : Cmd)).entry 1 31 1 = 0) ∧ (((W.of (W.run [W.cmd 0x89 [(1, 3), (8, 1)]]))).dev.ownerOf 11 (sf
  ((W.cmd 0x89 [(1, 3), (8, 1)] : Cmd)).entry 1 0 9) = ((W.cmd 0x89 [(1, 3), (8, 1)] : Cmd)).part) ∧ (((W.of (W.run
  [W.cmd 0x89 [(1, 3), (8, 1)]]))).dev.lutNamed (sf ((W.cmd 0x89 [(1, 3), (8, 1)] : Cmd)).entry 1 0 9) = false) ∧
  (sf ((W.cmd 0x89 [(1, 3), (8, 1)] : Cmd)).entry 8 0 1 = 1) := by decide

theorem wit_ditherLoad : ((0) < 128) ∧ ((5) < 2 ^ 64) ∧ (Starts (((W.of (W.run [W.cmd 0x89 [(1, 2 ^ 31), (6,
  8192)]]))).dev.see (({} : HostView))) (0) (5) 0x89 ((W.cmd 0x89 [(1, 2 ^ 31), (6, 8192)] : Cmd)) = true) ∧ (sf
  ((W.cmd 0x89 [(1, 2 ^ 31), (6, 8192)] : Cmd)).entry 1 31 1 = 1) ∧ (((W.cmd 0x89 [(1, 2 ^ 31), (6, 8192)] :
  Cmd)).part = 0) ∧ (dwAt ((W.cmd 0x89 [(1, 2 ^ 31), (6, 8192)] : Cmd)).entry 6 = 8192) := by decide

theorem wit_renditionSet : ((0) < 128) ∧ ((5) < 2 ^ 64) ∧ (Starts (((W.of (W.run [W.cmd 0x8C [(1, 4), (8, 2 + 0x100
  + 2 * 2 ^ 20), (9, 0), (10, 0x201), (14, 1000), (15, 1000)]]))).dev.see (({} : HostView))) (0) (5) 0x8C ((W.cmd
  0x8C [(1, 4), (8, 2 + 0x100 + 2 * 2 ^ 20), (9, 0), (10, 0x201), (14, 1000), (15, 1000)] : Cmd)) = true) ∧ (sf
  ((W.cmd 0x8C [(1, 4), (8, 2 + 0x100 + 2 * 2 ^ 20), (9, 0), (10, 0x201), (14, 1000), (15, 1000)] : Cmd)).entry 8 0
  1 = 0) ∧ ((((rendOf (W.entry 0x8C [(1, 4), (8, 2 + 0x100 + 2 * 2 ^ 20), (9, 0), (10, 0x201), (14, 1000), (15,
  1000)]) 0 1) : Rend)) = rendOf ((W.cmd 0x8C [(1, 4), (8, 2 + 0x100 + 2 * 2 ^ 20), (9, 0), (10, 0x201), (14, 1000),
  (15, 1000)] : Cmd)).entry ((W.cmd 0x8C [(1, 4), (8, 2 + 0x100 + 2 * 2 ^ 20), (9, 0), (10, 0x201), (14, 1000), (15,
  1000)] : Cmd)).part ((W.of (W.run [W.cmd 0x8C [(1, 4), (8, 2 + 0x100 + 2 * 2 ^ 20), (9, 0), (10, 0x201), (14,
  1000), (15, 1000)]]))).dev.pip.nextInst) ∧ (((W.of (W.run [W.cmd 0x8C [(1, 4), (8, 2 + 0x100 + 2 * 2 ^ 20), (9,
  0), (10, 0x201), (14, 1000), (15, 1000)]]))).dev.ownerOf 1 (((rendOf (W.entry 0x8C [(1, 4), (8, 2 + 0x100 + 2 * 2
  ^ 20), (9, 0), (10, 0x201), (14, 1000), (15, 1000)]) 0 1) : Rend)).rend = ((W.cmd 0x8C [(1, 4), (8, 2 + 0x100 + 2
  * 2 ^ 20), (9, 0), (10, 0x201), (14, 1000), (15, 1000)] : Cmd)).part) ∧ (((W.of (W.run [W.cmd 0x8C [(1, 4), (8, 2
  + 0x100 + 2 * 2 ^ 20), (9, 0), (10, 0x201), (14, 1000), (15, 1000)]]))).dev.ownsCtx ((W.cmd 0x8C [(1, 4), (8, 2 +
  0x100 + 2 * 2 ^ 20), (9, 0), (10, 0x201), (14, 1000), (15, 1000)] : Cmd)) (((rendOf (W.entry 0x8C [(1, 4), (8, 2 +
  0x100 + 2 * 2 ^ 20), (9, 0), (10, 0x201), (14, 1000), (15, 1000)]) 0 1) : Rend)).ctx = true) ∧ ((((rendOf (W.entry
  0x8C [(1, 4), (8, 2 + 0x100 + 2 * 2 ^ 20), (9, 0), (10, 0x201), (14, 1000), (15, 1000)]) 0 1) : Rend)).sinks.all
  (((W.of (W.run [W.cmd 0x8C [(1, 4), (8, 2 + 0x100 + 2 * 2 ^ 20), (9, 0), (10, 0x201), (14, 1000), (15,
  1000)]]))).dev.ownsSink ((W.cmd 0x8C [(1, 4), (8, 2 + 0x100 + 2 * 2 ^ 20), (9, 0), (10, 0x201), (14, 1000), (15,
  1000)] : Cmd)).part) = true) ∧ (((W.of (W.run [W.cmd 0x8C [(1, 4), (8, 2 + 0x100 + 2 * 2 ^ 20), (9, 0), (10,
  0x201), (14, 1000), (15, 1000)]]))).dev.rendFields (((rendOf (W.entry 0x8C [(1, 4), (8, 2 + 0x100 + 2 * 2 ^ 20),
  (9, 0), (10, 0x201), (14, 1000), (15, 1000)]) 0 1) : Rend)) = true) ∧ ((((W.of (W.run [W.cmd 0x8C [(1, 4), (8, 2 +
  0x100 + 2 * 2 ^ 20), (9, 0), (10, 0x201), (14, 1000), (15, 1000)]]))).dev.rendsHeld.filter fun y => y.rend ≠
  (((rendOf (W.entry 0x8C [(1, 4), (8, 2 + 0x100 + 2 * 2 ^ 20), (9, 0), (10, 0x201), (14, 1000), (15, 1000)]) 0 1) :
  Rend)).rend).any (fun y => y.ctx = (((rendOf (W.entry 0x8C [(1, 4), (8, 2 + 0x100 + 2 * 2 ^ 20), (9, 0), (10,
  0x201), (14, 1000), (15, 1000)]) 0 1) : Rend)).ctx && y.slot = (((rendOf (W.entry 0x8C [(1, 4), (8, 2 + 0x100 + 2
  * 2 ^ 20), (9, 0), (10, 0x201), (14, 1000), (15, 1000)]) 0 1) : Rend)).slot) = false) ∧ ((((rendOf (W.entry 0x8C
  [(1, 4), (8, 2 + 0x100 + 2 * 2 ^ 20), (9, 0), (10, 0x201), (14, 1000), (15, 1000)]) 0 1) : Rend)).sinks.all (fun y
  => y.kind < 2) = true) ∧ (((W.cmd 0x8C [(1, 4), (8, 2 + 0x100 + 2 * 2 ^ 20), (9, 0), (10, 0x201), (14, 1000), (15,
  1000)] : Cmd)).part < 64 ∨ (((rendOf (W.entry 0x8C [(1, 4), (8, 2 + 0x100 + 2 * 2 ^ 20), (9, 0), (10, 0x201), (14,
  1000), (15, 1000)]) 0 1) : Rend)).hosts = 0) ∧ (((W.of (W.run [W.cmd 0x8C [(1, 4), (8, 2 + 0x100 + 2 * 2 ^ 20),
  (9, 0), (10, 0x201), (14, 1000), (15, 1000)]]))).dev.rendCapacity (((rendOf (W.entry 0x8C [(1, 4), (8, 2 + 0x100 +
  2 * 2 ^ 20), (9, 0), (10, 0x201), (14, 1000), (15, 1000)]) 0 1) : Rend)) = true) := by decide

theorem wit_renditionDelete : ((0) < 128) ∧ ((5) < 2 ^ 64) ∧ (Starts (((W.of fun d => (fun d =>
  { d with pip := { d.pip with rends := [(4, { rend := 4, owner := 0, ctx := 1, slot := 0, petal := 2, log2 := 0, enable := true, stream := false, rate := 100, lutKib := 0, sinks := [⟨1, 0, 2⟩, ⟨0, 0, 0⟩, ⟨0, 0, 0⟩, ⟨0, 0, 0⟩], maxSrc := 1000, maxDst := 1000, ringAddr := 0, slotBytes := 0, slots := 0, inst := 1 })] } })
  (W.run [W.cmd 0x8C [(1, 4), (8, 1)]] d))).dev.see (({} : HostView))) (0) (5) 0x8C ((W.cmd 0x8C [(1, 4), (8, 1)] :
  Cmd)) = true) ∧ (sf ((W.cmd 0x8C [(1, 4), (8, 1)] : Cmd)).entry 8 0 1 = 1) ∧ (sf ((W.cmd 0x8C [(1, 4), (8, 1)] :
  Cmd)).entry 1 0 6 < 48) ∧ (((W.of fun d => (fun d =>
  { d with pip := { d.pip with rends := [(4, { rend := 4, owner := 0, ctx := 1, slot := 0, petal := 2, log2 := 0, enable := true, stream := false, rate := 100, lutKib := 0, sinks := [⟨1, 0, 2⟩, ⟨0, 0, 0⟩, ⟨0, 0, 0⟩, ⟨0, 0, 0⟩], maxSrc := 1000, maxDst := 1000, ringAddr := 0, slotBytes := 0, slots := 0, inst := 1 })] } })
  (W.run [W.cmd 0x8C [(1, 4), (8, 1)]] d))).dev.ownerOf 1 (sf ((W.cmd 0x8C [(1, 4), (8, 1)] : Cmd)).entry 1 0 6) =
  ((W.cmd 0x8C [(1, 4), (8, 1)] : Cmd)).part) ∧ (((W.of fun d => (fun d =>
  { d with pip := { d.pip with rends := [(4, { rend := 4, owner := 0, ctx := 1, slot := 0, petal := 2, log2 := 0, enable := true, stream := false, rate := 100, lutKib := 0, sinks := [⟨1, 0, 2⟩, ⟨0, 0, 0⟩, ⟨0, 0, 0⟩, ⟨0, 0, 0⟩], maxSrc := 1000, maxDst := 1000, ringAddr := 0, slotBytes := 0, slots := 0, inst := 1 })] } })
  (W.run [W.cmd 0x8C [(1, 4), (8, 1)]] d))).dev.rend? (sf ((W.cmd 0x8C [(1, 4), (8, 1)] : Cmd)).entry 1 0 6) = some
  (({ rend := 4, owner := 0, ctx := 1, slot := 0, petal := 2, log2 := 0, enable := true, stream := false, rate := 100, lutKib := 0, sinks := [⟨1, 0, 2⟩, ⟨0, 0, 0⟩, ⟨0, 0, 0⟩, ⟨0, 0, 0⟩], maxSrc := 1000, maxDst := 1000, ringAddr := 0, slotBytes := 0, slots := 0, inst := 1 }
  : Rend))) ∧ (((W.of fun d => (fun d =>
  { d with pip := { d.pip with rends := [(4, { rend := 4, owner := 0, ctx := 1, slot := 0, petal := 2, log2 := 0, enable := true, stream := false, rate := 100, lutKib := 0, sinks := [⟨1, 0, 2⟩, ⟨0, 0, 0⟩, ⟨0, 0, 0⟩, ⟨0, 0, 0⟩], maxSrc := 1000, maxDst := 1000, ringAddr := 0, slotBytes := 0, slots := 0, inst := 1 })] } })
  (W.run [W.cmd 0x8C [(1, 4), (8, 1)]] d))).dev.pip.jobs = []) ∧ (((W.of fun d => (fun d =>
  { d with pip := { d.pip with rends := [(4, { rend := 4, owner := 0, ctx := 1, slot := 0, petal := 2, log2 := 0, enable := true, stream := false, rate := 100, lutKib := 0, sinks := [⟨1, 0, 2⟩, ⟨0, 0, 0⟩, ⟨0, 0, 0⟩, ⟨0, 0, 0⟩], maxSrc := 1000, maxDst := 1000, ringAddr := 0, slotBytes := 0, slots := 0, inst := 1 })] } })
  (W.run [W.cmd 0x8C [(1, 4), (8, 1)]] d))).dev.cap.frames = []) := by decide

theorem wit_petalJobStart : ((7) < 256) ∧ ((5) < 2 ^ 48) ∧ ((4) < 48) ∧ (Ready ((W.of fun d => (fun d =>
  { d with pip := { d.pip with rends := [(4, { rend := 4, owner := 0, ctx := 1, slot := 0, petal := 2, log2 := 0, enable := true, stream := false, rate := 100, lutKib := 0, sinks := [⟨1, 0, 2⟩, ⟨0, 0, 0⟩, ⟨0, 0, 0⟩, ⟨0, 0, 0⟩], maxSrc := 1000, maxDst := 1000, ringAddr := 0, slotBytes := 0, slots := 0, inst := 1 })], jobs := [{ frame := frameKey 7 5, bind := { rend := 4, owner := 0, ctx := 1, slot := 0, petal := 2, log2 := 0, enable := true, stream := false, rate := 100, lutKib := 0, sinks := [⟨1, 0, 2⟩, ⟨0, 0, 0⟩, ⟨0, 0, 0⟩, ⟨0, 0, 0⟩], maxSrc := 1000, maxDst := 1000, ringAddr := 0, slotBytes := 0, slots := 0, inst := 1 }, gen := {}, first := false, made := 0 }] } })
  (W.framed { W.frame 7 1 5 with state := .ingested, firstOut := some {}, out := some {} } d))).dev = true) ∧
  (((W.of fun d => (fun d =>
  { d with pip := { d.pip with rends := [(4, { rend := 4, owner := 0, ctx := 1, slot := 0, petal := 2, log2 := 0, enable := true, stream := false, rate := 100, lutKib := 0, sinks := [⟨1, 0, 2⟩, ⟨0, 0, 0⟩, ⟨0, 0, 0⟩, ⟨0, 0, 0⟩], maxSrc := 1000, maxDst := 1000, ringAddr := 0, slotBytes := 0, slots := 0, inst := 1 })], jobs := [{ frame := frameKey 7 5, bind := { rend := 4, owner := 0, ctx := 1, slot := 0, petal := 2, log2 := 0, enable := true, stream := false, rate := 100, lutKib := 0, sinks := [⟨1, 0, 2⟩, ⟨0, 0, 0⟩, ⟨0, 0, 0⟩, ⟨0, 0, 0⟩], maxSrc := 1000, maxDst := 1000, ringAddr := 0, slotBytes := 0, slots := 0, inst := 1 }, gen := {}, first := false, made := 0 }] } })
  (W.framed { W.frame 7 1 5 with state := .ingested, firstOut := some {}, out := some {} } d))).dev.pip.jobs.find?
  (fun y => y.is (frameKey (7) (5)) (4) false) = some
  (({ frame := frameKey 7 5, bind := { rend := 4, owner := 0, ctx := 1, slot := 0, petal := 2, log2 := 0, enable := true, stream := false, rate := 100, lutKib := 0, sinks := [⟨1, 0, 2⟩, ⟨0, 0, 0⟩, ⟨0, 0, 0⟩, ⟨0, 0, 0⟩], maxSrc := 1000, maxDst := 1000, ringAddr := 0, slotBytes := 0, slots := 0, inst := 1 }, gen := {}, first := false, made := 0 }
  : Job))) ∧ (((W.of fun d => (fun d =>
  { d with pip := { d.pip with rends := [(4, { rend := 4, owner := 0, ctx := 1, slot := 0, petal := 2, log2 := 0, enable := true, stream := false, rate := 100, lutKib := 0, sinks := [⟨1, 0, 2⟩, ⟨0, 0, 0⟩, ⟨0, 0, 0⟩, ⟨0, 0, 0⟩], maxSrc := 1000, maxDst := 1000, ringAddr := 0, slotBytes := 0, slots := 0, inst := 1 })], jobs := [{ frame := frameKey 7 5, bind := { rend := 4, owner := 0, ctx := 1, slot := 0, petal := 2, log2 := 0, enable := true, stream := false, rate := 100, lutKib := 0, sinks := [⟨1, 0, 2⟩, ⟨0, 0, 0⟩, ⟨0, 0, 0⟩, ⟨0, 0, 0⟩], maxSrc := 1000, maxDst := 1000, ringAddr := 0, slotBytes := 0, slots := 0, inst := 1 }, gen := {}, first := false, made := 0 }] } })
  (W.framed { W.frame 7 1 5 with state := .ingested, firstOut := some {}, out := some {} } d))).dev.frame? (frameKey
  (7) (5)) = some (({ W.frame 7 1 5 with state := .ingested, firstOut := some {}, out := some {} } : Frame))) ∧
  (((W.of fun d => (fun d =>
  { d with pip := { d.pip with rends := [(4, { rend := 4, owner := 0, ctx := 1, slot := 0, petal := 2, log2 := 0, enable := true, stream := false, rate := 100, lutKib := 0, sinks := [⟨1, 0, 2⟩, ⟨0, 0, 0⟩, ⟨0, 0, 0⟩, ⟨0, 0, 0⟩], maxSrc := 1000, maxDst := 1000, ringAddr := 0, slotBytes := 0, slots := 0, inst := 1 })], jobs := [{ frame := frameKey 7 5, bind := { rend := 4, owner := 0, ctx := 1, slot := 0, petal := 2, log2 := 0, enable := true, stream := false, rate := 100, lutKib := 0, sinks := [⟨1, 0, 2⟩, ⟨0, 0, 0⟩, ⟨0, 0, 0⟩, ⟨0, 0, 0⟩], maxSrc := 1000, maxDst := 1000, ringAddr := 0, slotBytes := 0, slots := 0, inst := 1 }, gen := {}, first := false, made := 0 }] } })
  (W.framed { W.frame 7 1 5 with state := .ingested, firstOut := some {}, out := some {} } d))).dev.bindOf
  (({ W.frame 7 1 5 with state := .ingested, firstOut := some {}, out := some {} } : Frame)) (4) = some
  (({ frame := frameKey 7 5, bind := { rend := 4, owner := 0, ctx := 1, slot := 0, petal := 2, log2 := 0, enable := true, stream := false, rate := 100, lutKib := 0, sinks := [⟨1, 0, 2⟩, ⟨0, 0, 0⟩, ⟨0, 0, 0⟩, ⟨0, 0, 0⟩], maxSrc := 1000, maxDst := 1000, ringAddr := 0, slotBytes := 0, slots := 0, inst := 1 }, gen := {}, first := false, made := 0 }
  : Job)).bind) ∧
  ((({ frame := frameKey 7 5, bind := { rend := 4, owner := 0, ctx := 1, slot := 0, petal := 2, log2 := 0, enable := true, stream := false, rate := 100, lutKib := 0, sinks := [⟨1, 0, 2⟩, ⟨0, 0, 0⟩, ⟨0, 0, 0⟩, ⟨0, 0, 0⟩], maxSrc := 1000, maxDst := 1000, ringAddr := 0, slotBytes := 0, slots := 0, inst := 1 }, gen := {}, first := false, made := 0 }
  : Job)).started = false) ∧
  ((({ frame := frameKey 7 5, bind := { rend := 4, owner := 0, ctx := 1, slot := 0, petal := 2, log2 := 0, enable := true, stream := false, rate := 100, lutKib := 0, sinks := [⟨1, 0, 2⟩, ⟨0, 0, 0⟩, ⟨0, 0, 0⟩, ⟨0, 0, 0⟩], maxSrc := 1000, maxDst := 1000, ringAddr := 0, slotBytes := 0, slots := 0, inst := 1 }, gen := {}, first := false, made := 0 }
  : Job)).bind.petals =
  [(({ frame := frameKey 7 5, bind := { rend := 4, owner := 0, ctx := 1, slot := 0, petal := 2, log2 := 0, enable := true, stream := false, rate := 100, lutKib := 0, sinks := [⟨1, 0, 2⟩, ⟨0, 0, 0⟩, ⟨0, 0, 0⟩, ⟨0, 0, 0⟩], maxSrc := 1000, maxDst := 1000, ringAddr := 0, slotBytes := 0, slots := 0, inst := 1 }, gen := {}, first := false, made := 0 }
  : Job)).bind.petal]) ∧
  ((({ frame := frameKey 7 5, bind := { rend := 4, owner := 0, ctx := 1, slot := 0, petal := 2, log2 := 0, enable := true, stream := false, rate := 100, lutKib := 0, sinks := [⟨1, 0, 2⟩, ⟨0, 0, 0⟩, ⟨0, 0, 0⟩, ⟨0, 0, 0⟩], maxSrc := 1000, maxDst := 1000, ringAddr := 0, slotBytes := 0, slots := 0, inst := 1 }, gen := {}, first := false, made := 0 }
  : Job)).bind.petal < 16) ∧ (((W.of fun d => (fun d =>
  { d with pip := { d.pip with rends := [(4, { rend := 4, owner := 0, ctx := 1, slot := 0, petal := 2, log2 := 0, enable := true, stream := false, rate := 100, lutKib := 0, sinks := [⟨1, 0, 2⟩, ⟨0, 0, 0⟩, ⟨0, 0, 0⟩, ⟨0, 0, 0⟩], maxSrc := 1000, maxDst := 1000, ringAddr := 0, slotBytes := 0, slots := 0, inst := 1 })], jobs := [{ frame := frameKey 7 5, bind := { rend := 4, owner := 0, ctx := 1, slot := 0, petal := 2, log2 := 0, enable := true, stream := false, rate := 100, lutKib := 0, sinks := [⟨1, 0, 2⟩, ⟨0, 0, 0⟩, ⟨0, 0, 0⟩, ⟨0, 0, 0⟩], maxSrc := 1000, maxDst := 1000, ringAddr := 0, slotBytes := 0, slots := 0, inst := 1 }, gen := {}, first := false, made := 0 }] } })
  (W.framed { W.frame 7 1 5 with state := .ingested, firstOut := some {}, out := some {} } d))).dev.allAwake = true)
  ∧ (((W.of fun d => (fun d =>
  { d with pip := { d.pip with rends := [(4, { rend := 4, owner := 0, ctx := 1, slot := 0, petal := 2, log2 := 0, enable := true, stream := false, rate := 100, lutKib := 0, sinks := [⟨1, 0, 2⟩, ⟨0, 0, 0⟩, ⟨0, 0, 0⟩, ⟨0, 0, 0⟩], maxSrc := 1000, maxDst := 1000, ringAddr := 0, slotBytes := 0, slots := 0, inst := 1 })], jobs := [{ frame := frameKey 7 5, bind := { rend := 4, owner := 0, ctx := 1, slot := 0, petal := 2, log2 := 0, enable := true, stream := false, rate := 100, lutKib := 0, sinks := [⟨1, 0, 2⟩, ⟨0, 0, 0⟩, ⟨0, 0, 0⟩, ⟨0, 0, 0⟩], maxSrc := 1000, maxDst := 1000, ringAddr := 0, slotBytes := 0, slots := 0, inst := 1 }, gen := {}, first := false, made := 0 }] } })
  (W.framed { W.frame 7 1 5 with state := .ingested, firstOut := some {}, out := some {} } d))).dev.works (Pg.YPTA
  (({ frame := frameKey 7 5, bind := { rend := 4, owner := 0, ctx := 1, slot := 0, petal := 2, log2 := 0, enable := true, stream := false, rate := 100, lutKib := 0, sinks := [⟨1, 0, 2⟩, ⟨0, 0, 0⟩, ⟨0, 0, 0⟩, ⟨0, 0, 0⟩], maxSrc := 1000, maxDst := 1000, ringAddr := 0, slotBytes := 0, slots := 0, inst := 1 }, gen := {}, first := false, made := 0 }
  : Job)).bind.petal) = true) ∧ (((W.of fun d => (fun d =>
  { d with pip := { d.pip with rends := [(4, { rend := 4, owner := 0, ctx := 1, slot := 0, petal := 2, log2 := 0, enable := true, stream := false, rate := 100, lutKib := 0, sinks := [⟨1, 0, 2⟩, ⟨0, 0, 0⟩, ⟨0, 0, 0⟩, ⟨0, 0, 0⟩], maxSrc := 1000, maxDst := 1000, ringAddr := 0, slotBytes := 0, slots := 0, inst := 1 })], jobs := [{ frame := frameKey 7 5, bind := { rend := 4, owner := 0, ctx := 1, slot := 0, petal := 2, log2 := 0, enable := true, stream := false, rate := 100, lutKib := 0, sinks := [⟨1, 0, 2⟩, ⟨0, 0, 0⟩, ⟨0, 0, 0⟩, ⟨0, 0, 0⟩], maxSrc := 1000, maxDst := 1000, ringAddr := 0, slotBytes := 0, slots := 0, inst := 1 }, gen := {}, first := false, made := 0 }] } })
  (W.framed { W.frame 7 1 5 with state := .ingested, firstOut := some {}, out := some {} } d))).dev.jobShed
  (({ frame := frameKey 7 5, bind := { rend := 4, owner := 0, ctx := 1, slot := 0, petal := 2, log2 := 0, enable := true, stream := false, rate := 100, lutKib := 0, sinks := [⟨1, 0, 2⟩, ⟨0, 0, 0⟩, ⟨0, 0, 0⟩, ⟨0, 0, 0⟩], maxSrc := 1000, maxDst := 1000, ringAddr := 0, slotBytes := 0, slots := 0, inst := 1 }, gen := {}, first := false, made := 0 }
  : Job)) = false) ∧ (((W.of fun d => (fun d =>
  { d with pip := { d.pip with rends := [(4, { rend := 4, owner := 0, ctx := 1, slot := 0, petal := 2, log2 := 0, enable := true, stream := false, rate := 100, lutKib := 0, sinks := [⟨1, 0, 2⟩, ⟨0, 0, 0⟩, ⟨0, 0, 0⟩, ⟨0, 0, 0⟩], maxSrc := 1000, maxDst := 1000, ringAddr := 0, slotBytes := 0, slots := 0, inst := 1 })], jobs := [{ frame := frameKey 7 5, bind := { rend := 4, owner := 0, ctx := 1, slot := 0, petal := 2, log2 := 0, enable := true, stream := false, rate := 100, lutKib := 0, sinks := [⟨1, 0, 2⟩, ⟨0, 0, 0⟩, ⟨0, 0, 0⟩, ⟨0, 0, 0⟩], maxSrc := 1000, maxDst := 1000, ringAddr := 0, slotBytes := 0, slots := 0, inst := 1 }, gen := {}, first := false, made := 0 }] } })
  (W.framed { W.frame 7 1 5 with state := .ingested, firstOut := some {}, out := some {} } d))).dev.jobNext
  (({ frame := frameKey 7 5, bind := { rend := 4, owner := 0, ctx := 1, slot := 0, petal := 2, log2 := 0, enable := true, stream := false, rate := 100, lutKib := 0, sinks := [⟨1, 0, 2⟩, ⟨0, 0, 0⟩, ⟨0, 0, 0⟩, ⟨0, 0, 0⟩], maxSrc := 1000, maxDst := 1000, ringAddr := 0, slotBytes := 0, slots := 0, inst := 1 }, gen := {}, first := false, made := 0 }
  : Job)) = true) ∧ (Render.usesLut
  (({ frame := frameKey 7 5, bind := { rend := 4, owner := 0, ctx := 1, slot := 0, petal := 2, log2 := 0, enable := true, stream := false, rate := 100, lutKib := 0, sinks := [⟨1, 0, 2⟩, ⟨0, 0, 0⟩, ⟨0, 0, 0⟩, ⟨0, 0, 0⟩], maxSrc := 1000, maxDst := 1000, ringAddr := 0, slotBytes := 0, slots := 0, inst := 1 }, gen := {}, first := false, made := 0 }
  : Job)).gen.bank
  (({ frame := frameKey 7 5, bind := { rend := 4, owner := 0, ctx := 1, slot := 0, petal := 2, log2 := 0, enable := true, stream := false, rate := 100, lutKib := 0, sinks := [⟨1, 0, 2⟩, ⟨0, 0, 0⟩, ⟨0, 0, 0⟩, ⟨0, 0, 0⟩], maxSrc := 1000, maxDst := 1000, ringAddr := 0, slotBytes := 0, slots := 0, inst := 1 }, gen := {}, first := false, made := 0 }
  : Job)).bind.slot = false) ∧ (0 < (((W.of fun d => (fun d =>
  { d with pip := { d.pip with rends := [(4, { rend := 4, owner := 0, ctx := 1, slot := 0, petal := 2, log2 := 0, enable := true, stream := false, rate := 100, lutKib := 0, sinks := [⟨1, 0, 2⟩, ⟨0, 0, 0⟩, ⟨0, 0, 0⟩, ⟨0, 0, 0⟩], maxSrc := 1000, maxDst := 1000, ringAddr := 0, slotBytes := 0, slots := 0, inst := 1 })], jobs := [{ frame := frameKey 7 5, bind := { rend := 4, owner := 0, ctx := 1, slot := 0, petal := 2, log2 := 0, enable := true, stream := false, rate := 100, lutKib := 0, sinks := [⟨1, 0, 2⟩, ⟨0, 0, 0⟩, ⟨0, 0, 0⟩, ⟨0, 0, 0⟩], maxSrc := 1000, maxDst := 1000, ringAddr := 0, slotBytes := 0, slots := 0, inst := 1 }, gen := {}, first := false, made := 0 }] } })
  (W.framed { W.frame 7 1 5 with state := .ingested, firstOut := some {}, out := some {} } d))).dev.jobSizes
  (({ frame := frameKey 7 5, bind := { rend := 4, owner := 0, ctx := 1, slot := 0, petal := 2, log2 := 0, enable := true, stream := false, rate := 100, lutKib := 0, sinks := [⟨1, 0, 2⟩, ⟨0, 0, 0⟩, ⟨0, 0, 0⟩, ⟨0, 0, 0⟩], maxSrc := 1000, maxDst := 1000, ringAddr := 0, slotBytes := 0, slots := 0, inst := 1 }, gen := {}, first := false, made := 0 }
  : Job))).1) ∧ (0 < (((W.of fun d => (fun d =>
  { d with pip := { d.pip with rends := [(4, { rend := 4, owner := 0, ctx := 1, slot := 0, petal := 2, log2 := 0, enable := true, stream := false, rate := 100, lutKib := 0, sinks := [⟨1, 0, 2⟩, ⟨0, 0, 0⟩, ⟨0, 0, 0⟩, ⟨0, 0, 0⟩], maxSrc := 1000, maxDst := 1000, ringAddr := 0, slotBytes := 0, slots := 0, inst := 1 })], jobs := [{ frame := frameKey 7 5, bind := { rend := 4, owner := 0, ctx := 1, slot := 0, petal := 2, log2 := 0, enable := true, stream := false, rate := 100, lutKib := 0, sinks := [⟨1, 0, 2⟩, ⟨0, 0, 0⟩, ⟨0, 0, 0⟩, ⟨0, 0, 0⟩], maxSrc := 1000, maxDst := 1000, ringAddr := 0, slotBytes := 0, slots := 0, inst := 1 }, gen := {}, first := false, made := 0 }] } })
  (W.framed { W.frame 7 1 5 with state := .ingested, firstOut := some {}, out := some {} } d))).dev.jobSizes
  (({ frame := frameKey 7 5, bind := { rend := 4, owner := 0, ctx := 1, slot := 0, petal := 2, log2 := 0, enable := true, stream := false, rate := 100, lutKib := 0, sinks := [⟨1, 0, 2⟩, ⟨0, 0, 0⟩, ⟨0, 0, 0⟩, ⟨0, 0, 0⟩], maxSrc := 1000, maxDst := 1000, ringAddr := 0, slotBytes := 0, slots := 0, inst := 1 }, gen := {}, first := false, made := 0 }
  : Job))).2.1) ∧ ((((W.of fun d => (fun d =>
  { d with pip := { d.pip with rends := [(4, { rend := 4, owner := 0, ctx := 1, slot := 0, petal := 2, log2 := 0, enable := true, stream := false, rate := 100, lutKib := 0, sinks := [⟨1, 0, 2⟩, ⟨0, 0, 0⟩, ⟨0, 0, 0⟩, ⟨0, 0, 0⟩], maxSrc := 1000, maxDst := 1000, ringAddr := 0, slotBytes := 0, slots := 0, inst := 1 })], jobs := [{ frame := frameKey 7 5, bind := { rend := 4, owner := 0, ctx := 1, slot := 0, petal := 2, log2 := 0, enable := true, stream := false, rate := 100, lutKib := 0, sinks := [⟨1, 0, 2⟩, ⟨0, 0, 0⟩, ⟨0, 0, 0⟩, ⟨0, 0, 0⟩], maxSrc := 1000, maxDst := 1000, ringAddr := 0, slotBytes := 0, slots := 0, inst := 1 }, gen := {}, first := false, made := 0 }] } })
  (W.framed { W.frame 7 1 5 with state := .ingested, firstOut := some {}, out := some {} } d))).dev.jobSizes
  (({ frame := frameKey 7 5, bind := { rend := 4, owner := 0, ctx := 1, slot := 0, petal := 2, log2 := 0, enable := true, stream := false, rate := 100, lutKib := 0, sinks := [⟨1, 0, 2⟩, ⟨0, 0, 0⟩, ⟨0, 0, 0⟩, ⟨0, 0, 0⟩], maxSrc := 1000, maxDst := 1000, ringAddr := 0, slotBytes := 0, slots := 0, inst := 1 }, gen := {}, first := false, made := 0 }
  : Job))).1 * (((W.of fun d => (fun d =>
  { d with pip := { d.pip with rends := [(4, { rend := 4, owner := 0, ctx := 1, slot := 0, petal := 2, log2 := 0, enable := true, stream := false, rate := 100, lutKib := 0, sinks := [⟨1, 0, 2⟩, ⟨0, 0, 0⟩, ⟨0, 0, 0⟩, ⟨0, 0, 0⟩], maxSrc := 1000, maxDst := 1000, ringAddr := 0, slotBytes := 0, slots := 0, inst := 1 })], jobs := [{ frame := frameKey 7 5, bind := { rend := 4, owner := 0, ctx := 1, slot := 0, petal := 2, log2 := 0, enable := true, stream := false, rate := 100, lutKib := 0, sinks := [⟨1, 0, 2⟩, ⟨0, 0, 0⟩, ⟨0, 0, 0⟩, ⟨0, 0, 0⟩], maxSrc := 1000, maxDst := 1000, ringAddr := 0, slotBytes := 0, slots := 0, inst := 1 }, gen := {}, first := false, made := 0 }] } })
  (W.framed { W.frame 7 1 5 with state := .ingested, firstOut := some {}, out := some {} } d))).dev.jobSizes
  (({ frame := frameKey 7 5, bind := { rend := 4, owner := 0, ctx := 1, slot := 0, petal := 2, log2 := 0, enable := true, stream := false, rate := 100, lutKib := 0, sinks := [⟨1, 0, 2⟩, ⟨0, 0, 0⟩, ⟨0, 0, 0⟩, ⟨0, 0, 0⟩], maxSrc := 1000, maxDst := 1000, ringAddr := 0, slotBytes := 0, slots := 0, inst := 1 }, gen := {}, first := false, made := 0 }
  : Job))).2.1 ≤
  (({ frame := frameKey 7 5, bind := { rend := 4, owner := 0, ctx := 1, slot := 0, petal := 2, log2 := 0, enable := true, stream := false, rate := 100, lutKib := 0, sinks := [⟨1, 0, 2⟩, ⟨0, 0, 0⟩, ⟨0, 0, 0⟩, ⟨0, 0, 0⟩], maxSrc := 1000, maxDst := 1000, ringAddr := 0, slotBytes := 0, slots := 0, inst := 1 }, gen := {}, first := false, made := 0 }
  : Job)).bind.maxSrc) ∧ ((((W.of fun d => (fun d =>
  { d with pip := { d.pip with rends := [(4, { rend := 4, owner := 0, ctx := 1, slot := 0, petal := 2, log2 := 0, enable := true, stream := false, rate := 100, lutKib := 0, sinks := [⟨1, 0, 2⟩, ⟨0, 0, 0⟩, ⟨0, 0, 0⟩, ⟨0, 0, 0⟩], maxSrc := 1000, maxDst := 1000, ringAddr := 0, slotBytes := 0, slots := 0, inst := 1 })], jobs := [{ frame := frameKey 7 5, bind := { rend := 4, owner := 0, ctx := 1, slot := 0, petal := 2, log2 := 0, enable := true, stream := false, rate := 100, lutKib := 0, sinks := [⟨1, 0, 2⟩, ⟨0, 0, 0⟩, ⟨0, 0, 0⟩, ⟨0, 0, 0⟩], maxSrc := 1000, maxDst := 1000, ringAddr := 0, slotBytes := 0, slots := 0, inst := 1 }, gen := {}, first := false, made := 0 }] } })
  (W.framed { W.frame 7 1 5 with state := .ingested, firstOut := some {}, out := some {} } d))).dev.jobSizes
  (({ frame := frameKey 7 5, bind := { rend := 4, owner := 0, ctx := 1, slot := 0, petal := 2, log2 := 0, enable := true, stream := false, rate := 100, lutKib := 0, sinks := [⟨1, 0, 2⟩, ⟨0, 0, 0⟩, ⟨0, 0, 0⟩, ⟨0, 0, 0⟩], maxSrc := 1000, maxDst := 1000, ringAddr := 0, slotBytes := 0, slots := 0, inst := 1 }, gen := {}, first := false, made := 0 }
  : Job))).2.2.1 * (((W.of fun d => (fun d =>
  { d with pip := { d.pip with rends := [(4, { rend := 4, owner := 0, ctx := 1, slot := 0, petal := 2, log2 := 0, enable := true, stream := false, rate := 100, lutKib := 0, sinks := [⟨1, 0, 2⟩, ⟨0, 0, 0⟩, ⟨0, 0, 0⟩, ⟨0, 0, 0⟩], maxSrc := 1000, maxDst := 1000, ringAddr := 0, slotBytes := 0, slots := 0, inst := 1 })], jobs := [{ frame := frameKey 7 5, bind := { rend := 4, owner := 0, ctx := 1, slot := 0, petal := 2, log2 := 0, enable := true, stream := false, rate := 100, lutKib := 0, sinks := [⟨1, 0, 2⟩, ⟨0, 0, 0⟩, ⟨0, 0, 0⟩, ⟨0, 0, 0⟩], maxSrc := 1000, maxDst := 1000, ringAddr := 0, slotBytes := 0, slots := 0, inst := 1 }, gen := {}, first := false, made := 0 }] } })
  (W.framed { W.frame 7 1 5 with state := .ingested, firstOut := some {}, out := some {} } d))).dev.jobSizes
  (({ frame := frameKey 7 5, bind := { rend := 4, owner := 0, ctx := 1, slot := 0, petal := 2, log2 := 0, enable := true, stream := false, rate := 100, lutKib := 0, sinks := [⟨1, 0, 2⟩, ⟨0, 0, 0⟩, ⟨0, 0, 0⟩, ⟨0, 0, 0⟩], maxSrc := 1000, maxDst := 1000, ringAddr := 0, slotBytes := 0, slots := 0, inst := 1 }, gen := {}, first := false, made := 0 }
  : Job))).2.2.2 ≤
  (({ frame := frameKey 7 5, bind := { rend := 4, owner := 0, ctx := 1, slot := 0, petal := 2, log2 := 0, enable := true, stream := false, rate := 100, lutKib := 0, sinks := [⟨1, 0, 2⟩, ⟨0, 0, 0⟩, ⟨0, 0, 0⟩, ⟨0, 0, 0⟩], maxSrc := 1000, maxDst := 1000, ringAddr := 0, slotBytes := 0, slots := 0, inst := 1 }, gen := {}, first := false, made := 0 }
  : Job)).bind.maxDst) := by decide

theorem wit_petalJobEnd : ((7) < 256) ∧ ((5) < 2 ^ 48) ∧ ((4) < 48) ∧ (Ready ((W.of fun d => (fun d =>
  { d with pip := { d.pip with rends := [(4, { rend := 4, owner := 0, ctx := 1, slot := 0, petal := 2, log2 := 0, enable := true, stream := false, rate := 100, lutKib := 0, sinks := [⟨1, 0, 2⟩, ⟨0, 0, 0⟩, ⟨0, 0, 0⟩, ⟨0, 0, 0⟩], maxSrc := 1000, maxDst := 1000, ringAddr := 0, slotBytes := 0, slots := 0, inst := 1 })], jobs := [{ frame := frameKey 7 5, bind := { rend := 4, owner := 0, ctx := 1, slot := 0, petal := 2, log2 := 0, enable := true, stream := false, rate := 100, lutKib := 0, sinks := [⟨1, 0, 2⟩, ⟨0, 0, 0⟩, ⟨0, 0, 0⟩, ⟨0, 0, 0⟩], maxSrc := 1000, maxDst := 1000, ringAddr := 0, slotBytes := 0, slots := 0, inst := 1 }, gen := {}, first := false, made := 0, started := true }] } })
  (W.framed { W.frame 7 1 5 with state := .ingested, firstOut := some {}, out := some {} } d))).dev = true) ∧
  (((W.of fun d => (fun d =>
  { d with pip := { d.pip with rends := [(4, { rend := 4, owner := 0, ctx := 1, slot := 0, petal := 2, log2 := 0, enable := true, stream := false, rate := 100, lutKib := 0, sinks := [⟨1, 0, 2⟩, ⟨0, 0, 0⟩, ⟨0, 0, 0⟩, ⟨0, 0, 0⟩], maxSrc := 1000, maxDst := 1000, ringAddr := 0, slotBytes := 0, slots := 0, inst := 1 })], jobs := [{ frame := frameKey 7 5, bind := { rend := 4, owner := 0, ctx := 1, slot := 0, petal := 2, log2 := 0, enable := true, stream := false, rate := 100, lutKib := 0, sinks := [⟨1, 0, 2⟩, ⟨0, 0, 0⟩, ⟨0, 0, 0⟩, ⟨0, 0, 0⟩], maxSrc := 1000, maxDst := 1000, ringAddr := 0, slotBytes := 0, slots := 0, inst := 1 }, gen := {}, first := false, made := 0, started := true }] } })
  (W.framed { W.frame 7 1 5 with state := .ingested, firstOut := some {}, out := some {} } d))).dev.pip.jobs.find?
  (fun y => y.is (frameKey (7) (5)) (4) false) = some
  (({ frame := frameKey 7 5, bind := { rend := 4, owner := 0, ctx := 1, slot := 0, petal := 2, log2 := 0, enable := true, stream := false, rate := 100, lutKib := 0, sinks := [⟨1, 0, 2⟩, ⟨0, 0, 0⟩, ⟨0, 0, 0⟩, ⟨0, 0, 0⟩], maxSrc := 1000, maxDst := 1000, ringAddr := 0, slotBytes := 0, slots := 0, inst := 1 }, gen := {}, first := false, made := 0, started := true }
  : Job))) ∧ (((W.of fun d => (fun d =>
  { d with pip := { d.pip with rends := [(4, { rend := 4, owner := 0, ctx := 1, slot := 0, petal := 2, log2 := 0, enable := true, stream := false, rate := 100, lutKib := 0, sinks := [⟨1, 0, 2⟩, ⟨0, 0, 0⟩, ⟨0, 0, 0⟩, ⟨0, 0, 0⟩], maxSrc := 1000, maxDst := 1000, ringAddr := 0, slotBytes := 0, slots := 0, inst := 1 })], jobs := [{ frame := frameKey 7 5, bind := { rend := 4, owner := 0, ctx := 1, slot := 0, petal := 2, log2 := 0, enable := true, stream := false, rate := 100, lutKib := 0, sinks := [⟨1, 0, 2⟩, ⟨0, 0, 0⟩, ⟨0, 0, 0⟩, ⟨0, 0, 0⟩], maxSrc := 1000, maxDst := 1000, ringAddr := 0, slotBytes := 0, slots := 0, inst := 1 }, gen := {}, first := false, made := 0, started := true }] } })
  (W.framed { W.frame 7 1 5 with state := .ingested, firstOut := some {}, out := some {} } d))).dev.frame? (frameKey
  (7) (5)) = some (({ W.frame 7 1 5 with state := .ingested, firstOut := some {}, out := some {} } : Frame))) ∧
  ((({ W.frame 7 1 5 with state := .ingested, firstOut := some {}, out := some {} } : Frame)).key = frameKey (7)
  (5)) ∧ ((({ W.frame 7 1 5 with state := .ingested, firstOut := some {}, out := some {} } : Frame)).hdr.cid = (5))
  ∧
  ((({ frame := frameKey 7 5, bind := { rend := 4, owner := 0, ctx := 1, slot := 0, petal := 2, log2 := 0, enable := true, stream := false, rate := 100, lutKib := 0, sinks := [⟨1, 0, 2⟩, ⟨0, 0, 0⟩, ⟨0, 0, 0⟩, ⟨0, 0, 0⟩], maxSrc := 1000, maxDst := 1000, ringAddr := 0, slotBytes := 0, slots := 0, inst := 1 }, gen := {}, first := false, made := 0, started := true }
  : Job)).started = true) ∧ ((({ W.frame 7 1 5 with state := .ingested, firstOut := some {}, out := some {} } :
  Frame)).out = some (({} : PassOut))) ∧
  ((({ frame := frameKey 7 5, bind := { rend := 4, owner := 0, ctx := 1, slot := 0, petal := 2, log2 := 0, enable := true, stream := false, rate := 100, lutKib := 0, sinks := [⟨1, 0, 2⟩, ⟨0, 0, 0⟩, ⟨0, 0, 0⟩, ⟨0, 0, 0⟩], maxSrc := 1000, maxDst := 1000, ringAddr := 0, slotBytes := 0, slots := 0, inst := 1 }, gen := {}, first := false, made := 0, started := true }
  : Job)).is (frameKey (7) (5)) (4) false = true) := by decide

theorem wit_frcCompress : ((0) < 128) ∧ ((5) < 2 ^ 64) ∧ (Starts (((W.of (W.run
  [{ { W.cmd 0x92 [(6, 4096), (7, 65536), (8, 2 * 16 + 12 * 256), (9, 7 + 3 * 2 ^ 16), (10, 16)] with phase := .running } with phase := .waiting }]))).dev.see
  (({} : HostView))) (0) (5) 0x92
  (({ { W.cmd 0x92 [(6, 4096), (7, 65536), (8, 2 * 16 + 12 * 256), (9, 7 + 3 * 2 ^ 16), (10, 16)] with phase := .running } with phase := .waiting }
  : Cmd)) = true) ∧ (sf
  (({ { W.cmd 0x92 [(6, 4096), (7, 65536), (8, 2 * 16 + 12 * 256), (9, 7 + 3 * 2 ^ 16), (10, 16)] with phase := .running } with phase := .waiting }
  : Cmd)).entry 8 0 1 = 0) ∧ ((frcJob
  (({ { W.cmd 0x92 [(6, 4096), (7, 65536), (8, 2 * 16 + 12 * 256), (9, 7 + 3 * 2 ^ 16), (10, 16)] with phase := .running } with phase := .waiting }
  : Cmd))).valid = true) ∧ ((frcJob
  (({ { W.cmd 0x92 [(6, 4096), (7, 65536), (8, 2 * 16 + 12 * 256), (9, 7 + 3 * 2 ^ 16), (10, 16)] with phase := .running } with phase := .waiting }
  : Cmd))).inSize ≤ (frcJob
  (({ { W.cmd 0x92 [(6, 4096), (7, 65536), (8, 2 * 16 + 12 * 256), (9, 7 + 3 * 2 ^ 16), (10, 16)] with phase := .running } with phase := .waiting }
  : Cmd))).src) ∧ ((frcJob
  (({ { W.cmd 0x92 [(6, 4096), (7, 65536), (8, 2 * 16 + 12 * 256), (9, 7 + 3 * 2 ^ 16), (10, 16)] with phase := .running } with phase := .waiting }
  : Cmd))).outSize ≤ (frcJob
  (({ { W.cmd 0x92 [(6, 4096), (7, 65536), (8, 2 * 16 + 12 * 256), (9, 7 + 3 * 2 ^ 16), (10, 16)] with phase := .running } with phase := .waiting }
  : Cmd))).dst) := by decide

theorem wit_frcCompress_space : ((0) < 128) ∧ ((5) < 2 ^ 64) ∧ (Starts (((W.of (W.run [W.cmd 0x92 [(6, 4096), (7,
  6), (8, 2 * 16 + 12 * 256), (9, 7 + 3 * 2 ^ 16), (10, 16)]]))).dev.see (({} : HostView))) (0) (5) 0x92 ((W.cmd
  0x92 [(6, 4096), (7, 6), (8, 2 * 16 + 12 * 256), (9, 7 + 3 * 2 ^ 16), (10, 16)] : Cmd)) = true) ∧ (sf ((W.cmd 0x92
  [(6, 4096), (7, 6), (8, 2 * 16 + 12 * 256), (9, 7 + 3 * 2 ^ 16), (10, 16)] : Cmd)).entry 8 0 1 = 0) ∧ ((frcJob
  ((W.cmd 0x92 [(6, 4096), (7, 6), (8, 2 * 16 + 12 * 256), (9, 7 + 3 * 2 ^ 16), (10, 16)] : Cmd))).valid = true) ∧
  ((frcJob ((W.cmd 0x92 [(6, 4096), (7, 6), (8, 2 * 16 + 12 * 256), (9, 7 + 3 * 2 ^ 16), (10, 16)] : Cmd))).inSize ≤
  (frcJob ((W.cmd 0x92 [(6, 4096), (7, 6), (8, 2 * 16 + 12 * 256), (9, 7 + 3 * 2 ^ 16), (10, 16)] : Cmd))).src) ∧
  ((frcJob ((W.cmd 0x92 [(6, 4096), (7, 6), (8, 2 * 16 + 12 * 256), (9, 7 + 3 * 2 ^ 16), (10, 16)] : Cmd))).dst <
  (frcJob ((W.cmd 0x92 [(6, 4096), (7, 6), (8, 2 * 16 + 12 * 256), (9, 7 + 3 * 2 ^ 16), (10, 16)] : Cmd))).outSize)
  := by decide

theorem wit_frcExpand : ((0) < 128) ∧ ((5) < 2 ^ 64) ∧ (Starts (((W.of (W.run
  [{ { W.cmd 0x92 [(6, 4096), (7, 65536), (8, 1 + 2 * 16 + 12 * 256), (9, 7 + 3 * 2 ^ 16), (10, 16)] with phase := .running } with phase := .waiting }]))).dev.see
  (({} : HostView))) (0) (5) 0x92
  (({ { W.cmd 0x92 [(6, 4096), (7, 65536), (8, 1 + 2 * 16 + 12 * 256), (9, 7 + 3 * 2 ^ 16), (10, 16)] with phase := .running } with phase := .waiting }
  : Cmd)) = true) ∧ (sf
  (({ { W.cmd 0x92 [(6, 4096), (7, 65536), (8, 1 + 2 * 16 + 12 * 256), (9, 7 + 3 * 2 ^ 16), (10, 16)] with phase := .running } with phase := .waiting }
  : Cmd)).entry 8 0 1 = 1) ∧ ((frcJob
  (({ { W.cmd 0x92 [(6, 4096), (7, 65536), (8, 1 + 2 * 16 + 12 * 256), (9, 7 + 3 * 2 ^ 16), (10, 16)] with phase := .running } with phase := .waiting }
  : Cmd))).valid = true) ∧ ((frcJob
  (({ { W.cmd 0x92 [(6, 4096), (7, 65536), (8, 1 + 2 * 16 + 12 * 256), (9, 7 + 3 * 2 ^ 16), (10, 16)] with phase := .running } with phase := .waiting }
  : Cmd))).inSize ≤ (frcJob
  (({ { W.cmd 0x92 [(6, 4096), (7, 65536), (8, 1 + 2 * 16 + 12 * 256), (9, 7 + 3 * 2 ^ 16), (10, 16)] with phase := .running } with phase := .waiting }
  : Cmd))).src) ∧ ((frcJob
  (({ { W.cmd 0x92 [(6, 4096), (7, 65536), (8, 1 + 2 * 16 + 12 * 256), (9, 7 + 3 * 2 ^ 16), (10, 16)] with phase := .running } with phase := .waiting }
  : Cmd))).outSize ≤ (frcJob
  (({ { W.cmd 0x92 [(6, 4096), (7, 65536), (8, 1 + 2 * 16 + 12 * 256), (9, 7 + 3 * 2 ^ 16), (10, 16)] with phase := .running } with phase := .waiting }
  : Cmd))).dst) := by decide

theorem wit_frcJobStart : ((3) < 8) ∧ ((0) < 64) ∧ ((5) < 2 ^ 64) ∧ (Ready ((W.of (W.run
  [{ W.cmd 0x92 [(6, 4096), (7, 65536), (8, 2 * 16 + 12 * 256), (9, 7 + 3 * 2 ^ 16), (10, 16)] with phase := .running }]))).dev
  = true) ∧ (((W.of (W.run
  [{ W.cmd 0x92 [(6, 4096), (7, 65536), (8, 2 * 16 + 12 * 256), (9, 7 + 3 * 2 ^ 16), (10, 16)] with phase := .running }]))).dev.allAwake
  = true) ∧ (((W.of (W.run
  [{ W.cmd 0x92 [(6, 4096), (7, 65536), (8, 2 * 16 + 12 * 256), (9, 7 + 3 * 2 ^ 16), (10, 16)] with phase := .running }]))).dev.cmd?
  (0) (5) = some
  (({ W.cmd 0x92 [(6, 4096), (7, 65536), (8, 2 * 16 + 12 * 256), (9, 7 + 3 * 2 ^ 16), (10, 16)] with phase := .running }
  : Cmd))) ∧
  ((({ W.cmd 0x92 [(6, 4096), (7, 65536), (8, 2 * 16 + 12 * 256), (9, 7 + 3 * 2 ^ 16), (10, 16)] with phase := .running }
  : Cmd)) ∈ ((W.of (W.run
  [{ W.cmd 0x92 [(6, 4096), (7, 65536), (8, 2 * 16 + 12 * 256), (9, 7 + 3 * 2 ^ 16), (10, 16)] with phase := .running }]))).dev.frcQueue)
  ∧ (((W.of (W.run
  [{ W.cmd 0x92 [(6, 4096), (7, 65536), (8, 2 * 16 + 12 * 256), (9, 7 + 3 * 2 ^ 16), (10, 16)] with phase := .running }]))).dev.engine?
  (3) = none) ∧ (((W.of (W.run
  [{ W.cmd 0x92 [(6, 4096), (7, 65536), (8, 2 * 16 + 12 * 256), (9, 7 + 3 * 2 ^ 16), (10, 16)] with phase := .running }]))).dev.works
  (Pg.FRC (3)) = true) ∧ (((W.of (W.run
  [{ W.cmd 0x92 [(6, 4096), (7, 65536), (8, 2 * 16 + 12 * 256), (9, 7 + 3 * 2 ^ 16), (10, 16)] with phase := .running }]))).dev.shed
  = 0) ∧ (((W.of (W.run
  [{ W.cmd 0x92 [(6, 4096), (7, 65536), (8, 2 * 16 + 12 * 256), (9, 7 + 3 * 2 ^ 16), (10, 16)] with phase := .running }]))).dev.frcQueue.any
  (fun y => (frcJob y).cls = (frcJob
  (({ W.cmd 0x92 [(6, 4096), (7, 65536), (8, 2 * 16 + 12 * 256), (9, 7 + 3 * 2 ^ 16), (10, 16)] with phase := .running }
  : Cmd))).cls && y.asn <
  (({ W.cmd 0x92 [(6, 4096), (7, 65536), (8, 2 * 16 + 12 * 256), (9, 7 + 3 * 2 ^ 16), (10, 16)] with phase := .running }
  : Cmd)).asn) = false) ∧ (((W.of (W.run
  [{ W.cmd 0x92 [(6, 4096), (7, 65536), (8, 2 * 16 + 12 * 256), (9, 7 + 3 * 2 ^ 16), (10, 16)] with phase := .running }]))).dev.takeQueue
  = []) ∧ (((W.of (W.run
  [{ W.cmd 0x92 [(6, 4096), (7, 65536), (8, 2 * 16 + 12 * 256), (9, 7 + 3 * 2 ^ 16), (10, 16)] with phase := .running }]))).dev.pip.reservedJobs
  = []) := by decide

theorem wit_frcJobEnd : ((3) < 8) ∧ ((([] : List Nat)).all (fun b => b < 2 ^ 32) = true) ∧ (Ready ((W.of fun d =>
  (fun d => { d with pip := { d.pip with engines := [(3, .job 0 5)] } }) (W.run
  [{ W.cmd 0x92 [(6, 4096), (7, 65536), (8, 1 + 2 * 16 + 12 * 256), (9, 7 + 3 * 2 ^ 16), (10, 16)] with phase := .running }]
  d))).dev = true) ∧ (((W.of fun d => (fun d => { d with pip := { d.pip with engines := [(3, .job 0 5)] } }) (W.run
  [{ W.cmd 0x92 [(6, 4096), (7, 65536), (8, 1 + 2 * 16 + 12 * 256), (9, 7 + 3 * 2 ^ 16), (10, 16)] with phase := .running }]
  d))).dev.engine? (3) = some (.job (0) (5))) ∧ (((W.of fun d => (fun d =>
  { d with pip := { d.pip with engines := [(3, .job 0 5)] } }) (W.run
  [{ W.cmd 0x92 [(6, 4096), (7, 65536), (8, 1 + 2 * 16 + 12 * 256), (9, 7 + 3 * 2 ^ 16), (10, 16)] with phase := .running }]
  d))).dev.cmd? (0) (5) = some
  (({ W.cmd 0x92 [(6, 4096), (7, 65536), (8, 1 + 2 * 16 + 12 * 256), (9, 7 + 3 * 2 ^ 16), (10, 16)] with phase := .running }
  : Cmd))) ∧
  ((({ W.cmd 0x92 [(6, 4096), (7, 65536), (8, 1 + 2 * 16 + 12 * 256), (9, 7 + 3 * 2 ^ 16), (10, 16)] with phase := .running }
  : Cmd)).part = (0)) ∧
  ((({ W.cmd 0x92 [(6, 4096), (7, 65536), (8, 1 + 2 * 16 + 12 * 256), (9, 7 + 3 * 2 ^ 16), (10, 16)] with phase := .running }
  : Cmd)).asn = (5)) ∧ ((0) < 64) := by decide

theorem wit_frcCodingStart : ((3) < 8) ∧ ((7) < 256) ∧ ((5) < 2 ^ 48) ∧ (Ready ((W.of fun d =>
  { d with pip := { d.pip with takes := [(1, { set := 0, takeId := 77, ctx := 1, owner := 0, ratio := 2, dyn := false, startMode := 0, planes := 3, base := 0, maxFrames := 10, shape := [2, 2, 12, 2, 2, 1, 0, 7], frames := [{ index := 0, frame := frameKey 7 5, cid := 5, coding := .waiting }] })] } })).dev
  = true) ∧ (((W.of fun d =>
  { d with pip := { d.pip with takes := [(1, { set := 0, takeId := 77, ctx := 1, owner := 0, ratio := 2, dyn := false, startMode := 0, planes := 3, base := 0, maxFrames := 10, shape := [2, 2, 12, 2, 2, 1, 0, 7], frames := [{ index := 0, frame := frameKey 7 5, cid := 5, coding := .waiting }] })] } })).dev.allAwake
  = true) ∧ (((W.of fun d =>
  { d with pip := { d.pip with takes := [(1, { set := 0, takeId := 77, ctx := 1, owner := 0, ratio := 2, dyn := false, startMode := 0, planes := 3, base := 0, maxFrames := 10, shape := [2, 2, 12, 2, 2, 1, 0, 7], frames := [{ index := 0, frame := frameKey 7 5, cid := 5, coding := .waiting }] })] } })).dev.takeOf
  (frameKey (7) (5)) = some ((1),
  (({ set := 0, takeId := 77, ctx := 1, owner := 0, ratio := 2, dyn := false, startMode := 0, planes := 3, base := 0, maxFrames := 10, shape := [2, 2, 12, 2, 2, 1, 0, 7], frames := [{ index := 0, frame := frameKey 7 5, cid := 5, coding := .waiting }] }
  : Take)), (({ index := 0, frame := frameKey 7 5, cid := 5, coding := .waiting } : TakeFrame)))) ∧ (((W.of fun d =>
  { d with pip := { d.pip with takes := [(1, { set := 0, takeId := 77, ctx := 1, owner := 0, ratio := 2, dyn := false, startMode := 0, planes := 3, base := 0, maxFrames := 10, shape := [2, 2, 12, 2, 2, 1, 0, 7], frames := [{ index := 0, frame := frameKey 7 5, cid := 5, coding := .waiting }] })] } })).dev.take?
  (1) = some
  (({ set := 0, takeId := 77, ctx := 1, owner := 0, ratio := 2, dyn := false, startMode := 0, planes := 3, base := 0, maxFrames := 10, shape := [2, 2, 12, 2, 2, 1, 0, 7], frames := [{ index := 0, frame := frameKey 7 5, cid := 5, coding := .waiting }] }
  : Take))) ∧ ((({ index := 0, frame := frameKey 7 5, cid := 5, coding := .waiting } : TakeFrame)).frame = frameKey
  (7) (5)) ∧ ((({ index := 0, frame := frameKey 7 5, cid := 5, coding := .waiting } : TakeFrame)).coding = .waiting)
  ∧ (((W.of fun d =>
  { d with pip := { d.pip with takes := [(1, { set := 0, takeId := 77, ctx := 1, owner := 0, ratio := 2, dyn := false, startMode := 0, planes := 3, base := 0, maxFrames := 10, shape := [2, 2, 12, 2, 2, 1, 0, 7], frames := [{ index := 0, frame := frameKey 7 5, cid := 5, coding := .waiting }] })] } })).dev.engine?
  (3) = none) ∧ (((W.of fun d =>
  { d with pip := { d.pip with takes := [(1, { set := 0, takeId := 77, ctx := 1, owner := 0, ratio := 2, dyn := false, startMode := 0, planes := 3, base := 0, maxFrames := 10, shape := [2, 2, 12, 2, 2, 1, 0, 7], frames := [{ index := 0, frame := frameKey 7 5, cid := 5, coding := .waiting }] })] } })).dev.works
  (Pg.FRC (3)) = true) := by decide

theorem wit_frcCodingEnd : ((3) < 8) ∧ ((([] : List Nat)).all (fun b => b < 2 ^ 32) = true) ∧ (Ready ((W.of fun d =>
  (fun d =>
  { d with pip := { d.pip with engines := [(3, .take 1 0)], takes := [(1, { set := 0, takeId := 77, ctx := 1, owner := 0, ratio := 2, dyn := false, startMode := 0, planes := 3, base := 0, maxFrames := 10, shape := [2, 2, 12, 2, 2, 1, 0, 7], frames := [{ index := 0, frame := frameKey 7 5, cid := 5, coding := .coding 3 }] })] } })
  (W.framed { W.frame 7 1 5 with state := .ingested } d))).dev = true) ∧ (((W.of fun d => (fun d =>
  { d with pip := { d.pip with engines := [(3, .take 1 0)], takes := [(1, { set := 0, takeId := 77, ctx := 1, owner := 0, ratio := 2, dyn := false, startMode := 0, planes := 3, base := 0, maxFrames := 10, shape := [2, 2, 12, 2, 2, 1, 0, 7], frames := [{ index := 0, frame := frameKey 7 5, cid := 5, coding := .coding 3 }] })] } })
  (W.framed { W.frame 7 1 5 with state := .ingested } d))).dev.engine? (3) = some (.take (1) (0))) ∧ (((W.of fun d
  => (fun d =>
  { d with pip := { d.pip with engines := [(3, .take 1 0)], takes := [(1, { set := 0, takeId := 77, ctx := 1, owner := 0, ratio := 2, dyn := false, startMode := 0, planes := 3, base := 0, maxFrames := 10, shape := [2, 2, 12, 2, 2, 1, 0, 7], frames := [{ index := 0, frame := frameKey 7 5, cid := 5, coding := .coding 3 }] })] } })
  (W.framed { W.frame 7 1 5 with state := .ingested } d))).dev.take? (1) = some
  (({ set := 0, takeId := 77, ctx := 1, owner := 0, ratio := 2, dyn := false, startMode := 0, planes := 3, base := 0, maxFrames := 10, shape := [2, 2, 12, 2, 2, 1, 0, 7], frames := [{ index := 0, frame := frameKey 7 5, cid := 5, coding := .coding 3 }] }
  : Take))) ∧
  ((({ set := 0, takeId := 77, ctx := 1, owner := 0, ratio := 2, dyn := false, startMode := 0, planes := 3, base := 0, maxFrames := 10, shape := [2, 2, 12, 2, 2, 1, 0, 7], frames := [{ index := 0, frame := frameKey 7 5, cid := 5, coding := .coding 3 }] }
  : Take)).frames.find? (fun z => z.index = (0)) = some
  (({ index := 0, frame := frameKey 7 5, cid := 5, coding := .coding 3 } : TakeFrame))) ∧ (((W.of fun d => (fun d =>
  { d with pip := { d.pip with engines := [(3, .take 1 0)], takes := [(1, { set := 0, takeId := 77, ctx := 1, owner := 0, ratio := 2, dyn := false, startMode := 0, planes := 3, base := 0, maxFrames := 10, shape := [2, 2, 12, 2, 2, 1, 0, 7], frames := [{ index := 0, frame := frameKey 7 5, cid := 5, coding := .coding 3 }] })] } })
  (W.framed { W.frame 7 1 5 with state := .ingested } d))).dev.frame?
  (({ index := 0, frame := frameKey 7 5, cid := 5, coding := .coding 3 } : TakeFrame)).frame = some
  (({ W.frame 7 1 5 with state := .ingested } : Frame))) ∧ ((({ W.frame 7 1 5 with state := .ingested } :
  Frame)).state = .ingested) := by decide

theorem wit_rice : 7 ≤ 7 ∧ 131070 ≤ 2 ^ 17 - 2 := by decide

theorem wit_msb : 5 < 2 ^ 3 := by decide

theorem wit_plain : [[65535, 0, 7], [1, 2, 3]].length = 2 ∧ [[65535, 0, 7], [1, 2, 3]].all (fun y => y.length = 3 && y.all fun v => v < 2 ^ 16) = true := by decide

theorem wit_takeOpen : ((0) < 128) ∧ ((5) < 2 ^ 64) ∧ (Starts (((W.of fun d => (fun d => (fun d =>
  { d with pip := { d.pip with takes := [] } }) (d.setSset 0
  { setId := 1, n := 2, members := [0, 1, 2], live := [0, 1, 2], stripes := 640, extents := [(0, 0)], indexed := true }))
  ((W.run [W.cmd 0x84 [(1, 0x100), (8, 77), (10, 2), (14, 10)]] d).setSetReg 0 Reg.STR.STATE 2))).dev.see (({} :
  HostView))) (0) (5) 0x84 ((W.cmd 0x84 [(1, 0x100), (8, 77), (10, 2), (14, 10)] : Cmd)) = true) ∧ (((W.of fun d =>
  (fun d => (fun d => { d with pip := { d.pip with takes := [] } }) (d.setSset 0
  { setId := 1, n := 2, members := [0, 1, 2], live := [0, 1, 2], stripes := 640, extents := [(0, 0)], indexed := true }))
  ((W.run [W.cmd 0x84 [(1, 0x100), (8, 77), (10, 2), (14, 10)]] d).setSetReg 0 Reg.STR.STATE 2))).dev.ownerOf 7 (sf
  ((W.cmd 0x84 [(1, 0x100), (8, 77), (10, 2), (14, 10)] : Cmd)).entry 1 0 3) = ((W.cmd 0x84 [(1, 0x100), (8, 77),
  (10, 2), (14, 10)] : Cmd)).part) ∧ (((W.of fun d => (fun d => (fun d =>
  { d with pip := { d.pip with takes := [] } }) (d.setSset 0
  { setId := 1, n := 2, members := [0, 1, 2], live := [0, 1, 2], stripes := 640, extents := [(0, 0)], indexed := true }))
  ((W.run [W.cmd 0x84 [(1, 0x100), (8, 77), (10, 2), (14, 10)]] d).setSetReg 0 Reg.STR.STATE 2))).dev.ctxOwner (sf
  ((W.cmd 0x84 [(1, 0x100), (8, 77), (10, 2), (14, 10)] : Cmd)).entry 1 8 8) = ((W.cmd 0x84 [(1, 0x100), (8, 77),
  (10, 2), (14, 10)] : Cmd)).part) ∧ (((takeRends ((W.cmd 0x84 [(1, 0x100), (8, 77), (10, 2), (14, 10)] :
  Cmd)).entry).any fun r => r < 48 && ((W.of fun d => (fun d => (fun d =>
  { d with pip := { d.pip with takes := [] } }) (d.setSset 0
  { setId := 1, n := 2, members := [0, 1, 2], live := [0, 1, 2], stripes := 640, extents := [(0, 0)], indexed := true }))
  ((W.run [W.cmd 0x84 [(1, 0x100), (8, 77), (10, 2), (14, 10)]] d).setSetReg 0 Reg.STR.STATE 2))).dev.ownerOf 1 r ≠
  ((W.cmd 0x84 [(1, 0x100), (8, 77), (10, 2), (14, 10)] : Cmd)).part) = false) ∧ (((W.of fun d => (fun d => (fun d
  => { d with pip := { d.pip with takes := [] } }) (d.setSset 0
  { setId := 1, n := 2, members := [0, 1, 2], live := [0, 1, 2], stripes := 640, extents := [(0, 0)], indexed := true }))
  ((W.run [W.cmd 0x84 [(1, 0x100), (8, 77), (10, 2), (14, 10)]] d).setSetReg 0 Reg.STR.STATE 2))).dev.takeFields
  ((W.cmd 0x84 [(1, 0x100), (8, 77), (10, 2), (14, 10)] : Cmd)) = true) ∧ (((W.of fun d => (fun d => (fun d =>
  { d with pip := { d.pip with takes := [] } }) (d.setSset 0
  { setId := 1, n := 2, members := [0, 1, 2], live := [0, 1, 2], stripes := 640, extents := [(0, 0)], indexed := true }))
  ((W.run [W.cmd 0x84 [(1, 0x100), (8, 77), (10, 2), (14, 10)]] d).setSetReg 0 Reg.STR.STATE 2))).dev.takeById (sf
  ((W.cmd 0x84 [(1, 0x100), (8, 77), (10, 2), (14, 10)] : Cmd)).entry 1 0 3) (dw64 ((W.cmd 0x84 [(1, 0x100), (8,
  77), (10, 2), (14, 10)] : Cmd)).entry 8) = none) ∧ (((W.of fun d => (fun d => (fun d =>
  { d with pip := { d.pip with takes := [] } }) (d.setSset 0
  { setId := 1, n := 2, members := [0, 1, 2], live := [0, 1, 2], stripes := 640, extents := [(0, 0)], indexed := true }))
  ((W.run [W.cmd 0x84 [(1, 0x100), (8, 77), (10, 2), (14, 10)]] d).setSetReg 0 Reg.STR.STATE 2))).dev.openTake (sf
  ((W.cmd 0x84 [(1, 0x100), (8, 77), (10, 2), (14, 10)] : Cmd)).entry 1 8 8) = none) ∧ (((W.of fun d => (fun d =>
  (fun d => { d with pip := { d.pip with takes := [] } }) (d.setSset 0
  { setId := 1, n := 2, members := [0, 1, 2], live := [0, 1, 2], stripes := 640, extents := [(0, 0)], indexed := true }))
  ((W.run [W.cmd 0x84 [(1, 0x100), (8, 77), (10, 2), (14, 10)]] d).setSetReg 0 Reg.STR.STATE 2))).dev.setUp (sf
  ((W.cmd 0x84 [(1, 0x100), (8, 77), (10, 2), (14, 10)] : Cmd)).entry 1 0 3) = true) ∧ (((W.of fun d => (fun d =>
  (fun d => { d with pip := { d.pip with takes := [] } }) (d.setSset 0
  { setId := 1, n := 2, members := [0, 1, 2], live := [0, 1, 2], stripes := 640, extents := [(0, 0)], indexed := true }))
  ((W.run [W.cmd 0x84 [(1, 0x100), (8, 77), (10, 2), (14, 10)]] d).setSetReg 0 Reg.STR.STATE 2))).dev.fltRange (dwAt
  ((W.cmd 0x84 [(1, 0x100), (8, 77), (10, 2), (14, 10)] : Cmd)).entry 14 * (3 + (takeRends ((W.cmd 0x84 [(1, 0x100),
  (8, 77), (10, 2), (14, 10)] : Cmd)).entry).length)) = some (0)) ∧ (((W.of fun d => (fun d => (fun d =>
  { d with pip := { d.pip with takes := [] } }) (d.setSset 0
  { setId := 1, n := 2, members := [0, 1, 2], live := [0, 1, 2], stripes := 640, extents := [(0, 0)], indexed := true }))
  ((W.run [W.cmd 0x84 [(1, 0x100), (8, 77), (10, 2), (14, 10)]] d).setSetReg 0 Reg.STR.STATE 2))).dev.takeRate (sf
  ((W.cmd 0x84 [(1, 0x100), (8, 77), (10, 2), (14, 10)] : Cmd)).entry 1 8 8) + ((W.of fun d => (fun d => (fun d =>
  { d with pip := { d.pip with takes := [] } }) (d.setSset 0
  { setId := 1, n := 2, members := [0, 1, 2], live := [0, 1, 2], stripes := 640, extents := [(0, 0)], indexed := true }))
  ((W.run [W.cmd 0x84 [(1, 0x100), (8, 77), (10, 2), (14, 10)]] d).setSetReg 0 Reg.STR.STATE 2))).dev.takeLoad +
  ((W.of fun d => (fun d => (fun d => { d with pip := { d.pip with takes := [] } }) (d.setSset 0
  { setId := 1, n := 2, members := [0, 1, 2], live := [0, 1, 2], stripes := 640, extents := [(0, 0)], indexed := true }))
  ((W.run [W.cmd 0x84 [(1, 0x100), (8, 77), (10, 2), (14, 10)]] d).setSetReg 0 Reg.STR.STATE 2))).dev.classLoad *
  10000 ≤ 40000000) := by decide

theorem wit_takeClose : ((0) < 128) ∧ ((5) < 2 ^ 64) ∧ (Starts (((W.of fun d => (fun d => (fun d =>
  { d with pip := { d.pip with takes := [(1, { set := 0, takeId := 77, ctx := 1, owner := 0, ratio := 2, dyn := false, startMode := 0, planes := 3, base := 0, maxFrames := 10, shape := [2, 2, 12, 2, 2, 1, 0, 7], frames := [{ index := 0, frame := frameKey 7 5, cid := 5 }] })] } })
  (d.setSset 0
  { setId := 1, n := 2, members := [0, 1, 2], live := [0, 1, 2], stripes := 640, extents := [(0, 0)], indexed := true }))
  ((W.run [W.cmd 0x85 [(8, 77)]] d).setSetReg 0 Reg.STR.STATE 2))).dev.see (({} : HostView))) (0) (5) 0x85 ((W.cmd
  0x85 [(8, 77)] : Cmd)) = true) ∧ (sf ((W.cmd 0x85 [(8, 77)] : Cmd)).entry 10 0 2 = 0) ∧ (((W.of fun d => (fun d =>
  (fun d =>
  { d with pip := { d.pip with takes := [(1, { set := 0, takeId := 77, ctx := 1, owner := 0, ratio := 2, dyn := false, startMode := 0, planes := 3, base := 0, maxFrames := 10, shape := [2, 2, 12, 2, 2, 1, 0, 7], frames := [{ index := 0, frame := frameKey 7 5, cid := 5 }] })] } })
  (d.setSset 0
  { setId := 1, n := 2, members := [0, 1, 2], live := [0, 1, 2], stripes := 640, extents := [(0, 0)], indexed := true }))
  ((W.run [W.cmd 0x85 [(8, 77)]] d).setSetReg 0 Reg.STR.STATE 2))).dev.ownerOf 7 (sf ((W.cmd 0x85 [(8, 77)] :
  Cmd)).entry 1 0 3) = ((W.cmd 0x85 [(8, 77)] : Cmd)).part) ∧ (((W.of fun d => (fun d => (fun d =>
  { d with pip := { d.pip with takes := [(1, { set := 0, takeId := 77, ctx := 1, owner := 0, ratio := 2, dyn := false, startMode := 0, planes := 3, base := 0, maxFrames := 10, shape := [2, 2, 12, 2, 2, 1, 0, 7], frames := [{ index := 0, frame := frameKey 7 5, cid := 5 }] })] } })
  (d.setSset 0
  { setId := 1, n := 2, members := [0, 1, 2], live := [0, 1, 2], stripes := 640, extents := [(0, 0)], indexed := true }))
  ((W.run [W.cmd 0x85 [(8, 77)]] d).setSetReg 0 Reg.STR.STATE 2))).dev.setUp (sf ((W.cmd 0x85 [(8, 77)] :
  Cmd)).entry 1 0 3) = true) ∧ (((W.of fun d => (fun d => (fun d =>
  { d with pip := { d.pip with takes := [(1, { set := 0, takeId := 77, ctx := 1, owner := 0, ratio := 2, dyn := false, startMode := 0, planes := 3, base := 0, maxFrames := 10, shape := [2, 2, 12, 2, 2, 1, 0, 7], frames := [{ index := 0, frame := frameKey 7 5, cid := 5 }] })] } })
  (d.setSset 0
  { setId := 1, n := 2, members := [0, 1, 2], live := [0, 1, 2], stripes := 640, extents := [(0, 0)], indexed := true }))
  ((W.run [W.cmd 0x85 [(8, 77)]] d).setSetReg 0 Reg.STR.STATE 2))).dev.takeById (sf ((W.cmd 0x85 [(8, 77)] :
  Cmd)).entry 1 0 3) (dw64 ((W.cmd 0x85 [(8, 77)] : Cmd)).entry 8) = some ((1),
  (({ set := 0, takeId := 77, ctx := 1, owner := 0, ratio := 2, dyn := false, startMode := 0, planes := 3, base := 0, maxFrames := 10, shape := [2, 2, 12, 2, 2, 1, 0, 7], frames := [{ index := 0, frame := frameKey 7 5, cid := 5 }] }
  : Take)))) ∧
  ((({ set := 0, takeId := 77, ctx := 1, owner := 0, ratio := 2, dyn := false, startMode := 0, planes := 3, base := 0, maxFrames := 10, shape := [2, 2, 12, 2, 2, 1, 0, 7], frames := [{ index := 0, frame := frameKey 7 5, cid := 5 }] }
  : Take)).state = 0) ∧
  ((({ set := 0, takeId := 77, ctx := 1, owner := 0, ratio := 2, dyn := false, startMode := 0, planes := 3, base := 0, maxFrames := 10, shape := [2, 2, 12, 2, 2, 1, 0, 7], frames := [{ index := 0, frame := frameKey 7 5, cid := 5 }] }
  : Take)).frames ≠ []) := by decide

theorem wit_takeErase : ((0) < 128) ∧ ((5) < 2 ^ 64) ∧ (Starts (((W.of fun d => (fun d => (fun d =>
  { d with pip := { d.pip with takes := [(1, { set := 0, takeId := 77, ctx := 1, owner := 0, ratio := 2, dyn := false, startMode := 0, planes := 3, base := 0, maxFrames := 10, shape := [2, 2, 12, 2, 2, 1, 0, 7], state := 1, extents := [3] })] } })
  (d.setSset 0
  { setId := 1, n := 2, members := [0, 1, 2], live := [0, 1, 2], stripes := 640, extents := [(0, 0)], indexed := true }))
  ((W.run [W.cmd 0x85 [(8, 77), (10, 2)]] d).setSetReg 0 Reg.STR.STATE 2))).dev.see (({} : HostView))) (0) (5) 0x85
  ((W.cmd 0x85 [(8, 77), (10, 2)] : Cmd)) = true) ∧ (sf ((W.cmd 0x85 [(8, 77), (10, 2)] : Cmd)).entry 10 0 2 = 2) ∧
  (((W.of fun d => (fun d => (fun d =>
  { d with pip := { d.pip with takes := [(1, { set := 0, takeId := 77, ctx := 1, owner := 0, ratio := 2, dyn := false, startMode := 0, planes := 3, base := 0, maxFrames := 10, shape := [2, 2, 12, 2, 2, 1, 0, 7], state := 1, extents := [3] })] } })
  (d.setSset 0
  { setId := 1, n := 2, members := [0, 1, 2], live := [0, 1, 2], stripes := 640, extents := [(0, 0)], indexed := true }))
  ((W.run [W.cmd 0x85 [(8, 77), (10, 2)]] d).setSetReg 0 Reg.STR.STATE 2))).dev.ownerOf 7 (sf ((W.cmd 0x85 [(8, 77),
  (10, 2)] : Cmd)).entry 1 0 3) = ((W.cmd 0x85 [(8, 77), (10, 2)] : Cmd)).part) ∧ (((W.of fun d => (fun d => (fun d
  =>
  { d with pip := { d.pip with takes := [(1, { set := 0, takeId := 77, ctx := 1, owner := 0, ratio := 2, dyn := false, startMode := 0, planes := 3, base := 0, maxFrames := 10, shape := [2, 2, 12, 2, 2, 1, 0, 7], state := 1, extents := [3] })] } })
  (d.setSset 0
  { setId := 1, n := 2, members := [0, 1, 2], live := [0, 1, 2], stripes := 640, extents := [(0, 0)], indexed := true }))
  ((W.run [W.cmd 0x85 [(8, 77), (10, 2)]] d).setSetReg 0 Reg.STR.STATE 2))).dev.setUp (sf ((W.cmd 0x85 [(8, 77),
  (10, 2)] : Cmd)).entry 1 0 3) = true) ∧ (((W.of fun d => (fun d => (fun d =>
  { d with pip := { d.pip with takes := [(1, { set := 0, takeId := 77, ctx := 1, owner := 0, ratio := 2, dyn := false, startMode := 0, planes := 3, base := 0, maxFrames := 10, shape := [2, 2, 12, 2, 2, 1, 0, 7], state := 1, extents := [3] })] } })
  (d.setSset 0
  { setId := 1, n := 2, members := [0, 1, 2], live := [0, 1, 2], stripes := 640, extents := [(0, 0)], indexed := true }))
  ((W.run [W.cmd 0x85 [(8, 77), (10, 2)]] d).setSetReg 0 Reg.STR.STATE 2))).dev.takeById (sf ((W.cmd 0x85 [(8, 77),
  (10, 2)] : Cmd)).entry 1 0 3) (dw64 ((W.cmd 0x85 [(8, 77), (10, 2)] : Cmd)).entry 8) = some ((1),
  (({ set := 0, takeId := 77, ctx := 1, owner := 0, ratio := 2, dyn := false, startMode := 0, planes := 3, base := 0, maxFrames := 10, shape := [2, 2, 12, 2, 2, 1, 0, 7], state := 1, extents := [3] }
  : Take)))) ∧
  ((({ set := 0, takeId := 77, ctx := 1, owner := 0, ratio := 2, dyn := false, startMode := 0, planes := 3, base := 0, maxFrames := 10, shape := [2, 2, 12, 2, 2, 1, 0, 7], state := 1, extents := [3] }
  : Take)).state = 1) := by decide

theorem wit_frameRead : ((0) < 128) ∧ ((5) < 2 ^ 64) ∧ (Starts (((W.of fun d => (fun d => (fun d =>
  { d with pip := { d.pip with takes := [(1, { set := 0, takeId := 77, ctx := 1, owner := 0, ratio := 2, dyn := false, startMode := 0, planes := 3, base := 0, maxFrames := 10, shape := [2, 2, 12, 2, 2, 1, 0, 7], count := 2 })] } })
  (d.setSset 0
  { setId := 1, n := 2, members := [0, 1, 2], live := [0, 1, 2], stripes := 640, extents := [(0, 0)], indexed := true }))
  ((W.run [W.cmd 0x83 [(6, 4096), (8, 77), (11, 15), (13, 32)]] d).setSetReg 0 Reg.STR.STATE 2))).dev.see (({} :
  HostView))) (0) (5) 0x83 ((W.cmd 0x83 [(6, 4096), (8, 77), (11, 15), (13, 32)] : Cmd)) = true) ∧ (((W.of fun d =>
  (fun d => (fun d =>
  { d with pip := { d.pip with takes := [(1, { set := 0, takeId := 77, ctx := 1, owner := 0, ratio := 2, dyn := false, startMode := 0, planes := 3, base := 0, maxFrames := 10, shape := [2, 2, 12, 2, 2, 1, 0, 7], count := 2 })] } })
  (d.setSset 0
  { setId := 1, n := 2, members := [0, 1, 2], live := [0, 1, 2], stripes := 640, extents := [(0, 0)], indexed := true }))
  ((W.run [W.cmd 0x83 [(6, 4096), (8, 77), (11, 15), (13, 32)]] d).setSetReg 0 Reg.STR.STATE 2))).dev.ownerOf 7 (sf
  ((W.cmd 0x83 [(6, 4096), (8, 77), (11, 15), (13, 32)] : Cmd)).entry 1 0 3) = ((W.cmd 0x83 [(6, 4096), (8, 77),
  (11, 15), (13, 32)] : Cmd)).part) ∧ (((W.of fun d => (fun d => (fun d =>
  { d with pip := { d.pip with takes := [(1, { set := 0, takeId := 77, ctx := 1, owner := 0, ratio := 2, dyn := false, startMode := 0, planes := 3, base := 0, maxFrames := 10, shape := [2, 2, 12, 2, 2, 1, 0, 7], count := 2 })] } })
  (d.setSset 0
  { setId := 1, n := 2, members := [0, 1, 2], live := [0, 1, 2], stripes := 640, extents := [(0, 0)], indexed := true }))
  ((W.run [W.cmd 0x83 [(6, 4096), (8, 77), (11, 15), (13, 32)]] d).setSetReg 0 Reg.STR.STATE 2))).dev.setUp (sf
  ((W.cmd 0x83 [(6, 4096), (8, 77), (11, 15), (13, 32)] : Cmd)).entry 1 0 3) = true) ∧ (((W.of fun d => (fun d =>
  (fun d =>
  { d with pip := { d.pip with takes := [(1, { set := 0, takeId := 77, ctx := 1, owner := 0, ratio := 2, dyn := false, startMode := 0, planes := 3, base := 0, maxFrames := 10, shape := [2, 2, 12, 2, 2, 1, 0, 7], count := 2 })] } })
  (d.setSset 0
  { setId := 1, n := 2, members := [0, 1, 2], live := [0, 1, 2], stripes := 640, extents := [(0, 0)], indexed := true }))
  ((W.run [W.cmd 0x83 [(6, 4096), (8, 77), (11, 15), (13, 32)]] d).setSetReg 0 Reg.STR.STATE 2))).dev.shed = 0) ∧
  (((W.of fun d => (fun d => (fun d =>
  { d with pip := { d.pip with takes := [(1, { set := 0, takeId := 77, ctx := 1, owner := 0, ratio := 2, dyn := false, startMode := 0, planes := 3, base := 0, maxFrames := 10, shape := [2, 2, 12, 2, 2, 1, 0, 7], count := 2 })] } })
  (d.setSset 0
  { setId := 1, n := 2, members := [0, 1, 2], live := [0, 1, 2], stripes := 640, extents := [(0, 0)], indexed := true }))
  ((W.run [W.cmd 0x83 [(6, 4096), (8, 77), (11, 15), (13, 32)]] d).setSetReg 0 Reg.STR.STATE 2))).dev.takeById (sf
  ((W.cmd 0x83 [(6, 4096), (8, 77), (11, 15), (13, 32)] : Cmd)).entry 1 0 3) (dw64 ((W.cmd 0x83 [(6, 4096), (8, 77),
  (11, 15), (13, 32)] : Cmd)).entry 8) = some ((1),
  (({ set := 0, takeId := 77, ctx := 1, owner := 0, ratio := 2, dyn := false, startMode := 0, planes := 3, base := 0, maxFrames := 10, shape := [2, 2, 12, 2, 2, 1, 0, 7], count := 2 }
  : Take)))) ∧ ((((W.of fun d => (fun d => (fun d =>
  { d with pip := { d.pip with takes := [(1, { set := 0, takeId := 77, ctx := 1, owner := 0, ratio := 2, dyn := false, startMode := 0, planes := 3, base := 0, maxFrames := 10, shape := [2, 2, 12, 2, 2, 1, 0, 7], count := 2 })] } })
  (d.setSset 0
  { setId := 1, n := 2, members := [0, 1, 2], live := [0, 1, 2], stripes := 640, extents := [(0, 0)], indexed := true }))
  ((W.run [W.cmd 0x83 [(6, 4096), (8, 77), (11, 15), (13, 32)]] d).setSetReg 0 Reg.STR.STATE 2))).dev.sset (sf
  ((W.cmd 0x83 [(6, 4096), (8, 77), (11, 15), (13, 32)] : Cmd)).entry 1 0 3)).indexed = true) ∧ ((((W.of fun d =>
  (fun d => (fun d =>
  { d with pip := { d.pip with takes := [(1, { set := 0, takeId := 77, ctx := 1, owner := 0, ratio := 2, dyn := false, startMode := 0, planes := 3, base := 0, maxFrames := 10, shape := [2, 2, 12, 2, 2, 1, 0, 7], count := 2 })] } })
  (d.setSset 0
  { setId := 1, n := 2, members := [0, 1, 2], live := [0, 1, 2], stripes := 640, extents := [(0, 0)], indexed := true }))
  ((W.run [W.cmd 0x83 [(6, 4096), (8, 77), (11, 15), (13, 32)]] d).setSetReg 0 Reg.STR.STATE 2))).dev.readPlan
  ((W.cmd 0x83 [(6, 4096), (8, 77), (11, 15), (13, 32)] : Cmd))
  ((({ set := 0, takeId := 77, ctx := 1, owner := 0, ratio := 2, dyn := false, startMode := 0, planes := 3, base := 0, maxFrames := 10, shape := [2, 2, 12, 2, 2, 1, 0, 7], count := 2 }
  : Take)).atFrame (dwAt ((W.cmd 0x83 [(6, 4096), (8, 77), (11, 15), (13, 32)] : Cmd)).entry 10))).toOption = some
  (({ entry := {}, off := 0, len := 32, decode := false, conceal := false, table := true } : ReadPlan))) := by
  decide

theorem wit_stripeWrite : ((0) < 8) ∧ ((0) < 2 ^ 32) ∧ (((W.of fun d => (fun d => (fun d =>
  { d with pip := { d.pip with places := [{ set := 0, addr := 4096, bytes := [1], part := 0, asn := 5 }] } })
  (d.setSset 0
  { setId := 1, n := 2, members := [0, 1, 2], live := [0, 1, 2], stripes := 640, extents := [(0, 0)], indexed := true }))
  ((d).setSetReg 0 Reg.STR.STATE 2))).dev.stopped = false) ∧ (((W.of fun d => (fun d => (fun d =>
  { d with pip := { d.pip with places := [{ set := 0, addr := 4096, bytes := [1], part := 0, asn := 5 }] } })
  (d.setSset 0
  { setId := 1, n := 2, members := [0, 1, 2], live := [0, 1, 2], stripes := 640, extents := [(0, 0)], indexed := true }))
  ((d).setSetReg 0 Reg.STR.STATE 2))).dev.allAwake = true) ∧ (((W.of fun d => (fun d => (fun d =>
  { d with pip := { d.pip with places := [{ set := 0, addr := 4096, bytes := [1], part := 0, asn := 5 }] } })
  (d.setSset 0
  { setId := 1, n := 2, members := [0, 1, 2], live := [0, 1, 2], stripes := 640, extents := [(0, 0)], indexed := true }))
  ((d).setSetReg 0 Reg.STR.STATE 2))).dev.setUp (0) = true) ∧ (((W.of fun d => (fun d => (fun d =>
  { d with pip := { d.pip with places := [{ set := 0, addr := 4096, bytes := [1], part := 0, asn := 5 }] } })
  (d.setSset 0
  { setId := 1, n := 2, members := [0, 1, 2], live := [0, 1, 2], stripes := 640, extents := [(0, 0)], indexed := true }))
  ((d).setSetReg 0 Reg.STR.STATE 2))).dev.going (0) (0) = []) ∧ (((W.of fun d => (fun d => (fun d =>
  { d with pip := { d.pip with places := [{ set := 0, addr := 4096, bytes := [1], part := 0, asn := 5 }] } })
  (d.setSset 0
  { setId := 1, n := 2, members := [0, 1, 2], live := [0, 1, 2], stripes := 640, extents := [(0, 0)], indexed := true }))
  ((d).setSetReg 0 Reg.STR.STATE 2))).dev.pip.places.any (fun y => y.set = (0) && y.addr / ((((W.of fun d => (fun d
  => (fun d =>
  { d with pip := { d.pip with places := [{ set := 0, addr := 4096, bytes := [1], part := 0, asn := 5 }] } })
  (d.setSset 0
  { setId := 1, n := 2, members := [0, 1, 2], live := [0, 1, 2], stripes := 640, extents := [(0, 0)], indexed := true }))
  ((d).setSetReg 0 Reg.STR.STATE 2))).dev.sset (0)).n * PAY) = (0)) = true) ∧ (((W.of fun d => (fun d => (fun d =>
  { d with pip := { d.pip with places := [{ set := 0, addr := 4096, bytes := [1], part := 0, asn := 5 }] } })
  (d.setSset 0
  { setId := 1, n := 2, members := [0, 1, 2], live := [0, 1, 2], stripes := 640, extents := [(0, 0)], indexed := true }))
  ((d).setSetReg 0 Reg.STR.STATE 2))).dev.pip.takes = []) := by decide

theorem wit_stripeDurable : ((0) < 8) ∧ ((0) < 2 ^ 32) ∧ (((W.of fun d => (fun d => (fun d =>
  { d with pip := { d.pip with places := [{ set := 0, addr := 4096, bytes := [1], part := 0, asn := 5, going := true }, { set := 0, addr := 8388608, bytes := [2], part := 0, asn := 6 }] } })
  (d.setSset 0
  { setId := 1, n := 2, members := [0, 1, 2], live := [0, 1, 2], stripes := 640, extents := [(0, 0)], indexed := true }))
  ((d).setSetReg 0 Reg.STR.STATE 2))).dev.stopped = false) ∧ (((W.of fun d => (fun d => (fun d =>
  { d with pip := { d.pip with places := [{ set := 0, addr := 4096, bytes := [1], part := 0, asn := 5, going := true }, { set := 0, addr := 8388608, bytes := [2], part := 0, asn := 6 }] } })
  (d.setSset 0
  { setId := 1, n := 2, members := [0, 1, 2], live := [0, 1, 2], stripes := 640, extents := [(0, 0)], indexed := true }))
  ((d).setSetReg 0 Reg.STR.STATE 2))).dev.setUp (0) = true) ∧ (((W.of fun d => (fun d => (fun d =>
  { d with pip := { d.pip with places := [{ set := 0, addr := 4096, bytes := [1], part := 0, asn := 5, going := true }, { set := 0, addr := 8388608, bytes := [2], part := 0, asn := 6 }] } })
  (d.setSset 0
  { setId := 1, n := 2, members := [0, 1, 2], live := [0, 1, 2], stripes := 640, extents := [(0, 0)], indexed := true }))
  ((d).setSetReg 0 Reg.STR.STATE 2))).dev.going (0) (0) ≠ []) ∧ (((W.of fun d => (fun d => (fun d =>
  { d with pip := { d.pip with places := [{ set := 0, addr := 4096, bytes := [1], part := 0, asn := 5, going := true }, { set := 0, addr := 8388608, bytes := [2], part := 0, asn := 6 }] } })
  (d.setSset 0
  { setId := 1, n := 2, members := [0, 1, 2], live := [0, 1, 2], stripes := 640, extents := [(0, 0)], indexed := true }))
  ((d).setSetReg 0 Reg.STR.STATE 2))).dev.pip.takes = []) ∧ (((W.of fun d => (fun d => (fun d =>
  { d with pip := { d.pip with places := [{ set := 0, addr := 4096, bytes := [1], part := 0, asn := 5, going := true }, { set := 0, addr := 8388608, bytes := [2], part := 0, asn := 6 }] } })
  (d.setSset 0
  { setId := 1, n := 2, members := [0, 1, 2], live := [0, 1, 2], stripes := 640, extents := [(0, 0)], indexed := true }))
  ((d).setSetReg 0 Reg.STR.STATE 2))).dev.hst.cmds = []) ∧ (((W.of fun d => (fun d => (fun d =>
  { d with pip := { d.pip with places := [{ set := 0, addr := 4096, bytes := [1], part := 0, asn := 5, going := true }, { set := 0, addr := 8388608, bytes := [2], part := 0, asn := 6 }] } })
  (d.setSset 0
  { setId := 1, n := 2, members := [0, 1, 2], live := [0, 1, 2], stripes := 640, extents := [(0, 0)], indexed := true }))
  ((d).setSetReg 0 Reg.STR.STATE 2))).dev.cap.frames = []) := by decide

theorem wit_fltRebuild : ((0) < 8) ∧ (((W.of fun d => (fun d => (fun d =>
  { d with pip := { d.pip with takes := [] } }) (d.setSset 0
  { setId := 1, n := 2, members := [0, 1, 2], live := [0, 1, 2], stripes := 640, extents := [(0, 0)], indexed := false }))
  ((d).setSetReg 0 Reg.STR.STATE 2))).dev.stopped = false) ∧ (((W.of fun d => (fun d => (fun d =>
  { d with pip := { d.pip with takes := [] } }) (d.setSset 0
  { setId := 1, n := 2, members := [0, 1, 2], live := [0, 1, 2], stripes := 640, extents := [(0, 0)], indexed := false }))
  ((d).setSetReg 0 Reg.STR.STATE 2))).dev.setUp (0) = true) ∧ ((((W.of fun d => (fun d => (fun d =>
  { d with pip := { d.pip with takes := [] } }) (d.setSset 0
  { setId := 1, n := 2, members := [0, 1, 2], live := [0, 1, 2], stripes := 640, extents := [(0, 0)], indexed := false }))
  ((d).setSetReg 0 Reg.STR.STATE 2))).dev.sset (0)).indexed = false) ∧ (((W.of fun d => (fun d => (fun d =>
  { d with pip := { d.pip with takes := [] } }) (d.setSset 0
  { setId := 1, n := 2, members := [0, 1, 2], live := [0, 1, 2], stripes := 640, extents := [(0, 0)], indexed := false }))
  ((d).setSetReg 0 Reg.STR.STATE 2))).dev.hst.fetchStopped = false) ∧ (((W.of fun d => (fun d => (fun d =>
  { d with pip := { d.pip with takes := [] } }) (d.setSset 0
  { setId := 1, n := 2, members := [0, 1, 2], live := [0, 1, 2], stripes := 640, extents := [(0, 0)], indexed := false }))
  ((d).setSetReg 0 Reg.STR.STATE 2))).dev.directory (0) = []) ∧ (((W.of fun d => (fun d => (fun d =>
  { d with pip := { d.pip with takes := [] } }) (d.setSset 0
  { setId := 1, n := 2, members := [0, 1, 2], live := [0, 1, 2], stripes := 640, extents := [(0, 0)], indexed := false }))
  ((d).setSetReg 0 Reg.STR.STATE 2))).dev.cap.frames = []) := by decide

theorem wit_create : ((0) < 8) ∧ ((0x10000702) < 2 ^ 32) ∧ (Taken ((W.of fun d => ((d.setMagState 0
  BLANK).setMagState 1 BLANK).setMagState 2 BLANK)).dev 0 (setAt (0)).1 (Reg.STR.N.at (setAt (0)).2 0) = true) ∧
  (bitAt (0x10000702) 28 = true) ∧ (bitAt (0x10000702) 29 = false) ∧ ((((W.of fun d => ((d.setMagState 0
  BLANK).setMagState 1 BLANK).setMagState 2 BLANK)).dev.plainWrite 0 (setAt (0)).1 (Reg.STR.N.at (setAt (0)).2 0)
  (0x10000702)).setState (0) = 0) ∧ ((((W.of fun d => ((d.setMagState 0 BLANK).setMagState 1 BLANK).setMagState 2
  BLANK)).dev.plainWrite 0 (setAt (0)).1 (Reg.STR.N.at (setAt (0)).2 0) (0x10000702)).setReg (0) Reg.STR.N ≠ 0) ∧
  (((List.range 8).filter fun y => bitAt ((((W.of fun d => ((d.setMagState 0 BLANK).setMagState 1 BLANK).setMagState
  2 BLANK)).dev.plainWrite 0 (setAt (0)).1 (Reg.STR.N.at (setAt (0)).2 0) (0x10000702)).setReg (0) Reg.STR.MEMBERS)
  y).length = (((W.of fun d => ((d.setMagState 0 BLANK).setMagState 1 BLANK).setMagState 2 BLANK)).dev.plainWrite 0
  (setAt (0)).1 (Reg.STR.N.at (setAt (0)).2 0) (0x10000702)).setReg (0) Reg.STR.N + 1) ∧ (((List.range 8).filter fun
  y => bitAt ((((W.of fun d => ((d.setMagState 0 BLANK).setMagState 1 BLANK).setMagState 2 BLANK)).dev.plainWrite 0
  (setAt (0)).1 (Reg.STR.N.at (setAt (0)).2 0) (0x10000702)).setReg (0) Reg.STR.MEMBERS) y).all (fun y => ((W.of fun
  d => ((d.setMagState 0 BLANK).setMagState 1 BLANK).setMagState 2 BLANK)).dev.magState y = BLANK) = true) ∧
  ((((W.of fun d => ((d.setMagState 0 BLANK).setMagState 1 BLANK).setMagState 2 BLANK)).dev.plainWrite 0 (setAt
  (0)).1 (Reg.STR.N.at (setAt (0)).2 0) (0x10000702)).setReg (0) Reg.STR.ENC_EN = 0) := by decide

theorem wit_assemble : ((0) < 8) ∧ ((0x20000702) < 2 ^ 32) ∧ (Taken (W.on).dev 0 (setAt (0)).1 (Reg.STR.N.at (setAt
  (0)).2 0) = true) ∧ (bitAt (0x20000702) 28 = false) ∧ (bitAt (0x20000702) 29 = true) := by decide

theorem wit_key : ((0) < 8) ∧ ((5) < 2 ^ 32) ∧ (Taken (W.on).dev 0 (setAt (0)).1 (Reg.STR.KEY.at (setAt (0)).2 15) =
  true) ∧ (((W.on).dev.sset (0)).enc = false) ∧
  (({ (W.on).dev.sset (0) with keyWords := Assoc.put ((W.on).dev.sset (0)).keyWords 15 (5) } :
  StripeSet).keyBytes.take 32 ≠
  ({ (W.on).dev.sset (0) with keyWords := Assoc.put ((W.on).dev.sset (0)).keyWords 15 (5) } :
  StripeSet).keyBytes.drop 32) := by decide

theorem wit_key_halves : ((0) < 8) ∧ ((0) < 2 ^ 32) ∧ (Taken (W.on).dev 0 (setAt (0)).1 (Reg.STR.KEY.at (setAt
  (0)).2 15) = true) ∧ (({ (W.on).dev.sset (0) with keyWords := Assoc.put ((W.on).dev.sset (0)).keyWords 15 (0) } :
  StripeSet).keyBytes.take 32 =
  ({ (W.on).dev.sset (0) with keyWords := Assoc.put ((W.on).dev.sset (0)).keyWords 15 (0) } :
  StripeSet).keyBytes.drop 32) := by decide

theorem wit_magazineLinkUp : ((3) < 8) ∧ ((4) < 8) ∧ ((5) < 8) ∧ ((W.on).dev.stopped = false) ∧
  ((({ media := [], serial := [], lbas := 600000 } : Drive)).lbas < 2 ^ 32) ∧ (524288 ≤
  (({ media := [], serial := [], lbas := 600000 } : Drive)).lbas) ∧ ((({ media := [], serial := [], lbas := 600000 }
  : Drive)).media.all (fun e => e.1 < 2 ^ 32) = true) ∧ ((({ media := [], serial := [], lbas := 600000 } :
  Drive)).serial.length ≤ 4096) ∧ ((W.on).dev.magState (3) = ABSENT) ∧ ((magOf
  (({ media := [], serial := [], lbas := 600000 } : Drive))).label = none) ∧ ((List.range 8).all (fun y =>
  (W.on).dev.setState y ≠ DEGRADED) = true) := by decide

theorem wit_magazineLinkUp_small : ((3) < 8) ∧ ((4) < 8) ∧ ((5) < 8) ∧ ((W.on).dev.stopped = false) ∧
  ((({ media := [], serial := [], lbas := 6 } : Drive)).lbas < 524288) ∧ ((({ media := [], serial := [], lbas := 6 }
  : Drive)).media.all (fun e => e.1 < 2 ^ 32) = true) ∧ ((({ media := [], serial := [], lbas := 6 } :
  Drive)).serial.length ≤ 4096) ∧ ((W.on).dev.magState (3) = ABSENT) := by decide

theorem wit_magCommandTimeout : ((3) < 8) ∧ (((W.of fun d => d.setMagState 3 3)).dev.stopped = false) ∧ (((W.of fun
  d => d.setMagState 3 3)).dev.magState (3) = MEMBER) := by decide

theorem wit_magCommandTimeout_reset : ((3) < 8) ∧ (((W.of fun d => d.setMagState 3 3)).dev.stopped = false) ∧
  (((W.of fun d => d.setMagState 3 3)).dev.magState (3) = MEMBER) ∧ ((((W.of fun d => d.setMagState 3 3)).dev.mag
  (3)).resetAt = none) := by decide

theorem wit_magFailed : ((3) < 8) ∧ (((W.of fun d => d.setMagState 3 3)).dev.stopped = false) ∧ (((W.of fun d =>
  d.setMagState 3 3)).dev.magState (3) = MEMBER) ∧ ((List.range 8).all (fun y => (((W.of fun d => d.setMagState 3
  3)).dev.sset y).rebuild ≠ some (3) && !((((W.of fun d => d.setMagState 3 3)).dev.sset y).members.contains (3))) =
  true) := by decide

theorem wit_magMediaError : ((1) < 8) ∧ ((300) < 2 ^ 32) ∧ (((W.of fun d => (fun d => (fun d =>
  { d with pip := { d.pip with takes := [] } }) (d.setSset 0
  { setId := 1, n := 2, members := [0, 1, 2], live := [0, 1, 2], stripes := 640, extents := [(0, 0)], indexed := true }))
  ((d).setSetReg 0 Reg.STR.STATE 2))).dev.stopped = false) ∧ (OPTIMAL ≤ ((W.of fun d => (fun d => (fun d =>
  { d with pip := { d.pip with takes := [] } }) (d.setSset 0
  { setId := 1, n := 2, members := [0, 1, 2], live := [0, 1, 2], stripes := 640, extents := [(0, 0)], indexed := true }))
  ((d).setSetReg 0 Reg.STR.STATE 2))).dev.setState 0) ∧ (256 ≤ (300)) ∧ (((List.range ((((W.of fun d => (fun d =>
  (fun d => { d with pip := { d.pip with takes := [] } }) (d.setSset 0
  { setId := 1, n := 2, members := [0, 1, 2], live := [0, 1, 2], stripes := 640, extents := [(0, 0)], indexed := true }))
  ((d).setSetReg 0 Reg.STR.STATE 2))).dev.sset 0).n + 1)).filter (fun i => i ≠ (1))).all (fun i => (((W.of fun d =>
  (fun d => (fun d => { d with pip := { d.pip with takes := [] } }) (d.setSset 0
  { setId := 1, n := 2, members := [0, 1, 2], live := [0, 1, 2], stripes := 640, extents := [(0, 0)], indexed := true }))
  ((d).setSetReg 0 Reg.STR.STATE 2))).dev.sset 0).members.getD i 0 ≠ (1)) = true) ∧ ((((W.of fun d => (fun d => (fun
  d => { d with pip := { d.pip with takes := [] } }) (d.setSset 0
  { setId := 1, n := 2, members := [0, 1, 2], live := [0, 1, 2], stripes := 640, extents := [(0, 0)], indexed := true }))
  ((d).setSetReg 0 Reg.STR.STATE 2))).dev.sset 0).members.zipIdx.find? (fun e => e.1 = (1) && e.2 ∈ (((W.of fun d =>
  (fun d => (fun d => { d with pip := { d.pip with takes := [] } }) (d.setSset 0
  { setId := 1, n := 2, members := [0, 1, 2], live := [0, 1, 2], stripes := 640, extents := [(0, 0)], indexed := true }))
  ((d).setSetReg 0 Reg.STR.STATE 2))).dev.sset 0).live) = some ((1), (1))) ∧ ((((W.of fun d => (fun d => (fun d =>
  { d with pip := { d.pip with takes := [] } }) (d.setSset 0
  { setId := 1, n := 2, members := [0, 1, 2], live := [0, 1, 2], stripes := 640, extents := [(0, 0)], indexed := true }))
  ((d).setSetReg 0 Reg.STR.STATE 2))).dev.rebuilt 0 (1) (300)).isSome = true) := by decide

theorem wit_rebuildDone : ((0) < 8) ∧ (Ready ((W.of fun d => (fun d => (fun d =>
  { d with pip := { d.pip with takes := [] } }) (d.setSset 0
  { setId := 1, n := 2, members := [0, 1, 5], live := [0, 1], stripes := 640, extents := [(0, 0)], indexed := true, rebuild := some 5 }))
  ((d).setSetReg 0 Reg.STR.STATE 4))).dev = true) ∧ ((((W.of fun d => (fun d => (fun d =>
  { d with pip := { d.pip with takes := [] } }) (d.setSset 0
  { setId := 1, n := 2, members := [0, 1, 5], live := [0, 1], stripes := 640, extents := [(0, 0)], indexed := true, rebuild := some 5 }))
  ((d).setSetReg 0 Reg.STR.STATE 4))).dev.sset (0)).rebuild = some (5)) ∧ (((W.of fun d => (fun d => (fun d =>
  { d with pip := { d.pip with takes := [] } }) (d.setSset 0
  { setId := 1, n := 2, members := [0, 1, 5], live := [0, 1], stripes := 640, extents := [(0, 0)], indexed := true, rebuild := some 5 }))
  ((d).setSetReg 0 Reg.STR.STATE 4))).dev.setState (0) = REBUILDING) := by decide

theorem wit_encConfig : ((0) < 128) ∧ ((5) < 2 ^ 64) ∧ (Starts (((W.of (W.run [W.cmd 0x90 [(6, 128)]]))).dev.see
  (({} : HostView))) (0) (5) 0x90 ((W.cmd 0x90 [(6, 128)] : Cmd)) = true) ∧ ((0) = sf ((W.cmd 0x90 [(6, 128)] :
  Cmd)).entry 1 0 8) ∧ (sf ((W.cmd 0x90 [(6, 128)] : Cmd)).entry 8 0 4 = 0) ∧ (((W.of (W.run [W.cmd 0x90 [(6,
  128)]]))).dev.ownerOf 2 (0) = ((W.cmd 0x90 [(6, 128)] : Cmd)).part) ∧ (((W.of (W.run [W.cmd 0x90 [(6,
  128)]]))).dev.encTurn ((W.cmd 0x90 [(6, 128)] : Cmd)) = true) ∧ (128 ≤ dwAt ((W.cmd 0x90 [(6, 128)] : Cmd)).entry
  6) := by decide

theorem wit_encPicture : ((0) < 128) ∧ ((5) < 2 ^ 64) ∧ (Starts (((W.of fun d => W.enc { cfg := some W.encBytes }
  (W.run [W.cmd 0x90 [(6, 8192), (8, 1), (9, 64)]] d))).dev.see (({} : HostView))) (0) (5) 0x90 ((W.cmd 0x90 [(6,
  8192), (8, 1), (9, 64)] : Cmd)) = true) ∧ ((0) = sf ((W.cmd 0x90 [(6, 8192), (8, 1), (9, 64)] : Cmd)).entry 1 0 8)
  ∧ (sf ((W.cmd 0x90 [(6, 8192), (8, 1), (9, 64)] : Cmd)).entry 8 0 4 = 1) ∧ (((W.of fun d => W.enc
  { cfg := some W.encBytes } (W.run [W.cmd 0x90 [(6, 8192), (8, 1), (9, 64)]] d))).dev.ownerOf 2 (0) = ((W.cmd 0x90
  [(6, 8192), (8, 1), (9, 64)] : Cmd)).part) ∧ (((W.of fun d => W.enc { cfg := some W.encBytes } (W.run [W.cmd 0x90
  [(6, 8192), (8, 1), (9, 64)]] d))).dev.encTurn ((W.cmd 0x90 [(6, 8192), (8, 1), (9, 64)] : Cmd)) = true) ∧
  ((((W.of fun d => W.enc { cfg := some W.encBytes } (W.run [W.cmd 0x90 [(6, 8192), (8, 1), (9, 64)]] d))).dev.enc
  (0)).cfg.isSome = true) ∧ ((((W.of fun d => W.enc { cfg := some W.encBytes } (W.run [W.cmd 0x90 [(6, 8192), (8,
  1), (9, 64)]] d))).dev.enc (0)).releasing = false) ∧ ((((W.of fun d => W.enc { cfg := some W.encBytes } (W.run
  [W.cmd 0x90 [(6, 8192), (8, 1), (9, 64)]] d))).dev.enc (0)).cfg!.source ≠ 0) ∧ (dwAt ((W.cmd 0x90 [(6, 8192), (8,
  1), (9, 64)] : Cmd)).entry 9 % 64 = 0) ∧ ((((W.of fun d => W.enc { cfg := some W.encBytes } (W.run [W.cmd 0x90
  [(6, 8192), (8, 1), (9, 64)]] d))).dev.enc (0)).cfg!.hostRow ≤ dwAt ((W.cmd 0x90 [(6, 8192), (8, 1), (9, 64)] :
  Cmd)).entry 9) ∧ ((((W.of fun d => W.enc { cfg := some W.encBytes } (W.run [W.cmd 0x90 [(6, 8192), (8, 1), (9,
  64)]] d))).dev.enc (0)).cfg!.hostBytes (dwAt ((W.cmd 0x90 [(6, 8192), (8, 1), (9, 64)] : Cmd)).entry 9) ≤ dwAt
  ((W.cmd 0x90 [(6, 8192), (8, 1), (9, 64)] : Cmd)).entry 6) := by decide

theorem wit_encCollect : ((0) < 128) ∧ ((5) < 2 ^ 64) ∧ (Starts (((W.of fun d => W.enc
  { cfg := some W.encBytes, queue := [[1, 2], [3]] } (W.run [W.cmd 0x90 [(7, 8192), (8, 2)]] d))).dev.see (({} :
  HostView))) (0) (5) 0x90 ((W.cmd 0x90 [(7, 8192), (8, 2)] : Cmd)) = true) ∧ ((0) = sf ((W.cmd 0x90 [(7, 8192), (8,
  2)] : Cmd)).entry 1 0 8) ∧ (sf ((W.cmd 0x90 [(7, 8192), (8, 2)] : Cmd)).entry 8 0 4 = 2) ∧ (((W.of fun d => W.enc
  { cfg := some W.encBytes, queue := [[1, 2], [3]] } (W.run [W.cmd 0x90 [(7, 8192), (8, 2)]] d))).dev.ownerOf 2 (0)
  = ((W.cmd 0x90 [(7, 8192), (8, 2)] : Cmd)).part) ∧ (((W.of fun d => W.enc
  { cfg := some W.encBytes, queue := [[1, 2], [3]] } (W.run [W.cmd 0x90 [(7, 8192), (8, 2)]] d))).dev.encTurn
  ((W.cmd 0x90 [(7, 8192), (8, 2)] : Cmd)) = true) ∧ ((((W.of fun d => W.enc
  { cfg := some W.encBytes, queue := [[1, 2], [3]] } (W.run [W.cmd 0x90 [(7, 8192), (8, 2)]] d))).dev.enc
  (0)).queue.head? = some (([1, 2] : List Byte))) ∧ ((([1, 2] : List Byte)).length ≤ dwAt ((W.cmd 0x90 [(7, 8192),
  (8, 2)] : Cmd)).entry 7) ∧ (((W.of fun d => W.enc { cfg := some W.encBytes, queue := [[1, 2], [3]] } (W.run [W.cmd
  0x90 [(7, 8192), (8, 2)]] d))).dev.shed = 0) := by decide

theorem wit_encForceIrap : ((0) < 128) ∧ ((5) < 2 ^ 64) ∧ (Starts (((W.of fun d => W.enc { cfg := some W.encBytes }
  (W.run [W.cmd 0x90 [(8, 3)]] d))).dev.see (({} : HostView))) (0) (5) 0x90 ((W.cmd 0x90 [(8, 3)] : Cmd)) = true) ∧
  ((0) = sf ((W.cmd 0x90 [(8, 3)] : Cmd)).entry 1 0 8) ∧ (sf ((W.cmd 0x90 [(8, 3)] : Cmd)).entry 8 0 4 = 3) ∧
  (((W.of fun d => W.enc { cfg := some W.encBytes } (W.run [W.cmd 0x90 [(8, 3)]] d))).dev.ownerOf 2 (0) = ((W.cmd
  0x90 [(8, 3)] : Cmd)).part) ∧ (((W.of fun d => W.enc { cfg := some W.encBytes } (W.run [W.cmd 0x90 [(8, 3)]]
  d))).dev.encTurn ((W.cmd 0x90 [(8, 3)] : Cmd)) = true) ∧ ((((W.of fun d => W.enc { cfg := some W.encBytes } (W.run
  [W.cmd 0x90 [(8, 3)]] d))).dev.enc (0)).cfg.isSome = true) ∧ ((((W.of fun d => W.enc { cfg := some W.encBytes }
  (W.run [W.cmd 0x90 [(8, 3)]] d))).dev.enc (0)).releasing = false) := by decide

theorem wit_encEnd : ((0) < 128) ∧ ((5) < 2 ^ 64) ∧ (Starts (((W.of fun d => W.enc
  { cfg := some W.encBytes, fresh := false } (W.run [W.cmd 0x90 [(8, 4)]] d))).dev.see (({} : HostView))) (0) (5)
  0x90 ((W.cmd 0x90 [(8, 4)] : Cmd)) = true) ∧ ((0) = sf ((W.cmd 0x90 [(8, 4)] : Cmd)).entry 1 0 8) ∧ (sf ((W.cmd
  0x90 [(8, 4)] : Cmd)).entry 8 0 4 = 4) ∧ (((W.of fun d => W.enc { cfg := some W.encBytes, fresh := false } (W.run
  [W.cmd 0x90 [(8, 4)]] d))).dev.ownerOf 2 (0) = ((W.cmd 0x90 [(8, 4)] : Cmd)).part) ∧ (((W.of fun d => W.enc
  { cfg := some W.encBytes, fresh := false } (W.run [W.cmd 0x90 [(8, 4)]] d))).dev.encTurn ((W.cmd 0x90 [(8, 4)] :
  Cmd)) = true) ∧ ((((W.of fun d => W.enc { cfg := some W.encBytes, fresh := false } (W.run [W.cmd 0x90 [(8, 4)]]
  d))).dev.enc (0)).cfg.isSome = true) ∧ ((((W.of fun d => W.enc { cfg := some W.encBytes, fresh := false } (W.run
  [W.cmd 0x90 [(8, 4)]] d))).dev.enc (0)).releasing = false) ∧ ((((W.of fun d => W.enc
  { cfg := some W.encBytes, fresh := false } (W.run [W.cmd 0x90 [(8, 4)]] d))).dev.enc (0)).inFlight = false) ∧
  ((((W.of fun d => W.enc { cfg := some W.encBytes, fresh := false } (W.run [W.cmd 0x90 [(8, 4)]] d))).dev.enc
  (0)).later = []) ∧ ((((W.of fun d => W.enc { cfg := some W.encBytes, fresh := false } (W.run [W.cmd 0x90 [(8, 4)]]
  d))).dev.enc (0)).nextCfg = none) ∧ ((((W.of fun d => W.enc { cfg := some W.encBytes, fresh := false } (W.run
  [W.cmd 0x90 [(8, 4)]] d))).dev.enc (0)).ending = none) := by decide

theorem wit_encRelease : ((0) < 128) ∧ ((5) < 2 ^ 64) ∧ (Starts (((W.of fun d => W.enc
  { cfg := some W.encBytes, queue := [[1, 2], [3]] } (W.run [W.cmd 0x90 [(8, 5)]] d))).dev.see (({} : HostView)))
  (0) (5) 0x90 ((W.cmd 0x90 [(8, 5)] : Cmd)) = true) ∧ ((0) = sf ((W.cmd 0x90 [(8, 5)] : Cmd)).entry 1 0 8) ∧ (sf
  ((W.cmd 0x90 [(8, 5)] : Cmd)).entry 8 0 4 = 5) ∧ (((W.of fun d => W.enc
  { cfg := some W.encBytes, queue := [[1, 2], [3]] } (W.run [W.cmd 0x90 [(8, 5)]] d))).dev.ownerOf 2 (0) = ((W.cmd
  0x90 [(8, 5)] : Cmd)).part) ∧ (((W.of fun d => W.enc { cfg := some W.encBytes, queue := [[1, 2], [3]] } (W.run
  [W.cmd 0x90 [(8, 5)]] d))).dev.encTurn ((W.cmd 0x90 [(8, 5)] : Cmd)) = true) ∧ ((((W.of fun d => W.enc
  { cfg := some W.encBytes, queue := [[1, 2], [3]] } (W.run [W.cmd 0x90 [(8, 5)]] d))).dev.enc (0)).cfg.isSome =
  true) ∧ ((((W.of fun d => W.enc { cfg := some W.encBytes, queue := [[1, 2], [3]] } (W.run [W.cmd 0x90 [(8, 5)]]
  d))).dev.enc (0)).releasing = false) ∧ ((((W.of fun d => W.enc { cfg := some W.encBytes, queue := [[1, 2], [3]] }
  (W.run [W.cmd 0x90 [(8, 5)]] d))).dev.enc (0)).inFlight = false) ∧ ((((W.of fun d => W.enc
  { cfg := some W.encBytes, queue := [[1, 2], [3]] } (W.run [W.cmd 0x90 [(8, 5)]] d))).dev.enc (0)).later = []) ∧
  ((((W.of fun d => W.enc { cfg := some W.encBytes, queue := [[1, 2], [3]] } (W.run [W.cmd 0x90 [(8, 5)]]
  d))).dev.enc (0)).nextCfg = none) ∧ ((((W.of fun d => W.enc { cfg := some W.encBytes, queue := [[1, 2], [3]] }
  (W.run [W.cmd 0x90 [(8, 5)]] d))).dev.enc (0)).ending = none) ∧ (((W.of fun d => W.enc
  { cfg := some W.encBytes, queue := [[1, 2], [3]] } (W.run [W.cmd 0x90 [(8, 5)]] d))).dev.cap.frames = []) := by
  decide

theorem wit_encLtr : ((0) < 128) ∧ ((5) < 2 ^ 64) ∧ (Starts (((W.of fun d => W.enc { cfg := some W.encBytes } (W.run
  [W.cmd 0x90 [(8, 6 + 0x100)]] d))).dev.see (({} : HostView))) (0) (5) 0x90 ((W.cmd 0x90 [(8, 6 + 0x100)] : Cmd)) =
  true) ∧ ((0) = sf ((W.cmd 0x90 [(8, 6 + 0x100)] : Cmd)).entry 1 0 8) ∧ (sf ((W.cmd 0x90 [(8, 6 + 0x100)] :
  Cmd)).entry 8 0 4 = 6) ∧ (((W.of fun d => W.enc { cfg := some W.encBytes } (W.run [W.cmd 0x90 [(8, 6 + 0x100)]]
  d))).dev.ownerOf 2 (0) = ((W.cmd 0x90 [(8, 6 + 0x100)] : Cmd)).part) ∧ (((W.of fun d => W.enc
  { cfg := some W.encBytes } (W.run [W.cmd 0x90 [(8, 6 + 0x100)]] d))).dev.encTurn ((W.cmd 0x90 [(8, 6 + 0x100)] :
  Cmd)) = true) ∧ ((((W.of fun d => W.enc { cfg := some W.encBytes } (W.run [W.cmd 0x90 [(8, 6 + 0x100)]]
  d))).dev.enc (0)).cfg.isSome = true) ∧ ((((W.of fun d => W.enc { cfg := some W.encBytes } (W.run [W.cmd 0x90 [(8,
  6 + 0x100)]] d))).dev.enc (0)).releasing = false) ∧ (sf ((W.cmd 0x90 [(8, 6 + 0x100)] : Cmd)).entry 8 12 2 = 0 ∨
  sf ((W.cmd 0x90 [(8, 6 + 0x100)] : Cmd)).entry 8 12 2 = 2) ∧ (sf ((W.cmd 0x90 [(8, 6 + 0x100)] : Cmd)).entry 8 8 2
  < (((W.of fun d => W.enc { cfg := some W.encBytes } (W.run [W.cmd 0x90 [(8, 6 + 0x100)]] d))).dev.enc
  (0)).cfg!.ltr) := by decide

theorem wit_encSinkRead : ((0) < 128) ∧ ((5) < 2 ^ 64) ∧ (Starts (((W.of fun d => (fun d =>
  { d with pip := { d.pip with bufs := [(bufKey 4 0, [{ frame := frameKey 7 5, head := 7, cid := 5, colophon := [], output := {} }])] } })
  (W.run [W.cmd 0x90 [(7, 65536), (8, 7), (10, 4)]] d))).dev.see (({} : HostView))) (0) (5) 0x90 ((W.cmd 0x90 [(7,
  65536), (8, 7), (10, 4)] : Cmd)) = true) ∧ ((0) = sf ((W.cmd 0x90 [(7, 65536), (8, 7), (10, 4)] : Cmd)).entry 1 0
  8) ∧ (sf ((W.cmd 0x90 [(7, 65536), (8, 7), (10, 4)] : Cmd)).entry 8 0 4 = 7) ∧ (((W.of fun d => (fun d =>
  { d with pip := { d.pip with bufs := [(bufKey 4 0, [{ frame := frameKey 7 5, head := 7, cid := 5, colophon := [], output := {} }])] } })
  (W.run [W.cmd 0x90 [(7, 65536), (8, 7), (10, 4)]] d))).dev.ownerOf 2 (0) = ((W.cmd 0x90 [(7, 65536), (8, 7), (10,
  4)] : Cmd)).part) ∧ (((W.of fun d => (fun d =>
  { d with pip := { d.pip with bufs := [(bufKey 4 0, [{ frame := frameKey 7 5, head := 7, cid := 5, colophon := [], output := {} }])] } })
  (W.run [W.cmd 0x90 [(7, 65536), (8, 7), (10, 4)]] d))).dev.encTurn ((W.cmd 0x90 [(7, 65536), (8, 7), (10, 4)] :
  Cmd)) = true) ∧ (sf ((W.cmd 0x90 [(7, 65536), (8, 7), (10, 4)] : Cmd)).entry 10 0 6 < 48) ∧ (((W.of fun d => (fun
  d =>
  { d with pip := { d.pip with bufs := [(bufKey 4 0, [{ frame := frameKey 7 5, head := 7, cid := 5, colophon := [], output := {} }])] } })
  (W.run [W.cmd 0x90 [(7, 65536), (8, 7), (10, 4)]] d))).dev.ownerOf 1 (sf ((W.cmd 0x90 [(7, 65536), (8, 7), (10,
  4)] : Cmd)).entry 10 0 6) = ((W.cmd 0x90 [(7, 65536), (8, 7), (10, 4)] : Cmd)).part) ∧ (((W.of fun d => (fun d =>
  { d with pip := { d.pip with bufs := [(bufKey 4 0, [{ frame := frameKey 7 5, head := 7, cid := 5, colophon := [], output := {} }])] } })
  (W.run [W.cmd 0x90 [(7, 65536), (8, 7), (10, 4)]] d))).dev.sinkBuf ((W.cmd 0x90 [(7, 65536), (8, 7), (10, 4)] :
  Cmd)) = some (({ frame := frameKey 7 5, head := 7, cid := 5, colophon := [], output := {} } : MemBuf))) ∧ (0x2000
  + (({ frame := frameKey 7 5, head := 7, cid := 5, colophon := [], output := {} } : MemBuf)).output.bytes.length ≤
  dwAt ((W.cmd 0x90 [(7, 65536), (8, 7), (10, 4)] : Cmd)).entry 7) ∧ (((W.of fun d => (fun d =>
  { d with pip := { d.pip with bufs := [(bufKey 4 0, [{ frame := frameKey 7 5, head := 7, cid := 5, colophon := [], output := {} }])] } })
  (W.run [W.cmd 0x90 [(7, 65536), (8, 7), (10, 4)]] d))).dev.shed = 0) := by decide

theorem wit_encPictureStart : ((0) < 256) ∧ ((4) < 2 ^ 32) ∧ ((30) < 2 ^ 8) ∧ ((1) < 2 ^ 32) ∧ ((100) ≤ PIC_HDR) ∧
  (Ready ((W.of fun d => W.enc
  { cfg := some W.encBytes, ready := [{ num := 3, src := { host := some (0, 9) }, type := 2 }] } (id d))).dev =
  true) ∧ (((W.of fun d => W.enc
  { cfg := some W.encBytes, ready := [{ num := 3, src := { host := some (0, 9) }, type := 2 }] } (id
  d))).dev.allAwake = true) ∧ ((((W.of fun d => W.enc
  { cfg := some W.encBytes, ready := [{ num := 3, src := { host := some (0, 9) }, type := 2 }] } (id d))).dev.enc
  (0)).ready = (({ num := 3, src := { host := some (0, 9) }, type := 2 } : EncNext)) :: ((([] : List EncNext) : List
  EncNext))) ∧ (((W.of fun d => W.enc
  { cfg := some W.encBytes, ready := [{ num := 3, src := { host := some (0, 9) }, type := 2 }] } (id
  d))).dev.encWorks (((W.of fun d => W.enc
  { cfg := some W.encBytes, ready := [{ num := 3, src := { host := some (0, 9) }, type := 2 }] } (id d))).dev.enc
  (0)) = true) ∧ (((W.of fun d => W.enc
  { cfg := some W.encBytes, ready := [{ num := 3, src := { host := some (0, 9) }, type := 2 }] } (id
  d))).dev.encFreeEngines (0) = true) ∧ ((((W.of fun d => W.enc
  { cfg := some W.encBytes, ready := [{ num := 3, src := { host := some (0, 9) }, type := 2 }] } (id d))).dev.enc
  (0)).refsDone ((((W.of fun d => W.enc
  { cfg := some W.encBytes, ready := [{ num := 3, src := { host := some (0, 9) }, type := 2 }] } (id d))).dev.enc
  (0)).nextRefs (({ num := 3, src := { host := some (0, 9) }, type := 2 } : EncNext))) = true) ∧ (((W.of fun d =>
  W.enc { cfg := some W.encBytes, ready := [{ num := 3, src := { host := some (0, 9) }, type := 2 }] } (id
  d))).dev.pip.encs.any (fun e => ((W.of fun d => W.enc
  { cfg := some W.encBytes, ready := [{ num := 3, src := { host := some (0, 9) }, type := 2 }] } (id
  d))).dev.encAhead (0) e.1 (({ num := 3, src := { host := some (0, 9) }, type := 2 } : EncNext)).src) = false) ∧
  (((W.of fun d => W.enc
  { cfg := some W.encBytes, ready := [{ num := 3, src := { host := some (0, 9) }, type := 2 }] } (id d))).dev.shed <
  2) ∧ ((((W.of fun d => W.enc
  { cfg := some W.encBytes, ready := [{ num := 3, src := { host := some (0, 9) }, type := 2 }] } (id d))).dev.see
  (({} : HostView))).encRoom (0) (({ num := 3, src := { host := some (0, 9) }, type := 2 } : EncNext)).src = true) ∧
  ((((W.of fun d => W.enc
  { cfg := some W.encBytes, ready := [{ num := 3, src := { host := some (0, 9) }, type := 2 }] } (id d))).dev.see
  (({} : HostView))).encAhead (0) (0) (({ num := 3, src := { host := some (0, 9) }, type := 2 } : EncNext)).src =
  false) ∧ ((((W.of fun d => W.enc
  { cfg := some W.encBytes, ready := [{ num := 3, src := { host := some (0, 9) }, type := 2 }] } (id d))).dev.enc
  (0)).plan = none) ∧ ((((W.of fun d => W.enc
  { cfg := some W.encBytes, ready := [{ num := 3, src := { host := some (0, 9) }, type := 2 }] } (id d))).dev.enc
  (0)).asked = none) ∧ (((W.of fun d => W.enc
  { cfg := some W.encBytes, ready := [{ num := 3, src := { host := some (0, 9) }, type := 2 }] } (id
  d))).dev.assisted (((W.of fun d => W.enc
  { cfg := some W.encBytes, ready := [{ num := 3, src := { host := some (0, 9) }, type := 2 }] } (id d))).dev.enc
  (0)).pageRc = false) ∧ (((W.of fun d => W.enc
  { cfg := some W.encBytes, ready := [{ num := 3, src := { host := some (0, 9) }, type := 2 }] } (id
  d))).dev.pip.encs.all (fun e => e.1 = (0)) = true) := by decide

theorem wit_pixelRowEnd : ((0) < 256) ∧ ((0) < 6) ∧ ((77) < 2 ^ 32) ∧ (Ready ((W.of fun d => W.enc
  { cfg := some W.encBytes, pics := [{ num := 3, src := { host := some (0, 9) }, type := 2, bands := [{ ctus := 1, cap := 5000 }] }] }
  (id d))).dev = true) ∧ ((((W.of fun d => W.enc
  { cfg := some W.encBytes, pics := [{ num := 3, src := { host := some (0, 9) }, type := 2, bands := [{ ctus := 1, cap := 5000 }] }] }
  (id d))).dev.enc (0)).pics =
  [(({ num := 3, src := { host := some (0, 9) }, type := 2, bands := [{ ctus := 1, cap := 5000 }] } : EncPic))]) ∧
  ((0) < (({ num := 3, src := { host := some (0, 9) }, type := 2, bands := [{ ctus := 1, cap := 5000 }] } :
  EncPic)).bands.length) ∧
  (((({ num := 3, src := { host := some (0, 9) }, type := 2, bands := [{ ctus := 1, cap := 5000 }] } :
  EncPic)).bands.getD (0) {}).pix < (((W.of fun d => W.enc
  { cfg := some W.encBytes, pics := [{ num := 3, src := { host := some (0, 9) }, type := 2, bands := [{ ctus := 1, cap := 5000 }] }] }
  (id d))).dev.enc (0)).cfg!.rows) ∧
  (((({ num := 3, src := { host := some (0, 9) }, type := 2, bands := [{ ctus := 1, cap := 5000 }] } :
  EncPic)).bands.getD (0) {}).pix ≤
  ((({ num := 3, src := { host := some (0, 9) }, type := 2, bands := [{ ctus := 1, cap := 5000 }] } :
  EncPic)).bands.getD (0) {}).row + (((W.of fun d => W.enc
  { cfg := some W.encBytes, pics := [{ num := 3, src := { host := some (0, 9) }, type := 2, bands := [{ ctus := 1, cap := 5000 }] }] }
  (id d))).dev.enc (0)).cfg!.ahead) ∧ ((((W.of fun d => W.enc
  { cfg := some W.encBytes, pics := [{ num := 3, src := { host := some (0, 9) }, type := 2, bands := [{ ctus := 1, cap := 5000 }] }] }
  (id d))).dev.enc (0)).syntaxRows (0) < 64) ∧ (rowPossible (({ samples := [9] } : RowCode))
  (({ num := 3, src := { host := some (0, 9) }, type := 2, bands := [{ ctus := 1, cap := 5000 }] } : EncPic))
  (((W.of fun d => W.enc
  { cfg := some W.encBytes, pics := [{ num := 3, src := { host := some (0, 9) }, type := 2, bands := [{ ctus := 1, cap := 5000 }] }] }
  (id d))).dev.enc (0)).cfg!
  ((({ num := 3, src := { host := some (0, 9) }, type := 2, bands := [{ ctus := 1, cap := 5000 }] } :
  EncPic)).bands.getD (0) {}) = true) := by decide

theorem wit_encRowEnd : ((0) < 256) ∧ ((777) < 2 ^ 32) ∧ ((6) < 2 ^ 32) ∧ ((700) < 2 ^ 32) ∧ (Ready ((W.of fun d =>
  W.enc
  { cfg := some W.encBytes, pics := [{ num := 3, src := { host := some (0, 9) }, type := 2, bands := [{ ctus := 1, cap := 5000, pix := 1, est := [700] }] }] }
  (id d))).dev = true) ∧ ((((W.of fun d => W.enc
  { cfg := some W.encBytes, pics := [{ num := 3, src := { host := some (0, 9) }, type := 2, bands := [{ ctus := 1, cap := 5000, pix := 1, est := [700] }] }] }
  (id d))).dev.enc (0)).pics =
  [(({ num := 3, src := { host := some (0, 9) }, type := 2, bands := [{ ctus := 1, cap := 5000, pix := 1, est := [700] }] }
  : EncPic))]) ∧
  ((({ num := 3, src := { host := some (0, 9) }, type := 2, bands := [{ ctus := 1, cap := 5000, pix := 1, est := [700] }] }
  : EncPic)).bands = [(({ ctus := 1, cap := 5000, pix := 1, est := [700] } : Band))]) ∧
  ((({ ctus := 1, cap := 5000, pix := 1, est := [700] } : Band)).row < (((W.of fun d => W.enc
  { cfg := some W.encBytes, pics := [{ num := 3, src := { host := some (0, 9) }, type := 2, bands := [{ ctus := 1, cap := 5000, pix := 1, est := [700] }] }] }
  (id d))).dev.enc (0)).cfg!.rows) ∧ ((({ ctus := 1, cap := 5000, pix := 1, est := [700] } : Band)).row <
  (({ ctus := 1, cap := 5000, pix := 1, est := [700] } : Band)).pix) ∧ ((6) ≤ (((W.of fun d => W.enc
  { cfg := some W.encBytes, pics := [{ num := 3, src := { host := some (0, 9) }, type := 2, bands := [{ ctus := 1, cap := 5000, pix := 1, est := [700] }] }] }
  (id d))).dev.enc (0)).cfg!.floorRow (decide
  ((({ num := 3, src := { host := some (0, 9) }, type := 2, bands := [{ ctus := 1, cap := 5000, pix := 1, est := [700] }] }
  : EncPic)).type ≤ 1)) (({ ctus := 1, cap := 5000, pix := 1, est := [700] } : Band)).ctus
  (({ ctus := 1, cap := 5000, pix := 1, est := [700] } : Band)).row) := by decide

theorem wit_encPictureCommit : ((0) < 256) ∧ ((26 * 256) < 2 ^ 16) ∧ (Ready ((W.of fun d => W.enc
  { cfg := some W.encBytes, pics := [{ num := 3, src := {}, type := 2, bands := [{ ctus := 1, cap := 5000, pix := 1, row := 1, spent := 24 }] }] }
  (id d))).dev = true) ∧ ((((W.of fun d => W.enc
  { cfg := some W.encBytes, pics := [{ num := 3, src := {}, type := 2, bands := [{ ctus := 1, cap := 5000, pix := 1, row := 1, spent := 24 }] }] }
  (id d))).dev.enc (0)).pics =
  [(({ num := 3, src := {}, type := 2, bands := [{ ctus := 1, cap := 5000, pix := 1, row := 1, spent := 24 }] } :
  EncPic))]) ∧
  ((({ num := 3, src := {}, type := 2, bands := [{ ctus := 1, cap := 5000, pix := 1, row := 1, spent := 24 }] } :
  EncPic)).bands = [(({ ctus := 1, cap := 5000, pix := 1, row := 1, spent := 24 } : Band))]) ∧
  ((({ num := 3, src := {}, type := 2, bands := [{ ctus := 1, cap := 5000, pix := 1, row := 1, spent := 24 }] } :
  EncPic)).src.host = none) ∧ ((((W.of fun d => W.enc
  { cfg := some W.encBytes, pics := [{ num := 3, src := {}, type := 2, bands := [{ ctus := 1, cap := 5000, pix := 1, row := 1, spent := 24 }] }] }
  (id d))).dev.enc (0)).held = []) ∧ ((((W.of fun d => W.enc
  { cfg := some W.encBytes, pics := [{ num := 3, src := {}, type := 2, bands := [{ ctus := 1, cap := 5000, pix := 1, row := 1, spent := 24 }] }] }
  (id d))).dev.enc (0)).ready = []) ∧ ((((W.of fun d => W.enc
  { cfg := some W.encBytes, pics := [{ num := 3, src := {}, type := 2, bands := [{ ctus := 1, cap := 5000, pix := 1, row := 1, spent := 24 }] }] }
  (id d))).dev.enc (0)).nextCfg = none) ∧ ((((W.of fun d => W.enc
  { cfg := some W.encBytes, pics := [{ num := 3, src := {}, type := 2, bands := [{ ctus := 1, cap := 5000, pix := 1, row := 1, spent := 24 }] }] }
  (id d))).dev.enc (0)).ending = none) ∧ ((((W.of fun d => W.enc
  { cfg := some W.encBytes, pics := [{ num := 3, src := {}, type := 2, bands := [{ ctus := 1, cap := 5000, pix := 1, row := 1, spent := 24 }] }] }
  (id d))).dev.enc (0)).releasing = false) ∧ ((((W.of fun d => W.enc
  { cfg := some W.encBytes, pics := [{ num := 3, src := {}, type := 2, bands := [{ ctus := 1, cap := 5000, pix := 1, row := 1, spent := 24 }] }] }
  (id d))).dev.enc (0)).later = []) ∧ ((((W.of fun d => W.enc
  { cfg := some W.encBytes, pics := [{ num := 3, src := {}, type := 2, bands := [{ ctus := 1, cap := 5000, pix := 1, row := 1, spent := 24 }] }] }
  (id d))).dev.enc (0)).cfg!.ringAddr = 0) ∧
  ((({ num := 3, src := {}, type := 2, bands := [{ ctus := 1, cap := 5000, pix := 1, row := 1, spent := 24 }] } :
  EncPic)).done (((W.of fun d => W.enc
  { cfg := some W.encBytes, pics := [{ num := 3, src := {}, type := 2, bands := [{ ctus := 1, cap := 5000, pix := 1, row := 1, spent := 24 }] }] }
  (id d))).dev.enc (0)).cfg!.rows = true) ∧ ((([7, 8, 9] : List Byte)).length = ceilDiv
  ((({ ctus := 1, cap := 5000, pix := 1, row := 1, spent := 24 } : Band)).spent + (((W.of fun d => W.enc
  { cfg := some W.encBytes, pics := [{ num := 3, src := {}, type := 2, bands := [{ ctus := 1, cap := 5000, pix := 1, row := 1, spent := 24 }] }] }
  (id d))).dev.enc (0)).filler (({ ctus := 1, cap := 5000, pix := 1, row := 1, spent := 24 } : Band)).spent) 8) ∧
  ((({ num := 3, src := {}, type := 2, bands := [{ ctus := 1, cap := 5000, pix := 1, row := 1, spent := 24 }] } :
  EncPic)).fixed = false) ∧ ((((W.of fun d => W.enc
  { cfg := some W.encBytes, pics := [{ num := 3, src := {}, type := 2, bands := [{ ctus := 1, cap := 5000, pix := 1, row := 1, spent := 24 }] }] }
  (id d))).dev.enc (0)).cfg!.mode ≠ 3 ∨
  (({ num := 3, src := {}, type := 2, bands := [{ ctus := 1, cap := 5000, pix := 1, row := 1, spent := 24 }] } :
  EncPic)).qp * 256 ≤ (26 * 256)) ∧ ((((W.of fun d => W.enc
  { cfg := some W.encBytes, pics := [{ num := 3, src := {}, type := 2, bands := [{ ctus := 1, cap := 5000, pix := 1, row := 1, spent := 24 }] }] }
  (id d))).dev.enc (0)).cfg!.qpMin * 256 ≤ (26 * 256)) ∧ ((26 * 256) ≤ (((W.of fun d => W.enc
  { cfg := some W.encBytes, pics := [{ num := 3, src := {}, type := 2, bands := [{ ctus := 1, cap := 5000, pix := 1, row := 1, spent := 24 }] }] }
  (id d))).dev.enc (0)).cfg!.qpMax * 256) := by decide

theorem wit_floor : ({ ctus := 1, cap := 2000, pix := 1 } : Band).row < (encCfg W.encBytes).rows ∧ 1100 ≤ (encCfg W.encBytes).floorRow true 1 0 ∧ 0 + (encCfg W.encBytes).reserve true 1 0 ≤ 2000 := by decide

theorem wit_decConfig : ((0) < 128) ∧ ((5) < 2 ^ 64) ∧ (Starts (((W.of (W.run [W.cmd 0x91 [(6, 64)]]))).dev.see (({}
  : HostView))) (0) (5) 0x91 ((W.cmd 0x91 [(6, 64)] : Cmd)) = true) ∧ ((0) = sf ((W.cmd 0x91 [(6, 64)] : Cmd)).entry
  1 0 6) ∧ (sf ((W.cmd 0x91 [(6, 64)] : Cmd)).entry 8 0 2 = 0) ∧ (((W.of (W.run [W.cmd 0x91 [(6,
  64)]]))).dev.ownerOf 3 (0) = ((W.cmd 0x91 [(6, 64)] : Cmd)).part) ∧ (((W.of (W.run [W.cmd 0x91 [(6,
  64)]]))).dev.decTurn ((W.cmd 0x91 [(6, 64)] : Cmd)) = true) ∧ (0x28 ≤ dwAt ((W.cmd 0x91 [(6, 64)] : Cmd)).entry 6)
  := by decide

theorem wit_decDecode : ((0) < 128) ∧ ((5) < 2 ^ 64) ∧ (Starts (((W.of fun d => (fun d =>
  { d with pip := { d.pip with decs := [(0, { cfg := some W.decBytes })] } }) (W.run [W.cmd 0x91 [(6, 64), (8, 1)]]
  d))).dev.see (({} : HostView))) (0) (5) 0x91 ((W.cmd 0x91 [(6, 64), (8, 1)] : Cmd)) = true) ∧ ((0) = sf ((W.cmd
  0x91 [(6, 64), (8, 1)] : Cmd)).entry 1 0 6) ∧ (sf ((W.cmd 0x91 [(6, 64), (8, 1)] : Cmd)).entry 8 0 2 = 1) ∧
  (((W.of fun d => (fun d => { d with pip := { d.pip with decs := [(0, { cfg := some W.decBytes })] } }) (W.run
  [W.cmd 0x91 [(6, 64), (8, 1)]] d))).dev.ownerOf 3 (0) = ((W.cmd 0x91 [(6, 64), (8, 1)] : Cmd)).part) ∧ (((W.of fun
  d => (fun d => { d with pip := { d.pip with decs := [(0, { cfg := some W.decBytes })] } }) (W.run [W.cmd 0x91 [(6,
  64), (8, 1)]] d))).dev.decTurn ((W.cmd 0x91 [(6, 64), (8, 1)] : Cmd)) = true) ∧ ((((W.of fun d => (fun d =>
  { d with pip := { d.pip with decs := [(0, { cfg := some W.decBytes })] } }) (W.run [W.cmd 0x91 [(6, 64), (8, 1)]]
  d))).dev.dec (0)).cfg.isSome = true) := by decide

theorem wit_decDrain : ((0) < 128) ∧ ((5) < 2 ^ 64) ∧ (Starts (((W.of fun d => (fun d =>
  { d with pip := { d.pip with decs := [(0, { cfg := some W.decBytes, held := [{ w := 1, h := 1, chroma := 1, depth := 8, poc := 0, planes := [], hide := true }] })] } })
  (W.run [W.cmd 0x91 [(8, 2)]] d))).dev.see (({} : HostView))) (0) (5) 0x91 ((W.cmd 0x91 [(8, 2)] : Cmd)) = true) ∧
  ((0) = sf ((W.cmd 0x91 [(8, 2)] : Cmd)).entry 1 0 6) ∧ (sf ((W.cmd 0x91 [(8, 2)] : Cmd)).entry 8 0 2 = 2) ∧
  (((W.of fun d => (fun d =>
  { d with pip := { d.pip with decs := [(0, { cfg := some W.decBytes, held := [{ w := 1, h := 1, chroma := 1, depth := 8, poc := 0, planes := [], hide := true }] })] } })
  (W.run [W.cmd 0x91 [(8, 2)]] d))).dev.ownerOf 3 (0) = ((W.cmd 0x91 [(8, 2)] : Cmd)).part) ∧ (((W.of fun d => (fun
  d =>
  { d with pip := { d.pip with decs := [(0, { cfg := some W.decBytes, held := [{ w := 1, h := 1, chroma := 1, depth := 8, poc := 0, planes := [], hide := true }] })] } })
  (W.run [W.cmd 0x91 [(8, 2)]] d))).dev.decTurn ((W.cmd 0x91 [(8, 2)] : Cmd)) = true) ∧ ((((W.of fun d => (fun d =>
  { d with pip := { d.pip with decs := [(0, { cfg := some W.decBytes, held := [{ w := 1, h := 1, chroma := 1, depth := 8, poc := 0, planes := [], hide := true }] })] } })
  (W.run [W.cmd 0x91 [(8, 2)]] d))).dev.dec (0)).cfg.isSome = true) ∧ ((((W.of fun d => (fun d =>
  { d with pip := { d.pip with decs := [(0, { cfg := some W.decBytes, held := [{ w := 1, h := 1, chroma := 1, depth := 8, poc := 0, planes := [], hide := true }] })] } })
  (W.run [W.cmd 0x91 [(8, 2)]] d))).dev.dec (0)).held.all (·.hide) = true) ∧ ((((W.of fun d => (fun d =>
  { d with pip := { d.pip with decs := [(0, { cfg := some W.decBytes, held := [{ w := 1, h := 1, chroma := 1, depth := 8, poc := 0, planes := [], hide := true }] })] } })
  (W.run [W.cmd 0x91 [(8, 2)]] d))).dev.dec (0)).blocked = []) := by decide

theorem wit_decRelease : ((0) < 128) ∧ ((5) < 2 ^ 64) ∧ (Starts (((W.of fun d => (fun d =>
  { d with pip := { d.pip with decs := [(0, { cfg := some W.decBytes, unsupported := true })] } }) (W.run [W.cmd
  0x91 [(8, 3)]] d))).dev.see (({} : HostView))) (0) (5) 0x91 ((W.cmd 0x91 [(8, 3)] : Cmd)) = true) ∧ ((0) = sf
  ((W.cmd 0x91 [(8, 3)] : Cmd)).entry 1 0 6) ∧ (sf ((W.cmd 0x91 [(8, 3)] : Cmd)).entry 8 0 2 = 3) ∧ (((W.of fun d =>
  (fun d => { d with pip := { d.pip with decs := [(0, { cfg := some W.decBytes, unsupported := true })] } }) (W.run
  [W.cmd 0x91 [(8, 3)]] d))).dev.ownerOf 3 (0) = ((W.cmd 0x91 [(8, 3)] : Cmd)).part) ∧ (((W.of fun d => (fun d =>
  { d with pip := { d.pip with decs := [(0, { cfg := some W.decBytes, unsupported := true })] } }) (W.run [W.cmd
  0x91 [(8, 3)]] d))).dev.decTurn ((W.cmd 0x91 [(8, 3)] : Cmd)) = true) ∧ ((((W.of fun d => (fun d =>
  { d with pip := { d.pip with decs := [(0, { cfg := some W.decBytes, unsupported := true })] } }) (W.run [W.cmd
  0x91 [(8, 3)]] d))).dev.dec (0)).held.all (·.hide) = true) ∧ ((((W.of fun d => (fun d =>
  { d with pip := { d.pip with decs := [(0, { cfg := some W.decBytes, unsupported := true })] } }) (W.run [W.cmd
  0x91 [(8, 3)]] d))).dev.dec (0)).blocked = []) := by decide

theorem wit_decUnitStart : ((1) < 2) ∧ ((0) < 64) ∧ ((([3] : List Nat)).all (fun y => y < 2 ^ 16) = true) ∧ (Ready
  ((W.of fun d => (fun d =>
  { d with pip := { d.pip with decs := [(0, { cfg := some W.decBytes, units := [⟨0, 5, false⟩] })] } }) (W.run
  [{ W.cmd 0x91 [(6, 64), (8, 1)] with phase := .running }] d))).dev = true) ∧ (((W.of fun d => (fun d =>
  { d with pip := { d.pip with decs := [(0, { cfg := some W.decBytes, units := [⟨0, 5, false⟩] })] } }) (W.run
  [{ W.cmd 0x91 [(6, 64), (8, 1)] with phase := .running }] d))).dev.allAwake = true) ∧ ((((W.of fun d => (fun d =>
  { d with pip := { d.pip with decs := [(0, { cfg := some W.decBytes, units := [⟨0, 5, false⟩] })] } }) (W.run
  [{ W.cmd 0x91 [(6, 64), (8, 1)] with phase := .running }] d))).dev.dec (0)).units = ((⟨0, 5, false⟩ : DecUnit)) ::
  (([] : List DecUnit))) ∧ (((W.of fun d => (fun d =>
  { d with pip := { d.pip with decs := [(0, { cfg := some W.decBytes, units := [⟨0, 5, false⟩] })] } }) (W.run
  [{ W.cmd 0x91 [(6, 64), (8, 1)] with phase := .running }] d))).dev.decOn (1) = none) ∧ ((((W.of fun d => (fun d =>
  { d with pip := { d.pip with decs := [(0, { cfg := some W.decBytes, units := [⟨0, 5, false⟩] })] } }) (W.run
  [{ W.cmd 0x91 [(6, 64), (8, 1)] with phase := .running }] d))).dev.dec (0)).takes (1) = true) ∧ (((W.of fun d =>
  (fun d => { d with pip := { d.pip with decs := [(0, { cfg := some W.decBytes, units := [⟨0, 5, false⟩] })] } })
  (W.run [{ W.cmd 0x91 [(6, 64), (8, 1)] with phase := .running }] d))).dev.works (Pg.DECENT (1)) = true) ∧ (((W.of
  fun d => (fun d =>
  { d with pip := { d.pip with decs := [(0, { cfg := some W.decBytes, units := [⟨0, 5, false⟩] })] } }) (W.run
  [{ W.cmd 0x91 [(6, 64), (8, 1)] with phase := .running }] d))).dev.works (Pg.DECPIX (1)) = true) ∧ (((W.of fun d
  => (fun d => { d with pip := { d.pip with decs := [(0, { cfg := some W.decBytes, units := [⟨0, 5, false⟩] })] } })
  (W.run [{ W.cmd 0x91 [(6, 64), (8, 1)] with phase := .running }] d))).dev.works (Pg.DECERR (1)) = true) ∧ (((W.of
  fun d => (fun d =>
  { d with pip := { d.pip with decs := [(0, { cfg := some W.decBytes, units := [⟨0, 5, false⟩] })] } }) (W.run
  [{ W.cmd 0x91 [(6, 64), (8, 1)] with phase := .running }] d))).dev.shed < 2) ∧ (((W.of fun d => (fun d =>
  { d with pip := { d.pip with decs := [(0, { cfg := some W.decBytes, units := [⟨0, 5, false⟩] })] } }) (W.run
  [{ W.cmd 0x91 [(6, 64), (8, 1)] with phase := .running }] d))).dev.pip.decs.all (fun e => e.1 = (0)) = true) ∧
  (((W.of fun d => (fun d =>
  { d with pip := { d.pip with decs := [(0, { cfg := some W.decBytes, units := [⟨0, 5, false⟩] })] } }) (W.run
  [{ W.cmd 0x91 [(6, 64), (8, 1)] with phase := .running }] d))).dev.cmd? ((⟨0, 5, false⟩ : DecUnit)).part ((⟨0, 5,
  false⟩ : DecUnit)).asn = some (({ W.cmd 0x91 [(6, 64), (8, 1)] with phase := .running } : Cmd))) ∧ ((((W.of fun d
  => (fun d => { d with pip := { d.pip with decs := [(0, { cfg := some W.decBytes, units := [⟨0, 5, false⟩] })] } })
  (W.run [{ W.cmd 0x91 [(6, 64), (8, 1)] with phase := .running }] d))).dev.dec (0)).unsupported = false) ∧ (((W.of
  fun d => (fun d =>
  { d with pip := { d.pip with decs := [(0, { cfg := some W.decBytes, units := [⟨0, 5, false⟩] })] } }) (W.run
  [{ W.cmd 0x91 [(6, 64), (8, 1)] with phase := .running }] d))).dev.assisted (Pg.DECERR (1)) = false) := by decide

theorem wit_decUnitStart_unsupported : ((1) < 2) ∧ ((0) < 64) ∧ ((([7, 1, 8, 64, 64] : List Nat)).length = 5) ∧
  ((([7, 1, 8, 64, 64] : List Nat)).all (fun y => y < 2 ^ 16) = true) ∧ ((([3] : List Nat)).all (fun y => y < 2 ^
  16) = true) ∧ (Ready ((W.of fun d => (fun d =>
  { d with pip := { d.pip with decs := [(0, { cfg := some W.decBytes, units := [⟨0, 5, false⟩] })] } }) (W.run
  [{ W.cmd 0x91 [(6, 64), (8, 1)] with phase := .running }] d))).dev = true) ∧ (((W.of fun d => (fun d =>
  { d with pip := { d.pip with decs := [(0, { cfg := some W.decBytes, units := [⟨0, 5, false⟩] })] } }) (W.run
  [{ W.cmd 0x91 [(6, 64), (8, 1)] with phase := .running }] d))).dev.allAwake = true) ∧ ((((W.of fun d => (fun d =>
  { d with pip := { d.pip with decs := [(0, { cfg := some W.decBytes, units := [⟨0, 5, false⟩] })] } }) (W.run
  [{ W.cmd 0x91 [(6, 64), (8, 1)] with phase := .running }] d))).dev.dec (0)).units = ((⟨0, 5, false⟩ : DecUnit)) ::
  (([] : List DecUnit))) ∧ (((W.of fun d => (fun d =>
  { d with pip := { d.pip with decs := [(0, { cfg := some W.decBytes, units := [⟨0, 5, false⟩] })] } }) (W.run
  [{ W.cmd 0x91 [(6, 64), (8, 1)] with phase := .running }] d))).dev.decOn (1) = none) ∧ ((((W.of fun d => (fun d =>
  { d with pip := { d.pip with decs := [(0, { cfg := some W.decBytes, units := [⟨0, 5, false⟩] })] } }) (W.run
  [{ W.cmd 0x91 [(6, 64), (8, 1)] with phase := .running }] d))).dev.dec (0)).takes (1) = true) ∧ (((W.of fun d =>
  (fun d => { d with pip := { d.pip with decs := [(0, { cfg := some W.decBytes, units := [⟨0, 5, false⟩] })] } })
  (W.run [{ W.cmd 0x91 [(6, 64), (8, 1)] with phase := .running }] d))).dev.works (Pg.DECENT (1)) = true) ∧ (((W.of
  fun d => (fun d =>
  { d with pip := { d.pip with decs := [(0, { cfg := some W.decBytes, units := [⟨0, 5, false⟩] })] } }) (W.run
  [{ W.cmd 0x91 [(6, 64), (8, 1)] with phase := .running }] d))).dev.works (Pg.DECPIX (1)) = true) ∧ (((W.of fun d
  => (fun d => { d with pip := { d.pip with decs := [(0, { cfg := some W.decBytes, units := [⟨0, 5, false⟩] })] } })
  (W.run [{ W.cmd 0x91 [(6, 64), (8, 1)] with phase := .running }] d))).dev.works (Pg.DECERR (1)) = true) ∧ (((W.of
  fun d => (fun d =>
  { d with pip := { d.pip with decs := [(0, { cfg := some W.decBytes, units := [⟨0, 5, false⟩] })] } }) (W.run
  [{ W.cmd 0x91 [(6, 64), (8, 1)] with phase := .running }] d))).dev.shed < 2) ∧ (((W.of fun d => (fun d =>
  { d with pip := { d.pip with decs := [(0, { cfg := some W.decBytes, units := [⟨0, 5, false⟩] })] } }) (W.run
  [{ W.cmd 0x91 [(6, 64), (8, 1)] with phase := .running }] d))).dev.pip.decs.all (fun e => e.1 = (0)) = true) ∧
  (((W.of fun d => (fun d =>
  { d with pip := { d.pip with decs := [(0, { cfg := some W.decBytes, units := [⟨0, 5, false⟩] })] } }) (W.run
  [{ W.cmd 0x91 [(6, 64), (8, 1)] with phase := .running }] d))).dev.cmd? ((⟨0, 5, false⟩ : DecUnit)).part ((⟨0, 5,
  false⟩ : DecUnit)).asn = some (({ W.cmd 0x91 [(6, 64), (8, 1)] with phase := .running } : Cmd))) ∧ ((((W.of fun d
  => (fun d => { d with pip := { d.pip with decs := [(0, { cfg := some W.decBytes, units := [⟨0, 5, false⟩] })] } })
  (W.run [{ W.cmd 0x91 [(6, 64), (8, 1)] with phase := .running }] d))).dev.dec (0)).cfg!.supports (([7, 1, 8, 64,
  64] : List Nat)) = false) ∧ ((({ W.cmd 0x91 [(6, 64), (8, 1)] with phase := .running } : Cmd)).part = ((⟨0, 5,
  false⟩ : DecUnit)).part) ∧ ((({ W.cmd 0x91 [(6, 64), (8, 1)] with phase := .running } : Cmd)).asn = ((⟨0, 5,
  false⟩ : DecUnit)).asn) := by decide

theorem wit_decWatchdog : ((1) < 2) ∧ (Ready ((W.of fun d => (fun d =>
  { d with pip := { d.pip with decs := [(0, { cfg := some W.decBytes, run := some { part := 0, asn := 5, tag := 9, engine := some 1 } })] } })
  (id d))).dev = true) ∧ (((W.of fun d => (fun d =>
  { d with pip := { d.pip with decs := [(0, { cfg := some W.decBytes, run := some { part := 0, asn := 5, tag := 9, engine := some 1 } })] } })
  (id d))).dev.decOn (1) = some ((0),
  (({ cfg := some W.decBytes, run := some { part := 0, asn := 5, tag := 9, engine := some 1 } } : DecCtx)))) ∧
  ((({ cfg := some W.decBytes, run := some { part := 0, asn := 5, tag := 9, engine := some 1 } } : DecCtx)).run =
  some (({ part := 0, asn := 5, tag := 9, engine := some 1 } : DecRun))) ∧
  ((({ part := 0, asn := 5, tag := 9, engine := some 1 } : DecRun)).started +
  (({ cfg := some W.decBytes, run := some { part := 0, asn := 5, tag := 9, engine := some 1 } } : DecCtx)).budget *
  2 ^ 32 ≤ ((W.of fun d => (fun d =>
  { d with pip := { d.pip with decs := [(0, { cfg := some W.decBytes, run := some { part := 0, asn := 5, tag := 9, engine := some 1 } })] } })
  (id d))).dev.clock) := by decide

theorem wit_decUnitEnd : ((0) < 64) ∧ ((1) < 2) ∧ (Ready ((W.of fun d => (fun d =>
  { d with pip := { d.pip with decs := [(0, { cfg := some W.decBytes, run := some { part := 0, asn := 5, tag := 9, engine := some 1 } })] } })
  (W.run [W.cmd 0x91 [(6, 64), (8, 1)]] d))).dev = true) ∧ ((((W.of fun d => (fun d =>
  { d with pip := { d.pip with decs := [(0, { cfg := some W.decBytes, run := some { part := 0, asn := 5, tag := 9, engine := some 1 } })] } })
  (W.run [W.cmd 0x91 [(6, 64), (8, 1)]] d))).dev.dec (0)).run = some
  (({ part := 0, asn := 5, tag := 9, engine := some 1 } : DecRun))) ∧
  ((({ part := 0, asn := 5, tag := 9, engine := some 1 } : DecRun)).engine = some (1)) ∧
  ((({ part := 0, asn := 5, tag := 9, engine := some 1 } : DecRun)).asking = []) ∧
  ((({ part := 0, asn := 5, tag := 9, engine := some 1 } : DecRun)).closed.all (fun y => y.1 <
  (([{ w := 1, h := 1, chroma := 1, depth := 8, poc := 0, planes := [], blocks := [(0, 0, 1, 1)] }] : List
  Picture)).length) = true) := by decide

theorem wit_decOrder : (decCfg W.decBytes).codec ≠ 1 := by decide

theorem wit_dspCommit : ((0) < 64) ∧ ((3) < 16) ∧ ((0x10007) < 2 ^ 32) ∧ (Taken (W.on).dev (0) (Pg.DSP (3)) 0x140 =
  true) := by decide

theorem wit_applyPoint : ((3) < 16) ∧ (Ready ((W.of fun d => (d.wr (Pg.DSP 3) Reg.HDR.EN 1).setDsp 3
  { commits := [(4, false), (7, true)] })).dev = true) ∧ (((W.of fun d => (d.wr (Pg.DSP 3) Reg.HDR.EN 1).setDsp 3
  { commits := [(4, false), (7, true)] })).dev.works (Pg.DSP (3)) = true) ∧ ((((W.of fun d => (d.wr (Pg.DSP 3)
  Reg.HDR.EN 1).setDsp 3 { commits := [(4, false), (7, true)] })).dev.dsp (3)).commits.getLast? = some ((7), ((true
  : Bool)))) := by decide

theorem wit_dspFrameStart : ((3) < 16) ∧ (Ready ((W.of fun d => (d.wr (Pg.DSP 3) Reg.HDR.EN 1).setDsp 3
  { applied := true, next := some { page := Pg.DSP 3 } })).dev = true) ∧ (((W.of fun d => (d.wr (Pg.DSP 3)
  Reg.HDR.EN 1).setDsp 3 { applied := true, next := some { page := Pg.DSP 3 } })).dev.works (Pg.DSP (3)) = true) ∧
  (((W.of fun d => (d.wr (Pg.DSP 3) Reg.HDR.EN 1).setDsp 3
  { applied := true, next := some { page := Pg.DSP 3 } })).dev.timing (3) = 0) ∧ ((((W.of fun d => (d.wr (Pg.DSP 3)
  Reg.HDR.EN 1).setDsp 3 { applied := true, next := some { page := Pg.DSP 3 } })).dev.dsp (3)).blanked = false) ∧
  ((((W.of fun d => (d.wr (Pg.DSP 3) Reg.HDR.EN 1).setDsp 3
  { applied := true, next := some { page := Pg.DSP 3 } })).dev.dsp (3)).next = some (({ page := Pg.DSP 3 } : Shot)))
  := by decide

theorem wit_teInput : ((1) < 2) ∧ ((3) < 16) ∧ (((W.of fun d => (d.wr (Pg.DSP 3) Reg.HDR.EN 1).wrA (Pg.DSP 3)
  Reg.DSP.TIMING_SRC 2 |>.wrA (Pg.DSP 3) Reg.DSP.TE_SEL 1)).dev.stopped = false) ∧ (((W.of fun d => (d.wr (Pg.DSP 3)
  Reg.HDR.EN 1).wrA (Pg.DSP 3) Reg.DSP.TIMING_SRC 2 |>.wrA (Pg.DSP 3) Reg.DSP.TE_SEL 1)).dev.works (Pg.DSP (3)) =
  true) ∧ (((W.of fun d => (d.wr (Pg.DSP 3) Reg.HDR.EN 1).wrA (Pg.DSP 3) Reg.DSP.TIMING_SRC 2 |>.wrA (Pg.DSP 3)
  Reg.DSP.TE_SEL 1)).dev.rdA (Pg.DSP (3)) Reg.DSP.TE_SEL = (1)) ∧ (((W.of fun d => (d.wr (Pg.DSP 3) Reg.HDR.EN
  1).wrA (Pg.DSP 3) Reg.DSP.TIMING_SRC 2 |>.wrA (Pg.DSP 3) Reg.DSP.TE_SEL 1)).dev.timing (3) = 2) ∧ ((match (((W.of
  fun d => (d.wr (Pg.DSP 3) Reg.HDR.EN 1).wrA (Pg.DSP 3) Reg.DSP.TIMING_SRC 2 |>.wrA (Pg.DSP 3) Reg.DSP.TE_SEL
  1)).dev.dsp (3)).start with | some y => decide (((W.of fun d => (d.wr (Pg.DSP 3) Reg.HDR.EN 1).wrA (Pg.DSP 3)
  Reg.DSP.TIMING_SRC 2 |>.wrA (Pg.DSP 3) Reg.DSP.TE_SEL 1)).dev.activeEnd (3) y ≤ ((W.of fun d => (d.wr (Pg.DSP 3)
  Reg.HDR.EN 1).wrA (Pg.DSP 3) Reg.DSP.TIMING_SRC 2 |>.wrA (Pg.DSP 3) Reg.DSP.TE_SEL 1)).dev.now) | none => true) =
  true) := by decide

theorem wit_teTimeout : ((3) < 16) ∧ (((W.of fun d => ((d.wr (Pg.DSP 3) Reg.HDR.EN 1).wrA (Pg.DSP 3)
  Reg.DSP.TIMING_SRC 2).setDsp 3 { next := some { page := Pg.DSP 3 } })).dev.stopped = false) ∧ (((W.of fun d =>
  ((d.wr (Pg.DSP 3) Reg.HDR.EN 1).wrA (Pg.DSP 3) Reg.DSP.TIMING_SRC 2).setDsp 3
  { next := some { page := Pg.DSP 3 } })).dev.works (Pg.DSP (3)) = true) ∧ (((W.of fun d => ((d.wr (Pg.DSP 3)
  Reg.HDR.EN 1).wrA (Pg.DSP 3) Reg.DSP.TIMING_SRC 2).setDsp 3 { next := some { page := Pg.DSP 3 } })).dev.timing (3)
  = 2) ∧ ((((W.of fun d => ((d.wr (Pg.DSP 3) Reg.HDR.EN 1).wrA (Pg.DSP 3) Reg.DSP.TIMING_SRC 2).setDsp 3
  { next := some { page := Pg.DSP 3 } })).dev.dsp (3)).te = none) ∧ ((((W.of fun d => ((d.wr (Pg.DSP 3) Reg.HDR.EN
  1).wrA (Pg.DSP 3) Reg.DSP.TIMING_SRC 2).setDsp 3 { next := some { page := Pg.DSP 3 } })).dev.dsp (3)).next = some
  (({ page := Pg.DSP 3 } : Shot))) := by decide

theorem wit_teEvent : ((3) < 32) ∧ ((3) < 16) ∧ (((W.of fun d => ((((d.wr (Pg.DSP 3) Reg.HDR.EN 1).wrA (Pg.DSP 3)
  Reg.DSP.TIMING_SRC 2).wrA (Pg.DSP 3) Reg.DSP.TE_SEL 2).wrA (Pg.DSP 3) Reg.DSP.TE_HEAD 7).setGroup 3
  { rx := [⟨8 + 0x46 * 2 ^ 37, [9000, 0], 0⟩], vcs := [(0, { head := 7, uid := 1, pixelRate := 5, lead := 0, spareOk := true, teCap := false, retvidCap := false, digest := 0 })] })).dev.stopped
  = false) ∧ (((W.of fun d => ((((d.wr (Pg.DSP 3) Reg.HDR.EN 1).wrA (Pg.DSP 3) Reg.DSP.TIMING_SRC 2).wrA (Pg.DSP 3)
  Reg.DSP.TE_SEL 2).wrA (Pg.DSP 3) Reg.DSP.TE_HEAD 7).setGroup 3
  { rx := [⟨8 + 0x46 * 2 ^ 37, [9000, 0], 0⟩], vcs := [(0, { head := 7, uid := 1, pixelRate := 5, lead := 0, spareOk := true, teCap := false, retvidCap := false, digest := 0 })] })).dev.allAwake
  = true) ∧ ((((W.of fun d => ((((d.wr (Pg.DSP 3) Reg.HDR.EN 1).wrA (Pg.DSP 3) Reg.DSP.TIMING_SRC 2).wrA (Pg.DSP 3)
  Reg.DSP.TE_SEL 2).wrA (Pg.DSP 3) Reg.DSP.TE_HEAD 7).setGroup 3
  { rx := [⟨8 + 0x46 * 2 ^ 37, [9000, 0], 0⟩], vcs := [(0, { head := 7, uid := 1, pixelRate := 5, lead := 0, spareOk := true, teCap := false, retvidCap := false, digest := 0 })] })).dev.group
  (3)).rx = ((⟨8 + 0x46 * 2 ^ 37, [9000, 0], 0⟩ : Packet)) :: ((([] : List Packet) : List Packet))) ∧ (pType ((⟨8 +
  0x46 * 2 ^ 37, [9000, 0], 0⟩ : Packet)).header = 8) ∧ (bits ((⟨8 + 0x46 * 2 ^ 37, [9000, 0], 0⟩ : Packet)).header
  37 8 = 0x46) ∧ (Assoc.find (((W.of fun d => ((((d.wr (Pg.DSP 3) Reg.HDR.EN 1).wrA (Pg.DSP 3) Reg.DSP.TIMING_SRC
  2).wrA (Pg.DSP 3) Reg.DSP.TE_SEL 2).wrA (Pg.DSP 3) Reg.DSP.TE_HEAD 7).setGroup 3
  { rx := [⟨8 + 0x46 * 2 ^ 37, [9000, 0], 0⟩], vcs := [(0, { head := 7, uid := 1, pixelRate := 5, lead := 0, spareOk := true, teCap := false, retvidCap := false, digest := 0 })] })).dev.group
  (3)).vcs (pVc ((⟨8 + 0x46 * 2 ^ 37, [9000, 0], 0⟩ : Packet)).header) = some
  (({ head := 7, uid := 1, pixelRate := 5, lead := 0, spareOk := true, teCap := false, retvidCap := false, digest := 0 }
  : Binding))) ∧ (((W.of fun d => ((((d.wr (Pg.DSP 3) Reg.HDR.EN 1).wrA (Pg.DSP 3) Reg.DSP.TIMING_SRC 2).wrA (Pg.DSP
  3) Reg.DSP.TE_SEL 2).wrA (Pg.DSP 3) Reg.DSP.TE_HEAD 7).setGroup 3
  { rx := [⟨8 + 0x46 * 2 ^ 37, [9000, 0], 0⟩], vcs := [(0, { head := 7, uid := 1, pixelRate := 5, lead := 0, spareOk := true, teCap := false, retvidCap := false, digest := 0 })] })).dev.works
  (Pg.DSP (3)) = true) ∧ (((W.of fun d => ((((d.wr (Pg.DSP 3) Reg.HDR.EN 1).wrA (Pg.DSP 3) Reg.DSP.TIMING_SRC 2).wrA
  (Pg.DSP 3) Reg.DSP.TE_SEL 2).wrA (Pg.DSP 3) Reg.DSP.TE_HEAD 7).setGroup 3
  { rx := [⟨8 + 0x46 * 2 ^ 37, [9000, 0], 0⟩], vcs := [(0, { head := 7, uid := 1, pixelRate := 5, lead := 0, spareOk := true, teCap := false, retvidCap := false, digest := 0 })] })).dev.timing
  (3) = 2) ∧ ((((W.of fun d => ((((d.wr (Pg.DSP 3) Reg.HDR.EN 1).wrA (Pg.DSP 3) Reg.DSP.TIMING_SRC 2).wrA (Pg.DSP 3)
  Reg.DSP.TE_SEL 2).wrA (Pg.DSP 3) Reg.DSP.TE_HEAD 7).setGroup 3
  { rx := [⟨8 + 0x46 * 2 ^ 37, [9000, 0], 0⟩], vcs := [(0, { head := 7, uid := 1, pixelRate := 5, lead := 0, spareOk := true, teCap := false, retvidCap := false, digest := 0 })] })).dev.dsp
  (3)).start = none) ∧ (((W.of fun d => ((((d.wr (Pg.DSP 3) Reg.HDR.EN 1).wrA (Pg.DSP 3) Reg.DSP.TIMING_SRC 2).wrA
  (Pg.DSP 3) Reg.DSP.TE_SEL 2).wrA (Pg.DSP 3) Reg.DSP.TE_HEAD 7).setGroup 3
  { rx := [⟨8 + 0x46 * 2 ^ 37, [9000, 0], 0⟩], vcs := [(0, { head := 7, uid := 1, pixelRate := 5, lead := 0, spareOk := true, teCap := false, retvidCap := false, digest := 0 })] })).dev.now
  ≤ (((⟨8 + 0x46 * 2 ^ 37, [9000, 0], 0⟩ : Packet)).words.getD 0 0) % 2 ^ 64 * 2 ^ 32 + bits (((⟨8 + 0x46 * 2 ^ 37,
  [9000, 0], 0⟩ : Packet)).words.getD 1 0) 0 32 + ((W.of fun d => ((((d.wr (Pg.DSP 3) Reg.HDR.EN 1).wrA (Pg.DSP 3)
  Reg.DSP.TIMING_SRC 2).wrA (Pg.DSP 3) Reg.DSP.TE_SEL 2).wrA (Pg.DSP 3) Reg.DSP.TE_HEAD 7).setGroup 3
  { rx := [⟨8 + 0x46 * 2 ^ 37, [9000, 0], 0⟩], vcs := [(0, { head := 7, uid := 1, pixelRate := 5, lead := 0, spareOk := true, teCap := false, retvidCap := false, digest := 0 })] })).dev.rdA
  (Pg.DSP (3)) Reg.DSP.TE_DELAY * 2 ^ 32) ∧ (((List.range 16).filter fun y => ((W.of fun d => ((((d.wr (Pg.DSP 3)
  Reg.HDR.EN 1).wrA (Pg.DSP 3) Reg.DSP.TIMING_SRC 2).wrA (Pg.DSP 3) Reg.DSP.TE_SEL 2).wrA (Pg.DSP 3) Reg.DSP.TE_HEAD
  7).setGroup 3
  { rx := [⟨8 + 0x46 * 2 ^ 37, [9000, 0], 0⟩], vcs := [(0, { head := 7, uid := 1, pixelRate := 5, lead := 0, spareOk := true, teCap := false, retvidCap := false, digest := 0 })] })).dev.rdA
  (Pg.DSP y) Reg.DSP.TE_SEL = 2 && ((W.of fun d => ((((d.wr (Pg.DSP 3) Reg.HDR.EN 1).wrA (Pg.DSP 3)
  Reg.DSP.TIMING_SRC 2).wrA (Pg.DSP 3) Reg.DSP.TE_SEL 2).wrA (Pg.DSP 3) Reg.DSP.TE_HEAD 7).setGroup 3
  { rx := [⟨8 + 0x46 * 2 ^ 37, [9000, 0], 0⟩], vcs := [(0, { head := 7, uid := 1, pixelRate := 5, lead := 0, spareOk := true, teCap := false, retvidCap := false, digest := 0 })] })).dev.rdA
  (Pg.DSP y) Reg.DSP.TE_HEAD =
  (({ head := 7, uid := 1, pixelRate := 5, lead := 0, spareOk := true, teCap := false, retvidCap := false, digest := 0 }
  : Binding)).head && ((W.of fun d => ((((d.wr (Pg.DSP 3) Reg.HDR.EN 1).wrA (Pg.DSP 3) Reg.DSP.TIMING_SRC 2).wrA
  (Pg.DSP 3) Reg.DSP.TE_SEL 2).wrA (Pg.DSP 3) Reg.DSP.TE_HEAD 7).setGroup 3
  { rx := [⟨8 + 0x46 * 2 ^ 37, [9000, 0], 0⟩], vcs := [(0, { head := 7, uid := 1, pixelRate := 5, lead := 0, spareOk := true, teCap := false, retvidCap := false, digest := 0 })] })).dev.rdA
  (Pg.DSP y) Reg.DSP.TE_HSRC = bits (((⟨8 + 0x46 * 2 ^ 37, [9000, 0], 0⟩ : Packet)).words.getD 1 0) 32 2) = [(3)])
  := by decide

theorem wit_dspUnderrun : ((3) < 16) ∧ ((1) < 4) ∧ ((9) < 2 ^ 16) ∧ ((64) < 2 ^ 16) ∧ (Ready ((W.of fun d => (d.wr
  (Pg.DSP 3) Reg.HDR.EN 1).setDsp 3 { shown := some { page := Pg.DSP 3 } })).dev = true) ∧ ((((W.of fun d => (d.wr
  (Pg.DSP 3) Reg.HDR.EN 1).setDsp 3 { shown := some { page := Pg.DSP 3 } })).dev.dsp (3)).shown = some
  (({ page := Pg.DSP 3 } : Shot))) ∧ ((((W.of fun d => (d.wr (Pg.DSP 3) Reg.HDR.EN 1).setDsp 3
  { shown := some { page := Pg.DSP 3 } })).dev.route (3)).1 ≠ 3) := by decide

theorem wit_hotPlug : ((1) < 4) ∧ ((3) < 8) ∧ ((2) < 8) ∧ ((W.on).dev.stopped = false) := by decide

theorem wit_hotPlug_fails : ((1) < 4) ∧ ((3) < 8) ∧ ((2) < 8) ∧ ((W.on).dev.stopped = false) := by decide

theorem wit_auxGo : ((0) < 64) ∧ ((1) < 4) ∧ ((2 ^ 31 + 5) < 2 ^ 32) ∧ (Taken (W.on).dev (0) (Pg.DPX (1)) 0x10C =
  true) ∧ (bitAt (2 ^ 31 + 5) 31 = true) ∧ ((1) ∉ (W.on).dev.pip.auxBusy) := by decide

theorem wit_auxTransactionEnd : ((1) < 4) ∧ ((0) < 8) ∧ ((([1, 2] : List Byte)).length ≤ 16) ∧ (((W.of fun d =>
  { d with pip := { d.pip with auxBusy := [1] } })).dev.stopped = false) ∧ ((1) ∈ ((W.of fun d =>
  { d with pip := { d.pip with auxBusy := [1] } })).dev.pip.auxBusy) := by decide

theorem wit_feedLineSend : ((6) < 32) ∧ (Ready ((W.of fun d => (fun d =>
  { d with pip := { d.pip with feeds := [(6, { rows := [(2, 9, [5, 6])], frame := 3, seq := 65535 })] } })
  (((((d.wrA (Pg.DSP 3) Reg.DSP.F_EN 1).wrA (Pg.DSP 3) Reg.DSP.F_HEAD 7).setHead 7 { vc := some (3, 1) }).wr (Pg.ING
  0) Reg.ING.ADMIT 2 7)))).dev = true) ∧ (Assoc.find ((W.of fun d => (fun d =>
  { d with pip := { d.pip with feeds := [(6, { rows := [(2, 9, [5, 6])], frame := 3, seq := 65535 })] } })
  (((((d.wrA (Pg.DSP 3) Reg.DSP.F_EN 1).wrA (Pg.DSP 3) Reg.DSP.F_HEAD 7).setHead 7 { vc := some (3, 1) }).wr (Pg.ING
  0) Reg.ING.ADMIT 2 7)))).dev.pip.feeds (6) = some (({ rows := [(2, 9, [5, 6])], frame := 3, seq := 65535 } :
  Feed))) ∧ ((({ rows := [(2, 9, [5, 6])], frame := 3, seq := 65535 } : Feed)).rows = ((2), (9), (([5, 6] : List
  Nat))) :: (([] : List (Nat × Nat × List Nat)))) ∧ ((((W.of fun d => (fun d =>
  { d with pip := { d.pip with feeds := [(6, { rows := [(2, 9, [5, 6])], frame := 3, seq := 65535 })] } })
  (((((d.wrA (Pg.DSP 3) Reg.DSP.F_EN 1).wrA (Pg.DSP 3) Reg.DSP.F_HEAD 7).setHead 7 { vc := some (3, 1) }).wr (Pg.ING
  0) Reg.ING.ADMIT 2 7)))).dev.head (((W.of fun d => (fun d =>
  { d with pip := { d.pip with feeds := [(6, { rows := [(2, 9, [5, 6])], frame := 3, seq := 65535 })] } })
  (((((d.wrA (Pg.DSP 3) Reg.DSP.F_EN 1).wrA (Pg.DSP 3) Reg.DSP.F_HEAD 7).setHead 7 { vc := some (3, 1) }).wr (Pg.ING
  0) Reg.ING.ADMIT 2 7)))).dev.feed (6) Reg.DSP.F_HEAD)).vc = some ((3), (1))) ∧ (((W.of fun d => (fun d =>
  { d with pip := { d.pip with feeds := [(6, { rows := [(2, 9, [5, 6])], frame := 3, seq := 65535 })] } })
  (((((d.wrA (Pg.DSP 3) Reg.DSP.F_EN 1).wrA (Pg.DSP 3) Reg.DSP.F_HEAD 7).setHead 7 { vc := some (3, 1) }).wr (Pg.ING
  0) Reg.ING.ADMIT 2 7)))).dev.admission (((W.of fun d => (fun d =>
  { d with pip := { d.pip with feeds := [(6, { rows := [(2, 9, [5, 6])], frame := 3, seq := 65535 })] } })
  (((((d.wrA (Pg.DSP 3) Reg.DSP.F_EN 1).wrA (Pg.DSP 3) Reg.DSP.F_HEAD 7).setHead 7 { vc := some (3, 1) }).wr (Pg.ING
  0) Reg.ING.ADMIT 2 7)))).dev.feed (6) Reg.DSP.F_HEAD) = 2) ∧ (((W.of fun d => (fun d =>
  { d with pip := { d.pip with feeds := [(6, { rows := [(2, 9, [5, 6])], frame := 3, seq := 65535 })] } })
  (((((d.wrA (Pg.DSP 3) Reg.DSP.F_EN 1).wrA (Pg.DSP 3) Reg.DSP.F_HEAD 7).setHead 7 { vc := some (3, 1) }).wr (Pg.ING
  0) Reg.ING.ADMIT 2 7)))).dev.feed (6) Reg.DSP.F_EN = 1) ∧ (((W.of fun d => (fun d =>
  { d with pip := { d.pip with feeds := [(6, { rows := [(2, 9, [5, 6])], frame := 3, seq := 65535 })] } })
  (((((d.wrA (Pg.DSP 3) Reg.DSP.F_EN 1).wrA (Pg.DSP 3) Reg.DSP.F_HEAD 7).setHead 7 { vc := some (3, 1) }).wr (Pg.ING
  0) Reg.ING.ADMIT 2 7)))).dev.feed (6) Reg.DSP.F_SRC = 0 ∨ (((W.of fun d => (fun d =>
  { d with pip := { d.pip with feeds := [(6, { rows := [(2, 9, [5, 6])], frame := 3, seq := 65535 })] } })
  (((((d.wrA (Pg.DSP 3) Reg.DSP.F_EN 1).wrA (Pg.DSP 3) Reg.DSP.F_HEAD 7).setHead 7 { vc := some (3, 1) }).wr (Pg.ING
  0) Reg.ING.ADMIT 2 7)))).dev.on (Pg.DSP ((6) / 2)) Reg.HDR.EN = true ∧ ((((W.of fun d => (fun d =>
  { d with pip := { d.pip with feeds := [(6, { rows := [(2, 9, [5, 6])], frame := 3, seq := 65535 })] } })
  (((((d.wrA (Pg.DSP 3) Reg.DSP.F_EN 1).wrA (Pg.DSP 3) Reg.DSP.F_HEAD 7).setHead 7 { vc := some (3, 1) }).wr (Pg.ING
  0) Reg.ING.ADMIT 2 7)))).dev.dsp ((6) / 2)).shown.any fun z => z.stream.isSome) = false)) ∧ (Assoc.has ((W.of fun
  d => (fun d =>
  { d with pip := { d.pip with feeds := [(6, { rows := [(2, 9, [5, 6])], frame := 3, seq := 65535 })] } })
  (((((d.wrA (Pg.DSP 3) Reg.DSP.F_EN 1).wrA (Pg.DSP 3) Reg.DSP.F_HEAD 7).setHead 7 { vc := some (3, 1) }).wr (Pg.ING
  0) Reg.ING.ADMIT 2 7)))).dev.cap.feedWait (6) = false) := by decide

theorem wit_queueCreate : ((0) < 128) ∧ ((5) < 2 ^ 64) ∧ (Starts (((W.of (W.run [W.cmd 0x01 [(1, 3), (2, 0x1000),
  (4, 0x2000), (8, 7 + 15 * 2 ^ 16), (9, 2 + 2 ^ 16)]]))).dev.see (({} : HostView))) (0) (5) 0x01 ((W.cmd 0x01 [(1,
  3), (2, 0x1000), (4, 0x2000), (8, 7 + 15 * 2 ^ 16), (9, 2 + 2 ^ 16)] : Cmd)) = true) ∧ (((W.cmd 0x01 [(1, 3), (2,
  0x1000), (4, 0x2000), (8, 7 + 15 * 2 ^ 16), (9, 2 + 2 ^ 16)] : Cmd)).part < 64) ∧ (sf ((W.cmd 0x01 [(1, 3), (2,
  0x1000), (4, 0x2000), (8, 7 + 15 * 2 ^ 16), (9, 2 + 2 ^ 16)] : Cmd)).entry 1 0 16 ≠ 0) ∧ (sf ((W.cmd 0x01 [(1, 3),
  (2, 0x1000), (4, 0x2000), (8, 7 + 15 * 2 ^ 16), (9, 2 + 2 ^ 16)] : Cmd)).entry 1 0 16 ≠ ((W.cmd 0x01 [(1, 3), (2,
  0x1000), (4, 0x2000), (8, 7 + 15 * 2 ^ 16), (9, 2 + 2 ^ 16)] : Cmd)).queue) ∧ (sf ((W.cmd 0x01 [(1, 3), (2,
  0x1000), (4, 0x2000), (8, 7 + 15 * 2 ^ 16), (9, 2 + 2 ^ 16)] : Cmd)).entry 1 0 16 < ((W.of (W.run [W.cmd 0x01 [(1,
  3), (2, 0x1000), (4, 0x2000), (8, 7 + 15 * 2 ^ 16), (9, 2 + 2 ^ 16)]]))).dev.rd (qmg ((W.cmd 0x01 [(1, 3), (2,
  0x1000), (4, 0x2000), (8, 7 + 15 * 2 ^ 16), (9, 2 + 2 ^ 16)] : Cmd)).part).1 Reg.QMG.QUOTA (qmg ((W.cmd 0x01 [(1,
  3), (2, 0x1000), (4, 0x2000), (8, 7 + 15 * 2 ^ 16), (9, 2 + 2 ^ 16)] : Cmd)).part).2) ∧ (((W.of (W.run [W.cmd 0x01
  [(1, 3), (2, 0x1000), (4, 0x2000), (8, 7 + 15 * 2 ^ 16), (9, 2 + 2 ^ 16)]]))).dev.queue? ((W.cmd 0x01 [(1, 3), (2,
  0x1000), (4, 0x2000), (8, 7 + 15 * 2 ^ 16), (9, 2 + 2 ^ 16)] : Cmd)).part (sf ((W.cmd 0x01 [(1, 3), (2, 0x1000),
  (4, 0x2000), (8, 7 + 15 * 2 ^ 16), (9, 2 + 2 ^ 16)] : Cmd)).entry 1 0 16) = none) ∧ (1 ≤ sf ((W.cmd 0x01 [(1, 3),
  (2, 0x1000), (4, 0x2000), (8, 7 + 15 * 2 ^ 16), (9, 2 + 2 ^ 16)] : Cmd)).entry 8 0 16) ∧ (1 ≤ sf ((W.cmd 0x01 [(1,
  3), (2, 0x1000), (4, 0x2000), (8, 7 + 15 * 2 ^ 16), (9, 2 + 2 ^ 16)] : Cmd)).entry 8 16 16) ∧ (dw64 ((W.cmd 0x01
  [(1, 3), (2, 0x1000), (4, 0x2000), (8, 7 + 15 * 2 ^ 16), (9, 2 + 2 ^ 16)] : Cmd)).entry 2 % 4096 = 0) ∧ (dw64
  ((W.cmd 0x01 [(1, 3), (2, 0x1000), (4, 0x2000), (8, 7 + 15 * 2 ^ 16), (9, 2 + 2 ^ 16)] : Cmd)).entry 4 % 4096 = 0)
  ∧ (sf ((W.cmd 0x01 [(1, 3), (2, 0x1000), (4, 0x2000), (8, 7 + 15 * 2 ^ 16), (9, 2 + 2 ^ 16)] : Cmd)).entry 9 0 11
  < (((W.of (W.run [W.cmd 0x01 [(1, 3), (2, 0x1000), (4, 0x2000), (8, 7 + 15 * 2 ^ 16), (9, 2 + 2 ^
  16)]]))).dev.part ((W.cmd 0x01 [(1, 3), (2, 0x1000), (4, 0x2000), (8, 7 + 15 * 2 ^ 16), (9, 2 + 2 ^ 16)] :
  Cmd)).part).msix) := by decide

theorem wit_queueDelete : ((0) < 128) ∧ ((5) < 2 ^ 64) ∧ (Starts (((W.of fun d => (W.run [W.cmd 0x02 [(1, 1)]]
  d).setQueue 0 1 { sqBase := 0x1000, cqBase := 0x2000, sqDepth := 8, cqDepth := 16 })).dev.see (({} : HostView)))
  (0) (5) 0x02 ((W.cmd 0x02 [(1, 1)] : Cmd)) = true) ∧ (((W.cmd 0x02 [(1, 1)] : Cmd)).part < 64) ∧ (sf ((W.cmd 0x02
  [(1, 1)] : Cmd)).entry 1 0 16 ≠ 0) ∧ ((((W.of fun d => (W.run [W.cmd 0x02 [(1, 1)]] d).setQueue 0 1
  { sqBase := 0x1000, cqBase := 0x2000, sqDepth := 8, cqDepth := 16 })).dev.queue? ((W.cmd 0x02 [(1, 1)] :
  Cmd)).part (sf ((W.cmd 0x02 [(1, 1)] : Cmd)).entry 1 0 16)).isSome = true) := by decide

theorem wit_sqTail : ((0) < 64) ∧ ((1) < 65536) ∧ ((7) < 2 ^ 32) ∧ (((W.of fun d => (d).setQueue 0 1
  { sqBase := 0x1000, cqBase := 0x2000, sqDepth := 8, cqDepth := 16 })).dev.stopped = false) ∧ (((W.of fun d =>
  (d).setQueue 0 1 { sqBase := 0x1000, cqBase := 0x2000, sqDepth := 8, cqDepth := 16 })).dev.hasFn (0) = true) ∧
  (((W.of fun d => (d).setQueue 0 1
  { sqBase := 0x1000, cqBase := 0x2000, sqDepth := 8, cqDepth := 16 })).dev.running = true) ∧ (((W.of fun d =>
  (d).setQueue 0 1 { sqBase := 0x1000, cqBase := 0x2000, sqDepth := 8, cqDepth := 16 })).dev.allAwake = true) ∧
  (((W.of fun d => (d).setQueue 0 1 { sqBase := 0x1000, cqBase := 0x2000, sqDepth := 8, cqDepth := 16 })).dev.queue?
  (0) (1) = some (({ sqBase := 0x1000, cqBase := 0x2000, sqDepth := 8, cqDepth := 16 } : Queue))) ∧ ((7) <
  (({ sqBase := 0x1000, cqBase := 0x2000, sqDepth := 8, cqDepth := 16 } : Queue)).sqDepth) := by decide

theorem wit_sqTail_invalid : ((0) < 64) ∧ ((1) < 65536) ∧ ((8) < 2 ^ 32) ∧ (((W.of fun d => (d).setQueue 0 1
  { sqBase := 0x1000, cqBase := 0x2000, sqDepth := 8, cqDepth := 16 })).dev.stopped = false) ∧ (((W.of fun d =>
  (d).setQueue 0 1 { sqBase := 0x1000, cqBase := 0x2000, sqDepth := 8, cqDepth := 16 })).dev.hasFn (0) = true) ∧
  (((W.of fun d => (d).setQueue 0 1
  { sqBase := 0x1000, cqBase := 0x2000, sqDepth := 8, cqDepth := 16 })).dev.running = true) ∧ (((W.of fun d =>
  (d).setQueue 0 1 { sqBase := 0x1000, cqBase := 0x2000, sqDepth := 8, cqDepth := 16 })).dev.allAwake = true) ∧
  (((W.of fun d => (d).setQueue 0 1 { sqBase := 0x1000, cqBase := 0x2000, sqDepth := 8, cqDepth := 16 })).dev.queue?
  (0) (1) = some (({ sqBase := 0x1000, cqBase := 0x2000, sqDepth := 8, cqDepth := 16 } : Queue))) ∧
  ((({ sqBase := 0x1000, cqBase := 0x2000, sqDepth := 8, cqDepth := 16 } : Queue)).sqDepth ≤ (8)) := by decide

theorem wit_sqTail_size : ((0) < 64) ∧ ((1) < 65536) ∧ ((8) ≠ 4) ∧ ((W.on).dev.stopped = false) ∧ ((W.on).dev.hasFn
  (0) = true) := by decide

theorem wit_cqHead : ((0) < 64) ∧ ((1) < 65536) ∧ ((3) < 2 ^ 32) ∧ (((W.of fun d => (d).setQueue 0 1
  { sqBase := 0x1000, cqBase := 0x2000, sqDepth := 8, cqDepth := 16, cqTail := 5 })).dev.stopped = false) ∧ (((W.of
  fun d => (d).setQueue 0 1
  { sqBase := 0x1000, cqBase := 0x2000, sqDepth := 8, cqDepth := 16, cqTail := 5 })).dev.hasFn (0) = true) ∧ (((W.of
  fun d => (d).setQueue 0 1
  { sqBase := 0x1000, cqBase := 0x2000, sqDepth := 8, cqDepth := 16, cqTail := 5 })).dev.running = true) ∧ (((W.of
  fun d => (d).setQueue 0 1
  { sqBase := 0x1000, cqBase := 0x2000, sqDepth := 8, cqDepth := 16, cqTail := 5 })).dev.allAwake = true) ∧ (((W.of
  fun d => (d).setQueue 0 1
  { sqBase := 0x1000, cqBase := 0x2000, sqDepth := 8, cqDepth := 16, cqTail := 5 })).dev.queue? (0) (1) = some
  (({ sqBase := 0x1000, cqBase := 0x2000, sqDepth := 8, cqDepth := 16, cqTail := 5 } : Queue))) ∧ ((3) <
  (({ sqBase := 0x1000, cqBase := 0x2000, sqDepth := 8, cqDepth := 16, cqTail := 5 } : Queue)).cqDepth) ∧ (((3) +
  (({ sqBase := 0x1000, cqBase := 0x2000, sqDepth := 8, cqDepth := 16, cqTail := 5 } : Queue)).cqDepth -
  (({ sqBase := 0x1000, cqBase := 0x2000, sqDepth := 8, cqDepth := 16, cqTail := 5 } : Queue)).cqHead) %
  (({ sqBase := 0x1000, cqBase := 0x2000, sqDepth := 8, cqDepth := 16, cqTail := 5 } : Queue)).cqDepth ≤
  (({ sqBase := 0x1000, cqBase := 0x2000, sqDepth := 8, cqDepth := 16, cqTail := 5 } : Queue)).unreturned) := by
  decide

theorem wit_cqHead_invalid : ((0) < 64) ∧ ((1) < 65536) ∧ ((6) < 2 ^ 32) ∧ (((W.of fun d => (d).setQueue 0 1
  { sqBase := 0x1000, cqBase := 0x2000, sqDepth := 8, cqDepth := 16, cqTail := 5 })).dev.stopped = false) ∧ (((W.of
  fun d => (d).setQueue 0 1
  { sqBase := 0x1000, cqBase := 0x2000, sqDepth := 8, cqDepth := 16, cqTail := 5 })).dev.hasFn (0) = true) ∧ (((W.of
  fun d => (d).setQueue 0 1
  { sqBase := 0x1000, cqBase := 0x2000, sqDepth := 8, cqDepth := 16, cqTail := 5 })).dev.running = true) ∧ (((W.of
  fun d => (d).setQueue 0 1
  { sqBase := 0x1000, cqBase := 0x2000, sqDepth := 8, cqDepth := 16, cqTail := 5 })).dev.allAwake = true) ∧ (((W.of
  fun d => (d).setQueue 0 1
  { sqBase := 0x1000, cqBase := 0x2000, sqDepth := 8, cqDepth := 16, cqTail := 5 })).dev.queue? (0) (1) = some
  (({ sqBase := 0x1000, cqBase := 0x2000, sqDepth := 8, cqDepth := 16, cqTail := 5 } : Queue))) ∧
  ((({ sqBase := 0x1000, cqBase := 0x2000, sqDepth := 8, cqDepth := 16, cqTail := 5 } : Queue)).unreturned < ((6) +
  (({ sqBase := 0x1000, cqBase := 0x2000, sqDepth := 8, cqDepth := 16, cqTail := 5 } : Queue)).cqDepth -
  (({ sqBase := 0x1000, cqBase := 0x2000, sqDepth := 8, cqDepth := 16, cqTail := 5 } : Queue)).cqHead) %
  (({ sqBase := 0x1000, cqBase := 0x2000, sqDepth := 8, cqDepth := 16, cqTail := 5 } : Queue)).cqDepth) := by decide

theorem wit_cqCoalesceTimeout : ((0) < 64) ∧ ((1) < 65536) ∧ (((W.of fun d => (d).setQueue 0 1
  { sqBase := 0x1000, cqBase := 0x2000, sqDepth := 8, cqDepth := 16, cqTail := 5, sinceIrq := 2, vector := 4 })).dev.stopped
  = false) ∧ (((W.of fun d => (d).setQueue 0 1
  { sqBase := 0x1000, cqBase := 0x2000, sqDepth := 8, cqDepth := 16, cqTail := 5, sinceIrq := 2, vector := 4 })).dev.queue?
  (0) (1) = some
  (({ sqBase := 0x1000, cqBase := 0x2000, sqDepth := 8, cqDepth := 16, cqTail := 5, sinceIrq := 2, vector := 4 } :
  Queue))) ∧
  ((({ sqBase := 0x1000, cqBase := 0x2000, sqDepth := 8, cqDepth := 16, cqTail := 5, sinceIrq := 2, vector := 4 } :
  Queue)).irqEn = true) ∧
  ((({ sqBase := 0x1000, cqBase := 0x2000, sqDepth := 8, cqDepth := 16, cqTail := 5, sinceIrq := 2, vector := 4 } :
  Queue)).sinceIrq ≠ 0) ∧
  ((({ sqBase := 0x1000, cqBase := 0x2000, sqDepth := 8, cqDepth := 16, cqTail := 5, sinceIrq := 2, vector := 4 } :
  Queue)).unreturned ≠ 0) ∧ (((W.of fun d => (d).setQueue 0 1
  { sqBase := 0x1000, cqBase := 0x2000, sqDepth := 8, cqDepth := 16, cqTail := 5, sinceIrq := 2, vector := 4 })).dev.hasFn
  (0) = true) ∧
  ((({ sqBase := 0x1000, cqBase := 0x2000, sqDepth := 8, cqDepth := 16, cqTail := 5, sinceIrq := 2, vector := 4 } :
  Queue)).vector < (((W.of fun d => (d).setQueue 0 1
  { sqBase := 0x1000, cqBase := 0x2000, sqDepth := 8, cqDepth := 16, cqTail := 5, sinceIrq := 2, vector := 4 })).dev.part
  (0)).msix) ∧ ((1) ≠ 0 ∨ ((W.of fun d => (d).setQueue 0 1
  { sqBase := 0x1000, cqBase := 0x2000, sqDepth := 8, cqDepth := 16, cqTail := 5, sinceIrq := 2, vector := 4 })).dev.vectorsOff.contains
  ((0), 0) = false) := by decide

theorem wit_commandFetch : ((0) < 64) ∧ ((0) < 65536) ∧ (((W.of fun d => (d).setQueue 0 0
  { sqBase := 0x1000, cqBase := 0x2000, sqDepth := 8, cqDepth := 16, sqTail := 1 })).dev.stopped = false) ∧ (((W.of
  fun d => (d).setQueue 0 0
  { sqBase := 0x1000, cqBase := 0x2000, sqDepth := 8, cqDepth := 16, sqTail := 1 })).dev.allAwake = true) ∧ (((W.of
  fun d => (d).setQueue 0 0
  { sqBase := 0x1000, cqBase := 0x2000, sqDepth := 8, cqDepth := 16, sqTail := 1 })).dev.queue? (0) (0) = some
  (({ sqBase := 0x1000, cqBase := 0x2000, sqDepth := 8, cqDepth := 16, sqTail := 1 } : Queue))) ∧ ((((W.of fun d =>
  (d).setQueue 0 0 { sqBase := 0x1000, cqBase := 0x2000, sqDepth := 8, cqDepth := 16, sqTail := 1 })).dev.see
  (({ writes := [(0x1000, 3)] } : HostView))).hasEntry (0) (0)
  (({ sqBase := 0x1000, cqBase := 0x2000, sqDepth := 8, cqDepth := 16, sqTail := 1 } : Queue)) = true) ∧ ((((W.of
  fun d => (d).setQueue 0 0
  { sqBase := 0x1000, cqBase := 0x2000, sqDepth := 8, cqDepth := 16, sqTail := 1 })).dev.see
  (({ writes := [(0x1000, 3)] } : HostView))).cqRoom (0) (0)
  (({ sqBase := 0x1000, cqBase := 0x2000, sqDepth := 8, cqDepth := 16, sqTail := 1 } : Queue)) = true) ∧ ((((W.of
  fun d => (d).setQueue 0 0
  { sqBase := 0x1000, cqBase := 0x2000, sqDepth := 8, cqDepth := 16, sqTail := 1 })).dev.see
  (({ writes := [(0x1000, 3)] } : HostView))).turnFor (0) (0) = some ((((((W.of fun d => (d).setQueue 0 0
  { sqBase := 0x1000, cqBase := 0x2000, sqDepth := 8, cqDepth := 16, sqTail := 1 })).dev.see
  { writes := [(0x1000, 3)] }).turnFor 0 0).getD {} : HostSt))) ∧ ((((W.of fun d => (d).setQueue 0 0
  { sqBase := 0x1000, cqBase := 0x2000, sqDepth := 8, cqDepth := 16, sqTail := 1 })).dev.see
  (({ writes := [(0x1000, 3)] } : HostView))).hostOk (0)
  ((({ sqBase := 0x1000, cqBase := 0x2000, sqDepth := 8, cqDepth := 16, sqTail := 1 } : Queue)).sqBase + 64 *
  (({ sqBase := 0x1000, cqBase := 0x2000, sqDepth := 8, cqDepth := 16, sqTail := 1 } : Queue)).sqHead) 64 = true) ∧
  ((((3 :: List.replicate 15 0) : List Nat)) = ((List.range 16).map fun y => ofLe ((((W.of fun d => (d).setQueue 0 0
  { sqBase := 0x1000, cqBase := 0x2000, sqDepth := 8, cqDepth := 16, sqTail := 1 })).dev.see
  (({ writes := [(0x1000, 3)] } : HostView))).hostRead (0)
  ((({ sqBase := 0x1000, cqBase := 0x2000, sqDepth := 8, cqDepth := 16, sqTail := 1 } : Queue)).sqBase + 64 *
  (({ sqBase := 0x1000, cqBase := 0x2000, sqDepth := 8, cqDepth := 16, sqTail := 1 } : Queue)).sqHead + 4 * y) 4)))
  ∧ ((0) = 0) ∧ (adminOp (opcode (((3 :: List.replicate 15 0) : List Nat))) = true) := by decide

theorem wit_hifEnable : ((0) < 64) ∧ ((0) < 64) ∧ ((1) < 2 ^ 32) ∧ (Taken ((W.of fun d => (d.wr (hif 0).1
  Reg.HIF.ASQ_DEPTH 7).wr (hif 0).1 Reg.HIF.ACQ_DEPTH 7)).dev (0) (hif (0)).1 (0x414 + 0x40 * (hif (0)).2) = true) ∧
  (bits (1) 0 1 = 1) ∧ (((W.of fun d => (d.wr (hif 0).1 Reg.HIF.ASQ_DEPTH 7).wr (hif 0).1 Reg.HIF.ACQ_DEPTH
  7)).dev.on (hif (0)).1 Reg.HIF.ENABLE (hif (0)).2 = false) ∧ (((W.of fun d => (d.wr (hif 0).1 Reg.HIF.ASQ_DEPTH
  7).wr (hif 0).1 Reg.HIF.ACQ_DEPTH 7)).dev.rd64 (hif (0)).1 Reg.HIF.ASQ_ADDR_LO Reg.HIF.ASQ_ADDR_HI (hif (0)).2 %
  4096 = 0) ∧ (((W.of fun d => (d.wr (hif 0).1 Reg.HIF.ASQ_DEPTH 7).wr (hif 0).1 Reg.HIF.ACQ_DEPTH 7)).dev.rd64 (hif
  (0)).1 Reg.HIF.ACQ_ADDR_LO Reg.HIF.ACQ_ADDR_HI (hif (0)).2 % 4096 = 0) ∧ (1 ≤ ((W.of fun d => (d.wr (hif 0).1
  Reg.HIF.ASQ_DEPTH 7).wr (hif 0).1 Reg.HIF.ACQ_DEPTH 7)).dev.rd (hif (0)).1 Reg.HIF.ASQ_DEPTH (hif (0)).2) ∧
  (((W.of fun d => (d.wr (hif 0).1 Reg.HIF.ASQ_DEPTH 7).wr (hif 0).1 Reg.HIF.ACQ_DEPTH 7)).dev.rd (hif (0)).1
  Reg.HIF.ASQ_DEPTH (hif (0)).2 ≤ 4095) ∧ (1 ≤ ((W.of fun d => (d.wr (hif 0).1 Reg.HIF.ASQ_DEPTH 7).wr (hif 0).1
  Reg.HIF.ACQ_DEPTH 7)).dev.rd (hif (0)).1 Reg.HIF.ACQ_DEPTH (hif (0)).2) ∧ (((W.of fun d => (d.wr (hif 0).1
  Reg.HIF.ASQ_DEPTH 7).wr (hif 0).1 Reg.HIF.ACQ_DEPTH 7)).dev.rd (hif (0)).1 Reg.HIF.ACQ_DEPTH (hif (0)).2 ≤ 4095)
  := by decide

theorem wit_hifEnable_refused : ((0) < 64) ∧ ((0) < 64) ∧ ((1) < 2 ^ 32) ∧ (Taken ((W.of fun d => (d.wr (hif 0).1
  Reg.HIF.ASQ_DEPTH 0).wr (hif 0).1 Reg.HIF.ACQ_DEPTH 7)).dev (0) (hif (0)).1 (0x414 + 0x40 * (hif (0)).2) = true) ∧
  (bits (1) 0 1 = 1) ∧ (((W.of fun d => (d.wr (hif 0).1 Reg.HIF.ASQ_DEPTH 0).wr (hif 0).1 Reg.HIF.ACQ_DEPTH
  7)).dev.on (hif (0)).1 Reg.HIF.ENABLE (hif (0)).2 = false) ∧ (((W.of fun d => (d.wr (hif 0).1 Reg.HIF.ASQ_DEPTH
  0).wr (hif 0).1 Reg.HIF.ACQ_DEPTH 7)).dev.rd (hif (0)).1 Reg.HIF.ASQ_DEPTH (hif (0)).2 = 0) := by decide

theorem wit_eventRingSet : ((0) < 128) ∧ ((5) < 2 ^ 64) ∧ (Starts (((W.of (W.run [W.cmd 0x0C [(2, 0x1000), (8,
  0x700), (9, 15)]]))).dev.see (({} : HostView))) (0) (5) 0x0C ((W.cmd 0x0C [(2, 0x1000), (8, 0x700), (9, 15)] :
  Cmd)) = true) ∧ (sf ((W.cmd 0x0C [(2, 0x1000), (8, 0x700), (9, 15)] : Cmd)).entry 8 1 1 = 0) ∧ (sf ((W.cmd 0x0C
  [(2, 0x1000), (8, 0x700), (9, 15)] : Cmd)).entry 8 0 1 = 0) ∧ (((W.cmd 0x0C [(2, 0x1000), (8, 0x700), (9, 15)] :
  Cmd)).part < 64) ∧ (15 ≤ sf ((W.cmd 0x0C [(2, 0x1000), (8, 0x700), (9, 15)] : Cmd)).entry 9 0 16) ∧ (dw64 ((W.cmd
  0x0C [(2, 0x1000), (8, 0x700), (9, 15)] : Cmd)).entry 2 % 4096 = 0) ∧ (sf ((W.cmd 0x0C [(2, 0x1000), (8, 0x700),
  (9, 15)] : Cmd)).entry 10 0 11 < (((W.of (W.run [W.cmd 0x0C [(2, 0x1000), (8, 0x700), (9, 15)]]))).dev.part
  ((W.cmd 0x0C [(2, 0x1000), (8, 0x700), (9, 15)] : Cmd)).part).msix) := by decide

theorem wit_eventRingSet_assist : ((0) < 128) ∧ ((5) < 2 ^ 64) ∧ (Starts (((W.of (W.run [W.cmd 0x0C [(2, 0x1000),
  (8, 1), (9, 1)]]))).dev.see (({} : HostView))) (0) (5) 0x0C ((W.cmd 0x0C [(2, 0x1000), (8, 1), (9, 1)] : Cmd)) =
  true) ∧ (sf ((W.cmd 0x0C [(2, 0x1000), (8, 1), (9, 1)] : Cmd)).entry 8 1 1 = 0) ∧ (sf ((W.cmd 0x0C [(2, 0x1000),
  (8, 1), (9, 1)] : Cmd)).entry 8 0 1 = 1) ∧ (((W.cmd 0x0C [(2, 0x1000), (8, 1), (9, 1)] : Cmd)).part < 64) ∧ (1 ≤
  sf ((W.cmd 0x0C [(2, 0x1000), (8, 1), (9, 1)] : Cmd)).entry 9 0 16) ∧ (dw64 ((W.cmd 0x0C [(2, 0x1000), (8, 1), (9,
  1)] : Cmd)).entry 2 % 4096 = 0) ∧ (sf ((W.cmd 0x0C [(2, 0x1000), (8, 1), (9, 1)] : Cmd)).entry 10 0 11 < (((W.of
  (W.run [W.cmd 0x0C [(2, 0x1000), (8, 1), (9, 1)]]))).dev.part ((W.cmd 0x0C [(2, 0x1000), (8, 1), (9, 1)] :
  Cmd)).part).msix) := by decide

theorem wit_eventRingDelete : ((0) < 128) ∧ ((5) < 2 ^ 64) ∧ (Starts (((W.of fun d => (W.run [W.cmd 0x0C [(8, 2)]]
  d).updPart 0 fun r => { r with evt := some { base := 0x1000, depth := 16 } })).dev.see (({} : HostView))) (0) (5)
  0x0C ((W.cmd 0x0C [(8, 2)] : Cmd)) = true) ∧ (sf ((W.cmd 0x0C [(8, 2)] : Cmd)).entry 8 1 1 = 1) ∧ (sf ((W.cmd 0x0C
  [(8, 2)] : Cmd)).entry 8 0 1 = 0) := by decide

theorem wit_evtHead : ((0) < 64) ∧ ((3) < 2 ^ 32) ∧ (((W.of fun d => d.updPart 0 fun r =>
  { r with evt := some { base := 0x1000, depth := 16, tail := 5 } })).dev.stopped = false) ∧ (((W.of fun d =>
  d.updPart 0 fun r => { r with evt := some { base := 0x1000, depth := 16, tail := 5 } })).dev.hasFn (0) = true) ∧
  (((W.of fun d => d.updPart 0 fun r =>
  { r with evt := some { base := 0x1000, depth := 16, tail := 5 } })).dev.running = true) ∧ (((W.of fun d =>
  d.updPart 0 fun r => { r with evt := some { base := 0x1000, depth := 16, tail := 5 } })).dev.allAwake = true) ∧
  ((((W.of fun d => d.updPart 0 fun r =>
  { r with evt := some { base := 0x1000, depth := 16, tail := 5 } })).dev.part (0)).evt = some
  (({ base := 0x1000, depth := 16, tail := 5 } : Ring))) ∧ ((({ base := 0x1000, depth := 16, tail := 5 } :
  Ring)).toHead (3) = some (({ base := 0x1000, depth := 16, tail := 5, head := 3 } : Ring))) := by decide

theorem wit_astHead : ((0) < 64) ∧ ((3) < 2 ^ 32) ∧ (((W.of fun d => d.updPart 0 fun r =>
  { r with ast := some { base := 0x1000, depth := 16, tail := 5 } })).dev.stopped = false) ∧ (((W.of fun d =>
  d.updPart 0 fun r => { r with ast := some { base := 0x1000, depth := 16, tail := 5 } })).dev.hasFn (0) = true) ∧
  (((W.of fun d => d.updPart 0 fun r =>
  { r with ast := some { base := 0x1000, depth := 16, tail := 5 } })).dev.running = true) ∧ (((W.of fun d =>
  d.updPart 0 fun r => { r with ast := some { base := 0x1000, depth := 16, tail := 5 } })).dev.allAwake = true) ∧
  ((((W.of fun d => d.updPart 0 fun r =>
  { r with ast := some { base := 0x1000, depth := 16, tail := 5 } })).dev.part (0)).ast = some
  (({ base := 0x1000, depth := 16, tail := 5 } : Ring))) ∧ ((({ base := 0x1000, depth := 16, tail := 5 } :
  Ring)).toHead (3) = some (({ base := 0x1000, depth := 16, tail := 5, head := 3 } : Ring))) := by decide

theorem wit_astHead_invalid : ((0) < 64) ∧ ((6) < 2 ^ 32) ∧ (((W.of fun d => d.updPart 0 fun r =>
  { r with ast := some { base := 0x1000, depth := 16, tail := 5 } })).dev.stopped = false) ∧ (((W.of fun d =>
  d.updPart 0 fun r => { r with ast := some { base := 0x1000, depth := 16, tail := 5 } })).dev.hasFn (0) = true) ∧
  (((W.of fun d => d.updPart 0 fun r =>
  { r with ast := some { base := 0x1000, depth := 16, tail := 5 } })).dev.running = true) ∧ (((W.of fun d =>
  d.updPart 0 fun r => { r with ast := some { base := 0x1000, depth := 16, tail := 5 } })).dev.allAwake = true) ∧
  ((((W.of fun d => d.updPart 0 fun r =>
  { r with ast := some { base := 0x1000, depth := 16, tail := 5 } })).dev.part (0)).ast = some
  (({ base := 0x1000, depth := 16, tail := 5 } : Ring))) ∧ ((({ base := 0x1000, depth := 16, tail := 5 } :
  Ring)).toHead (6) = none) := by decide

theorem wit_eventSummaryPost : ((0) < 128) ∧ (((W.of fun d => d.updPart 0 fun r =>
  { r with evt := some { base := 0x1000, depth := 16 }, summaries := [{ page := 0, code := 0x801, cls := 1, count := 3, first := 1, last := 2 }] })).dev.stopped
  = false) ∧ ((((W.of fun d => d.updPart 0 fun r =>
  { r with evt := some { base := 0x1000, depth := 16 }, summaries := [{ page := 0, code := 0x801, cls := 1, count := 3, first := 1, last := 2 }] })).dev.part
  (0)).evt = some (({ base := 0x1000, depth := 16 } : Ring))) ∧ ((((W.of fun d => d.updPart 0 fun r =>
  { r with evt := some { base := 0x1000, depth := 16 }, summaries := [{ page := 0, code := 0x801, cls := 1, count := 3, first := 1, last := 2 }] })).dev.part
  (0)).lost = 0) ∧ ((((W.of fun d => d.updPart 0 fun r =>
  { r with evt := some { base := 0x1000, depth := 16 }, summaries := [{ page := 0, code := 0x801, cls := 1, count := 3, first := 1, last := 2 }] })).dev.part
  (0)).summaries = [(({ page := 0, code := 0x801, cls := 1, count := 3, first := 1, last := 2 } : Summary))]) ∧
  ((({ base := 0x1000, depth := 16 } : Ring)).used + 1 + min 64 ((({ base := 0x1000, depth := 16 } : Ring)).depth /
  2) < (({ base := 0x1000, depth := 16 } : Ring)).depth) := by decide

theorem wit_syslogSendTimeout : (Ready ((W.of fun d =>
  { d with hst := { d.hst with syslogQueue := [[1], [2]] } })).dev = true) ∧ (((W.of fun d =>
  { d with hst := { d.hst with syslogQueue := [[1], [2]] } })).dev.hst.syslogQueue = (([1] : List Byte)) :: (([[2]]
  : List (List Byte)))) := by decide

theorem wit_featureSet : ((0) < 128) ∧ ((5) < 2 ^ 64) ∧ (Starts (((W.of (W.run [W.cmd 0x05 [(8, 1), (9,
  64)]]))).dev.see (({} : HostView))) (0) (5) 0x05 ((W.cmd 0x05 [(8, 1), (9, 64)] : Cmd)) = true) ∧ (sf ((W.cmd 0x05
  [(8, 1), (9, 64)] : Cmd)).entry 8 0 8 = 1) ∧ (1 ≤ dwAt ((W.cmd 0x05 [(8, 1), (9, 64)] : Cmd)).entry 9) ∧ (dwAt
  ((W.cmd 0x05 [(8, 1), (9, 64)] : Cmd)).entry 9 ≤ 64) ∧ (dwAt ((W.cmd 0x05 [(8, 1), (9, 64)] : Cmd)).entry 10 = 0)
  ∧ (dwAt ((W.cmd 0x05 [(8, 1), (9, 64)] : Cmd)).entry 11 = 0) ∧ (dwAt ((W.cmd 0x05 [(8, 1), (9, 64)] : Cmd)).entry
  12 = 0) := by decide

theorem wit_featureGet : ((0) < 128) ∧ ((5) < 2 ^ 64) ∧ (Starts (((W.of fun d => (W.run [W.cmd 0x06 [(8, 2), (9,
  1)]] d).updPart 0 fun r => { r with hint := 7 * 2 ^ 32 })).dev.see (({} : HostView))) (0) (5) 0x06 ((W.cmd 0x06
  [(8, 2), (9, 1)] : Cmd)) = true) ∧ (sf ((W.cmd 0x06 [(8, 2), (9, 1)] : Cmd)).entry 8 0 8 = 2) ∧ (sf ((W.cmd 0x06
  [(8, 2), (9, 1)] : Cmd)).entry 9 0 2 = 1) := by decide

theorem wit_completion : (W.cmd 3 []).part < 64 ∧ (W.of fun d => (d).setQueue 0 1 { sqBase := 0x1000, cqBase := 0x2000, sqDepth := 8, cqDepth := 16, cqTail := 15 }).dev.queue? 0 1 = some { sqBase := 0x1000, cqBase := 0x2000, sqDepth := 8, cqDepth := 16, cqTail := 15 } ∧ 0x2000 + 16 * 15 + 16 ≤ 2 ^ 64 ∧ (W.of fun d => (d).setQueue 0 1 { sqBase := 0x1000, cqBase := 0x2000, sqDepth := 8, cqDepth := 16, cqTail := 15 }).dev.hostOk 0 (0x2000 + 16 * 15) 16 = true := by decide

theorem wit_completion_orphan : W.on.dev.queue? 0 1 = none ∧ (W.on.dev.part 0).orphans.length < 8192 := by decide

theorem wit_flush : ((0) < 128) ∧ ((5) < 2 ^ 64) ∧ (Starts (((W.of (W.run [W.cmd 0x80 []]))).dev.see (({} :
  HostView))) (0) (5) 0x80 ((W.cmd 0x80 [] : Cmd)) = true) ∧ (((W.of (W.run [W.cmd 0x80 []]))).dev.flushed ((W.cmd
  0x80 [] : Cmd)) = true) := by decide

theorem wit_flush_waits : ((0) < 128) ∧ ((5) < 2 ^ 64) ∧ (Starts (((W.of fun d => (fun d =>
  { d with pip := { d.pip with places := [{ set := 0, addr := 0, bytes := [1], part := 0, asn := 3 }] } }) (W.run
  [W.cmd 0x80 []] d))).dev.see (({} : HostView))) (0) (5) 0x80 ((W.cmd 0x80 [] : Cmd)) = true) ∧ (((W.of fun d =>
  (fun d => { d with pip := { d.pip with places := [{ set := 0, addr := 0, bytes := [1], part := 0, asn := 3 }] } })
  (W.run [W.cmd 0x80 []] d))).dev.flushed ((W.cmd 0x80 [] : Cmd)) = false) := by decide

theorem wit_write : ((0) < 128) ∧ ((5) < 2 ^ 64) ∧ (Starts (((W.of (W.run [W.cmd 0x81 [(1, 2), (6, 16), (8, 1), (10,
  0x81000)]]))).dev.see (({} : HostView))) (0) (5) 0x81 ((W.cmd 0x81 [(1, 2), (6, 16), (8, 1), (10, 0x81000)] :
  Cmd)) = true) ∧ (sf ((W.cmd 0x81 [(1, 2), (6, 16), (8, 1), (10, 0x81000)] : Cmd)).entry 8 0 2 = 1) ∧ (((W.of
  (W.run [W.cmd 0x81 [(1, 2), (6, 16), (8, 1), (10, 0x81000)]]))).dev.ownsCtx ((W.cmd 0x81 [(1, 2), (6, 16), (8, 1),
  (10, 0x81000)] : Cmd)) (dwAt ((W.cmd 0x81 [(1, 2), (6, 16), (8, 1), (10, 0x81000)] : Cmd)).entry 1) = true) ∧
  (dwAt ((W.cmd 0x81 [(1, 2), (6, 16), (8, 1), (10, 0x81000)] : Cmd)).entry 1 * 0x40000 ≤ dw64 ((W.cmd 0x81 [(1, 2),
  (6, 16), (8, 1), (10, 0x81000)] : Cmd)).entry 10) ∧ (dw64 ((W.cmd 0x81 [(1, 2), (6, 16), (8, 1), (10, 0x81000)] :
  Cmd)).entry 10 + dwAt ((W.cmd 0x81 [(1, 2), (6, 16), (8, 1), (10, 0x81000)] : Cmd)).entry 6 ≤ dwAt ((W.cmd 0x81
  [(1, 2), (6, 16), (8, 1), (10, 0x81000)] : Cmd)).entry 1 * 0x40000 + 0x20000) := by decide

theorem wit_write_store : ((0) < 128) ∧ ((5) < 2 ^ 64) ∧ (Starts (((W.of fun d => (fun d => (fun d =>
  { d with pip := { d.pip with takes := [] } }) (d.setSset 0
  { setId := 1, n := 2, members := [0, 1, 2], live := [0, 1, 2], stripes := 640, extents := [(0, 0), (1, 2 ^ 32)], indexed := true }))
  ((W.run [W.cmd 0x81 [(6, 4096)]] d).setSetReg 0 Reg.STR.STATE 2))).dev.see (({} : HostView))) (0) (5) 0x81 ((W.cmd
  0x81 [(6, 4096)] : Cmd)) = true) ∧ (sf ((W.cmd 0x81 [(6, 4096)] : Cmd)).entry 8 0 2 = 0) ∧ (dwAt ((W.cmd 0x81 [(6,
  4096)] : Cmd)).entry 1 < 8) ∧ (((W.of fun d => (fun d => (fun d => { d with pip := { d.pip with takes := [] } })
  (d.setSset 0
  { setId := 1, n := 2, members := [0, 1, 2], live := [0, 1, 2], stripes := 640, extents := [(0, 0), (1, 2 ^ 32)], indexed := true }))
  ((W.run [W.cmd 0x81 [(6, 4096)]] d).setSetReg 0 Reg.STR.STATE 2))).dev.setOwner (dwAt ((W.cmd 0x81 [(6, 4096)] :
  Cmd)).entry 1) = ((W.cmd 0x81 [(6, 4096)] : Cmd)).part) ∧ (dw64 ((W.cmd 0x81 [(6, 4096)] : Cmd)).entry 10 % 4096 =
  0) ∧ (dwAt ((W.cmd 0x81 [(6, 4096)] : Cmd)).entry 6 % 4096 = 0) ∧ (4096 ≤ dwAt ((W.cmd 0x81 [(6, 4096)] :
  Cmd)).entry 6) ∧ (dwAt ((W.cmd 0x81 [(6, 4096)] : Cmd)).entry 6 ≤ 2 ^ 24) ∧ (((W.of fun d => (fun d => (fun d =>
  { d with pip := { d.pip with takes := [] } }) (d.setSset 0
  { setId := 1, n := 2, members := [0, 1, 2], live := [0, 1, 2], stripes := 640, extents := [(0, 0), (1, 2 ^ 32)], indexed := true }))
  ((W.run [W.cmd 0x81 [(6, 4096)]] d).setSetReg 0 Reg.STR.STATE 2))).dev.setUp (dwAt ((W.cmd 0x81 [(6, 4096)] :
  Cmd)).entry 1) = true) ∧ (dw64 ((W.cmd 0x81 [(6, 4096)] : Cmd)).entry 10 + dwAt ((W.cmd 0x81 [(6, 4096)] :
  Cmd)).entry 6 ≤ ((((W.of fun d => (fun d => (fun d => { d with pip := { d.pip with takes := [] } }) (d.setSset 0
  { setId := 1, n := 2, members := [0, 1, 2], live := [0, 1, 2], stripes := 640, extents := [(0, 0), (1, 2 ^ 32)], indexed := true }))
  ((W.run [W.cmd 0x81 [(6, 4096)]] d).setSetReg 0 Reg.STR.STATE 2))).dev.sset (dwAt ((W.cmd 0x81 [(6, 4096)] :
  Cmd)).entry 1)).storeExtents ((W.cmd 0x81 [(6, 4096)] : Cmd)).part).length * (((W.of fun d => (fun d => (fun d =>
  { d with pip := { d.pip with takes := [] } }) (d.setSset 0
  { setId := 1, n := 2, members := [0, 1, 2], live := [0, 1, 2], stripes := 640, extents := [(0, 0), (1, 2 ^ 32)], indexed := true }))
  ((W.run [W.cmd 0x81 [(6, 4096)]] d).setSetReg 0 Reg.STR.STATE 2))).dev.sset (dwAt ((W.cmd 0x81 [(6, 4096)] :
  Cmd)).entry 1)).extentSize) ∧ (((W.of fun d => (fun d => (fun d => { d with pip := { d.pip with takes := [] } })
  (d.setSset 0
  { setId := 1, n := 2, members := [0, 1, 2], live := [0, 1, 2], stripes := 640, extents := [(0, 0), (1, 2 ^ 32)], indexed := true }))
  ((W.run [W.cmd 0x81 [(6, 4096)]] d).setSetReg 0 Reg.STR.STATE 2))).dev.locked ((W.cmd 0x81 [(6, 4096)] : Cmd)) =
  false) ∧ (((W.of fun d => (fun d => (fun d => { d with pip := { d.pip with takes := [] } }) (d.setSset 0
  { setId := 1, n := 2, members := [0, 1, 2], live := [0, 1, 2], stripes := 640, extents := [(0, 0), (1, 2 ^ 32)], indexed := true }))
  ((W.run [W.cmd 0x81 [(6, 4096)]] d).setSetReg 0 Reg.STR.STATE 2))).dev.pendingRoom (dwAt ((W.cmd 0x81 [(6, 4096)]
  : Cmd)).entry 6) = true) := by decide

theorem wit_read : ((0) < 128) ∧ ((5) < 2 ^ 64) ∧ (Starts (((W.of (W.run [W.cmd 0x82 [(1, 2), (6, 16), (8, 1), (10,
  0x81000)]]))).dev.see (({} : HostView))) (0) (5) 0x82 ((W.cmd 0x82 [(1, 2), (6, 16), (8, 1), (10, 0x81000)] :
  Cmd)) = true) ∧ (sf ((W.cmd 0x82 [(1, 2), (6, 16), (8, 1), (10, 0x81000)] : Cmd)).entry 8 0 2 = 1) ∧ (((W.of
  (W.run [W.cmd 0x82 [(1, 2), (6, 16), (8, 1), (10, 0x81000)]]))).dev.ownsCtx ((W.cmd 0x82 [(1, 2), (6, 16), (8, 1),
  (10, 0x81000)] : Cmd)) (dwAt ((W.cmd 0x82 [(1, 2), (6, 16), (8, 1), (10, 0x81000)] : Cmd)).entry 1) = true) ∧
  (dwAt ((W.cmd 0x82 [(1, 2), (6, 16), (8, 1), (10, 0x81000)] : Cmd)).entry 1 * 0x40000 ≤ dw64 ((W.cmd 0x82 [(1, 2),
  (6, 16), (8, 1), (10, 0x81000)] : Cmd)).entry 10) ∧ (dw64 ((W.cmd 0x82 [(1, 2), (6, 16), (8, 1), (10, 0x81000)] :
  Cmd)).entry 10 + dwAt ((W.cmd 0x82 [(1, 2), (6, 16), (8, 1), (10, 0x81000)] : Cmd)).entry 6 ≤ (dwAt ((W.cmd 0x82
  [(1, 2), (6, 16), (8, 1), (10, 0x81000)] : Cmd)).entry 1 + 1) * 0x40000) ∧ (((W.of (W.run [W.cmd 0x82 [(1, 2), (6,
  16), (8, 1), (10, 0x81000)]]))).dev.shed = 0) := by decide

theorem wit_read_shed : ((0) < 128) ∧ ((5) < 2 ^ 64) ∧ (Starts (((W.of fun d => (W.run [W.cmd 0x82 [(1, 2), (6, 16),
  (8, 1), (10, 0x81000)]] d).wr Pg.THM Reg.THM.SHED_LEVEL 1)).dev.see (({} : HostView))) (0) (5) 0x82 ((W.cmd 0x82
  [(1, 2), (6, 16), (8, 1), (10, 0x81000)] : Cmd)) = true) ∧ (sf ((W.cmd 0x82 [(1, 2), (6, 16), (8, 1), (10,
  0x81000)] : Cmd)).entry 8 0 2 = 1) ∧ (((W.of fun d => (W.run [W.cmd 0x82 [(1, 2), (6, 16), (8, 1), (10, 0x81000)]]
  d).wr Pg.THM Reg.THM.SHED_LEVEL 1)).dev.ownsCtx ((W.cmd 0x82 [(1, 2), (6, 16), (8, 1), (10, 0x81000)] : Cmd))
  (dwAt ((W.cmd 0x82 [(1, 2), (6, 16), (8, 1), (10, 0x81000)] : Cmd)).entry 1) = true) ∧ (dwAt ((W.cmd 0x82 [(1, 2),
  (6, 16), (8, 1), (10, 0x81000)] : Cmd)).entry 1 * 0x40000 ≤ dw64 ((W.cmd 0x82 [(1, 2), (6, 16), (8, 1), (10,
  0x81000)] : Cmd)).entry 10) ∧ (dw64 ((W.cmd 0x82 [(1, 2), (6, 16), (8, 1), (10, 0x81000)] : Cmd)).entry 10 + dwAt
  ((W.cmd 0x82 [(1, 2), (6, 16), (8, 1), (10, 0x81000)] : Cmd)).entry 6 ≤ (dwAt ((W.cmd 0x82 [(1, 2), (6, 16), (8,
  1), (10, 0x81000)] : Cmd)).entry 1 + 1) * 0x40000) ∧ (1 ≤ ((W.of fun d => (W.run [W.cmd 0x82 [(1, 2), (6, 16), (8,
  1), (10, 0x81000)]] d).wr Pg.THM Reg.THM.SHED_LEVEL 1)).dev.shed) := by decide

theorem wit_bar2Access_write : ((0) < 64) ∧ ((0x81803) < 2 ^ 26) ∧ (1 ≤ (([7, 8, 9, 255] : List Byte)).length) ∧
  ((0x81803) % 4096 + (([7, 8, 9, 255] : List Byte)).length ≤ 4096) ∧ ((W.on).dev.stopped = false) ∧
  ((W.on).dev.hasFn (0) = true) ∧ ((W.on).dev.running = true) ∧ ((W.on).dev.allAwake = true) ∧ ((W.on).dev.keep =
  false) ∧ ((0) = 0 ∨ (W.on).dev.ctxOwner ((0x81803) / 0x40000) = (0)) ∧ (0x1000 ≤ (0x81803) % 0x40000) ∧ ((0x81803)
  % 0x40000 + (([7, 8, 9, 255] : List Byte)).length ≤ 0x20000) := by decide

theorem wit_bar2Access_read : ((0) < 64) ∧ ((0x81803) < 2 ^ 26) ∧ (1 ≤ (4)) ∧ ((0x81803) % 4096 + (4) ≤ 4096) ∧
  ((W.on).dev.stopped = false) ∧ ((W.on).dev.hasFn (0) = true) ∧ ((W.on).dev.running = true) ∧ ((W.on).dev.allAwake
  = true) ∧ ((W.on).dev.keep = false) ∧ ((0) = 0 ∨ (W.on).dev.ctxOwner ((0x81803) / 0x40000) = (0)) := by decide

theorem wit_bar2Access_denied : ((1) < 64) ∧ ((0x81803) < 2 ^ 26) ∧ (1 ≤ (4)) ∧ ((0x81803) % 4096 + (4) ≤ 4096) ∧
  (((W.of fun d => { d with hst := { d.hst with numVfs := 2 } })).dev.stopped = false) ∧ (((W.of fun d =>
  { d with hst := { d.hst with numVfs := 2 } })).dev.hasFn (1) = true) ∧ (((W.of fun d =>
  { d with hst := { d.hst with numVfs := 2 } })).dev.running = true) ∧ (((W.of fun d =>
  { d with hst := { d.hst with numVfs := 2 } })).dev.allAwake = true) ∧ (((W.of fun d =>
  { d with hst := { d.hst with numVfs := 2 } })).dev.keep = false) ∧ ((1) ≠ 0) ∧ (((W.of fun d =>
  { d with hst := { d.hst with numVfs := 2 } })).dev.ctxOwner ((0x81803) / 0x40000) ≠ (1)) := by decide

theorem wit_rctCommand : (rctParse (((W.rct [7] 1 3 1 0 (3 :: zeros 63)) : List Byte)) = some ((((rctParse (W.rct
  [7] 1 3 1 0 (3 :: zeros 63))).getD ⟨0, 0, 0, 0, 0, [], [], []⟩) : RctIn))) ∧ (((((rctParse (W.rct [7] 1 3 1 0 (3
  :: zeros 63))).getD ⟨0, 0, 0, 0, 0, [], [], []⟩) : RctIn)).type = 0x01) ∧ (((W.of (W.net W.sess))).dev.session?
  ((((rctParse (W.rct [7] 1 3 1 0 (3 :: zeros 63))).getD ⟨0, 0, 0, 0, 0, [], [], []⟩) : RctIn)).session = some
  ((W.sess : Session))) ∧ (((W.sess : Session)).state = .opened) ∧ (((W.of (W.net W.sess))).dev.portUp (1) = true) ∧
  ((1) < 2) ∧ (((W.of (W.net W.sess))).dev.stopped = false) ∧ (((W.of (W.net W.sess))).dev.allAwake = true) ∧
  ((Crypto.hmac ((W.sess : Session)).key ((((rctParse (W.rct [7] 1 3 1 0 (3 :: zeros 63))).getD ⟨0, 0, 0, 0, 0, [],
  [], []⟩) : RctIn)).covered).take 16 = ((((rctParse (W.rct [7] 1 3 1 0 (3 :: zeros 63))).getD ⟨0, 0, 0, 0, 0, [],
  [], []⟩) : RctIn)).mac) ∧ (((((rctParse (W.rct [7] 1 3 1 0 (3 :: zeros 63))).getD ⟨0, 0, 0, 0, 0, [], [], []⟩) :
  RctIn)).seq = ((W.sess : Session)).rxNext % 2 ^ 32) ∧ (((W.sess : Session)).early = []) ∧ (((W.sess :
  Session)).unacked = []) ∧ (((W.sess : Session)).waiting = []) ∧ (((W.of (W.net W.sess))).dev.queue? ((W.sess :
  Session)).part ((W.sess : Session)).queue = some ((networkAdmin : Queue))) ∧ (((((rctParse (W.rct [7] 1 3 1 0 (3
  :: zeros 63))).getD ⟨0, 0, 0, 0, 0, [], [], []⟩) : RctIn)).payload.length = 64) ∧ (((W.of (W.net
  W.sess))).dev.sqRoom ((W.sess : Session)).part ((W.sess : Session)).queue ((networkAdmin : Queue)) = true) ∧
  (((W.sess : Session)).part = 64) ∧ (((W.sess : Session)).queue = 0) ∧ (adminOp (opcode ((List.range 16).map fun i
  => ofLe ((((((rctParse (W.rct [7] 1 3 1 0 (3 :: zeros 63))).getD ⟨0, 0, 0, 0, 0, [], [], []⟩) :
  RctIn)).payload.drop (4 * i)).take 4))) = true) ∧ (((W.of (W.net W.sess))).dev.hst.sessions = [(((((rctParse
  (W.rct [7] 1 3 1 0 (3 :: zeros 63))).getD ⟨0, 0, 0, 0, 0, [], [], []⟩) : RctIn)).session, ((W.sess : Session)))])
  := by decide

theorem wit_rctCommand_mac : (rctParse (((W.rct [7] 1 3 1 0 (3 :: zeros 63)) : List Byte)) = some ((((rctParse
  (W.rct [7] 1 3 1 0 (3 :: zeros 63))).getD ⟨0, 0, 0, 0, 0, [], [], []⟩) : RctIn))) ∧ (((((rctParse (W.rct [7] 1 3 1
  0 (3 :: zeros 63))).getD ⟨0, 0, 0, 0, 0, [], [], []⟩) : RctIn)).type = 0x01) ∧ (((W.of (W.net
  { W.sess with key := [8] }))).dev.session? ((((rctParse (W.rct [7] 1 3 1 0 (3 :: zeros 63))).getD ⟨0, 0, 0, 0, 0,
  [], [], []⟩) : RctIn)).session = some (({ W.sess with key := [8] } : Session))) ∧ ((({ W.sess with key := [8] } :
  Session)).state = .opened) ∧ (((W.of (W.net { W.sess with key := [8] }))).dev.portUp (1) = true) ∧ ((1) < 2) ∧
  (((W.of (W.net { W.sess with key := [8] }))).dev.stopped = false) ∧ (((W.of (W.net
  { W.sess with key := [8] }))).dev.allAwake = true) ∧ ((Crypto.hmac (({ W.sess with key := [8] } : Session)).key
  ((((rctParse (W.rct [7] 1 3 1 0 (3 :: zeros 63))).getD ⟨0, 0, 0, 0, 0, [], [], []⟩) : RctIn)).covered).take 16 ≠
  ((((rctParse (W.rct [7] 1 3 1 0 (3 :: zeros 63))).getD ⟨0, 0, 0, 0, 0, [], [], []⟩) : RctIn)).mac) := by decide

theorem wit_rctData : (rctParse (((W.rct [7] 3 3 1 0 (leBytes 2 7 ++ zeros 2 ++ leBytes 4 5 ++ zeros 8 ++ [1, 2,
  3])) : List Byte)) = some ((((rctParse (W.rct [7] 3 3 1 0 (leBytes 2 7 ++ zeros 2 ++ leBytes 4 5 ++ zeros 8 ++ [1,
  2, 3]))).getD ⟨0, 0, 0, 0, 0, [], [], []⟩) : RctIn))) ∧ (((((rctParse (W.rct [7] 3 3 1 0 (leBytes 2 7 ++ zeros 2
  ++ leBytes 4 5 ++ zeros 8 ++ [1, 2, 3]))).getD ⟨0, 0, 0, 0, 0, [], [], []⟩) : RctIn)).type = 0x03) ∧ (((W.of fun d
  => W.run [{ W.cmd 0x08 [(6, 8192)] with part := 64, queue := 0, phase := .moving, window := some (0, 8192) }]
  (W.net W.sess d))).dev.session? ((((rctParse (W.rct [7] 3 3 1 0 (leBytes 2 7 ++ zeros 2 ++ leBytes 4 5 ++ zeros 8
  ++ [1, 2, 3]))).getD ⟨0, 0, 0, 0, 0, [], [], []⟩) : RctIn)).session = some ((W.sess : Session))) ∧ (((W.sess :
  Session)).state = .opened) ∧ (((W.of fun d => W.run
  [{ W.cmd 0x08 [(6, 8192)] with part := 64, queue := 0, phase := .moving, window := some (0, 8192) }] (W.net W.sess
  d))).dev.portUp (1) = true) ∧ ((1) < 2) ∧ (((W.of fun d => W.run
  [{ W.cmd 0x08 [(6, 8192)] with part := 64, queue := 0, phase := .moving, window := some (0, 8192) }] (W.net W.sess
  d))).dev.stopped = false) ∧ (((W.of fun d => W.run
  [{ W.cmd 0x08 [(6, 8192)] with part := 64, queue := 0, phase := .moving, window := some (0, 8192) }] (W.net W.sess
  d))).dev.allAwake = true) ∧ ((Crypto.hmac ((W.sess : Session)).key ((((rctParse (W.rct [7] 3 3 1 0 (leBytes 2 7 ++
  zeros 2 ++ leBytes 4 5 ++ zeros 8 ++ [1, 2, 3]))).getD ⟨0, 0, 0, 0, 0, [], [], []⟩) : RctIn)).covered).take 16 =
  ((((rctParse (W.rct [7] 3 3 1 0 (leBytes 2 7 ++ zeros 2 ++ leBytes 4 5 ++ zeros 8 ++ [1, 2, 3]))).getD ⟨0, 0, 0,
  0, 0, [], [], []⟩) : RctIn)).mac) ∧ (((((rctParse (W.rct [7] 3 3 1 0 (leBytes 2 7 ++ zeros 2 ++ leBytes 4 5 ++
  zeros 8 ++ [1, 2, 3]))).getD ⟨0, 0, 0, 0, 0, [], [], []⟩) : RctIn)).seq = ((W.sess : Session)).rxNext % 2 ^ 32) ∧
  (((W.sess : Session)).early = []) ∧ (((W.sess : Session)).unacked = []) ∧ (((W.sess : Session)).waiting = []) ∧
  ((((W.of fun d => W.run
  [{ W.cmd 0x08 [(6, 8192)] with part := 64, queue := 0, phase := .moving, window := some (0, 8192) }] (W.net W.sess
  d))).dev.hst.cmds.map (·.2)).find? (fun e => e.part = ((W.sess : Session)).part && e.queue = ((W.sess :
  Session)).queue && e.cid = ofLe (((((rctParse (W.rct [7] 3 3 1 0 (leBytes 2 7 ++ zeros 2 ++ leBytes 4 5 ++ zeros 8
  ++ [1, 2, 3]))).getD ⟨0, 0, 0, 0, 0, [], [], []⟩) : RctIn)).payload.take 2) && e.asn % 2 ^ 32 = ofLe
  ((((((rctParse (W.rct [7] 3 3 1 0 (leBytes 2 7 ++ zeros 2 ++ leBytes 4 5 ++ zeros 8 ++ [1, 2, 3]))).getD ⟨0, 0, 0,
  0, 0, [], [], []⟩) : RctIn)).payload.drop 4).take 4)) = some
  (({ W.cmd 0x08 [(6, 8192)] with part := 64, queue := 0, phase := .moving, window := some (0, 8192) } : Cmd))) ∧
  ((({ W.cmd 0x08 [(6, 8192)] with part := 64, queue := 0, phase := .moving, window := some (0, 8192) } :
  Cmd)).window = some (0, 8192)) ∧ (16 < ((((rctParse (W.rct [7] 3 3 1 0 (leBytes 2 7 ++ zeros 2 ++ leBytes 4 5 ++
  zeros 8 ++ [1, 2, 3]))).getD ⟨0, 0, 0, 0, 0, [], [], []⟩) : RctIn)).payload.length) ∧ (((((rctParse (W.rct [7] 3 3
  1 0 (leBytes 2 7 ++ zeros 2 ++ leBytes 4 5 ++ zeros 8 ++ [1, 2, 3]))).getD ⟨0, 0, 0, 0, 0, [], [], []⟩) :
  RctIn)).payload.length ≤ 16 + ((W.sess : Session)).dataKib * 1024) ∧ (((((rctParse (W.rct [7] 3 3 1 0 (leBytes 2 7
  ++ zeros 2 ++ leBytes 4 5 ++ zeros 8 ++ [1, 2, 3]))).getD ⟨0, 0, 0, 0, 0, [], [], []⟩) : RctIn)).payload.length <
  8208) ∧ (ofLe ((((((rctParse (W.rct [7] 3 3 1 0 (leBytes 2 7 ++ zeros 2 ++ leBytes 4 5 ++ zeros 8 ++ [1, 2,
  3]))).getD ⟨0, 0, 0, 0, 0, [], [], []⟩) : RctIn)).payload.drop 2).take 1) = 0) ∧ (ofLe ((((((rctParse (W.rct [7] 3
  3 1 0 (leBytes 2 7 ++ zeros 2 ++ leBytes 4 5 ++ zeros 8 ++ [1, 2, 3]))).getD ⟨0, 0, 0, 0, 0, [], [], []⟩) :
  RctIn)).payload.drop 8).take 4) = 0) ∧
  ((({ W.cmd 0x08 [(6, 8192)] with part := 64, queue := 0, phase := .moving, window := some (0, 8192) } : Cmd)).rx =
  []) ∧ (((W.of fun d => W.run
  [{ W.cmd 0x08 [(6, 8192)] with part := 64, queue := 0, phase := .moving, window := some (0, 8192) }] (W.net W.sess
  d))).dev.cmd? (({ W.cmd 0x08 [(6, 8192)] with part := 64, queue := 0, phase := .moving, window := some (0, 8192) }
  : Cmd)).part (({ W.cmd 0x08 [(6, 8192)] with part := 64, queue := 0, phase := .moving, window := some (0, 8192) }
  : Cmd)).asn = some
  (({ W.cmd 0x08 [(6, 8192)] with part := 64, queue := 0, phase := .moving, window := some (0, 8192) } : Cmd))) ∧
  (((W.of fun d => W.run
  [{ W.cmd 0x08 [(6, 8192)] with part := 64, queue := 0, phase := .moving, window := some (0, 8192) }] (W.net W.sess
  d))).dev.hst.sessions = [(((((rctParse (W.rct [7] 3 3 1 0 (leBytes 2 7 ++ zeros 2 ++ leBytes 4 5 ++ zeros 8 ++ [1,
  2, 3]))).getD ⟨0, 0, 0, 0, 0, [], [], []⟩) : RctIn)).session, ((W.sess : Session)))]) := by decide

theorem wit_rctData_mac : (rctParse (((W.rct [7] 3 3 1 0 (zeros 20)) : List Byte)) = some ((((rctParse (W.rct [7] 3
  3 1 0 (zeros 20))).getD ⟨0, 0, 0, 0, 0, [], [], []⟩) : RctIn))) ∧ (((((rctParse (W.rct [7] 3 3 1 0 (zeros
  20))).getD ⟨0, 0, 0, 0, 0, [], [], []⟩) : RctIn)).type = 0x03) ∧ (((W.of (W.net
  { W.sess with key := [8] }))).dev.session? ((((rctParse (W.rct [7] 3 3 1 0 (zeros 20))).getD ⟨0, 0, 0, 0, 0, [],
  [], []⟩) : RctIn)).session = some (({ W.sess with key := [8] } : Session))) ∧ ((({ W.sess with key := [8] } :
  Session)).state = .opened) ∧ (((W.of (W.net { W.sess with key := [8] }))).dev.portUp (1) = true) ∧ ((1) < 2) ∧
  (((W.of (W.net { W.sess with key := [8] }))).dev.stopped = false) ∧ (((W.of (W.net
  { W.sess with key := [8] }))).dev.allAwake = true) ∧ ((Crypto.hmac (({ W.sess with key := [8] } : Session)).key
  ((((rctParse (W.rct [7] 3 3 1 0 (zeros 20))).getD ⟨0, 0, 0, 0, 0, [], [], []⟩) : RctIn)).covered).take 16 ≠
  ((((rctParse (W.rct [7] 3 3 1 0 (zeros 20))).getD ⟨0, 0, 0, 0, 0, [], [], []⟩) : RctIn)).mac) := by decide

theorem wit_rctAck : (rctParse (((W.rct [7] 5 3 0 2 ([])) : List Byte)) = some ((((rctParse (W.rct [7] 5 3 0 2
  ([]))).getD ⟨0, 0, 0, 0, 0, [], [], []⟩) : RctIn))) ∧ (((((rctParse (W.rct [7] 5 3 0 2 ([]))).getD ⟨0, 0, 0, 0, 0,
  [], [], []⟩) : RctIn)).type = 0x05) ∧ (((W.of (W.net
  { W.sess with txSeq := 4, unacked := [{ type := 2, payload := [], seq := 1 }, { type := 2, payload := [], seq := 3 }] }))).dev.session?
  ((((rctParse (W.rct [7] 5 3 0 2 ([]))).getD ⟨0, 0, 0, 0, 0, [], [], []⟩) : RctIn)).session = some
  (({ W.sess with txSeq := 4, unacked := [{ type := 2, payload := [], seq := 1 }, { type := 2, payload := [], seq := 3 }] }
  : Session))) ∧
  ((({ W.sess with txSeq := 4, unacked := [{ type := 2, payload := [], seq := 1 }, { type := 2, payload := [], seq := 3 }] }
  : Session)).state = .opened) ∧ (((W.of (W.net
  { W.sess with txSeq := 4, unacked := [{ type := 2, payload := [], seq := 1 }, { type := 2, payload := [], seq := 3 }] }))).dev.portUp
  (1) = true) ∧ ((1) < 2) ∧ (((W.of (W.net
  { W.sess with txSeq := 4, unacked := [{ type := 2, payload := [], seq := 1 }, { type := 2, payload := [], seq := 3 }] }))).dev.stopped
  = false) ∧ (((W.of (W.net
  { W.sess with txSeq := 4, unacked := [{ type := 2, payload := [], seq := 1 }, { type := 2, payload := [], seq := 3 }] }))).dev.allAwake
  = true) ∧ ((Crypto.hmac
  (({ W.sess with txSeq := 4, unacked := [{ type := 2, payload := [], seq := 1 }, { type := 2, payload := [], seq := 3 }] }
  : Session)).key ((((rctParse (W.rct [7] 5 3 0 2 ([]))).getD ⟨0, 0, 0, 0, 0, [], [], []⟩) : RctIn)).covered).take
  16 = ((((rctParse (W.rct [7] 5 3 0 2 ([]))).getD ⟨0, 0, 0, 0, 0, [], [], []⟩) : RctIn)).mac) ∧
  ((({ W.sess with txSeq := 4, unacked := [{ type := 2, payload := [], seq := 1 }, { type := 2, payload := [], seq := 3 }] }
  : Session)).waiting = []) ∧
  (((({ W.sess with txSeq := 4, unacked := [{ type := 2, payload := [], seq := 1 }, { type := 2, payload := [], seq := 3 }] }
  : Session)).txSeq + 2 ^ 32 - ((((rctParse (W.rct [7] 5 3 0 2 ([]))).getD ⟨0, 0, 0, 0, 0, [], [], []⟩) :
  RctIn)).ack) % 2 ^ 32 ≤ 256) ∧ (((((rctParse (W.rct [7] 5 3 0 2 ([]))).getD ⟨0, 0, 0, 0, 0, [], [], []⟩) :
  RctIn)).sack = 0) ∧
  ((({ W.sess with txSeq := 4, unacked := [{ type := 2, payload := [], seq := 1 }, { type := 2, payload := [], seq := 3 }] }
  : Session)).unacked.all (fun e => e.type = 2) = true) := by decide

theorem wit_rctAck_mac : (rctParse (((W.rct [7] 5 3 1 0 ([])) : List Byte)) = some ((((rctParse (W.rct [7] 5 3 1 0
  ([]))).getD ⟨0, 0, 0, 0, 0, [], [], []⟩) : RctIn))) ∧ (((((rctParse (W.rct [7] 5 3 1 0 ([]))).getD ⟨0, 0, 0, 0, 0,
  [], [], []⟩) : RctIn)).type = 0x05) ∧ (((W.of (W.net { W.sess with key := [8] }))).dev.session? ((((rctParse
  (W.rct [7] 5 3 1 0 ([]))).getD ⟨0, 0, 0, 0, 0, [], [], []⟩) : RctIn)).session = some (({ W.sess with key := [8] }
  : Session))) ∧ ((({ W.sess with key := [8] } : Session)).state = .opened) ∧ (((W.of (W.net
  { W.sess with key := [8] }))).dev.portUp (1) = true) ∧ ((1) < 2) ∧ (((W.of (W.net
  { W.sess with key := [8] }))).dev.stopped = false) ∧ (((W.of (W.net { W.sess with key := [8] }))).dev.allAwake =
  true) ∧ ((Crypto.hmac (({ W.sess with key := [8] } : Session)).key ((((rctParse (W.rct [7] 5 3 1 0 ([]))).getD ⟨0,
  0, 0, 0, 0, [], [], []⟩) : RctIn)).covered).take 16 ≠ ((((rctParse (W.rct [7] 5 3 1 0 ([]))).getD ⟨0, 0, 0, 0, 0,
  [], [], []⟩) : RctIn)).mac) := by decide

theorem wit_rctClose : (rctParse (((W.rct [7] 20 3 1 0 ([])) : List Byte)) = some ((((rctParse (W.rct [7] 20 3 1 0
  ([]))).getD ⟨0, 0, 0, 0, 0, [], [], []⟩) : RctIn))) ∧ (((((rctParse (W.rct [7] 20 3 1 0 ([]))).getD ⟨0, 0, 0, 0,
  0, [], [], []⟩) : RctIn)).type = 0x14) ∧ (((W.of fun d => W.run [{ W.cmd 0x08 [] with part := 64, queue := 0 }]
  (W.net W.sess d))).dev.session? ((((rctParse (W.rct [7] 20 3 1 0 ([]))).getD ⟨0, 0, 0, 0, 0, [], [], []⟩) :
  RctIn)).session = some ((W.sess : Session))) ∧ (((W.sess : Session)).state = .opened) ∧ (((W.of fun d => W.run
  [{ W.cmd 0x08 [] with part := 64, queue := 0 }] (W.net W.sess d))).dev.portUp (1) = true) ∧ ((1) < 2) ∧ (((W.of
  fun d => W.run [{ W.cmd 0x08 [] with part := 64, queue := 0 }] (W.net W.sess d))).dev.stopped = false) ∧ (((W.of
  fun d => W.run [{ W.cmd 0x08 [] with part := 64, queue := 0 }] (W.net W.sess d))).dev.allAwake = true) ∧
  ((Crypto.hmac ((W.sess : Session)).key ((((rctParse (W.rct [7] 20 3 1 0 ([]))).getD ⟨0, 0, 0, 0, 0, [], [], []⟩) :
  RctIn)).covered).take 16 = ((((rctParse (W.rct [7] 20 3 1 0 ([]))).getD ⟨0, 0, 0, 0, 0, [], [], []⟩) :
  RctIn)).mac) ∧ (((((rctParse (W.rct [7] 20 3 1 0 ([]))).getD ⟨0, 0, 0, 0, 0, [], [], []⟩) : RctIn)).seq = ((W.sess
  : Session)).rxNext % 2 ^ 32) ∧ (((W.sess : Session)).early = []) ∧ (((W.sess : Session)).unacked = []) ∧ (((W.sess
  : Session)).waiting = []) ∧ (0 < ((W.of fun d => W.run [{ W.cmd 0x08 [] with part := 64, queue := 0 }] (W.net
  W.sess d))).dev.outstanding ((W.sess : Session)).part ((W.sess : Session)).queue) := by decide

theorem wit_rctClose_mac : (rctParse (((W.rct [7] 20 3 1 0 ([])) : List Byte)) = some ((((rctParse (W.rct [7] 20 3 1
  0 ([]))).getD ⟨0, 0, 0, 0, 0, [], [], []⟩) : RctIn))) ∧ (((((rctParse (W.rct [7] 20 3 1 0 ([]))).getD ⟨0, 0, 0, 0,
  0, [], [], []⟩) : RctIn)).type = 0x14) ∧ (((W.of (W.net { W.sess with key := [8] }))).dev.session? ((((rctParse
  (W.rct [7] 20 3 1 0 ([]))).getD ⟨0, 0, 0, 0, 0, [], [], []⟩) : RctIn)).session = some (({ W.sess with key := [8] }
  : Session))) ∧ ((({ W.sess with key := [8] } : Session)).state = .opened) ∧ (((W.of (W.net
  { W.sess with key := [8] }))).dev.portUp (1) = true) ∧ ((1) < 2) ∧ (((W.of (W.net
  { W.sess with key := [8] }))).dev.stopped = false) ∧ (((W.of (W.net { W.sess with key := [8] }))).dev.allAwake =
  true) ∧ ((Crypto.hmac (({ W.sess with key := [8] } : Session)).key ((((rctParse (W.rct [7] 20 3 1 0 ([]))).getD
  ⟨0, 0, 0, 0, 0, [], [], []⟩) : RctIn)).covered).take 16 ≠ ((((rctParse (W.rct [7] 20 3 1 0 ([]))).getD ⟨0, 0, 0,
  0, 0, [], [], []⟩) : RctIn)).mac) := by decide

theorem wit_rctRto : ((3) < 2 ^ 16) ∧ ((1) < 2 ^ 64) ∧ (((W.of (W.net
  { W.sess with txSeq := 4, unacked := [{ type := 4, payload := [0], seq := 1 }] }))).dev.stopped = false) ∧ (((W.of
  (W.net { W.sess with txSeq := 4, unacked := [{ type := 4, payload := [0], seq := 1 }] }))).dev.session? (3) = some
  (({ W.sess with txSeq := 4, unacked := [{ type := 4, payload := [0], seq := 1 }] } : Session))) ∧
  ((({ W.sess with txSeq := 4, unacked := [{ type := 4, payload := [0], seq := 1 }] } : Session)).state = .opened) ∧
  ((({ W.sess with txSeq := 4, unacked := [{ type := 4, payload := [0], seq := 1 }] } : Session)).unacked.find? (fun
  e => e.seq = (1) && !e.sack) = some (({ type := 4, payload := [0], seq := 1 } : RctPacket))) ∧
  ((({ type := 4, payload := [0], seq := 1 } : RctPacket)).tries < 15) := by decide

theorem wit_rctRto_fails : ((3) < 2 ^ 16) ∧ ((1) < 2 ^ 64) ∧ (((W.of (W.net
  { W.sess with txSeq := 4, unacked := [{ type := 4, payload := [0], seq := 1, tries := 15 }] }))).dev.stopped =
  false) ∧ (((W.of (W.net
  { W.sess with txSeq := 4, unacked := [{ type := 4, payload := [0], seq := 1, tries := 15 }] }))).dev.session? (3)
  = some (({ W.sess with txSeq := 4, unacked := [{ type := 4, payload := [0], seq := 1, tries := 15 }] } :
  Session))) ∧ ((({ W.sess with txSeq := 4, unacked := [{ type := 4, payload := [0], seq := 1, tries := 15 }] } :
  Session)).state = .opened) ∧
  ((({ W.sess with txSeq := 4, unacked := [{ type := 4, payload := [0], seq := 1, tries := 15 }] } :
  Session)).unacked.find? (fun e => e.seq = (1) && !e.sack) = some
  (({ type := 4, payload := [0], seq := 1, tries := 15 } : RctPacket))) ∧ (15 ≤
  (({ type := 4, payload := [0], seq := 1, tries := 15 } : RctPacket)).tries) := by decide

theorem wit_rctKeepalive : ((3) < 2 ^ 16) ∧ (((W.of (W.net W.sess))).dev.stopped = false) ∧ (((W.of (W.net
  W.sess))).dev.session? (3) = some ((W.sess : Session))) ∧ (((W.sess : Session)).state = .opened) := by decide

theorem wit_openReq : ((1) < 2) ∧ ((W.on).dev.stopped = false) ∧ ((W.on).dev.allAwake = true) ∧ (rctParse
  (((rctHeader 0x10 0 24 0 0 0 ++ ([64, 0, 0, 0, 0, 0, 8, 0] ++ zeros 16) ++ zeros 16) : List Byte)) = some
  ((((rctParse (rctHeader 0x10 0 24 0 0 0 ++ ([64, 0, 0, 0, 0, 0, 8, 0] ++ zeros 16) ++ zeros 16)).getD ⟨0, 0, 0, 0,
  0, [], [], []⟩) : RctIn))) ∧ ((W.on).dev.portUp (1) = true) ∧ (((((rctParse (rctHeader 0x10 0 24 0 0 0 ++ ([64, 0,
  0, 0, 0, 0, 8, 0] ++ zeros 16) ++ zeros 16)).getD ⟨0, 0, 0, 0, 0, [], [], []⟩) : RctIn)).type = 0x10) ∧
  (((((rctParse (rctHeader 0x10 0 24 0 0 0 ++ ([64, 0, 0, 0, 0, 0, 8, 0] ++ zeros 16) ++ zeros 16)).getD ⟨0, 0, 0,
  0, 0, [], [], []⟩) : RctIn)).session = 0) ∧ (((((rctParse (rctHeader 0x10 0 24 0 0 0 ++ ([64, 0, 0, 0, 0, 0, 8, 0]
  ++ zeros 16) ++ zeros 16)).getD ⟨0, 0, 0, 0, 0, [], [], []⟩) : RctIn)).payload.length = 24) ∧ (1 ≤ ofLe
  ((((((rctParse (rctHeader 0x10 0 24 0 0 0 ++ ([64, 0, 0, 0, 0, 0, 8, 0] ++ zeros 16) ++ zeros 16)).getD ⟨0, 0, 0,
  0, 0, [], [], []⟩) : RctIn)).payload.drop 6).take 2)) ∧ (ofLe ((((((rctParse (rctHeader 0x10 0 24 0 0 0 ++ ([64,
  0, 0, 0, 0, 0, 8, 0] ++ zeros 16) ++ zeros 16)).getD ⟨0, 0, 0, 0, 0, [], [], []⟩) : RctIn)).payload.drop 6).take
  2) ≤ 8) ∧ (Assoc.find (W.on).dev.hst.ignored (9) = none) ∧ ((1) = freeSession ((W.on).dev.hst.sessions.map (·.1))
  ((W.on).dev.hst.sessions.length + 1) 1) ∧ ((1) < 65536) := by decide

theorem wit_openProve : ((1) < 2) ∧ (((W.of (W.net ({ W.sess with state := .challenged, key := [] })))).dev.stopped
  = false) ∧ (((W.of (W.net ({ W.sess with state := .challenged, key := [] })))).dev.allAwake = true) ∧ (rctParse
  (((rctHeader 0x12 3 32 0 0 0 ++ (Crypto.hmac [5] (ascii "RCT-C" ++ [1] ++ [2] ++ leBytes 2 3 ++ leBytes 1 64 ++
  leBytes 2 0)) ++ zeros 16) : List Byte)) = some ((((rctParse (rctHeader 0x12 3 32 0 0 0 ++ (Crypto.hmac [5] (ascii
  "RCT-C" ++ [1] ++ [2] ++ leBytes 2 3 ++ leBytes 1 64 ++ leBytes 2 0)) ++ zeros 16)).getD ⟨0, 0, 0, 0, 0, [], [],
  []⟩) : RctIn))) ∧ (((W.of (W.net ({ W.sess with state := .challenged, key := [] })))).dev.session? ((((rctParse
  (rctHeader 0x12 3 32 0 0 0 ++ (Crypto.hmac [5] (ascii "RCT-C" ++ [1] ++ [2] ++ leBytes 2 3 ++ leBytes 1 64 ++
  leBytes 2 0)) ++ zeros 16)).getD ⟨0, 0, 0, 0, 0, [], [], []⟩) : RctIn)).session = some
  (({ W.sess with state := .challenged, key := [] } : Session))) ∧ (((W.of (W.net
  ({ W.sess with state := .challenged, key := [] })))).dev.portUp (1) = true) ∧ (((((rctParse (rctHeader 0x12 3 32 0
  0 0 ++ (Crypto.hmac [5] (ascii "RCT-C" ++ [1] ++ [2] ++ leBytes 2 3 ++ leBytes 1 64 ++ leBytes 2 0)) ++ zeros
  16)).getD ⟨0, 0, 0, 0, 0, [], [], []⟩) : RctIn)).type = 0x12) ∧ ((({ W.sess with state := .challenged, key := [] }
  : Session)).state = .challenged) ∧ (((((rctParse (rctHeader 0x12 3 32 0 0 0 ++ (Crypto.hmac [5] (ascii "RCT-C" ++
  [1] ++ [2] ++ leBytes 2 3 ++ leBytes 1 64 ++ leBytes 2 0)) ++ zeros 16)).getD ⟨0, 0, 0, 0, 0, [], [], []⟩) :
  RctIn)).payload.length = 32) ∧ (((W.of (W.net ({ W.sess with state := .challenged, key := [] })))).dev.proofResult
  ((((rctParse (rctHeader 0x12 3 32 0 0 0 ++ (Crypto.hmac [5] (ascii "RCT-C" ++ [1] ++ [2] ++ leBytes 2 3 ++ leBytes
  1 64 ++ leBytes 2 0)) ++ zeros 16)).getD ⟨0, 0, 0, 0, 0, [], [], []⟩) : RctIn)).session
  (({ W.sess with state := .challenged, key := [] } : Session)) ((((rctParse (rctHeader 0x12 3 32 0 0 0 ++
  (Crypto.hmac [5] (ascii "RCT-C" ++ [1] ++ [2] ++ leBytes 2 3 ++ leBytes 1 64 ++ leBytes 2 0)) ++ zeros 16)).getD
  ⟨0, 0, 0, 0, 0, [], [], []⟩) : RctIn)).payload = 0) ∧ ((({ W.sess with state := .challenged, key := [] } :
  Session)).queue ≠ 0 ∨ (((W.of (W.net ({ W.sess with state := .challenged, key := [] })))).dev.part
  (({ W.sess with state := .challenged, key := [] } : Session)).part).evt = none ∧ (((W.of (W.net
  ({ W.sess with state := .challenged, key := [] })))).dev.part (({ W.sess with state := .challenged, key := [] } :
  Session)).part).ast = none) ∧ (((W.of (W.net
  ({ W.sess with state := .challenged, key := [] })))).dev.hst.sessions.any (fun e => e.2.part =
  (({ W.sess with state := .challenged, key := [] } : Session)).part && e.2.queue =
  (({ W.sess with state := .challenged, key := [] } : Session)).queue && e.2.state = .hold) = false) := by decide

theorem wit_openProve_fails : ((1) < 2) ∧ (((W.of (W.net
  ({ W.sess with state := .challenged, key := [] })))).dev.stopped = false) ∧ (((W.of (W.net
  ({ W.sess with state := .challenged, key := [] })))).dev.allAwake = true) ∧ (rctParse (((rctHeader 0x12 3 32 0 0 0
  ++ zeros 32 ++ zeros 16) : List Byte)) = some ((((rctParse (rctHeader 0x12 3 32 0 0 0 ++ zeros 32 ++ zeros
  16)).getD ⟨0, 0, 0, 0, 0, [], [], []⟩) : RctIn))) ∧ (((W.of (W.net
  ({ W.sess with state := .challenged, key := [] })))).dev.session? ((((rctParse (rctHeader 0x12 3 32 0 0 0 ++ zeros
  32 ++ zeros 16)).getD ⟨0, 0, 0, 0, 0, [], [], []⟩) : RctIn)).session = some
  (({ W.sess with state := .challenged, key := [] } : Session))) ∧ (((W.of (W.net
  ({ W.sess with state := .challenged, key := [] })))).dev.portUp (1) = true) ∧ (((((rctParse (rctHeader 0x12 3 32 0
  0 0 ++ zeros 32 ++ zeros 16)).getD ⟨0, 0, 0, 0, 0, [], [], []⟩) : RctIn)).type = 0x12) ∧
  ((({ W.sess with state := .challenged, key := [] } : Session)).state = .challenged) ∧ (((((rctParse (rctHeader
  0x12 3 32 0 0 0 ++ zeros 32 ++ zeros 16)).getD ⟨0, 0, 0, 0, 0, [], [], []⟩) : RctIn)).payload.length = 32) ∧
  (((W.of (W.net ({ W.sess with state := .challenged, key := [] })))).dev.proofResult ((((rctParse (rctHeader 0x12 3
  32 0 0 0 ++ zeros 32 ++ zeros 16)).getD ⟨0, 0, 0, 0, 0, [], [], []⟩) : RctIn)).session
  (({ W.sess with state := .challenged, key := [] } : Session)) ((((rctParse (rctHeader 0x12 3 32 0 0 0 ++ zeros 32
  ++ zeros 16)).getD ⟨0, 0, 0, 0, 0, [], [], []⟩) : RctIn)).payload = 1) := by decide

theorem wit_challengeExpiry : ((3) < 2 ^ 16) ∧ (Ready ((W.of (W.net
  ({ W.sess with state := .challenged, key := [] })))).dev = true) ∧ (((W.of (W.net
  ({ W.sess with state := .challenged, key := [] })))).dev.session? (3) = some
  (({ W.sess with state := .challenged, key := [] } : Session))) ∧
  ((({ W.sess with state := .challenged, key := [] } : Session)).state = .challenged) := by decide

theorem wit_sessionTimeout : ((3) < 2 ^ 16) ∧ (Ready ((W.of (W.net
  { W.sess with unacked := [{ type := 4, payload := [0], seq := 1 }] }))).dev = true) ∧ (((W.of (W.net
  { W.sess with unacked := [{ type := 4, payload := [0], seq := 1 }] }))).dev.session? (3) = some
  (({ W.sess with unacked := [{ type := 4, payload := [0], seq := 1 }] } : Session))) ∧
  ((({ W.sess with unacked := [{ type := 4, payload := [0], seq := 1 }] } : Session)).state = .opened) := by decide

theorem wit_responseHoldExpiry : ((3) < 2 ^ 16) ∧ (Ready ((W.of (W.net { W.sess with state := .hold }))).dev = true)
  ∧ (((W.of (W.net { W.sess with state := .hold }))).dev.session? (3) = some (({ W.sess with state := .hold } :
  Session))) ∧ ((({ W.sess with state := .hold } : Session)).state = .hold) := by decide

theorem wit_flowEnable : ((0) < 64) ∧ ((3) < 48) ∧ ((1) < 2 ^ 32) ∧ (Taken ((W.of fun d => (((((((W.rsv 8 3 100
  d).wr (flowAt 3).1 Reg.NETF.WIDTH 64 3).wr (flowAt 3).1 Reg.NETF.HEIGHT 2 3).wr (flowAt 3).1 Reg.NETF.PKT_BYTES
  160 3).wr (flowAt 3).1 Reg.NETF.FPS_NUM 1 3).wr (flowAt 3).1 Reg.NETF.FPS_DEN 1 3).wr (flowAt 3).1
  Reg.NETF.PKT_BYTES 160 3))).dev (0) (flowAt (3)).1 (0x400 + 0x40 * (flowAt (3)).2) = true) ∧ (((W.of fun d =>
  (((((((W.rsv 8 3 100 d).wr (flowAt 3).1 Reg.NETF.WIDTH 64 3).wr (flowAt 3).1 Reg.NETF.HEIGHT 2 3).wr (flowAt 3).1
  Reg.NETF.PKT_BYTES 160 3).wr (flowAt 3).1 Reg.NETF.FPS_NUM 1 3).wr (flowAt 3).1 Reg.NETF.FPS_DEN 1 3).wr (flowAt
  3).1 Reg.NETF.PKT_BYTES 160 3))).dev.flw (3) Reg.NETF.EN = 0) ∧ (bits (1) 0 1 = 1) ∧ (([(Reg.NETF.EN, 0, 1),
  (Reg.NETF.DUAL, 1, 1), (Reg.NETF.ANC, 2, 1), (Reg.NETF.TPW, 3, 1), (Reg.NETF.FORMAT, 4, 4), (Reg.NETF.PORT_A, 8,
  1), (Reg.NETF.SUBIF_A, 10, 2), (Reg.NETF.SUBIF_B, 12, 2)].foldl (fun y e => y.wr (flowAt (3)).1 e.1 (bits (1)
  e.2.1 e.2.2) (flowAt (3)).2) ((W.of fun d => (((((((W.rsv 8 3 100 d).wr (flowAt 3).1 Reg.NETF.WIDTH 64 3).wr
  (flowAt 3).1 Reg.NETF.HEIGHT 2 3).wr (flowAt 3).1 Reg.NETF.PKT_BYTES 160 3).wr (flowAt 3).1 Reg.NETF.FPS_NUM 1
  3).wr (flowAt 3).1 Reg.NETF.FPS_DEN 1 3).wr (flowAt 3).1 Reg.NETF.PKT_BYTES 160 3))).dev).flowFits (3) = true) :=
  by decide

theorem wit_flowEnable_refused : ((0) < 64) ∧ ((3) < 48) ∧ ((1) < 2 ^ 32) ∧ (Taken (W.on).dev (0) (flowAt (3)).1
  (0x400 + 0x40 * (flowAt (3)).2) = true) ∧ ((W.on).dev.flw (3) Reg.NETF.EN = 0) ∧ (bits (1) 0 1 = 1) ∧
  (([(Reg.NETF.EN, 0, 1), (Reg.NETF.DUAL, 1, 1), (Reg.NETF.ANC, 2, 1), (Reg.NETF.TPW, 3, 1), (Reg.NETF.FORMAT, 4,
  4), (Reg.NETF.PORT_A, 8, 1), (Reg.NETF.SUBIF_A, 10, 2), (Reg.NETF.SUBIF_B, 12, 2)].foldl (fun y e => y.wr (flowAt
  (3)).1 e.1 (bits (1) e.2.1 e.2.2) (flowAt (3)).2) (W.on).dev).flowFits (3) = false) := by decide

theorem wit_flowEnable_stop : ((0) < 64) ∧ ((3) < 48) ∧ ((0) < 2 ^ 32) ∧ (Taken ((W.reg (flowAt 3).1 Reg.NETF.EN 1
  3)).dev (0) (flowAt (3)).1 (0x400 + 0x40 * (flowAt (3)).2) = true) ∧ (((W.reg (flowAt 3).1 Reg.NETF.EN 1
  3)).dev.flw (3) Reg.NETF.EN = 1) ∧ (bits (0) 0 1 = 0) := by decide

theorem wit_flowFrameStart : ((3) < 48) ∧ (Ready ((W.of fun d => (fun d =>
  { d with hst := { d.hst with flows := [(3, { next := some ({ w := 2, h := 1, chroma := 2, depth := 10, codes := [[[1, 2]], [[3]], [[4]]] }, zeros 256), seq := 2 ^ 32 - 1 })] } })
  ((d.wr (flowAt 3).1 Reg.NETF.EN 1 3).wr (flowAt 3).1 Reg.NETF.PKT_BYTES 160 3))).dev = true) ∧ (((W.of fun d =>
  (fun d =>
  { d with hst := { d.hst with flows := [(3, { next := some ({ w := 2, h := 1, chroma := 2, depth := 10, codes := [[[1, 2]], [[3]], [[4]]] }, zeros 256), seq := 2 ^ 32 - 1 })] } })
  ((d.wr (flowAt 3).1 Reg.NETF.EN 1 3).wr (flowAt 3).1 Reg.NETF.PKT_BYTES 160 3))).dev.allAwake = true) ∧
  (Assoc.find ((W.of fun d => (fun d =>
  { d with hst := { d.hst with flows := [(3, { next := some ({ w := 2, h := 1, chroma := 2, depth := 10, codes := [[[1, 2]], [[3]], [[4]]] }, zeros 256), seq := 2 ^ 32 - 1 })] } })
  ((d.wr (flowAt 3).1 Reg.NETF.EN 1 3).wr (flowAt 3).1 Reg.NETF.PKT_BYTES 160 3))).dev.hst.flows (3) = some
  (({ next := some ({ w := 2, h := 1, chroma := 2, depth := 10, codes := [[[1, 2]], [[3]], [[4]]] }, zeros 256), seq := 2 ^ 32 - 1 }
  : Flow))) ∧
  ((({ next := some ({ w := 2, h := 1, chroma := 2, depth := 10, codes := [[[1, 2]], [[3]], [[4]]] }, zeros 256), seq := 2 ^ 32 - 1 }
  : Flow)).next = some ((({ w := 2, h := 1, chroma := 2, depth := 10, codes := [[[1, 2]], [[3]], [[4]]] } :
  Render.Output)), ((zeros 256 : List Byte)))) ∧ (((W.of fun d => (fun d =>
  { d with hst := { d.hst with flows := [(3, { next := some ({ w := 2, h := 1, chroma := 2, depth := 10, codes := [[[1, 2]], [[3]], [[4]]] }, zeros 256), seq := 2 ^ 32 - 1 })] } })
  ((d.wr (flowAt 3).1 Reg.NETF.EN 1 3).wr (flowAt 3).1 Reg.NETF.PKT_BYTES 160 3))).dev.flw (3) Reg.NETF.EN = 1) ∧
  (((W.of fun d => (fun d =>
  { d with hst := { d.hst with flows := [(3, { next := some ({ w := 2, h := 1, chroma := 2, depth := 10, codes := [[[1, 2]], [[3]], [[4]]] }, zeros 256), seq := 2 ^ 32 - 1 })] } })
  ((d.wr (flowAt 3).1 Reg.NETF.EN 1 3).wr (flowAt 3).1 Reg.NETF.PKT_BYTES 160 3))).dev.works (flowAt (3)).1 = true)
  ∧ (((W.of fun d => (fun d =>
  { d with hst := { d.hst with flows := [(3, { next := some ({ w := 2, h := 1, chroma := 2, depth := 10, codes := [[[1, 2]], [[3]], [[4]]] }, zeros 256), seq := 2 ^ 32 - 1 })] } })
  ((d.wr (flowAt 3).1 Reg.NETF.EN 1 3).wr (flowAt 3).1 Reg.NETF.PKT_BYTES 160 3))).dev.shed < 3) := by decide

theorem wit_flowFrameStart_shed : ((3) < 48) ∧ (Ready ((W.of fun d => (fun d =>
  { d with hst := { d.hst with flows := [(3, { next := some ({ w := 2, h := 1, chroma := 2, depth := 10, codes := [[[1, 2]], [[3]], [[4]]] }, zeros 256), seq := 2 ^ 32 - 1 })] } })
  ((d.wr (flowAt 3).1 Reg.NETF.EN 1 3).wr Pg.THM Reg.THM.SHED_LEVEL 3))).dev = true) ∧ (((W.of fun d => (fun d =>
  { d with hst := { d.hst with flows := [(3, { next := some ({ w := 2, h := 1, chroma := 2, depth := 10, codes := [[[1, 2]], [[3]], [[4]]] }, zeros 256), seq := 2 ^ 32 - 1 })] } })
  ((d.wr (flowAt 3).1 Reg.NETF.EN 1 3).wr Pg.THM Reg.THM.SHED_LEVEL 3))).dev.allAwake = true) ∧ (Assoc.find ((W.of
  fun d => (fun d =>
  { d with hst := { d.hst with flows := [(3, { next := some ({ w := 2, h := 1, chroma := 2, depth := 10, codes := [[[1, 2]], [[3]], [[4]]] }, zeros 256), seq := 2 ^ 32 - 1 })] } })
  ((d.wr (flowAt 3).1 Reg.NETF.EN 1 3).wr Pg.THM Reg.THM.SHED_LEVEL 3))).dev.hst.flows (3) = some
  (({ next := some ({ w := 2, h := 1, chroma := 2, depth := 10, codes := [[[1, 2]], [[3]], [[4]]] }, zeros 256), seq := 2 ^ 32 - 1 }
  : Flow))) ∧
  ((({ next := some ({ w := 2, h := 1, chroma := 2, depth := 10, codes := [[[1, 2]], [[3]], [[4]]] }, zeros 256), seq := 2 ^ 32 - 1 }
  : Flow)).next = some ((({ w := 2, h := 1, chroma := 2, depth := 10, codes := [[[1, 2]], [[3]], [[4]]] } :
  Render.Output)), ((zeros 256 : List Byte)))) ∧ (((W.of fun d => (fun d =>
  { d with hst := { d.hst with flows := [(3, { next := some ({ w := 2, h := 1, chroma := 2, depth := 10, codes := [[[1, 2]], [[3]], [[4]]] }, zeros 256), seq := 2 ^ 32 - 1 })] } })
  ((d.wr (flowAt 3).1 Reg.NETF.EN 1 3).wr Pg.THM Reg.THM.SHED_LEVEL 3))).dev.flw (3) Reg.NETF.EN = 1) ∧ (((W.of fun
  d => (fun d =>
  { d with hst := { d.hst with flows := [(3, { next := some ({ w := 2, h := 1, chroma := 2, depth := 10, codes := [[[1, 2]], [[3]], [[4]]] }, zeros 256), seq := 2 ^ 32 - 1 })] } })
  ((d.wr (flowAt 3).1 Reg.NETF.EN 1 3).wr Pg.THM Reg.THM.SHED_LEVEL 3))).dev.works (flowAt (3)).1 = true) ∧ (3 ≤
  ((W.of fun d => (fun d =>
  { d with hst := { d.hst with flows := [(3, { next := some ({ w := 2, h := 1, chroma := 2, depth := 10, codes := [[[1, 2]], [[3]], [[4]]] }, zeros 256), seq := 2 ^ 32 - 1 })] } })
  ((d.wr (flowAt 3).1 Reg.NETF.EN 1 3).wr Pg.THM Reg.THM.SHED_LEVEL 3))).dev.shed) := by decide

theorem wit_identify : ((0) < 128) ∧ ((5) < 2 ^ 64) ∧ (Starts (((W.of fun d => W.run [W.cmd 0x03 []] (d))).dev.see
  (({} : HostView))) (0) (5) 0x03 ((W.cmd 0x03 [] : Cmd)) = true) := by decide

theorem wit_logRead : ((0) < 128) ∧ ((5) < 2 ^ 64) ∧ (Starts (((W.of fun d => W.run [W.cmd 0x04 [(6, 64), (8, 3)]]
  (d))).dev.see (({} : HostView))) (0) (5) 0x04 ((W.cmd 0x04 [(6, 64), (8, 3)] : Cmd)) = true) ∧ (1 ≤ sf ((W.cmd
  0x04 [(6, 64), (8, 3)] : Cmd)).entry 8 0 8) ∧ (sf ((W.cmd 0x04 [(6, 64), (8, 3)] : Cmd)).entry 8 0 8 ≤ 3) := by
  decide

theorem wit_partitionConfig : ((0) < 128) ∧ ((5) < 2 ^ 64) ∧ (Starts (((W.of fun d => W.run [W.cmd 0x0A [(1, 3), (8,
  1), (9, 32)]] (d))).dev.see (({} : HostView))) (0) (5) 0x0A ((W.cmd 0x0A [(1, 3), (8, 1), (9, 32)] : Cmd)) = true)
  ∧ (pcKey ((W.cmd 0x0A [(1, 3), (8, 1), (9, 32)] : Cmd)) = false) ∧ (pcReset ((W.cmd 0x0A [(1, 3), (8, 1), (9, 32)]
  : Cmd)) = false) ∧ (((W.of fun d => W.run [W.cmd 0x0A [(1, 3), (8, 1), (9, 32)]] (d))).dev.pcValid ((W.cmd 0x0A
  [(1, 3), (8, 1), (9, 32)] : Cmd)) = true) := by decide

theorem wit_partitionConfig_invalid : ((0) < 128) ∧ ((5) < 2 ^ 64) ∧ (Starts (((W.of fun d => W.run [W.cmd 0x0A [(1,
  3), (9, 2049)]] (d))).dev.see (({} : HostView))) (0) (5) 0x0A ((W.cmd 0x0A [(1, 3), (9, 2049)] : Cmd)) = true) ∧
  (pcKey ((W.cmd 0x0A [(1, 3), (9, 2049)] : Cmd)) = false) ∧ (pcReset ((W.cmd 0x0A [(1, 3), (9, 2049)] : Cmd)) =
  false) ∧ (((W.of fun d => W.run [W.cmd 0x0A [(1, 3), (9, 2049)]] (d))).dev.pcValid ((W.cmd 0x0A [(1, 3), (9,
  2049)] : Cmd)) = false) := by decide

theorem wit_partitionSetKey : ((0) < 128) ∧ ((5) < 2 ^ 64) ∧ (Starts (((W.of fun d => W.run [W.cmd 0x0A [(1, 64),
  (6, 32), (8, 3)]] (d))).dev.see (({} : HostView))) (0) (5) 0x0A ((W.cmd 0x0A [(1, 64), (6, 32), (8, 3)] : Cmd)) =
  true) ∧ (pcKey ((W.cmd 0x0A [(1, 64), (6, 32), (8, 3)] : Cmd)) = true) ∧ (((W.of fun d => W.run [W.cmd 0x0A [(1,
  64), (6, 32), (8, 3)]] (d))).dev.pcValid ((W.cmd 0x0A [(1, 64), (6, 32), (8, 3)] : Cmd)) = true) := by decide

theorem wit_partitionReset : ((0) < 128) ∧ ((5) < 2 ^ 64) ∧ (Starts (((W.of fun d => W.run [W.cmd 0x0A [(1, 3), (8,
  5)]] ((fun d => d.setQueue 3 2 { sqBase := 0x1000, cqBase := 0x2000, sqDepth := 8, cqDepth := 16 }) d))).dev.see
  (({} : HostView))) (0) (5) 0x0A ((W.cmd 0x0A [(1, 3), (8, 5)] : Cmd)) = true) ∧ (pcKey ((W.cmd 0x0A [(1, 3), (8,
  5)] : Cmd)) = false) ∧ (pcReset ((W.cmd 0x0A [(1, 3), (8, 5)] : Cmd)) = true) ∧ (((W.of fun d => W.run [W.cmd 0x0A
  [(1, 3), (8, 5)]] ((fun d => d.setQueue 3 2 { sqBase := 0x1000, cqBase := 0x2000, sqDepth := 8, cqDepth := 16 })
  d))).dev.pcValid ((W.cmd 0x0A [(1, 3), (8, 5)] : Cmd)) = true) ∧ (pcPart ((W.cmd 0x0A [(1, 3), (8, 5)] : Cmd)) ≠
  ((W.cmd 0x0A [(1, 3), (8, 5)] : Cmd)).part) ∧ (((W.of fun d => W.run [W.cmd 0x0A [(1, 3), (8, 5)]] ((fun d =>
  d.setQueue 3 2 { sqBase := 0x1000, cqBase := 0x2000, sqDepth := 8, cqDepth := 16 }) d))).dev.pip.assists = []) :=
  by decide

theorem wit_returnCapture : ((0) < 128) ∧ ((5) < 2 ^ 64) ∧ (Starts (((W.of fun d => W.run [W.cmd 0x0D [(6,
  0x200000)]] (d))).dev.see (({} : HostView))) (0) (5) 0x0D ((W.cmd 0x0D [(6, 0x200000)] : Cmd)) = true) ∧ (((W.of
  fun d => W.run [W.cmd 0x0D [(6, 0x200000)]] (d))).dev.returnSize ≤ dwAt ((W.cmd 0x0D [(6, 0x200000)] : Cmd)).entry
  6) := by decide

theorem wit_returnCapture_small : ((0) < 128) ∧ ((5) < 2 ^ 64) ∧ (Starts (((W.of fun d => W.run [W.cmd 0x0D [(6,
  0xFFF)]] (d))).dev.see (({} : HostView))) (0) (5) 0x0D ((W.cmd 0x0D [(6, 0xFFF)] : Cmd)) = true) ∧ (dwAt ((W.cmd
  0x0D [(6, 0xFFF)] : Cmd)).entry 6 < ((W.of fun d => W.run [W.cmd 0x0D [(6, 0xFFF)]] (d))).dev.returnSize) := by
  decide

theorem wit_pageOwner : ((0) < 64) ∧ ((Pg.DSP 3) < 256) ∧ ((5) < 2 ^ 32) ∧ (Taken (W.on).dev (0) (Pg.DSP 3) 0xC =
  true) ∧ (Pg.ownKind (Pg.DSP 3) = 1) ∧ ((5) % 128 < 64) ∧ ((W.on).dev.pip.assists = []) := by decide

theorem wit_vfEnable : ((3) < 64) ∧ (((W.of fun d => d.updPart 2 fun r => { r with msixNext := 99 })).dev.stopped =
  false) ∧ (((W.of fun d => d.updPart 2 fun r => { r with msixNext := 99 })).dev.hostLink = true) ∧ (((W.of fun d =>
  d.updPart 2 fun r => { r with msixNext := 99 })).dev.running = true) := by decide

theorem wit_resourceAssign_quota : ((0) < 128) ∧ ((5) < 2 ^ 64) ∧ (Starts (((W.of fun d => W.run [W.cmd 0x0B [(1,
  3), (8, 5), (9, 100)]] (d))).dev.see (({} : HostView))) (0) (5) 0x0B ((W.cmd 0x0B [(1, 3), (8, 5), (9, 100)] :
  Cmd)) = true) ∧ (sf ((W.cmd 0x0B [(1, 3), (8, 5), (9, 100)] : Cmd)).entry 8 0 4 = 5) ∧ (((W.of fun d => W.run
  [W.cmd 0x0B [(1, 3), (8, 5), (9, 100)]] (d))).dev.assignField (sf ((W.cmd 0x0B [(1, 3), (8, 5), (9, 100)] :
  Cmd)).entry 1 0 7) 5 (sf ((W.cmd 0x0B [(1, 3), (8, 5), (9, 100)] : Cmd)).entry 8 16 16) (dwAt ((W.cmd 0x0B [(1,
  3), (8, 5), (9, 100)] : Cmd)).entry 9) = false) ∧ (((W.of fun d => W.run [W.cmd 0x0B [(1, 3), (8, 5), (9, 100)]]
  (d))).dev.assignBusy (sf ((W.cmd 0x0B [(1, 3), (8, 5), (9, 100)] : Cmd)).entry 1 0 7) 5 (sf ((W.cmd 0x0B [(1, 3),
  (8, 5), (9, 100)] : Cmd)).entry 8 16 16) (dwAt ((W.cmd 0x0B [(1, 3), (8, 5), (9, 100)] : Cmd)).entry 9) = false) ∧
  (((W.of fun d => W.run [W.cmd 0x0B [(1, 3), (8, 5), (9, 100)]] (d))).dev.assignOver (sf ((W.cmd 0x0B [(1, 3), (8,
  5), (9, 100)] : Cmd)).entry 1 0 7) 5 (sf ((W.cmd 0x0B [(1, 3), (8, 5), (9, 100)] : Cmd)).entry 8 16 16) (dwAt
  ((W.cmd 0x0B [(1, 3), (8, 5), (9, 100)] : Cmd)).entry 9) = false) := by decide

theorem wit_resourceAssign : ((0) < 128) ∧ ((5) < 2 ^ 64) ∧ (Starts (((W.of fun d => W.run [W.cmd 0x0B [(1, 3), (8,
  0x70002), (9, 100)]] (d))).dev.see (({} : HostView))) (0) (5) 0x0B ((W.cmd 0x0B [(1, 3), (8, 0x70002), (9, 100)] :
  Cmd)) = true) ∧ (sf ((W.cmd 0x0B [(1, 3), (8, 0x70002), (9, 100)] : Cmd)).entry 8 0 4 ∉ [5, 6, 12, 13]) ∧ (((W.of
  fun d => W.run [W.cmd 0x0B [(1, 3), (8, 0x70002), (9, 100)]] (d))).dev.assignField (sf ((W.cmd 0x0B [(1, 3), (8,
  0x70002), (9, 100)] : Cmd)).entry 1 0 7) (sf ((W.cmd 0x0B [(1, 3), (8, 0x70002), (9, 100)] : Cmd)).entry 8 0 4)
  (sf ((W.cmd 0x0B [(1, 3), (8, 0x70002), (9, 100)] : Cmd)).entry 8 16 16) (dwAt ((W.cmd 0x0B [(1, 3), (8, 0x70002),
  (9, 100)] : Cmd)).entry 9) = false) ∧ (((W.of fun d => W.run [W.cmd 0x0B [(1, 3), (8, 0x70002), (9, 100)]]
  (d))).dev.assignBusy (sf ((W.cmd 0x0B [(1, 3), (8, 0x70002), (9, 100)] : Cmd)).entry 1 0 7) (sf ((W.cmd 0x0B [(1,
  3), (8, 0x70002), (9, 100)] : Cmd)).entry 8 0 4) (sf ((W.cmd 0x0B [(1, 3), (8, 0x70002), (9, 100)] : Cmd)).entry 8
  16 16) (dwAt ((W.cmd 0x0B [(1, 3), (8, 0x70002), (9, 100)] : Cmd)).entry 9) = false) ∧ (((W.of fun d => W.run
  [W.cmd 0x0B [(1, 3), (8, 0x70002), (9, 100)]] (d))).dev.assignOver (sf ((W.cmd 0x0B [(1, 3), (8, 0x70002), (9,
  100)] : Cmd)).entry 1 0 7) (sf ((W.cmd 0x0B [(1, 3), (8, 0x70002), (9, 100)] : Cmd)).entry 8 0 4) (sf ((W.cmd 0x0B
  [(1, 3), (8, 0x70002), (9, 100)] : Cmd)).entry 8 16 16) (dwAt ((W.cmd 0x0B [(1, 3), (8, 0x70002), (9, 100)] :
  Cmd)).entry 9) = false) ∧ (((W.of fun d => W.run [W.cmd 0x0B [(1, 3), (8, 0x70002), (9, 100)]]
  (d))).dev.pip.assists = []) := by decide

theorem wit_abort_none : ((0) < 128) ∧ ((5) < 2 ^ 64) ∧ (Starts (((W.of fun d => W.run [W.cmd 0x0E [(8, 0x50001)]]
  (d))).dev.see (({} : HostView))) (0) (5) 0x0E ((W.cmd 0x0E [(8, 0x50001)] : Cmd)) = true) ∧ ((((W.of fun d =>
  W.run [W.cmd 0x0E [(8, 0x50001)]] (d))).dev.cmdsOf (0)).filter (fun y => y.queue = sf ((W.cmd 0x0E [(8, 0x50001)]
  : Cmd)).entry 8 0 16 && y.cid = sf ((W.cmd 0x0E [(8, 0x50001)] : Cmd)).entry 8 16 16 && y.asn ≠ (5)) = []) := by
  decide

theorem wit_abort : ((0) < 128) ∧ ((5) < 2 ^ 64) ∧ (Starts (((W.of (W.run [W.cmd 0x0E [(8, 0x80001)],
  { W.cmd 0x82 [] with asn := 3, cid := 8 }]))).dev.see (({} : HostView))) (0) (5) 0x0E ((W.cmd 0x0E [(8, 0x80001)]
  : Cmd)) = true) ∧ ((((W.of (W.run [W.cmd 0x0E [(8, 0x80001)],
  { W.cmd 0x82 [] with asn := 3, cid := 8 }]))).dev.cmdsOf (0)).filter (fun z => z.queue = sf ((W.cmd 0x0E [(8,
  0x80001)] : Cmd)).entry 8 0 16 && z.cid = sf ((W.cmd 0x0E [(8, 0x80001)] : Cmd)).entry 8 16 16 && z.asn ≠ (5)) =
  [(({ W.cmd 0x82 [] with asn := 3, cid := 8 } : Cmd))]) ∧ ((({ W.cmd 0x82 [] with asn := 3, cid := 8 } :
  Cmd)).queue ≠ 0) ∧ ((({ W.cmd 0x82 [] with asn := 3, cid := 8 } : Cmd)).phase = .waiting) ∧ (opcode
  (({ W.cmd 0x82 [] with asn := 3, cid := 8 } : Cmd)).entry = 0x82) ∧ (((W.of (W.run [W.cmd 0x0E [(8, 0x80001)],
  { W.cmd 0x82 [] with asn := 3, cid := 8 }]))).dev.cmd? (({ W.cmd 0x82 [] with asn := 3, cid := 8 } : Cmd)).part
  (({ W.cmd 0x82 [] with asn := 3, cid := 8 } : Cmd)).asn = some (({ W.cmd 0x82 [] with asn := 3, cid := 8 } :
  Cmd))) := by decide

theorem wit_assistReply_power : ((0) < 128) ∧ ((5) < 2 ^ 64) ∧ (Starts (((W.of fun d => (fun d =>
  { d with pip := { d.pip with assists := [{ part := 0, tag := 9, func := 8, page := Pg.PWR, object := 5, proposal := [1] }] } })
  ({ W.run [W.cmd 0x98 [(1, 9 + 8 * 2 ^ 16), (9, 1)]] d with pow := { d.pow with groups := [(5, 1)] } }))).dev.see
  (({} : HostView))) (0) (5) 0x98 ((W.cmd 0x98 [(1, 9 + 8 * 2 ^ 16), (9, 1)] : Cmd)) = true) ∧ ((((W.of fun d =>
  (fun d =>
  { d with pip := { d.pip with assists := [{ part := 0, tag := 9, func := 8, page := Pg.PWR, object := 5, proposal := [1] }] } })
  ({ W.run [W.cmd 0x98 [(1, 9 + 8 * 2 ^ 16), (9, 1)]] d with pow := { d.pow with groups := [(5, 1)] } }))).dev.pip.assists.find?
  fun y => y.part = (0) && y.tag = sf ((W.cmd 0x98 [(1, 9 + 8 * 2 ^ 16), (9, 1)] : Cmd)).entry 1 0 16 && y.func = sf
  ((W.cmd 0x98 [(1, 9 + 8 * 2 ^ 16), (9, 1)] : Cmd)).entry 1 16 8) = some
  (({ part := 0, tag := 9, func := 8, page := Pg.PWR, object := 5, proposal := [1] } : Assist))) ∧
  ((({ part := 0, tag := 9, func := 8, page := Pg.PWR, object := 5, proposal := [1] } : Assist)).func = 8) ∧
  (replyClear 8 (fun i => dwAt ((W.cmd 0x98 [(1, 9 + 8 * 2 ^ 16), (9, 1)] : Cmd)).entry (8 + i)) = true) ∧ (bitAt
  (dwAt ((W.cmd 0x98 [(1, 9 + 8 * 2 ^ 16), (9, 1)] : Cmd)).entry 8) 0 = false) ∧ (1 ≤ sf ((W.cmd 0x98 [(1, 9 + 8 * 2
  ^ 16), (9, 1)] : Cmd)).entry 9 0 3) ∧ (sf ((W.cmd 0x98 [(1, 9 + 8 * 2 ^ 16), (9, 1)] : Cmd)).entry 9 0 3 ≤ ((W.of
  fun d => (fun d =>
  { d with pip := { d.pip with assists := [{ part := 0, tag := 9, func := 8, page := Pg.PWR, object := 5, proposal := [1] }] } })
  ({ W.run [W.cmd 0x98 [(1, 9 + 8 * 2 ^ 16), (9, 1)]] d with pow := { d.pow with groups := [(5, 1)] } }))).dev.permitted
  (({ part := 0, tag := 9, func := 8, page := Pg.PWR, object := 5, proposal := [1] } : Assist)).object) ∧ (((W.of
  fun d => (fun d =>
  { d with pip := { d.pip with assists := [{ part := 0, tag := 9, func := 8, page := Pg.PWR, object := 5, proposal := [1] }] } })
  ({ W.run [W.cmd 0x98 [(1, 9 + 8 * 2 ^ 16), (9, 1)]] d with pow := { d.pow with groups := [(5, 1)] } }))).dev.powerState
  (({ part := 0, tag := 9, func := 8, page := Pg.PWR, object := 5, proposal := [1] } : Assist)).object = 1) ∧
  (Assoc.find ((W.of fun d => (fun d =>
  { d with pip := { d.pip with assists := [{ part := 0, tag := 9, func := 8, page := Pg.PWR, object := 5, proposal := [1] }] } })
  ({ W.run [W.cmd 0x98 [(1, 9 + 8 * 2 ^ 16), (9, 1)]] d with pow := { d.pow with groups := [(5, 1)] } }))).dev.pow.leaving
  (({ part := 0, tag := 9, func := 8, page := Pg.PWR, object := 5, proposal := [1] } : Assist)).object = none) ∧
  (Assoc.find ((W.of fun d => (fun d =>
  { d with pip := { d.pip with assists := [{ part := 0, tag := 9, func := 8, page := Pg.PWR, object := 5, proposal := [1] }] } })
  ({ W.run [W.cmd 0x98 [(1, 9 + 8 * 2 ^ 16), (9, 1)]] d with pow := { d.pow with groups := [(5, 1)] } }))).dev.pow.entering
  (({ part := 0, tag := 9, func := 8, page := Pg.PWR, object := 5, proposal := [1] } : Assist)).object = none) := by
  refine ⟨by decide, by decide, by decide, by decide, by decide, by decide, by decide, by decide, ?_, by decide, by decide, by decide⟩
  exact W.permits _ 5 (by decide) (by decide) (by decide)

theorem wit_assistReply_default : ((0) < 128) ∧ ((5) < 2 ^ 64) ∧ (Starts (((W.of fun d => (fun d =>
  { d with pip := { d.pip with assists := [{ part := 0, tag := 9, func := 5, page := Pg.PWR, object := 1, proposal := [] }] } })
  (W.run [W.cmd 0x98 [(1, 9 + 5 * 2 ^ 16), (8, 1)]] d))).dev.see (({} : HostView))) (0) (5) 0x98 ((W.cmd 0x98 [(1, 9
  + 5 * 2 ^ 16), (8, 1)] : Cmd)) = true) ∧ ((((W.of fun d => (fun d =>
  { d with pip := { d.pip with assists := [{ part := 0, tag := 9, func := 5, page := Pg.PWR, object := 1, proposal := [] }] } })
  (W.run [W.cmd 0x98 [(1, 9 + 5 * 2 ^ 16), (8, 1)]] d))).dev.pip.assists.find? fun y => y.part = (0) && y.tag = sf
  ((W.cmd 0x98 [(1, 9 + 5 * 2 ^ 16), (8, 1)] : Cmd)).entry 1 0 16 && y.func = sf ((W.cmd 0x98 [(1, 9 + 5 * 2 ^ 16),
  (8, 1)] : Cmd)).entry 1 16 8) = some
  (({ part := 0, tag := 9, func := 5, page := Pg.PWR, object := 1, proposal := [] } : Assist))) ∧
  ((({ part := 0, tag := 9, func := 5, page := Pg.PWR, object := 1, proposal := [] } : Assist)).func = 5) ∧ (bitAt
  (dwAt ((W.cmd 0x98 [(1, 9 + 5 * 2 ^ 16), (8, 1)] : Cmd)).entry 8) 0 = true) := by decide

theorem wit_assistReply_tag : ((0) < 128) ∧ ((5) < 2 ^ 64) ∧ (Starts (((W.of fun d => W.run [W.cmd 0x98 [(1, 9 + 5 *
  2 ^ 16)]] (d))).dev.see (({} : HostView))) (0) (5) 0x98 ((W.cmd 0x98 [(1, 9 + 5 * 2 ^ 16)] : Cmd)) = true) ∧
  ((((W.of fun d => W.run [W.cmd 0x98 [(1, 9 + 5 * 2 ^ 16)]] (d))).dev.pip.assists.find? fun y => y.part = (0) &&
  y.tag = sf ((W.cmd 0x98 [(1, 9 + 5 * 2 ^ 16)] : Cmd)).entry 1 0 16 && y.func = sf ((W.cmd 0x98 [(1, 9 + 5 * 2 ^
  16)] : Cmd)).entry 1 16 8) = none) ∧ ((((W.of fun d => W.run [W.cmd 0x98 [(1, 9 + 5 * 2 ^ 16)]]
  (d))).dev.pip.resolved.find? fun y => y.1 = (0) && y.2.1 = sf ((W.cmd 0x98 [(1, 9 + 5 * 2 ^ 16)] : Cmd)).entry 1 0
  16 && y.2.2.1 = sf ((W.cmd 0x98 [(1, 9 + 5 * 2 ^ 16)] : Cmd)).entry 1 16 8) = none) := by decide

theorem wit_assistDeadline : ((0) < 128) ∧ ((9) < 65536) ∧ (Ready ((W.of fun d => (fun d =>
  { d with pip := { d.pip with assists := [{ part := 0, tag := 9, func := 5, page := Pg.FE 0 5, object := 1, proposal := [] }] } })
  (d.wr (Pg.FE 0 5) Reg.HDR.FALLBACK 0))).dev = true) ∧ ((((W.of fun d => (fun d =>
  { d with pip := { d.pip with assists := [{ part := 0, tag := 9, func := 5, page := Pg.FE 0 5, object := 1, proposal := [] }] } })
  (d.wr (Pg.FE 0 5) Reg.HDR.FALLBACK 0))).dev.pip.assists.find? fun y => y.part = (0) && y.tag = (9)) = some
  (({ part := 0, tag := 9, func := 5, page := Pg.FE 0 5, object := 1, proposal := [] } : Assist))) ∧
  ((({ part := 0, tag := 9, func := 5, page := Pg.FE 0 5, object := 1, proposal := [] } : Assist)).func = 5) ∧
  (((W.of fun d => (fun d =>
  { d with pip := { d.pip with assists := [{ part := 0, tag := 9, func := 5, page := Pg.FE 0 5, object := 1, proposal := [] }] } })
  (d.wr (Pg.FE 0 5) Reg.HDR.FALLBACK 0))).dev.on
  (({ part := 0, tag := 9, func := 5, page := Pg.FE 0 5, object := 1, proposal := [] } : Assist)).page
  Reg.HDR.FALLBACK = false) := by decide

theorem wit_assistDeadline_fallback : ((0) < 128) ∧ ((9) < 65536) ∧ (Ready ((W.of fun d => (fun d =>
  { d with pip := { d.pip with assists := [{ part := 0, tag := 9, func := 5, page := Pg.FE 0 5, object := 1, proposal := [] }] } })
  (d.wr (Pg.FE 0 5) Reg.HDR.FALLBACK 1))).dev = true) ∧ ((((W.of fun d => (fun d =>
  { d with pip := { d.pip with assists := [{ part := 0, tag := 9, func := 5, page := Pg.FE 0 5, object := 1, proposal := [] }] } })
  (d.wr (Pg.FE 0 5) Reg.HDR.FALLBACK 1))).dev.pip.assists.find? fun y => y.part = (0) && y.tag = (9)) = some
  (({ part := 0, tag := 9, func := 5, page := Pg.FE 0 5, object := 1, proposal := [] } : Assist))) ∧
  ((({ part := 0, tag := 9, func := 5, page := Pg.FE 0 5, object := 1, proposal := [] } : Assist)).func = 5) ∧
  (((W.of fun d => (fun d =>
  { d with pip := { d.pip with assists := [{ part := 0, tag := 9, func := 5, page := Pg.FE 0 5, object := 1, proposal := [] }] } })
  (d.wr (Pg.FE 0 5) Reg.HDR.FALLBACK 1))).dev.on
  (({ part := 0, tag := 9, func := 5, page := Pg.FE 0 5, object := 1, proposal := [] } : Assist)).page
  Reg.HDR.FALLBACK = true) ∧ (((W.of fun d => (fun d =>
  { d with pip := { d.pip with assists := [{ part := 0, tag := 9, func := 5, page := Pg.FE 0 5, object := 1, proposal := [] }] } })
  (d.wr (Pg.FE 0 5) Reg.HDR.FALLBACK 1))).dev.pip.assists.all (fun y => y.page ≠
  (({ part := 0, tag := 9, func := 5, page := Pg.FE 0 5, object := 1, proposal := [] } : Assist)).page || (y.part =
  (0) && y.tag = (9))) = true) := by decide

theorem wit_dataTransferEnd : ((0) < 128) ∧ ((5) < 2 ^ 64) ∧ (Moves (((W.of (W.run
  [{ W.cmd 0x81 [(1, 2), (6, 8), (8, 1), (10, 0x81803), (2, 0x5000)] with phase := .moving }]))).dev.see
  (({ writes := [(0x5000, 7), (0x5001, 8), (0x5003, 255)] } : HostView))) (0) (5) 0x81
  (({ W.cmd 0x81 [(1, 2), (6, 8), (8, 1), (10, 0x81803), (2, 0x5000)] with phase := .moving } : Cmd)) = true) ∧ ((0)
  < 64) ∧ ((0) < 2 ^ 64) ∧ (sf
  (({ W.cmd 0x81 [(1, 2), (6, 8), (8, 1), (10, 0x81803), (2, 0x5000)] with phase := .moving } : Cmd)).entry 8 0 2 =
  1) ∧ (sf (({ W.cmd 0x81 [(1, 2), (6, 8), (8, 1), (10, 0x81803), (2, 0x5000)] with phase := .moving } : Cmd)).entry
  0 8 1 = 0) ∧ ((2) = dwAt
  (({ W.cmd 0x81 [(1, 2), (6, 8), (8, 1), (10, 0x81803), (2, 0x5000)] with phase := .moving } : Cmd)).entry 1) ∧
  ((((W.of (W.run
  [{ W.cmd 0x81 [(1, 2), (6, 8), (8, 1), (10, 0x81803), (2, 0x5000)] with phase := .moving }]))).dev.see
  (({ writes := [(0x5000, 7), (0x5001, 8), (0x5003, 255)] } : HostView))).hostOk (0) (dw64
  (({ W.cmd 0x81 [(1, 2), (6, 8), (8, 1), (10, 0x81803), (2, 0x5000)] with phase := .moving } : Cmd)).entry 2) (dwAt
  (({ W.cmd 0x81 [(1, 2), (6, 8), (8, 1), (10, 0x81803), (2, 0x5000)] with phase := .moving } : Cmd)).entry 6) =
  true) ∧ ((2) * 0x40000 + 0x1000 ≤ dw64
  (({ W.cmd 0x81 [(1, 2), (6, 8), (8, 1), (10, 0x81803), (2, 0x5000)] with phase := .moving } : Cmd)).entry 10) ∧
  (dw64 (({ W.cmd 0x81 [(1, 2), (6, 8), (8, 1), (10, 0x81803), (2, 0x5000)] with phase := .moving } : Cmd)).entry 10
  + dwAt (({ W.cmd 0x81 [(1, 2), (6, 8), (8, 1), (10, 0x81803), (2, 0x5000)] with phase := .moving } : Cmd)).entry 6
  ≤ (2) * 0x40000 + 0x20000) := by decide

theorem wit_groupIdle : (0 < (5)) ∧ ((5) < 32) ∧ ((W.on).dev.stopped = false) ∧ ((W.on).dev.keep = false) ∧
  ((W.on).dev.powerState (5) = 0) ∧ (Assoc.has (W.on).dev.pow.groups (5) = false) ∧ (Assoc.has
  (W.on).dev.pow.entering 32 = false) ∧ ((groupPages (5)).any (W.on).dev.busy = false) ∧ ((W.on).dev.assisted Pg.PWR
  = false) ∧ ((((W.on.dev.calendarShow [(9000000, 2 ^ 32 - 1)]).chooseState 5 (((W.on.dev.calendarShow [(9000000, 2
  ^ 32 - 1)]).nextEvent 5 [(9000000, 2 ^ 32 - 1)]).map fun y => y - W.on.dev.ns))) = ((W.on).dev.calendarShow
  (([(9000000, 2 ^ 32 - 1)] : List (Nat × Nat)))).chooseState (5) ((((W.on).dev.calendarShow (([(9000000, 2 ^ 32 -
  1)] : List (Nat × Nat)))).nextEvent (5) (([(9000000, 2 ^ 32 - 1)] : List (Nat × Nat)))).map fun y => y -
  (W.on).dev.ns)) := by
  refine ⟨by decide, by decide, by decide, by decide, by decide, by decide, by decide, ?_, by decide, rfl⟩
  exact List.any_eq_false.mpr fun pg h => by rw [W.idle pg (List.mem_filter.mp h).1]; simp

theorem wit_calendarEntryDue : ((5) < 32) ∧ (((W.of fun d =>
  { d with pow := { d.pow with groups := [(5, 2)] } })).dev.stopped = false) ∧ (Assoc.find ((W.of fun d =>
  { d with pow := { d.pow with groups := [(5, 2)] } })).dev.pow.groups (5) = some (2)) ∧ (Assoc.has ((W.of fun d =>
  { d with pow := { d.pow with groups := [(5, 2)] } })).dev.pow.entering (5) = false) ∧ (Assoc.has ((W.of fun d =>
  { d with pow := { d.pow with groups := [(5, 2)] } })).dev.pow.leaving (5) = false) ∧ ((((W.of fun d =>
  { d with pow := { d.pow with groups := [(5, 2)] } })).dev.calendarShow (([(400, 32)] : List (Nat ×
  Nat)))).nextEvent (5) (([(400, 32)] : List (Nat × Nat))) = some (400)) ∧ ((400) ≤ ((W.of fun d =>
  { d with pow := { d.pow with groups := [(5, 2)] } })).dev.ns + ((W.of fun d =>
  { d with pow := { d.pow with groups := [(5, 2)] } })).dev.guardNs + ((W.of fun d =>
  { d with pow := { d.pow with groups := [(5, 2)] } })).dev.exitNs (2)) := by decide

theorem wit_powerStateEntryEnd : ((5) ≤ 32) ∧ (((W.of fun d =>
  { d with pow := { d.pow with groups := [(5, 1)], entering := [(5, 3)] } })).dev.stopped = false) ∧ (Assoc.find
  ((W.of fun d => { d with pow := { d.pow with groups := [(5, 1)], entering := [(5, 3)] } })).dev.pow.entering (5) =
  some (3)) ∧ (1 ≤ (3)) ∧ ((3) ≤ 3) := by decide

theorem wit_powerStateEntryEnd_keep : ((32) = 32) ∧ (((W.of fun d =>
  { d with pow := { d.pow with groups := [(32, 1)], entering := [(32, 4)] } })).dev.stopped = false) ∧ (Assoc.find
  ((W.of fun d => { d with pow := { d.pow with groups := [(32, 1)], entering := [(32, 4)] } })).dev.pow.entering
  (32) = some 4) := by decide

theorem wit_powerStateExitEnd : ((5) < 32) ∧ (((W.of fun d =>
  { d with pow := { d.pow with groups := [(5, 2)], leaving := [(5, ⟨2, 3, 0, none⟩)] } })).dev.stopped = false) ∧
  (Assoc.find ((W.of fun d =>
  { d with pow := { d.pow with groups := [(5, 2)], leaving := [(5, ⟨2, 3, 0, none⟩)] } })).dev.pow.leaving (5) =
  some ((⟨2, 3, 0, none⟩ : PowerExit))) ∧ (((⟨2, 3, 0, none⟩ : PowerExit)).state ≤ 4) ∧ (((⟨2, 3, 0, none⟩ :
  PowerExit)).reason < 8) ∧ (((⟨2, 3, 0, none⟩ : PowerExit)).due = none) := by decide

theorem wit_powerStateExitEnd_keep : (((W.of fun d =>
  { d with pow := { d.pow with groups := [(32, 4)], leaving := [(32, ⟨4, 3, 0, none⟩)] } })).dev.stopped = false) ∧
  (Assoc.find ((W.of fun d =>
  { d with pow := { d.pow with groups := [(32, 4)], leaving := [(32, ⟨4, 3, 0, none⟩)] } })).dev.pow.leaving 32 =
  some ((⟨4, 3, 0, none⟩ : PowerExit))) ∧ (((⟨4, 3, 0, none⟩ : PowerExit)).state ≤ 4) ∧ (((⟨4, 3, 0, none⟩ :
  PowerExit)).reason < 8) ∧ (((⟨4, 3, 0, none⟩ : PowerExit)).due = none) := by decide

theorem wit_powerStateExitEnd_late : ((5) < 32) ∧ (((W.of fun d =>
  { d with tb := 2 ^ 40, pow := { d.pow with groups := [(5, 2)], leaving := [(5, ⟨2, 0, 0, some 9⟩)] } })).dev.stopped
  = false) ∧ (Assoc.find ((W.of fun d =>
  { d with tb := 2 ^ 40, pow := { d.pow with groups := [(5, 2)], leaving := [(5, ⟨2, 0, 0, some 9⟩)] } })).dev.pow.leaving
  (5) = some ((⟨2, 0, 0, some 9⟩ : PowerExit))) ∧ (((⟨2, 0, 0, some 9⟩ : PowerExit)).due = some (9)) ∧ ((9) < ((W.of
  fun d =>
  { d with tb := 2 ^ 40, pow := { d.pow with groups := [(5, 2)], leaving := [(5, ⟨2, 0, 0, some 9⟩)] } })).dev.ns)
  := by decide

theorem wit_grpMax : ((0) < 64) ∧ ((0) < 4) ∧ ((0xFFFFFFFF) < 2 ^ 32) ∧ (Taken (W.on).dev (0) Pg.PWR (0x120 + 4 *
  (0)) = true) := by decide

theorem wit_keepEntry : (((W.reg Pg.PWR Reg.PWR.KEEP_EN 1)).dev.stopped = false) ∧ (((W.reg Pg.PWR Reg.PWR.KEEP_EN
  1)).dev.keep = false) ∧ (Assoc.has ((W.reg Pg.PWR Reg.PWR.KEEP_EN 1)).dev.pow.entering 32 = false) ∧ ((((W.reg
  Pg.PWR Reg.PWR.KEEP_EN 1)).dev.calendarShow (([] : List (Nat × Nat)))).keepOk (([] : List (Nat × Nat))) = true) :=
  by decide

theorem wit_keepWake : ((1) < 8) ∧ (((W.of fun d =>
  { d with pow := { d.pow with groups := [(32, 4)] } })).dev.stopped = false) ∧ (Assoc.has ((W.of fun d =>
  { d with pow := { d.pow with groups := [(32, 4)] } })).dev.pow.entering 32 = false) ∧ (Assoc.find ((W.of fun d =>
  { d with pow := { d.pow with groups := [(32, 4)] } })).dev.pow.groups 32 = some 4) ∧ (Assoc.has ((W.of fun d =>
  { d with pow := { d.pow with groups := [(32, 4)] } })).dev.pow.leaving 32 = false) := by decide

theorem wit_keepWake_cancels : ((1) < 8) ∧ (((W.of fun d =>
  { d with pow := { d.pow with entering := [(32, 4)] } })).dev.stopped = false) ∧ (Assoc.find ((W.of fun d =>
  { d with pow := { d.pow with entering := [(32, 4)] } })).dev.pow.entering 32 = some 4) := by decide

theorem wit_sensorSample : ((((List.replicate 60 (some (16 * 40)) ++ [some (16 * -5)]) : List (Option Int))).length
  = 61) ∧ ((((List.replicate 60 (some (16 * 40)) ++ [some (16 * -5)]) : List (Option Int))).all (fun y => y.isSome)
  = true) ∧ ((((List.replicate 60 (some (16 * 40)) ++ [some (16 * -5)]) : List (Option Int))).all (fun y => decide
  (-880 ≤ y.getD 0) && decide (y.getD 0 < 16 * ((W.on).dev.rd Pg.THM Reg.THM.TRIP_C : Int)) && decide (y.getD 0 <
  2240)) = true) ∧ ((W.on).dev.rd Pg.THM Reg.THM.TRIP_MODE = 0) ∧ ((W.on).dev.stopped = false) ∧
  ((W.on).dev.allAwake = true) ∧ ((60) < 61) ∧ ((((List.replicate 60 (some (16 * 40)) ++ [some (16 * -5)]) : List
  (Option Int)))[(60)]? = some (some ((-80 : Int)))) ∧ ((W.on).dev.brokenSensor (60) = false) ∧ (((W.on).dev.sensor
  (60)).code ≠ some ((-80 : Int))) := by decide

theorem wit_sensorSample_trips : ((((List.replicate 60 (some (16 * 40)) ++ [some (16 * 135)]) : List (Option
  Int))).length = 61) ∧ ((W.on).dev.rd Pg.THM Reg.THM.TRIP_MODE = 0) ∧ ((W.on).dev.stopped = false) ∧
  ((W.on).dev.allAwake = true) ∧ ((60) < 61) ∧ ((((List.replicate 60 (some (16 * 40)) ++ [some (16 * 135)]) : List
  (Option Int)))[(60)]? = some (some ((2160 : Int)))) ∧ ((W.on).dev.brokenSensor (60) = false) ∧ (16 *
  ((W.on).dev.rd Pg.THM Reg.THM.TRIP_C : Int) ≤ ((2160 : Int))) := by decide

theorem wit_throttleStep_rise : ∃ g, ((g) < 32) ∧ (((W.of fun d =>
  { d with pow := { d.pow with hot := List.range 32, hotTrue := [5] } })).dev.stopped = false) ∧ (unthrottled (g) =
  false) ∧ (((W.of fun d => { d with pow := { d.pow with hot := List.range 32, hotTrue := [5] } })).dev.powerState
  (g) = 0) ∧ ((g) ∈ ((W.of fun d =>
  { d with pow := { d.pow with hot := List.range 32, hotTrue := [5] } })).dev.pow.hot) ∧ (((W.of fun d =>
  { d with pow := { d.pow with hot := List.range 32, hotTrue := [5] } })).dev.level (g) < 10) ∧ (((W.of fun d =>
  { d with pow := { d.pow with hot := List.range 32, hotTrue := [5] } })).dev.assisted Pg.THM = false) := by
  obtain ⟨g, h, u⟩ := W.cooled
  refine ⟨g, h, by decide, u, rfl, List.mem_range.mpr h, ?_, by decide⟩
  have z : (W.of fun d => { d with pow := { d.pow with hot := List.range 32, hotTrue := [5] } }).dev.level g = 0 := rfl
  omega

theorem wit_throttleStep_fall : ∃ g, ((g) < 32) ∧ (((W.of fun d => (List.range 32).foldl (fun d g => d.wr Pg.THM
  Reg.THM.LEVEL 7 g) d)).dev.stopped = false) ∧ (unthrottled (g) = false) ∧ (((W.of fun d => (List.range 32).foldl
  (fun d g => d.wr Pg.THM Reg.THM.LEVEL 7 g) d)).dev.powerState (g) = 0) ∧ ((g) ∉ ((W.of fun d => (List.range
  32).foldl (fun d g => d.wr Pg.THM Reg.THM.LEVEL 7 g) d)).dev.pow.hot) ∧ (((W.of fun d => (List.range 32).foldl
  (fun d g => d.wr Pg.THM Reg.THM.LEVEL 7 g) d)).dev.level (g) ≠ 0) := by
  obtain ⟨g, h, u⟩ := W.cooled
  refine ⟨g, h, by decide, u, rfl, List.not_mem_nil, ?_⟩
  have z : ∀ g < 32, (W.of fun d => (List.range 32).foldl (fun d g => d.wr Pg.THM Reg.THM.LEVEL 7 g) d).dev.level g ≠ 0 := by decide
  exact z g h

theorem wit_throttleStep_none : ((0) < 32) ∧ ((W.on).dev.stopped = false) ∧ (unthrottled (0) = true ∨
  (W.on).dev.powerState (0) ≠ 0) := by decide

theorem wit_shedStep_rise : (((W.of fun d =>
  { d.wr Pg.THM Reg.THM.LEVEL 10 5 with pow := { d.pow with hot := [5], hotTrue := [5] } })).dev.stopped = false) ∧
  (((W.of fun d =>
  { d.wr Pg.THM Reg.THM.LEVEL 10 5 with pow := { d.pow with hot := [5], hotTrue := [5] } })).dev.shedCond = true) ∧
  (((W.of fun d =>
  { d.wr Pg.THM Reg.THM.LEVEL 10 5 with pow := { d.pow with hot := [5], hotTrue := [5] } })).dev.shed < 4) ∧ (((W.of
  fun d => { d.wr Pg.THM Reg.THM.LEVEL 10 5 with pow := { d.pow with hot := [5], hotTrue := [5] } })).dev.assisted
  Pg.THM = false) := by decide

theorem wit_shedStep_fall : (((W.reg Pg.THM Reg.THM.SHED_LEVEL 4)).dev.stopped = false) ∧ (((W.reg Pg.THM
  Reg.THM.SHED_LEVEL 4)).dev.shedCond = false) ∧ (((W.reg Pg.THM Reg.THM.SHED_LEVEL 4)).dev.shed ≠ 0) := by decide

theorem wit_tjFail : ((0) < 64) ∧ ((120) < 2 ^ 32) ∧ (Taken (W.on).dev (0) Pg.THM 0x110 = true) ∧ ((W.on).dev.rd
  Pg.THM Reg.THM.THROT_C < bits (120) 0 8) ∧ (bits (120) 0 8 < (W.on).dev.rd Pg.THM Reg.THM.TRIP_C) := by decide

theorem wit_tjFail_ignored : ((0) < 64) ∧ ((255) < 2 ^ 32) ∧ (Taken (W.on).dev (0) Pg.THM 0x110 = true) ∧ (bits
  (255) 0 8 ≤ (W.on).dev.rd Pg.THM Reg.THM.THROT_C ∨ (W.on).dev.rd Pg.THM Reg.THM.TRIP_C ≤ bits (255) 0 8) ∧ (0 <
  (W.on).dev.rd Pg.THM Reg.THM.TRIP_C) := by decide

theorem wit_fwStage : ((0) < 128) ∧ ((5) < 2 ^ 64) ∧ (Starts (((W.of fun d => W.run [W.cmd 0x08 [(6, 4096), (8, 3)]]
  (d))).dev.see (({} : HostView))) (0) (5) 0x08 ((W.cmd 0x08 [(6, 4096), (8, 3)] : Cmd)) = true) ∧ (4096 ≤ dwAt
  ((W.cmd 0x08 [(6, 4096), (8, 3)] : Cmd)).entry 6) ∧ (dwAt ((W.cmd 0x08 [(6, 4096), (8, 3)] : Cmd)).entry 6 ≤ 2 ^
  20) ∧ (dwAt ((W.cmd 0x08 [(6, 4096), (8, 3)] : Cmd)).entry 6 % 4096 = 0) ∧ (dwAt ((W.cmd 0x08 [(6, 4096), (8, 3)]
  : Cmd)).entry 9 % 4096 = 0) ∧ (dwAt ((W.cmd 0x08 [(6, 4096), (8, 3)] : Cmd)).entry 9 + dwAt ((W.cmd 0x08 [(6,
  4096), (8, 3)] : Cmd)).entry 6 ≤ 2 ^ 26) ∧ (((W.of fun d => W.run [W.cmd 0x08 [(6, 4096), (8, 3)]]
  (d))).dev.slotRuns (sf ((W.cmd 0x08 [(6, 4096), (8, 3)] : Cmd)).entry 8 0 1) = false) ∧ (((W.of fun d => W.run
  [W.cmd 0x08 [(6, 4096), (8, 3)]] (d))).dev.jnl.activation = none) ∧ (sf ((W.cmd 0x08 [(6, 4096), (8, 3)] :
  Cmd)).entry 8 1 1 = 1 ∨ ((W.of fun d => W.run [W.cmd 0x08 [(6, 4096), (8, 3)]] (d))).dev.slotState (sf ((W.cmd
  0x08 [(6, 4096), (8, 3)] : Cmd)).entry 8 0 1) = 1) := by decide

theorem wit_fwStage_slot : ((0) < 128) ∧ ((5) < 2 ^ 64) ∧ (Starts (((W.of fun d => W.run [W.cmd 0x08 [(6, 4096), (8,
  2)]] (d))).dev.see (({} : HostView))) (0) (5) 0x08 ((W.cmd 0x08 [(6, 4096), (8, 2)] : Cmd)) = true) ∧ (4096 ≤ dwAt
  ((W.cmd 0x08 [(6, 4096), (8, 2)] : Cmd)).entry 6) ∧ (dwAt ((W.cmd 0x08 [(6, 4096), (8, 2)] : Cmd)).entry 6 ≤ 2 ^
  20) ∧ (dwAt ((W.cmd 0x08 [(6, 4096), (8, 2)] : Cmd)).entry 6 % 4096 = 0) ∧ (dwAt ((W.cmd 0x08 [(6, 4096), (8, 2)]
  : Cmd)).entry 9 % 4096 = 0) ∧ (dwAt ((W.cmd 0x08 [(6, 4096), (8, 2)] : Cmd)).entry 9 + dwAt ((W.cmd 0x08 [(6,
  4096), (8, 2)] : Cmd)).entry 6 ≤ 2 ^ 26) ∧ (((W.of fun d => W.run [W.cmd 0x08 [(6, 4096), (8, 2)]]
  (d))).dev.slotRuns (sf ((W.cmd 0x08 [(6, 4096), (8, 2)] : Cmd)).entry 8 0 1) = true) := by decide

theorem wit_fwActivate : ((0) < 128) ∧ ((5) < 2 ^ 64) ∧ (Starts (((W.of fun d => W.run [W.cmd 0x09 [(8, 1)]] ((fun d
  => d.setSlotState 1 2) d))).dev.see (({} : HostView))) (0) (5) 0x09 ((W.cmd 0x09 [(8, 1)] : Cmd)) = true) ∧
  (((W.of fun d => W.run [W.cmd 0x09 [(8, 1)]] ((fun d => d.setSlotState 1 2) d))).dev.jnl.activation = none) ∧
  (((W.of fun d => W.run [W.cmd 0x09 [(8, 1)]] ((fun d => d.setSlotState 1 2) d))).dev.jnl.failedPairs = []) ∧
  (((W.of fun d => W.run [W.cmd 0x09 [(8, 1)]] ((fun d => d.setSlotState 1 2) d))).dev.slotState (sf ((W.cmd 0x09
  [(8, 1)] : Cmd)).entry 8 0 1) = 2) ∧ (imageKind (((W.of fun d => W.run [W.cmd 0x09 [(8, 1)]] ((fun d =>
  d.setSlotState 1 2) d))).dev.fwSlot (sf ((W.cmd 0x09 [(8, 1)] : Cmd)).entry 8 0 1)).bytes ≠ 1) := by decide

theorem wit_fwActivate_cold : ((0) < 128) ∧ ((5) < 2 ^ 64) ∧ (Starts (((W.of fun d => W.run [W.cmd 0x09 [(8, 1)]]
  ((fun d => (d.setSlotState 1 2).setFwSlot 1 { image := [(13, 1)] }) d))).dev.see (({} : HostView))) (0) (5) 0x09
  ((W.cmd 0x09 [(8, 1)] : Cmd)) = true) ∧ (((W.of fun d => W.run [W.cmd 0x09 [(8, 1)]] ((fun d => (d.setSlotState 1
  2).setFwSlot 1 { image := [(13, 1)] }) d))).dev.jnl.activation = none) ∧ (((W.of fun d => W.run [W.cmd 0x09 [(8,
  1)]] ((fun d => (d.setSlotState 1 2).setFwSlot 1 { image := [(13, 1)] }) d))).dev.jnl.failedPairs = []) ∧ (((W.of
  fun d => W.run [W.cmd 0x09 [(8, 1)]] ((fun d => (d.setSlotState 1 2).setFwSlot 1 { image := [(13, 1)] })
  d))).dev.slotState (sf ((W.cmd 0x09 [(8, 1)] : Cmd)).entry 8 0 1) = 2) ∧ (imageKind (((W.of fun d => W.run [W.cmd
  0x09 [(8, 1)]] ((fun d => (d.setSlotState 1 2).setFwSlot 1 { image := [(13, 1)] }) d))).dev.fwSlot (sf ((W.cmd
  0x09 [(8, 1)] : Cmd)).entry 8 0 1)).bytes = 1) := by decide

theorem wit_standbyReady : (((W.of fun d => (fun d =>
  { d with jnl := { d.jnl with activation := some { part := 0, asn := 5, slot := 0, persist := true, pair := 1 } } })
  ((W.run [{ W.cmd 0x09 [] with phase := .running }] d).wr Pg.FWM Reg.FWM.ACT_STATE 1))).dev.stopped = false) ∧
  (((W.of fun d => (fun d =>
  { d with jnl := { d.jnl with activation := some { part := 0, asn := 5, slot := 0, persist := true, pair := 1 } } })
  ((W.run [{ W.cmd 0x09 [] with phase := .running }] d).wr Pg.FWM Reg.FWM.ACT_STATE 1))).dev.held Pg.FWM = false) ∧
  (((W.of fun d => (fun d =>
  { d with jnl := { d.jnl with activation := some { part := 0, asn := 5, slot := 0, persist := true, pair := 1 } } })
  ((W.run [{ W.cmd 0x09 [] with phase := .running }] d).wr Pg.FWM Reg.FWM.ACT_STATE 1))).dev.jnl.activation = some
  (({ part := 0, asn := 5, slot := 0, persist := true, pair := 1 } : Activation))) ∧ (((W.of fun d => (fun d =>
  { d with jnl := { d.jnl with activation := some { part := 0, asn := 5, slot := 0, persist := true, pair := 1 } } })
  ((W.run [{ W.cmd 0x09 [] with phase := .running }] d).wr Pg.FWM Reg.FWM.ACT_STATE 1))).dev.rd Pg.FWM
  Reg.FWM.ACT_STATE = 1) := by decide

theorem wit_seam_ends : let d := (W.of fun d => (({ d with elapsed := 1600, jnl := { d.jnl with activation := some { part := 0, asn := 5, slot := 1, persist := false, pair := 1, pause := 2 } } } : Dev).wr Pg.FWM Reg.FWM.ACT_STATE 2)).dev; d.rd Pg.FWM Reg.FWM.ACT_STATE = 2 ∧ 0 + 800 * 2 ≤ d.elapsed := by decide

theorem wit_seam_holds : (0 : Nat) < 1 + 800 * 2 := by decide

theorem wit_handover : (Ready ((W.of fun d => (fun d =>
  { d with jnl := { d.jnl with activation := some { part := 0, asn := 5, slot := 0, persist := true, pair := 1 } } })
  ((W.run [{ W.cmd 0x09 [] with phase := .running }] d).wr Pg.FWM Reg.FWM.ACT_STATE 3))).dev = true) ∧ (((W.of fun d
  => (fun d =>
  { d with jnl := { d.jnl with activation := some { part := 0, asn := 5, slot := 0, persist := true, pair := 1 } } })
  ((W.run [{ W.cmd 0x09 [] with phase := .running }] d).wr Pg.FWM Reg.FWM.ACT_STATE 3))).dev.held Pg.FWM = false) ∧
  (((W.of fun d => (fun d =>
  { d with jnl := { d.jnl with activation := some { part := 0, asn := 5, slot := 0, persist := true, pair := 1 } } })
  ((W.run [{ W.cmd 0x09 [] with phase := .running }] d).wr Pg.FWM Reg.FWM.ACT_STATE 3))).dev.jnl.activation = some
  (({ part := 0, asn := 5, slot := 0, persist := true, pair := 1 } : Activation))) ∧ (2 ≤ ((W.of fun d => (fun d =>
  { d with jnl := { d.jnl with activation := some { part := 0, asn := 5, slot := 0, persist := true, pair := 1 } } })
  ((W.run [{ W.cmd 0x09 [] with phase := .running }] d).wr Pg.FWM Reg.FWM.ACT_STATE 3))).dev.rd Pg.FWM
  Reg.FWM.ACT_STATE) ∧ ((({ part := 0, asn := 5, slot := 0, persist := true, pair := 1 } : Activation)).pair < 2) ∧
  ((({ part := 0, asn := 5, slot := 0, persist := true, pair := 1 } : Activation)).slot < 2) := by decide

theorem wit_handoverTimeout : (Ready ((W.of fun d => (fun d =>
  { d with jnl := { d.jnl with activation := some { part := 0, asn := 5, slot := 0, persist := true, pair := 1 } } })
  ((W.run [{ W.cmd 0x09 [] with phase := .running }] d).wr Pg.FWM Reg.FWM.ACT_STATE 3))).dev = true) ∧ (((W.of fun d
  => (fun d =>
  { d with jnl := { d.jnl with activation := some { part := 0, asn := 5, slot := 0, persist := true, pair := 1 } } })
  ((W.run [{ W.cmd 0x09 [] with phase := .running }] d).wr Pg.FWM Reg.FWM.ACT_STATE 3))).dev.held Pg.FWM = false) ∧
  (((W.of fun d => (fun d =>
  { d with jnl := { d.jnl with activation := some { part := 0, asn := 5, slot := 0, persist := true, pair := 1 } } })
  ((W.run [{ W.cmd 0x09 [] with phase := .running }] d).wr Pg.FWM Reg.FWM.ACT_STATE 3))).dev.jnl.activation = some
  (({ part := 0, asn := 5, slot := 0, persist := true, pair := 1 } : Activation))) ∧ (2 ≤ ((W.of fun d => (fun d =>
  { d with jnl := { d.jnl with activation := some { part := 0, asn := 5, slot := 0, persist := true, pair := 1 } } })
  ((W.run [{ W.cmd 0x09 [] with phase := .running }] d).wr Pg.FWM Reg.FWM.ACT_STATE 3))).dev.rd Pg.FWM
  Reg.FWM.ACT_STATE) ∧ ((({ part := 0, asn := 5, slot := 0, persist := true, pair := 1 } : Activation)).pair < 2) ∧
  ((({ part := 0, asn := 5, slot := 0, persist := true, pair := 1 } : Activation)).slot < 2) := by decide

theorem wit_standbyRestart : (((W.of fun d => d.setPair 1 2)).dev.stopped = false) ∧ (((W.of fun d => d.setPair 1
  2)).dev.held Pg.FWM = false) ∧ (((W.of fun d => d.setPair 1 2)).dev.jnl.activation = none) ∧ ((1) < 2) ∧ (((W.of
  fun d => d.setPair 1 2)).dev.pair (1) = 2) := by decide

theorem wit_mgmtPairFailure : ((0) < 2) ∧ (((W.of fun d => d.setPair 1 1)).dev.stopped = false) ∧ (((W.of fun d =>
  d.setPair 1 1)).dev.jnl.activation = none) ∧ (((W.of fun d => d.setPair 1 1)).dev.pair (0) = 0) ∧ (((W.of fun d =>
  d.setPair 1 1)).dev.pair (1 - (0)) ≠ 3) := by decide

theorem wit_mgmtPairFailure_standby : ((1) < 2) ∧ (((W.of fun d => d.setPair 1 1)).dev.stopped = false) ∧ (((W.of
  fun d => d.setPair 1 1)).dev.jnl.activation = none) ∧ (((W.of fun d => d.setPair 1 1)).dev.pair (1) = 1) := by
  decide

theorem wit_bootSourceTry_unread : ((({ dev := { brd := { stage := 1, avsAcked := true, sources := [0] } } } :
  State)).dev.stopped = false) ∧ ((({ dev := { brd := { stage := 1, avsAcked := true, sources := [0] } } } :
  State)).dev.mayBoot = true) ∧ ((({ dev := { brd := { stage := 1, avsAcked := true, sources := [0] } } } :
  State)).dev.brd.stage = 1) ∧ ((({ dev := { brd := { stage := 1, avsAcked := true, sources := [0] } } } :
  State)).dev.brd.sources = 0 :: (([] : List Nat))) := by decide

theorem wit_bootSourceTry_magic : ((({ dev := { brd := { stage := 1, avsAcked := true, sources := [0, 1] } } } :
  State)).dev.stopped = false) ∧ ((({ dev := { brd := { stage := 1, avsAcked := true, sources := [0, 1] } } } :
  State)).dev.mayBoot = true) ∧ ((({ dev := { brd := { stage := 1, avsAcked := true, sources := [0, 1] } } } :
  State)).dev.brd.stage = 1) ∧ ((({ dev := { brd := { stage := 1, avsAcked := true, sources := [0, 1] } } } :
  State)).dev.brd.sources = 0 :: (([1] : List Nat))) ∧ (ofLe
  (((({ dev := { brd := { stage := 1, avsAcked := true, sources := [0, 1] } } } : State)).dev.fwSlot 0).bytes 0 4) ≠
  0x4D524946) := by decide

theorem wit_bootSourceTry : ((0) < 2) ∧
  ((({ dev := ({ brd := { stage := 1, avsAcked := true, sources := [0, 1] } } : Dev).setFwSlot 0 { image := (leBytes 4 0x4D524946 ++ zeros 4 ++ leBytes 4 0x2000 ++ zeros 4).zipIdx.map fun e => (e.2, e.1) } }
  : State)).dev.stopped = false) ∧
  ((({ dev := ({ brd := { stage := 1, avsAcked := true, sources := [0, 1] } } : Dev).setFwSlot 0 { image := (leBytes 4 0x4D524946 ++ zeros 4 ++ leBytes 4 0x2000 ++ zeros 4).zipIdx.map fun e => (e.2, e.1) } }
  : State)).dev.mayBoot = true) ∧
  ((({ dev := ({ brd := { stage := 1, avsAcked := true, sources := [0, 1] } } : Dev).setFwSlot 0 { image := (leBytes 4 0x4D524946 ++ zeros 4 ++ leBytes 4 0x2000 ++ zeros 4).zipIdx.map fun e => (e.2, e.1) } }
  : State)).dev.brd.stage = 1) ∧
  ((({ dev := ({ brd := { stage := 1, avsAcked := true, sources := [0, 1] } } : Dev).setFwSlot 0 { image := (leBytes 4 0x4D524946 ++ zeros 4 ++ leBytes 4 0x2000 ++ zeros 4).zipIdx.map fun e => (e.2, e.1) } }
  : State)).dev.brd.sources = (0) :: (([1] : List Nat))) ∧ ((0x2000) = ofLe
  (((({ dev := ({ brd := { stage := 1, avsAcked := true, sources := [0, 1] } } : Dev).setFwSlot 0 { image := (leBytes 4 0x4D524946 ++ zeros 4 ++ leBytes 4 0x2000 ++ zeros 4).zipIdx.map fun e => (e.2, e.1) } }
  : State)).dev.fwSlot (0)).bytes 8 4)) ∧ ((0) = ofLe
  (((({ dev := ({ brd := { stage := 1, avsAcked := true, sources := [0, 1] } } : Dev).setFwSlot 0 { image := (leBytes 4 0x4D524946 ++ zeros 4 ++ leBytes 4 0x2000 ++ zeros 4).zipIdx.map fun e => (e.2, e.1) } }
  : State)).dev.fwSlot (0)).bytes 12 1)) ∧ (ofLe
  (((({ dev := ({ brd := { stage := 1, avsAcked := true, sources := [0, 1] } } : Dev).setFwSlot 0 { image := (leBytes 4 0x4D524946 ++ zeros 4 ++ leBytes 4 0x2000 ++ zeros 4).zipIdx.map fun e => (e.2, e.1) } }
  : State)).dev.fwSlot (0)).bytes 0 4) = 0x4D524946) ∧ (0x2000 ≤ (0x2000)) ∧ ((0x2000) ≤ 2 ^ 26) ∧ ((0) ≤
  (({ dev := ({ brd := { stage := 1, avsAcked := true, sources := [0, 1] } } : Dev).setFwSlot 0 { image := (leBytes 4 0x4D524946 ++ zeros 4 ++ leBytes 4 0x2000 ++ zeros 4).zipIdx.map fun e => (e.2, e.1) } }
  : State)).dev.rd Pg.SCU Reg.SCU.BOOT_KEY) ∧ (bitAt
  ((({ dev := ({ brd := { stage := 1, avsAcked := true, sources := [0, 1] } } : Dev).setFwSlot 0 { image := (leBytes 4 0x4D524946 ++ zeros 4 ++ leBytes 4 0x2000 ++ zeros 4).zipIdx.map fun e => (e.2, e.1) } }
  : State)).dev.rd Pg.SCU Reg.SCU.KEY_REVOKED) (0) = false) ∧
  ((({ dev := ({ brd := { stage := 1, avsAcked := true, sources := [0, 1] } } : Dev).setFwSlot 0 { image := (leBytes 4 0x4D524946 ++ zeros 4 ++ leBytes 4 0x2000 ++ zeros 4).zipIdx.map fun e => (e.2, e.1) } }
  : State)).dev.jnl.failedPairs = []) := by decide

theorem wit_bootGo : ((0) < 64) ∧ ((1) < 2 ^ 32) ∧
  ((({ dev := { brd := { stage := 2, avsAcked := true, sources := [2] } } } : State)).dev.stopped = false) ∧
  ((({ dev := { brd := { stage := 2, avsAcked := true, sources := [2] } } } : State)).dev.hasFn (0) = true) ∧ ((0) =
  0) ∧ ((({ dev := { brd := { stage := 2, avsAcked := true, sources := [2] } } } : State)).dev.allAwake = true) ∧
  (bitAt (1) 0 = true) ∧ ((({ dev := { brd := { stage := 2, avsAcked := true, sources := [2] } } } :
  State)).dev.brd.stage = 2) := by decide

theorem wit_bootGo_held : ((0) < 64) ∧ ((1) < 2 ^ 32) ∧
  ((({ dev := { brd := { stage := 1, avsAcked := true, sources := [0, 2] } } } : State)).dev.stopped = false) ∧
  ((({ dev := { brd := { stage := 1, avsAcked := true, sources := [0, 2] } } } : State)).dev.hasFn (0) = true) ∧
  ((0) = 0) ∧ ((({ dev := { brd := { stage := 1, avsAcked := true, sources := [0, 2] } } } : State)).dev.allAwake =
  true) ∧ (bitAt (1) 0 = true) ∧ ((({ dev := { brd := { stage := 1, avsAcked := true, sources := [0, 2] } } } :
  State)).dev.brd.stage ≠ 2) := by decide

theorem wit_hostWaitTimeout : ((({ dev := { brd := { stage := 2, avsAcked := true, sources := [2] } } } :
  State)).dev.stopped = false) ∧ ((({ dev := { brd := { stage := 2, avsAcked := true, sources := [2] } } } :
  State)).dev.brd.stage = 2) ∧ ((({ dev := { brd := { stage := 2, avsAcked := true, sources := [2] } } } :
  State)).dev.brd.sources = 2 :: (([] : List Nat))) := by decide

theorem wit_bootBackoff : ((({ dev := { brd := { stage := 4, avsAcked := true, sources := [] } } } :
  State)).dev.stopped = false) ∧ ((({ dev := { brd := { stage := 4, avsAcked := true, sources := [] } } } :
  State)).dev.brd.stage = 4) ∧ ((({ dev := { brd := { stage := 4, avsAcked := true, sources := [] } } } :
  State)).dev.bootSources ((({ dev := { brd := { stage := 4, avsAcked := true, sources := [] } } } : State)).dev.rd
  Pg.SYS Reg.SYS.BOOT_SEL) ≠ []) := by decide

theorem wit_perstN : (((W.of fun d => (fun d => (d.setQueue 0 2
  { sqBase := 0x1000, cqBase := 0x2000, sqDepth := 8, cqDepth := 16 }).setQueue 64 0 networkAdmin) (d))).dev.pow.off
  = false) ∧ (((W.of fun d => (fun d => (d.setQueue 0 2
  { sqBase := 0x1000, cqBase := 0x2000, sqDepth := 8, cqDepth := 16 }).setQueue 64 0 networkAdmin)
  (d))).dev.pow.tripped = false) ∧ (((W.of fun d => (fun d => (d.setQueue 0 2
  { sqBase := 0x1000, cqBase := 0x2000, sqDepth := 8, cqDepth := 16 }).setQueue 64 0 networkAdmin)
  (d))).dev.brd.perst = false) ∧ (((W.of fun d => (fun d => (d.setQueue 0 2
  { sqBase := 0x1000, cqBase := 0x2000, sqDepth := 8, cqDepth := 16 }).setQueue 64 0 networkAdmin)
  (d))).dev.jnl.powerLoss = false) := by decide

theorem wit_perstN_waits : (((W.of fun d => (fun d => (d.setQueue 0 2
  { sqBase := 0x1000, cqBase := 0x2000, sqDepth := 8, cqDepth := 16 }).setQueue 64 0 networkAdmin)
  ({ d with jnl := { d.jnl with powerLoss := true } }))).dev.pow.off = false) ∧ (((W.of fun d => (fun d =>
  (d.setQueue 0 2 { sqBase := 0x1000, cqBase := 0x2000, sqDepth := 8, cqDepth := 16 }).setQueue 64 0 networkAdmin)
  ({ d with jnl := { d.jnl with powerLoss := true } }))).dev.pow.tripped = false) ∧ (((W.of fun d => (fun d =>
  (d.setQueue 0 2 { sqBase := 0x1000, cqBase := 0x2000, sqDepth := 8, cqDepth := 16 }).setQueue 64 0 networkAdmin)
  ({ d with jnl := { d.jnl with powerLoss := true } }))).dev.brd.perst = false) ∧ (((W.of fun d => (fun d =>
  (d.setQueue 0 2 { sqBase := 0x1000, cqBase := 0x2000, sqDepth := 8, cqDepth := 16 }).setQueue 64 0 networkAdmin)
  ({ d with jnl := { d.jnl with powerLoss := true } }))).dev.jnl.powerLoss = true) := by decide

theorem wit_perstNDeassert : ((2) < 4) ∧ (((W.of fun d =>
  { d with brd := { d.brd with perst := true } })).dev.pow.off = false) ∧ (((W.of fun d =>
  { d with brd := { d.brd with perst := true } })).dev.pow.tripped = false) ∧ (((W.of fun d =>
  { d with brd := { d.brd with perst := true } })).dev.brd.perst = true) := by decide

theorem wit_pcieHotReset : (Ready ((W.of fun d => (fun d => (d.setQueue 0 2
  { sqBase := 0x1000, cqBase := 0x2000, sqDepth := 8, cqDepth := 16 }).setQueue 64 0 networkAdmin) (d))).dev = true)
  ∧ (((W.of fun d => (fun d => (d.setQueue 0 2
  { sqBase := 0x1000, cqBase := 0x2000, sqDepth := 8, cqDepth := 16 }).setQueue 64 0 networkAdmin)
  (d))).dev.hostLink = true) := by decide

theorem wit_pcieHotReset_waits : (((W.of fun d => (fun d => (d.setQueue 0 2
  { sqBase := 0x1000, cqBase := 0x2000, sqDepth := 8, cqDepth := 16 }).setQueue 64 0 networkAdmin)
  ({ d with jnl := { d.jnl with powerLoss := true } }))).dev.stopped = false) ∧ (((W.of fun d => (fun d =>
  (d.setQueue 0 2 { sqBase := 0x1000, cqBase := 0x2000, sqDepth := 8, cqDepth := 16 }).setQueue 64 0 networkAdmin)
  ({ d with jnl := { d.jnl with powerLoss := true } }))).dev.hostLink = true) ∧ (((W.of fun d => (fun d =>
  (d.setQueue 0 2 { sqBase := 0x1000, cqBase := 0x2000, sqDepth := 8, cqDepth := 16 }).setQueue 64 0 networkAdmin)
  ({ d with jnl := { d.jnl with powerLoss := true } }))).dev.jnl.powerLoss = true) := by decide

theorem wit_rstCtrlDev : ((0) < 64) ∧ ((1) < 2 ^ 32) ∧ (Taken ((W.of fun d => (fun d => (d.setQueue 0 2
  { sqBase := 0x1000, cqBase := 0x2000, sqDepth := 8, cqDepth := 16 }).setQueue 64 0 networkAdmin) (d))).dev (0)
  Pg.SYS 0x148 = true) ∧ (bitAt (1) 0 = true) ∧ (((W.of fun d => (fun d => (d.setQueue 0 2
  { sqBase := 0x1000, cqBase := 0x2000, sqDepth := 8, cqDepth := 16 }).setQueue 64 0 networkAdmin)
  (d))).dev.jnl.powerLoss = false) := by decide

theorem wit_functionLevelReset : ((0) < 64) ∧ (((W.of fun d => (fun d => (d.setQueue 0 2
  { sqBase := 0x1000, cqBase := 0x2000, sqDepth := 8, cqDepth := 16 }).setQueue 64 0 networkAdmin) (d))).dev.stopped
  = false) ∧ (((W.of fun d => (fun d => (d.setQueue 0 2
  { sqBase := 0x1000, cqBase := 0x2000, sqDepth := 8, cqDepth := 16 }).setQueue 64 0 networkAdmin) (d))).dev.hasFn
  (0) = true) ∧ (((W.of fun d => (fun d => (d.setQueue 0 2
  { sqBase := 0x1000, cqBase := 0x2000, sqDepth := 8, cqDepth := 16 }).setQueue 64 0 networkAdmin)
  (d))).dev.pip.assists = []) := by decide

theorem wit_pwrfailN : (((W.of fun d => (fun d => (d.setQueue 0 2
  { sqBase := 0x1000, cqBase := 0x2000, sqDepth := 8, cqDepth := 16 }).setQueue 64 0 networkAdmin) (d))).dev.pow.off
  = false) ∧ (((W.of fun d => (fun d => (d.setQueue 0 2
  { sqBase := 0x1000, cqBase := 0x2000, sqDepth := 8, cqDepth := 16 }).setQueue 64 0 networkAdmin)
  (d))).dev.pow.tripped = false) ∧ (((W.of fun d => (fun d => (d.setQueue 0 2
  { sqBase := 0x1000, cqBase := 0x2000, sqDepth := 8, cqDepth := 16 }).setQueue 64 0 networkAdmin)
  (d))).dev.jnl.powerLoss = false) ∧ (((W.of fun d => (fun d => (d.setQueue 0 2
  { sqBase := 0x1000, cqBase := 0x2000, sqDepth := 8, cqDepth := 16 }).setQueue 64 0 networkAdmin)
  (d))).dev.jnl.image = false) := by decide

theorem wit_pwrfailNDeassert : (((W.of fun d => (fun d => (d.setQueue 0 2
  { sqBase := 0x1000, cqBase := 0x2000, sqDepth := 8, cqDepth := 16 }).setQueue 64 0 networkAdmin)
  ({ d with jnl := { d.jnl with powerLoss := true } }))).dev.pow.off = false) ∧ (((W.of fun d => (fun d =>
  (d.setQueue 0 2 { sqBase := 0x1000, cqBase := 0x2000, sqDepth := 8, cqDepth := 16 }).setQueue 64 0 networkAdmin)
  ({ d with jnl := { d.jnl with powerLoss := true } }))).dev.pow.tripped = false) ∧ (((W.of fun d => (fun d =>
  (d.setQueue 0 2 { sqBase := 0x1000, cqBase := 0x2000, sqDepth := 8, cqDepth := 16 }).setQueue 64 0 networkAdmin)
  ({ d with jnl := { d.jnl with powerLoss := true } }))).dev.jnl.powerLoss = true) := by decide

theorem wit_shutdown : ((77) < 2 ^ 32) ∧ ((30) < 256) ∧ (((W.of fun d =>
  { d with jnl := { d.jnl with powerLoss := true } })).dev.pow.off = false) ∧ (((W.of fun d =>
  { d with jnl := { d.jnl with powerLoss := true } })).dev.pow.tripped = false) ∧ (((W.of fun d =>
  { d with jnl := { d.jnl with powerLoss := true } })).dev.jnl.powerLoss = true) ∧ (((W.of fun d =>
  { d with jnl := { d.jnl with powerLoss := true } })).dev.jnl.powerLossReset = false) ∧ (((W.of fun d =>
  { d with jnl := { d.jnl with powerLoss := true } })).dev.jnl.waitingCause = 0) ∧ (((W.of fun d =>
  { d with jnl := { d.jnl with powerLoss := true } })).dev.brd.perst = false) := by decide

theorem wit_shutdown_reset : ((77) < 2 ^ 32) ∧ ((30) < 256) ∧ (((W.of fun d =>
  { d with brd := { d.brd with perst := true }, jnl := { d.jnl with powerLoss := true } })).dev.pow.off = false) ∧
  (((W.of fun d =>
  { d with brd := { d.brd with perst := true }, jnl := { d.jnl with powerLoss := true } })).dev.pow.tripped = false)
  ∧ (((W.of fun d =>
  { d with brd := { d.brd with perst := true }, jnl := { d.jnl with powerLoss := true } })).dev.jnl.powerLoss =
  true) ∧ (((W.of fun d =>
  { d with brd := { d.brd with perst := true }, jnl := { d.jnl with powerLoss := true } })).dev.brd.perst = true) :=
  by decide

theorem wit_shutdown_waited : ((77) < 2 ^ 32) ∧ ((30) < 256) ∧ (((W.of fun d =>
  { d with jnl := { d.jnl with powerLoss := true, waitingCause := 3 } })).dev.pow.off = false) ∧ (((W.of fun d =>
  { d with jnl := { d.jnl with powerLoss := true, waitingCause := 3 } })).dev.pow.tripped = false) ∧ (((W.of fun d
  => { d with jnl := { d.jnl with powerLoss := true, waitingCause := 3 } })).dev.jnl.powerLoss = true) ∧ (((W.of fun
  d => { d with jnl := { d.jnl with powerLoss := true, waitingCause := 3 } })).dev.brd.perst = false) ∧ (((W.of fun
  d => { d with jnl := { d.jnl with powerLoss := true, waitingCause := 3 } })).dev.jnl.waitingCause ≠ 0) ∧ (((W.of
  fun d => { d with jnl := { d.jnl with powerLoss := true, waitingCause := 3 } })).dev.jnl.waitingCause < 16) := by
  decide

theorem wit_pwrOkFall : (((W.of fun d => (fun d => (d.setQueue 0 2
  { sqBase := 0x1000, cqBase := 0x2000, sqDepth := 8, cqDepth := 16 }).setQueue 64 0 networkAdmin) (d))).dev.pow.off
  = false) := by decide

theorem wit_brownOut : (((W.of fun d => (fun d => (d.setQueue 0 2
  { sqBase := 0x1000, cqBase := 0x2000, sqDepth := 8, cqDepth := 16 }).setQueue 64 0 networkAdmin) (d))).dev.pow.off
  = false) := by decide

theorem wit_pwrOkRise : ((3) < 4) ∧ (((W.of fun d => (fun d => (d.setQueue 0 2
  { sqBase := 0x1000, cqBase := 0x2000, sqDepth := 8, cqDepth := 16 }).setQueue 64 0 networkAdmin)
  ({ d with pow := { d.pow with off := true } }))).dev.pow.off = true) ∧ (((W.of fun d => (fun d => (d.setQueue 0 2
  { sqBase := 0x1000, cqBase := 0x2000, sqDepth := 8, cqDepth := 16 }).setQueue 64 0 networkAdmin)
  ({ d with pow := { d.pow with off := true } }))).dev.pow.tripped = false) := by decide

theorem wit_pwrOkRise_repaired : ((3) < 4) ∧ (((W.of fun d => (fun d => (d.setQueue 0 2
  { sqBase := 0x1000, cqBase := 0x2000, sqDepth := 8, cqDepth := 16 }).setQueue 64 0 networkAdmin)
  ({ d with pow := { d.pow with off := true } }))).dev.pow.off = true) := by decide

theorem wit_pwrOkRise_tripped : ((3) < 4) ∧ (((W.of fun d => (fun d => (d.setQueue 0 2
  { sqBase := 0x1000, cqBase := 0x2000, sqDepth := 8, cqDepth := 16 }).setQueue 64 0 networkAdmin)
  ({ d with pow := { d.pow with off := true, tripped := true } }))).dev.pow.off = true) ∧ (((W.of fun d => (fun d =>
  (d.setQueue 0 2 { sqBase := 0x1000, cqBase := 0x2000, sqDepth := 8, cqDepth := 16 }).setQueue 64 0 networkAdmin)
  ({ d with pow := { d.pow with off := true, tripped := true } }))).dev.pow.tripped = true) := by decide

theorem wit_hbmRetire : ((0) < 64) ∧ ((2) < 4) ∧ ((1) < 2 ^ 32) ∧ (Taken ((W.reg (Pg.HBM 2) Reg.HBM.STATE 1)).dev
  (0) (Pg.HBM (2)) 0x114 = true) ∧ (bitAt (1) 0 = true) ∧ (((W.reg (Pg.HBM 2) Reg.HBM.STATE 1)).dev.stackLive (2) =
  true) ∧ (((W.reg (Pg.HBM 2) Reg.HBM.STATE 1)).dev.cap.frames = []) := by decide

theorem wit_stackInterfaceLoss : ((2) < 4) ∧ (((W.reg (Pg.HBM 2) Reg.HBM.STATE 1)).dev.stopped = false) ∧ (((W.reg
  (Pg.HBM 2) Reg.HBM.STATE 1)).dev.stackLive (2) = true) ∧ (((W.reg (Pg.HBM 2) Reg.HBM.STATE 1)).dev.cap.frames =
  []) := by decide

theorem wit_mirrorRestored : ((2) < 4) ∧ (((W.reg (Pg.HBM 2) Reg.HBM.STATE 3)).dev.stopped = false) ∧ (((W.reg
  (Pg.HBM 2) Reg.HBM.STATE 3)).dev.rd (Pg.HBM (2)) Reg.HBM.STATE = 3) := by decide

theorem wit_hbmEccError_corrected : ((2) < 4) ∧ (((W.reg (Pg.HBM 2) Reg.HBM.STATE 1)).dev.stopped = false) ∧
  (((W.reg (Pg.HBM 2) Reg.HBM.STATE 1)).dev.stackLive (2) = true) := by decide

theorem wit_hbmEccError : ((2) < 4) ∧ (((W.reg (Pg.HBM 2) Reg.HBM.STATE 1)).dev.stopped = false) ∧ (((W.reg (Pg.HBM
  2) Reg.HBM.STATE 1)).dev.stackLive (2) = true) ∧ (((W.reg (Pg.HBM 2) Reg.HBM.STATE 1)).dev.jnl.hbmLast = []) ∧ (0
  < ((W.reg (Pg.HBM 2) Reg.HBM.STATE 1)).dev.rd (Pg.HBM (2)) Reg.HBM.SPARES_LEFT) := by decide

theorem wit_sramError : ((Pg.YPTB 3) < 256) ∧ (Pg.isPage (Pg.YPTB 3) = true) ∧ ((Pg.family (Pg.YPTB 3)).1 = 0x42) ∧
  ((W.on).dev.stopped = false) ∧ (((W.on).dev.jnl.sramRows.any fun e => e.1 = (1) && e.2.1 = (2)) = false) := by
  decide

theorem wit_sramError_uncorrected : ((Pg.YPTB 3) < 256) ∧ (Pg.isPage (Pg.YPTB 3) = true) ∧ ((Pg.family (Pg.YPTB
  3)).1 = 0x42) ∧ ((W.on).dev.stopped = false) ∧ (((W.on).dev.pip.jobs.any fun j => j.started) = false) := by decide

theorem wit_mramUncorr : ((0) < ((W.of fun d => d.record 0 0 .posted)).dev.jnl.ledger.length) ∧ (((W.of fun d =>
  d.record 0 0 .posted)).dev.stopped = false) := by decide

theorem wit_mramUncorr_free : ((W.on).dev.stopped = false) := by decide

theorem wit_spineParityError : ((2) < 4) ∧ ((W.on).dev.stopped = false) := by decide

theorem wit_spineParityError_third : ((2) < 4) ∧ ((W.on).dev.stopped = false) := by decide

theorem wit_pllLossOfLock : ((1) < 4) ∧ (hasPll (1) (2) = true) ∧ ((W.on).dev.pow.off = false) ∧
  ((W.on).dev.pow.tripped = false) ∧ ((W.on).dev.jnl.image = false) ∧ (((1), (2)) ∉ (W.on).dev.pow.lost) ∧
  ((W.on).dev.cap.groups = []) ∧ ((W.on).dev.hst.sessions = []) := by decide

theorem wit_pllRelock : ((1) < 4) ∧ ((2) < 8) := by decide

theorem wit_ethernetLinkDown : ((1) < 2) ∧ ((2) < 4) ∧ (((W.reg (netPort 1) Reg.NETP.LINK_UP 4)).dev.stopped =
  false) ∧ (((W.reg (netPort 1) Reg.NETP.LINK_UP 4)).dev.rd (netPort (1)) Reg.NETP.LINK_UP = 2 ^ (2)) ∧ ((1) ∉
  ((W.reg (netPort 1) Reg.NETP.LINK_UP 4)).dev.hst.portsDown) ∧ (((W.reg (netPort 1) Reg.NETP.LINK_UP
  4)).dev.hst.sessions = []) := by decide

theorem wit_ethernetLinkDown_fcs : ((1) < 2) ∧ ((2) < 4) ∧ (0 < (1000)) ∧ ((1000) ≤ 1000) ∧ ((W.on).dev.stopped =
  false) := by decide

theorem wit_ethernetLinkUp : ((1) < 2) ∧ ((3) < 4) ∧ (((W.reg (netPort 1) Reg.NETP.BREAKOUT 2)).dev.stopped = false)
  ∧ (((W.reg (netPort 1) Reg.NETP.BREAKOUT 2)).dev.held (netPort (1)) = false) ∧ (bitAt (((W.reg (netPort 1)
  Reg.NETP.BREAKOUT 2)).dev.rd (netPort (1)) Reg.NETP.LINK_UP) (3) = false) ∧ ((3) < 2 ^ min 2 (((W.reg (netPort 1)
  Reg.NETP.BREAKOUT 2)).dev.rd (netPort (1)) Reg.NETP.BREAKOUT)) ∧ (((W.reg (netPort 1) Reg.NETP.BREAKOUT 2)).dev.rd
  (netPort (1)) Reg.NETP.LINK_UP = 0) := by decide

theorem wit_portInService : ((1) < 2) ∧ (((W.of fun d =>
  { d.wr (netPort 1) Reg.NETP.LINK_UP 1 with hst := { d.hst with portsDown := [1] } })).dev.stopped = false) ∧
  (((W.of fun d => { d.wr (netPort 1) Reg.NETP.LINK_UP 1 with hst := { d.hst with portsDown := [1] } })).dev.rd
  (netPort (1)) Reg.NETP.LINK_UP ≠ 0) := by decide

theorem wit_every_ill : Instr.wellFormed (.hbmEccError 4 0 true 4 0 0) = false ∧ Instr.wellFormed (.perstNDeassert 4) = false := by decide

theorem wit_queue_step : let s : State := { W.on with pending := [.barrier 63, .perstN] }; Sane s = true ∧ (match step s with | .next t => decide (t.pending = [.perstN]) | _ => false) = true := by decide

theorem wit_queue_order : ∃ e, Host.Core.run core [Instr.barrier 0, .cadenceInstant 15].length { pending := [.barrier 0, .cadenceInstant 15], dev := W.on.dev } = .next { pending := [], dev := e } := ⟨_, rfl⟩

theorem wit_queue_ill : (∃ e, Host.Core.run core [Instr.barrier 0].length { pending := [.barrier 0], dev := W.on.dev } = .next { pending := [], dev := e }) ∧ Instr.wellFormed (.barrier 64) = false := ⟨⟨_, rfl⟩, by decide⟩

theorem wit_stopped : let s := W.of fun d => { d with pow := { d.pow with lost := [(0, 1)] } }; s.dev.stopped = true ∧ Instr.always (.registerWrite 0 Pg.GPI 0x03C 5) = false := by decide

theorem wit_quiet : let s := W.of fun d => { d with jnl := { d.jnl with powerLoss := true } }; s.dev.jnl.powerLoss = true ∧ Instr.quiet (.applyPoint 15) = true := by decide

theorem wit_trip_command : let s := W.of fun d => { d with pow := { d.pow with tripped := true } }; s.dev.pow.tripped = true ∧ ∀ n x a b, Instr.pwrfailN ≠ .pwrOkRise n x a b := ⟨rfl, fun _ _ _ _ h => nomatch h⟩

theorem wit_trip_holds : let s : State := { pending := [.perstN, .pwrfailN], dev := { W.on.dev with pow := { W.on.dev.pow with tripped := true } } }; s.dev.pow.tripped = true ∧ ∀ c ∈ s.pending, ∀ k x a b, c ≠ .pwrOkRise k x a b := by
  refine ⟨rfl, ?_⟩
  intro c h k x a b e
  subst e
  simp at h

theorem wit_ticks : W.on.dev.stopped = false ∧ W.on.dev.tim.step = none := by decide

theorem wit_ticks_stopped : (W.of fun d => { d with pow := { d.pow with lost := [(0, 0)] } }).dev.stopped = true := by decide

theorem wit_host_back : [1, (2 : Byte)].length ≤ 2 ^ 64 ∧ [1, (2 : Byte)][1]? = some 2 := by decide

theorem wit_host_else : ∀ i < [1, (2 : Byte)].length, hostKey 3 (2 ^ 64 - 1) ≠ hostKey 3 (0 + i) := by decide

theorem wit_host_form : Sparse.wf W.on.dev.hostMem (fun _ => 0) = true := by decide

theorem wit_host_see : Sparse.wf (W.of fun d => d.hostWrite 3 (2 ^ 64 - 1) [7, 0, 9]).dev.hostMem (fun _ => 0) = true := by decide

theorem wit_err_first : 30 < 31 ∧ W.on.dev.rd Pg.NVS Reg.HDR.ERR_STAT = 0 ∧ W.on.dev.rd Pg.NVS Reg.HDR.OVF = 0 := by decide

theorem wit_err_later : let d := (W.reg Pg.NVS Reg.HDR.ERR_STAT 1).dev; 30 < 31 ∧ (d.rd Pg.NVS Reg.HDR.ERR_STAT ≠ 0 ∨ d.rd Pg.NVS Reg.HDR.OVF ≠ 0) := by decide

theorem wit_err_clear : let s := W.reg Pg.NVS Reg.HDR.ERR_STAT 1; (Pg.family Pg.NVS).1 ≠ 0x53 ∧ Taken s.dev 0 Pg.NVS 0x028 = true := by decide

theorem wit_fixed_trip : ((((List.replicate 60 (some (16 * 40)) ++ [some (16 * 140)]) : List (Option Int))).length =
  61) ∧ (((W.of fun d => (d.wr Pg.THM Reg.THM.TRIP_MODE 1).wr Pg.THM Reg.THM.TRIP_RATE 1023)).dev.stopped = false) ∧
  ((60) < 61) ∧ ((((List.replicate 60 (some (16 * 40)) ++ [some (16 * 140)]) : List (Option Int)))[(60)]? = some
  (some ((2240 : Int)))) ∧ (((W.of fun d => (d.wr Pg.THM Reg.THM.TRIP_MODE 1).wr Pg.THM Reg.THM.TRIP_RATE
  1023)).dev.sensed (sensorGroup (60)) = true) ∧ (((W.of fun d => (d.wr Pg.THM Reg.THM.TRIP_MODE 1).wr Pg.THM
  Reg.THM.TRIP_RATE 1023)).dev.brokenSensor (60) = false) ∧ (16 * 140 ≤ ((2240 : Int))) := by decide

theorem wit_fwActivate_failed : ((0) < 128) ∧ ((5) < 2 ^ 64) ∧ (Starts (((W.of fun d => W.run [W.cmd 0x09 [(8, 1)]]
  ((fun d => { d.setSlotState 1 2 with jnl := { d.jnl with failedPairs := [1] } }) d))).dev.see (({} : HostView)))
  (0) (5) 0x09 ((W.cmd 0x09 [(8, 1)] : Cmd)) = true) ∧ (((W.of fun d => W.run [W.cmd 0x09 [(8, 1)]] ((fun d =>
  { d.setSlotState 1 2 with jnl := { d.jnl with failedPairs := [1] } }) d))).dev.jnl.failedPairs ≠ []) := by decide

theorem wit_pair_remains : ((0) < 2) ∧ (((W.of fun d =>
  (({ d with jnl := { d.jnl with activation := some { part := 0, asn := 5, slot := 1, persist := false, pair := 1 } } }
  : Dev).wr Pg.FWM Reg.FWM.ACT_STATE 1).setPair 1 2)).dev.stopped = false) ∧ (((W.of fun d =>
  (({ d with jnl := { d.jnl with activation := some { part := 0, asn := 5, slot := 1, persist := false, pair := 1 } } }
  : Dev).wr Pg.FWM Reg.FWM.ACT_STATE 1).setPair 1 2)).dev.pair (0) ≠ 3) ∧ (((W.of fun d =>
  (({ d with jnl := { d.jnl with activation := some { part := 0, asn := 5, slot := 1, persist := false, pair := 1 } } }
  : Dev).wr Pg.FWM Reg.FWM.ACT_STATE 1).setPair 1 2)).dev.pair (1 - (0)) ≠ 3) ∧ (((W.of fun d =>
  (({ d with jnl := { d.jnl with activation := some { part := 0, asn := 5, slot := 1, persist := false, pair := 1 } } }
  : Dev).wr Pg.FWM Reg.FWM.ACT_STATE 1).setPair 1 2)).dev.pair (0) = 0 ∨ ((W.of fun d =>
  (({ d with jnl := { d.jnl with activation := some { part := 0, asn := 5, slot := 1, persist := false, pair := 1 } } }
  : Dev).wr Pg.FWM Reg.FWM.ACT_STATE 1).setPair 1 2)).dev.pair (1 - (0)) = 0) ∧ (((W.of fun d =>
  (({ d with jnl := { d.jnl with activation := some { part := 0, asn := 5, slot := 1, persist := false, pair := 1 } } }
  : Dev).wr Pg.FWM Reg.FWM.ACT_STATE 1).setPair 1 2)).dev.jnl.activation.all (fun a => a.pair ≠ 1 - (0) || ((W.of
  fun d =>
  (({ d with jnl := { d.jnl with activation := some { part := 0, asn := 5, slot := 1, persist := false, pair := 1 } } }
  : Dev).wr Pg.FWM Reg.FWM.ACT_STATE 1).setPair 1 2)).dev.pair (0) = 0) = true) := by decide

/-- The hypotheses of FramesComplete: those of one clause; for every other clause wit_<its command> above shows a state and
operands that meet them. -/
theorem wit_framesComplete : ((0) < 128) ∧ ((5) < 2 ^ 64) ∧ (Starts (((W.of (W.run [W.cmd 0x8A [(1, 2), (8, 7 +
  0x200)]]))).dev.see (({} : HostView))) (0) (5) 0x8A ((W.cmd 0x8A [(1, 2), (8, 7 + 0x200)] : Cmd)) = true) ∧ (sf
  ((W.cmd 0x8A [(1, 2), (8, 7 + 0x200)] : Cmd)).entry 8 8 1 = 0) ∧ ((2) = sf ((W.cmd 0x8A [(1, 2), (8, 7 + 0x200)] :
  Cmd)).entry 1 0 8) ∧ (((W.of (W.run [W.cmd 0x8A [(1, 2), (8, 7 + 0x200)]]))).dev.ownsCtx ((W.cmd 0x8A [(1, 2), (8,
  7 + 0x200)] : Cmd)) (2) = true) ∧ (sf ((W.cmd 0x8A [(1, 2), (8, 7 + 0x200)] : Cmd)).entry 8 10 2 = 0 ∨ sf ((W.cmd
  0x8A [(1, 2), (8, 7 + 0x200)] : Cmd)).entry 8 9 1 = 1) ∧ ((((W.of (W.run [W.cmd 0x8A [(1, 2), (8, 7 +
  0x200)]]))).dev.ctx (2)).head = none) ∧ ((((W.of (W.run [W.cmd 0x8A [(1, 2), (8, 7 +
  0x200)]]))).dev.boundCtxs.filter fun e => e.1 ≠ (2)).any (fun e => e.2.head = some (sf ((W.cmd 0x8A [(1, 2), (8, 7
  + 0x200)] : Cmd)).entry 8 0 8) || (decide (sf ((W.cmd 0x8A [(1, 2), (8, 7 + 0x200)] : Cmd)).entry 8 9 1 = 1) &&
  e.2.inl && (sectionsOf e.2.gang e.2.section_).any fun n => n ∈ sectionsOf (sf ((W.cmd 0x8A [(1, 2), (8, 7 +
  0x200)] : Cmd)).entry 8 10 2) (sf ((W.cmd 0x8A [(1, 2), (8, 7 + 0x200)] : Cmd)).entry 8 12 2))) = false) ∧
  ((({ head := some 7, inl := true } : Ctx)) =
  { ((W.of (W.run [W.cmd 0x8A [(1, 2), (8, 7 + 0x200)]]))).dev.ctx (2) with head := some (sf ((W.cmd 0x8A [(1, 2), (8, 7 + 0x200)] : Cmd)).entry 8 0 8), inl := decide (sf ((W.cmd 0x8A [(1, 2), (8, 7 + 0x200)] : Cmd)).entry 8 9 1 = 1), gang := sf ((W.cmd 0x8A [(1, 2), (8, 7 + 0x200)] : Cmd)).entry 8 10 2, section_ := sf ((W.cmd 0x8A [(1, 2), (8, 7 + 0x200)] : Cmd)).entry 8 12 2, rate := dwAt ((W.cmd 0x8A [(1, 2), (8, 7 + 0x200)] : Cmd)).entry 9 })
  ∧ ((sectionsOf (({ head := some 7, inl := true } : Ctx)).gang (({ head := some 7, inl := true } :
  Ctx)).section_).all (fun n => decide ((((W.of (W.run [W.cmd 0x8A [(1, 2), (8, 7 + 0x200)]]))).dev.setCtx (2)
  (({ head := some 7, inl := true } : Ctx))).sectionLoad n ≤ sectionCap) && decide ((((W.of (W.run [W.cmd 0x8A [(1,
  2), (8, 7 + 0x200)]]))).dev.setCtx (2) (({ head := some 7, inl := true } : Ctx))).sectionLoad n (fun j _ => ((W.of
  (W.run [W.cmd 0x8A [(1, 2), (8, 7 + 0x200)]]))).dev.reserved 0 j) ≤ sectionCap)) = true) ∧ ((((W.of (W.run [W.cmd
  0x8A [(1, 2), (8, 7 + 0x200)]]))).dev.setCtx (2) (({ head := some 7, inl := true } : Ctx))).declaredLoad ≤
  40000000) ∧ ((List.range 4).all (fun n => !(((W.of (W.run [W.cmd 0x8A [(1, 2), (8, 7 + 0x200)]]))).dev.setCtx (2)
  (({ head := some 7, inl := true } : Ctx))).unitCounts n (sf ((W.cmd 0x8A [(1, 2), (8, 7 + 0x200)] : Cmd)).entry 8
  0 8) || (((W.of (W.run [W.cmd 0x8A [(1, 2), (8, 7 + 0x200)]]))).dev.setCtx (2) (({ head := some 7, inl := true } :
  Ctx))).unitLoad n ≤ 20000000) = true) ∧ ((({ head := some 7, inl := true } : Ctx)).rate ≤ ((W.of (W.run [W.cmd
  0x8A [(1, 2), (8, 7 + 0x200)]]))).dev.reserved 0 (2)) := wit_contextBind

/-- The hypotheses of RecordingComplete: those of one clause; for every other clause wit_<its command> above shows a state and
operands that meet them. -/
theorem wit_recordingComplete : ((0) < 128) ∧ ((5) < 2 ^ 64) ∧ (Starts (((W.of (W.run
  [{ { W.cmd 0x92 [(6, 4096), (7, 65536), (8, 2 * 16 + 12 * 256), (9, 7 + 3 * 2 ^ 16), (10, 16)] with phase := .running } with phase := .waiting }]))).dev.see
  (({} : HostView))) (0) (5) 0x92
  (({ { W.cmd 0x92 [(6, 4096), (7, 65536), (8, 2 * 16 + 12 * 256), (9, 7 + 3 * 2 ^ 16), (10, 16)] with phase := .running } with phase := .waiting }
  : Cmd)) = true) ∧ (sf
  (({ { W.cmd 0x92 [(6, 4096), (7, 65536), (8, 2 * 16 + 12 * 256), (9, 7 + 3 * 2 ^ 16), (10, 16)] with phase := .running } with phase := .waiting }
  : Cmd)).entry 8 0 1 = 0) ∧ ((frcJob
  (({ { W.cmd 0x92 [(6, 4096), (7, 65536), (8, 2 * 16 + 12 * 256), (9, 7 + 3 * 2 ^ 16), (10, 16)] with phase := .running } with phase := .waiting }
  : Cmd))).valid = true) ∧ ((frcJob
  (({ { W.cmd 0x92 [(6, 4096), (7, 65536), (8, 2 * 16 + 12 * 256), (9, 7 + 3 * 2 ^ 16), (10, 16)] with phase := .running } with phase := .waiting }
  : Cmd))).inSize ≤ (frcJob
  (({ { W.cmd 0x92 [(6, 4096), (7, 65536), (8, 2 * 16 + 12 * 256), (9, 7 + 3 * 2 ^ 16), (10, 16)] with phase := .running } with phase := .waiting }
  : Cmd))).src) ∧ ((frcJob
  (({ { W.cmd 0x92 [(6, 4096), (7, 65536), (8, 2 * 16 + 12 * 256), (9, 7 + 3 * 2 ^ 16), (10, 16)] with phase := .running } with phase := .waiting }
  : Cmd))).outSize ≤ (frcJob
  (({ { W.cmd 0x92 [(6, 4096), (7, 65536), (8, 2 * 16 + 12 * 256), (9, 7 + 3 * 2 ^ 16), (10, 16)] with phase := .running } with phase := .waiting }
  : Cmd))).dst) := wit_frcCompress

/-- The hypotheses of CodingComplete: those of one clause; for every other clause wit_<its command> above shows a state and
operands that meet them. -/
theorem wit_codingComplete : ((0) < 128) ∧ ((5) < 2 ^ 64) ∧ (Starts (((W.of (W.run [W.cmd 0x90 [(6,
  128)]]))).dev.see (({} : HostView))) (0) (5) 0x90 ((W.cmd 0x90 [(6, 128)] : Cmd)) = true) ∧ ((0) = sf ((W.cmd 0x90
  [(6, 128)] : Cmd)).entry 1 0 8) ∧ (sf ((W.cmd 0x90 [(6, 128)] : Cmd)).entry 8 0 4 = 0) ∧ (((W.of (W.run [W.cmd
  0x90 [(6, 128)]]))).dev.ownerOf 2 (0) = ((W.cmd 0x90 [(6, 128)] : Cmd)).part) ∧ (((W.of (W.run [W.cmd 0x90 [(6,
  128)]]))).dev.encTurn ((W.cmd 0x90 [(6, 128)] : Cmd)) = true) ∧ (128 ≤ dwAt ((W.cmd 0x90 [(6, 128)] : Cmd)).entry
  6) := wit_encConfig

/-- The hypotheses of OutputsComplete: those of one clause; for every other clause wit_<its command> above shows a state and
operands that meet them. -/
theorem wit_outputsComplete : ((0) < 64) ∧ ((3) < 16) ∧ ((0x10007) < 2 ^ 32) ∧ (Taken (W.on).dev (0) (Pg.DSP (3))
  0x140 = true) := wit_dspCommit

/-- The hypotheses of QueuesComplete: those of one clause; for every other clause wit_<its command> above shows a state and
operands that meet them. -/
theorem wit_queuesComplete : ((0) < 128) ∧ ((5) < 2 ^ 64) ∧ (Starts (((W.of (W.run [W.cmd 0x01 [(1, 3), (2, 0x1000),
  (4, 0x2000), (8, 7 + 15 * 2 ^ 16), (9, 2 + 2 ^ 16)]]))).dev.see (({} : HostView))) (0) (5) 0x01 ((W.cmd 0x01 [(1,
  3), (2, 0x1000), (4, 0x2000), (8, 7 + 15 * 2 ^ 16), (9, 2 + 2 ^ 16)] : Cmd)) = true) ∧ (((W.cmd 0x01 [(1, 3), (2,
  0x1000), (4, 0x2000), (8, 7 + 15 * 2 ^ 16), (9, 2 + 2 ^ 16)] : Cmd)).part < 64) ∧ (sf ((W.cmd 0x01 [(1, 3), (2,
  0x1000), (4, 0x2000), (8, 7 + 15 * 2 ^ 16), (9, 2 + 2 ^ 16)] : Cmd)).entry 1 0 16 ≠ 0) ∧ (sf ((W.cmd 0x01 [(1, 3),
  (2, 0x1000), (4, 0x2000), (8, 7 + 15 * 2 ^ 16), (9, 2 + 2 ^ 16)] : Cmd)).entry 1 0 16 ≠ ((W.cmd 0x01 [(1, 3), (2,
  0x1000), (4, 0x2000), (8, 7 + 15 * 2 ^ 16), (9, 2 + 2 ^ 16)] : Cmd)).queue) ∧ (sf ((W.cmd 0x01 [(1, 3), (2,
  0x1000), (4, 0x2000), (8, 7 + 15 * 2 ^ 16), (9, 2 + 2 ^ 16)] : Cmd)).entry 1 0 16 < ((W.of (W.run [W.cmd 0x01 [(1,
  3), (2, 0x1000), (4, 0x2000), (8, 7 + 15 * 2 ^ 16), (9, 2 + 2 ^ 16)]]))).dev.rd (qmg ((W.cmd 0x01 [(1, 3), (2,
  0x1000), (4, 0x2000), (8, 7 + 15 * 2 ^ 16), (9, 2 + 2 ^ 16)] : Cmd)).part).1 Reg.QMG.QUOTA (qmg ((W.cmd 0x01 [(1,
  3), (2, 0x1000), (4, 0x2000), (8, 7 + 15 * 2 ^ 16), (9, 2 + 2 ^ 16)] : Cmd)).part).2) ∧ (((W.of (W.run [W.cmd 0x01
  [(1, 3), (2, 0x1000), (4, 0x2000), (8, 7 + 15 * 2 ^ 16), (9, 2 + 2 ^ 16)]]))).dev.queue? ((W.cmd 0x01 [(1, 3), (2,
  0x1000), (4, 0x2000), (8, 7 + 15 * 2 ^ 16), (9, 2 + 2 ^ 16)] : Cmd)).part (sf ((W.cmd 0x01 [(1, 3), (2, 0x1000),
  (4, 0x2000), (8, 7 + 15 * 2 ^ 16), (9, 2 + 2 ^ 16)] : Cmd)).entry 1 0 16) = none) ∧ (1 ≤ sf ((W.cmd 0x01 [(1, 3),
  (2, 0x1000), (4, 0x2000), (8, 7 + 15 * 2 ^ 16), (9, 2 + 2 ^ 16)] : Cmd)).entry 8 0 16) ∧ (1 ≤ sf ((W.cmd 0x01 [(1,
  3), (2, 0x1000), (4, 0x2000), (8, 7 + 15 * 2 ^ 16), (9, 2 + 2 ^ 16)] : Cmd)).entry 8 16 16) ∧ (dw64 ((W.cmd 0x01
  [(1, 3), (2, 0x1000), (4, 0x2000), (8, 7 + 15 * 2 ^ 16), (9, 2 + 2 ^ 16)] : Cmd)).entry 2 % 4096 = 0) ∧ (dw64
  ((W.cmd 0x01 [(1, 3), (2, 0x1000), (4, 0x2000), (8, 7 + 15 * 2 ^ 16), (9, 2 + 2 ^ 16)] : Cmd)).entry 4 % 4096 = 0)
  ∧ (sf ((W.cmd 0x01 [(1, 3), (2, 0x1000), (4, 0x2000), (8, 7 + 15 * 2 ^ 16), (9, 2 + 2 ^ 16)] : Cmd)).entry 9 0 11
  < (((W.of (W.run [W.cmd 0x01 [(1, 3), (2, 0x1000), (4, 0x2000), (8, 7 + 15 * 2 ^ 16), (9, 2 + 2 ^
  16)]]))).dev.part ((W.cmd 0x01 [(1, 3), (2, 0x1000), (4, 0x2000), (8, 7 + 15 * 2 ^ 16), (9, 2 + 2 ^ 16)] :
  Cmd)).part).msix) := wit_queueCreate

/-- The hypotheses of NetworkComplete: those of one clause; for every other clause wit_<its command> above shows a state and
operands that meet them. -/
theorem wit_networkComplete : (rctParse (((W.rct [7] 1 3 1 0 (3 :: zeros 63)) : List Byte)) = some ((((rctParse
  (W.rct [7] 1 3 1 0 (3 :: zeros 63))).getD ⟨0, 0, 0, 0, 0, [], [], []⟩) : RctIn))) ∧ (((((rctParse (W.rct [7] 1 3 1
  0 (3 :: zeros 63))).getD ⟨0, 0, 0, 0, 0, [], [], []⟩) : RctIn)).type = 0x01) ∧ (((W.of (W.net
  W.sess))).dev.session? ((((rctParse (W.rct [7] 1 3 1 0 (3 :: zeros 63))).getD ⟨0, 0, 0, 0, 0, [], [], []⟩) :
  RctIn)).session = some ((W.sess : Session))) ∧ (((W.sess : Session)).state = .opened) ∧ (((W.of (W.net
  W.sess))).dev.portUp (1) = true) ∧ ((1) < 2) ∧ (((W.of (W.net W.sess))).dev.stopped = false) ∧ (((W.of (W.net
  W.sess))).dev.allAwake = true) ∧ ((Crypto.hmac ((W.sess : Session)).key ((((rctParse (W.rct [7] 1 3 1 0 (3 ::
  zeros 63))).getD ⟨0, 0, 0, 0, 0, [], [], []⟩) : RctIn)).covered).take 16 = ((((rctParse (W.rct [7] 1 3 1 0 (3 ::
  zeros 63))).getD ⟨0, 0, 0, 0, 0, [], [], []⟩) : RctIn)).mac) ∧ (((((rctParse (W.rct [7] 1 3 1 0 (3 :: zeros
  63))).getD ⟨0, 0, 0, 0, 0, [], [], []⟩) : RctIn)).seq = ((W.sess : Session)).rxNext % 2 ^ 32) ∧ (((W.sess :
  Session)).early = []) ∧ (((W.sess : Session)).unacked = []) ∧ (((W.sess : Session)).waiting = []) ∧ (((W.of (W.net
  W.sess))).dev.queue? ((W.sess : Session)).part ((W.sess : Session)).queue = some ((networkAdmin : Queue))) ∧
  (((((rctParse (W.rct [7] 1 3 1 0 (3 :: zeros 63))).getD ⟨0, 0, 0, 0, 0, [], [], []⟩) : RctIn)).payload.length =
  64) ∧ (((W.of (W.net W.sess))).dev.sqRoom ((W.sess : Session)).part ((W.sess : Session)).queue ((networkAdmin :
  Queue)) = true) ∧ (((W.sess : Session)).part = 64) ∧ (((W.sess : Session)).queue = 0) ∧ (adminOp (opcode
  ((List.range 16).map fun i => ofLe ((((((rctParse (W.rct [7] 1 3 1 0 (3 :: zeros 63))).getD ⟨0, 0, 0, 0, 0, [],
  [], []⟩) : RctIn)).payload.drop (4 * i)).take 4))) = true) ∧ (((W.of (W.net W.sess))).dev.hst.sessions =
  [(((((rctParse (W.rct [7] 1 3 1 0 (3 :: zeros 63))).getD ⟨0, 0, 0, 0, 0, [], [], []⟩) : RctIn)).session, ((W.sess
  : Session)))]) := wit_rctCommand

/-- The hypotheses of AdministrationComplete: those of one clause; for every other clause wit_<its command> above shows a state and
operands that meet them. -/
theorem wit_administrationComplete : ((0) < 128) ∧ ((5) < 2 ^ 64) ∧ (Starts (((W.of fun d => W.run [W.cmd 0x03 []]
  (d))).dev.see (({} : HostView))) (0) (5) 0x03 ((W.cmd 0x03 [] : Cmd)) = true) := wit_identify

/-- The hypotheses of PowerComplete: those of one clause; for every other clause wit_<its command> above shows a state and
operands that meet them. -/
theorem wit_powerComplete : (0 < (5)) ∧ ((5) < 32) ∧ ((W.on).dev.stopped = false) ∧ ((W.on).dev.keep = false) ∧
  ((W.on).dev.powerState (5) = 0) ∧ (Assoc.has (W.on).dev.pow.groups (5) = false) ∧ (Assoc.has
  (W.on).dev.pow.entering 32 = false) ∧ ((groupPages (5)).any (W.on).dev.busy = false) ∧ ((W.on).dev.assisted Pg.PWR
  = false) ∧ ((((W.on.dev.calendarShow [(9000000, 2 ^ 32 - 1)]).chooseState 5 (((W.on.dev.calendarShow [(9000000, 2
  ^ 32 - 1)]).nextEvent 5 [(9000000, 2 ^ 32 - 1)]).map fun y => y - W.on.dev.ns))) = ((W.on).dev.calendarShow
  (([(9000000, 2 ^ 32 - 1)] : List (Nat × Nat)))).chooseState (5) ((((W.on).dev.calendarShow (([(9000000, 2 ^ 32 -
  1)] : List (Nat × Nat)))).nextEvent (5) (([(9000000, 2 ^ 32 - 1)] : List (Nat × Nat)))).map fun y => y -
  (W.on).dev.ns)) := wit_groupIdle

/-- The hypotheses of FaultsComplete: those of one clause; for every other clause wit_<its command> above shows a state and
operands that meet them. -/
theorem wit_faultsComplete : (((W.of fun d => (fun d => (d.setQueue 0 2
  { sqBase := 0x1000, cqBase := 0x2000, sqDepth := 8, cqDepth := 16 }).setQueue 64 0 networkAdmin) (d))).dev.pow.off
  = false) ∧ (((W.of fun d => (fun d => (d.setQueue 0 2
  { sqBase := 0x1000, cqBase := 0x2000, sqDepth := 8, cqDepth := 16 }).setQueue 64 0 networkAdmin)
  (d))).dev.pow.tripped = false) ∧ (((W.of fun d => (fun d => (d.setQueue 0 2
  { sqBase := 0x1000, cqBase := 0x2000, sqDepth := 8, cqDepth := 16 }).setQueue 64 0 networkAdmin)
  (d))).dev.brd.perst = false) ∧ (((W.of fun d => (fun d => (d.setQueue 0 2
  { sqBase := 0x1000, cqBase := 0x2000, sqDepth := 8, cqDepth := 16 }).setQueue 64 0 networkAdmin)
  (d))).dev.jnl.powerLoss = false) := wit_perstN

/-! ### Operands: one ill-formed term for each check of WellFormed, and each command at the top of its operands -/

theorem test_ill_formed_0 : ([
    .queueCreate 128 0 {}, .queueDelete 128 0 {}, .identify 128 0 {}, .logRead 128 0 {}, .featureSet 128 0 {},
    .featureGet 128 0 {}, .fwStage 128 0 {}, .fwActivate 128 0 {}, .partitionConfig 128 0 {},
    .partitionSetKey 128 0 {}, .partitionReset 128 0 {}, .resourceAssign 128 0 {}, .eventRingSet 128 0 {},
    .eventRingDelete 128 0 {}, .returnCapture 128 0 {}, .abort 128 0 {}, .flush 128 0 {}, .write 128 0 {},
    .read 128 0 {}, .frameRead 128 0 {}, .takeOpen 128 0 {}, .takeClose 128 0 {}, .takeErase 128 0 {},
    .quireSeal 128 0 {}, .lutLoad 128 0 {}, .lutInvalidate 128 0 {}, .ditherLoad 128 0 {}, .contextBind 128 0 {},
    .contextUnbind 128 0 {}, .tapArm 128 0 {}, .tapDisarm 128 0 {}, .renditionSet 128 0 {},
    .renditionDelete 128 0 {}, .encConfig 128 0 {}, .encPicture 128 0 {}, .encCollect 128 0 {},
    .encForceIrap 128 0 {}, .encEnd 128 0 {}, .encRelease 128 0 {}, .encLtr 128 0 {}] : List Instr).all (fun c => !c.wellFormed) = true := by decide

theorem test_ill_formed_1 : ([
    .encSinkRead 128 0 {}, .decConfig 128 0 {}, .decDecode 128 0 {}, .decDrain 128 0 {}, .decRelease 128 0 {},
    .frcCompress 128 0 {}, .frcExpand 128 0 {}, .assistReply 128 0 {}, .commandFetch 128 0 {},
    .commandFetch 0 65536 {}, .cqCoalesceTimeout 128 0, .cqCoalesceTimeout 0 65536, .sqTail 64 0 0 4,
    .sqTail 0 65536 0 4, .sqTail 0 0 65536 4, .cqHead 64 0 0 4, .cqHead 0 65536 0 4, .cqHead 0 0 65536 4,
    .evtHead 64 0 4, .evtHead 0 65536 4, .astHead 64 0 4, .astHead 0 65536 4, .registerWrite 64 0 0 0 4,
    .registerWrite 0 0 0 (2 ^ 32) 4, .registerWrite 0 256 0 0 4, .registerWrite 0 0 4096 0 4,
    .bar2Access 64 0 none 1, .bar2Access 0 (2 ^ 26) none 1, .bar2Access 0 0 none 0, .bar2Access 0 0 none 4097,
    .lowDwRead 64 0 0 4, .lowDwRead 0 256 0 4, .lowDwRead 0 0 4096 4, .rcRead 64 0 0 4, .rcRead 0 256 0 4,
    .rcRead 0 0 4096 4, .fenceRead 64 0, .fenceRead 0 256, .barrier 64, .pageCtrlEn 64 0 0] : List Instr).all (fun c => !c.wellFormed) = true := by decide

theorem test_ill_formed_2 : ([
    .pageCtrlEn 0 0 (2 ^ 32), .pageCtrlEn 0 256 0, .pageDrained 256, .softRst 64 0 0, .softRst 0 0 (2 ^ 32),
    .softRst 0 256 0, .pageCtrlMode 64 0 0, .pageCtrlMode 0 0 (2 ^ 32), .pageCtrlMode 0 256 0, .pageOwner 64 0 0,
    .pageOwner 0 0 (2 ^ 32), .pageOwner 0 0xF3 0, .intSet 64 0 0, .intSet 0 0 (2 ^ 32), .intSet 0 256 0,
    .rstCtrlDev 64 0, .rstCtrlDev 0 (2 ^ 32), .hbmRetire 64 0 0, .hbmRetire 0 0 (2 ^ 32), .hbmRetire 0 4 0,
    .grpCtrlEn 64 0 0, .grpCtrlEn 0 32 0, .grpCtrlEn 0 0 (2 ^ 32), .mapReset 64 0 0, .mapReset 0 32 0,
    .mapReset 0 0 (2 ^ 32), .vcmapWrite 64 0 0 0, .vcmapWrite 0 32 0 0, .vcmapWrite 0 0 16 0,
    .vcmapWrite 0 0 0 (2 ^ 32), .vcmapUnbind 64 0 0 0, .vcmapUnbind 0 32 0 0, .vcmapUnbind 0 0 16 0,
    .vcmapUnbind 0 0 0 (2 ^ 32), .loopback 64 0 0, .loopback 0 36 0, .loopback 0 0 (2 ^ 32), .farEndLoopback 64 0 0,
    .farEndLoopback 0 36 0, .farEndLoopback 0 0 (2 ^ 32)] : List Instr).all (fun c => !c.wellFormed) = true := by decide

theorem test_ill_formed_3 : ([
    .create 64 0 0, .create 0 0 (2 ^ 32), .create 0 8 0, .assemble 64 0 0, .assemble 0 0 (2 ^ 32), .assemble 0 8 0,
    .key 64 0 0, .key 0 0 (2 ^ 32), .key 0 8 0, .dspCommit 64 0 0, .dspCommit 0 0 (2 ^ 32), .dspCommit 0 16 0,
    .auxGo 64 0 0, .auxGo 0 0 (2 ^ 32), .auxGo 0 2 0, .flowEnable 64 0 0, .flowEnable 0 0 (2 ^ 32),
    .flowEnable 0 48 0, .incr 64 0 0, .incr 0 0 (2 ^ 32), .incr 0 2 0, .step 64 0, .step 0 (2 ^ 32), .arm 64 0,
    .arm 0 (2 ^ 32), .nowNsRead 64, .setGo 64 0 0, .setGo 0 0 (2 ^ 32), .setGo 0 2 0, .adjGo 64 0 0,
    .adjGo 0 0 (2 ^ 32), .adjGo 0 2 0, .rxPop 64 0 0, .rxPop 0 0 (2 ^ 32), .rxPop 0 2 0, .txGo 64 0 0,
    .txGo 0 0 (2 ^ 32), .txGo 0 2 0, .tsPop 64 0 0, .tsPop 0 0 (2 ^ 32)] : List Instr).all (fun c => !c.wellFormed) = true := by decide

theorem test_ill_formed_4 : ([
    .tsPop 0 2 0, .preset 64 0 0, .preset 0 0 (2 ^ 32), .preset 0 16 0, .zArm 64 0 0, .zArm 0 0 (2 ^ 32),
    .zArm 0 16 0, .cmpPairWrite 64 0 0 0, .cmpPairWrite 0 0 0 (2 ^ 32), .cmpPairWrite 0 32 0 0,
    .cmpPairWrite 0 0 3 0, .lock 64 0, .lock 0 (2 ^ 32), .xspCommit 64 0, .xspCommit 0 (2 ^ 32), .i2cTransfer 64 0 0,
    .i2cTransfer 0 0 (2 ^ 32), .i2cTransfer 0 2 0, .i2cTransferEnd 2 0 0 [], .i2cTransferEnd 0 4 0 [], .txData 64 0,
    .txData 0 (2 ^ 32), .rxData 64, .bootGo 64 0, .bootGo 0 (2 ^ 32), .grpMax 64 0 0, .grpMax 0 0 (2 ^ 32),
    .grpMax 0 4 0, .tjFail 64 0, .tjFail 0 (2 ^ 32), .hifEnable 64 0 0, .hifEnable 0 0 (2 ^ 32), .hifEnable 0 64 0,
    .signalDetect 32, .syncLock 36 false, .syncLoss 36, .gathering 32 [], .trainingTimeout 32, .backoffExpiry 32,
    .fhdr 32] : List Instr).all (fun c => !c.wellFormed) = true := by decide

theorem test_ill_formed_5 : ([
    .rows 32, .ftrl 32, .aux 32, .bindOffer 32, .bindDone 32, .status 32, .spareReady 32, .teEvent 32 {}, .ack 32,
    .ackTimeout 32, .dreq 32, .timeSync 32 0, .timeSync 0 (2 ^ 96), .laneSpareThresh 32, .spareReadyTimeout 32,
    .spareSwitch 32, .spareWait 32, .rowTimeout 256 0, .rowTimeout 0 (2 ^ 48), .frameTimeout 256 0,
    .frameTimeout 0 (2 ^ 48), .complete 256 0, .complete 0 (2 ^ 48), .admitResend 256, .admitStall 256,
    .mipiFrameStart 4 false, .mipiLongPacket 4 [] false false, .mipiEmbeddedData 4 [] false true,
    .mipiFrameEnd 4 false, .sectionPassStart 256 0, .sectionPassStart 0 (2 ^ 48), .respinPassStart 0 0 (some 4),
    .respinPassStart 256 0 (some 3), .respinPassStart 0 (2 ^ 48) (some 3), .sectionPassEnd 0 0 false (some 4),
    .sectionPassEnd 256 0 false (some 3), .sectionPassEnd 0 (2 ^ 48) false (some 3), .sealPoint 256 0,
    .sealPoint 0 (2 ^ 48), .releaseDeadline 256 0] : List Instr).all (fun c => !c.wellFormed) = true := by decide

theorem test_ill_formed_6 : ([
    .releaseDeadline 0 (2 ^ 48), .echoLimit 256 0, .mismatchResend 256, .calibrationApply 128 0,
    .assistDeadline 128 0, .assistDeadline 0 65536, .petalJobStart 256 0 0 false, .petalJobStart 0 (2 ^ 48) 0 false,
    .petalJobStart 0 0 48 false, .petalJobEnd 256 0 0 false, .petalJobEnd 0 (2 ^ 48) 0 false,
    .petalJobEnd 0 0 48 false, .frcCodingStart 4 0 0, .frcCodingStart 0 256 0, .frcCodingStart 0 0 (2 ^ 48),
    .frcCodingEnd 4 [] false, .stripeWrite 8 0, .stripeDurable 8 0, .magazineLinkUp 8 0 0 none 0,
    .magCommandTimeout 8 false, .magFailed 8 false, .magMediaError 8 0, .rebuildDone 8, .fltRebuild 8,
    .encPictureStart 256 0 0 0 0 {}, .encRowEnd 256 0 0 0 0 [], .encRowEnd 0 6 0 0 0 [],
    .encPictureCommit 256 0 [] {}, .decUnitStart 2 0 none [], .decUnitStart 0 64 none [], .decUnitEnd 64 [] [] {},
    .decWatchdog 2 0 0, .applyPoint 16 {}, .dspFrameStart 16 {}, .teInput 2, .teTimeout 16 {}, .dspUnderrun 16 0 0 0,
    .dspUnderrun 0 3 0 0, .hotPlug 2 false 0 0 false false, .hotPlug 0 false 5 0 false false] : List Instr).all (fun c => !c.wellFormed) = true := by decide

theorem test_ill_formed_7 : ([
    .hotPlug 0 false 0 3 false false, .feedLineSend 32, .functionLevelReset 64, .vfEnable 64, .openReq 2 0 [],
    .openProve 2 0 [], .challengeExpiry 65536, .rctCommand 2 [], .rctData 2 [], .rctAck 2 [], .rctClose 2 [],
    .rctRto 65536 0, .sessionTimeout 65536, .responseHoldExpiry 65536, .rctKeepalive 65536, .flowFrameStart 48,
    .ethernetLinkDown 2 0 0, .ethernetLinkDown 0 4 0, .shutdown 0 256, .pwrOkRise 4 false false false,
    .mgmtPairFailure 2, .sramError 0 0 0 false false [] (some (2, 0, 0)), .sramError 0 0 0xF3 false false [] none,
    .hbmEccError 4 0 false 0 0 0, .hbmEccError 0 0 false 7 0 0, .pllLossOfLock 4 0, .pllLossOfLock 0 8,
    .pllRelock 4 0, .pllRelock 0 8, .eventSummaryPost 128, .cadenceInstant 16, .tlsFrameInstant (2 ^ 96),
    .tlsHoldover 16, .ptpRx 2 0 [], .ptpRx 0 4 [], .ptpTxDone 2, .quadratureEdge 16 0 false false,
    .hallEdge 16 0 false false false, .ssiFrame 16 false 0, .indexEdge 16] : List Instr).all (fun c => !c.wellFormed) = true := by decide

theorem test_ill_formed_8 : ([
    .zeroSpeed 16, .positionSnapshot 16, .positionLatch 256 0 0, .positionLatch 0 (2 ^ 48) 0, .positionLatch 0 0 16,
    .synthStep 16, .groupIdle 32 [], .calendarEntryDue (32 + 1) [], .keepWake 8, .keepWake 3,
    .sensorSample (List.replicate 60 none), .throttleStep 32, .gpioEdge 16 false, .jtagInstruction 8,
    .backoffReset 32, .prbsLock 36 [], .prbsLockLoss 36 [], .mipiDtSkip 4 false, .mipiHeaderError 4,
    .frcJobStart 4 0 0, .frcJobStart 0 128 0, .frcJobEnd 4 [] false {}, .pixelRowEnd 256 0 0 {},
    .pixelRowEnd 0 6 0 {}, .auxTransactionEnd 2 0 [], .auxTransactionEnd 0 4 [], .cadenceEn 64 0 0,
    .cadenceEn 0 0 (2 ^ 32), .cadenceEn 0 16 0, .headCad 64 0 0 0, .headCad 0 0 0 (2 ^ 32), .headCad 0 256 0 0,
    .headCad 0 0 2 0, .pulseEnd 32, .perstNDeassert 4, .stackInterfaceLoss 4, .mirrorRestored 4,
    .spineParityError 4 false, .ethernetLinkUp 2 0, .ethernetLinkUp 0 4] : List Instr).all (fun c => !c.wellFormed) = true := by decide

theorem test_ill_formed_9 : ([
    .portInService 2, .powerStateEntryEnd (32 + 1), .powerStateExitEnd (32 + 1)] : List Instr).all (fun c => !c.wellFormed) = true := by decide

theorem test_well_formed_0 : ([
    .queueCreate 127 0 {}, .queueDelete 127 0 {}, .identify 127 0 {}, .logRead 127 0 {}, .featureSet 127 0 {},
    .featureGet 127 0 {}, .fwStage 127 0 {}, .fwActivate 127 0 {}, .partitionConfig 127 0 {},
    .partitionSetKey 127 0 {}, .partitionReset 127 0 {}, .resourceAssign 127 0 {}, .eventRingSet 127 0 {},
    .eventRingDelete 127 0 {}, .returnCapture 127 0 {}, .abort 127 0 {}, .flush 127 0 {}, .write 127 0 {},
    .read 127 0 {}, .frameRead 127 0 {}, .takeOpen 127 0 {}, .takeClose 127 0 {}, .takeErase 127 0 {},
    .quireSeal 127 0 {}, .lutLoad 127 0 {}, .lutInvalidate 127 0 {}, .ditherLoad 127 0 {}, .contextBind 127 0 {},
    .contextUnbind 127 0 {}, .tapArm 127 0 {}, .tapDisarm 127 0 {}, .renditionSet 127 0 {},
    .renditionDelete 127 0 {}, .encConfig 127 0 {}, .encPicture 127 0 {}, .encCollect 127 0 {},
    .encForceIrap 127 0 {}, .encEnd 127 0 {}, .encRelease 127 0 {}, .encLtr 127 0 {}] : List Instr).all Instr.wellFormed = true := by decide

theorem test_well_formed_1 : ([
    .encSinkRead 127 0 {}, .decConfig 127 0 {}, .decDecode 127 0 {}, .decDrain 127 0 {}, .decRelease 127 0 {},
    .frcCompress 127 0 {}, .frcExpand 127 0 {}, .assistReply 127 0 {}, .commandFetch 127 65535 {},
    .cqCoalesceTimeout 127 65535, .sqTail 63 65535 65535 4, .cqHead 63 65535 65535 4, .evtHead 63 65535 4,
    .astHead 63 65535 4, .registerWrite 63 255 4095 4294967295 4, .bar2Access 63 (2 ^ 26 - 4096) none 4096,
    .lowDwRead 63 255 4095 4, .rcRead 63 255 4095 4, .fenceRead 63 255, .barrier 63, .pageCtrlEn 63 255 4294967295,
    .pageDrained 255, .softRst 63 255 4294967295, .pageCtrlMode 63 255 4294967295, .pageOwner 63 242 4294967295,
    .intSet 63 255 4294967295, .rstCtrlDev 63 4294967295, .hbmRetire 63 3 4294967295, .grpCtrlEn 63 31 4294967295,
    .mapReset 63 31 4294967295, .vcmapWrite 63 31 15 4294967295, .vcmapUnbind 63 31 15 4294967295,
    .loopback 63 35 4294967295, .farEndLoopback 63 35 4294967295, .create 63 7 4294967295, .assemble 63 7 4294967295,
    .key 63 7 4294967295, .dspCommit 63 15 4294967295, .auxGo 63 1 4294967295, .flowEnable 63 47 4294967295] : List Instr).all Instr.wellFormed = true := by decide

theorem test_well_formed_2 : ([
    .incr 63 1 4294967295, .step 63 4294967295, .arm 63 4294967295, .nowNsRead 63, .setGo 63 1 4294967295,
    .adjGo 63 1 4294967295, .rxPop 63 1 4294967295, .txGo 63 1 4294967295, .tsPop 63 1 4294967295,
    .preset 63 15 4294967295, .zArm 63 15 4294967295, .cmpPairWrite 63 31 2 4294967295, .lock 63 4294967295,
    .xspCommit 63 4294967295, .i2cTransfer 63 1 4294967295, .i2cTransferEnd 1 3 0 [], .txData 63 4294967295,
    .rxData 63, .uartReceive 0 false, .bootGo 63 4294967295, .grpMax 63 3 4294967295, .tjFail 63 4294967295,
    .hifEnable 63 63 4294967295, .signalDetect 31, .syncLock 35 false, .syncLoss 35, .gathering 31 [],
    .trainingTimeout 31, .backoffExpiry 31, .fhdr 31, .rows 31, .ftrl 31, .aux 31, .bindOffer 31, .bindDone 31,
    .status 31, .spareReady 31, .teEvent 31 {}, .ack 31, .ackTimeout 31] : List Instr).all Instr.wellFormed = true := by decide

theorem test_well_formed_3 : ([
    .dreq 31, .timeSync 31 79228162514264337593543950335, .laneSpareThresh 31, .spareReadyTimeout 31,
    .spareSwitch 31, .spareWait 31, .rowTimeout 255 281474976710655, .frameTimeout 255 281474976710655,
    .complete 255 281474976710655, .admitResend 255, .admitStall 255, .mipiFrameStart 3 false,
    .mipiLongPacket 3 [] false false, .mipiEmbeddedData 3 [] false true, .mipiFrameEnd 3 false,
    .sectionPassStart 255 281474976710655, .respinPassStart 255 281474976710655 (some 3),
    .sectionPassEnd 255 281474976710655 false (some 3), .sealPoint 255 281474976710655,
    .releaseDeadline 255 281474976710655, .echoLimit 255 0, .mismatchResend 255, .calibrationApply 127 0,
    .assistDeadline 127 65535, .petalJobStart 255 281474976710655 47 false,
    .petalJobEnd 255 281474976710655 47 false, .frcCodingStart 3 255 281474976710655, .frcCodingEnd 3 [] false,
    .stripeWrite 7 0, .stripeDurable 7 0, .magazineLinkUp 7 0 0 none 0, .magCommandTimeout 7 false,
    .magFailed 7 false, .magMediaError 7 0, .rebuildDone 7, .fltRebuild 7, .encPictureStart 255 0 0 0 0 {},
    .encRowEnd 255 5 0 0 0 [], .encPictureCommit 255 0 [] {}, .decUnitStart 1 63 none []] : List Instr).all Instr.wellFormed = true := by decide

theorem test_well_formed_4 : ([
    .decUnitEnd 63 [] [] {}, .decWatchdog 1 0 0, .applyPoint 15 {}, .dspFrameStart 15 {}, .teInput 1,
    .teTimeout 15 {}, .dspUnderrun 15 2 0 0, .hotPlug 1 false 4 2 false false, .feedLineSend 31,
    .functionLevelReset 63, .vfEnable 63, .openReq 1 0 [], .openProve 1 0 [], .challengeExpiry 65535,
    .rctCommand 1 [], .rctData 1 [], .rctAck 1 [], .rctClose 1 [], .rctRto 65535 0, .sessionTimeout 65535,
    .responseHoldExpiry 65535, .rctKeepalive 65535, .flowFrameStart 47, .ethernetLinkDown 1 3 0, .shutdown 0 255,
    .pwrOkRise 3 false false false, .bootSourceTry false {}, .avsRetry 0 false, .mgmtPairFailure 1,
    .sramError 0 0 242 false false [] none, .hbmEccError 3 0 false 6 0 0, .mramUncorr none, .pllLossOfLock 3 7,
    .pllRelock 3 7, .eventSummaryPost 127, .cadenceInstant 15, .tlsFrameInstant 79228162514264337593543950335,
    .tlsHoldover 15, .ptpRx 1 3 [], .ptpTxDone 1] : List Instr).all Instr.wellFormed = true := by decide

theorem test_well_formed_5 : ([
    .quadratureEdge 15 0 false false, .hallEdge 15 0 false false false, .ssiFrame 15 false 0, .indexEdge 15,
    .zeroSpeed 15, .positionSnapshot 15, .positionLatch 255 281474976710655 15, .synthStep 15, .groupIdle 31 [],
    .calendarEntryDue 32 [], .keepEntry [], .keepWake 7, .sensorSample (List.replicate 61 none), .throttleStep 31,
    .gpioEdge 15 false, .jtagInstruction 7, .backoffReset 31, .prbsLock 35 [], .prbsLockLoss 35 [],
    .mipiDtSkip 3 false, .mipiHeaderError 3, .dataTransferEnd 0 0 {} 0, .frcJobStart 3 127 0,
    .frcJobEnd 3 [] false {}, .pixelRowEnd 255 5 0 {}, .auxTransactionEnd 1 3 [], .cadenceEn 63 15 4294967295,
    .headCad 63 255 1 4294967295, .pulseEnd 31, .perstNDeassert 3, .stackInterfaceLoss 3, .mirrorRestored 3,
    .spineParityError 3 false, .ethernetLinkUp 1 3, .portInService 1, .avsCommand 0 false, .powerStateEntryEnd 32,
    .powerStateExitEnd 32, .armedExpiry, .perstN] : List Instr).all Instr.wellFormed = true := by decide

theorem test_well_formed_6 : ([
    .pcieHotReset, .pwrfailN, .pwrOkFall, .brownOut, .hostWaitTimeout, .bootBackoff, .standbyReady, .handover,
    .handoverTimeout, .ppsOut, .ppsIn, .shedStep, .ppsOutFall, .pwrfailNDeassert, .uartCharacterSent,
    .syslogSendTimeout, .standbyRestart] : List Instr).all Instr.wellFormed = true := by decide

/-- An ill-formed command leaves the machine as it is. -/
theorem test_ill_formed_nothing : exec (.barrier 64) W.on = .next W.on ∧ exec (.perstNDeassert 4) W.on = .next W.on ∧
    exec (.applyPoint 16) { dev := { pow := { off := true } } } = .next { dev := { pow := { off := true } } } := ⟨rfl, rfl, rfl⟩

end Sys2Proof.Tests
end

/-! PROOFS. Stopped: which commands a device without clocks, and one in its power-loss sequence, ignores. -/

namespace Sys2Proof.Proofs

open Machine Laws

/-- A stopped device does nothing, whether or not the operands name an object of the part (log 8). -/
theorem runCmd_of_stopped (ok : Bool) (f : Dev → Dev) {s : State} (h : s.dev.stopped = true) :
    runCmd ok f s = .next s := by
  cases ok with
  | false => exact runAlways_ill f s
  | true => exact runCmd_stopped f s h

/-- A command of a block that the power-loss sequence stops needs clocks too. -/
theorem runQuiet_of_stopped (ok : Bool) (f : Dev → Dev) {s : State} (h : s.dev.stopped = true) :
    runQuiet ok f s = .next s :=
  runCmd_of_stopped ok _ h

/-- The power-loss sequence stops these commands, whether or not the operands name an object of the part (log 8). -/
theorem runQuiet_of_powerLoss (ok : Bool) (f : Dev → Dev) {s : State} (h : s.dev.jnl.powerLoss = true) :
    runQuiet ok f s = .next s := by
  cases ok with
  | false => exact runAlways_ill f s
  | true => exact runQuiet_powerLoss f s h

/-- R27, R338, R396, R402: what runs without clocks is `Instr.always` alone. -/
theorem exec_of_stopped (c : Instr) {s : State} (hs : s.dev.stopped = true) (hc : c.always = false) :
    exec c s = .next s := by
  rcases exec_runs c with ⟨halways, -⟩ | ⟨-, -, f, hf⟩ | ⟨-, -, f, hf⟩
  · simp [halways] at hc
  · rw [hf, runCmd_of_stopped _ f hs]
  · rw [hf, runQuiet_of_stopped _ f hs]

/-- R338, step 2: what the power-loss sequence stops is `Instr.quiet`. -/
theorem exec_of_powerLoss (c : Instr) {s : State} (hs : s.dev.jnl.powerLoss = true) (hc : c.quiet = true) :
    exec c s = .next s := by
  rcases exec_runs c with ⟨-, hquiet, -⟩ | ⟨-, hquiet, -⟩ | ⟨-, -, f, hf⟩
  · simp [hquiet] at hc
  · simp [hquiet] at hc
  · rw [hf, runQuiet_of_powerLoss _ f hs]

/-- Settles O53: every meaning runs under one of three conditions, and the stop of the clocks, and the power-loss
sequence, each close the conditions of the commands in question. -/
theorem stoppedIgnores : Obligations.StoppedIgnores := by
  unfold Obligations.StoppedIgnores
  exact ⟨fun c _ hs hc => exec_of_stopped c hs hc, fun c _ hs hc => exec_of_powerLoss c hs hc⟩

end Sys2Proof.Proofs

/-! PROOFS. Answers: what a command answers, whatever its operands and the state. -/

namespace Sys2Proof.Proofs

open Machine Laws

/-- Each of the three conditions of Run is a `runAlways`, so a command changes at most the device. -/
theorem exec_changes_dev (c : Instr) (s : State) : ∃ d, exec c s = .next (s.withDev d) := by
  rcases exec_runs c with ⟨-, -, f, hf⟩ | ⟨-, -, f, hf⟩ | ⟨-, -, f, hf⟩
  · rw [hf]; exact runAlways_cases _ _ s
  · rw [hf]; exact runAlways_cases _ _ s
  · rw [hf, runQuiet]; exact runAlways_cases _ _ s

/-- Log 8: operands that name no object of the part reach nothing, under each of the three conditions. -/
theorem exec_of_illFormed (c : Instr) (s : State) (h : c.wellFormed = false) : exec c s = .next s := by
  rcases exec_runs c with ⟨-, -, f, hf⟩ | ⟨-, -, f, hf⟩ | ⟨-, -, f, hf⟩
  · rw [hf, h]; exact runAlways_ill f s
  · rw [hf, h]; exact runAlways_ill _ s
  · rw [hf, h, runQuiet]; exact runAlways_ill _ s

/-- Settles O51: `exec` never faults, because every meaning is a change of the device under one of three conditions. -/
theorem everyCommandAnswers : Obligations.EveryCommandAnswers := by
  unfold Obligations.EveryCommandAnswers
  refine ⟨fun c s => ?_, exec_of_illFormed⟩
  obtain ⟨d, hd⟩ := exec_changes_dev c s
  exact ⟨s.withDev d, hd, withDev_pending s d⟩

end Sys2Proof.Proofs

/-! PROOFS. Headers: what reaches the header registers of pages (R36, R40, R41). -/

namespace Sys2Proof.Proofs

open Machine Laws

/-! ### Where header fields lie -/

/-- A header field has one element, in one of the DWs below 0x100. -/
theorem header_place {F : Fld} (h : F ∈ Reg.HDR.all) : F.off < 0x100 ∧ F.lo < 32 ∧ F.cnt = 1 ∧ F.cnt2 = 1 := by
  have k : ∀ G ∈ Reg.HDR.all, G.off < 0x100 ∧ G.lo < 32 ∧ G.cnt = 1 ∧ G.cnt2 = 1 := by decide
  exact k F h

/-- The fields of a page's block lie behind its header (R31). -/
theorem block_off (pg : Page) (F : Fld) (h : F ∈ Pg.block pg) : 0x100 ≤ F.off := by
  have k : ∀ l : List Fld, l.all (fun G => decide (0x100 ≤ G.off)) = true → F ∈ l → 0x100 ≤ F.off :=
    fun l a m => of_decide_eq_true (List.all_eq_true.mp a F m)
  unfold Pg.block at h
  split at h
  case h_11 => split at h <;> exact k _ (by decide) h
  case h_42 => split at h <;> exact k _ (by decide) h
  all_goals exact k _ (by decide) h

/-- A header register of a page holds header fields alone. -/
theorem inDw_header (pg : Page) {o : Nat} (h : o < 0x100) :
    Pg.inDw pg o = Reg.HDR.all.filterMap fun F => (F.elem o).map fun e => (F, e) := by
  have none_of_block : (Pg.block pg).filterMap (fun F => (F.elem o).map fun e => (F, e)) = [] := by
    refine List.filterMap_eq_nil_iff.mpr fun F hF => ?_
    have hlt : o < F.off := Nat.lt_of_lt_of_le h (block_off pg F hF)
    simp [Fld.elem, hlt]
  rw [Pg.inDw, Pg.fields, List.filterMap_append, none_of_block, List.append_nil]

/-- The key of a header field. -/
theorem regKey_header {F : Fld} (h : F ∈ Reg.HDR.all) (pg : Page) (i j : Nat) :
    regKey pg F i j = (pg * 1024 + F.off / 4) * 32 + F.lo := by
  obtain ⟨-, -, hc, hc2⟩ := header_place h
  simp [regKey, Fld.at, hc, hc2, Nat.mod_one]

/-- Header fields and block fields have different keys. -/
theorem regKey_header_ne_block {F G : Fld} (pg pg' : Page) (i j i' j' : Nat) (hF : F ∈ Reg.HDR.all) (hG : fits G = true)
    (ho : 0x100 ≤ G.off) : regKey pg F i j ≠ regKey pg' G i' j' := by
  obtain ⟨hoff, hlo, -⟩ := header_place hF
  have hat := at_lt hG i' j'
  have hge : G.off ≤ G.at (i' % G.cnt) (j' % G.cnt2) := Nat.le_trans (Nat.le_add_right _ _) (Nat.le_add_right _ _)
  have hlo' : G.lo < 32 := by
    simp only [fits, Bool.and_eq_true, decide_eq_true_eq] at hG
    exact hG.1.1.1
  rw [regKey_header hF, regKey]
  omega

/-- A write to a block field, of any page, leaves the header fields of every page alone. -/
theorem rd_wr_block (d : Dev) {pg pg' : Page} {F G : Fld} (v i j i' j' : Nat) (hF : F ∈ Reg.HDR.all) (hG : fits G = true)
    (ho : 0x100 ≤ G.off) : (d.wr pg' G v i' j').rd pg F i j = d.rd pg F i j :=
  rd_wr_ne d v (regKey_header_ne_block pg pg' i j i' j' hF hG ho)

/-- A write to one header field leaves the others of the page alone. -/
theorem rd_wr_header (d : Dev) (pg : Page) {F G : Fld} (v : Nat) (hF : F ∈ Reg.HDR.all) (hG : G ∈ Reg.HDR.all)
    (h : F.off / 4 ≠ G.off / 4 ∨ F.lo ≠ G.lo) : (d.wr pg G v).rd pg F = d.rd pg F := by
  refine rd_wr_ne d v ?_
  obtain ⟨-, hlo, -⟩ := header_place hF
  obtain ⟨-, hlo', -⟩ := header_place hG
  rw [regKey_header hF, regKey_header hG]
  omega

/-! ### Page interrupts leave headers alone -/

/-- Every header field of every page reads as before. -/
def HeadersKept (d t : Dev) : Prop := ∀ pg F, F ∈ Reg.HDR.all → ∀ i j, t.rd pg F i j = d.rd pg F i j

theorem HeadersKept.of_regs {d t : Dev} (h : t.regs = d.regs) : HeadersKept d t := fun pg F _ i j => by
  simp only [Dev.rd, h]

theorem HeadersKept.refl (d : Dev) : HeadersKept d d := .of_regs rfl

theorem HeadersKept.trans {d t u : Dev} (h : HeadersKept d t) (k : HeadersKept t u) : HeadersKept d u :=
  fun pg F hF i j => (k pg F hF i j).trans (h pg F hF i j)

theorem bump_keepsHeaders (d : Dev) (pg : Page) {G : Fld} (i n : Nat) (hG : fits G = true) (ho : 0x100 ≤ G.off) :
    HeadersKept d (d.bump pg G i n) := fun _ _ hF _ _ => rd_wr_block d _ _ _ _ _ hF hG ho

theorem msix_regs (d : Dev) (f v : Nat) : (d.msix f v).regs = d.regs := by
  unfold Dev.msix
  split <;> rfl

theorem hostWrite_regs (d : Dev) (p : PartId) (a : Nat) (l : List Byte) : (d.hostWrite p a l).regs = d.regs := by
  obtain ⟨m, e⟩ := hostWrite_only p l d a
  rw [e]

theorem rctSend_regs (d : Dev) (i ty : Nat) (l : List Byte) (o : Option Orphan) : (d.rctSend i ty l o).regs = d.regs := by
  unfold Dev.rctSend
  dsimp only
  split
  · rfl
  · split
    · split <;> rfl
    · split
      · rfl
      · split <;> rfl

theorem ringPut_regs (d : Dev) (p : PartId) (r : Ring) (n k : Nat) (rec : Bool → List Byte) :
    (d.ringPut p r n k rec).1.regs = d.regs := by
  unfold Dev.ringPut
  dsimp only
  by_cases hp : p < 64
  · rw [if_pos hp]
    split <;> split <;> simp only [msix_regs, hostWrite_regs]
  · rw [if_neg hp]
    dsimp only
    split
    · rfl
    · exact rctSend_regs _ _ _ _ _

/-- An INFO event is posted or coalesced: of the registers it reaches COALESCE_CNT alone. -/
theorem postInfo_keepsHeaders (d : Dev) (p : PartId) (e : Event) (h : e.cls = INFO) : HeadersKept d (d.postEvent p e) := by
  have counted : ∀ g, HeadersKept d ((d.bump Pg.EVT Reg.EVT.COALESCE_CNT p).updPart p g) := fun g =>
    (bump_keepsHeaders d _ p 1 (by decide) (by decide)).trans (.of_regs rfl)
  have not_trace : ¬ e.cls = 4 := by rw [h]; decide
  have coalesced : 2 ≤ e.cls := by rw [h]; decide
  unfold Dev.postEvent
  simp only [if_neg not_trace, if_pos coalesced]
  refine iteInduction (motive := HeadersKept d) (fun _ => .refl d) fun _ => ?_
  split
  · exact .of_regs (ringPut_regs _ _ _ _ _ _)
  · exact counted _

theorem mirror_regs (d : Dev) (e : Event) : (d.mirror e).regs = d.regs := by
  unfold Dev.mirror
  dsimp only
  split
  · rfl
  · split <;> rfl

theorem lossInterrupt_keepsHeaders (d : Dev) : HeadersKept d d.lossInterrupt := by
  unfold Dev.lossInterrupt
  dsimp only
  have hmsix : HeadersKept d (d.msix (d.rd Pg.EVT Reg.HDR.PART) (d.rd Pg.EVT Reg.HDR.VECTOR)) := .of_regs (msix_regs _ _ _)
  split
  · exact hmsix.trans ((postInfo_keepsHeaders _ _ _ rfl).trans (.of_regs (mirror_regs _ _)))
  · exact hmsix

theorem infoEvent_keepsHeaders (d : Dev) (p : PartId) (pg : Page) (c : Nat) (l : List Byte) (n : Nat) :
    HeadersKept d (d.event p pg INFO c l n) := by
  unfold Dev.event
  dsimp only
  have drawn : ∀ x : Dev × List Byte, x.1.regs = d.regs → ∀ e : Event, e.cls = INFO →
      HeadersKept d ((x.1.postEvent p e).mirror e) := fun x hx e he =>
    (HeadersKept.of_regs hx).trans ((postInfo_keepsHeaders x.1 p e he).trans (.of_regs (mirror_regs _ _)))
  have hx : (if l = [] then (d.freeStep.freeStep, leBytes 8 (d.freeNow 64) ++ leBytes 8 (d.freeStep.freeNow 64))
      else (d, l)).1.regs = d.regs := by
    split <;> rfl
  revert hx
  generalize (if l = [] then (d.freeStep.freeStep, leBytes 8 (d.freeNow 64) ++ leBytes 8 (d.freeStep.freeNow 64))
      else (d, l)) = x
  intro hx
  rw [if_neg (show ¬ INFO ≤ 1 by decide), if_neg (show ¬ (INFO = 0 ∧ p ≠ 0) from fun h => absurd h.1 (by decide))]
  split
  · exact (drawn x hx _ rfl).trans (lossInterrupt_keepsHeaders _)
  · exact drawn x hx _ rfl

theorem interrupt_keepsHeaders (d : Dev) (pg : Page) : HeadersKept d (d.interrupt pg) := by
  unfold Dev.interrupt
  dsimp only
  split
  · exact (HeadersKept.of_regs (msix_regs _ _ _)).trans (infoEvent_keepsHeaders _ _ _ _ _ _)
  · exact .of_regs (msix_regs _ _ _)

/-- A watched change leaves in the headers what the change alone leaves there. -/
theorem rd_watch (d : Dev) (pg : Page) (k : Dev → Dev) (pg' : Page) {F : Fld} (hF : F ∈ Reg.HDR.all) :
    (d.watch pg k).rd pg' F = (k d).rd pg' F := by
  unfold Dev.watch
  dsimp only
  split
  · exact interrupt_keepsHeaders _ pg pg' F hF 0 0
  · rfl

/-! ### Errors -/

/-- What an error writes while a capture is held (R40). -/
theorem error_held (d : Dev) (pg b : Nat) (h : d.rd pg Reg.HDR.ERR_STAT ≠ 0 ∨ d.rd pg Reg.HDR.OVF ≠ 0) :
    d.error pg b = d.watch pg fun d => (d.wr pg Reg.HDR.ERR_STAT (d.rd pg Reg.HDR.ERR_STAT ||| 2 ^ b)).wr pg Reg.HDR.OVF 1 := by
  have hnot : ¬ (d.rd pg Reg.HDR.ERR_STAT = 0 ∧ d.rd pg Reg.HDR.OVF = 0) := fun k => h.elim (· k.1) (· k.2)
  simp only [Dev.error, Dev.watch, if_neg hnot]

/-- The first error after ERR_STAT was all zero: its bit stands alone, and it is captured. -/
theorem error_first (d : Dev) (pg b : Nat) (hb : b < 31) (hs : d.rd pg Reg.HDR.ERR_STAT = 0) (ho : d.rd pg Reg.HDR.OVF = 0) :
    (d.error pg b).rd pg Reg.HDR.ERR_STAT = 2 ^ b ∧ (d.error pg b).rd pg Reg.HDR.OVF = 0 ∧
      (d.error pg b).rd pg Reg.HDR.ERR_BIT = b := by
  have hpow : 2 ^ b % 2 ^ 31 = 2 ^ b := Nat.mod_eq_of_lt (Nat.pow_lt_pow_right (by decide) hb)
  have hbyte : b % 2 ^ 8 = b := Nat.mod_eq_of_lt (Nat.lt_trans hb (by decide))
  unfold Dev.error
  simp (disch := decide) only [rd_watch, hs, ho, and_self, if_true, freeStep_rd, rd_wr_header, rd_wr_same, Nat.zero_or]
  exact ⟨hpow, trivial, hbyte⟩

/-- A later error sets its bit and OVF and leaves the capture. -/
theorem error_later (d : Dev) (pg b : Nat) (h : d.rd pg Reg.HDR.ERR_STAT ≠ 0 ∨ d.rd pg Reg.HDR.OVF ≠ 0) :
    (d.error pg b).rd pg Reg.HDR.ERR_STAT = (d.rd pg Reg.HDR.ERR_STAT ||| 2 ^ b) % 2 ^ 31 ∧
      (d.error pg b).rd pg Reg.HDR.OVF = 1 ∧
      (d.error pg b).rd pg Reg.HDR.ERR_CODE = d.rd pg Reg.HDR.ERR_CODE ∧
      (d.error pg b).rd pg Reg.HDR.ERR_BIT = d.rd pg Reg.HDR.ERR_BIT ∧
      (d.error pg b).rd pg Reg.HDR.ERR_DETAIL = d.rd pg Reg.HDR.ERR_DETAIL := by
  have hnot : ¬ (d.rd pg Reg.HDR.ERR_STAT = 0 ∧ d.rd pg Reg.HDR.OVF = 0) := fun k => h.elim (· k.1) (· k.2)
  unfold Dev.error
  simp (disch := decide) only [rd_watch, if_neg hnot, rd_wr_header, rd_wr_same, and_true]
  exact ⟨rfl, rfl⟩

/-! ### A write of ERR_STAT -/

/-- ERR_STAT has no row of its own. -/
theorem ownRow_errStat (pg : Page) : ownRow pg 0x028 = false := by
  unfold ownRow
  dsimp only
  split <;> simp [Reg.SCU.LOCK]

/-- A write of ERR_STAT on a page other than a stripe set's goes field by field, and may signal (R40, R41). -/
theorem registerWrite_errStat (s : State) {f pg v : Nat} (hf : f < 64) (hpg : pg < 256) (hv : v < 2 ^ 32)
    (hstr : (Pg.family pg).1 ≠ 0x53) (h : Taken s.dev f pg 0x028 = true) :
    exec (.registerWrite f pg 0x028 v) s = .next (s.withDev (s.dev.watch pg fun d => d.plainWrite f pg 0x028 v)) := by
  have hok : Instr.wellFormed (.registerWrite f pg 0x028 v) = true := by
    have hv : v < 4294967296 := hv
    simp [Instr.wellFormed, hf, hpg, hv]
  have hcases : s.dev.regWrite f pg 0x028 v = s.dev.watch pg fun d => d.plainWrite f pg 0x028 v := by
    simp [Dev.regWrite, ownRow_errStat, hstr, checkedWrite_taken _ _ _ _ _ h]
  simp only [exec, execRegisterWrite, hok]
  rw [runCmd_ok _ _ (taken_runs h)]
  simp only [Dev.sized, if_true, hcases]

/-- ERR_STAT and OVF are the fields of their DW. -/
theorem inDw_errStat (pg : Page) : Pg.inDw pg 0x028 = [(Reg.HDR.ERR_STAT, 0, 0), (Reg.HDR.OVF, 0, 0)] := by
  rw [inDw_header pg (by decide)]
  decide

/-- A write clears the bits of a w1c header field at which it holds a 1. -/
theorem writeField_w1c (d : Dev) (pg : Page) {F : Fld} (v : Nat) (hF : F ∈ [Reg.HDR.ERR_STAT, Reg.HDR.OVF]) :
    d.writeField pg F 0 0 v = d.wr pg F (d.rd pg F - (d.rd pg F &&& v)) := by
  have hF : F = Reg.HDR.ERR_STAT ∨ F = Reg.HDR.OVF := by simpa using hF
  rcases hF with rfl | rfl <;>
    simp [Dev.writeField, Dev.takesWrite, adjustWrite, Reg.HDR.ERR_STAT, Reg.HDR.OVF, Reg.HDR.PART, Reg.I2C.SPEED,
      Reg.HLL.ACK_TIMEOUT, Reg.HLL.LANE_SPARE_THRESH, Reg.DSP.ROUTE_KIND, Reg.DSP.ROUTE_IDX, Reg.MIP.CAPTURE_NEXT_LO, Reg.MIP.CAPTURE_NEXT_HI]

/-- The bits of `r` without those of `m`, within `n` bits. -/
theorem sub_and_mod_two_pow (r m n : Nat) : (r - (r &&& m)) % 2 ^ n = r &&& (2 ^ n - 1 - m % 2 ^ n) := by
  have hsplit : ∀ x y : BitVec n, x - (x &&& y) = x &&& ~~~y := fun x y => by
    have hdisjoint : (x &&& y) &&& (x &&& ~~~y) = 0#n := by ext i hi; simp; grind
    have hsum : (x &&& y) + (x &&& ~~~y) = x := by
      rw [BitVec.add_eq_or_of_and_eq_zero _ _ hdisjoint]; ext i hi; simp; grind
    rw [BitVec.sub_eq_iff_eq_add, BitVec.add_comm, hsum]
  have hsub : BitVec.ofNat n (r - (r &&& m)) = BitVec.ofNat n r - (BitVec.ofNat n r &&& BitVec.ofNat n m) := by
    rw [BitVec.eq_sub_iff_add_eq, ← BitVec.ofNat_and, ← BitVec.ofNat_add, Nat.sub_add_cancel Nat.and_le_left]
  have hlt : 2 ^ n - 1 - m % 2 ^ n < 2 ^ n := by have := Nat.two_pow_pos n; omega
  have hval := congrArg BitVec.toNat (hsub.trans (hsplit _ _))
  simp only [BitVec.toNat_and, BitVec.toNat_not, BitVec.toNat_ofNat] at hval
  rw [hval, ← Nat.mod_eq_of_lt (Nat.and_lt_two_pow r hlt), Nat.and_mod_two_pow, Nat.mod_eq_of_lt hlt]

/-- A write of ERR_STAT clears the error bits named and leaves the capture (R40; log 127). -/
theorem plainWrite_errStat (d : Dev) (f pg v : Nat) :
    (d.plainWrite f pg 0x028 v).rd pg Reg.HDR.ERR_STAT = d.rd pg Reg.HDR.ERR_STAT &&& (2 ^ 31 - 1 - v % 2 ^ 31) ∧
      (d.plainWrite f pg 0x028 v).rd pg Reg.HDR.ERR_CODE = d.rd pg Reg.HDR.ERR_CODE ∧
      (d.plainWrite f pg 0x028 v).rd pg Reg.HDR.ERR_BIT = d.rd pg Reg.HDR.ERR_BIT ∧
      (d.plainWrite f pg 0x028 v).rd pg Reg.HDR.ERR_DETAIL = d.rd pg Reg.HDR.ERR_DETAIL := by
  have hfields : d.plainWrite f pg 0x028 v =
      (d.writeField pg Reg.HDR.ERR_STAT 0 0 (bits v 0 31)).writeField pg Reg.HDR.OVF 0 0 (bits v 31 1) := by
    simp [Dev.plainWrite, inDw_errStat, Reg.HDR.ERR_STAT, Reg.HDR.OVF]
  rw [hfields, writeField_w1c _ _ _ (by decide), writeField_w1c _ _ _ (by decide)]
  simp (disch := decide) only [rd_wr_header, rd_wr_same, and_true]
  have hbits : bits v 0 31 % 2 ^ 31 = v % 2 ^ 31 := by simp [bits]
  rw [← hbits]
  exact sub_and_mod_two_pow _ _ 31

/-- Settles O58: the interrupt that an error or a write may signal posts an INFO event, which reaches no header field; what
is left is the error's own writes. -/
theorem errorCapture : Obligations.ErrorCapture := by
  unfold Obligations.ErrorCapture
  refine ⟨error_first, fun d pg b _ h => error_later d pg b h, fun s f pg v hf hpg hv hstr h => ?_⟩
  refine ⟨_, registerWrite_errStat s hf hpg hv hstr h, ?_⟩
  simp (disch := decide) only [withDev_dev, rd_watch]
  exact plainWrite_errStat s.dev f pg v

end Sys2Proof.Proofs

/-! PROOFS. Commands: what completing, holding and moving an accepted command changes (R308 to R310, R320, R330). -/

namespace Sys2Proof.Proofs

open Machine Laws

/-! ### Frames of the host's part -/

/-- `t` is `d` but for the host's part, what a host view brings, and what reports reach. -/
def HostFramed (d t : Dev) : Prop :=
  Framed [] { d with hst := t.hst, hostFails := t.hostFails, vectorsOff := t.vectorsOff } t

theorem HostFramed.trans {d t u : Dev} (h : HostFramed d t) (k : HostFramed t u) : HostFramed d u := by
  refine ⟨?_, k.2.trans h.2⟩
  have a := h.1
  have b := k.1
  rw [← a] at b
  exact b

theorem HostFramed.pip {d t : Dev} (h : HostFramed d t) : t.pip = d.pip := (congrArg Dev.pip h.1).symm

theorem HostFramed.of_framed {d t : Dev} (h : Framed [] d t) : HostFramed d t := by
  obtain ⟨a, b⟩ := h
  refine ⟨?_, b⟩
  rw [← a]; rfl

/-- `t` is framed, and holds the accepted commands that `d` holds. -/
def CmdsKept (d t : Dev) : Prop := HostFramed d t ∧ t.hst.cmds = d.hst.cmds

theorem CmdsKept.of_framed {d t : Dev} (h : Framed [] d t) : CmdsKept d t :=
  ⟨.of_framed h, (congrArg (fun x : Dev => x.hst.cmds) h.1).symm⟩

theorem CmdsKept.refl (d : Dev) : CmdsKept d d := .of_framed (frame_refl _ d)

theorem CmdsKept.trans {d t u : Dev} (h : CmdsKept d t) (k : CmdsKept t u) : CmdsKept d u :=
  ⟨h.1.trans k.1, k.2.trans h.2⟩

theorem CmdsKept.cmd? {d t : Dev} (h : CmdsKept d t) (p asn : Nat) : t.cmd? p asn = d.cmd? p asn := by
  simp only [Dev.cmd?, h.2]

theorem see_cmdsKept (d : Dev) (hv : HostView) : CmdsKept d (d.see hv) := by
  obtain ⟨m, e⟩ := see_only d hv
  rw [e]
  exact ⟨⟨rfl, rfl⟩, rfl⟩

theorem setQueue_cmdsKept (d : Dev) (p q : Nat) (x : Queue) : CmdsKept d (d.setQueue p q x) := ⟨⟨rfl, rfl⟩, rfl⟩

theorem msix_cmdsKept (d : Dev) (f v : Nat) : CmdsKept d (d.msix f v) := .of_framed (msix_frame _ _ _ _)

theorem journal_cmdsKept (d : Dev) (p asn : Nat) (b : Body) : CmdsKept d (d.journal p asn b) :=
  .of_framed (journal_frame _ _ _ _ _)

theorem reclaim_cmdsKept (d : Dev) (p asn : Nat) : CmdsKept d (d.reclaim p asn) := .of_framed (reclaim_frame _ _ _ _)

theorem rctSend_cmdsKept (d : Dev) (i ty : Nat) (l : List Byte) (o : Option Orphan) : CmdsKept d (d.rctSend i ty l o) :=
  .of_framed (rctSend_frame _ _ _ _ _ _)

theorem posted_cmdsKept (d : Dev) (p asn : Nat) : CmdsKept d ((d.journal p asn .posted).reclaim p asn) :=
  (journal_cmdsKept _ _ _ _).trans (reclaim_cmdsKept _ _ _)

/-! ### Completions -/

theorem orphan_cmdsKept (d : Dev) (p : PartId) (o : Orphan) : CmdsKept d (d.orphan p o) := by
  unfold Dev.orphan
  dsimp only
  split
  · exact .of_framed (setPart_frame _ _ _ _)
  · refine .of_framed (frame_trans ?_ (event_frame _ _ _ _ _ _ _ _))
    exact frame_trans (setPart_frame _ _ _ _)
      (frame_trans (wr_frame _ _ _ _ (by decide) (by simp)) (wr_frame _ _ _ _ (by decide) (by simp)))

theorem cqInterrupt_cmdsKept (d : Dev) (p q : Nat) : CmdsKept d (d.cqInterrupt p q) := by
  unfold Dev.cqInterrupt
  split
  · exact .refl d
  · exact (setQueue_cmdsKept _ _ _ _).trans (msix_cmdsKept _ _ _)

theorem postCq_cmdsKept (d : Dev) (p q : Nat) (x : Queue) (e : List Nat) : CmdsKept d (d.postCq p q x e) := by
  have written : CmdsKept d (if d.hostOk p (x.cqBase + 16 * x.cqTail) 16 then
      d.hostWrite p (x.cqBase + 16 * x.cqTail) (dwBytes e) else d) := by
    split
    · exact .of_framed (hostWrite_frame _ _ _ _ _)
    · exact .refl d
  unfold Dev.postCq
  dsimp only
  split
  · exact written.trans ((setQueue_cmdsKept _ _ _ _).trans (cqInterrupt_cmdsKept _ _ _))
  · exact written.trans (setQueue_cmdsKept _ _ _ _)

theorem rctPosted_cmdsKept (d : Dev) (p : PartId) (o : Option Orphan) : CmdsKept d (d.rctPosted p o) := by
  cases o with
  | none => exact .refl d
  | some o => exact posted_cmdsKept d p o.asn

theorem rctReply_cmdsKept (d : Dev) (i ty : Nat) (l : List Byte) (o : Option Orphan) : CmdsKept d (d.rctReply i ty l o) := by
  unfold Dev.rctReply
  dsimp only
  split
  · split
    · exact rctSend_cmdsKept _ _ _ _ _
    · exact (rctSend_cmdsKept _ _ _ _ _).trans (rctPosted_cmdsKept _ _ _)
  · exact rctSend_cmdsKept _ _ _ _ _

/-- What completing a command does once the command and its lock are gone: a record, an entry or an orphan, and their
POSTED record, which keep the other accepted commands. -/
theorem complete_cmdsKept (d : Dev) (c : Cmd) (st : Status) (result : Nat) :
    CmdsKept (d.delCmd c.part c.asn) (d.complete c st result) := by
  have orphaned : ∀ (x : Dev) (b : Body) (o : Orphan),
      CmdsKept x ((((x.journal c.part c.asn b).orphan c.part o).journal c.part c.asn .posted).reclaim c.part c.asn) :=
    fun x b o => (journal_cmdsKept x _ _ b).trans ((orphan_cmdsKept _ _ o).trans (posted_cmdsKept _ _ _))
  unfold Dev.complete
  extract_lets removed host unlocked gone toOrphan
  have hlocks : CmdsKept (d.delCmd c.part c.asn) unlocked := ⟨⟨rfl, rfl⟩, rfl⟩
  refine hlocks.trans ?_
  split
  · exact orphaned _ _ _
  · split
    · exact (journal_cmdsKept _ _ _ _).trans ((postCq_cmdsKept _ _ _ _ _).trans (posted_cmdsKept _ _ _))
    · split
      · exact orphaned _ _ _
      · exact (setQueue_cmdsKept _ _ _ _).trans ((journal_cmdsKept _ _ _ _).trans (rctReply_cmdsKept _ _ _ _ _))

theorem delCmd_framed (d : Dev) (p asn : Nat) : HostFramed d (d.delCmd p asn) := ⟨rfl, rfl⟩

theorem setCmd_framed (d : Dev) (c : Cmd) : HostFramed d (d.setCmd c) := ⟨rfl, rfl⟩

@[simp] theorem cmd?_delCmd (d : Dev) (p asn : Nat) : (d.delCmd p asn).cmd? p asn = none := find_del_same _ _

@[simp] theorem cmd?_setCmd (d : Dev) (c : Cmd) : (d.setCmd c).cmd? c.part c.asn = some c := find_put_same _ _ _

/-- A command that succeeds leaves, and nothing but the host's part and reports changes. -/
theorem succeed_spec (d : Dev) (c : Cmd) (result : Nat) (st : Status) :
    HostFramed d (d.succeed c result st) ∧ (d.succeed c result st).cmd? c.part c.asn = none := by
  have hkept := complete_cmdsKept (d.effect c st result) c st result
  refine ⟨(journal_cmdsKept _ _ _ _).1.trans ((delCmd_framed _ _ _).trans hkept.1), ?_⟩
  exact (hkept.cmd? _ _).trans (cmd?_delCmd _ _ _)

/-! ### Moving data -/

/-- The window offered leaves the command as accepted but for that window. -/
theorem offer_spec (d : Dev) (c : Cmd) (h : d.cmd? c.part c.asn = some c) :
    HostFramed d (d.offer c) ∧ ∃ w, (d.offer c).cmd? c.part c.asn = some { c with window := w } := by
  unfold Dev.offer
  split
  · exact ⟨(CmdsKept.refl d).1, c.window, h⟩
  · dsimp only
    split
    · exact ⟨setCmd_framed _ _, none, cmd?_setCmd d { c with window := none }⟩
    · next id _ _ =>
      have hsend := fun w l => rctSend_cmdsKept (d.setCmd { c with window := w }) id 0x02 l none
      exact ⟨(setCmd_framed _ _).trans (hsend _ _).1, _, ((hsend _ _).cmd? _ _).trans (cmd?_setCmd d { c with window := _ })⟩

/-- A command whose transfer starts moves. -/
theorem startMove_spec (d : Dev) (c : Cmd) (n : Nat) :
    HostFramed d (d.startMove c n) ∧ ((d.startMove c n).cmd? c.part c.asn).map (·.phase) = some .moving := by
  have hset := cmd?_setCmd d { c with phase := .moving, want := n }
  unfold Dev.startMove
  dsimp only
  split
  · exact ⟨setCmd_framed _ _, by rw [hset]; rfl⟩
  · obtain ⟨hframe, w, hw⟩ := offer_spec (d.setCmd { c with phase := .moving, want := n }) _ hset
    exact ⟨(setCmd_framed _ _).trans hframe, by rw [hw]; rfl⟩

end Sys2Proof.Proofs



/-! PROOFS. StoreSpace: FLUSH, WRITE and READ as they start, and BAR2 accesses (R33, R34, R310, R311, R313). -/

namespace Sys2Proof.Proofs

open Machine Laws

/-! ### The commands start -/

theorem starts_names {d : Dev} {p asn op : Nat} {c : Cmd} (h : Starts d p asn op c = true) : c.part = p ∧ c.asn = asn := by
  simp only [Starts, Bool.and_eq_true, decide_eq_true_eq] at h
  obtain ⟨⟨⟨⟨⟨⟨⟨-, -⟩, hp⟩, ha⟩, -⟩, -⟩, -⟩, -⟩ := h
  exact ⟨hp, ha⟩

/-- A command of the power-loss class that starts runs its meaning on what the host shows. -/
theorem runQuiet_starts {s : State} {p asn op : Nat} {hv : HostView} {c : Cmd} {ok : Bool} (f : Dev → Cmd → Dev)
    (hok : ok = true) (h : Starts (s.dev.see hv) p asn op c = true) :
    runQuiet ok (fun d => (d.see hv).start p asn op f) s = .next (s.withDev (f (s.dev.see hv) c)) := by
  have hready : Ready s.dev = true := by rw [← see_ready s.dev hv]; exact starts_ready h
  rw [hok, runQuiet_ok _ s hready, start_starts _ _ _ _ _ f h]

theorem flush_starts {s : State} {p asn : Nat} {hv : HostView} {c : Cmd} (hp : p < 128)
    (h : Starts (s.dev.see hv) p asn 0x80 c = true) :
    exec (.flush p asn hv) s = .next (s.withDev ((s.dev.see hv).flushCmd c)) :=
  runQuiet_starts Dev.flushCmd (decide_eq_true hp) h

theorem write_starts {s : State} {p asn : Nat} {hv : HostView} {c : Cmd} (hp : p < 128)
    (h : Starts (s.dev.see hv) p asn 0x81 c = true) :
    exec (.write p asn hv) s = .next (s.withDev ((s.dev.see hv).writeCmd c)) :=
  runQuiet_starts Dev.writeCmd (decide_eq_true hp) h

theorem read_starts {s : State} {p asn : Nat} {hv : HostView} {c : Cmd} (hp : p < 128)
    (h : Starts (s.dev.see hv) p asn 0x82 c = true) :
    exec (.read p asn hv) s = .next (s.withDev ((s.dev.see hv).readCmd c)) :=
  runQuiet_starts Dev.readCmd (decide_eq_true hp) h

/-! ### What the host shows changes no check -/

/-- What depends on neither the host's memory nor its failing accesses and vectors is as before the view. -/
theorem see_same {α : Type} (f : Dev → α)
    (hf : ∀ (d : Dev) m x v, f { d with hostMem := m, hostFails := x, vectorsOff := v } = f d) (d : Dev) (hv : HostView) :
    f (d.see hv) = f d := by
  obtain ⟨m, e⟩ := see_only d hv
  rw [e, hf]

@[simp] theorem see_flushed (d : Dev) (hv : HostView) (c : Cmd) : (d.see hv).flushed c = d.flushed c :=
  see_same (·.flushed c) (fun _ _ _ _ => rfl) d hv

@[simp] theorem see_ownsCtx (d : Dev) (hv : HostView) (c : Cmd) (k : Nat) : (d.see hv).ownsCtx c k = d.ownsCtx c k :=
  see_same (·.ownsCtx c k) (fun _ _ _ _ => rfl) d hv

@[simp] theorem see_shed (d : Dev) (hv : HostView) : (d.see hv).shed = d.shed :=
  see_same (·.shed) (fun _ _ _ _ => rfl) d hv

@[simp] theorem see_setOwner (d : Dev) (hv : HostView) (k : Nat) : (d.see hv).setOwner k = d.setOwner k :=
  see_same (·.setOwner k) (fun _ _ _ _ => rfl) d hv

@[simp] theorem see_setState (d : Dev) (hv : HostView) (k : Nat) : (d.see hv).setState k = d.setState k :=
  see_same (·.setState k) (fun _ _ _ _ => rfl) d hv

@[simp] theorem see_setUp (d : Dev) (hv : HostView) (k : Nat) : (d.see hv).setUp k = d.setUp k :=
  see_same (·.setUp k) (fun _ _ _ _ => rfl) d hv

@[simp] theorem see_sset (d : Dev) (hv : HostView) (k : Nat) : (d.see hv).sset k = d.sset k :=
  see_same (·.sset k) (fun _ _ _ _ => rfl) d hv

@[simp] theorem see_locked (d : Dev) (hv : HostView) (c : Cmd) : (d.see hv).locked c = d.locked c :=
  see_same (·.locked c) (fun _ _ _ _ => rfl) d hv

@[simp] theorem see_pendingRoom (d : Dev) (hv : HostView) (n : Nat) : (d.see hv).pendingRoom n = d.pendingRoom n :=
  see_same (·.pendingRoom n) (fun _ _ _ _ => rfl) d hv

/-! ### The checks pass -/

/-- A set that is up has not failed. -/
theorem setState_of_setUp {d : Dev} {k : Nat} (h : d.setUp k = true) : d.setState k ≠ FAILED := by
  simp only [Dev.setUp, Bool.and_eq_true, decide_eq_true_eq] at h
  intro e
  rw [e] at h
  exact absurd h (by decide)

/-- A STORE command within its store space, whose set is up and whose locks are free, goes on (R310, R311). -/
theorem storeCheck_passes (d : Dev) (c : Cmd) (k : Dev → Dev) (hset : dwAt c.entry 1 < 8)
    (howner : d.setOwner (dwAt c.entry 1) = c.part) (hoff : dw64 c.entry 10 % 4096 = 0) (hlen : dwAt c.entry 6 % 4096 = 0)
    (hmin : 4096 ≤ dwAt c.entry 6) (hmax : dwAt c.entry 6 ≤ 2 ^ 24) (hup : d.setUp (dwAt c.entry 1) = true)
    (hroom : dw64 c.entry 10 + dwAt c.entry 6 ≤ ((d.sset (dwAt c.entry 1)).storeExtents c.part).length *
      (d.sset (dwAt c.entry 1)).extentSize) (hlock : d.locked c = false) : d.storeCheck c k = k d := by
  have htarget : ¬ (8 ≤ dwAt c.entry 1 ∨ d.setOwner (dwAt c.entry 1) ≠ c.part) := by simp [howner]; omega
  have hfields : ¬ (dw64 c.entry 10 % 4096 ≠ 0 ∨ dwAt c.entry 6 % 4096 ≠ 0 ∨ dwAt c.entry 6 < 4096 ∨
      2 ^ 24 < dwAt c.entry 6) := by omega
  have hwaits : ¬ ((!d.setUp (dwAt c.entry 1)) = true ∨ d.locked c = true) := by simp [hup, hlock]
  simp only [Dev.storeCheck]
  rw [if_neg htarget, if_neg hfields, if_neg (setState_of_setUp hup), if_neg (Nat.not_lt.mpr hroom), if_neg hwaits]

/-- A PARAM command within the block of its context goes on; a WRITE must stay within the shadow bank (R33). -/
theorem paramCheck_passes (d : Dev) (c : Cmd) (write : Bool) (k : Dev → Dev) (howns : d.ownsCtx c (dwAt c.entry 1) = true)
    (hlow : dwAt c.entry 1 * 0x40000 ≤ dw64 c.entry 10)
    (hhigh : dw64 c.entry 10 + dwAt c.entry 6 ≤ dwAt c.entry 1 * 0x40000 + (if write then 0x20000 else 0x40000)) :
    d.paramCheck c write k = k d := by
  have hin : ¬ (dw64 c.entry 10 < dwAt c.entry 1 * 0x40000 ∨
      (dwAt c.entry 1 + 1) * 0x40000 < dw64 c.entry 10 + dwAt c.entry 6) := by split at hhigh <;> omega
  have hbank : ¬ (write = true ∧ dwAt c.entry 1 * 0x40000 + 0x20000 < dw64 c.entry 10 + dwAt c.entry 6) := by
    rintro ⟨hw, hlt⟩
    rw [if_pos hw] at hhigh
    omega
  simp only [Dev.paramCheck, howns, Bool.not_true, Bool.false_eq_true, if_false]
  rw [if_neg hin, if_neg hbank]

/-! ### FLUSH, WRITE and READ -/

/-- A FLUSH that nothing holds up completes. -/
theorem flush_completes {s : State} {p asn : Nat} {hv : HostView} {c : Cmd} (hp : p < 128)
    (h : Starts (s.dev.see hv) p asn 0x80 c = true) (hf : s.dev.flushed c = true) :
    ∃ t, exec (.flush p asn hv) s = .next t ∧ HostFramed s.dev t.dev ∧ t.dev.pip = s.dev.pip ∧
      t.dev.cmd? p asn = none := by
  obtain ⟨rfl, rfl⟩ := starts_names h
  obtain ⟨hframe, hgone⟩ := succeed_spec (s.dev.see hv) c 0 .SUCCESS
  refine ⟨_, flush_starts hp h, ?_⟩
  simp only [Dev.flushCmd, see_flushed, hf, if_true, withDev_dev]
  have hall := (see_cmdsKept s.dev hv).1.trans hframe
  exact ⟨hall, hall.pip, hgone⟩

/-- A FLUSH that covers something that waits runs on. -/
theorem flush_waits {s : State} {p asn : Nat} {hv : HostView} {c : Cmd} (hp : p < 128)
    (h : Starts (s.dev.see hv) p asn 0x80 c = true) (hf : s.dev.flushed c = false) :
    ∃ t, exec (.flush p asn hv) s = .next t ∧ HostFramed s.dev t.dev ∧ t.dev.pip = s.dev.pip ∧
      (t.dev.cmd? p asn).map (·.phase) = some .running := by
  obtain ⟨rfl, rfl⟩ := starts_names h
  refine ⟨_, flush_starts hp h, ?_⟩
  simp only [Dev.flushCmd, see_flushed, hf, Bool.false_eq_true, if_false, withDev_dev]
  have hall := (see_cmdsKept s.dev hv).1.trans (setCmd_framed _ { c with phase := .running })
  exact ⟨hall, hall.pip, congrArg _ (cmd?_setCmd _ { c with phase := .running })⟩

/-- A command whose meaning starts its transfer moves. -/
theorem moves_of_startMove {i : Instr} {s : State} {p asn op n : Nat} {hv : HostView} {c : Cmd} {f : Dev → Cmd → Dev}
    (h : Starts (s.dev.see hv) p asn op c = true) (he : exec i s = .next (s.withDev (f (s.dev.see hv) c)))
    (hf : f (s.dev.see hv) c = (s.dev.see hv).startMove c n) :
    ∃ t, exec i s = .next t ∧ HostFramed s.dev t.dev ∧ t.dev.pip = s.dev.pip ∧
      (t.dev.cmd? p asn).map (·.phase) = some .moving := by
  obtain ⟨rfl, rfl⟩ := starts_names h
  obtain ⟨hframe, hmoves⟩ := startMove_spec (s.dev.see hv) c n
  refine ⟨_, he, ?_⟩
  rw [withDev_dev, hf]
  have hall := (see_cmdsKept s.dev hv).1.trans hframe
  exact ⟨hall, hall.pip, hmoves⟩

/-- A WRITE of parameter space within the shadow bank of its context's block starts its transfer (R33). -/
theorem writeCmd_param (d : Dev) (c : Cmd) (hspace : sf c.entry 8 0 2 = 1) (howns : d.ownsCtx c (dwAt c.entry 1) = true)
    (hlow : dwAt c.entry 1 * 0x40000 ≤ dw64 c.entry 10)
    (hhigh : dw64 c.entry 10 + dwAt c.entry 6 ≤ dwAt c.entry 1 * 0x40000 + 0x20000) :
    d.writeCmd c = d.startMove c (dwAt c.entry 6) := by
  simp only [Dev.writeCmd, hspace]
  exact paramCheck_passes d c true _ howns hlow hhigh

/-- A READ of parameter space within its context's block starts its transfer, unless shedding holds it (R392). -/
theorem readCmd_param (d : Dev) (c : Cmd) (hspace : sf c.entry 8 0 2 = 1) (howns : d.ownsCtx c (dwAt c.entry 1) = true)
    (hlow : dwAt c.entry 1 * 0x40000 ≤ dw64 c.entry 10)
    (hhigh : dw64 c.entry 10 + dwAt c.entry 6 ≤ (dwAt c.entry 1 + 1) * 0x40000) :
    d.readCmd c = if 1 ≤ d.shed then d else d.startMove c 0 := by
  rw [Nat.add_mul, Nat.one_mul] at hhigh
  simp only [Dev.readCmd, hspace]
  exact paramCheck_passes d c false _ howns hlow hhigh

/-! ### Bytes of a bank -/

/-- The bits of byte `o` of a bank that hold fields (R4). -/
def byteMask (o : Nat) : Byte := BitVec.ofNat 8 (Pb.mask (o / 4) / 2 ^ (8 * (o % 4)))

/-- A byte of a 32-bit number is one of the number's own bytes. -/
theorem ofNat_mod_two_pow (x : Nat) {k : Nat} (h : k < 4) :
    BitVec.ofNat 8 (x % 2 ^ 32 / 2 ^ (8 * k)) = BitVec.ofNat 8 (x / 2 ^ (8 * k)) := by
  have hbytes : k = 0 ∨ k = 1 ∨ k = 2 ∨ k = 3 := by omega
  apply BitVec.eq_of_toNat_eq
  rw [BitVec.toNat_ofNat, BitVec.toNat_ofNat]
  rcases hbytes with rfl | rfl | rfl | rfl <;> omega

/-- Replacing a byte of a number replaces that byte and no other. -/
theorem ofNat_setBits (x v : Nat) {k j : Nat} (hk : k < 4) (hj : j < 4) :
    BitVec.ofNat 8 (setBits x (8 * k) 8 v / 2 ^ (8 * j)) =
      if j = k then BitVec.ofNat 8 v else BitVec.ofNat 8 (x / 2 ^ (8 * j)) := by
  have hval : setBits x (8 * k) 8 v / 2 ^ (8 * j) % 256 = if j = k then v % 256 else x / 2 ^ (8 * j) % 256 := by
    have hks : k = 0 ∨ k = 1 ∨ k = 2 ∨ k = 3 := by omega
    have hjs : j = 0 ∨ j = 1 ∨ j = 2 ∨ j = 3 := by omega
    unfold setBits bits
    rcases hks with rfl | rfl | rfl | rfl <;> rcases hjs with rfl | rfl | rfl | rfl <;> split <;> omega
  apply BitVec.eq_of_toNat_eq
  rw [BitVec.toNat_ofNat, hval]
  split <;> rw [BitVec.toNat_ofNat]

/-- A byte written to a bank reads back but for its reserved bits; the other bytes of its DW lose theirs, and bytes of
other DWs stay. -/
theorem byte_setByte (b : List (Nat × Nat)) (o i : Nat) (v : Byte) : Pb.byte (Pb.setByte b o v) i =
    if i = o then v &&& byteMask i else if i / 4 = o / 4 then Pb.byte b i &&& byteMask i else Pb.byte b i := by
  by_cases hdw : i / 4 = o / 4
  · have hmod : i % 4 < 4 ∧ o % 4 < 4 := by omega
    have hsame : i % 4 = o % 4 ↔ i = o := by omega
    have hdw' : Pb.dw (Pb.setByte b o v) (i / 4) =
        (setBits (Pb.dw b (i / 4)) (8 * (o % 4)) 8 v.toNat &&& Pb.mask (i / 4)) % 2 ^ 32 := by
      rw [Pb.setByte, Pb.setDw, Pb.dw, hdw]
      exact get_set_same _ _ _ _
    rw [Pb.byte, hdw', ofNat_mod_two_pow _ hmod.1, Nat.and_div_two_pow, BitVec.ofNat_and, ofNat_setBits _ _ hmod.2 hmod.1]
    by_cases h : i = o
    · rw [if_pos (hsame.mpr h), if_pos h, BitVec.ofNat_toNat, BitVec.setWidth_eq, byteMask]
    · rw [if_neg (fun e => h (hsame.mp e)), if_neg h, if_pos hdw, Pb.byte, byteMask]
  · have hne : i ≠ o := fun h => hdw (by rw [h])
    have hdw' : Pb.dw (Pb.setByte b o v) (i / 4) = Pb.dw b (i / 4) := get_set_ne _ _ _ _ hdw
    rw [if_neg hne, if_neg hdw, Pb.byte, hdw', Pb.byte]

/-- Bytes written to a bank one after the other from offset `o`. -/
def setBytes (o : Nat) (l : List (Byte × Nat)) (b : List (Nat × Nat)) : List (Nat × Nat) :=
  l.foldl (fun b e => Pb.setByte b (o + e.2) e.1) b

/-- A byte whose reserved bits are 0 stays as writes of other bytes leave it. -/
theorem byte_setBytes_ne (o i : Nat) (l : List (Byte × Nat)) (b : List (Nat × Nat)) (h : ∀ e ∈ l, i ≠ o + e.2)
    (hm : Pb.byte b i &&& byteMask i = Pb.byte b i) : Pb.byte (setBytes o l b) i = Pb.byte b i := by
  induction l generalizing b with
  | nil => rfl
  | cons e l ih =>
    have hstep : Pb.byte (Pb.setByte b (o + e.2) e.1) i = Pb.byte b i := by
      rw [byte_setByte, if_neg (h e List.mem_cons_self), hm, ite_self]
    rw [setBytes, List.foldl_cons, ← setBytes, ih _ (fun x hx => h x (List.mem_cons_of_mem _ hx)) (by rw [hstep, hm]), hstep]

/-- Bytes written in a row read back but for reserved bits. -/
theorem bytes_setBytes (o n : Nat) (l : List Byte) (b : List (Nat × Nat)) (j : Nat) (h : j < l.length) :
    Pb.byte (setBytes o (l.zipIdx n) b) (o + (n + j)) = l[j] &&& byteMask (o + (n + j)) := by
  induction l generalizing b n j with
  | nil => simp at h
  | cons v l ih =>
    rw [List.zipIdx_cons, setBytes, List.foldl_cons, ← setBytes]
    cases j with
    | zero =>
      have hfirst := byte_setByte b (o + n) (o + n) v
      rw [if_pos rfl] at hfirst
      have hlater : ∀ e ∈ l.zipIdx (n + 1), o + n ≠ o + e.2 := fun e he => by
        have := List.le_snd_of_mem_zipIdx he
        omega
      change Pb.byte (setBytes o (l.zipIdx (n + 1)) (Pb.setByte b (o + n) v)) (o + n) = v &&& byteMask (o + n)
      rw [byte_setBytes_ne _ _ _ _ hlater (by rw [hfirst, BitVec.and_assoc, BitVec.and_self]), hfirst]
    | succ j =>
      have := ih (n + 1) (Pb.setByte b (o + n) v) j (by simpa using h)
      rw [show n + (j + 1) = n + 1 + j by omega, this]
      rfl

/-! ### BAR2 -/

/-- A BAR2 access within a page that firmware lets through (R26, R404). -/
theorem bar2Access_runs {s : State} {f off n : Nat} (w : Option (List (Option Byte))) (hf : f < 64) (hoff : off < 2 ^ 26)
    (hn : 1 ≤ n) (hpage : off % 4096 + n ≤ 4096) (hs : s.dev.stopped = false) :
    exec (.bar2Access f off w n) s = .next (s.withDev (s.dev.bar2 f off w n)) := by
  have hoff : off < 67108864 := hoff
  have hok : Instr.wellFormed (.bar2Access f off w n) = true := by simp [Instr.wellFormed, hf, hoff, hn, hpage]
  rw [← runCmd_ok (fun d => d.bar2 f off w n) s hs, ← hok]
  rfl

/-- One byte of the shadow bank is written. -/
theorem paramWrite_byte (d : Dev) (k : Nat) {o : Nat} (v : Byte) (hlow : 0x1000 ≤ o) (hhigh : o < 0x20000) :
    d.paramWrite k o [v] = d.updCtx k fun x => { x with shadow := Pb.setByte x.shadow o v } := by
  simp [Dev.paramWrite, hlow, hhigh]

/-- A byte of the shadow bank reads as the bank holds it (R33). -/
theorem paramByte_shadow (d : Dev) (k : Nat) {o : Nat} (hlow : 0x1000 ≤ o) (hhigh : o < 0x20000) :
    d.paramByte k o = Pb.byte (d.ctx k).shadow o := by
  have hmod : o % 0x20000 = o := Nat.mod_eq_of_lt hhigh
  simp [Dev.paramByte, hmod, Nat.not_lt.mpr hlow, Nat.not_le.mpr hhigh]

@[simp] theorem ctx_setCtx (d : Dev) (k : Nat) (x : Ctx) : (d.setCtx k x).ctx k = x := get_set_same _ _ _ _

/-- Writing bytes one after the other to the shadow bank of a context. -/
def shadowWrites (d : Dev) (k o : Nat) (l : List (Byte × Nat)) : Dev :=
  l.foldl (fun d e => d.paramWrite k (o + e.2) [e.1]) d

/-- Such writes change the captures alone. -/
theorem shadowWrites_cap (k o : Nat) (l : List (Byte × Nat)) (d : Dev) :
    ∃ x, shadowWrites d k o l = { d with cap := x } := by
  induction l generalizing d with
  | nil => exact ⟨d.cap, rfl⟩
  | cons e l ih => exact ih (d.paramWrite k (o + e.2) [e.1])

/-- What they leave in the shadow bank. -/
theorem shadowWrites_shadow (k o : Nat) (l : List (Byte × Nat)) (d : Dev)
    (h : ∀ e ∈ l, 0x1000 ≤ o + e.2 ∧ o + e.2 < 0x20000) :
    ((shadowWrites d k o l).ctx k).shadow = setBytes o l (d.ctx k).shadow := by
  induction l generalizing d with
  | nil => rfl
  | cons e l ih =>
    obtain ⟨hlow, hhigh⟩ := h e List.mem_cons_self
    rw [shadowWrites, List.foldl_cons, ← shadowWrites, ih _ fun x hx => h x (List.mem_cons_of_mem _ hx),
      paramWrite_byte _ _ _ hlow hhigh, Dev.updCtx, ctx_setCtx]
    rfl

/-- A fold over bytes that are all enabled, by their numbers. -/
theorem foldl_zipIdx_some {α β : Type} (g : α → Option β × Nat → α) (l : List β) (n : Nat) (a : α) :
    ((l.map some).zipIdx n).foldl g a = (l.zipIdx n).foldl (fun a e => g a (some e.1, e.2)) a := by
  rw [List.zipIdx_map, List.foldl_map]
  rfl

/-- A BAR2 write of whole bytes to a block of the function's own context, while the device is awake (R33, R34). -/
theorem bar2_write (d : Dev) {f off : Nat} (b : List Byte) (n : Nat) (hfn : d.hasFn f = true) (hrun : d.running = true)
    (hawake : d.allAwake = true) (hown : f = 0 ∨ d.ctxOwner (off / 0x40000) = f) :
    d.bar2 f off (some (b.map some)) n =
      { shadowWrites d (off / 0x40000) (off % 0x40000) b.zipIdx with reply := [] } := by
  have hmine : ¬ (f ≠ 0 ∧ d.ctxOwner (off / 0x40000) ≠ f) := fun h => hown.elim h.1 h.2
  simp only [Dev.bar2, hfn, hrun, keep_awake d hawake, wake_awake d _ _ hawake, Bool.not_true, Bool.false_eq_true, or_self,
    if_false, if_neg hmine, foldl_zipIdx_some]
  rfl

/-- A BAR2 read of such a block answers the bytes addressed. -/
theorem bar2_read (d : Dev) {f off : Nat} (n : Nat) (hfn : d.hasFn f = true) (hrun : d.running = true)
    (hawake : d.allAwake = true) (hown : f = 0 ∨ d.ctxOwner (off / 0x40000) = f) :
    d.bar2 f off none n =
      { d with reply := (seqFrom (off % 0x40000) n).map fun i => (d.paramByte (off / 0x40000) i).toNat } := by
  have hmine : ¬ (f ≠ 0 ∧ d.ctxOwner (off / 0x40000) ≠ f) := fun h => hown.elim h.1 h.2
  simp only [Dev.bar2, hfn, hrun, keep_awake d hawake, wake_awake d _ _ hawake, Bool.not_true, Bool.false_eq_true, or_self,
    if_false, if_neg hmine]

/-- A BAR2 read of another partition's block is denied and counted (R26, R49). -/
theorem bar2_read_denied (d : Dev) {f off : Nat} (n : Nat) (hfn : d.hasFn f = true) (hrun : d.running = true)
    (hawake : d.allAwake = true) (hf : f ≠ 0) (hown : d.ctxOwner (off / 0x40000) ≠ f) :
    d.bar2 f off none n =
      { (d.bump (Pg.MMU 1) Reg.MMU.DENY_CNT).raise (Pg.MMU 1) 1 with reply := List.replicate n 0 } := by
  simp only [Dev.bar2, Dev.bar2Deny, hfn, hrun, keep_awake d hawake, wake_awake d _ _ hawake, Bool.not_true,
    Bool.false_eq_true, or_self, if_false, if_pos (And.intro hf hown), Option.isSome_none]

/-- Raising an interrupt bit of a page leaves its block's fields alone, unless the page is one that events reach. -/
theorem rd_raise_block (d : Dev) {pg : Page} {F : Fld} (b i j : Nat) (hF : fits F = true) (ho : 0x100 ≤ F.off)
    (hpg : pg ∉ [Pg.EVT, Pg.SYS, Pg.NVS]) : (d.raise pg b).rd pg F i j = d.rd pg F i j := by
  have hwrite : ∀ v, (d.wr pg Reg.HDR.INT_STAT v).rd pg F i j = d.rd pg F i j := fun v =>
    rd_wr_ne d v (regKey_header_ne_block pg pg 0 0 i j (by decide) hF ho).symm
  unfold Dev.raise Dev.watch
  dsimp only
  split
  · exact (rd_regsBut i j hF hpg (interrupt_frame [] _ _).2).trans (hwrite _)
  · exact hwrite _

/-- A frame holds under an answer. -/
theorem frame_reply {pgs : List Page} {d t : Dev} (r : List Nat) (h : Framed pgs d t) :
    Framed pgs { d with reply := r } { t with reply := r } :=
  ⟨congrArg (fun x : Dev => { x with reply := r }) h.1, h.2⟩

/-- A denied read of BAR2 counts in DENY_CNT, and reports. -/
theorem bar2_read_denied_spec (d : Dev) :
    Framed [Pg.MMU 1] d ((d.bump (Pg.MMU 1) Reg.MMU.DENY_CNT).raise (Pg.MMU 1) 1) ∧
      ((d.bump (Pg.MMU 1) Reg.MMU.DENY_CNT).raise (Pg.MMU 1) 1).rd (Pg.MMU 1) Reg.MMU.DENY_CNT =
        min (d.rd (Pg.MMU 1) Reg.MMU.DENY_CNT + 1) (2 ^ Reg.MMU.DENY_CNT.width - 1) := by
  refine ⟨frame_trans (bump_frame _ _ _ (by decide) (by simp)) (raise_frame _ _ _ (by simp)), ?_⟩
  rw [rd_raise_block _ _ _ _ (by decide) (by decide) (by decide), Dev.bump, rd_wr_same]
  exact Nat.mod_eq_of_lt (Nat.lt_of_le_of_lt (Nat.min_le_right _ _) (by decide))

/-- Bytes written through BAR2 to the shadow bank read back but for reserved bits (R4, R33). -/
theorem bar2_write_reads_back (d : Dev) {f off : Nat} (b : List Byte) (hfn : d.hasFn f = true) (hrun : d.running = true)
    (hawake : d.allAwake = true) (hown : f = 0 ∨ d.ctxOwner (off / 0x40000) = f) (hlow : 0x1000 ≤ off % 0x40000)
    (hhigh : off % 0x40000 + b.length ≤ 0x20000) :
    let t := d.bar2 f off (some (b.map some)) b.length
    Still [] { d with cap := t.cap, reply := t.reply } t ∧
      ((seqFrom (off % 0x40000) b.length).map fun i => t.paramByte (off / 0x40000) i) =
        b.zipIdx.map (fun e => e.1 &&& byteMask (off % 0x40000 + e.2)) ∧ t.reply = [] := by
  intro t
  have ht : t = { shadowWrites d (off / 0x40000) (off % 0x40000) b.zipIdx with reply := [] } :=
    bar2_write d b b.length hfn hrun hawake hown
  have hin : ∀ e ∈ b.zipIdx, 0x1000 ≤ off % 0x40000 + e.2 ∧ off % 0x40000 + e.2 < 0x20000 := fun e he => by
    have := List.snd_lt_of_mem_zipIdx he
    omega
  have hbank : (t.ctx (off / 0x40000)).shadow = setBytes (off % 0x40000) b.zipIdx (d.ctx (off / 0x40000)).shadow := by
    rw [ht]
    exact shadowWrites_shadow _ _ _ d hin
  refine ⟨?_, ?_, by rw [ht]⟩
  · obtain ⟨x, hx⟩ := shadowWrites_cap (off / 0x40000) (off % 0x40000) b.zipIdx d
    rw [ht, hx]
    exact ⟨rfl, rfl⟩
  · refine List.ext_getElem (by simp [seqFrom]) fun j h _ => ?_
    have hj : j < b.length := by simpa [seqFrom] using h
    have hbyte := bytes_setBytes (off % 0x40000) 0 b (d.ctx (off / 0x40000)).shadow j hj
    rw [Nat.zero_add] at hbyte
    simp only [seqFrom, List.getElem_map, List.getElem_range, List.getElem_zipIdx, Nat.zero_add]
    rw [paramByte_shadow _ _ (by omega) (by omega), hbank, hbyte]

/-- Settles O41: a command that starts runs its meaning, whose checks the hypotheses let pass; a BAR2 write is a row of
single bytes, each of which stays as the later ones leave it. -/
theorem storeAndParameterSpace : Obligations.StoreAndParameterSpace := by
  unfold Obligations.StoreAndParameterSpace
  refine ⟨fun s p asn hv c hp _ h hf => flush_completes hp h hf, fun s p asn hv c hp _ h hf => flush_waits hp h hf,
    ?writeParam, ?writeStore, ?readParam, ?readShed, ?barWrite, ?barRead, ?barDenied⟩
  case writeParam =>
    intro s p asn hv c hp _ h hspace howns hlow hhigh
    exact moves_of_startMove h (write_starts hp h) (writeCmd_param _ c hspace (by rwa [see_ownsCtx]) hlow hhigh)
  case writeStore =>
    intro s p asn hv c hp _ h hspace hset howner hoff hlen hmin hmax hup hin hlock hroom
    refine moves_of_startMove (n := dwAt c.entry 6) h (write_starts hp h) ?_
    simp only [Dev.writeCmd, hspace]
    rw [storeCheck_passes _ _ _ hset (by rwa [see_setOwner]) hoff hlen hmin hmax (by rwa [see_setUp]) (by rwa [see_sset])
      (by rwa [see_locked]), see_pendingRoom, if_pos hroom]
  case readParam =>
    intro s p asn hv c hp _ h hspace howns hlow hhigh hshed
    refine moves_of_startMove (n := 0) h (read_starts hp h) ?_
    rw [readCmd_param _ c hspace (by rwa [see_ownsCtx]) hlow hhigh, see_shed, hshed, if_neg (by decide)]
  case readShed =>
    intro s p asn hv c hp _ h hspace howns hlow hhigh hshed
    rw [read_starts hp h, readCmd_param _ c hspace (by rwa [see_ownsCtx]) hlow hhigh, see_shed, if_pos hshed]
  case barWrite =>
    intro s f off b hf hoff hlen hpage hs hfn hrun hawake _ hown hlow hhigh
    exact ⟨_, bar2Access_runs _ hf hoff hlen hpage hs, bar2_write_reads_back s.dev b hfn hrun hawake hown hlow hhigh⟩
  case barRead =>
    intro s f off n hf hoff hn hpage hs hfn hrun hawake _ hown
    rw [bar2Access_runs none hf hoff hn hpage hs, bar2_read s.dev n hfn hrun hawake hown]
  case barDenied =>
    intro s f off n hf hoff hn hpage hs hfn hrun hawake _ hne hown
    refine ⟨_, bar2Access_runs none hf hoff hn hpage hs, ?_⟩
    rw [withDev_dev, bar2_read_denied s.dev n hfn hrun hawake hne hown]
    obtain ⟨hframe, hcount⟩ := bar2_read_denied_spec s.dev
    exact ⟨frame_reply _ hframe, rfl, hcount, (congrArg Dev.cap hframe.1).symm⟩

end Sys2Proof.Proofs

/-! PROOFS. Counterexamples: statements about register access that a concrete state refutes. -/

namespace Sys2Proof.Proofs

open Machine Laws

/-- Firmware runs, and channel 0 shows a valid speed. -/
def speedShown : State := { dev := ({ brd := { stage := 6 } } : Dev).wr (Pg.PFB 0) Reg.PFB.SPEED_VALID 1 }

/-- R371: the write of MODE 1 to CFG enables the channel anew, so its speed is no longer valid. -/
theorem modeWrite_invalidates_speed : ∃ t, exec (.registerWrite 0 (Pg.PFB 0) 0x100 1) speedShown = .next t ∧
    t.dev.rd (Pg.PFB 0) Reg.PFB.SPEED_VALID = 0 := ⟨_, rfl, by decide⟩

/-- A write of CFG field by field leaves SPEED_VALID as it is. -/
theorem plainWrite_keeps_speed :
    (speedShown.dev.plainWrite 0 (Pg.PFB 0) 0x100 1).rd (Pg.PFB 0) Reg.PFB.SPEED_VALID = 1 := by decide

/-- Refutes O12: its first clause counts CFG of a position channel (offset 0x100) among the registers that are written
field by field and nothing more, but a write there that changes MODE also restarts the channel (R371). -/
theorem not_registerWrites : ¬ Obligations.RegisterWrites := by
  unfold Obligations.RegisterWrites
  rintro ⟨plain, -⟩
  have h := plain speedShown 0 (Pg.PFB 0) 0x100 1 (by decide) (by decide) (by decide) (by decide) (by decide) (by decide)
    (by decide) (by decide)
  obtain ⟨t, ht, hspeed⟩ := modeWrite_invalidates_speed
  rw [ht, if_neg (by decide)] at h
  rw [Host.Outcome.next.inj h, withDev_dev, plainWrite_keeps_speed] at hspeed
  exact absurd hspeed (by decide)

/-- Firmware runs at 1 ns of the Timebase, and NOW_NS is marked as a value that sleep cost when it was 1 (R44, R45). -/
def nowBlanked : State :=
  { dev := { tb := 2 ^ 32, brd := { stage := 6 }, pow := { blank := [(regKey Pg.TMB Reg.TMB.NOW_NS_LO 0 0, 1)] } } }

/-- The read shows the reset value of the blanked field. -/
theorem nowNsRead_of_blanked : ∃ t, exec (.nowNsRead 0) nowBlanked = .next t ∧ t.dev.reply = [0] := ⟨_, rfl, by decide⟩

/-- Refutes O13: its clause of NOW_NS holds of every state, and in a state where sleep has cost the field and the
Timebase stands at the value it had then, a read shows the reset value (R44, R45) and not the time. -/
theorem not_registerReads : ¬ Obligations.RegisterReads := by
  unfold Obligations.RegisterReads
  rintro ⟨-, -, -, -, -, -, now⟩
  obtain ⟨t, ht, -, htime, -⟩ := now nowBlanked 0 (by decide) (by decide) (by decide)
  obtain ⟨u, hu, hzero⟩ := nowNsRead_of_blanked
  rw [hu] at ht
  rw [← Host.Outcome.next.inj ht, hzero] at htime
  exact absurd htime (by decide)

/-- Firmware runs, the GPIO page drains for a reset, and pin 0 is high. -/
def gpioDraining : State :=
  { dev := (({ brd := { stage := 6 } } : Dev).wr Pg.GPI Reg.HDR.STATE 3).wr Pg.GPI Reg.GPI.IN 1 }

/-- R43: the reset blanks IN, which shows a condition that the reset does not change. -/
theorem gpioDrained_blanks_in : ∃ t, exec (.pageDrained Pg.GPI) gpioDraining = .next t ∧
    t.dev.pow.blank = [(regKey Pg.GPI Reg.GPI.IN 0 0, 1)] := ⟨_, rfl, by decide⟩

/-- What a frame leaves alone, the marks of blanked fields among it. -/
theorem frame_pow {pgs : List Page} {d t : Dev} (h : Framed pgs d t) : t.pow = d.pow :=
  (congrArg Dev.pow h.1).symm

/-- Refutes O14: its last clause frames the drain of the GPIO page by that page's registers, but the reset also marks IN,
in the power state, as a field that reads its reset value until the pin changes (R38, R43). -/
theorem not_pageControl : ¬ Obligations.PageControl := by
  unfold Obligations.PageControl
  rintro ⟨-, -, -, -, -, -, -, -, -, -, -, -, -, gpio⟩
  obtain ⟨t, ht, hframe, -⟩ := gpio gpioDraining (by decide) (by decide)
  obtain ⟨u, hu, hblank⟩ := gpioDrained_blanks_in
  rw [hu] at ht
  rw [Host.Outcome.next.inj ht, frame_pow hframe] at hblank
  exact absurd hblank (by decide)

end Sys2Proof.Proofs

/-! PROOFS. QuireOrder: a QUIRE_SEAL takes its place in ASN order, before a Quire of a higher ASN that waits (R62). -/

namespace Sys2Proof.Proofs

open Machine Laws

/-- An accepted QUIRE_SEAL of partition 0 for context 0, aimed at the next frame: its ASN, Quire ID and how far it is. -/
def sealOf (asn id : Nat) (phase : Phase) : Cmd :=
  { part := 0, queue := 1, asn := asn, cid := asn, idx := 0, phase := phase,
    entry := [0x88, 0, 0, 0, 0, 0, 0, 0, id, 0, 0, 0, 0, 0, 0, 0] }

/-- Firmware runs, and of two accepted QUIRE_SEALs the one with ASN 5 has started first: its Quire 2 is held back until the
one with ASN 3, which has still to start, has its place (R62). -/
def laterSealed : State :=
  { dev := ((({ brd := { stage := 6 } } : Dev).setCmd (sealOf 3 1 .waiting)).setCmd (sealOf 5 2 .running)).setCtx 0
      { quires := [{ id := 2, asn := 5, target := .frame 0, bank := [] }] } }

theorem laterSealed_starts : Starts (laterSealed.dev.see {}) 0 3 0x88 (sealOf 3 1 .waiting) = true := by decide

/-- R62: Quires are promoted in ASN order, so Quire 1 with ASN 3 joins before Quire 2 with ASN 5. -/
theorem quireSeal_joins_before {t : State} (h : exec (.quireSeal 0 3 {}) laterSealed = .next t) :
    (t.dev.ctx 0).quires.map (fun q => (q.id, q.asn)) = [(1, 3), (2, 5)] := by
  obtain ⟨u, hu, hjoined⟩ : ∃ u, exec (.quireSeal 0 3 {}) laterSealed = .next u ∧
      (u.dev.ctx 0).quires.map (fun q => (q.id, q.asn)) = [(1, 3), (2, 5)] := ⟨_, rfl, by decide⟩
  rw [hu] at h
  rwa [← Host.Outcome.next.inj h]

/-- Refutes O1: its clause of QUIRE_SEAL puts the new Quire behind all others of the context, but one whose ASN is lower
than that of a Quire which waits there joins before that one (R62). -/
theorem not_framesComplete : ¬ Obligations.FramesComplete := by
  unfold Obligations.FramesComplete
  rintro ⟨commands, -⟩
  obtain ⟨-, -, sealed, -⟩ := commands laterSealed _ rfl 0 3 0x88 {} _ (by decide) (by decide) laterSealed_starts
  obtain ⟨t, ht, hbehind⟩ := sealed 0 rfl (by decide) (by decide) (by decide) (by decide) (by decide) (by decide) (by decide)
  rw [quireSeal_joins_before ht] at hbehind
  exact absurd hbehind (by decide)

/-- Refutes O29: its clause of QUIRE_SEAL too puts the new Quire behind all others of the context, whatever their ASNs
(R62). -/
theorem not_contextsAndQuires : ¬ Obligations.ContextsAndQuires := by
  unfold Obligations.ContextsAndQuires
  rintro ⟨-, -, sealed, -⟩
  obtain ⟨t, ht, -, hbehind, -⟩ := sealed laterSealed 0 3 0 {} _ (by decide) (by decide) laterSealed_starts (by decide)
    (by decide) (by decide) (by decide) (by decide) (by decide) (by decide)
  rw [quireSeal_joins_before ht] at hbehind
  exact absurd hbehind (by decide)

end Sys2Proof.Proofs

/-! PROOFS. LineCoding: a receiver undoes stuffing, scrambling and word order, and finds the sync word (R94 to R99). -/

namespace Sys2Proof.Proofs

open Machine Laws Line

/-! ### Scrambling and stuffing -/

/-- A descrambler with the same history takes off what the scrambler added: both see the same line bits (R95). -/
theorem descramble_scramble (h : Nat) (ds : List Bool) : descramble h (scramble h ds) = ds := by
  induction ds generalizing h with
  | nil => rfl
  | cons x r ih => simp [scramble, descramble, ih]

theorem length_scramble (h : Nat) (ds : List Bool) : (scramble h ds).length = ds.length := by
  induction ds generalizing h with
  | nil => rfl
  | cons x r ih => simp [scramble, ih]

/-- One bit that no full run precedes is taken as it is. -/
theorem destuff_short (last : Bool) {n : Nat} {tail : List Bool} (hn : n ≠ 40) (ht : tail.length ≤ 1) :
    destuff last n tail = (tail, false) := by
  match tail, ht with
  | [], _ => rfl
  | [b], _ => simp [destuff, hn]

/-- Destuffing takes out the inserted complements and nothing else, and finds each of them right (R96); a guard bit may
follow, for no full run precedes it. -/
theorem destuff_stuff (last : Bool) (n : Nat) (ds : List Bool) {tail : List Bool} (ht : tail.length ≤ 1) :
    destuff last n (stuff last n ds ++ tail) = (ds ++ tail, false) := by
  induction ds generalizing last n with
  | nil =>
    by_cases hn : n = 40
    · simp [stuff, destuff, hn, destuff_short (!last) (show 1 ≠ 40 by decide) ht]
    · simp [stuff, hn, destuff_short last hn ht]
  | cons b r ih =>
    by_cases hn : n = 40
    · simp [stuff, destuff, hn, ih]
    · simp [stuff, destuff, hn, ih]

/-! ### Words -/

/-- The low `n` bits of a number spell it modulo 2^n. -/
theorem ofBits_testBits (n w : Nat) : ofBits ((List.range n).map w.testBit) = w % 2 ^ n := by
  induction n generalizing w with
  | zero => simp [ofBits, Nat.mod_one]
  | succ n ih =>
    have hrest : ((List.range n).map Nat.succ).map w.testBit = (List.range n).map (w / 2).testBit := by
      simp [Nat.testBit_succ]
    have hbit : b2n (w.testBit 0) = w % 2 := by
      rcases Nat.mod_two_eq_zero_or_one w with h | h <;> simp [b2n, h]
    rw [List.range_succ_eq_map, List.map_cons, hrest, ofBits, ih, hbit, Nat.pow_succ', Nat.mod_mul]

theorem length_wordBits (w : Nat) : (wordBits w).length = 64 := by simp [wordBits]

theorem ofBits_wordBits {w : Nat} (h : w < 2 ^ 64) : ofBits (wordBits w) = w :=
  (ofBits_testBits 64 w).trans (Nat.mod_eq_of_lt h)

theorem words_of_bits {ws : List Nat} (h : ∀ w ∈ ws, w < 2 ^ 64) : words ws.length (ws.flatMap wordBits) = ws := by
  induction ws with
  | nil => rfl
  | cons w r ih =>
    have hw := ofBits_wordBits (h w List.mem_cons_self)
    have hr := ih fun x hx => h x (List.mem_cons_of_mem w hx)
    simp [words, List.take_left' (length_wordBits w), List.drop_left' (length_wordBits w), hw, hr]

theorem length_bits (ws : List Nat) : (ws.flatMap wordBits).length = 64 * ws.length := by
  induction ws with
  | nil => rfl
  | cons w r ih =>
    rw [List.flatMap_cons, List.length_append, length_wordBits, ih, List.length_cons]
    omega

/-! ### The CRC word -/

theorem crcBit_lt {p c : Nat} (hp : p < 2 ^ 32) (hc : c < 2 ^ 32) : crcBit p c < 2 ^ 32 := by
  have half : c / 2 < 2 ^ 32 := Nat.lt_of_le_of_lt (Nat.div_le_self c 2) hc
  unfold crcBit
  split
  · exact Nat.xor_lt_two_pow half hp
  · exact half

theorem crcByte_lt {p c : Nat} (b : Byte) (hp : p < 2 ^ 32) (hc : c < 2 ^ 32) : crcByte p c b < 2 ^ 32 := by
  have start : c ^^^ b.toNat < 2 ^ 32 := Nat.xor_lt_two_pow hc (Nat.lt_trans b.isLt (by decide))
  exact crcBit_lt hp <| crcBit_lt hp <| crcBit_lt hp <| crcBit_lt hp <| crcBit_lt hp <| crcBit_lt hp <| crcBit_lt hp <|
    crcBit_lt hp start

theorem crc32_lt {p : Nat} (bs : List Byte) (hp : p < 2 ^ 32) : crc32 p bs < 2 ^ 32 := by
  have run : ∀ (l : List Byte) (c : Nat), c < 2 ^ 32 → l.foldl (crcByte p) c < 2 ^ 32 := by
    intro l
    induction l with
    | nil => exact fun _ hc => hc
    | cons b r ih => exact fun c hc => ih _ (crcByte_lt b hp hc)
  exact Nat.xor_lt_two_pow (run bs _ (by decide)) (by decide)

theorem crcWord_lt (ws : List Nat) : crcWord ws < 2 ^ 64 := Nat.lt_trans (crc32_lt _ (by decide)) (by decide)

/-! ### Gatherings -/

theorem length_syncBits (tag : Nat) : (syncBits tag).length = 64 := by simp [syncBits]

/-- The 56 ones of a sync word, then bit 7 of its tag (R97). -/
theorem take_syncBits (tag : Nat) (rest : List Bool) : (syncBits tag ++ rest).take 56 = List.replicate 56 true := by
  rw [syncBits, List.append_assoc]
  exact List.take_left' List.length_replicate

theorem getD_syncBits {tag : Nat} (rest : List Bool) (h : tag < 128) : (syncBits tag ++ rest).getD 56 true = false := by
  have bit : tag.testBit 7 = false := Nat.testBit_lt_two_pow h
  rw [syncBits, List.append_assoc, List.getD_eq_getElem?_getD,
    List.getElem?_append_right (Nat.le_of_eq List.length_replicate), List.length_replicate]
  exact bit

/-- The receiver reads the tag off the sync word. -/
theorem tag_of_syncBits {tag : Nat} (rest : List Bool) (h : tag < 128) :
    ofBits (((syncBits tag ++ rest).drop 56).take 8).reverse = tag := by
  have hbits : (((syncBits tag ++ rest).drop 56).take 8).reverse = (List.range 8).map tag.testBit := by
    rw [syncBits, List.append_assoc, List.drop_left' List.length_replicate]
    rfl
  rw [hbits, ofBits_testBits, Nat.mod_eq_of_lt (Nat.lt_trans h (by decide))]

/-- What a receiver makes of a sync word, the line bits of 255 words, and a guard bit or none. -/
theorem receive_line (h : Nat) {tag : Nat} {ws : List Nat} {guard : List Bool} (htag : tag < 128) (hlen : ws.length = 255)
    (hws : ∀ w ∈ ws, w < 2 ^ 64) (hguard : guard.length ≤ 1) :
    receive false h (syncBits tag ++ (stuff false 0 (scramble h (ws.flatMap wordBits)) ++ guard)) =
      { tag := tag, words := ws, good := decide (ws.getD 254 0 = crcWord (ws.take 254)),
        history := after h (scramble h (ws.flatMap wordBits)) } := by
  have hdrop : ∀ rest, (syncBits tag ++ rest).drop 64 = rest := fun _ => List.drop_left' (length_syncBits tag)
  have htake : (scramble h (ws.flatMap wordBits) ++ guard).take 16320 = scramble h (ws.flatMap wordBits) :=
    List.take_left' (by rw [length_scramble, length_bits, hlen])
  have hwords : words 255 (descramble h (scramble h (ws.flatMap wordBits))) = ws := by
    rw [descramble_scramble, ← hlen, words_of_bits hws]
  have hall : (List.replicate 56 true).all id = true := by decide
  have hlong : ∀ rest, (syncBits tag ++ rest).length ≥ 64 := fun rest => by
    rw [List.length_append, length_syncBits]
    exact Nat.le_add_right 64 _
  simp only [receive, Bool.false_eq_true, if_false, hdrop, destuff_stuff false 0 _ hguard, htake, hwords, take_syncBits, hall,
    getD_syncBits _ htag, tag_of_syncBits _ htag, hlong, decide_true, Bool.not_false, Bool.and_true, Bool.true_and]

/-- A gathering on the line: its sync word, its 255 words scrambled and stuffed, and a guard bit or none (R97). -/
theorem encode_line (h tag : Nat) (ws : List Nat) : ∃ guard : List Bool, guard.length ≤ 1 ∧
    encode h tag ws =
      syncBits tag ++ (stuff false 0 (scramble h ((ws ++ [crcWord ws]).flatMap wordBits)) ++ guard) := by
  refine ⟨_, ?_, List.append_assoc _ _ _⟩
  split <;> simp

/-- A receiver of inverted polarity turns the inverted line bits back (R97). -/
theorem receive_inverted (h : Nat) (line : List Bool) : receive true h (line.map fun b => !b) = receive false h line := by
  simp [receive, Function.comp_def]

/-- Settles O26: each stage of the receiver undoes its stage of the transmitter. -/
theorem lineCodingRoundTrip : Obligations.LineCodingRoundTrip := by
  unfold Obligations.LineCodingRoundTrip
  refine ⟨fun h tag ws htag hlen hws => ?_, fun h tag ws _ _ _ => receive_inverted h _⟩
  obtain ⟨guard, hguard, hline⟩ := encode_line h tag ws
  have hsmall : ∀ w ∈ ws ++ [crcWord ws], w < 2 ^ 64 := fun w hw => by
    rcases List.mem_append.mp hw with hw | hw
    · exact of_decide_eq_true (List.all_eq_true.mp hws w hw)
    · exact List.mem_singleton.mp hw ▸ crcWord_lt ws
  rw [hline, receive_line h htag (by simp [hlen]) hsmall hguard]
  have hcrc : (ws ++ [crcWord ws]).getD 254 0 = crcWord ((ws ++ [crcWord ws]).take 254) := by
    rw [List.take_left' hlen]
    simp [hlen]
  exact ⟨rfl, rfl, decide_eq_true hcrc⟩

end Sys2Proof.Proofs

/-! PROOFS. Lanes: registers of physical lanes, and what leaving ACTIVE writes (R119, R122, R123). -/

namespace Sys2Proof.Proofs

open Machine Laws

/-! ### Registers of a lane -/

/-- The fields that every physical lane has, one element a lane. -/
def laneFields : List Fld :=
  [Reg.HLQ.LOOPBACK, Reg.HLQ.PRBS_GEN, Reg.HLQ.PRBS_CHK, Reg.HLQ.TX_POL, Reg.HLQ.SIG_DET, Reg.HLQ.CDR_LOCK, Reg.HLQ.SYNC_LOCK,
   Reg.HLQ.PRBS_LOCK, Reg.HLQ.RX_INVERTED, Reg.HLQ.FE_REFUSED, Reg.HLQ.LOGICAL, Reg.HLQ.LOCK_LOSS_CNT, Reg.HLQ.PRBS_ERR_LO,
   Reg.HLQ.PRBS_ERR_HI, Reg.HLQ.PRBS_BITS_LO, Reg.HLQ.PRBS_BITS_HI, Reg.HLQ.TX_PRE, Reg.HLQ.TX_POST, Reg.HLQ.TX_SWING,
   Reg.HLQ.FE_DURATION]

/-- A lane's fields lie in its block of 0x40 bytes from 0x100 on. -/
theorem laneField_place {F : Fld} (h : F ∈ laneFields) : fits F = true ∧ F.lo < 32 ∧
    ∀ i j, F.at (i % F.cnt) (j % F.cnt2) / 4 = F.off / 4 + 16 * (i % 4) ∧ F.off / 4 + 16 * (i % 4) < 0x300 / 4 := by
  have k : ∀ G ∈ laneFields, fits G = true ∧ G.lo < 32 ∧ G.off / 4 < 0x48 ∧ G.off % 4 = 0 ∧ G.cnt = 4 ∧ G.st = 0x40 ∧
      G.cnt2 = 1 ∧ G.st2 = 0 := by decide
  obtain ⟨hfits, hlo, hoff, halign, hcnt, hst, hcnt2, hst2⟩ := k F h
  refine ⟨hfits, hlo, fun i j => ?_⟩
  simp only [Fld.at, hcnt, hst, hcnt2, hst2]
  omega

theorem laneField_fits {F : Fld} (h : F ∈ laneFields) : fits F = true := (laneField_place h).1

/-- A write to one field of an element leaves its other fields alone. -/
theorem rd_wr_laneField (d : Dev) (pg : Page) {F G : Fld} (v i : Nat) (hF : F ∈ laneFields) (hG : G ∈ laneFields)
    (h : F.off / 4 ≠ G.off / 4 ∨ F.lo ≠ G.lo) : (d.wr pg G v i).rd pg F i = d.rd pg F i := by
  obtain ⟨-, hlo, hat⟩ := laneField_place hF
  obtain ⟨-, hlo', hat'⟩ := laneField_place hG
  refine rd_wr_ne d v ?_
  rw [regKey, regKey, (hat i 0).1, (hat' i 0).1]
  omega

@[simp] theorem lane_setLane_same (d : Dev) (l : Nat) (F : Fld) (v : Nat) : (d.setLane l F v).lane l F = v % 2 ^ F.width :=
  rd_wr_same _ _ _ _ _ _

theorem lane_setLane_ne (d : Dev) (l : Nat) {F G : Fld} (v : Nat) (hF : F ∈ laneFields) (hG : G ∈ laneFields)
    (h : F.off / 4 ≠ G.off / 4 ∨ F.lo ≠ G.lo) : (d.setLane l G v).lane l F = d.lane l F :=
  rd_wr_laneField d _ v _ hF hG h

theorem setLane_still (d : Dev) (l : Nat) {F : Fld} (v : Nat) (hF : F ∈ laneFields) :
    Still [(quad l).1] d (d.setLane l F v) :=
  wr_still d v _ _ (laneField_fits hF) (by simp)

/-- No page of a lane quad is one of another family that Head Link or a report writes. -/
theorem quad_notMem (l : Nat) : (quad l).1 ∉ [Pg.EVT, Pg.SYS, Pg.NVS] ++ (Pg.hlls ++ Pg.ings ++ Pg.fes) := by
  have k : ∀ n < 9, 0x10 + n ∉ [Pg.EVT, Pg.SYS, Pg.NVS] ++ (Pg.hlls ++ Pg.ings ++ Pg.fes) := by decide
  exact k _ (Nat.mod_lt _ (by decide))

/-- The page of a group slot is one of eight. -/
theorem slotOf_mem (g : Nat) : (slotOf g).1 ∈ Pg.hlls := by
  have k : ∀ n < 8, 0x20 + n ∈ Pg.hlls := by decide
  exact k _ (Nat.mod_lt _ (by decide))

theorem slotOf_notMem (g : Nat) : (slotOf g).1 ∉ [Pg.EVT, Pg.SYS, Pg.NVS] ++ Pg.fes ++ Pg.hlqs := by
  have k : ∀ n < 8, 0x20 + n ∉ [Pg.EVT, Pg.SYS, Pg.NVS] ++ Pg.fes ++ Pg.hlqs := by decide
  exact k _ (Nat.mod_lt _ (by decide))

theorem quad_mem (l : Nat) : (quad l).1 ∈ Pg.hlqs := by
  have k : ∀ n < 9, 0x10 + n ∈ Pg.hlqs := by decide
  exact k _ (Nat.mod_lt _ (by decide))

theorem ing_mem (n : Nat) : Pg.ING n ∈ Pg.ings := by
  have k : ∀ m < 4, 0x2C + m ∈ Pg.ings := by decide
  exact k _ (Nat.mod_lt _ (by decide))

/-- A lane's fields read as before where no lane quad is written. -/
theorem lane_of_regsBut {d t : Dev} {pgs : List Page} (l : Nat) {F : Fld} (hF : F ∈ laneFields)
    (hpgs : ∀ x ∈ pgs, x ∈ [Pg.EVT, Pg.SYS, Pg.NVS] ++ (Pg.hlls ++ Pg.ings ++ Pg.fes)) (h : t.regsBut pgs = d.regsBut pgs) :
    t.lane l F = d.lane l F :=
  rd_regsBut _ _ (laneField_fits hF) (fun hmem => quad_notMem l (hpgs _ hmem)) h

/-- A group's state reads as before where no group slot is written. -/
theorem grpState_of_regsBut {d t : Dev} {pgs : List Page} (g : Nat)
    (hpgs : ∀ x ∈ pgs, x ∈ [Pg.EVT, Pg.SYS, Pg.NVS] ++ Pg.fes ++ Pg.hlqs) (h : t.regsBut pgs = d.regsBut pgs) :
    t.grpState g = d.grpState g :=
  rd_regsBut _ _ (by decide) (fun hmem => slotOf_notMem g (hpgs _ hmem)) h

/-! ### Writes -/

/-- A taken write of a block register applies its change: no page's interrupt registers lie there. -/
theorem checkedWrite_block {d : Dev} {f pg o : Nat} (k : Dev → Dev) (h : Taken d f pg o = true) (ho : 0x100 ≤ o) :
    d.checkedWrite f pg o k = k d := by
  have hplain : o ∉ [0x018, 0x01C, 0x020, 0x028] := by simp; omega
  rw [checkedWrite_taken _ _ _ _ _ h, if_neg hplain]

/-! ### Frames of Head Link -/

/-- `t` is `d` but for captures, registers of `pgs`, and what reports reach. -/
def LinkFramed (pgs : List Page) (d t : Dev) : Prop := Framed pgs { d with cap := t.cap } t

theorem LinkFramed.trans {pgs : List Page} {d t u : Dev} (h : LinkFramed pgs d t) (k : LinkFramed pgs t u) :
    LinkFramed pgs d u := by
  refine ⟨?_, k.2.trans h.2⟩
  have a := h.1
  have b := k.1
  rw [← a] at b
  exact b

theorem LinkFramed.of_framed {pgs : List Page} {d t : Dev} (h : Framed pgs d t) : LinkFramed pgs d t := by
  obtain ⟨a, b⟩ := h
  refine ⟨?_, b⟩
  rw [← a]; rfl

theorem LinkFramed.mono {pgs qs : List Page} {d t : Dev} (h : ∀ x ∈ pgs, x ∈ qs) (k : LinkFramed pgs d t) :
    LinkFramed qs d t := frame_mono h k

theorem LinkFramed.refl (pgs : List Page) (d : Dev) : LinkFramed pgs d d := frame_refl pgs d

theorem LinkFramed.of_still {pgs : List Page} {d t : Dev} (h : Still pgs d t) : LinkFramed pgs d t :=
  .of_framed (frame_of_still h)

theorem LinkFramed.lane {pgs : List Page} {d t : Dev} (h : LinkFramed pgs d t) (l : Nat) {F : Fld} (hF : F ∈ laneFields)
    (hpgs : ∀ x ∈ Pg.EVT :: Pg.SYS :: Pg.NVS :: pgs, x ∈ [Pg.EVT, Pg.SYS, Pg.NVS] ++ (Pg.hlls ++ Pg.ings ++ Pg.fes)) :
    t.lane l F = d.lane l F := lane_of_regsBut l hF hpgs h.2

theorem LinkFramed.grpState {pgs : List Page} {d t : Dev} (h : LinkFramed pgs d t) (g : Nat)
    (hpgs : ∀ x ∈ Pg.EVT :: Pg.SYS :: Pg.NVS :: pgs, x ∈ [Pg.EVT, Pg.SYS, Pg.NVS] ++ Pg.fes ++ Pg.hlqs) :
    t.grpState g = d.grpState g := grpState_of_regsBut g hpgs h.2

theorem cap_framed (pgs : List Page) (d : Dev) (c : CaptureSt) : LinkFramed pgs d { d with cap := c } := ⟨rfl, rfl⟩

theorem setGroup_framed (pgs : List Page) (d : Dev) (g : Nat) (x : Group) : LinkFramed pgs d (d.setGroup g x) :=
  cap_framed _ _ _

theorem setHead_framed (pgs : List Page) (d : Dev) (h : Nat) (x : Head) : LinkFramed pgs d (d.setHead h x) := cap_framed _ _ _

/-- Reports leave captures alone. -/
theorem frame_cap {pgs : List Page} {d t : Dev} (h : Framed pgs d t) : t.cap = d.cap := (congrArg Dev.cap h.1).symm

@[simp] theorem group_setGroup (d : Dev) (g : Nat) (x : Group) : (d.setGroup g x).group g = x := get_set_same _ _ _ _

/-! ### A group that stops -/

theorem closeFrame_of_no_frames {d : Dev} (k : Nat) (c : CloseCause) (h : d.cap.frames = []) : d.closeFrame k c = d := by
  simp [Dev.closeFrame, Dev.frame?, h, Assoc.find]

/-- What unbinding leaves where no frame is open: no frame, and all but captures and the registers of lane groups and ingest
units. -/
def Unbinds (d t : Dev) : Prop := t.cap.frames = [] ∧ LinkFramed (Pg.hlls ++ Pg.ings) d t

theorem Unbinds.trans {d t u : Dev} (h : Unbinds d t) (k : Unbinds t u) : Unbinds d u :=
  ⟨k.1, h.2.trans k.2⟩

/-- Taking a head off its VC, in the registers and in the captures. -/
theorem release_unbinds {d : Dev} (g hd : Nat) (x : Head) (y : Group) (v : Nat) (h : d.cap.frames = []) :
    Unbinds d ((((d.setAdmit hd 0).setHead hd x).setGroup g y).setGrp g Reg.HLL.VC_BOUND v) := by
  have hadmit := wr_still d (pgs := Pg.hlls ++ Pg.ings) (F := Reg.ING.ADMIT) 0 hd 0 (by decide)
    (List.mem_append_right _ (ing_mem (d.unitOf hd)))
  have hbound := wr_still (((d.setAdmit hd 0).setHead hd x).setGroup g y) (pgs := Pg.hlls ++ Pg.ings)
    (F := Reg.HLL.VC_BOUND) v (slotOf g).2 0 (by decide) (List.mem_append_left _ (slotOf_mem g))
  exact ⟨h, (((LinkFramed.of_still hadmit).trans (setHead_framed _ _ _ _)).trans (setGroup_framed _ _ _ _)).trans
    (.of_still hbound)⟩

theorem unbindVc_unbinds {d : Dev} (g vc : Nat) (h : d.cap.frames = []) : Unbinds d (d.unbindVc g vc) := by
  cases hvc : Assoc.find (d.group g).vcs vc with
  | none =>
    simp only [Dev.unbindVc, hvc]
    exact ⟨h, .refl _ _⟩
  | some b =>
    cases hopen : Assoc.find (d.group g).openFrames vc with
    | none =>
      simp only [Dev.unbindVc, hvc, hopen]
      exact release_unbinds _ _ _ _ _ h
    | some k =>
      simp only [Dev.unbindVc, hvc, hopen, closeFrame_of_no_frames _ _ h]
      exact release_unbinds _ _ _ _ _ h

theorem unbindAll_unbinds {d : Dev} (g : Nat) (h : d.cap.frames = []) : Unbinds d (d.unbindAll g) := by
  have all : ∀ (l : List Nat) (d : Dev), d.cap.frames = [] → Unbinds d (l.foldl (fun d v => d.unbindVc g v) d) := by
    intro l
    induction l with
    | nil => exact fun d h => ⟨h, .refl _ _⟩
    | cons v r ih => exact fun d h => (unbindVc_unbinds g v h).trans (ih _ (unbindVc_unbinds g v h).1)
  exact all _ d h

/-- A spare's registers lie behind those of the lanes. -/
theorem lane_wr_spare (d : Dev) (l : Nat) {F G : Fld} (v s : Nat) (hF : F ∈ laneFields)
    (hG : G ∈ [Reg.HLQ.SPARE_IN_USE, Reg.HLQ.SPARE_REPLACED]) : (d.wr sparePage G v s).lane l F = d.lane l F := by
  have k : ∀ G ∈ [Reg.HLQ.SPARE_IN_USE, Reg.HLQ.SPARE_REPLACED], fits G = true ∧ G.lo < 32 ∧ 0x300 ≤ G.off := by decide
  obtain ⟨hfits, hlo', hoff⟩ := k G hG
  obtain ⟨-, hlo, hat⟩ := laneField_place hF
  obtain ⟨hplace, hbelow⟩ := hat (quad l).2 0
  have hlt := at_lt hfits s 0
  have hge : G.off ≤ G.at (s % G.cnt) (0 % G.cnt2) := Nat.le_trans (Nat.le_add_right _ _) (Nat.le_add_right _ _)
  refine rd_wr_ne d v ?_
  rw [regKey, regKey, hplace]
  omega

/-- A switch that stands is noted in the lane group and with the spares. -/
theorem retireLane_still (d : Dev) (l s : Nat) : Still Pg.stops d (d.retireLane l s) := by
  have hgroup : Pg.HLL (l / 4) ∈ Pg.stops :=
    List.mem_cons_of_mem _ (List.mem_append_left _ (List.mem_append_left _ (slotOf_mem l)))
  exact still_trans (wr_still _ _ _ _ (by decide) hgroup)
    (still_trans (wr_still _ _ _ _ (by decide) (List.mem_cons_self ..)) (wr_still _ _ _ _ (by decide) (List.mem_cons_self ..)))

theorem retireLane_cap (d : Dev) (l s : Nat) : (d.retireLane l s).cap = d.cap := rfl

theorem lane_retireLane (d : Dev) (p l s : Nat) {F : Fld} (hF : F ∈ laneFields) :
    (d.retireLane l s).lane p F = d.lane p F := by
  have hretired : (d.wr (Pg.HLL (l / 4)) Reg.HLL.RETIRED 1 (l % 4)).lane p F = d.lane p F :=
    lane_of_regsBut (pgs := Pg.hlls) p hF (by decide) (wr_regsBut _ _ _ _ (by decide) (slotOf_mem l))
  exact (lane_wr_spare _ p _ _ hF (by decide)).trans ((lane_wr_spare _ p _ _ hF (by decide)).trans hretired)

/-- What a group that stops leaves where no frame is open (R119, R122). -/
structure GroupStopped (g : Nat) (d t : Dev) : Prop where
  framed : LinkFramed Pg.stops d t
  no_frames : t.cap.frames = []
  no_unacked : (t.group g).unacked = []
  lanes : ∀ p, ∀ F ∈ laneFields, t.lane p F = d.lane p F

/-- What follows the stop and touches neither captures nor lanes keeps it. -/
theorem GroupStopped.followed {g : Nat} {d t u : Dev} (h : GroupStopped g d t) (hcap : u.cap = t.cap)
    (hframed : LinkFramed Pg.stops t u) (hlanes : ∀ p, ∀ F ∈ laneFields, u.lane p F = t.lane p F) : GroupStopped g d u where
  framed := h.framed.trans hframed
  no_frames := hcap ▸ h.no_frames
  no_unacked := by rw [Dev.group, hcap]; exact h.no_unacked
  lanes p F hF := (hlanes p F hF).trans (h.lanes p F hF)

/-- Reports and writes to lane groups keep it. -/
theorem GroupStopped.report {g : Nat} {d t u : Dev} (h : GroupStopped g d t) (k : Framed Pg.hlls t u) : GroupStopped g d u :=
  h.followed (frame_cap k) ((LinkFramed.of_framed k).mono (by decide)) fun p _ hF => lane_of_regsBut p hF (by decide) k.2

theorem stopGroup_stopped {d : Dev} (g : Nat) (h : d.cap.frames = []) : GroupStopped g d (d.stopGroup g) := by
  obtain ⟨hnone, hframed⟩ := unbindAll_unbinds g h
  have hlanes : ∀ p, ∀ F ∈ laneFields, (d.unbindAll g).lane p F = d.lane p F := fun p F hF =>
    hframed.lane p hF (by decide)
  have cleared : ∀ (r : Dev) (x : Group), r.cap = (d.unbindAll g).cap → LinkFramed Pg.stops (d.unbindAll g) r →
      (∀ p, ∀ F ∈ laneFields, r.lane p F = (d.unbindAll g).lane p F) → x.unacked = [] →
      GroupStopped g d (if d.grpState g = ACTIVE then (r.setGroup g x).raise (slotOf g).1 0 else r.setGroup g x) := by
    intro r x hcap hrframed hrlanes hx
    have hstopped : GroupStopped g d (r.setGroup g x) :=
      { framed := ((hframed.mono (by decide)).trans hrframed).trans (setGroup_framed _ _ _ _)
        no_frames := by rw [← hnone, ← hcap]; rfl
        no_unacked := by rw [group_setGroup, hx]
        lanes := fun p F hF => (hrlanes p F hF).trans (hlanes p F hF) }
    split
    · exact hstopped.report (raise_frame _ _ _ (by simp [slotOf_mem]))
    · exact hstopped
  cases hspare : ((d.unbindAll g).group g).sparing with
  | none =>
    simp only [Dev.stopGroup, hspare]
    exact cleared _ _ rfl (.refl _ _) (fun _ _ _ => rfl) rfl
  | some s =>
    by_cases hswitched : s.switched = true
    · simp only [Dev.stopGroup, hspare, if_pos hswitched]
      exact cleared _ _ (retireLane_cap _ _ _) (.of_still (retireLane_still _ _ _))
        (fun p F hF => lane_retireLane _ _ _ _ hF) rfl
    · simp only [Dev.stopGroup, hspare, if_neg hswitched]
      exact cleared _ _ rfl (.refl _ _) (fun _ _ _ => rfl) rfl

/-- Entering TEST stops the group, and the report of a failed group leaves its state TEST (R119, R123). -/
theorem enterTest_stopped {d : Dev} (g : Nat) (h : d.cap.frames = []) :
    GroupStopped g d (d.enterTest g) ∧ (d.enterTest g).grpState g = TEST := by
  have hstate : ((d.stopGroup g).setGrpState g TEST).grpState g = TEST := rd_wr_same _ _ _ _ _ _
  have hstopped : GroupStopped g d ((d.stopGroup g).setGrpState g TEST) :=
    (stopGroup_stopped g h).report (wr_frame _ _ _ _ (by decide) (by simp [slotOf_mem]))
  unfold Dev.enterTest
  dsimp only
  split
  · have hevent := fun c k l n => event_frame [] ((d.stopGroup g).setGrpState g TEST) 0 (slotOf g).1 c k l n
    exact ⟨hstopped.report (frame_mono (by decide) (hevent _ _ _ _)),
      (grpState_of_regsBut g (by decide) (hevent _ _ _ _).2).trans hstate⟩
  · exact ⟨hstopped, hstate⟩

/-! ### What settles afterwards -/

theorem noteQueues_still (d : Dev) : Still Pg.fes d d.noteQueues := by
  have all : ∀ (l : List Nat) (d : Dev), (∀ n ∈ l, Pg.FE n 0 ∈ Pg.fes) → Still Pg.fes d (l.foldl (fun d n =>
      d.wr (Pg.FE n 0) Reg.FE_CTL.QUEUE_MAX (max (d.rd (Pg.FE n 0) Reg.FE_CTL.QUEUE_MAX) (d.sectionQueue n))) d) := by
    intro l
    induction l with
    | nil => exact fun d _ => still_refl _ d
    | cons n r ih =>
      exact fun d h => still_trans (wr_still d _ _ _ (by decide) (h n List.mem_cons_self))
        (ih _ fun m hm => h m (List.mem_cons_of_mem n hm))
  exact all _ d (by decide)

theorem settleClosed_still {d : Dev} (h : d.cap.frames = []) : Still Pg.fes d d.settleClosed := by
  have hsettled : d.settleClosed = d.noteQueues := by simp [Dev.settleClosed, h]
  exact hsettled ▸ noteQueues_still d

/-- Settling writes the queues of Sections: lanes, groups and captures stay. -/
theorem settleClosed_spec {d : Dev} (h : d.cap.frames = []) : Still Pg.fes d d.settleClosed ∧ d.settleClosed.cap = d.cap ∧
    (∀ p, ∀ F ∈ laneFields, d.settleClosed.lane p F = d.lane p F) ∧ ∀ g, d.settleClosed.grpState g = d.grpState g := by
  have hstill := settleClosed_still h
  exact ⟨hstill, (congrArg Dev.cap hstill.1).symm,
    fun p F hF => lane_of_regsBut p hF (by decide) hstill.2,
    fun g => grpState_of_regsBut g (by decide) hstill.2⟩

end Sys2Proof.Proofs

/-! PROOFS. TestModes: writes of LANE_CTRL, and PRBS checkers (R123 to R125). -/

namespace Sys2Proof.Proofs

open Machine Laws

/-! ### LANE_CTRL -/

theorem laneCtrlWrite_taken {d : Dev} {f lane : Nat} (v : Nat) (h : Taken d f (quad lane).1 (0x100 + 0x40 * (lane % 4)) = true) :
    d.laneCtrlWrite f lane v = d.laneCtrl lane v :=
  checkedWrite_block _ h (Nat.le_add_right _ _)

/-- A LOOPBACK write that is taken. -/
theorem loopback_runs {s : State} {f lane v : Nat} (hf : f < 64) (hlane : lane < 36) (hv : v < 2 ^ 32)
    (h : Taken s.dev f (quad lane).1 (0x100 + 0x40 * (lane % 4)) = true) :
    exec (.loopback f lane v) s = .next (s.withDev (s.dev.laneCtrl lane v).settleClosed) := by
  have hok : Instr.wellFormed (.loopback f lane v) = true := by
    have hv : v < 4294967296 := hv
    simp [Instr.wellFormed, hf, hlane, hv]
  simp only [exec, execLoopback, hok]
  rw [runCmd_ok _ _ (taken_runs h), laneCtrlWrite_taken v h]

/-- A FAR_END_LOOPBACK write that is taken. -/
theorem farEndLoopback_runs {s : State} {f lane v : Nat} (hf : f < 64) (hlane : lane < 36) (hv : v < 2 ^ 32)
    (h : Taken s.dev f (quad lane).1 (0x100 + 0x40 * (lane % 4)) = true) :
    exec (.farEndLoopback f lane v) s = .next (s.withDev (s.dev.laneCtrl lane v)) := by
  have hok : Instr.wellFormed (.farEndLoopback f lane v) = true := by
    have hv : v < 4294967296 := hv
    simp [Instr.wellFormed, hf, hlane, hv]
  simp only [exec, execFarEndLoopback, hok]
  rw [runCmd_ok _ _ (taken_runs h), laneCtrlWrite_taken v h]

/-- The fields of LANE_CTRL take the bits written; a change of PRBS_CHK restarts the checker (R123, R124). -/
structure LaneCtrlTaken (lane v : Nat) (d t : Dev) : Prop where
  framed : LinkFramed [(quad lane).1] d t
  cap : ∃ l, t.cap = { d.cap with prbs := l }
  loopback : t.lane lane Reg.HLQ.LOOPBACK = bits v 0 3
  gen : t.lane lane Reg.HLQ.PRBS_GEN = bits v 4 3
  chk : t.lane lane Reg.HLQ.PRBS_CHK = bits v 8 3
  pol : t.lane lane Reg.HLQ.TX_POL = bits v 16 1

/-- The four writes of the fields, on a device whose checker is as it was or restarted. -/
theorem laneCtrlWrites_taken {d e : Dev} (lane v : Nat) (hframed : LinkFramed [(quad lane).1] d e)
    (hcap : ∃ l, e.cap = { d.cap with prbs := l }) :
    LaneCtrlTaken lane v d ((((e.setLane lane Reg.HLQ.LOOPBACK (bits v 0 3)).setLane lane Reg.HLQ.PRBS_GEN (bits v 4 3)).setLane
      lane Reg.HLQ.PRBS_CHK (bits v 8 3)).setLane lane Reg.HLQ.TX_POL (bits v 16 1)) := by
  have hstill := still_trans (setLane_still e lane (F := Reg.HLQ.LOOPBACK) (bits v 0 3) (by decide)) <|
    still_trans (setLane_still _ lane (F := Reg.HLQ.PRBS_GEN) (bits v 4 3) (by decide)) <|
    still_trans (setLane_still _ lane (F := Reg.HLQ.PRBS_CHK) (bits v 8 3) (by decide)) <|
    setLane_still _ lane (F := Reg.HLQ.TX_POL) (bits v 16 1) (by decide)
  have hbits : ∀ i w, bits v i w % 2 ^ w = bits v i w := fun _ _ => Nat.mod_mod _ _
  refine ⟨hframed.trans (.of_still hstill), hcap, ?loopback, ?gen, ?chk, ?pol⟩ <;>
    simp (disch := decide) only [lane_setLane_ne, lane_setLane_same] <;> exact hbits _ _

theorem laneCtrlFields_taken (d : Dev) (lane v : Nat) : LaneCtrlTaken lane v d (d.laneCtrlFields lane v) := by
  by_cases hchk : d.lane lane Reg.HLQ.PRBS_CHK = bits v 8 3
  · simp only [Dev.laneCtrlFields, if_pos hchk]
    exact laneCtrlWrites_taken lane v (.refl _ _) ⟨_, rfl⟩
  · simp only [Dev.laneCtrlFields, if_neg hchk]
    have hlock := setLane_still { d with cap := { d.cap with prbs := Assoc.del d.cap.prbs lane } } lane
      (F := Reg.HLQ.PRBS_LOCK) 0 (by decide)
    exact laneCtrlWrites_taken lane v ((cap_framed _ _ _).trans (.of_still hlock)) ⟨_, rfl⟩

/-- LANE_CTRL changes no lane group. -/
theorem LaneCtrlTaken.group {lane v : Nat} {d t : Dev} (h : LaneCtrlTaken lane v d t) (g : Nat) : t.group g = d.group g := by
  obtain ⟨l, hl⟩ := h.cap
  simp only [Dev.group, hl]

theorem LaneCtrlTaken.no_frames {lane v : Nat} {d t : Dev} (h : LaneCtrlTaken lane v d t) (hd : d.cap.frames = []) :
    t.cap.frames = [] := by
  obtain ⟨l, hl⟩ := h.cap
  rw [hl, hd]

theorem LaneCtrlTaken.grpState {lane v : Nat} {d t : Dev} (h : LaneCtrlTaken lane v d t) (g : Nat) :
    t.grpState g = d.grpState g :=
  h.framed.grpState g (by simp [quad_mem])

/-- LANE_CTRL of a lane in no group takes its fields, and nothing follows (R123). -/
theorem loopback_of_no_group {s : State} {f lane v : Nat} (hf : f < 64) (hlane : lane < 36) (hv : v < 2 ^ 32)
    (hframes : s.dev.cap.frames = []) (htaken : Taken s.dev f (quad lane).1 (0x100 + 0x40 * (lane % 4)) = true)
    (hnone : s.dev.groupOfLane (s.dev.lane lane Reg.HLQ.LOGICAL) = none) (hloop : bits v 0 3 ≠ 4) :
    ∃ t, exec (.loopback f lane v) s = .next t ∧ LinkFramed ([(quad lane).1] ++ Pg.fes) s.dev t.dev ∧
      t.dev.lane lane Reg.HLQ.LOOPBACK = bits v 0 3 ∧ t.dev.lane lane Reg.HLQ.PRBS_GEN = bits v 4 3 ∧
      t.dev.lane lane Reg.HLQ.PRBS_CHK = bits v 8 3 ∧ t.dev.lane lane Reg.HLQ.TX_POL = bits v 16 1 := by
  refine ⟨_, loopback_runs hf hlane hv htaken, ?_⟩
  have hcases : s.dev.laneCtrl lane v = s.dev.laneCtrlFields lane v := by simp [Dev.laneCtrl, hnone, hloop]
  have hfields := laneCtrlFields_taken s.dev lane v
  obtain ⟨hstill, -, hlanes, -⟩ := settleClosed_spec (hfields.no_frames hframes)
  rw [withDev_dev, hcases]
  refine ⟨(hfields.framed.mono (List.subset_append_left _ _)).trans
    ((LinkFramed.of_still hstill).mono (List.subset_append_right _ _)), ?_, ?_, ?_, ?_⟩
  · exact (hlanes lane _ (by decide)).trans hfields.loopback
  · exact (hlanes lane _ (by decide)).trans hfields.gen
  · exact (hlanes lane _ (by decide)).trans hfields.chk
  · exact (hlanes lane _ (by decide)).trans hfields.pol

/-- A near-end loopback on a lane of a group takes the group to TEST (R123). -/
theorem loopback_enters_test {s : State} {f lane v g : Nat} (hf : f < 64) (hlane : lane < 36) (hv : v < 2 ^ 32)
    (hframes : s.dev.cap.frames = []) (htaken : Taken s.dev f (quad lane).1 (0x100 + 0x40 * (lane % 4)) = true)
    (hgroup : s.dev.groupOfLane (s.dev.lane lane Reg.HLQ.LOGICAL) = some g) (hloop : bits v 0 3 = 1)
    (htest : s.dev.grpState g ≠ TEST) :
    ∃ t, exec (.loopback f lane v) s = .next t ∧ LinkFramed ([(quad lane).1] ++ Pg.stops) s.dev t.dev ∧
      t.dev.grpState g = TEST ∧ t.dev.lane lane Reg.HLQ.LOOPBACK = 1 ∧ (t.dev.group g).unacked = [] := by
  refine ⟨_, loopback_runs hf hlane hv htaken, ?_⟩
  have hfields := laneCtrlFields_taken s.dev lane v
  have hcases : s.dev.laneCtrl lane v = (s.dev.laneCtrlFields lane v).enterTest g := by
    have hstate : (s.dev.laneCtrlFields lane v).grpState g ≠ TEST := (hfields.grpState g).symm ▸ htest
    simp [Dev.laneCtrl, hgroup, hloop, hstate]
  obtain ⟨hstopped, hstate⟩ := enterTest_stopped g (hfields.no_frames hframes)
  obtain ⟨hstill, hcap, hlanes, hgroups⟩ := settleClosed_spec hstopped.no_frames
  rw [withDev_dev, hcases]
  refine ⟨?_, (hgroups g).trans hstate, ?_, ?_⟩
  · exact (hfields.framed.mono (List.subset_append_left _ _)).trans
      ((hstopped.framed.trans ((LinkFramed.of_still hstill).mono (by decide))).mono (List.subset_append_right _ _))
  · rw [hlanes lane _ (by decide), hstopped.lanes lane _ (by decide), hfields.loopback, hloop]
  · rw [Dev.group, hcap]
    exact hstopped.no_unacked

/-- A CTRL message takes the next SEQ of its group, and writes no register. -/
theorem ctrlSend_spec (d : Dev) (g vc msg : Nat) (l : List Nat) : LinkFramed [] d (d.ctrlSend g vc msg l) ∧
    (d.ctrlSend g vc msg l).regs = d.regs ∧ ((d.ctrlSend g vc msg l).group g).test = (d.group g).test ∧
    ((d.ctrlSend g vc msg l).group g).txSeq = ((d.group g).txSeq + 1) % 65536 := by
  have hgroup : ∀ (x : Group) (o : Out), ((d.setGroup g x).emit o).group g = x := fun x _ => group_setGroup d g x
  unfold Dev.ctrlSend
  dsimp only
  split
  · exact ⟨(setGroup_framed _ _ _ _).trans (.of_framed (emit_frame _ _ _)), rfl, by rw [hgroup], by rw [hgroup]⟩
  · exact ⟨setGroup_framed _ _ _ _, rfl, by rw [group_setGroup], by rw [group_setGroup]⟩

/-- The lanes of a group that TEST names: those in far-end loopback (R125). -/
def testMask (d : Dev) (g : Nat) : Nat :=
  (d.lanesOf g).zipIdx.foldl (fun a e => if d.lane (d.physOf e.1) Reg.HLQ.LOOPBACK = 4 then a + 2 ^ e.2 else a) 0

/-- A group sends TEST, and keeps its SEQ. -/
def sendTest (d : Dev) (lane g : Nat) : Dev :=
  (d.setGroup g { d.group g with test := some ⟨(d.group g).txSeq, testMask d g⟩ }).ctrlSend g 0 0x08
    [d.lane lane Reg.HLQ.FE_DURATION + testMask d g * 2 ^ 16]

theorem sendTest_spec (d : Dev) (lane g : Nat) : LinkFramed [] d (sendTest d lane g) ∧
    (∀ pg F i j, (sendTest d lane g).rd pg F i j = d.rd pg F i j) ∧
    ((sendTest d lane g).group g).test.map (·.seq) = some (d.group g).txSeq ∧
    ((sendTest d lane g).group g).txSeq = ((d.group g).txSeq + 1) % 65536 := by
  obtain ⟨hframed, hregs, htest, hseq⟩ := ctrlSend_spec
    (d.setGroup g { d.group g with test := some ⟨(d.group g).txSeq, testMask d g⟩ }) g 0 0x08
    [d.lane lane Reg.HLQ.FE_DURATION + testMask d g * 2 ^ 16]
  refine ⟨(setGroup_framed _ _ _ _).trans hframed, fun _ _ _ _ => ?_, ?_, ?_⟩
  · simp only [Dev.rd, sendTest, hregs, setGroup_regs]
  · rw [sendTest, htest, group_setGroup]
    rfl
  · rw [sendTest, hseq, group_setGroup]

/-- Far-end loopback of a lane of an ACTIVE group without a TEST under way. -/
theorem laneCtrl_far_end {d : Dev} {lane v g : Nat} (hgroup : d.groupOfLane (d.lane lane Reg.HLQ.LOGICAL) = some g)
    (hloop : bits v 0 3 = 4) (hactive : d.grpState g = ACTIVE) (htest : (d.group g).test = none) :
    d.laneCtrl lane v = sendTest (d.laneCtrlFields lane v) lane g := by
  simp [Dev.laneCtrl, hgroup, hloop, htest, hactive, sendTest, testMask]

/-- A far-end loopback on a lane of an ACTIVE group sends TEST (R125). -/
theorem farEndLoopback_sends_test {s : State} {f lane v g : Nat} (hf : f < 64) (hlane : lane < 36) (hv : v < 2 ^ 32)
    (htaken : Taken s.dev f (quad lane).1 (0x100 + 0x40 * (lane % 4)) = true)
    (hgroup : s.dev.groupOfLane (s.dev.lane lane Reg.HLQ.LOGICAL) = some g) (hloop : bits v 0 3 = 4)
    (hactive : s.dev.grpState g = ACTIVE) (htest : (s.dev.group g).test = none) :
    ∃ t, exec (.farEndLoopback f lane v) s = .next t ∧ LinkFramed [(quad lane).1] s.dev t.dev ∧
      (t.dev.group g).test.map (·.seq) = some (s.dev.group g).txSeq ∧
      (t.dev.group g).txSeq = ((s.dev.group g).txSeq + 1) % 65536 ∧ t.dev.lane lane Reg.HLQ.LOOPBACK = 4 ∧
      t.dev.grpState g = ACTIVE := by
  refine ⟨_, farEndLoopback_runs hf hlane hv htaken, ?_⟩
  have hfields := laneCtrlFields_taken s.dev lane v
  obtain ⟨hframed, hregs, hsent, hseq⟩ := sendTest_spec (s.dev.laneCtrlFields lane v) lane g
  rw [withDev_dev, laneCtrl_far_end hgroup hloop hactive htest, ← hfields.group g]
  exact ⟨hfields.framed.trans (hframed.mono (List.nil_subset _)), hsent, hseq,
    (hregs _ _ _ _).trans (hfields.loopback.trans hloop), (hregs _ _ _ _).trans ((hfields.grpState g).trans hactive)⟩

/-- Far-end loopback of a lane in no group is refused (R125). -/
theorem farEndLoopback_refused {s : State} {f lane v : Nat} (hf : f < 64) (hlane : lane < 36) (hv : v < 2 ^ 32)
    (htaken : Taken s.dev f (quad lane).1 (0x100 + 0x40 * (lane % 4)) = true)
    (hnone : s.dev.groupOfLane (s.dev.lane lane Reg.HLQ.LOGICAL) = none) (hloop : bits v 0 3 = 4) :
    exec (.farEndLoopback f lane v) s = .next (s.withDev (s.dev.setLane lane Reg.HLQ.FE_REFUSED 1)) := by
  rw [farEndLoopback_runs hf hlane hv htaken]
  simp [Dev.laneCtrl, hnone, hloop]

/-! ### PRBS checkers -/

/-- A checker that still seeks lock: of `k` bits received, some filled its history and some then came as expected. -/
def Seeks (k : Nat) (a : Checker × Nat × Nat × Nat) : Prop :=
  a.1.locked = false ∧ a.1.filled + a.1.run ≤ k ∧ a.2 = (0, 0, 0)

/-- Lock takes as many bits as the generator is long, and 256 right ones after them (R124). -/
theorem checkBit_seeks {code k : Nat} {a : Checker × Nat × Nat × Nat} (b : Bool) (h : Seeks k a)
    (hk : k + 1 < (Line.prbsTaps code).1 + 256) : Seeks (k + 1) (checkBit code a b) := by
  obtain ⟨c, n, e, l⟩ := a
  obtain ⟨hlocked, hcount, hnone⟩ := h
  dsimp only at hlocked hcount hnone
  obtain ⟨rfl, rfl, rfl⟩ : n = 0 ∧ e = 0 ∧ l = 0 := by simpa using hnone
  simp only [checkBit, hlocked, Bool.false_eq_true, if_false]
  split
  · exact ⟨rfl, by dsimp only; omega, rfl⟩
  · next hfilled =>
    split
    · rw [if_neg (by omega)]
      exact ⟨rfl, by dsimp only; omega, rfl⟩
    · exact ⟨rfl, by dsimp only; omega, rfl⟩

theorem checkBits_seek {code : Nat} (bs : List Bool) {k : Nat} {a : Checker × Nat × Nat × Nat} (h : Seeks k a)
    (hk : k + bs.length < (Line.prbsTaps code).1 + 256) : Seeks (k + bs.length) (bs.foldl (checkBit code) a) := by
  induction bs generalizing k a with
  | nil => exact h
  | cons b r ih =>
    have hlen : k + (b :: r).length = k + 1 + r.length := by simp only [List.length_cons]; omega
    rw [hlen] at hk ⊢
    exact ih (checkBit_seeks b h (by omega)) hk

/-- A locked checker without errors in its window compares a bit with the one that it expects, and stays locked (R124). -/
theorem checkBit_locked {code : Nat} {c : Checker} (b : Bool) (hlocked : c.locked = true) (hflags : c.flags = []) :
    checkBit code (c, 0, 0, 0) b =
      ({ c with history := (2 * c.history + b2n (Line.prbsNext code c.history)) % 2 ^ 31,
                flags := [b != Line.prbsNext code c.history] }, 1, b2n (b != Line.prbsNext code c.history), 0) := by
  have hfew : ¬ 64 ≤ ([b != Line.prbsNext code c.history].filter id).length := fun h => by
    have hle := List.length_filter_le id [b != Line.prbsNext code c.history]
    rw [List.length_singleton] at hle
    omega
  simp only [checkBit, hlocked, hflags, if_true, List.take_succ_cons, List.take_nil, if_neg hfew, Nat.zero_add]

/-- A pair of a lane's counters holds a 48-bit value. -/
theorem rd64_wr64_lane {d : Dev} {pg : Page} {L H : Fld} {v i : Nat} (hL : L ∈ laneFields) (hH : H ∈ laneFields)
    (hoff : L.off / 4 ≠ H.off / 4) (hwL : L.width = 32) (hwH : H.width = 16) (hv : v < 2 ^ 48) :
    (d.wr64 pg L H v i).rd64 pg L H i = v := by
  rw [Dev.wr64, Dev.rd64, rd_wr_laneField _ _ _ _ hL hH (.inl hoff), rd_wr_same, rd_wr_same, hwL, hwH]
  omega

/-- A pair of counters keeps its value under a write to another field of the lane. -/
theorem rd64_wr_lane (d : Dev) (pg : Page) {L H G : Fld} (v i : Nat) (hL : L ∈ laneFields) (hH : H ∈ laneFields)
    (hG : G ∈ laneFields) (hoffL : L.off / 4 ≠ G.off / 4) (hoffH : H.off / 4 ≠ G.off / 4) :
    (d.wr pg G v i).rd64 pg L H i = d.rd64 pg L H i := by
  rw [Dev.rd64, Dev.rd64, rd_wr_laneField _ _ _ _ hL hG (.inl hoffL), rd_wr_laneField _ _ _ _ hH hG (.inl hoffH)]

/-- The registers of a lane's checker after `n` more bits, `e` of them wrong, and `l` losses of lock (R124). -/
def countPrbs (d : Dev) (lane n e l : Nat) (locked : Bool) : Dev :=
  let q := quad lane
  let bitsCounted := d.wr64 q.1 Reg.HLQ.PRBS_BITS_LO Reg.HLQ.PRBS_BITS_HI
    (min (d.rd64 q.1 Reg.HLQ.PRBS_BITS_LO Reg.HLQ.PRBS_BITS_HI q.2 + n) (2 ^ 48 - 1)) q.2
  let errorsCounted := bitsCounted.wr64 q.1 Reg.HLQ.PRBS_ERR_LO Reg.HLQ.PRBS_ERR_HI
    (min (bitsCounted.rd64 q.1 Reg.HLQ.PRBS_ERR_LO Reg.HLQ.PRBS_ERR_HI q.2 + e) (2 ^ 48 - 1)) q.2
  (errorsCounted.bump q.1 Reg.HLQ.LOCK_LOSS_CNT q.2 l).setLane lane Reg.HLQ.PRBS_LOCK (b2n locked)

theorem prbsReceive_eq {d : Dev} {lane n e l : Nat} {bs : List Bool} {c : Checker}
    (hcode : ¬ (d.lane lane Reg.HLQ.PRBS_CHK = 0 ∨ 5 ≤ d.lane lane Reg.HLQ.PRBS_CHK))
    (h : bs.foldl (checkBit (d.lane lane Reg.HLQ.PRBS_CHK)) ((Assoc.find d.cap.prbs lane).getD {}, 0, 0, 0) = (c, n, e, l)) :
    d.prbsReceive lane bs =
      countPrbs { d with cap := { d.cap with prbs := Assoc.put d.cap.prbs lane c } } lane n e l c.locked := by
  simp only [Dev.prbsReceive, if_neg hcode, h, countPrbs]

theorem countPrbs_still (d : Dev) (lane n e l : Nat) (locked : Bool) :
    Still [(quad lane).1] d (countPrbs d lane n e l locked) := by
  have hwr : ∀ (d : Dev) (F : Fld) (v : Nat), F ∈ laneFields → Still [(quad lane).1] d (d.wr (quad lane).1 F v (quad lane).2) :=
    fun d F v hF => setLane_still d lane v hF
  exact still_trans (hwr _ _ _ (by decide)) <| still_trans (hwr _ _ _ (by decide)) <| still_trans (hwr _ _ _ (by decide)) <|
    still_trans (hwr _ _ _ (by decide)) <| still_trans (hwr _ _ _ (by decide)) (hwr _ _ _ (by decide))

theorem countPrbs_lock (d : Dev) (lane n e l : Nat) (locked : Bool) :
    (countPrbs d lane n e l locked).lane lane Reg.HLQ.PRBS_LOCK = b2n locked := by
  rw [countPrbs, lane_setLane_same]
  cases locked <;> rfl

/-- Both counters count, up to 2^48 - 1. -/
theorem countPrbs_counts (d : Dev) (lane n e l : Nat) (locked : Bool) :
    (countPrbs d lane n e l locked).rd64 (quad lane).1 Reg.HLQ.PRBS_BITS_LO Reg.HLQ.PRBS_BITS_HI (quad lane).2 =
        min (d.rd64 (quad lane).1 Reg.HLQ.PRBS_BITS_LO Reg.HLQ.PRBS_BITS_HI (quad lane).2 + n) (2 ^ 48 - 1) ∧
      (countPrbs d lane n e l locked).rd64 (quad lane).1 Reg.HLQ.PRBS_ERR_LO Reg.HLQ.PRBS_ERR_HI (quad lane).2 =
        min (d.rd64 (quad lane).1 Reg.HLQ.PRBS_ERR_LO Reg.HLQ.PRBS_ERR_HI (quad lane).2 + e) (2 ^ 48 - 1) := by
  have hsat : ∀ x, min x (2 ^ 48 - 1) < 2 ^ 48 := fun x => Nat.lt_of_le_of_lt (Nat.min_le_right _ _) (by decide)
  have herrors : ∀ v, (d.wr64 (quad lane).1 Reg.HLQ.PRBS_BITS_LO Reg.HLQ.PRBS_BITS_HI v (quad lane).2).rd64 (quad lane).1
      Reg.HLQ.PRBS_ERR_LO Reg.HLQ.PRBS_ERR_HI (quad lane).2 =
        d.rd64 (quad lane).1 Reg.HLQ.PRBS_ERR_LO Reg.HLQ.PRBS_ERR_HI (quad lane).2 := fun v => by
    simp (disch := decide) only [Dev.wr64, rd64_wr_lane]
  simp only [countPrbs, herrors]
  constructor
  · simp (disch := decide) only [Dev.setLane, Dev.bump, rd64_wr_lane]
    rw [Dev.wr64, rd64_wr_lane _ _ _ _ (by decide) (by decide) (by decide) (by decide) (by decide),
      rd64_wr_lane _ _ _ _ (by decide) (by decide) (by decide) (by decide) (by decide)]
    exact rd64_wr64_lane (by decide) (by decide) (by decide) rfl rfl (hsat _)
  · simp (disch := decide) only [Dev.setLane, Dev.bump, rd64_wr_lane]
    exact rd64_wr64_lane (by decide) (by decide) (by decide) rfl rfl (hsat _)

/-- What bits leave of a checker that compares or seeks: itself, its lock and its counters. -/
theorem prbsReceive_spec {d : Dev} {lane code n e l : Nat} {bs : List Bool} {k c : Checker}
    (hcode : d.lane lane Reg.HLQ.PRBS_CHK = code) (hvalid : ¬ (code = 0 ∨ 5 ≤ code))
    (hchecker : (Assoc.find d.cap.prbs lane).getD {} = k) (h : bs.foldl (checkBit code) (k, 0, 0, 0) = (c, n, e, l)) :
    Still [(quad lane).1] { d with cap := (d.prbsReceive lane bs).cap } (d.prbsReceive lane bs) ∧
      Assoc.find (d.prbsReceive lane bs).cap.prbs lane = some c ∧
      (d.prbsReceive lane bs).lane lane Reg.HLQ.PRBS_LOCK = b2n c.locked ∧
      (d.prbsReceive lane bs).rd64 (quad lane).1 Reg.HLQ.PRBS_BITS_LO Reg.HLQ.PRBS_BITS_HI (quad lane).2 =
        min (d.rd64 (quad lane).1 Reg.HLQ.PRBS_BITS_LO Reg.HLQ.PRBS_BITS_HI (quad lane).2 + n) (2 ^ 48 - 1) ∧
      (d.prbsReceive lane bs).rd64 (quad lane).1 Reg.HLQ.PRBS_ERR_LO Reg.HLQ.PRBS_ERR_HI (quad lane).2 =
        min (d.rd64 (quad lane).1 Reg.HLQ.PRBS_ERR_LO Reg.HLQ.PRBS_ERR_HI (quad lane).2 + e) (2 ^ 48 - 1) := by
  subst hcode hchecker
  rw [prbsReceive_eq hvalid h]
  exact ⟨countPrbs_still _ _ _ _ _ _, find_put_same _ _ _, countPrbs_lock _ _ _ _ _ _, countPrbs_counts _ _ _ _ _ _⟩

theorem prbsLock_runs {s : State} {lane : Nat} (bs : List Bool) (hlane : lane < 36) (hs : s.dev.stopped = false)
    (hlock : s.dev.lane lane Reg.HLQ.PRBS_LOCK = 0) :
    exec (.prbsLock lane bs) s = .next (s.withDev (s.dev.prbsReceive lane bs)) := by
  have hok : Instr.wellFormed (.prbsLock lane bs) = true := decide_eq_true hlane
  simp only [exec, execPrbsLock, hok]
  rw [runCmd_ok _ _ hs, Dev.prbsLock, if_pos hlock]

theorem prbsLockLoss_runs {s : State} {lane : Nat} (bs : List Bool) (hlane : lane < 36) (hs : s.dev.stopped = false)
    (hlock : s.dev.lane lane Reg.HLQ.PRBS_LOCK = 1) :
    exec (.prbsLockLoss lane bs) s = .next (s.withDev (s.dev.prbsReceive lane bs)) := by
  have hok : Instr.wellFormed (.prbsLockLoss lane bs) = true := decide_eq_true hlane
  simp only [exec, execPrbsLockLoss, hok]
  rw [runCmd_ok _ _ hs, Dev.prbsLockLoss, if_pos hlock]

/-- Settles O25: LANE_CTRL writes its fields and then stops its group, sends TEST or refuses; a checker's bits reach the
counters of its lane. -/
theorem linkTestModes : Obligations.LinkTestModes := by
  unfold Obligations.LinkTestModes
  refine ⟨fun s f lane v hf hlane hv hframes htaken hnone hloop =>
      loopback_of_no_group hf hlane hv hframes htaken hnone hloop,
    fun s f lane v g hf hlane hv hframes htaken hgroup hloop htest =>
      loopback_enters_test hf hlane hv hframes htaken hgroup hloop htest,
    fun s f lane v g hf hlane hv _ htaken hgroup hloop _ hactive htest =>
      farEndLoopback_sends_test hf hlane hv htaken hgroup hloop hactive htest, ?refused, ?seeking, ?locked⟩
  case refused =>
    intro s f lane v hf hlane hv _ htaken hnone hloop
    have hstill := setLane_still s.dev lane (F := Reg.HLQ.FE_REFUSED) 1 (by decide)
    exact ⟨_, farEndLoopback_refused hf hlane hv htaken hnone hloop, frame_of_still hstill, lane_setLane_same _ _ _ _,
      lane_setLane_ne _ _ _ (by decide) (by decide) (by decide)⟩
  case seeking =>
    intro s lane bs hlane hs hlock hcode hnew hshort
    have hseeks : Seeks (0 + bs.length) (bs.foldl (checkBit 1) ({}, 0, 0, 0)) :=
      checkBits_seek bs ⟨rfl, Nat.le_refl _, rfl⟩ ((Nat.zero_add _).symm ▸ hshort)
    rcases hrun : bs.foldl (checkBit 1) (({} : Checker), 0, 0, 0) with ⟨c, n, e, l⟩
    obtain ⟨hlocked, -, -⟩ := hrun ▸ hseeks
    obtain ⟨hstill, hchecker, hshown, -⟩ := prbsReceive_spec hcode (by decide) (congrArg (·.getD {}) hnew) hrun
    refine ⟨_, prbsLock_runs bs hlane hs hlock, hstill, ?_, ?_⟩
    · exact hshown.trans (congrArg b2n hlocked)
    · rw [withDev_dev, hchecker, Option.map_some, hlocked]
  case locked =>
    intro s lane k b hlane hs hlock hcode hchecker hlocked hflags hbits herrors
    obtain ⟨hstill, -, hshown, hcounted, hwrong⟩ := prbsReceive_spec (bs := [b]) hcode (by decide)
      (congrArg (·.getD {}) hchecker) (checkBit_locked b hlocked hflags)
    have hone : b2n (b != Line.prbsNext 4 k.history) ≤ 1 := by unfold b2n; split <;> omega
    refine ⟨_, prbsLockLoss_runs [b] hlane hs hlock, hstill, hcounted.trans (Nat.min_eq_left hbits),
      hwrong.trans (Nat.min_eq_left (Nat.le_trans (Nat.add_le_add_left hone _) herrors)), hshown.trans (congrArg b2n hlocked)⟩

end Sys2Proof.Proofs

/-! PROOFS. Squelch: a group that stops squelches its far end, whose lanes lose signal and lock (R115, R119). -/

namespace Sys2Proof.Proofs

open Machine Laws

/-- Firmware runs; the group of lane 0 binds, the lane has signal, and the group's last message has timed out fifteen
times. -/
def bindingGroup : State :=
  { dev := (((({ brd := { stage := 6 } } : Dev).setGrp 0 Reg.HLL.EN 1).setGrpState 0 BIND).setLane 0 Reg.HLQ.SIG_DET
      1).setGroup 0 { unacked := [⟨0, 0, 1, []⟩], timeouts := 15 } }

theorem bindingGroup_has_signal : bindingGroup.dev.lane 0 Reg.HLQ.SIG_DET = 1 := by decide

theorem grpCtrlWrite_taken {d : Dev} {f g : Nat} (v : Nat) (h : Taken d f (slotOf g).1 (0x100 + 0x20 * (g % 4)) = true) :
    d.grpCtrlWrite f g v = d.grpCtrl g v :=
  checkedWrite_block _ h (Nat.le_add_right _ _)

theorem bindingGroup_taken : Taken bindingGroup.dev 0 (slotOf 0).1 (0x100 + 0x20 * (0 % 4)) = true := by decide

/-- GRP_CTRL without EN stops the group, and its lane loses signal (R92, R115). -/
theorem grpCtrlEn_loses_signal : ∃ t, exec (.grpCtrlEn 0 0 0) bindingGroup = .next t ∧ t.dev.lane 0 Reg.HLQ.SIG_DET = 0 := by
  have hstops : (bindingGroup.dev.grpCtrl 0 0).cap.frames = [] ∧
    (bindingGroup.dev.grpCtrl 0 0).lane 0 Reg.HLQ.SIG_DET = 0 := by decide
  refine ⟨bindingGroup.withDev (bindingGroup.dev.grpCtrlWrite 0 0 0).settleClosed, rfl, ?_⟩
  obtain ⟨-, -, hlanes, -⟩ := settleClosed_spec hstops.1
  rw [withDev_dev, grpCtrlWrite_taken 0 bindingGroup_taken, hlanes 0 _ (by decide), hstops.2]

/-- The sixteenth time-out fails the group, and its lane loses signal (R110, R115, R119). -/
theorem ackTimeout_loses_signal : ∃ t, exec (.ackTimeout 0) bindingGroup = .next t ∧ t.dev.lane 0 Reg.HLQ.SIG_DET = 0 :=
  ⟨_, rfl, by decide⟩

/-- The pages that the statements let a stopping group write hold no register of lane 0. -/
theorem stops_frame_keeps_signal {d t : Dev} {c : CaptureSt} (h : Framed ([] ++ Pg.stops) { d with cap := c } t) :
    t.lane 0 Reg.HLQ.SIG_DET = d.lane 0 Reg.HLQ.SIG_DET :=
  rd_regsBut 0 0 (by decide) (by decide) h.2

/-- No step that costs lane 0 its signal is framed by those pages. -/
theorem not_framed_of_loses_signal {i : Instr} {c : CaptureSt} {t : State}
    (hloses : ∃ t, exec i bindingGroup = .next t ∧ t.dev.lane 0 Reg.HLQ.SIG_DET = 0) (ht : exec i bindingGroup = .next t) :
    ¬ Framed ([] ++ Pg.stops) { bindingGroup.dev with cap := c } t.dev := by
  intro hframe
  obtain ⟨u, hu, hlost⟩ := hloses
  have hkept := stops_frame_keeps_signal hframe
  rw [hu] at ht
  rw [← Host.Outcome.next.inj ht, hlost, bindingGroup_has_signal] at hkept
  exact absurd hkept (by decide)

/-- Refutes O22: its clause of EN 0 frames the write by the pages of lane groups, ingest units and Sections, but the group
that stops squelches its far end, and SIG_DET of its lanes, on the lane quads' pages, falls (R115, R119). -/
theorem not_linkGroupControl : ¬ Obligations.LinkGroupControl := by
  unfold Obligations.LinkGroupControl
  rintro ⟨-, -, disables, -⟩
  obtain ⟨t, ht, hframe, -⟩ := disables bindingGroup 0 0 0 (by decide) (by decide) (by decide) rfl bindingGroup_taken
    (by decide) (by decide) (by decide)
  exact not_framed_of_loses_signal grpCtrlEn_loses_signal ht hframe

/-- Refutes O24: its clause of the sixteenth ACK time-out has the same frame, and the group that fails squelches its far
end too (R110, R119). -/
theorem not_linkMessages : ¬ Obligations.LinkMessages := by
  unfold Obligations.LinkMessages
  rintro ⟨-, -, -, -, -, -, -, fails, -⟩
  obtain ⟨t, ht, hframe, -⟩ := fails bindingGroup 0 (by decide) (by decide) (by decide) (by decide) (by decide)
  exact not_framed_of_loses_signal ackTimeout_loses_signal ht hframe

end Sys2Proof.Proofs

/-! PROOFS. LateLatches: an announced frame exposed before every snapshot of a position channel counts on that channel's
page, whichever way its header came (R144, R372). -/

namespace Sys2Proof.Proofs

open Machine Laws

/-- Firmware runs at 1 ns of the Timebase, head `h` feeds context 0, and position channel 0 latches for it: of its history
one snapshot is left, taken after instant 0. -/
def latchesLate (h : Nat) : Dev :=
  (({ brd := { stage := 6 }, tb := 2 ^ 32,
      tim := { chans := [(0, { hist := [{ at_ := 1, pos := 0, rev := 0, speed := 0, valid := true, qerr := 0 }] })] } } :
      Dev).setCtx 0 { head := some h }).wr (Pg.PFB 0) Reg.PFB.HEAD_MASK (2 ^ (h % 32)) (h / 32)

/-- The FHDR of a frame of 64 by 64 photosites of 12 bits, with Capture ID 1, exposed at instant 0 (R103). -/
def oldHeader : Packet := { header := 0x801, words := [1, 0, 0, 0, 0, 0, 64 + 64 * 2 ^ 16 + 12 * 2 ^ 32, 0] }

/-- The VC binding of head 1. -/
def headOne : Binding :=
  { head := 1, uid := 0, pixelRate := 0, lead := 0, spareOk := false, teCap := false, retvidCap := false, digest := 0 }

/-- Head 1 is ADMITTED on VC 0 of group 0, and that header waits. -/
def headerWaits : State :=
  { dev := (((latchesLate 1).setHead 1 { vc := some (0, 0) }).setAdmit 1 2).setGroup 0
      { rx := [oldHeader], vcs := [(0, headOne)] } }

/-- MIPI port 0 is enabled, and TS_OFFSET puts the exposure of what arrives 1 ns back, at instant 0 (R144). -/
def mipiDelayed : State :=
  { dev := ((latchesLate 252).wr (Pg.MIP 0) Reg.HDR.EN 1).wr (Pg.MIP 0) Reg.MIP.TS_OFFSET 1 }

/-- LATCH_LATE_CNT of position channel 0. -/
def lateCount (d : Dev) : Nat := d.rd (Pg.PFB 0) Reg.PFB.LATCH_LATE_CNT

set_option maxRecDepth 1000 in
/-- The header announces a frame that is older than the channel's history (R372). -/
theorem fhdr_counts_late : ∃ t, exec (.fhdr 0) headerWaits = .next t ∧ lateCount t.dev = 1 := ⟨_, rfl, by decide⟩

set_option maxRecDepth 1000 in
/-- So does the Frame Start, whose exposure instants are synthesised (R144, R372). -/
theorem mipiFrameStart_counts_late : ∃ t, exec (.mipiFrameStart 0 false) mipiDelayed = .next t ∧ lateCount t.dev = 1 :=
  ⟨_, rfl, by decide⟩

/-- A step that counts a late latch is framed by no pages without the channel's, whatever becomes of captures, power states
and time. -/
theorem not_framed_of_counts_late {i : Instr} {s t : State} {pgs : List Page} {c : CaptureSt} {p : PowerSt} {m : TimeSt}
    (hpgs : Pg.PFB 0 ∉ Pg.EVT :: Pg.SYS :: Pg.NVS :: pgs) (hnone : lateCount s.dev = 0)
    (hlate : ∃ t, exec i s = .next t ∧ lateCount t.dev = 1) (ht : exec i s = .next t) :
    ¬ Framed pgs { s.dev with cap := c, pow := p, tim := m } t.dev := by
  intro hframe
  obtain ⟨u, hu, hone⟩ := hlate
  have hkept : lateCount t.dev = lateCount s.dev := rd_regsBut 0 0 (by decide) hpgs hframe.2
  rw [hu] at ht
  rw [← Host.Outcome.next.inj ht, hone, hnone] at hkept
  exact absurd hkept (by decide)

/-- Refutes O27: its first clause frames the announcement by the pages of the ingest unit and of the Section, but a position
channel that latches for the head counts the frame in LATCH_LATE_CNT, on the channel's page, when the exposure is older than
its history (R372). -/
theorem not_ingestOfFrames : ¬ Obligations.IngestOfFrames := by
  unfold Obligations.IngestOfFrames
  rintro ⟨announces, -⟩
  obtain ⟨t, ht, hframe, -⟩ := announces headerWaits 0 0 oldHeader [] headOne (by decide) (by decide) (by decide) (by decide)
    (by decide) (by decide) (by decide) (by decide) (by decide) (by decide) (by decide) (by decide) (by decide) (by decide)
    (by decide) (by decide) (by decide) (by decide) (by decide) (by decide)
  exact not_framed_of_counts_late (by decide) (by decide) fhdr_counts_late ht hframe

/-- Refutes O28: its first clause frames the Frame Start by the pages of the port, of the ingest unit and of the Section, but
the frame it announces latches positions as every other does (R144, R372). -/
theorem not_ingestOfMipi : ¬ Obligations.IngestOfMipi := by
  unfold Obligations.IngestOfMipi
  rintro ⟨announces, -⟩
  obtain ⟨t, ht, hframe, -⟩ := announces mipiDelayed 0 0 (by decide) (by decide) (by decide) (by decide) (by decide)
    (by decide) (by decide) (by decide) (by decide) (by decide) (by decide) (by decide) (by decide) (by decide) (by decide)
    (by decide)
  exact not_framed_of_counts_late (by decide) (by decide) mipiFrameStart_counts_late ht hframe

end Sys2Proof.Proofs

/-! PROOFS. PowerLossStripes: the power-loss sequence forms no more stripes (R338). -/

namespace Sys2Proof.Proofs

open Machine Laws

/-- Data placed in stripe 0 of set 0. -/
def waitingPlace : Place := { set := 0, addr := 0, bytes := [1] }

/-- That data waits, and set 0 is OPTIMAL, when power fails. -/
def stripeInPowerLoss : State :=
  { dev := ({ jnl := { powerLoss := true }, pip := { places := [waitingPlace] } } : Dev).setSetReg 0 Reg.STR.STATE OPTIMAL }

/-- No stripe goes out during the power-loss sequence: the data placed stays as it was (R338). -/
theorem stripeWrite_of_powerLoss : ∃ t, exec (.stripeWrite 0 0) stripeInPowerLoss = .next t ∧
    t.dev.pip.places = [waitingPlace] := ⟨_, rfl, by decide⟩

/-- Refutes O33: its clause of STRIPE_WRITE sends out the data placed in a stripe of every set that is up, but the
power-loss sequence, in which clocks run, forms no more stripes (R338). -/
theorem not_takesAndStripes : ¬ Obligations.TakesAndStripes := by
  unfold Obligations.TakesAndStripes
  rintro ⟨-, -, -, -, sends, -⟩
  obtain ⟨t, ht, -, hsent⟩ := sends stripeInPowerLoss 0 0 (by decide) (by decide) (by decide) (by decide) (by decide)
    (by decide) (by decide) rfl
  obtain ⟨u, hu, hkept⟩ := stripeWrite_of_powerLoss
  rw [hu] at ht
  rw [← Host.Outcome.next.inj ht, hkept] at hsent
  exact absurd hsent (by decide)

end Sys2Proof.Proofs

/-! PROOFS. SetRegisters: registers of stripe sets and magazines, and what a set's operations leave unchanged (R241 to
R253). -/

namespace Sys2Proof.Proofs

open Machine Laws

/-! ### Where their registers lie -/

/-- The magazine pages. -/
def magPages : List Page := (List.range 8).map Pg.MAG

theorem magPage_mem (n : Nat) : Pg.MAG n ∈ magPages := by
  have k : ∀ m < 8, 0x89 + m ∈ magPages := by decide
  exact k _ (Nat.mod_lt _ (by decide))

theorem magPage_notReported (n : Nat) : Pg.MAG n ∉ [Pg.EVT, Pg.SYS, Pg.NVS] := by
  have k : ∀ m < 8, 0x89 + m ∉ [Pg.EVT, Pg.SYS, Pg.NVS] := by decide
  exact k _ (Nat.mod_lt _ (by decide))

theorem magPage_inj {n m : Nat} (hn : n < 8) (hm : m < 8) (h : Pg.MAG n = Pg.MAG m) : n = m := by
  have h : 0x89 + n % 8 = 0x89 + m % 8 := h
  omega

/-- The page of a set is neither a magazine's nor one that events reach. -/
theorem setPage_notMem (x : Nat) : (setAt x).1 ∉ Pg.EVT :: Pg.SYS :: Pg.NVS :: magPages := by
  have k : ∀ m < 2, 0x91 + m ∉ Pg.EVT :: Pg.SYS :: Pg.NVS :: magPages := by decide
  exact k _ (Nat.mod_lt _ (by decide))

theorem setPage_notReported (x : Nat) : (setAt x).1 ∉ [Pg.EVT, Pg.SYS, Pg.NVS] := by
  have k : ∀ m < 2, 0x91 + m ∉ [Pg.EVT, Pg.SYS, Pg.NVS] := by decide
  exact k _ (Nat.mod_lt _ (by decide))

theorem magPage_ne_setPage (n x : Nat) : Pg.MAG n ∉ [(setAt x).1] := fun h =>
  setPage_notMem x (List.mem_append_right [Pg.EVT, Pg.SYS, Pg.NVS] (List.mem_singleton.mp h ▸ magPage_mem n))

/-- The pages of sets and magazines hold those of each. -/
theorem setPage_mem (x : Nat) : (setAt x).1 ∈ Pg.sets := by
  have k : ∀ m < 2, 0x91 + m ∈ Pg.sets := by decide
  exact k _ (Nat.mod_lt _ (by decide))

theorem magPages_subset : magPages ⊆ Pg.sets := List.subset_append_right _ _

/-- A magazine's fields have one element, behind the page header. -/
theorem magField_place {F : Fld} (h : F ∈ Reg.MAG.all) : fits F = true ∧ F.lo < 32 ∧ 0x100 ≤ F.off ∧
    ∀ i j, F.at (i % F.cnt) (j % F.cnt2) = F.off := by
  have k : ∀ G ∈ Reg.MAG.all, fits G = true ∧ G.lo < 32 ∧ 0x100 ≤ G.off ∧ G.cnt = 1 ∧ G.cnt2 = 1 := by decide
  obtain ⟨hfits, hlo, hoff, hcnt, hcnt2⟩ := k F h
  exact ⟨hfits, hlo, hoff, fun i j => by simp [Fld.at, hcnt, hcnt2, Nat.mod_one]⟩

/-- A write to one field of a magazine leaves its other fields alone. -/
theorem rd_wr_magField (d : Dev) (pg : Page) {F G : Fld} (v : Nat) (hF : F ∈ Reg.MAG.all) (hG : G ∈ Reg.MAG.all)
    (h : F.off / 4 ≠ G.off / 4 ∨ F.lo ≠ G.lo) : (d.wr pg G v).rd pg F = d.rd pg F := by
  obtain ⟨-, hlo, -, hat⟩ := magField_place hF
  obtain ⟨-, hlo', -, hat'⟩ := magField_place hG
  refine rd_wr_ne d v (regKey_ne hlo hlo' (h.imp_left fun hne => ?_))
  rw [hat, hat']
  exact fun e => hne (Nat.add_left_cancel e)

/-- The fields of a set of which each set has one. -/
def setFields : List Fld :=
  [Reg.STR.N, Reg.STR.MEMBERS, Reg.STR.SPARES, Reg.STR.ENC_EN, Reg.STR.STATE, Reg.STR.LOST_MEMBER, Reg.STR.EPOCH,
   Reg.STR.REBUILD_PROG, Reg.STR.EXTENTS, Reg.STR.FREE_EXTENTS, Reg.STR.KCV]

/-- A set's fields lie in its block of 0x100 bytes from 0x400 on. -/
theorem setField_place {F : Fld} (h : F ∈ setFields) : fits F = true ∧ F.lo < 32 ∧ 0x400 ≤ F.off ∧
    ∀ i j, F.at (i % F.cnt) (j % F.cnt2) / 4 = F.off / 4 + 64 * (i % 4) := by
  have k : ∀ G ∈ setFields, fits G = true ∧ G.lo < 32 ∧ 0x400 ≤ G.off ∧ G.off % 4 = 0 ∧ G.cnt = 4 ∧ G.st = 0x100 ∧
      G.cnt2 = 1 ∧ G.st2 = 0 := by decide
  obtain ⟨hfits, hlo, hoff, halign, hcnt, hst, hcnt2, hst2⟩ := k F h
  refine ⟨hfits, hlo, hoff, fun i j => ?_⟩
  simp only [Fld.at, hcnt, hst, hcnt2, hst2]
  omega

theorem setField_fits {F : Fld} (h : F ∈ setFields) : fits F = true := (setField_place h).1

@[simp] theorem setReg_setSetReg_same (d : Dev) (x : Nat) (F : Fld) (v : Nat) :
    (d.setSetReg x F v).setReg x F = v % 2 ^ F.width := rd_wr_same _ _ _ _ _ _

/-- A write to one field of a set leaves its other fields alone. -/
theorem setReg_setSetReg_ne (d : Dev) (x : Nat) {F G : Fld} (v : Nat) (hF : F ∈ setFields) (hG : G ∈ setFields)
    (h : F.off / 4 ≠ G.off / 4 ∨ F.lo ≠ G.lo) : (d.setSetReg x G v).setReg x F = d.setReg x F := by
  obtain ⟨-, hlo, -, hat⟩ := setField_place hF
  obtain ⟨-, hlo', -, hat'⟩ := setField_place hG
  refine rd_wr_ne d v (regKey_ne hlo hlo' (h.imp_left fun hne => ?_))
  rw [hat, hat']
  exact fun e => hne (Nat.add_right_cancel (Nat.add_left_cancel e))

theorem setSetReg_still (d : Dev) (x : Nat) {F : Fld} (v : Nat) (hF : F ∈ setFields) :
    Still [(setAt x).1] d (d.setSetReg x F v) := wr_still d _ _ _ (setField_fits hF) (by simp)

/-- Raising a bit of a set's page leaves the set's fields alone. -/
theorem setReg_raise (d : Dev) (x b : Nat) {F : Fld} (hF : F ∈ setFields) :
    (d.raise (setAt x).1 b).setReg x F = d.setReg x F := by
  obtain ⟨hfits, -, hoff, -⟩ := setField_place hF
  exact rd_raise_block d b _ _ hfits (Nat.le_trans (by decide) hoff) (setPage_notReported x)

/-! ### Interrupt bits -/

theorem bitAt_eq_testBit (x i : Nat) : bitAt x i = x.testBit i := by
  rw [Nat.testBit_eq_decide_div_mod_eq]
  rfl

/-- A bit set in a 31-bit field stands. -/
theorem bitAt_or_two_pow (x : Nat) {b : Nat} (hb : b < 31) : bitAt ((x ||| 2 ^ b) % 2 ^ 31) b = true := by
  rw [bitAt_eq_testBit, Nat.testBit_mod_two_pow, Nat.testBit_or, Nat.testBit_two_pow_self]
  simp [hb]

theorem intStat_raise (d : Dev) (pg : Page) {b : Nat} (hb : b < 31) :
    bitAt ((d.raise pg b).rd pg Reg.HDR.INT_STAT) b = true := by
  rw [Dev.raise, rd_watch _ _ _ _ (by decide), rd_wr_same]
  exact bitAt_or_two_pow _ hb

/-- An error sets its bit, whether or not a capture is held (R40). -/
theorem errStat_error (d : Dev) (pg : Page) {b : Nat} (hb : b < 31) :
    bitAt ((d.error pg b).rd pg Reg.HDR.ERR_STAT) b = true := by
  by_cases h : d.rd pg Reg.HDR.ERR_STAT ≠ 0 ∨ d.rd pg Reg.HDR.OVF ≠ 0
  · rw [(error_later d pg b h).1]
    exact bitAt_or_two_pow _ hb
  · obtain ⟨hstat, hovf⟩ := not_or.mp h
    rw [(error_first d pg b hb (Decidable.of_not_not hstat) (Decidable.of_not_not hovf)).1, bitAt_eq_testBit,
      Nat.testBit_two_pow_self]

/-! ### Frames -/

/-- `t` is `d` but for what sets, magazines and Takes hold beside their registers, registers of `pgs`, and what reports
reach. -/
def PipFramed (pgs : List Page) (d t : Dev) : Prop := Framed pgs { d with pip := t.pip } t

theorem PipFramed.trans {pgs : List Page} {d t u : Dev} (h : PipFramed pgs d t) (k : PipFramed pgs t u) :
    PipFramed pgs d u := by
  refine ⟨?_, k.2.trans h.2⟩
  have a := h.1
  have b := k.1
  rw [← a] at b
  exact b

theorem PipFramed.of_framed {pgs : List Page} {d t : Dev} (h : Framed pgs d t) : PipFramed pgs d t := by
  obtain ⟨a, b⟩ := h
  refine ⟨?_, b⟩
  rw [← a]; rfl

theorem PipFramed.of_still {pgs : List Page} {d t : Dev} (h : Still pgs d t) : PipFramed pgs d t :=
  .of_framed (frame_of_still h)

theorem PipFramed.of_pip (pgs : List Page) (d : Dev) (p : PipeSt) : PipFramed pgs d { d with pip := p } := ⟨rfl, rfl⟩

theorem PipFramed.mono {pgs qs : List Page} {d t : Dev} (h : PipFramed pgs d t) (hsub : pgs ⊆ qs) : PipFramed qs d t :=
  frame_mono hsub h

/-- Reports leave alone what lies beside the registers of sets and magazines. -/
theorem frame_pip {pgs : List Page} {d t : Dev} (h : Framed pgs d t) : t.pip = d.pip := (congrArg Dev.pip h.1).symm

theorem frame_sset {pgs : List Page} {d t : Dev} (h : Framed pgs d t) (x : Nat) : t.sset x = d.sset x := by
  simp only [Dev.sset, frame_pip h]

theorem frame_mag {pgs : List Page} {d t : Dev} (h : Framed pgs d t) (n : Nat) : t.mag n = d.mag n := by
  simp only [Dev.mag, frame_pip h]

/-- What writes magazine pages alone leaves a set's registers. -/
theorem PipFramed.setReg {d t : Dev} (h : PipFramed magPages d t) (x : Nat) {F : Fld} (hF : F ∈ setFields) :
    t.setReg x F = d.setReg x F := rd_regsBut _ _ (setField_fits hF) (setPage_notMem x) h.2

/-- A magazine's state stays under what writes other pages. -/
theorem magState_of_regsBut {pgs : List Page} {d t : Dev} (n : Nat) (h : Pg.MAG n ∉ pgs)
    (k : t.regsBut pgs = d.regsBut pgs) : t.magState n = d.magState n :=
  rd_regsBut _ _ (by decide) h k

/-! ### Parts beside the registers -/

@[simp] theorem sset_setSset (d : Dev) (x : Nat) (y : StripeSet) : (d.setSset x y).sset x = y := get_set_same _ _ _ _

@[simp] theorem sset_setSetReg (d : Dev) (x y : Nat) (F : Fld) (v : Nat) : (d.setSetReg x F v).sset y = d.sset y := rfl

@[simp] theorem mag_setMag_same (d : Dev) (n : Nat) (y : Magazine) : (d.setMag n y).mag n = y := get_set_same _ _ _ _

theorem mag_setMag_ne (d : Dev) {n m : Nat} (y : Magazine) (h : m ≠ n) : (d.setMag n y).mag m = d.mag m :=
  get_set_ne _ _ _ _ h

@[simp] theorem wr_mag (d : Dev) (pg : Page) (F : Fld) (v i j n : Nat) : (d.wr pg F v i j).mag n = d.mag n := rfl

@[simp] theorem wr64_mag (d : Dev) (pg : Page) (L H : Fld) (v i n : Nat) : (d.wr64 pg L H v i).mag n = d.mag n := rfl

@[simp] theorem magOf_lbas (drive : Drive) : (magOf drive).lbas = drive.lbas := rfl

/-- `t` is `d` but for the contents of magazines. -/
def MagsOnly (d t : Dev) : Prop := ∃ m, t = { d with pip := { d.pip with mags := m } }

theorem MagsOnly.refl (d : Dev) : MagsOnly d d := ⟨d.pip.mags, rfl⟩

theorem MagsOnly.trans {d t u : Dev} (h : MagsOnly d t) (k : MagsOnly t u) : MagsOnly d u := by
  obtain ⟨_, rfl⟩ := h
  obtain ⟨m, rfl⟩ := k
  exact ⟨m, rfl⟩

theorem MagsOnly.framed {d t : Dev} (h : MagsOnly d t) (pgs : List Page) : PipFramed pgs d t := by
  obtain ⟨m, rfl⟩ := h
  exact .of_pip _ _ _

theorem MagsOnly.sset {d t : Dev} (h : MagsOnly d t) (x : Nat) : t.sset x = d.sset x := by
  obtain ⟨m, rfl⟩ := h
  rfl

theorem MagsOnly.foldl {α : Type} {f : Dev → α → Dev} (hf : ∀ d a, MagsOnly d (f d a)) (l : List α) (d : Dev) :
    MagsOnly d (l.foldl f d) := by
  induction l generalizing d with
  | nil => exact .refl d
  | cons a r ih => exact (hf d a).trans (ih _)

theorem updMag_magsOnly (d : Dev) (n : Nat) (f : Magazine → Magazine) : MagsOnly d (d.updMag n f) := ⟨_, rfl⟩

theorem magWrite_magsOnly (d : Dev) (n lba : Nat) (bs : List Byte) : MagsOnly d (d.magWrite n lba bs) :=
  updMag_magsOnly _ _ _

theorem writeLabels_magsOnly (d : Dev) (x : Nat) : MagsOnly d (d.writeLabels x) :=
  .foldl (fun d _ => (magWrite_magsOnly d _ _ _).trans (magWrite_magsOnly _ _ _ _)) _ _

/-! ### The state of a magazine -/

theorem magState_wr (d : Dev) (n : Nat) {v : Nat} (hv : v < 16) : (d.wr (Pg.MAG n) Reg.MAG.STATE v).magState n = v :=
  (rd_wr_same _ _ _ _ _ _).trans (Nat.mod_eq_of_lt hv)

/-- Raising a bit of a magazine's page leaves the magazine's fields alone. -/
theorem rd_raise_mag (d : Dev) (n b : Nat) {F : Fld} (hF : F ∈ Reg.MAG.all) :
    (d.raise (Pg.MAG n) b).rd (Pg.MAG n) F = d.rd (Pg.MAG n) F := by
  obtain ⟨hfits, -, hoff, -⟩ := magField_place hF
  exact rd_raise_block d b 0 0 hfits hoff (magPage_notReported n)

theorem setMagState_frame (d : Dev) (n v : Nat) : Framed [Pg.MAG n] d (d.setMagState n v) := by
  unfold Dev.setMagState
  split
  · exact frame_refl _ _
  · exact frame_trans (wr_frame _ _ _ _ (by decide) (by simp)) (raise_frame _ _ _ (by simp))

@[simp] theorem magState_setMagState (d : Dev) (n : Nat) {v : Nat} (hv : v < 16) : (d.setMagState n v).magState n = v := by
  unfold Dev.setMagState
  split
  · next h => exact h
  · exact (rd_raise_mag _ n 0 (by decide)).trans (magState_wr d n hv)

/-- A magazine's other fields stay under a change of its state. -/
theorem rd_setMagState (d : Dev) (n v : Nat) {F : Fld} (hF : F ∈ Reg.MAG.all)
    (h : F.off / 4 ≠ Reg.MAG.STATE.off / 4 ∨ F.lo ≠ Reg.MAG.STATE.lo) :
    (d.setMagState n v).rd (Pg.MAG n) F = d.rd (Pg.MAG n) F := by
  unfold Dev.setMagState
  split
  · rfl
  · exact (rd_raise_mag _ n 0 hF).trans (rd_wr_magField d _ v hF (by decide) h)

/-- A change of a magazine's state raises bit 0 of its page. -/
theorem intStat_setMagState (d : Dev) (n : Nat) {v : Nat} (h : d.magState n ≠ v) :
    bitAt ((d.setMagState n v).rd (Pg.MAG n) Reg.HDR.INT_STAT) 0 = true := by
  rw [Dev.setMagState, if_neg h]
  exact intStat_raise _ _ (by decide)

end Sys2Proof.Proofs

/-! PROOFS. MagazinePorts: drives that arrive, time out, fail and lose an LBA (R241, R242, R251). -/

namespace Sys2Proof.Proofs

open Machine Laws

/-! ### The commands reach the port -/

theorem runCmd_runs {s : State} {ok : Bool} (f : Dev → Dev) (hok : ok = true) (hs : s.dev.stopped = false) :
    runCmd ok f s = .next (s.withDev (f s.dev)) := by rw [hok, runCmd_ok f s hs]

theorem magazineLinkUp_runs {s : State} {n : Nat} (width gen : Nat) (drive : Option Drive) (fails : Nat) (hn : n < 8)
    (hs : s.dev.stopped = false) :
    exec (.magazineLinkUp n width gen drive fails) s = .next (s.withDev (s.dev.magLinkUp n width gen drive fails)) :=
  runCmd_runs (fun d => d.magLinkUp n width gen drive fails) (decide_eq_true hn) hs

theorem magCommandTimeout_runs {s : State} {n : Nat} (reset : Bool) (hn : n < 8) (hs : s.dev.stopped = false) :
    exec (.magCommandTimeout n reset) s = .next (s.withDev (s.dev.magTimeout n reset)) :=
  runCmd_runs (fun d => d.magTimeout n reset) (decide_eq_true hn) hs

theorem magFailed_runs {s : State} {n : Nat} (link : Bool) (hn : n < 8) (hs : s.dev.stopped = false) :
    exec (.magFailed n link) s = .next (s.withDev (s.dev.magFails n link)) :=
  runCmd_runs (fun d => d.magFails n link) (decide_eq_true hn) hs

theorem magMediaError_runs {s : State} {n : Nat} (lba : Nat) (hn : n < 8) (hs : s.dev.stopped = false) :
    exec (.magMediaError n lba) s = .next (s.withDev (s.dev.magMediaError n lba)) :=
  runCmd_runs (fun d => d.magMediaError n lba) (decide_eq_true hn) hs

/-! ### A drive arrives -/

/-- The port of a drive whose link has trained, and whose capacity is known (R241). -/
def linkedUp (d : Dev) (n width gen : Nat) (drive : Drive) : Dev :=
  (((d.setMag n (magOf drive)).wr (Pg.MAG n) Reg.MAG.LINK_WIDTH width).wr (Pg.MAG n) Reg.MAG.LINK_GEN gen).wr64 (Pg.MAG n)
    Reg.MAG.CAP_LBA_LO Reg.MAG.CAP_LBA_HI drive.lbas

/-- A drive at an ABSENT port passes its checks or fails that of the capacity (R241). -/
theorem magLinkUp_absent {d : Dev} {n : Nat} (width gen : Nat) (drive : Drive) (h : d.magState n = ABSENT) :
    d.magLinkUp n width gen (some drive) 0 = if drive.lbas < 524288 then
      (((linkedUp d n width gen drive).setMagState n UNSUITABLE).event 0 (Pg.MAG n) WARN 0x060A
        [BitVec.ofNat 8 n, BitVec.ofNat 8 5]).raise (Pg.MAG n) 2
    else ((linkedUp d n width gen drive).setMagState n 1).judgeMag n := by
  have hnew : ¬ d.magState n ∉ [ABSENT, MFAILED, UNSUITABLE] := by simp [h]
  rw [Dev.magLinkUp, if_neg hnew]
  by_cases hsmall : drive.lbas < 524288
  · simp [linkedUp, hsmall]
  · simp [linkedUp, hsmall]

theorem linkedUp_framed (d : Dev) (n width gen : Nat) (drive : Drive) :
    PipFramed [Pg.MAG n] d (linkedUp d n width gen drive) := by
  have hwr : ∀ (e : Dev) (F : Fld) (v : Nat), F ∈ Reg.MAG.all → PipFramed [Pg.MAG n] e (e.wr (Pg.MAG n) F v) :=
    fun e F v hF => .of_still (wr_still e v 0 0 (magField_place hF).1 (by simp))
  exact (PipFramed.of_pip _ d _).trans <| (hwr _ _ _ (by decide)).trans <| (hwr _ _ _ (by decide)).trans <|
    (hwr _ _ _ (by decide)).trans (hwr _ _ _ (by decide))

theorem linkedUp_mag (d : Dev) (n width gen : Nat) (drive : Drive) : (linkedUp d n width gen drive).mag n = magOf drive :=
  mag_setMag_same d n _

theorem linkedUp_width (d : Dev) (n gen : Nat) {width : Nat} (drive : Drive) (h : width < 8) :
    (linkedUp d n width gen drive).rd (Pg.MAG n) Reg.MAG.LINK_WIDTH = width := by
  simp (disch := decide) only [linkedUp, Dev.wr64, rd_wr_magField, rd_wr_same]
  exact Nat.mod_eq_of_lt h

theorem linkedUp_capacity (d : Dev) (n width gen : Nat) {drive : Drive} (h : drive.lbas < 2 ^ 32) :
    (linkedUp d n width gen drive).rd (Pg.MAG n) Reg.MAG.CAP_LBA_LO = drive.lbas := by
  simp (disch := decide) only [linkedUp, Dev.wr64, rd_wr_magField, rd_wr_same]
  exact Nat.mod_eq_of_lt h

/-- Only a DEGRADED set starts a rebuild (R251). -/
theorem startRebuild_of_not_degraded {d : Dev} {x : Nat} (h : d.setState x ≠ DEGRADED) : d.startRebuild x = d := by
  simp [Dev.startRebuild, h]

theorem startRebuilds_of_none_degraded {d : Dev} (h : (List.range 8).all (fun y => d.setState y ≠ DEGRADED) = true) :
    (List.range 8).foldl (fun d s => d.startRebuild s) d = d := by
  have k : ∀ l : List Nat, (∀ y ∈ l, d.setState y ≠ DEGRADED) → l.foldl (fun d s => d.startRebuild s) d = d := by
    intro l hl
    induction l with
    | nil => rfl
    | cons a r ih =>
      rw [List.foldl_cons, startRebuild_of_not_degraded (hl a (by simp))]
      exact ih fun y hy => hl y (by simp [hy])
  exact k _ fun y hy => of_decide_eq_true (List.all_eq_true.mp h y hy)

/-- A drive without a label is BLANK, and starts no rebuild unless a set lacks a member (R241, R251). -/
theorem judgeMag_unlabelled {d : Dev} {n : Nat} (hlabel : (d.mag n).label = none)
    (hsets : (List.range 8).all (fun y => d.setState y ≠ DEGRADED) = true) : d.judgeMag n = d.setMagState n BLANK := by
  have hnone : d.labelOf n = none := by simp [Dev.labelOf, hlabel]
  have hkept : ∀ y, (d.setMagState n BLANK).setState y = d.setState y := fun y =>
    (PipFramed.of_framed (frame_mono (by simp [magPage_mem]) (setMagState_frame d n BLANK))).setReg y (by decide)
  rw [Dev.judgeMag, hnone]
  exact startRebuilds_of_none_degraded (by simpa only [hkept] using hsets)

/-- A suitable drive without a label is BLANK (R241). -/
theorem magLinkUp_blank {d : Dev} {n width : Nat} (gen : Nat) {drive : Drive} (hwidth : width < 8)
    (hlbas : drive.lbas < 2 ^ 32) (hlarge : 524288 ≤ drive.lbas) (habsent : d.magState n = ABSENT)
    (hlabel : (magOf drive).label = none) (hsets : (List.range 8).all (fun y => d.setState y ≠ DEGRADED) = true) :
    let t := d.magLinkUp n width gen (some drive) 0
    PipFramed [Pg.MAG n] d t ∧ t.magState n = BLANK ∧ t.rd (Pg.MAG n) Reg.MAG.LINK_WIDTH = width ∧
      t.rd (Pg.MAG n) Reg.MAG.CAP_LBA_LO = drive.lbas ∧ bitAt (t.rd (Pg.MAG n) Reg.HDR.INT_STAT) 0 = true := by
  have hlinked := linkedUp_framed d n width gen drive
  have hstate := setMagState_frame (linkedUp d n width gen drive) n 1
  have hframe := hlinked.trans (.of_framed hstate)
  have hkept : ∀ y, ((linkedUp d n width gen drive).setMagState n 1).setState y = d.setState y := fun y =>
    (hframe.mono (by simp [magPage_mem])).setReg y (by decide)
  have hblank : d.magLinkUp n width gen (some drive) 0 =
      ((linkedUp d n width gen drive).setMagState n 1).setMagState n BLANK := by
    rw [magLinkUp_absent width gen drive habsent, if_neg (Nat.not_lt.mpr hlarge)]
    refine judgeMag_unlabelled ?_ (by simpa only [hkept] using hsets)
    rw [frame_mag hstate, linkedUp_mag, hlabel]
  rw [hblank]
  refine ⟨hframe.trans (.of_framed (setMagState_frame _ _ _)), magState_setMagState _ _ (by decide), ?_, ?_, ?_⟩
  · simp (disch := decide) only [rd_setMagState]
    exact linkedUp_width d n gen drive hwidth
  · simp (disch := decide) only [rd_setMagState]
    exact linkedUp_capacity d n width gen hlbas
  · exact intStat_setMagState _ _ (by rw [magState_setMagState _ _ (by decide)]; decide)

/-- A drive below 2 GiB is UNSUITABLE (R241). -/
theorem magLinkUp_small {d : Dev} {n : Nat} (width gen : Nat) {drive : Drive} (hsmall : drive.lbas < 524288)
    (habsent : d.magState n = ABSENT) :
    let t := d.magLinkUp n width gen (some drive) 0
    PipFramed [Pg.MAG n] d t ∧ t.magState n = UNSUITABLE ∧ bitAt (t.rd (Pg.MAG n) Reg.HDR.INT_STAT) 2 = true := by
  rw [magLinkUp_absent width gen drive habsent, if_pos hsmall]
  have hevent := event_frame [] ((linkedUp d n width gen drive).setMagState n UNSUITABLE) 0 (Pg.MAG n) WARN 0x060A
    [BitVec.ofNat 8 n, BitVec.ofNat 8 5] 1
  refine ⟨?_, ?_, intStat_raise _ _ (by decide)⟩
  · exact (linkedUp_framed d n width gen drive).trans <| .of_framed <| frame_trans (setMagState_frame _ _ _) <|
      frame_trans (frame_mono (by simp) hevent) (raise_frame _ _ _ (by simp))
  · exact (rd_raise_mag _ n 2 (by decide)).trans <| (magState_of_regsBut n (magPage_notReported n) hevent.2).trans <|
      magState_setMagState _ _ (by decide)

/-! ### Time-outs and resets -/

/-- A 16-bit counter of a magazine counts up to 65,535 (R42). -/
theorem rd_bump_mag (d : Dev) (n : Nat) {F : Fld} (hwidth : F.width = 16) (hwrap : F.wrap = false) :
    (d.bump (Pg.MAG n) F).rd (Pg.MAG n) F = min (d.rd (Pg.MAG n) F + 1) 65535 := by
  rw [Dev.bump, rd_wr_same, hwidth, hwrap]
  exact Nat.mod_eq_of_lt (Nat.lt_of_le_of_lt (Nat.min_le_right _ _) (by decide))

/-- A port with a drive in use takes what happens to it. -/
theorem magTimeout_member {d : Dev} {n : Nat} (h : d.magState n = MEMBER) :
    d.magTimeout n false = (d.bump (Pg.MAG n) Reg.MAG.TIMEOUT_CNT).raise (Pg.MAG n) 1 := by
  have hused : d.magState n ∉ [ABSENT, MFAILED, UNSUITABLE] := by rw [h]; decide
  simp [Dev.magTimeout, hused]

theorem magReset_member {d : Dev} {n : Nat} (h : d.magState n = MEMBER) (hfirst : (d.mag n).resetAt = none) :
    d.magTimeout n true =
      (d.updMag n fun m => { m with resetAt := some d.elapsed }).bump (Pg.MAG n) Reg.MAG.RESET_CNT := by
  have hused : d.magState n ∉ [ABSENT, MFAILED, UNSUITABLE] := by rw [h]; decide
  simp [Dev.magTimeout, hused, hfirst]

/-- A command's time-out is counted and raises bit 1 (R242). -/
theorem magTimeout_counts {d : Dev} {n : Nat} (h : d.magState n = MEMBER) :
    Framed [Pg.MAG n] d (d.magTimeout n false) ∧
      (d.magTimeout n false).rd (Pg.MAG n) Reg.MAG.TIMEOUT_CNT = min (d.rd (Pg.MAG n) Reg.MAG.TIMEOUT_CNT + 1) 65535 ∧
      bitAt ((d.magTimeout n false).rd (Pg.MAG n) Reg.HDR.INT_STAT) 1 = true := by
  rw [magTimeout_member h]
  refine ⟨frame_trans (bump_frame _ _ _ (by decide) (by simp)) (raise_frame _ _ _ (by simp)), ?_, intStat_raise _ _ (by decide)⟩
  exact (rd_raise_mag _ n 1 (by decide)).trans (rd_bump_mag d n rfl rfl)

/-- The first reset of a port's controller is counted and timed (R242). -/
theorem magReset_counts {d : Dev} {n : Nat} (h : d.magState n = MEMBER) (hfirst : (d.mag n).resetAt = none) :
    let t := d.magTimeout n true
    Still [Pg.MAG n] { d with pip := t.pip } t ∧
      t.rd (Pg.MAG n) Reg.MAG.RESET_CNT = min (d.rd (Pg.MAG n) Reg.MAG.RESET_CNT + 1) 65535 ∧
      (t.mag n).resetAt = some d.elapsed ∧ t.magState n = MEMBER := by
  rw [magReset_member h hfirst]
  refine ⟨⟨rfl, wr_regsBut _ _ _ _ (by decide) (by simp)⟩, rd_bump_mag _ n rfl rfl, ?_, ?_⟩
  · exact congrArg Magazine.resetAt (mag_setMag_same d n _)
  · exact (rd_wr_magField _ _ _ (by decide) (by decide) (by decide)).trans h

/-! ### A port fails -/

/-- A port in no set fails alone: its sets go on as they are (R242, R251). -/
theorem magFailed_of_no_set {d : Dev} {n : Nat} (cause : Nat) (h : d.magState n = MEMBER)
    (hsets : (List.range 8).all (fun y => (d.sset y).rebuild ≠ some n && !((d.sset y).members.contains n)) = true) :
    d.magFailed n cause = ((d.setMagState n MFAILED).event 0 (Pg.MAG n) FAULT 0x060B
      [BitVec.ofNat 8 n, BitVec.ofNat 8 cause]).raise (Pg.MAG n) 2 := by
  have hused : ¬ (d.magState n = ABSENT ∨ d.magState n = MFAILED) := by rw [h]; decide
  rw [Dev.magFailed, if_neg hused]
  dsimp only
  generalize hfailed : ((d.setMagState n MFAILED).event 0 (Pg.MAG n) FAULT 0x060B
    [BitVec.ofNat 8 n, BitVec.ofNat 8 cause]).raise (Pg.MAG n) 2 = e
  have hsame : ∀ y, e.sset y = d.sset y := by
    have hframe : Framed [Pg.MAG n] d e := hfailed ▸ frame_trans (setMagState_frame _ _ _)
      (frame_trans (event_frame _ _ _ _ _ _ _ _) (raise_frame _ _ _ (by simp)))
    exact frame_sset hframe
  have hnone : ∀ y ∈ List.range 8, (e.sset y).rebuild ≠ some n ∧
      (e.sset y).members.zipIdx.find? (fun q => q.1 = n && q.2 ∈ (e.sset y).live) = none := by
    intro y hy
    have hy := List.all_eq_true.mp hsets y hy
    simp only [Bool.and_eq_true, decide_eq_true_eq, Bool.not_eq_true', List.contains_eq_mem, decide_eq_false_iff_not] at hy
    rw [hsame]
    refine ⟨hy.1, List.find?_eq_none.mpr fun q hq hn => hy.2 ?_⟩
    simp only [Bool.and_eq_true, decide_eq_true_eq] at hn
    exact hn.1 ▸ List.fst_mem_of_mem_zipIdx hq
  revert hnone
  generalize List.range 8 = l
  intro hnone
  induction l with
  | nil => rfl
  | cons y r ih =>
    obtain ⟨hrebuild, hfind⟩ := hnone y (by simp)
    rw [List.foldl_cons, if_neg hrebuild, hfind]
    exact ih fun z hz => hnone z (by simp [hz])

/-- A port in no set fails within its page, whether or not its link goes down (R242). -/
theorem magFails_of_no_set {d : Dev} {n : Nat} (link : Bool) (h : d.magState n = MEMBER)
    (hsets : (List.range 8).all (fun y => (d.sset y).rebuild ≠ some n && !((d.sset y).members.contains n)) = true) :
    Framed [Pg.MAG n] d (d.magFails n link) ∧ (d.magFails n link).magState n = MFAILED ∧
      bitAt ((d.magFails n link).rd (Pg.MAG n) Reg.HDR.INT_STAT) 2 = true := by
  have hlink : ∃ e : Dev, Framed [Pg.MAG n] d e ∧ e.magState n = MEMBER ∧
      d.magFails n link = e.magFailed n (if link then CAUSE_LINK else CAUSE_WRITE) := by
    cases link with
    | false => exact ⟨d, frame_refl _ d, h, rfl⟩
    | true =>
      refine ⟨(d.wr (Pg.MAG n) Reg.MAG.LINK_WIDTH 0).wr (Pg.MAG n) Reg.MAG.LINK_GEN 0,
        frame_trans (wr_frame _ _ _ _ (by decide) (by simp)) (wr_frame _ _ _ _ (by decide) (by simp)), ?_, rfl⟩
      simp (disch := decide) only [Dev.magState, rd_wr_magField]
      exact h
  obtain ⟨e, hframe, hmember, hfails⟩ := hlink
  have hsame := frame_sset hframe
  rw [hfails, magFailed_of_no_set _ hmember (by simpa only [hsame] using hsets)]
  generalize (if link then CAUSE_LINK else CAUSE_WRITE) = cause
  have hevent := event_frame [] (e.setMagState n MFAILED) 0 (Pg.MAG n) FAULT 0x060B
    [BitVec.ofNat 8 n, BitVec.ofNat 8 cause] 1
  refine ⟨?_, ?_, intStat_raise _ _ (by decide)⟩
  · exact frame_trans hframe <| frame_trans (setMagState_frame _ _ _) <| frame_trans (frame_mono (by simp) hevent)
      (raise_frame _ _ _ (by simp))
  · exact (rd_raise_mag _ n 2 (by decide)).trans <| (magState_of_regsBut n (magPage_notReported n) hevent.2).trans <|
      magState_setMagState _ _ (by decide)

end Sys2Proof.Proofs

/-! PROOFS. Redundancy: an LBA that fails is rewritten from the other members, and a rebuild ends (R242, R251). -/

namespace Sys2Proof.Proofs

open Machine Laws

/-! ### A media error -/

/-- `t` is `d` but for the contents of magazine `n`. -/
def SameElsewhere (n : Nat) (d t : Dev) : Prop := MagsOnly d t ∧ ∀ q, q ≠ n → t.mag q = d.mag q

theorem SameElsewhere.refl (n : Nat) (d : Dev) : SameElsewhere n d d := ⟨.refl d, fun _ _ => rfl⟩

theorem SameElsewhere.trans {n : Nat} {d t u : Dev} (h : SameElsewhere n d t) (k : SameElsewhere n t u) :
    SameElsewhere n d u := ⟨h.1.trans k.1, fun q hq => (k.2 q hq).trans (h.2 q hq)⟩

theorem updMag_sameElsewhere (d : Dev) (n : Nat) (f : Magazine → Magazine) : SameElsewhere n d (d.updMag n f) :=
  ⟨updMag_magsOnly d n f, fun _ hq => mag_setMag_ne d _ hq⟩

theorem magWrite_sameElsewhere (d : Dev) (n lba : Nat) (bs : List Byte) : SameElsewhere n d (d.magWrite n lba bs) :=
  updMag_sameElsewhere _ _ _

/-- Folds over a list by functions that agree on its members agree. -/
theorem foldl_congr_of_mem {α β : Type} {f g : α → β → α} (l : List β) (h : ∀ a, ∀ b ∈ l, f a b = g a b) (a : α) :
    l.foldl f a = l.foldl g a := by
  induction l generalizing a with
  | nil => rfl
  | cons b r ih =>
    rw [List.foldl_cons, List.foldl_cons, h a b List.mem_cons_self]
    exact ih (fun a c hc => h a c (List.mem_cons_of_mem _ hc)) _

/-- The ports of the members that stand in for member `m` of a set are not `n`. -/
def NotOthers (d : Dev) (x m n : Nat) : Prop :=
  ∀ i ∈ (List.range ((d.sset x).n + 1)).filter (· ≠ m), (d.sset x).members.getD i 0 ≠ n

/-- Redundancy does not depend on the member that it stands for (R251). -/
theorem SameElsewhere.rebuilt {n x m : Nat} {d t : Dev} (h : SameElsewhere n d t)
    (hothers : NotOthers d x m n) (lba : Nat) :
    t.rebuilt x m lba = d.rebuilt x m lba := by
  have hset := h.1.sset x
  have hdirect : ∀ i ∈ (List.range ((d.sset x).n + 1)).filter (· ≠ m), t.direct x i lba = d.direct x i lba := fun i hi => by
    simp only [Dev.direct, hset, h.2 _ (hothers i hi)]
  unfold Dev.rebuilt
  rw [hset]
  exact foldl_congr_of_mem _ (fun a i hi => by rw [hdirect i hi]) _

/-- An LBA that its member reads as failed comes from redundancy (R242). -/
theorem blockOf_bad {d : Dev} {x m lba : Nat} (h : lba ∈ (d.mag ((d.sset x).members.getD m 0)).bad) :
    d.blockOf x m lba = d.rebuilt x m lba := by
  have hnone : d.direct x m lba = none := by
    rw [Dev.direct, if_neg fun k => k.2 h]
  rw [Dev.blockOf, hnone]

/-- Rewriting one LBA of a unit. -/
def rewriteLba (x m p : Nat) (d : Dev) (lba : Nat) : Dev :=
  match d.blockOf x m lba with
  | some b => d.magWrite p lba b
  | none => d

theorem rewriteUnit_eq {d : Dev} {x m : Nat} (t : Nat) (h : m ∈ (d.sset x).live) :
    d.rewriteUnit x m t false = (seqFrom (unitLba t) 256).foldl (rewriteLba x m ((d.sset x).members.getD m 0)) d := by
  rw [Dev.rewriteUnit, if_neg (not_not_intro h)]
  rfl

/-- `t` is `d` but for the contents of magazine `n`, of which LBA `lba` stands as it was. -/
structure LbaKept (n lba : Nat) (d t : Dev) : Prop where
  elsewhere : SameElsewhere n d t
  bad : lba ∈ (d.mag n).bad → lba ∈ (t.mag n).bad
  block : (t.mag n).block lba = (d.mag n).block lba

theorem LbaKept.refl (n lba : Nat) (d : Dev) : LbaKept n lba d d := ⟨.refl n d, id, rfl⟩

theorem LbaKept.trans {n lba : Nat} {d t u : Dev} (h : LbaKept n lba d t) (k : LbaKept n lba t u) : LbaKept n lba d u :=
  ⟨h.elsewhere.trans k.elsewhere, k.bad ∘ h.bad, k.block.trans h.block⟩

theorem magWrite_block (d : Dev) (n lba : Nat) (bs : List Byte) :
    ((d.magWrite n lba bs).mag n).block lba = fit 4096 bs := by
  rw [Dev.magWrite, Dev.updMag, mag_setMag_same]
  exact get_set_same _ _ _ _

theorem magWrite_lbaKept (d : Dev) (n : Nat) {l lba : Nat} (bs : List Byte) (h : lba ≠ l) :
    LbaKept n lba d (d.magWrite n l bs) := by
  refine ⟨magWrite_sameElsewhere d n l bs, fun hbad => ?_, ?_⟩ <;> rw [Dev.magWrite, Dev.updMag, mag_setMag_same]
  · exact List.mem_filter.mpr ⟨hbad, decide_eq_true h⟩
  · exact get_set_ne _ _ _ _ h

theorem rewriteLba_lbaKept (x m p : Nat) (d : Dev) {l lba : Nat} (h : lba ≠ l) : LbaKept p lba d (rewriteLba x m p d l) := by
  unfold rewriteLba
  split
  · exact magWrite_lbaKept d p _ h
  · exact .refl p lba d

/-- Rewriting other LBAs leaves this one. -/
theorem rewriteLbas_lbaKept (x m p : Nat) {lba : Nat} (l : List Nat) (d : Dev) (h : lba ∉ l) :
    LbaKept p lba d (l.foldl (rewriteLba x m p) d) := by
  induction l generalizing d with
  | nil => exact .refl p lba d
  | cons a r ih =>
    simp only [List.mem_cons, not_or] at h
    obtain ⟨hne, hr⟩ := h
    exact (rewriteLba_lbaKept x m p d hne).trans (ih _ hr)

theorem rewriteLbas_magsOnly (x m p : Nat) (l : List Nat) (d : Dev) : MagsOnly d (l.foldl (rewriteLba x m p) d) := by
  refine .foldl (fun d lba => ?_) l d
  unfold rewriteLba
  split
  · exact magWrite_magsOnly _ _ _ _
  · exact .refl d

/-- Rewriting LBAs, each once, gives one that failed what redundancy holds (R242). -/
theorem rewriteLbas_block {d : Dev} {x m n lba : Nat} {b : List Byte} {l : List Nat} (hl : l.Nodup) (hmem : lba ∈ l)
    (hport : (d.sset x).members.getD m 0 = n)
    (hothers : NotOthers d x m n)
    (hbad : lba ∈ (d.mag n).bad) (hb : d.rebuilt x m lba = some b) :
    ((l.foldl (rewriteLba x m n) d).mag n).block lba = fit 4096 b := by
  obtain ⟨before, after, rfl⟩ := List.append_of_mem hmem
  obtain ⟨hafter, hbefore⟩ : lba ∉ after ∧ lba ∉ before := by
    obtain ⟨-, hcons, hdisjoint⟩ := List.nodup_append.mp hl
    exact ⟨(List.nodup_cons.mp hcons).1, fun hbefore => hdisjoint lba hbefore lba List.mem_cons_self rfl⟩
  rw [List.foldl_append, List.foldl_cons]
  generalize he : before.foldl (rewriteLba x m n) d = e
  have hkept : LbaKept n lba d e := he ▸ rewriteLbas_lbaKept x m n before d hbefore
  have hset : e.sset x = d.sset x := hkept.elsewhere.1.sset x
  have hblock : e.blockOf x m lba = some b := by
    rw [blockOf_bad (by rw [hset, hport]; exact hkept.bad hbad), hkept.elsewhere.rebuilt hothers, hb]
  have hwritten : rewriteLba x m n e lba = e.magWrite n lba b := by rw [rewriteLba, hblock]
  rw [(rewriteLbas_lbaKept x m n after _ hafter).block, hwritten, magWrite_block]

/-- A payload LBA lies in its unit (R243). -/
theorem mem_unit {lba : Nat} (h : 256 ≤ lba) : lba ∈ seqFrom (unitLba ((lba - unitLba 0) / 256)) 256 := by
  have hmod := Nat.div_add_mod (lba - 256) 256
  have hlt := Nat.mod_lt (lba - 256) (show 256 > 0 by decide)
  simp only [seqFrom, List.mem_map, List.mem_range, unitLba]
  exact ⟨(lba - 256) % 256, hlt, by omega⟩

theorem seqFrom_nodup (a n : Nat) : (seqFrom a n).Nodup :=
  List.Pairwise.map _ (fun _ _ hne h => hne (Nat.add_left_cancel h)) List.nodup_range

/-- The read error is counted, and the LBA noted as failed. -/
def noteBad (d : Dev) (n lba : Nat) : Dev :=
  (d.bump (Pg.MAG n) Reg.MAG.MEDIA_ERR_CNT).updMag n fun m =>
    { m with bad := if lba ∈ m.bad then m.bad else m.bad ++ [lba] }

theorem noteBad_bad (d : Dev) (n lba : Nat) : lba ∈ ((noteBad d n lba).mag n).bad := by
  rw [noteBad, Dev.updMag, mag_setMag_same]
  dsimp only
  split
  · next h => exact h
  · simp

@[simp] theorem noteBad_sset (d : Dev) (n lba x : Nat) : (noteBad d n lba).sset x = d.sset x := rfl

theorem noteBad_rebuilt {d : Dev} {x m n : Nat} (lba l : Nat) (h : NotOthers d x m n) :
    (noteBad d n lba).rebuilt x m l = d.rebuilt x m l :=
  SameElsewhere.rebuilt (d := d.bump (Pg.MAG n) Reg.MAG.MEDIA_ERR_CNT) (updMag_sameElsewhere _ n _) h l

/-- A read error of a live member of set 0, on a payload LBA that redundancy holds, rewrites its unit (R242, R251). -/
theorem magMediaError_eq {d : Dev} {n m lba : Nat} (hup : OPTIMAL ≤ d.setState 0) (hlba : 256 ≤ lba)
    (hothers : NotOthers d 0 m n)
    (hfind : (d.sset 0).members.zipIdx.find? (fun e => e.1 = n && e.2 ∈ (d.sset 0).live) = some (n, m))
    (hlive : m ∈ (d.sset 0).live) (hport : (d.sset 0).members.getD m 0 = n) (hsome : (d.rebuilt 0 m lba).isSome = true) :
    d.magMediaError n lba =
      (seqFrom (unitLba ((lba - unitLba 0) / 256)) 256).foldl (rewriteLba 0 m n) (noteBad d n lba) := by
  generalize hcounted : d.bump (Pg.MAG n) Reg.MAG.MEDIA_ERR_CNT = e
  have hset : e.sset 0 = d.sset 0 := hcounted ▸ rfl
  have hstate : e.setState 0 = d.setState 0 := by
    have hstill : Still [Pg.MAG n] d e := hcounted ▸ wr_still d _ 0 0 (by decide) (by simp)
    exact ((PipFramed.of_still hstill).mono (by simp [magPage_mem])).setReg 0 (by decide)
  have hhome : (List.range 8).findSome? (fun s => if e.setState s < OPTIMAL then none else
      ((e.sset s).members.zipIdx.find? fun (q : Nat × Nat) => q.1 = n && q.2 ∈ (e.sset s).live).map
        fun (q : Nat × Nat) => (s, q.2)) = some (0, m) := by
    rw [show List.range 8 = 0 :: (List.range 7).map Nat.succ from rfl, List.findSome?_cons, hstate,
      if_neg (Nat.not_lt.mpr hup), hset, hfind]
    rfl
  have hredundant : unitLba 0 ≤ lba ∧ ((noteBad d n lba).rebuilt 0 m lba).isSome = true :=
    ⟨hlba, by rw [noteBad_rebuilt lba lba hothers, hsome]⟩
  have hnoted : (e.updMag n fun m => { m with bad := if lba ∈ m.bad then m.bad else m.bad ++ [lba] }) = noteBad d n lba :=
    hcounted ▸ rfl
  rw [Dev.magMediaError, hcounted, hhome, hnoted]
  refine (if_pos hredundant).trans ?_
  rw [rewriteUnit_eq (d := noteBad d n lba) _ hlive, noteBad_sset, hport]

/-- The LBA is rewritten from redundancy, and the error counted (R242, R251). -/
theorem magMediaError_rewrites {d : Dev} {n m lba : Nat} (hup : OPTIMAL ≤ d.setState 0) (hlba : 256 ≤ lba)
    (hothers : ((List.range ((d.sset 0).n + 1)).filter (fun i => i ≠ m)).all
      (fun i => (d.sset 0).members.getD i 0 ≠ n) = true)
    (hfind : (d.sset 0).members.zipIdx.find? (fun e => e.1 = n && e.2 ∈ (d.sset 0).live) = some (n, m))
    (hsome : (d.rebuilt 0 m lba).isSome = true) :
    let t := d.magMediaError n lba
    Still [Pg.MAG n] { d with pip := t.pip } t ∧
      (t.mag n).block lba = fit 4096 ((d.rebuilt 0 m lba).getD []) ∧
      t.rd (Pg.MAG n) Reg.MAG.MEDIA_ERR_CNT = min (d.rd (Pg.MAG n) Reg.MAG.MEDIA_ERR_CNT + 1) 65535 := by
  obtain ⟨b, hb⟩ := Option.isSome_iff_exists.mp hsome
  have hlive : m ∈ (d.sset 0).live := by
    have hfound := List.find?_some hfind
    simp only [Bool.and_eq_true, decide_eq_true_eq] at hfound
    exact hfound.2
  have hport : (d.sset 0).members.getD m 0 = n := by
    rw [List.getD_eq_getElem?_getD, List.mem_zipIdx_iff_getElem?.mp (List.mem_of_find?_eq_some hfind)]
    rfl
  have hothers : NotOthers d 0 m n := fun i hi => of_decide_eq_true (List.all_eq_true.mp hothers i hi)
  rw [magMediaError_eq hup hlba hothers hfind hlive hport hsome]
  have hblock := rewriteLbas_block (d := noteBad d n lba) (seqFrom_nodup (unitLba ((lba - unitLba 0) / 256)) 256) (mem_unit hlba) hport hothers
    (noteBad_bad d n lba) ((noteBad_rebuilt lba lba hothers).trans hb)
  obtain ⟨mags, hmags⟩ :=
    rewriteLbas_magsOnly 0 m n (seqFrom (unitLba ((lba - unitLba 0) / 256)) 256) (noteBad d n lba)
  revert hblock
  rw [hmags]
  intro hblock
  exact ⟨⟨rfl, wr_regsBut _ _ _ _ (by decide) (by simp)⟩, by rw [hblock, hb]; rfl,
    rd_bump_mag d n (F := Reg.MAG.MEDIA_ERR_CNT) rfl rfl⟩

/-! ### A rebuild ends -/

theorem showMember_frame (d : Dev) (p x m st : Nat) : Framed [Pg.MAG p] d (d.showMember p x m st) :=
  frame_trans (setMagState_frame _ _ _) <| frame_trans (wr_frame _ _ _ _ (by decide) (by simp))
    (wr_frame _ _ _ _ (by decide) (by simp))

theorem magState_showMember (d : Dev) (p x m : Nat) {st : Nat} (h : st < 16) : (d.showMember p x m st).magState p = st := by
  simp (disch := decide) only [Dev.showMember, Dev.magState, rd_wr_magField]
  exact magState_setMagState d p h

theorem rebuildDone_runs {s : State} {x : Nat} (hx : x < 8) (hs : Ready s.dev = true) :
    exec (.rebuildDone x) s = .next (s.withDev (s.dev.rebuildDone x)) := by
  have hok : Instr.wellFormed (.rebuildDone x) = true := decide_eq_true hx
  simp only [exec, execRebuildDone, hok]
  exact runQuiet_ok _ s hs

/-- The set with its lost member live again (R251). -/
def wholeSet (d : Dev) (x : Nat) : StripeSet :=
  { d.sset x with rebuild := none, live := insertNat (d.setReg x Reg.STR.LOST_MEMBER) (d.sset x).live }

/-- A set held as `y`, in its next epoch, with the lost member on port `p` (R251). -/
def rejoined (d : Dev) (x p m : Nat) (y : StripeSet) : Dev :=
  (((d.setSset x y).setSetReg x Reg.STR.EPOCH (d.setReg x Reg.STR.EPOCH + 1)).writeLabels x).showMember p x m MEMBER

theorem rejoined_framed (d : Dev) (x p m : Nat) (y : StripeSet) :
    PipFramed [(setAt x).1, Pg.MAG p] d (rejoined d x p m y) := by
  have hepoch := setSetReg_still (d.setSset x y) x (F := Reg.STR.EPOCH) (d.setReg x Reg.STR.EPOCH + 1) (by decide)
  exact (PipFramed.of_pip _ d _).trans <| ((PipFramed.of_still hepoch).mono (by simp)).trans <|
    ((writeLabels_magsOnly _ x).framed _).trans <| (PipFramed.of_framed (showMember_frame _ p x m MEMBER)).mono (by simp)

theorem rejoined_sset (d : Dev) (x p m : Nat) (y : StripeSet) : (rejoined d x p m y).sset x = y := by
  rw [rejoined, frame_sset (showMember_frame _ _ _ _ _), (writeLabels_magsOnly _ x).sset]
  exact sset_setSset d x y

/-- Labels and magazine pages hold no register of the set. -/
theorem rejoined_setReg (d : Dev) (x p m : Nat) (y : StripeSet) {F : Fld} (hF : F ∈ setFields) :
    (rejoined d x p m y).setReg x F = (d.setSetReg x Reg.STR.EPOCH (d.setReg x Reg.STR.EPOCH + 1)).setReg x F := by
  rw [rejoined, ((PipFramed.of_framed (showMember_frame _ p x m MEMBER)).mono (by simp [magPage_mem])).setReg x hF,
    ((writeLabels_magsOnly _ x).framed _).setReg x hF]
  rfl

/-- A rebuild that ends fills the spare, and gives the set its lost member back in a new epoch (R251). -/
theorem rebuildDone_rebuilding {d : Dev} {x p : Nat} (hrebuild : (d.sset x).rebuild = some p)
    (hstate : d.setState x = REBUILDING) : ∃ filled owner, MagsOnly d filled ∧ d.rebuildDone x =
      (((((rejoined filled x p (d.setReg x Reg.STR.LOST_MEMBER) (wholeSet d x)).setSetReg x Reg.STR.STATE OPTIMAL).setSetReg x
        Reg.STR.REBUILD_PROG 1000).event owner (setAt x).1 INFO 0x0606 [BitVec.ofNat 8 x]).raise (setAt x).1 1) := by
  have hgoes : ¬ (d.setState x ≠ REBUILDING ∧ d.setState x ≠ KEY_WAIT) := fun h => h.1 hstate
  unfold Dev.rebuildDone
  simp only [hrebuild, if_neg hgoes]
  generalize hfilled : d.updMag p _ = e
  have hmags : MagsOnly d e := hfilled ▸ updMag_magsOnly _ _ _
  have hkeyed : ¬ (rejoined e x p (d.setReg x Reg.STR.LOST_MEMBER) (wholeSet d x)).setState x = KEY_WAIT := by
    have hkept : e.setReg x Reg.STR.STATE = REBUILDING := ((hmags.framed _).setReg x (by decide)).trans hstate
    rw [Dev.setState, rejoined_setReg _ _ _ _ _ (by decide), setReg_setSetReg_ne _ _ _ (by decide) (by decide) (by decide),
      hkept]
    decide
  have hshown : (((e.setSset x (wholeSet d x)).setSetReg x Reg.STR.EPOCH
      ((e.setSset x (wholeSet d x)).setReg x Reg.STR.EPOCH + 1)).writeLabels x).showMember p x
      (d.setReg x Reg.STR.LOST_MEMBER) MEMBER = rejoined e x p (d.setReg x Reg.STR.LOST_MEMBER) (wholeSet d x) := rfl
  rw [wholeSet] at hshown
  rw [hshown, ← wholeSet, if_neg hkeyed]
  exact ⟨e, _, hmags, rfl⟩

/-- A set whose rebuild ends is OPTIMAL in a new epoch, and says so (R251). -/
theorem rebuildDone_optimal {d : Dev} {x p : Nat} (hrebuild : (d.sset x).rebuild = some p)
    (hstate : d.setState x = REBUILDING) :
    let t := d.rebuildDone x
    PipFramed [(setAt x).1, Pg.MAG p] d t ∧ t.setState x = OPTIMAL ∧
      t.setReg x Reg.STR.EPOCH = (d.setReg x Reg.STR.EPOCH + 1) % 2 ^ 32 ∧ t.setReg x Reg.STR.REBUILD_PROG = 1000 ∧
      (t.sset x).rebuild = none ∧ bitAt (t.rd (setAt x).1 Reg.HDR.INT_STAT) 1 = true := by
  obtain ⟨e, owner, hmags, hdone⟩ := rebuildDone_rebuilding hrebuild hstate
  rw [hdone]
  generalize hjoined : rejoined e x p (d.setReg x Reg.STR.LOST_MEMBER) (wholeSet d x) = u
  have hsset : u.sset x = wholeSet d x := hjoined ▸ rejoined_sset _ _ _ _ _
  have hepoch : u.setReg x Reg.STR.EPOCH = (d.setReg x Reg.STR.EPOCH + 1) % 2 ^ 32 := by
    rw [← hjoined, rejoined_setReg _ _ _ _ _ (by decide), setReg_setSetReg_same, (hmags.framed _).setReg x (by decide)]
    rfl
  have hframed : PipFramed [(setAt x).1, Pg.MAG p] d u :=
    (hmags.framed _).trans (hjoined ▸ rejoined_framed e x p _ _)
  have hshown : Still [(setAt x).1] u ((u.setSetReg x Reg.STR.STATE OPTIMAL).setSetReg x Reg.STR.REBUILD_PROG 1000) :=
    still_trans (setSetReg_still _ x _ (by decide)) (setSetReg_still _ x _ (by decide))
  generalize hset : (u.setSetReg x Reg.STR.STATE OPTIMAL).setSetReg x Reg.STR.REBUILD_PROG 1000 = v at hshown
  have hevent : Framed [] v (v.event owner (setAt x).1 INFO 0x0606 [BitVec.ofNat 8 x]) := event_frame _ _ _ _ _ _ _ _
  have hraise := raise_frame (pgs := [(setAt x).1]) (v.event owner (setAt x).1 INFO 0x0606 [BitVec.ofNat 8 x]) (setAt x).1 1
    (by simp)
  have hreg : ∀ F ∈ setFields, ((v.event owner (setAt x).1 INFO 0x0606 [BitVec.ofNat 8 x]).raise (setAt x).1 1).setReg x F =
      v.setReg x F := fun F hF => (setReg_raise _ x 1 hF).trans
    (((PipFramed.of_framed hevent).mono (List.nil_subset _)).setReg x hF)
  refine ⟨?frame, ?state, ?epoch, ?progress, ?rebuild, intStat_raise _ _ (by decide)⟩
  case frame =>
    exact hframed.trans <| ((PipFramed.of_still hshown).mono (by simp)).trans <|
      ((PipFramed.of_framed hevent).mono (by simp)).trans ((PipFramed.of_framed hraise).mono (by simp))
  case state =>
    rw [Dev.setState, hreg _ (by decide), ← hset, setReg_setSetReg_ne _ _ _ (by decide) (by decide) (by decide),
      setReg_setSetReg_same]
    rfl
  case epoch =>
    rw [hreg _ (by decide), ← hset, setReg_setSetReg_ne _ _ _ (by decide) (by decide) (by decide),
      setReg_setSetReg_ne _ _ _ (by decide) (by decide) (by decide), hepoch]
  case progress =>
    rw [hreg _ (by decide), ← hset, setReg_setSetReg_same]
    rfl
  case rebuild =>
    rw [frame_sset hraise, frame_sset hevent, ← hset]
    exact congrArg StripeSet.rebuild hsset

end Sys2Proof.Proofs

/-! PROOFS. StripeSets: writes of SET_CTRL and KEY (R250, R252), and what sets and magazines answer. -/

namespace Sys2Proof.Proofs

open Machine Laws

/-! ### Writes of SET_CTRL and KEY that are taken -/

theorem setCtrl_block (x : Nat) : 0x100 ≤ Reg.STR.N.at (setAt x).2 0 :=
  Nat.le_trans (by decide) (Nat.le_trans (Nat.le_add_right _ _) (Nat.le_add_right _ _))

theorem key_block (x : Nat) : 0x100 ≤ Reg.STR.KEY.at (setAt x).2 15 :=
  Nat.le_trans (by decide) (Nat.le_trans (Nat.le_add_right _ _) (Nat.le_add_right _ _))

/-- SET_CTRL of a set, with its fields written. -/
def ctrlWritten (d : Dev) (x v : Nat) : Dev := d.plainWrite 0 (setAt x).1 (Reg.STR.N.at (setAt x).2 0) v

/-- A CREATE or ASSEMBLE of function 0 that is taken. -/
theorem setCtrlWrite_taken {d : Dev} {x : Nat} (v : Nat)
    (h : Taken d 0 (setAt x).1 (Reg.STR.N.at (setAt x).2 0) = true) :
    d.setCtrlWrite 0 x v =
      ((if bitAt v 29 then
          (if bitAt v 28 then (ctrlWritten d x v).createSet x else ctrlWritten d x v).assemble x
        else if bitAt v 28 then (ctrlWritten d x v).createSet x else ctrlWritten d x v).startRebuild x) :=
  checkedWrite_block _ h (setCtrl_block x)

theorem create_runs {s : State} {x v : Nat} (hx : x < 8) (hv : v < 2 ^ 32)
    (h : Taken s.dev 0 (setAt x).1 (Reg.STR.N.at (setAt x).2 0) = true) (hcreate : bitAt v 28 = true)
    (hassemble : bitAt v 29 = false) :
    exec (.create 0 x v) s = .next (s.withDev (((ctrlWritten s.dev x v).createSet x).startRebuild x)) := by
  have hok : Instr.wellFormed (.create 0 x v) = true := by simp [Instr.wellFormed, hx, show v < 4294967296 from hv]
  simp only [exec, execCreate, hok]
  rw [runCmd_ok _ _ (taken_runs h), setCtrlWrite_taken v h, hcreate, hassemble]
  rfl

theorem assemble_runs {s : State} {x v : Nat} (hx : x < 8) (hv : v < 2 ^ 32)
    (h : Taken s.dev 0 (setAt x).1 (Reg.STR.N.at (setAt x).2 0) = true) (hcreate : bitAt v 28 = false)
    (hassemble : bitAt v 29 = true) :
    exec (.assemble 0 x v) s = .next (s.withDev (((ctrlWritten s.dev x v).assemble x).startRebuild x)) := by
  have hok : Instr.wellFormed (.assemble 0 x v) = true := by simp [Instr.wellFormed, hx, show v < 4294967296 from hv]
  simp only [exec, execAssemble, hok]
  rw [runCmd_ok _ _ (taken_runs h), setCtrlWrite_taken v h, hcreate, hassemble]
  rfl

/-- A field that has no active copy takes a write on its page alone (R42). -/
theorem writeField_still (d : Dev) {pg : Page} {F : Fld} (i j v : Nat) (hF : fits F = true) (hacc : F.acc ≠ .rwq) :
    Still [pg] d (d.writeField pg F i j v) := by
  have hwr : ∀ v, Still [pg] d (d.wr pg F v i j) := fun v => wr_still d v i j hF (by simp)
  unfold Dev.writeField
  split
  · exact still_refl _ d
  · dsimp only
    split
    · exact hwr _
    · exact hwr _
    · exact hwr _
    · exact hwr _
    · next h => exact absurd h hacc
    · exact still_refl _ d

/-- SET_CTRL holds plain fields. -/
theorem setCtrl_fields {x : Nat} (hx : x < 8) : (Pg.inDw (setAt x).1 (Reg.STR.N.at (setAt x).2 0)).all
    (fun e => fits e.1 && e.1.acc ≠ .rwq && e.1.pair = .none) = true := by
  have k : ∀ x < 8, (Pg.inDw (setAt x).1 (Reg.STR.N.at (setAt x).2 0)).all
    (fun e => fits e.1 && e.1.acc ≠ .rwq && e.1.pair = .none) = true := by decide
  exact k x hx

theorem ctrlWritten_still (d : Dev) {x : Nat} (v : Nat) (hx : x < 8) : Still [(setAt x).1] d (ctrlWritten d x v) := by
  have hfields := List.all_eq_true.mp (setCtrl_fields hx)
  unfold ctrlWritten Dev.plainWrite
  revert hfields
  generalize Pg.inDw (setAt x).1 (Reg.STR.N.at (setAt x).2 0) = fs
  intro hfields
  have hplain : ∀ e ∈ fs, fits e.1 = true ∧ e.1.acc ≠ .rwq ∧ e.1.pair = .none := fun e he => by
    simpa [and_assoc] using hfields e he
  have hlow : fs.any (fun e => e.1.pair = .low ∧ e.1.acc ≠ .ro ∧ e.1.acc ≠ .rc) = false := by
    simp only [List.any_eq_false, decide_eq_true_eq]
    exact fun e he h => by simp [(hplain e he).2.2] at h
  have hhigh : fs.any (fun e => e.1.pair = .high) = false := by
    simp only [List.any_eq_false, decide_eq_true_eq]
    exact fun e he h => by simp [(hplain e he).2.2] at h
  simp only [hlow, hhigh, Bool.false_eq_true, if_false]
  clear hfields hlow hhigh
  induction fs generalizing d with
  | nil => exact still_refl _ d
  | cons e r ih =>
    obtain ⟨hfits, hacc, -⟩ := hplain e (by simp)
    exact still_trans (writeField_still d _ _ _ hfits hacc) (ih _ fun q hq => hplain q (by simp [hq]))

/-! ### CREATE -/

/-- Ports that MEMBERS names. -/
def namedPorts (d : Dev) (x : Nat) : List Nat := (List.range 8).filter fun p => bitAt (d.setReg x Reg.STR.MEMBERS) p

/-- The set that CREATE makes of BLANK ports (R250). -/
def newSet (d : Dev) (x : Nat) : StripeSet := {
  setId := 1 + d.freeNow 63, n := d.setReg x Reg.STR.N, members := namedPorts d x, live := List.range (d.setReg x Reg.STR.N + 1),
  enc := d.setReg x Reg.STR.ENC_EN = 1, key := (d.sset x).key, keyWords := (d.sset x).keyWords,
  stripes := ((namedPorts d x).map fun p => ((d.mag p).lbas - 256) / 256).foldl min (2 ^ 32 - 1), extents := [(0, 0)],
  indexed := true, kcv := d.setReg x Reg.STR.KCV }

/-- The new set's epoch, its labels and its empty directory are written (R248, R250). -/
def labelled (d : Dev) (x : Nat) : Dev :=
  (namedPorts d x).foldl (fun (d : Dev) q => d.updMag q fun m => { m with
      media := m.media.filter fun b => b.1 < unitLba 0 || unitLba 64 ≤ b.1 })
    (((d.freeStep.setSset x (newSet d x)).setSetReg x Reg.STR.EPOCH 1).writeLabels x)

/-- Ports show as members of a set. -/
def showMembers (x : Nat) (l : List (Nat × Nat)) (d : Dev) : Dev := l.foldl (fun d e => d.showMember e.1 x e.2 MEMBER) d

/-- CREATE makes a set of BLANK ports, as many as its members (R250). -/
theorem createSet_blank {d : Dev} {x : Nat} (hnone : d.setState x = 0) (hn : d.setReg x Reg.STR.N ≠ 0)
    (hcount : (namedPorts d x).length = d.setReg x Reg.STR.N + 1)
    (hblank : (namedPorts d x).all (fun p => d.magState p = BLANK) = true) :
    d.createSet x = ((showMembers x (namedPorts d x).zipIdx (labelled d x)).showExtents x).judgeSet x := by
  have hgoes : ¬ (d.setState x ≠ 0 ∨ d.setReg x Reg.STR.N = 0 ∨ (namedPorts d x).length ≠ d.setReg x Reg.STR.N + 1 ∨
      !(namedPorts d x).all (fun p => d.magState p = BLANK)) := by
    simp only [hnone, hn, hcount, hblank, ne_eq, not_true_eq_false, Bool.not_true, Bool.false_eq_true, or_self,
      not_false_eq_true]
  exact if_neg hgoes

theorem labelled_framed (d : Dev) (x : Nat) : PipFramed [(setAt x).1] d (labelled d x) := by
  have hepoch := setSetReg_still (d.freeStep.setSset x (newSet d x)) x (F := Reg.STR.EPOCH) 1 (by decide)
  exact (PipFramed.of_framed (freeStep_frame _ d)).trans <| (PipFramed.of_pip _ d.freeStep _).trans <|
    (PipFramed.of_still hepoch).trans <| ((writeLabels_magsOnly _ x).framed _).trans <|
    (MagsOnly.foldl (fun d _ => updMag_magsOnly d _ _) _ _).framed _

theorem labelled_sset (d : Dev) (x : Nat) : (labelled d x).sset x = newSet d x := by
  rw [labelled, (MagsOnly.foldl (fun d _ => updMag_magsOnly d _ _) _ _).sset, (writeLabels_magsOnly _ x).sset]
  exact sset_setSset d.freeStep x _

/-- Labels lie in no register: the set's are those of the write, but for EPOCH. -/
theorem labelled_setReg (d : Dev) (x : Nat) {F : Fld} (hF : F ∈ setFields) :
    (labelled d x).setReg x F = (d.setSetReg x Reg.STR.EPOCH 1).setReg x F := by
  rw [labelled, ((MagsOnly.foldl (fun d _ => updMag_magsOnly d _ _) _ _).framed _).setReg x hF,
    ((writeLabels_magsOnly _ x).framed _).setReg x hF]
  rfl

theorem showMembers_frame (x : Nat) (l : List (Nat × Nat)) (d : Dev) : Framed magPages d (showMembers x l d) := by
  induction l generalizing d with
  | nil => exact frame_refl _ d
  | cons e r ih => exact frame_trans (frame_mono (by simp [magPage_mem]) (showMember_frame d e.1 x e.2 MEMBER)) (ih _)

/-- Every port shown is a MEMBER, and stays one when others are shown. -/
theorem magState_showMembers (x : Nat) {p : Nat} (hp : p < 8) (l : List (Nat × Nat)) (d : Dev) (hl : ∀ e ∈ l, e.1 < 8)
    (h : d.magState p = MEMBER ∨ p ∈ l.map Prod.fst) : (showMembers x l d).magState p = MEMBER := by
  induction l generalizing d with
  | nil => simpa [showMembers] using h
  | cons e r ih =>
    refine ih (d.showMember e.1 x e.2 MEMBER) (fun q hq => hl q (by simp [hq])) ?_
    by_cases hpe : p = e.1
    · rw [hpe]
      exact .inl (magState_showMember d e.1 x e.2 (by decide))
    · have hother : (d.showMember e.1 x e.2 MEMBER).magState p = d.magState p := by
        refine magState_of_regsBut p (fun hmem => ?_) (showMember_frame d e.1 x e.2 MEMBER).2
        rcases List.mem_append.mp (show Pg.MAG p ∈ [Pg.EVT, Pg.SYS, Pg.NVS] ++ [Pg.MAG e.1] from hmem) with hmem | hmem
        · exact magPage_notReported p hmem
        · exact hpe (magPage_inj hp (hl e (by simp)) (List.mem_singleton.mp hmem))
      rw [hother]
      simpa [hpe] using h

theorem showExtents_still (d : Dev) (x : Nat) : Still [(setAt x).1] d (d.showExtents x) :=
  still_trans (setSetReg_still _ x _ (by decide)) (setSetReg_still _ x _ (by decide))

theorem showExtents_setReg (d : Dev) (x : Nat) {F : Fld} (hF : F ∈ setFields) (he : F.off / 4 ≠ Reg.STR.EXTENTS.off / 4)
    (hf : F.off / 4 ≠ Reg.STR.FREE_EXTENTS.off / 4) : (d.showExtents x).setReg x F = d.setReg x F := by
  unfold Dev.showExtents
  dsimp only
  rw [setReg_setSetReg_ne _ _ _ hF (by decide) (.inl hf), setReg_setSetReg_ne _ _ _ hF (by decide) (.inl he)]

/-- A set of which every member is live, without encryption or pending placements of old, is OPTIMAL (R250, R252). -/
theorem judgeSet_whole {d : Dev} {x : Nat} (hlive : (d.sset x).live.length = (d.sset x).n + 1)
    (henc : (d.sset x).enc = false) (hreplay : (d.sset x).replay = false) :
    d.judgeSet x = d.setSetReg x Reg.STR.STATE OPTIMAL := by
  have hkeyed : d.keyed x = true := by simp only [Dev.keyed, henc, Bool.not_false, Bool.true_or]
  have henough : ¬ (d.sset x).live.length + 1 ≤ (d.sset x).n := by omega
  have hnoneLost : ¬ (d.sset x).live.length = (d.sset x).n := by omega
  have hreplayed : (d.setSetReg x Reg.STR.STATE OPTIMAL).replaySet x = d.setSetReg x Reg.STR.STATE OPTIMAL := by
    have hnothing : !((d.setSetReg x Reg.STR.STATE OPTIMAL).sset x).replay := by rw [sset_setSetReg, hreplay]; rfl
    exact if_pos (.inl hnothing)
  unfold Dev.judgeSet
  dsimp only
  rw [if_neg henough, hkeyed, if_neg (by decide), if_neg fun h => hnoneLost h.1, if_neg hnoneLost, hreplayed]

/-- What CREATE has formed: the new set, labelled, its ports shown as members; its registers are those of the write, but for
EPOCH (R250). -/
structure Formed (d : Dev) (x : Nat) (t : Dev) : Prop where
  framed : PipFramed Pg.sets d t
  set : t.sset x = newSet d x
  reg : ∀ F ∈ setFields, t.setReg x F = (d.setSetReg x Reg.STR.EPOCH 1).setReg x F
  ports : ∀ p ∈ namedPorts d x, t.magState p = MEMBER

theorem showMembers_formed (d : Dev) (x : Nat) : Formed d x (showMembers x (namedPorts d x).zipIdx (labelled d x)) := by
  have hmembers := showMembers_frame x (namedPorts d x).zipIdx (labelled d x)
  have hlt : ∀ q ∈ namedPorts d x, q < 8 := fun q hq => List.mem_range.mp (List.mem_filter.mp hq).1
  refine ⟨?_, (frame_sset hmembers x).trans (labelled_sset d x), fun F hF => ?_, fun p hp => ?_⟩
  · exact ((labelled_framed d x).mono (by simp [setPage_mem])).trans ((PipFramed.of_framed hmembers).mono magPages_subset)
  · exact ((PipFramed.of_framed hmembers).setReg x hF).trans (labelled_setReg d x hF)
  · exact magState_showMembers x (hlt p hp) _ _ (fun e he => hlt _ (List.fst_mem_of_mem_zipIdx he))
      (.inr (by simpa [List.zipIdx_map_fst] using hp))

/-- The new set without encryption is judged OPTIMAL: of its registers STATE, EXTENTS and FREE_EXTENTS change. -/
theorem Formed.judged {d t : Dev} {x : Nat} (h : Formed d x t) (henc : d.setReg x Reg.STR.ENC_EN = 0) :
    (t.showExtents x).judgeSet x = (t.showExtents x).setSetReg x Reg.STR.STATE OPTIMAL := by
  have hset : (t.showExtents x).sset x = newSet d x := h.set
  refine judgeSet_whole ?_ ?_ ?_ <;> rw [hset]
  · exact List.length_range
  · simp [newSet, henc]
  · rfl

/-- CREATE makes the set OPTIMAL with epoch 1, and its ports members (R250). -/
theorem createSet_optimal {d : Dev} {x : Nat} (hnone : d.setState x = 0) (hn : d.setReg x Reg.STR.N ≠ 0)
    (hcount : (namedPorts d x).length = d.setReg x Reg.STR.N + 1)
    (hblank : (namedPorts d x).all (fun p => d.magState p = BLANK) = true) (henc : d.setReg x Reg.STR.ENC_EN = 0) :
    let t := d.createSet x
    PipFramed Pg.sets d t ∧ t.setState x = OPTIMAL ∧ t.setReg x Reg.STR.EPOCH = 1 ∧
      (t.sset x).live.length = t.setReg x Reg.STR.N + 1 ∧ ∀ p ∈ namedPorts t x, t.magState p = MEMBER := by
  have hformed := showMembers_formed d x
  rw [createSet_blank hnone hn hcount hblank, hformed.judged henc]
  revert hformed
  generalize showMembers x (namedPorts d x).zipIdx (labelled d x) = u
  rintro ⟨hshown, hset, hreg, hports⟩
  have hlast : Still [(setAt x).1] u ((u.showExtents x).setSetReg x Reg.STR.STATE OPTIMAL) :=
    still_trans (showExtents_still u x) (setSetReg_still _ x _ (by decide))
  have hkept : ∀ F ∈ [Reg.STR.N, Reg.STR.MEMBERS, Reg.STR.EPOCH],
      ((u.showExtents x).setSetReg x Reg.STR.STATE OPTIMAL).setReg x F = (d.setSetReg x Reg.STR.EPOCH 1).setReg x F := by
    intro F hF
    have hplace : ∀ G ∈ [Reg.STR.N, Reg.STR.MEMBERS, Reg.STR.EPOCH], G ∈ setFields ∧
        G.off / 4 ≠ Reg.STR.EXTENTS.off / 4 ∧ G.off / 4 ≠ Reg.STR.FREE_EXTENTS.off / 4 ∧
        G.off / 4 ≠ Reg.STR.STATE.off / 4 := by decide
    obtain ⟨hfield, hextents, hfree, hstate⟩ := hplace F hF
    rw [setReg_setSetReg_ne _ _ _ hfield (by decide) (.inl hstate), showExtents_setReg _ _ hfield hextents hfree,
      hreg F hfield]
  refine ⟨hshown.trans ((PipFramed.of_still hlast).mono (by simp [setPage_mem])), setReg_setSetReg_same _ _ _ _, ?epoch,
    ?live, fun p hp => ?ports⟩
  case epoch =>
    rw [hkept _ (by decide), setReg_setSetReg_same]
    rfl
  case live =>
    rw [hkept _ (by decide), setReg_setSetReg_ne _ _ _ (by decide) (by decide) (by decide)]
    exact (congrArg (fun y : StripeSet => y.live.length) hset).trans List.length_range
  case ports =>
    rw [namedPorts, hkept _ (by decide), setReg_setSetReg_ne _ _ _ (by decide) (by decide) (by decide)] at hp
    exact (magState_of_regsBut p (magPage_ne_setPage p x) hlast.2).trans (hports p hp)

/-! ### KEY -/

theorem key_runs {s : State} {x v : Nat} (hx : x < 8) (hv : v < 2 ^ 32)
    (h : Taken s.dev 0 (setAt x).1 (Reg.STR.KEY.at (setAt x).2 15) = true) :
    exec (.key 0 x v) s = .next (s.withDev (s.dev.keyWrite 0 x 15 v)) := by
  have hok : Instr.wellFormed (.key 0 x v) = true := by simp [Instr.wellFormed, hx, show v < 4294967296 from hv]
  simp only [exec, execKey, hok]
  exact runCmd_ok _ _ (taken_runs h)

section

variable {d : Dev} {x v : Nat} {y : StripeSet}

/-- A key whose halves are equal is refused with an error of the page, and the set keeps the one it has (R252). -/
theorem keyWrite_refused (h : Taken d 0 (setAt x).1 (Reg.STR.KEY.at (setAt x).2 15) = true)
    (hy : { d.sset x with keyWords := Assoc.put (d.sset x).keyWords 15 v } = y)
    (heq : y.keyBytes.take 32 = y.keyBytes.drop 32) :
    d.keyWrite 0 x 15 v = (d.setSset x y).error (setAt x).1 0 := by
  have hword : (d.updSset x fun y => { y with keyWords := Assoc.put y.keyWords 15 v }) = d.setSset x y := hy ▸ rfl
  refine (checkedWrite_block _ h (key_block x)).trans ?_
  simp only [hword, sset_setSset, heq, ne_eq, not_true_eq_false, if_false, if_true]
  rfl

/-- Any other key is loaded; a set without encryption stays as it is (R252). -/
theorem keyWrite_loads (h : Taken d 0 (setAt x).1 (Reg.STR.KEY.at (setAt x).2 15) = true) (henc : (d.sset x).enc = false)
    (hy : { d.sset x with keyWords := Assoc.put (d.sset x).keyWords 15 v } = y)
    (hne : y.keyBytes.take 32 ≠ y.keyBytes.drop 32) :
    d.keyWrite 0 x 15 v = ((d.setSset x y).setSset x { y with key := some y.keyBytes }).setSetReg x Reg.STR.KCV
      (kcvOf y.keyBytes) := by
  have hword : (d.updSset x fun y => { y with keyWords := Assoc.put y.keyWords 15 v }) = d.setSset x y := hy ▸ rfl
  have hloaded : (d.setSset x y).updSset x (fun z => { z with key := some y.keyBytes }) =
      (d.setSset x y).setSset x { y with key := some y.keyBytes } := by rw [Dev.updSset, sset_setSset]
  have hplain : y.enc = false := hy ▸ henc
  refine (checkedWrite_block _ h (key_block x)).trans ?_
  simp only [hword, sset_setSset, hloaded, sset_setSetReg, hplain, if_neg hne, ne_eq, not_true_eq_false, if_false,
    Bool.false_eq_true, false_and]

end

/-- A loaded key stands in the set, and its check value in KCV. -/
theorem loaded_spec (d : Dev) (x kcv : Nat) (y : StripeSet) :
    PipFramed [(setAt x).1] d ((d.setSset x y).setSetReg x Reg.STR.KCV kcv) ∧
      ((d.setSset x y).setSetReg x Reg.STR.KCV kcv).sset x = y ∧
      ((d.setSset x y).setSetReg x Reg.STR.KCV kcv).setReg x Reg.STR.KCV = kcv % 2 ^ 32 :=
  ⟨(PipFramed.of_pip _ d _).trans (.of_still (setSetReg_still _ x _ (by decide))), sset_setSset d x y,
    setReg_setSetReg_same _ _ _ _⟩

/-- Settles O34: each command's meaning, by what its operations leave of registers, sets and magazines. -/
theorem setsAndMagazines : Obligations.SetsAndMagazines := by
  unfold Obligations.SetsAndMagazines
  refine ⟨?create, fun s x v hx hv htaken hcreate hassemble => assemble_runs hx hv htaken hcreate hassemble, ?loads,
    ?refused, ?blank, ?small, ?timeout, ?reset, ?failed, ?media, ?rebuilt⟩
  case create =>
    intro s x v hx hv htaken hcreate hassemble hnone hn hcount hblank henc
    have hstill := ctrlWritten_still s.dev v hx
    have hstate : ∀ p, (ctrlWritten s.dev x v).magState p = s.dev.magState p := fun p =>
      magState_of_regsBut p (magPage_ne_setPage p x) hstill.2
    obtain ⟨hframe, hoptimal, hepoch, hlive, hports⟩ := createSet_optimal (d := ctrlWritten s.dev x v) hnone hn hcount
      (by simp only [hstate]; exact hblank) henc
    have hnot : ((ctrlWritten s.dev x v).createSet x).setState x ≠ DEGRADED := by rw [hoptimal]; decide
    refine ⟨_, create_runs hx hv htaken hcreate hassemble, ?_⟩
    rw [withDev_dev, startRebuild_of_not_degraded hnot]
    refine ⟨((PipFramed.of_still hstill).mono (by simp [setPage_mem])).trans hframe, hoptimal, hepoch, hlive, ?_⟩
    refine List.all_eq_true.mpr fun p hp => ?_
    cases hbit : bitAt (((ctrlWritten s.dev x v).createSet x).setReg x Reg.STR.MEMBERS) p with
    | false => rfl
    | true => simpa using hports p (List.mem_filter.mpr ⟨hp, hbit⟩)
  case loads =>
    intro s x v hx hv htaken henc hne
    refine ⟨_, key_runs hx hv htaken, ?_⟩
    revert hne
    generalize hy : ({ s.dev.sset x with keyWords := Assoc.put (s.dev.sset x).keyWords 15 v } : StripeSet) = y
    intro hne
    rw [withDev_dev, keyWrite_loads htaken henc hy hne]
    obtain ⟨hframe, hset, hkcv⟩ := loaded_spec (s.dev.setSset x y) x (kcvOf y.keyBytes) { y with key := some y.keyBytes }
    exact ⟨(PipFramed.of_pip _ s.dev _).trans hframe, congrArg StripeSet.key hset, hkcv⟩
  case refused =>
    intro s x v hx hv htaken heq
    refine ⟨_, key_runs hx hv htaken, ?_⟩
    revert heq
    generalize hy : ({ s.dev.sset x with keyWords := Assoc.put (s.dev.sset x).keyWords 15 v } : StripeSet) = y
    intro heq
    rw [withDev_dev, keyWrite_refused htaken hy heq]
    have herror := error_frame (pgs := [(setAt x).1]) (s.dev.setSset x y) (setAt x).1 0 (by simp)
    refine ⟨(PipFramed.of_pip _ s.dev _).trans (.of_framed herror), ?_, errStat_error _ _ (by decide)⟩
    rw [frame_sset herror, sset_setSset, ← hy]
  case blank =>
    intro s n width gen drive hn hwidth _ hrun hlbas hlarge _ _ habsent hlabel hsets
    exact ⟨_, magazineLinkUp_runs _ _ _ _ hn hrun, magLinkUp_blank gen hwidth hlbas hlarge habsent hlabel hsets⟩
  case small =>
    intro s n width gen drive hn _ _ hrun hsmall _ _ habsent
    exact ⟨_, magazineLinkUp_runs _ _ _ _ hn hrun, magLinkUp_small width gen hsmall habsent⟩
  case timeout =>
    intro s n hn hrun hmember
    exact ⟨_, magCommandTimeout_runs _ hn hrun, magTimeout_counts hmember⟩
  case reset =>
    intro s n hn hrun hmember hfirst
    exact ⟨_, magCommandTimeout_runs _ hn hrun, magReset_counts hmember hfirst⟩
  case failed =>
    intro s n link hn hrun hmember hsets
    exact ⟨_, magFailed_runs link hn hrun, magFails_of_no_set link hmember hsets⟩
  case media =>
    intro s n m lba hn _ hrun hup hlba hothers hfind hsome
    exact ⟨_, magMediaError_runs lba hn hrun, magMediaError_rewrites hup hlba hothers hfind hsome⟩
  case rebuilt =>
    intro s x n hx hready hrebuild hstate
    exact ⟨_, rebuildDone_runs hx hready, rebuildDone_optimal hrebuild hstate⟩

end Sys2Proof.Proofs

/-! PROOFS. CodecFrames: what commands and engines of encoders and decoders leave unchanged (R258, R274). -/

namespace Sys2Proof.Proofs

open Machine Laws

/-! ### Frames of codec commands -/

/-- `t` is `d` but for what the pipes and the host's part hold, what a host view brings, registers of `pgs`, and what
reports reach. -/
def WorkFramed (pgs : List Page) (d t : Dev) : Prop :=
  Framed pgs { d with pip := t.pip, hst := t.hst, hostFails := t.hostFails, vectorsOff := t.vectorsOff } t

theorem WorkFramed.trans {pgs : List Page} {d t u : Dev} (h : WorkFramed pgs d t) (k : WorkFramed pgs t u) :
    WorkFramed pgs d u := by
  refine ⟨?_, k.2.trans h.2⟩
  have a := h.1
  have b := k.1
  rw [← a] at b
  exact b

theorem WorkFramed.of_host {d t : Dev} (h : HostFramed d t) : WorkFramed [] d t := by
  obtain ⟨a, b⟩ := h
  refine ⟨?_, b⟩
  rw [← a]; rfl

theorem WorkFramed.of_pip {pgs : List Page} {d t : Dev} (h : PipFramed pgs d t) : WorkFramed pgs d t := by
  obtain ⟨a, b⟩ := h
  refine ⟨?_, b⟩
  rw [← a]; rfl

theorem WorkFramed.mono {pgs qs : List Page} {d t : Dev} (h : WorkFramed pgs d t) (hsub : pgs ⊆ qs) : WorkFramed qs d t :=
  frame_mono hsub h

/-- A command's frame holds from before the host's view. -/
theorem WorkFramed.after_see {pgs : List Page} {d t : Dev} {hv : HostView} (h : WorkFramed pgs (d.see hv) t) :
    WorkFramed pgs d t :=
  ((WorkFramed.of_host (see_cmdsKept d hv).1).mono (List.nil_subset pgs)).trans h

/-- So does that of an engine's row, which leaves the host's part alone. -/
theorem PipFramed.after_see {pgs : List Page} {d t : Dev} {hv : HostView} (h : PipFramed pgs (d.see hv) t) :
    Framed pgs { d with pip := t.pip, hostFails := t.hostFails, vectorsOff := t.vectorsOff } t := by
  obtain ⟨m, e⟩ := see_only d hv
  rw [e] at h
  obtain ⟨a, b⟩ := h
  refine ⟨?_, b⟩
  rw [← a]; rfl

/-- A frame that names the captures too. -/
theorem WorkFramed.with_cap {pgs : List Page} {d t : Dev} (h : WorkFramed pgs d t) :
    Framed pgs { d with pip := t.pip, cap := t.cap, hst := t.hst, hostFails := t.hostFails, vectorsOff := t.vectorsOff } t := by
  obtain ⟨a, b⟩ := h
  refine ⟨?_, b⟩
  rw [← a]; rfl

/-! ### Changes of the pipes and of registers alone -/

/-- `t` is `d` but for what the pipes hold and registers of `pgs`. -/
def PipStill (pgs : List Page) (d t : Dev) : Prop := Still pgs { d with pip := t.pip } t

theorem PipStill.trans {pgs : List Page} {d t u : Dev} (h : PipStill pgs d t) (k : PipStill pgs t u) : PipStill pgs d u := by
  refine ⟨?_, k.2.trans h.2⟩
  have a := h.1
  have b := k.1
  rw [← a] at b
  exact b

theorem PipStill.of_still {pgs : List Page} {d t : Dev} (h : Still pgs d t) : PipStill pgs d t := by
  obtain ⟨a, b⟩ := h
  refine ⟨?_, b⟩
  rw [← a]

theorem PipStill.of_pip (pgs : List Page) (d : Dev) (p : PipeSt) : PipStill pgs d { d with pip := p } := ⟨rfl, rfl⟩

theorem PipStill.mono {pgs qs : List Page} {d t : Dev} (h : PipStill pgs d t) (hsub : pgs ⊆ qs) : PipStill qs d t :=
  still_mono hsub h

theorem PipStill.framed {pgs : List Page} {d t : Dev} (h : PipStill pgs d t) : PipFramed pgs d t := frame_of_still h

theorem still_pip {pgs : List Page} {d t : Dev} (h : Still pgs d t) : t.pip = d.pip := (congrArg Dev.pip h.1).symm

/-- A row of writes reaches the pages that each of them reaches. -/
theorem still_foldl {α : Type} {pgs : List Page} {f : Dev → α → Dev} (l : List α) (hf : ∀ d, ∀ a ∈ l, Still pgs d (f d a))
    (d : Dev) : Still pgs d (l.foldl f d) := by
  induction l generalizing d with
  | nil => exact still_refl _ _
  | cons a r ih =>
    exact still_trans (hf d a List.mem_cons_self) (ih (fun d b hb => hf d b (List.mem_cons_of_mem _ hb)) _)

theorem bump_still (d : Dev) {pgs : List Page} {pg : Page} {F : Fld} (i n : Nat) (hf : fits F = true) (h : pg ∈ pgs) :
    Still pgs d (d.bump pg F i n) := wr_still d _ _ _ hf h

/-! ### Contexts read after a change -/

@[simp] theorem enc_setEnc (d : Dev) (n : Nat) (x : EncCtx) : (d.setEnc n x).enc n = x := by
  unfold Dev.enc Dev.setEnc
  split
  · next h => simp [find_del_same, h]
  · simp [find_put_same]

@[simp] theorem enc_updEnc (d : Dev) (n : Nat) (f : EncCtx → EncCtx) : (d.updEnc n f).enc n = f (d.enc n) := enc_setEnc _ _ _

@[simp] theorem dec_setDec (d : Dev) (n : Nat) (x : DecCtx) : (d.setDec n x).dec n = x := by
  unfold Dev.dec Dev.setDec
  split
  · next h => simp [find_del_same, h]
  · simp [find_put_same]

@[simp] theorem dec_updDec (d : Dev) (n : Nat) (f : DecCtx → DecCtx) : (d.updDec n f).dec n = f (d.dec n) := dec_setDec _ _ _

theorem enc_of_pip {d t : Dev} (h : t.pip = d.pip) (n : Nat) : t.enc n = d.enc n := by simp only [Dev.enc, h]

theorem dec_of_pip {d t : Dev} (h : t.pip = d.pip) (n : Nat) : t.dec n = d.dec n := by simp only [Dev.dec, h]

theorem setEnc_still (pgs : List Page) (d : Dev) (n : Nat) (x : EncCtx) : PipStill pgs d (d.setEnc n x) := .of_pip _ _ _

theorem setDec_still (pgs : List Page) (d : Dev) (n : Nat) (x : DecCtx) : PipStill pgs d (d.setDec n x) := .of_pip _ _ _

theorem setEnc_framed (d : Dev) (n : Nat) (x : EncCtx) : WorkFramed [] d (d.setEnc n x) := .of_pip (setEnc_still _ _ _ _).framed

theorem setDec_framed (d : Dev) (n : Nat) (x : DecCtx) : WorkFramed [] d (d.setDec n x) := .of_pip (setDec_still _ _ _ _).framed

@[simp] theorem cmd?_setEnc (d : Dev) (n : Nat) (x : EncCtx) (p asn : Nat) : (d.setEnc n x).cmd? p asn = d.cmd? p asn := rfl

@[simp] theorem see_enc (d : Dev) (hv : HostView) (n : Nat) : (d.see hv).enc n = d.enc n :=
  see_same (·.enc n) (fun _ _ _ _ => rfl) d hv

@[simp] theorem see_dec (d : Dev) (hv : HostView) (n : Nat) : (d.see hv).dec n = d.dec n :=
  see_same (·.dec n) (fun _ _ _ _ => rfl) d hv

@[simp] theorem see_ownerOf (d : Dev) (hv : HostView) (k o : Nat) : (d.see hv).ownerOf k o = d.ownerOf k o :=
  see_same (·.ownerOf k o) (fun _ _ _ _ => rfl) d hv

@[simp] theorem see_encTurn (d : Dev) (hv : HostView) (c : Cmd) : (d.see hv).encTurn c = d.encTurn c :=
  see_same (·.encTurn c) (fun _ _ _ _ => rfl) d hv

@[simp] theorem see_decTurn (d : Dev) (hv : HostView) (c : Cmd) : (d.see hv).decTurn c = d.decTurn c :=
  see_same (·.decTurn c) (fun _ _ _ _ => rfl) d hv

@[simp] theorem see_cap (d : Dev) (hv : HostView) : (d.see hv).cap = d.cap :=
  see_same (·.cap) (fun _ _ _ _ => rfl) d hv

@[simp] theorem see_sinkBuf (d : Dev) (hv : HostView) (c : Cmd) : (d.see hv).sinkBuf c = d.sinkBuf c :=
  see_same (·.sinkBuf c) (fun _ _ _ _ => rfl) d hv

/-! ### Commands that leave -/

/-- A command that completes leaves the pipes alone. -/
theorem complete_framed (d : Dev) (c : Cmd) (st : Status) (result : Nat) : HostFramed d (d.complete c st result) :=
  (delCmd_framed d c.part c.asn).trans (complete_cmdsKept d c st result).1

theorem complete_gone (d : Dev) (c : Cmd) (st : Status) (result : Nat) :
    (d.complete c st result).cmd? c.part c.asn = none :=
  ((complete_cmdsKept d c st result).cmd? _ _).trans (cmd?_delCmd _ _ _)

theorem succeed_framed (d : Dev) (c : Cmd) (result : Nat) (st : Status) : HostFramed d (d.succeed c result st) :=
  (succeed_spec d c result st).1

@[simp] theorem enc_succeed (d : Dev) (c : Cmd) (result : Nat) (st : Status) (n : Nat) :
    (d.succeed c result st).enc n = d.enc n := enc_of_pip (succeed_framed d c result st).pip n

@[simp] theorem dec_succeed (d : Dev) (c : Cmd) (result : Nat) (st : Status) (n : Nat) :
    (d.succeed c result st).dec n = d.dec n := dec_of_pip (succeed_framed d c result st).pip n

@[simp] theorem cmd?_succeed (d : Dev) (c : Cmd) (result : Nat) (st : Status) :
    (d.succeed c result st).cmd? c.part c.asn = none := (succeed_spec d c result st).2

/-- With no frame held, no frame waits for a buffer. -/
theorem retireAll_of_no_frames {d : Dev} (h : d.cap.frames = []) : d.retireAll = d := by simp [Dev.retireAll, h]

/-- Frames that end change the captures alone. -/
theorem retireAll_only (d : Dev) : ∃ x, d.retireAll = { d with cap := x } := by
  have step : ∀ (d : Dev) (k : Nat), ∃ x, d.retire k = { d with cap := x } := fun d k => by
    unfold Dev.retire
    split
    · exact ⟨d.cap, rfl⟩
    · split
      · split <;> exact ⟨_, rfl⟩
      · split
        · exact ⟨_, rfl⟩
        · exact ⟨d.cap, rfl⟩
  have steps : ∀ (l : List Nat) (d : Dev), ∃ x, l.foldl (fun d k => d.retire k) d = { d with cap := x } := by
    intro l
    induction l with
    | nil => exact fun d => ⟨d.cap, rfl⟩
    | cons k r ih =>
      intro d
      obtain ⟨x, hx⟩ := step d k
      obtain ⟨y, hy⟩ := ih (d.retire k)
      exact ⟨y, by rw [List.foldl_cons, hy, hx]⟩
  exact steps _ d

end Sys2Proof.Proofs

/-! PROOFS. EncoderCommands: what each operation of ENC_SUBMIT does in its turn (R258 to R264). -/

namespace Sys2Proof.Proofs

open Machine Laws

/-! ### The turn of an operation -/

/-- Command `c` is operation `op` on encoder context `n`, which its partition owns, and its turn has come (R258). -/
def EncGate (d : Dev) (c : Cmd) (n op : Nat) : Prop :=
  n = sf c.entry 1 0 8 ∧ sf c.entry 8 0 4 = op ∧ d.ownerOf 2 n = c.part ∧ d.encTurn c = true

theorem EncGate.see {d : Dev} {c : Cmd} {n op : Nat} (h : EncGate d c n op) (hv : HostView) : EncGate (d.see hv) c n op := by
  simpa only [EncGate, see_ownerOf, see_encTurn] using h

/-- An operation whose turn has come runs on its context. -/
theorem EncGate.runs {d : Dev} {c : Cmd} {n op : Nat} (h : EncGate d c n op) (hop : op < 8) (k : Nat → EncCtx → Dev) :
    d.encOp c op k = k n (d.enc n) := by
  obtain ⟨rfl, rfl, howner, hturn⟩ := h
  simp [Dev.encOp, howner, hturn, Nat.not_le.mpr hop]

/-! ### Operations that move data -/

section Moves

variable {s : State} {p asn n : Nat} {hv : HostView} {c : Cmd}

/-- R259: the descriptor of a CONFIG moves. -/
theorem encConfig_moves (hp : p < 128) (h : Starts (s.dev.see hv) p asn 0x90 c = true) (hgate : EncGate s.dev c n 0)
    (hlen : 128 ≤ dwAt c.entry 6) :
    ∃ t, exec (.encConfig p asn hv) s = .next t ∧ HostFramed s.dev t.dev ∧ t.dev.pip = s.dev.pip ∧
      (t.dev.cmd? p asn).map (·.phase) = some .moving := by
  refine moves_of_startMove (n := dwAt c.entry 6) h (runQuiet_starts Dev.encConfig (decide_eq_true hp) h) ?_
  rw [Dev.encConfig, (hgate.see hv).runs (by decide), if_neg (Nat.not_lt.mpr hlen)]

/-- R261: the source of a PICTURE moves to a context that codes host pictures. -/
theorem encPicture_moves (hp : p < 128) (h : Starts (s.dev.see hv) p asn 0x90 c = true) (hgate : EncGate s.dev c n 1)
    (hcfg : (s.dev.enc n).cfg.isSome = true) (hrel : (s.dev.enc n).releasing = false)
    (hsource : (s.dev.enc n).cfg!.source ≠ 0) (hpitch : dwAt c.entry 9 % 64 = 0)
    (hrow : (s.dev.enc n).cfg!.hostRow ≤ dwAt c.entry 9)
    (hlen : (s.dev.enc n).cfg!.hostBytes (dwAt c.entry 9) ≤ dwAt c.entry 6) :
    ∃ t, exec (.encPicture p asn hv) s = .next t ∧ HostFramed s.dev t.dev ∧ t.dev.pip = s.dev.pip ∧
      (t.dev.cmd? p asn).map (·.phase) = some .moving := by
  have hstate : ¬ ((s.dev.enc n).cfg.isNone = true ∨ (s.dev.enc n).releasing = true ∨ (s.dev.enc n).cfg!.source = 0) := by
    simp [hrel, hsource, ← Option.not_isSome, hcfg]
  have hfields : ¬ (dwAt c.entry 9 % 64 ≠ 0 ∨ dwAt c.entry 9 < (s.dev.enc n).cfg!.hostRow ∨
      dwAt c.entry 6 < (s.dev.enc n).cfg!.hostBytes (dwAt c.entry 9)) := by omega
  refine moves_of_startMove (n := dwAt c.entry 6) h (runQuiet_starts Dev.encPicture (decide_eq_true hp) h) ?_
  rw [Dev.encPicture, (hgate.see hv).runs (by decide), see_enc]
  dsimp only
  rw [if_neg hstate, if_neg hfields]

/-- R263: the oldest picture of the queue moves to a host that has room for it. -/
theorem encCollect_moves {b : List Byte} (hp : p < 128) (h : Starts (s.dev.see hv) p asn 0x90 c = true)
    (hgate : EncGate s.dev c n 2) (hhead : (s.dev.enc n).queue.head? = some b) (hroom : b.length ≤ dwAt c.entry 7)
    (hshed : s.dev.shed = 0) :
    ∃ t, exec (.encCollect p asn hv) s = .next t ∧ HostFramed s.dev t.dev ∧ t.dev.pip = s.dev.pip ∧
      (t.dev.cmd? p asn).map (·.phase) = some .moving := by
  refine moves_of_startMove (n := 0) h (runQuiet_starts Dev.encCollect (decide_eq_true hp) h) ?_
  rw [Dev.encCollect, (hgate.see hv).runs (by decide), see_enc, hhead]
  dsimp only
  rw [if_neg (Nat.not_lt.mpr hroom), see_shed, hshed, if_neg (by decide)]

end Moves

/-! ### Operations that complete at once -/

/-- A context with a configuration that is not released takes FORCE_IRAP, END and LTR. -/
theorem encState_ok {x : EncCtx} (hcfg : x.cfg.isSome = true) (hrel : x.releasing = false) :
    ¬ (x.cfg.isNone = true ∨ x.releasing = true) := by
  simp [hrel, ← Option.not_isSome, hcfg]

theorem encForce_eq {d : Dev} {c : Cmd} {n : Nat} (hgate : EncGate d c n 3) (hcfg : (d.enc n).cfg.isSome = true)
    (hrel : (d.enc n).releasing = false) : d.encForce c = (d.setEnc n { d.enc n with force := true }).succeed c := by
  rw [Dev.encForce, hgate.runs (by decide), if_neg (encState_ok hcfg hrel)]

/-- What succeeds after a context's update leaves the rest of the device alone. -/
theorem setEnc_succeed_framed (d : Dev) (n : Nat) (x : EncCtx) (c : Cmd) : WorkFramed [] d ((d.setEnc n x).succeed c) :=
  (setEnc_framed d n x).trans (.of_host (succeed_framed _ _ _ _))

/-- R264: after FORCE_IRAP the next picture to arrive is an IDR. -/
theorem encForceIrap_forces {s : State} {p asn n : Nat} {hv : HostView} {c : Cmd} (hp : p < 128)
    (h : Starts (s.dev.see hv) p asn 0x90 c = true) (hgate : EncGate s.dev c n 3)
    (hcfg : (s.dev.enc n).cfg.isSome = true) (hrel : (s.dev.enc n).releasing = false) :
    ∃ t, exec (.encForceIrap p asn hv) s = .next t ∧ WorkFramed [] s.dev t.dev ∧ (t.dev.enc n).force = true ∧
      (t.dev.enc n).ready = (s.dev.enc n).ready ∧ t.dev.cmd? p asn = none := by
  obtain ⟨rfl, rfl⟩ := starts_names h
  refine ⟨_, runQuiet_starts Dev.encForce (decide_eq_true hp) h, ?_⟩
  rw [withDev_dev, encForce_eq (hgate.see hv) (by simpa using hcfg) (by simpa using hrel)]
  exact ⟨(setEnc_succeed_framed _ _ _ _).after_see, by simp, by simp, by simp⟩

/-- R264: a MARK or CLEAR of a slot that the context has waits for the next picture coded. -/
theorem encLtr_waits {s : State} {p asn n : Nat} {hv : HostView} {c : Cmd} (hp : p < 128)
    (h : Starts (s.dev.see hv) p asn 0x90 c = true) (hgate : EncGate s.dev c n 6)
    (hcfg : (s.dev.enc n).cfg.isSome = true) (hrel : (s.dev.enc n).releasing = false)
    (hact : sf c.entry 8 12 2 = 0 ∨ sf c.entry 8 12 2 = 2) (hslot : sf c.entry 8 8 2 < (s.dev.enc n).cfg!.ltr) :
    ∃ t, exec (.encLtr p asn hv) s = .next t ∧ WorkFramed [] s.dev t.dev ∧
      (t.dev.enc n).ltrActs = (s.dev.enc n).ltrActs ++ [(sf c.entry 8 12 2, sf c.entry 8 8 2)] ∧ t.dev.cmd? p asn = none := by
  obtain ⟨rfl, rfl⟩ := starts_names h
  have hthree : sf c.entry 8 12 2 ≠ 3 := by omega
  have hone : sf c.entry 8 12 2 ≠ 1 := by omega
  refine ⟨_, runQuiet_starts Dev.encLtr (decide_eq_true hp) h, ?_⟩
  rw [withDev_dev, Dev.encLtr, (hgate.see hv).runs (by decide), see_enc]
  dsimp only
  rw [if_neg (encState_ok hcfg hrel), if_neg (by simp [hthree, hone, hslot])]
  exact ⟨(setEnc_succeed_framed _ _ _ _).after_see, by simp, by simp⟩

/-! ### END and RELEASE with nothing in flight -/

theorem not_inFlight {x : EncCtx} (h : x.inFlight = false) : x.held = [] ∧ x.ready = [] ∧ x.pics = [] := by
  simpa [EncCtx.inFlight, and_assoc] using h

/-- An empty mini-GOP closes with nothing to code. -/
theorem closeGop_of_not_held {x : EncCtx} (h : x.held = []) : x.closeGop = x := by simp [EncCtx.closeGop, h]

/-- A context in rest, for which nothing waits, stays as it is. -/
theorem encIdle_rests {d : Dev} {n : Nat} (hidle : (d.enc n).inFlight = false) (hnext : (d.enc n).nextCfg = none)
    (hend : (d.enc n).ending = none) (hrel : (d.enc n).releasing = false) (hlater : (d.enc n).later = []) :
    d.encIdle n = d.updEnc n fun x => { x with later := [] } := by
  simp [Dev.encIdle, hidle, hnext, hend, hrel, hlater]

/-- The END that a context in rest awaits completes. -/
theorem encIdle_ends {d : Dev} {n : Nat} {c : Cmd} (hidle : (d.enc n).inFlight = false) (hnext : (d.enc n).nextCfg = none)
    (hend : (d.enc n).ending = some (c.part, c.asn)) (hcmd : d.cmd? c.part c.asn = some c)
    (hrel : (d.enc n).releasing = false) (hlater : (d.enc n).later = []) :
    WorkFramed [] d (d.encIdle n) ∧ (d.encIdle n).enc n = { d.enc n with ending := none } ∧
      (d.encIdle n).cmd? c.part c.asn = none := by
  have heq : d.encIdle n =
      ((d.setEnc n { d.enc n with ending := none }).succeed c).updEnc n fun x => { x with later := [] } := by
    simp [Dev.encIdle, Dev.updEnc, hidle, hnext, hend, hrel, hlater, hcmd]
  rw [heq]
  refine ⟨(setEnc_succeed_framed _ _ _ _).trans (setEnc_framed _ _ _), ?_, ?_⟩
  · rw [enc_updEnc, enc_succeed, enc_setEnc, ← hlater]
  · rw [Dev.updEnc, cmd?_setEnc, cmd?_succeed]

/-- R258: END with nothing in flight completes, and the next picture starts a new sequence. -/
theorem encEnd_completes {s : State} {p asn n : Nat} {hv : HostView} {c : Cmd} (hp : p < 128)
    (h : Starts (s.dev.see hv) p asn 0x90 c = true) (hgate : EncGate s.dev c n 4)
    (hcfg : (s.dev.enc n).cfg.isSome = true) (hrel : (s.dev.enc n).releasing = false)
    (hidle : (s.dev.enc n).inFlight = false) (hlater : (s.dev.enc n).later = []) (hnext : (s.dev.enc n).nextCfg = none) :
    ∃ t, exec (.encEnd p asn hv) s = .next t ∧ WorkFramed [] s.dev t.dev ∧ (t.dev.enc n).fresh = true ∧
      (t.dev.enc n).ending = none ∧ (t.dev.enc n).cfg = (s.dev.enc n).cfg ∧ t.dev.cmd? p asn = none := by
  obtain ⟨rfl, rfl⟩ := starts_names h
  obtain ⟨hheld, -⟩ := not_inFlight hidle
  let x : EncCtx := { s.dev.enc n with fresh := true, ending := some (c.part, c.asn) }
  let e : Dev := ((s.dev.see hv).setCmd { c with phase := .running }).setEnc n x
  have hx : e.enc n = x := enc_setEnc _ _ _
  have hwaits : WorkFramed [] (s.dev.see hv) e := (WorkFramed.of_host (setCmd_framed _ _)).trans (setEnc_framed _ _ _)
  obtain ⟨hframe, hctx, hgone⟩ := encIdle_ends (d := e) (n := n) (c := { c with phase := .running })
    (by rw [hx]; exact hidle) (by rw [hx]; exact hnext) (by rw [hx]) (cmd?_setCmd _ _) (by rw [hx]; exact hrel)
    (by rw [hx]; exact hlater)
  have heq : (s.dev.see hv).encEnd c = e.encIdle n := by
    rw [Dev.encEnd, (hgate.see hv).runs (by decide), see_enc, if_neg (encState_ok hcfg hrel)]
    dsimp only
    rw [closeGop_of_not_held hheld]
  refine ⟨_, runQuiet_starts Dev.encEnd (decide_eq_true hp) h, ?_⟩
  rw [withDev_dev, heq, hctx, hx]
  exact ⟨(hwaits.trans hframe).after_see, rfl, rfl, rfl, hgone⟩

theorem showEncs_still (d : Dev) : Still ((List.range 6).map Pg.ENCPIX) d d.showEncs :=
  still_foldl _ (fun d _ hg => wr_still d _ _ _ (by decide) (List.mem_map_of_mem hg)) d

/-- A context in rest that is released keeps its queue alone. -/
theorem encIdle_releases {d : Dev} {n : Nat} (hidle : (d.enc n).inFlight = false) (hnext : (d.enc n).nextCfg = none)
    (hend : (d.enc n).ending = none) (hrel : (d.enc n).releasing = true) :
    PipStill ((List.range 6).map Pg.ENCPIX) d (d.encIdle n) ∧ (d.encIdle n).enc n = { queue := (d.enc n).queue } := by
  have heq : d.encIdle n = (d.setEnc n { queue := (d.enc n).queue }).showEncs := by
    simp [Dev.encIdle, hidle, hnext, hend, hrel]
  rw [heq]
  exact ⟨(setEnc_still _ _ _ _).trans (.of_still (showEncs_still _)),
    (enc_of_pip (still_pip (showEncs_still _)) n).trans (enc_setEnc _ _ _)⟩

/-- R258: a context with nothing in flight and no frame whose buffer it reads lets go of its plan alone. -/
theorem encQuiesce_idle {d : Dev} {n : Nat} (hidle : (d.enc n).inFlight = false) (hlater : (d.enc n).later = [])
    (hframes : d.cap.frames = []) : d.encQuiesce n = d.setEnc n { d.enc n with plan := none, asked := none } := by
  obtain ⟨hheld, hready, -⟩ := not_inFlight hidle
  simp only [Dev.encQuiesce, hheld, hready, hlater, List.map_nil, List.append_nil, List.filter_nil, List.foldl_nil,
    closeGop_of_not_held]
  exact retireAll_of_no_frames hframes

/-- R258: RELEASE with nothing in flight frees queue and configuration. -/
theorem encRelease_frees {s : State} {p asn n : Nat} {hv : HostView} {c : Cmd} (hp : p < 128)
    (h : Starts (s.dev.see hv) p asn 0x90 c = true) (hgate : EncGate s.dev c n 5)
    (hcfg : (s.dev.enc n).cfg.isSome = true) (hidle : (s.dev.enc n).inFlight = false)
    (hlater : (s.dev.enc n).later = []) (hnext : (s.dev.enc n).nextCfg = none) (hend : (s.dev.enc n).ending = none)
    (hframes : s.dev.cap.frames = []) :
    ∃ t, exec (.encRelease p asn hv) s = .next t ∧ WorkFramed ((List.range 6).map Pg.ENCPIX) s.dev t.dev ∧
      (t.dev.enc n).cfg = none ∧ (t.dev.enc n).queue = [] ∧ t.dev.cmd? p asn = none := by
  obtain ⟨rfl, rfl⟩ := starts_names h
  let x : EncCtx := { s.dev.enc n with
    plan := none, asked := none, queue := [], releasing := (s.dev.enc n).cfg.isSome, source := none, fresh := true }
  let e : Dev := (((s.dev.see hv).setEnc n { s.dev.enc n with plan := none, asked := none }).setEnc n x).succeed c
  have hx : e.enc n = x := (enc_succeed _ _ _ _ _).trans (enc_setEnc _ _ _)
  have hleft : WorkFramed [] (s.dev.see hv) e := (setEnc_framed _ _ _).trans (setEnc_succeed_framed _ _ _ _)
  obtain ⟨hstill, hctx⟩ := encIdle_releases (d := e) (n := n) (by rw [hx]; exact hidle) (by rw [hx]; exact hnext)
    (by rw [hx]; exact hend) (by rw [hx]; exact hcfg)
  have heq : (s.dev.see hv).encRelease c = e.encIdle n := by
    rw [Dev.encRelease, (hgate.see hv).runs (by decide)]
    dsimp only
    rw [encQuiesce_idle (by rwa [see_enc]) (by rwa [see_enc]) (by rwa [see_cap]), Dev.updEnc, enc_setEnc, see_enc]
  have hgone : (e.encIdle n).cmd? c.part c.asn = none := by
    rw [Dev.cmd?, congrArg Dev.hst hstill.1.symm]
    exact cmd?_succeed _ _ _ _
  refine ⟨_, runQuiet_starts Dev.encRelease (decide_eq_true hp) h, ?_⟩
  rw [withDev_dev, heq, hctx, hx]
  exact ⟨((hleft.mono (List.nil_subset _)).trans (.of_pip hstill.framed)).after_see, rfl, rfl, hgone⟩

/-! ### SINK_READ -/

theorem getD_find_upd {α : Type} (l : List (Nat × List α)) (k : Nat) {f : List α → List α} (hf : f [] = []) :
    (Assoc.find (Assoc.upd l k f) k).getD [] = f ((Assoc.find l k).getD []) := by
  unfold Assoc.upd
  cases h : Assoc.find l k with
  | none => simp [h, hf]
  | some v => simp [find_put_same]

/-- The buffer that a SINK_READ names, after a change of some of its sink's buffers that keeps their CIDs. -/
theorem sinkBuf_updBuf (d : Dev) (c : Cmd) (sel : MemBuf → Bool) {f : MemBuf → MemBuf} (hf : ∀ b, (f b).cid = b.cid) :
    (d.updBuf c sel f).sinkBuf c = (d.sinkBuf c).map fun b => if sel b then f b else b := by
  have hcid : ∀ b : MemBuf, (if sel b = true then f b else b).cid = b.cid := fun b => by
    split
    · exact hf b
    · rfl
  unfold Dev.sinkBuf Dev.updBuf
  dsimp only
  rw [getD_find_upd _ _ List.map_nil]
  split
  · exact List.getLast?_map
  · rw [List.find?_map]
    simp only [Function.comp_def, hcid]

/-- A buffer that one more SINK_READ copies. -/
def readBy (c : Cmd) (b : MemBuf) : MemBuf := { b with reads := b.reads ++ [(c.part, c.asn)] }

/-- R262: the buffer that a SINK_READ names is held for it while its copy moves. -/
theorem encSinkRead_moves {s : State} {p asn n : Nat} {hv : HostView} {c : Cmd} {b : MemBuf} (hp : p < 128)
    (h : Starts (s.dev.see hv) p asn 0x90 c = true) (hgate : EncGate s.dev c n 7) (hrend : sf c.entry 10 0 6 < 48)
    (howner : s.dev.ownerOf 1 (sf c.entry 10 0 6) = c.part) (hbuf : s.dev.sinkBuf c = some b)
    (hroom : 0x2000 + b.output.bytes.length ≤ dwAt c.entry 7) (hshed : s.dev.shed = 0) :
    ∃ t, exec (.encSinkRead p asn hv) s = .next t ∧ WorkFramed [] s.dev t.dev ∧
      (t.dev.sinkBuf c).map (·.reads) = some (b.reads ++ [(c.part, c.asn)]) ∧
      (t.dev.cmd? p asn).map (·.phase) = some .moving := by
  obtain ⟨rfl, rfl⟩ := starts_names h
  let e : Dev := (s.dev.see hv).updBuf c (fun m => m.frame = b.frame) (readBy c)
  have heq : (s.dev.see hv).encSinkRead c = e.startMove c 0 := by
    rw [Dev.encSinkRead, (hgate.see hv).runs (by decide)]
    dsimp only
    rw [if_neg (Nat.not_le.mpr hrend), see_ownerOf, if_neg (not_not_intro howner), see_sinkBuf, hbuf]
    dsimp only
    rw [if_neg (Nat.not_lt.mpr hroom), see_shed, hshed, if_neg (by decide)]
    rfl
  obtain ⟨hframe, hmoves⟩ := startMove_spec e c 0
  have hheld : WorkFramed [] (s.dev.see hv) e := .of_pip (.of_pip _ _ _)
  have hread : (e.startMove c 0).sinkBuf c = some (readBy c b) := by
    have hkept : (e.startMove c 0).sinkBuf c = e.sinkBuf c := by simp only [Dev.sinkBuf, hframe.pip]
    refine hkept.trans ((sinkBuf_updBuf (f := readBy c) _ _ _ fun _ => rfl).trans ?_)
    rw [see_sinkBuf, hbuf]
    simp
  refine ⟨_, runQuiet_starts Dev.encSinkRead (decide_eq_true hp) h, ?_⟩
  rw [withDev_dev, heq, hread]
  exact ⟨(hheld.trans (.of_host hframe)).after_see, rfl, hmoves⟩

/-- Settles O35: an operation whose turn has come runs on its context; what it completes or starts to move changes the
host's part alone. -/
theorem encoderCommands : Obligations.EncoderCommands := by
  unfold Obligations.EncoderCommands
  refine ⟨?config, ?picture, ?collect, ?force, ?finish, ?release, ?ltr, ?sinkRead⟩
  case config =>
    intro s p asn n hv c hp _ h hn hop howner hturn hlen
    exact encConfig_moves hp h ⟨hn, hop, howner, hturn⟩ hlen
  case picture =>
    intro s p asn n hv c hp _ h hn hop howner hturn hcfg hrel hsource hpitch hrow hlen
    exact encPicture_moves hp h ⟨hn, hop, howner, hturn⟩ hcfg hrel hsource hpitch hrow hlen
  case collect =>
    intro s p asn n hv c b hp _ h hn hop howner hturn hhead hroom hshed
    exact encCollect_moves hp h ⟨hn, hop, howner, hturn⟩ hhead hroom hshed
  case force =>
    intro s p asn n hv c hp _ h hn hop howner hturn hcfg hrel
    exact encForceIrap_forces hp h ⟨hn, hop, howner, hturn⟩ hcfg hrel
  case finish =>
    intro s p asn n hv c hp _ h hn hop howner hturn hcfg hrel hidle hlater hnext _
    exact encEnd_completes hp h ⟨hn, hop, howner, hturn⟩ hcfg hrel hidle hlater hnext
  case release =>
    intro s p asn n hv c hp _ h hn hop howner hturn hcfg _ hidle hlater hnext hend hframes
    obtain ⟨t, ht, hframe, hgone⟩ :=
      encRelease_frees hp h ⟨hn, hop, howner, hturn⟩ hcfg hidle hlater hnext hend hframes
    exact ⟨t, ht, hframe.with_cap, hgone⟩
  case ltr =>
    intro s p asn n hv c hp _ h hn hop howner hturn hcfg hrel hact hslot
    exact encLtr_waits hp h ⟨hn, hop, howner, hturn⟩ hcfg hrel hact hslot
  case sinkRead =>
    intro s p asn n hv c b hp _ h hn hop howner hturn hrend hrendOwner hbuf hroom hshed
    exact encSinkRead_moves hp h ⟨hn, hop, howner, hturn⟩ hrend hrendOwner hbuf hroom hshed

end Sys2Proof.Proofs

/-! PROOFS. EncoderEngines: pictures start, their rows end in both engines, and they commit (R263 to R272). -/

namespace Sys2Proof.Proofs

open Machine Laws

/-- What the power-loss sequence stops runs while no such sequence does. -/
theorem runQuiet_runs {s : State} {ok : Bool} (f : Dev → Dev) (hok : ok = true) (hs : Ready s.dev = true) :
    runQuiet ok f s = .next (s.withDev (f s.dev)) := by rw [hok, runQuiet_ok f s hs]

@[simp] theorem see_pip (d : Dev) (hv : HostView) : (d.see hv).pip = d.pip := see_same (·.pip) (fun _ _ _ _ => rfl) d hv

/-! ### A picture starts -/

/-- No picture of the context itself goes before its next one. -/
theorem encAhead_self (d : Dev) (n : Nat) (s : EncSrc) : d.encAhead n n s = false := by simp [Dev.encAhead]

/-- Where no other context is configured, none has a picture that goes first (R273). -/
theorem not_encAhead_of_alone {d : Dev} {n : Nat} (s : EncSrc) (h : d.pip.encs.all (fun e => e.1 = n) = true) :
    d.pip.encs.any (fun e => d.encAhead n e.1 s) = false := by
  rw [List.any_eq_false]
  intro e he
  have hn : e.1 = n := of_decide_eq_true (List.all_eq_true.mp h e he)
  rw [hn, encAhead_self]
  decide

/-- Picture `q` is the next of context `n`, and may start without an assist request: its references are done, its engines work
and are free, no plan or request governs it, and neither shedding nor a header that is too long holds it (R263, R265, R271). -/
structure MayStart (d : Dev) (n hdr : Nat) (q : EncNext) (r : List EncNext) : Prop where
  ready : (d.enc n).ready = q :: r
  works : d.encWorks (d.enc n) = true
  free : d.encFreeEngines n = true
  refs : (d.enc n).refsDone ((d.enc n).nextRefs q) = true
  hdr : hdr ≤ PIC_HDR
  shed : d.shed < 2
  plan : (d.enc n).plan = none
  asked : (d.enc n).asked = none
  assist : d.assisted (d.enc n).pageRc = false

theorem MayStart.see {d : Dev} {n hdr : Nat} {q : EncNext} {r : List EncNext} (h : MayStart d n hdr q r) (hv : HostView) :
    MayStart (d.see hv) n hdr q r := by
  obtain ⟨m, e⟩ := see_only d hv
  rw [e]
  exact ⟨h.ready, h.works, h.free, h.refs, h.hdr, h.shed, h.plan, h.asked, h.assist⟩

/-- R265, R269, R271: with room for its output, and no picture that goes first, such a picture starts at the QP of its rate mode
under the context's cap. -/
theorem encStart_begins {d : Dev} {n hdr : Nat} {q : EncNext} {r : List EncNext} (poc qp target : Nat)
    (h : MayStart d n hdr q r) (hahead : d.pip.encs.any (fun e => d.encAhead n e.1 q.src) = false)
    (hroom : d.encRoom n q.src = true) :
    ∃ goal, d.encStart n poc qp target hdr =
      d.encBegin n q poc hdr ((d.enc n).cfg!.qpFor q.type qp) goal (d.enc n).capNow (decide ((d.enc n).cfg!.mode = 0)) := by
  refine ⟨min (2 ^ 32 - 1) ((d.enc n).targetFor (target % 2 ^ 32)), ?_⟩
  have hholds : ¬ ((!d.encWorks (d.enc n)) = true ∨ (!d.encFreeEngines n) = true ∨
      (!(d.enc n).refsDone ((d.enc n).nextRefs q)) = true ∨ PIC_HDR < hdr) := by
    simp [h.works, h.free, h.refs, h.hdr]
  have hskips : ¬ (2 ≤ d.shed ∨ (!d.encRoom n q.src) = true) := by
    simp [hroom, h.shed]
  simp only [Dev.encStart, h.ready, if_neg hholds, hahead, if_neg hskips, h.plan, h.asked, h.assist, Bool.false_eq_true,
    if_false, reduceCtorEq]

/-- The pages that a start of a picture writes. -/
def startPages (y : EncCfg) : List Page := [Pg.ENCPIX y.engine] ++ y.engines.map Pg.ENCPIX

/-- What the engines' registers show of a picture that starts. -/
theorem startShown_still (d : Dev) (n : Nat) (l : List Nat) : Still (l.map Pg.ENCPIX) d (l.foldl (fun d g =>
    ((d.wr (Pg.ENCPIX g) Reg.ENC_PIX.CONTEXT n).wr (Pg.ENCPIX g) Reg.ENC_PIX.BUSY_PIC 1).wr (Pg.ENCPIX g) Reg.ENC_PIX.AHEAD 0) d) :=
  still_foldl _ (fun d g hg =>
    have hpage : Pg.ENCPIX g ∈ l.map Pg.ENCPIX := List.mem_map_of_mem hg
    still_trans (wr_still d _ _ _ (by decide) hpage)
      (still_trans (wr_still _ _ _ _ (by decide) hpage) (wr_still _ _ _ _ (by decide) hpage))) d

/-- The picture joins those under way; beside its context the start changes registers of the pixel engines alone. -/
theorem encBegin_spec (d : Dev) (n : Nat) (q : EncNext) (poc hdr qp target cap : Nat) (fixed : Bool) :
    let t := d.encBegin n q poc hdr qp target cap fixed
    PipStill (startPages (d.enc n).cfg!) d t ∧ (t.enc n).ready = (d.enc n).ready.drop 1 ∧
      ∃ p : EncPic, (t.enc n).pics = (d.enc n).pics ++ [p] ∧
        [p.num, p.type, p.poc, p.qp, p.cap] = [q.num, q.type, poc, qp, cap] := by
  unfold Dev.encBegin
  extract_lets x y ltr marks caps goals bands p pg other switched pipes claimed joined shown t
  have hpage : pg ∈ startPages y := List.mem_append_left _ List.mem_cons_self
  have hengines : y.engines.map Pg.ENCPIX ⊆ startPages y := List.subset_append_right _ _
  have hswitched : PipStill (startPages y) d switched := by
    unfold switched
    split
    · exact .of_still (bump_still _ _ _ (by decide) hpage)
    · exact .of_still (still_refl _ _)
  have hclaimed : PipStill (startPages y) switched claimed := .of_pip _ _ _
  have hjoined : PipStill (startPages y) claimed joined := setEnc_still _ _ _ _
  have hshown : Still (startPages y) joined shown := still_mono hengines (startShown_still joined n y.engines)
  have hcounted : Still (startPages y) shown t := bump_still _ _ _ (by decide) hpage
  have hctx : t.enc n = joined.enc n := enc_of_pip ((still_pip hcounted).trans (still_pip hshown)) n
  refine ⟨?_, ?_, p, ?_, rfl⟩
  · exact hswitched.trans (hclaimed.trans (hjoined.trans (.of_still (still_trans hshown hcounted))))
  · rw [hctx, enc_setEnc]
  · rw [hctx, enc_setEnc]

/-- R265: what a picture that starts leaves. -/
theorem pictureStart_begins {s : State} {n hdr : Nat} {hv : HostView} {q : EncNext} {r : List EncNext} (poc qp target : Nat)
    (hn : n < 256) (hs : Ready s.dev = true) (hawake : s.dev.allAwake = true) (h : MayStart s.dev n hdr q r)
    (hroom : (s.dev.see hv).encRoom n q.src = true) (halone : s.dev.pip.encs.all (fun e => e.1 = n) = true) :
    ∃ t, exec (.encPictureStart n poc qp target hdr hv) s = .next t ∧ Framed (startPages (s.dev.enc n).cfg!)
      { s.dev with pip := t.dev.pip, hostFails := t.dev.hostFails, vectorsOff := t.dev.vectorsOff } t.dev ∧
      (t.dev.enc n).pics.getLast?.map (fun y => [y.num, y.type, y.poc, y.qp, y.cap]) =
        some [q.num, q.type, poc, (s.dev.enc n).cfg!.qpFor q.type qp, (s.dev.enc n).capNow] ∧
      (t.dev.enc n).pics.length = (s.dev.enc n).pics.length + 1 ∧ (t.dev.enc n).ready = r := by
  obtain ⟨goal, hgoal⟩ := encStart_begins poc qp target (h.see hv) (not_encAhead_of_alone _ (by rwa [see_pip])) hroom
  have hruns : exec (.encPictureStart n poc qp target hdr hv) s = .next (s.withDev ((s.dev.see hv).encStart n poc qp target hdr)) := by
    rw [← work_awake s.dev (s.dev.encPages n) hawake]
    exact runQuiet_runs (fun d => ((d.work (d.encPages n)).see hv).encStart n poc qp target hdr) (decide_eq_true hn) hs
  obtain ⟨hstill, hleft, p, hpics, hfields⟩ := encBegin_spec (s.dev.see hv) n q poc hdr
    ((s.dev.enc n).cfg!.qpFor q.type qp) goal (s.dev.enc n).capNow (decide ((s.dev.enc n).cfg!.mode = 0))
  rw [see_enc] at hgoal hstill hleft hpics
  refine ⟨_, hruns, ?_⟩
  rw [withDev_dev, hgoal, hleft, hpics, h.ready]
  refine ⟨hstill.framed.after_see, ?_, by simp, rfl⟩
  rw [List.getLast?_append, List.getLast?_singleton]
  exact congrArg some hfields

/-! ### Rows end in the pixel engine -/

theorem encShow_still (d : Dev) (n b : Nat) {pgs : List Page} (hpix : Pg.ENCPIX ((d.enc n).cfg!.engine + b) ∈ pgs)
    (hent : Pg.ENCENT ((d.enc n).cfg!.engine + b) ∈ pgs) : Still pgs d (d.encShow n b) :=
  still_trans (wr_still d _ _ _ (by decide) hpix)
    (still_trans (wr_still _ _ _ _ (by decide) hent) (wr_still _ _ _ _ (by decide) hent))

theorem encFree_still (pgs : List Page) (d : Dev) (n : Nat) (s : EncSrc) : PipStill pgs d (d.encFree n s) := by
  unfold Dev.encFree
  split
  · exact .of_still (still_refl _ _)
  · exact .of_pip _ _ _

theorem enc_encFree (d : Dev) (n m : Nat) (s : EncSrc) : (d.encFree n s).enc m = d.enc m := by
  unfold Dev.encFree
  split <;> rfl

/-- A picture's change reaches the only picture under way. -/
theorem updPic_only {x : EncCtx} {y : EncPic} (f : EncPic → EncPic) (h : x.pics = [y]) :
    (x.updPic y.num f).pics = [f y] := by
  simp [EncCtx.updPic, h]

/-- The band once the pixel engine has ended its next row with estimate `e` (R267). -/
def Band.pixelEnded (z : Band) (ahead e qp : Nat) (samples : List Nat) : Band :=
  { z with pix := z.pix + 1, est := z.est ++ [e], basis := z.basis ++ [z.basisOf ahead z.pix], qps := z.qps ++ [qp],
           store := z.store ++ [samples] }

/-- The pages that the end of a row in the pixel engine of band `b` writes. -/
def pixelPages (y : EncCfg) (b : Nat) : List Page :=
  [Pg.ENCPIX (y.engine + b), Pg.ENCENT (y.engine + b), Pg.ENCENT y.engine]

/-- What freeing the source of a picture changes: its buffers and the frames that wait for them. -/
theorem sourceFreed_still {pgs : List Page} (d : Dev) (n : Nat) (s : EncSrc) (last : Bool) :
    let t := if last then (d.encFree n s).retireAll else d
    Still pgs { d with pip := t.pip, cap := t.cap } t ∧ t.enc n = d.enc n := by
  cases last with
  | false => exact ⟨still_refl _ _, rfl⟩
  | true =>
    obtain ⟨x, hx⟩ := retireAll_only (d.encFree n s)
    obtain ⟨hpip, hregs⟩ := encFree_still pgs d n s
    simp only [if_true, hx]
    exact ⟨⟨by rw [← hpip], hregs⟩, enc_encFree d n n s⟩

/-- A change of the pipes and of pages, and then of the pipes and the captures. -/
theorem PipStill.then_cap {pgs : List Page} {d t u : Dev} (h : PipStill pgs d t)
    (k : Still pgs { t with pip := u.pip, cap := u.cap } u) : Still pgs { d with pip := u.pip, cap := u.cap } u := by
  refine ⟨?_, k.2.trans h.2⟩
  have a := h.1
  have b := k.1
  rw [← a] at b
  exact b

/-- R265, R267: a row that the pixel engine may end ends, and leaves its estimate, QP and samples to the band. -/
theorem pixelRow_ends {d : Dev} {n b : Nat} {code : RowCode} {y : EncPic} (e : Nat) (hpics : (d.enc n).pics = [y])
    (hband : b < y.bands.length) (hleft : (y.bands.getD b {}).pix < (d.enc n).cfg!.rows)
    (hahead : (y.bands.getD b {}).pix ≤ (y.bands.getD b {}).row + (d.enc n).cfg!.ahead)
    (hsyntax : (d.enc n).syntaxRows b < 64) (hcode : rowPossible code y (d.enc n).cfg! (y.bands.getD b {}) = true) :
    let t := d.pixelRow n b e code
    Still (pixelPages (d.enc n).cfg! b) { d with pip := t.pip, cap := t.cap } t ∧ (t.enc n).pics.map (·.bands) =
      [y.bands.modify b fun z => Band.pixelEnded z (d.enc n).cfg!.ahead e (rowQp code y) code.samples] := by
  have hholds : ¬ (y.bands.length ≤ b ∨ (y.bands.getD b {}).row + (d.enc n).cfg!.ahead < (y.bands.getD b {}).pix ∨
      64 ≤ (d.enc n).syntaxRows b ∨ (!rowPossible code y (d.enc n).cfg! (y.bands.getD b {})) = true) := by
    simp only [hcode, Bool.not_true, Bool.false_eq_true, or_false]
    omega
  have hfind : (d.enc n).pics.find? (fun p => (p.bands.getD b {}).pix < (d.enc n).cfg!.rows) = some y := by
    simpa [hpics] using hleft
  let x := (d.enc n).updPic y.num fun _ =>
    y.updBand b fun z => Band.pixelEnded z (d.enc n).cfg!.ahead e (rowQp code y) code.samples
  let shown := (d.setEnc n x).encShow n b
  let noted := if (d.enc n).syntaxRows b = 63 then shown.bump (Pg.ENCENT (d.enc n).cfg!.engine) Reg.ENC_ENT.STALL_CNT else shown
  let last := (y.updBand b fun z =>
    Band.pixelEnded z (d.enc n).cfg!.ahead e (rowQp code y) code.samples).pixelDone (d.enc n).cfg!.rows
  have heq : d.pixelRow n b e code = if last then (noted.encFree n y.src).retireAll else noted := by
    unfold Dev.pixelRow
    dsimp only
    rw [hfind]
    dsimp only
    rw [if_neg hholds]
    rfl
  have hshown : Still (pixelPages (d.enc n).cfg! b) (d.setEnc n x) shown :=
    encShow_still _ n b (by rw [enc_setEnc]; exact List.mem_cons_self)
      (by rw [enc_setEnc]; exact List.mem_cons_of_mem _ List.mem_cons_self)
  have hnoted : Still (pixelPages (d.enc n).cfg! b) shown noted := by
    unfold noted
    split
    · exact bump_still _ _ _ (by decide) (by simp [pixelPages])
    · exact still_refl _ _
  have hrow := still_trans hshown hnoted
  obtain ⟨hfreed, hkept⟩ := sourceFreed_still (pgs := pixelPages (d.enc n).cfg! b) noted n y.src last
  rw [heq]
  refine ⟨((setEnc_still _ d n x).trans (.of_still hrow)).then_cap hfreed, ?_⟩
  rw [hkept, enc_of_pip (still_pip hrow), enc_setEnc, updPic_only _ hpics]
  rfl

theorem pixelRowEnd_ends {s : State} {n b e : Nat} {code : RowCode} {y : EncPic} (hn : n < 256) (hb : b < 6)
    (hs : Ready s.dev = true) (hpics : (s.dev.enc n).pics = [y]) (hband : b < y.bands.length)
    (hleft : (y.bands.getD b {}).pix < (s.dev.enc n).cfg!.rows)
    (hahead : (y.bands.getD b {}).pix ≤ (y.bands.getD b {}).row + (s.dev.enc n).cfg!.ahead)
    (hsyntax : (s.dev.enc n).syntaxRows b < 64)
    (hcode : rowPossible code y (s.dev.enc n).cfg! (y.bands.getD b {}) = true) :
    ∃ t, exec (.pixelRowEnd n b e code) s = .next t ∧
      Still (pixelPages (s.dev.enc n).cfg! b) { s.dev with pip := t.dev.pip, cap := t.dev.cap } t.dev ∧
      (t.dev.enc n).pics.map (·.bands) =
        [y.bands.modify b fun z => Band.pixelEnded z (s.dev.enc n).cfg!.ahead e (rowQp code y) code.samples] :=
  ⟨_, runQuiet_runs (fun d => d.pixelRow n b e code) (by simp [Instr.wellFormed, hn, hb]) hs,
    pixelRow_ends e hpics hband hleft hahead hsyntax hcode⟩

/-! ### Rows end in the entropy engine -/

/-- The pages that the end of a row in the entropy engine of the first band writes. -/
def entropyPages (y : EncCfg) : List Page := [Pg.ENCPIX y.engine, Pg.ENCENT y.engine]

/-- A picture of one band has no seam (R272). -/
theorem encSeam_of_one_band {d : Dev} {n k r : Nat} {y : EncPic} {z : Band}
    (hfind : (d.enc n).pics.find? (fun p => p.num = k) = some y) (hbands : y.bands = [z]) : d.encSeam n k 0 r = d := by
  simp [Dev.encSeam, hfind, hbands]

/-- The band once the entropy engine has ended its next row: the floor check, then the rollback check (R267, R270), and the
filtered rows that may go to the reference picture (R268). -/
def rowCommitted (x : EncCfg) (y : EncPic) (z : Band) (a fb plan : Nat) (fs : List Nat) : Band :=
  (z.endRow (x.reserve (decide (y.type ≤ 1)) z.ctus (z.row + 1)) x.tol a fb plan fs).1.writeRows x.codec x.rows none x.rows

/-- The picture whose first band becomes `z`, with a rollback noted, and the filtered rows that may go written. -/
def picCommitted (x : EncCfg) (z : Band) (roll : Bool) (p : EncPic) : EncPic :=
  { ((p.updBand 0 fun _ => z).writeRows x.codec x.rows) with rolled := p.rolled || roll }

theorem picCommitted_bands (x : EncCfg) (w : Band) (roll : Bool) {y : EncPic} {z : Band} (h : y.bands = [z]) :
    (picCommitted x w roll y).bands = [w.writeRows x.codec x.rows none x.rows] := by
  simp [picCommitted, EncPic.writeRows, EncPic.updBand, h]

/-- R267, R268, R270: the next row of the only band commits under its checks. -/
theorem encRow_commits {d : Dev} {n a fb plan : Nat} {fs : List Nat} {y : EncPic} {z : Band} (hpics : (d.enc n).pics = [y])
    (hbands : y.bands = [z]) (hleft : z.row < (d.enc n).cfg!.rows) (hpixel : z.row < z.pix)
    (hfloor : fb ≤ (d.enc n).cfg!.floorRow (decide (y.type ≤ 1)) z.ctus z.row) :
    let t := d.encRow n 0 a fb plan fs
    PipStill (entropyPages (d.enc n).cfg!) d t ∧
      (t.enc n).pics.map (·.bands) = [[rowCommitted (d.enc n).cfg! y z a fb plan fs]] := by
  have hfind : (d.enc n).pics.find? (fun p => (p.bands.getD 0 {}).row < (d.enc n).cfg!.rows) = some y := by
    simpa [hpics, hbands] using hleft
  have hholds : ¬ ([z].length ≤ 0 ∨ z.pix ≤ z.row ∨ (d.enc n).cfg!.floorRow (decide (y.type ≤ 1)) z.ctus z.row < fb) := by
    simp only [List.length_singleton]
    omega
  let ended := z.endRow ((d.enc n).cfg!.reserve (decide (y.type ≤ 1)) z.ctus (z.row + 1)) (d.enc n).cfg!.tol a fb plan fs
  let x := (d.enc n).updPic y.num (picCommitted (d.enc n).cfg! ended.1 ended.2.2)
  let coded := d.setEnc n x
  let rolled := if ended.2.2 then coded.bump (Pg.ENCPIX (d.enc n).cfg!.engine) Reg.ENC_PIX.ROLLBACK_CNT else coded
  let counted := rolled.bump (Pg.ENCENT (d.enc n).cfg!.engine) Reg.ENC_ENT.BITS_LO 0 ended.2.1
  have heq : d.encRow n 0 a fb plan fs = (counted.encSeam n y.num 0 z.row).encShow n 0 := by
    simp only [Dev.encRow, hfind, hbands, List.getD_cons_zero, if_neg hholds]
    rfl
  have hrolled : Still (entropyPages (d.enc n).cfg!) coded rolled := by
    unfold rolled
    split
    · exact bump_still _ _ _ (by decide) List.mem_cons_self
    · exact still_refl _ _
  have hcounted : Still (entropyPages (d.enc n).cfg!) coded counted :=
    still_trans hrolled (bump_still _ _ _ (by decide) (by simp [entropyPages]))
  have hctx : counted.enc n = x := (enc_of_pip (still_pip hcounted) n).trans (enc_setEnc _ _ _)
  have hshown : Still (entropyPages (d.enc n).cfg!) counted (counted.encShow n 0) :=
    encShow_still _ n 0 (by rw [hctx]; exact List.mem_cons_self)
      (by rw [hctx]; exact List.mem_cons_of_mem _ List.mem_cons_self)
  have hx : x.pics = [picCommitted (d.enc n).cfg! ended.1 ended.2.2 y] := updPic_only _ hpics
  have hcommitted := picCommitted_bands (d.enc n).cfg! ended.1 ended.2.2 hbands
  have hseam : counted.encSeam n y.num 0 z.row = counted :=
    encSeam_of_one_band (by rw [hctx, hx]; exact List.find?_cons_of_pos (decide_eq_true rfl)) hcommitted
  have hstill := still_trans hcounted hshown
  rw [heq, hseam]
  refine ⟨(setEnc_still _ d n x).trans (.of_still hstill), ?_⟩
  rw [enc_of_pip (still_pip hstill), enc_setEnc, hx, List.map_singleton, hcommitted]
  rfl

theorem encRowEnd_commits {s : State} {n a fb plan : Nat} {fs : List Nat} {y : EncPic} {z : Band} (hn : n < 256)
    (hs : Ready s.dev = true) (hpics : (s.dev.enc n).pics = [y]) (hbands : y.bands = [z])
    (hleft : z.row < (s.dev.enc n).cfg!.rows) (hpixel : z.row < z.pix)
    (hfloor : fb ≤ (s.dev.enc n).cfg!.floorRow (decide (y.type ≤ 1)) z.ctus z.row) :
    ∃ t, exec (.encRowEnd n 0 a fb plan fs) s = .next t ∧ PipStill (entropyPages (s.dev.enc n).cfg!) s.dev t.dev ∧
      (t.dev.enc n).pics.map (·.bands) = [[rowCommitted (s.dev.enc n).cfg! y z a fb plan fs]] :=
  ⟨_, runQuiet_runs (fun d => d.encRow n 0 a fb plan fs) (by simp [Instr.wellFormed, hn]) hs,
    encRow_commits hpics hbands hleft hpixel hfloor⟩

/-! ### The floor's reserve -/

theorem seqFrom_succ (m k : Nat) : seqFrom m (k + 1) = m :: seqFrom (m + 1) k := by
  simp only [seqFrom, List.range_succ_eq_map, List.map_cons, List.map_map, Function.comp_def, Nat.add_zero]
  congr 1
  exact List.map_congr_left fun i _ => by omega

theorem foldl_add_init (f : Nat → Nat) (l : List Nat) (a : Nat) :
    l.foldl (fun a i => a + f i) a = a + l.foldl (fun a i => a + f i) 0 := by
  induction l generalizing a with
  | nil => rfl
  | cons i r ih => rw [List.foldl_cons, List.foldl_cons, ih, ih (0 + f i)]; omega

/-- R270: the reserve before a row is its floor and the reserve before the next. -/
theorem reserve_step {x : EncCfg} (intra : Bool) (n : Nat) {m : Nat} (h : m < x.rows) :
    x.reserve intra n m = x.floorRow intra n m + x.reserve intra n (m + 1) := by
  have hrows : x.rows - m = (x.rows - (m + 1)) + 1 := by omega
  rw [EncCfg.reserve, hrows, seqFrom_succ, List.foldl_cons, Nat.zero_add, foldl_add_init]
  rfl

/-- What the end of a row leaves of a band's place, cap and bits, rolled back or not (R267, R270). -/
theorem endRow_spec (z : Band) (reserve tol a fb plan : Nat) (fs : List Nat) :
    let t := (z.endRow reserve tol a fb plan fs).1
    t.row = z.row + 1 ∧ t.cap = z.cap ∧
      t.spent = z.spent + if z.floored ∨ (!z.floored && decide (z.cap < z.spent + a + reserve)) = true then fb else a := by
  unfold Band.endRow
  extract_lets r excess bits recorded discarded floored err roll ended rolledBack t
  have hfloored : floored.cap = z.cap ∧ floored.spent = z.spent := by
    unfold floored
    split <;> exact ⟨rfl, rfl⟩
  have hended : t.row = ended.row ∧ t.cap = ended.cap ∧ t.spent = ended.spent := by
    unfold t
    dsimp only
    split <;> exact ⟨rfl, rfl, rfl⟩
  rw [hended.1, hended.2.1, hended.2.2]
  exact ⟨rfl, hfloored.1, congrArg (· + bits) hfloored.2⟩

/-- R270: a band that is within its cap with the reserve of its rows stays so. -/
theorem endRow_keeps_reserve {y : EncCfg} {intra : Bool} {n a fb : Nat} {z : Band} (tol plan : Nat) (fs : List Nat)
    (hrow : z.row < y.rows) (hfloor : fb ≤ y.floorRow intra n z.row)
    (hcap : z.spent + y.reserve intra n z.row ≤ z.cap) :
    let t := (z.endRow (y.reserve intra n (z.row + 1)) tol a fb plan fs).1
    t.row = z.row + 1 ∧ t.cap = z.cap ∧ t.spent + y.reserve intra n t.row ≤ t.cap := by
  intro t
  obtain ⟨htrow, htcap, htspent⟩ := endRow_spec z (y.reserve intra n (z.row + 1)) tol a fb plan fs
  refine ⟨htrow, htcap, ?_⟩
  rw [htrow, htcap, htspent]
  rw [reserve_step intra n hrow] at hcap
  split
  · omega
  · next hcoded =>
    obtain ⟨hbelow, hfits⟩ := not_or.mp hcoded
    simp only [hbelow, Bool.not_false, Bool.true_and, decide_eq_true_eq] at hfits
    omega

/-! ### A picture commits -/

/-- The context once a picture without a command of its own is in the output queue (R263). -/
def queuedCtx (x : EncCtx) (bs : List Byte) : EncCtx :=
  { x with ring := { x.ring with seq := x.ring.seq + 1 }, skipped := 0, queue := x.queue ++ [bs] }

/-- R263: a SINK picture of a context without a ring goes to the output queue. -/
theorem encDeliver_queues {d : Dev} {n : Nat} {p : EncPic} (floor : Bool) (qp : Nat) (bits : List Byte)
    (hhost : p.src.host = none) (hring : (d.enc n).cfg!.ringAddr = 0) :
    d.encDeliver n p floor qp bits =
      (d.setEnc n (queuedCtx (d.enc n) (encSlot p floor ((d.enc n).ring.seq + 1) (d.enc n).skipped qp bits)), .SUCCESS, 0) := by
  simp only [Dev.encDeliver, hhost, hring, if_true]
  rfl

/-- The pages that the commit of a picture writes. -/
def commitPages (y : EncCfg) : List Page := [Pg.ENCRC y.engine] ++ y.engines.map Pg.ENCPIX

/-- What the rate controller's registers show of a picture that commits, its floor counted and reported (R269, R270). -/
def commitShown (d : Dev) (rc : Page) (cap spent : Nat) (floor : Bool) : Dev :=
  let shown := (d.wr rc Reg.ENC_RC.LAST_CAP (min (2 ^ 32 - 1) cap)).wr rc Reg.ENC_RC.LAST_BITS (min (2 ^ 32 - 1) spent)
  if floor then (shown.bump rc Reg.ENC_RC.FLOOR_CNT).raise rc 0 else shown

theorem commitShown_frame (d : Dev) (rc : Page) (cap spent : Nat) (floor : Bool) :
    Framed [rc] d (commitShown d rc cap spent floor) := by
  have hshown : Framed [rc] d ((d.wr rc Reg.ENC_RC.LAST_CAP (min (2 ^ 32 - 1) cap)).wr rc Reg.ENC_RC.LAST_BITS
      (min (2 ^ 32 - 1) spent)) := frame_trans (wr_frame _ _ _ _ (by decide) (by simp)) (wr_frame _ _ _ _ (by decide) (by simp))
  unfold commitShown
  dsimp only
  split
  · exact frame_trans hshown (frame_trans (bump_frame _ _ _ (by decide) (by simp)) (raise_frame _ _ _ (by simp)))
  · exact hshown

/-- The engines are free of the picture. -/
theorem enginesIdle_still (d : Dev) (l : List Nat) :
    Still (l.map Pg.ENCPIX) d (l.foldl (fun d g => d.wr (Pg.ENCPIX g) Reg.ENC_PIX.BUSY_PIC 0) d) :=
  still_foldl _ (fun d _ hg => wr_still d _ _ _ (by decide) (List.mem_map_of_mem hg)) d

/-- The context once its only picture is in the output queue as `slot`, `spent` bits long: its buffer drains and refills, and the
picture may be referenced (R266, R269). -/
def committedCtx (x : EncCtx) (p : EncPic) (spent : Nat) (slot bits : List Byte) : EncCtx :=
  ({ queuedCtx x slot with
    pics := [], fullness := min (x.cfg!.vbv * 1000) (x.fullness - spent + x.cfg!.perPicture) } : EncCtx).keepRef p bits

/-- Picture `y`, of one band `z`, is all that a context has in flight, and nothing waits for the context to come to rest; `y` is
coded for the output queue, its rows have ended, and `bs` and `qp` are what it may come to (R258, R263, R269). -/
structure MayCommit (x : EncCtx) (y : EncPic) (z : Band) (qp : Nat) (bs : List Byte) : Prop where
  pics : x.pics = [y]
  bands : y.bands = [z]
  host : y.src.host = none
  held : x.held = []
  ready : x.ready = []
  nextCfg : x.nextCfg = none
  ending : x.ending = none
  releasing : x.releasing = false
  later : x.later = []
  ring : x.cfg!.ringAddr = 0
  done : y.done x.cfg!.rows = true
  length : bs.length = ceilDiv (z.spent + x.filler z.spent) 8
  fixed : y.fixed = false
  quality : x.cfg!.mode ≠ 3 ∨ y.qp * 256 ≤ qp
  least : x.cfg!.qpMin * 256 ≤ qp
  most : qp ≤ x.cfg!.qpMax * 256

/-- The checks of a commit let such a picture pass. -/
theorem MayCommit.passes {x : EncCtx} {y : EncPic} {z : Band} {qp : Nat} {bs : List Byte} (h : MayCommit x y z qp bs) :
    ¬ ((!y.done x.cfg!.rows) = true ∨ bs.length ≠ ceilDiv (z.spent + x.filler z.spent) 8 ∨ qp < x.cfg!.qpMin * 256 ∨
      x.cfg!.qpMax * 256 < qp ∨ (y.fixed = true ∧ (!z.floored) = true ∧ qp ≠ y.qp * 256) ∨
      (x.cfg!.mode = 3 ∧ y.qp = x.cfg!.qpFor y.type 0 ∧ qp < y.qp * 256)) := by
  have hlength := h.length
  have hquality := h.quality
  have hleast := h.least
  have hmost := h.most
  simp only [h.done, h.fixed, Bool.not_true, Bool.false_eq_true, false_and, false_or]
  omega

/-- R263, R269: such a picture commits to the output queue. -/
theorem encCommit_queues {d : Dev} {n qp : Nat} {bs : List Byte} {y : EncPic} {z : Band}
    (h : MayCommit (d.enc n) y z qp bs) :
    let t := d.encCommit n qp bs
    PipFramed (commitPages (d.enc n).cfg!) d t ∧ t.enc n = committedCtx (d.enc n) y z.spent
      (encSlot y z.floored ((d.enc n).ring.seq + 1) (d.enc n).skipped qp bs) bs := by
  let slot := encSlot y z.floored ((d.enc n).ring.seq + 1) (d.enc n).skipped qp bs
  let left := ((d.setEnc n (queuedCtx (d.enc n) slot)).updEnc n fun x =>
    { x with pics := [], fullness := min ((d.enc n).cfg!.vbv * 1000) (x.fullness - z.spent + (d.enc n).cfg!.perPicture) }).updEnc n
      fun x => x.keepRef y bs
  let shown := commitShown left (Pg.ENCRC (d.enc n).cfg!.engine) y.cap z.spent z.floored
  let freed := (d.enc n).cfg!.engines.foldl (fun d g => d.wr (Pg.ENCPIX g) Reg.ENC_PIX.BUSY_PIC 0) shown
  have hspent : (y.bands.map (·.spent)).foldl (· + ·) 0 = z.spent := by simp [h.bands]
  have hfloored : y.bands.any (·.floored) = z.floored := by simp [h.bands]
  have heq : d.encCommit n qp bs = freed.encIdle n := by
    simp only [Dev.encCommit, h.pics, hspent, hfloored, if_neg h.passes, encDeliver_queues _ _ _ h.host h.ring, h.host, if_true]
    rfl
  have hshown : Framed (commitPages (d.enc n).cfg!) left shown :=
    frame_mono (by simp [commitPages]) (commitShown_frame left (Pg.ENCRC (d.enc n).cfg!.engine) y.cap z.spent z.floored)
  have hfreed : Still (commitPages (d.enc n).cfg!) shown freed :=
    still_mono (List.subset_append_right _ _) (enginesIdle_still shown _)
  have hreports : Framed (commitPages (d.enc n).cfg!) left freed := frame_trans hshown (frame_of_still hfreed)
  have hleft : PipFramed (commitPages (d.enc n).cfg!) d left :=
    ((setEnc_still _ d n _).trans ((setEnc_still _ _ n _).trans (setEnc_still _ _ n _))).framed
  have hctx : freed.enc n = committedCtx (d.enc n) y z.spent slot bs := by
    rw [enc_of_pip (frame_pip hreports), enc_updEnc, enc_updEnc, enc_setEnc]
    rfl
  have hidle : (freed.enc n).inFlight = false := by
    rw [hctx]
    simp [EncCtx.inFlight, committedCtx, EncCtx.keepRef, queuedCtx, h.held, h.ready]
  have hrests : freed.encIdle n = freed.updEnc n fun x => { x with later := [] } :=
    encIdle_rests hidle (by rw [hctx]; exact h.nextCfg) (by rw [hctx]; exact h.ending) (by rw [hctx]; exact h.releasing)
      (by rw [hctx]; exact h.later)
  rw [heq, hrests]
  refine ⟨hleft.trans ((PipFramed.of_framed hreports).trans (setEnc_still _ _ n _).framed), ?_⟩
  have hrest : (committedCtx (d.enc n) y z.spent slot bs).later = [] := h.later
  rw [enc_updEnc, hctx, ← hrest]

/-- R263, R269: what the commit of such a picture leaves. -/
theorem pictureCommit_queues {s : State} {n qp : Nat} {bs : List Byte} {y : EncPic} {z : Band} (hv : HostView) (hn : n < 256)
    (hs : Ready s.dev = true) (h : MayCommit (s.dev.enc n) y z qp bs) :
    ∃ t, exec (.encPictureCommit n qp bs hv) s = .next t ∧ Framed (commitPages (s.dev.enc n).cfg!)
      { s.dev with pip := t.dev.pip, hostFails := t.dev.hostFails, vectorsOff := t.dev.vectorsOff } t.dev ∧
      t.dev.enc n = committedCtx (s.dev.enc n) y z.spent
        (encSlot y z.floored ((s.dev.enc n).ring.seq + 1) (s.dev.enc n).skipped qp bs) bs := by
  refine ⟨_, runQuiet_runs (fun d => (d.see hv).encCommit n qp bs) (decide_eq_true hn) hs, ?_⟩
  obtain ⟨hframe, hctx⟩ := encCommit_queues (d := s.dev.see hv) (n := n) (by rwa [see_enc])
  rw [see_enc] at hframe hctx
  exact ⟨hframe.after_see, hctx⟩

/-- Settles O36: each engine's row changes its context, and registers of the context's engines. -/
theorem encoderEngines : Obligations.EncoderEngines := by
  unfold Obligations.EncoderEngines
  refine ⟨?start, ?pixelRow, ?row, ?commit, ?reserve⟩
  case start =>
    intro s n poc qp target hdr hv q r hn _ _ _ hhdr hs hawake hready hworks hfree hrefs _ hshed hroom _ hplan hasked hassist halone
    exact pictureStart_begins poc qp target hn hs hawake ⟨hready, hworks, hfree, hrefs, hhdr, hshed, hplan, hasked, hassist⟩ hroom halone
  case pixelRow =>
    intro s n b e code y hn hb _ hs hpics hband hleft hahead hsyntax hcode
    exact pixelRowEnd_ends hn hb hs hpics hband hleft hahead hsyntax hcode
  case row =>
    intro s n a fb plan fs y z hn _ _ _ hs hpics hbands hleft hpixel hfloor
    exact encRowEnd_commits hn hs hpics hbands hleft hpixel hfloor
  case commit =>
    intro s n qp bs hv y z hn _ hs hpics hbands hhost hheld hready hnext hend hrel hlater hring hdone hlen hfixed hquality hmin hmax
    obtain ⟨t, ht, hframe, hctx⟩ := pictureCommit_queues hv hn hs ⟨hpics, hbands, hhost, hheld, hready, hnext, hend, hrel,
      hlater, hring, hdone, hlen, hfixed, hquality, hmin, hmax⟩
    refine ⟨t, ht, hframe, ?_⟩
    rw [hctx]
    exact ⟨rfl, rfl, rfl, rfl⟩
  case reserve =>
    intro y intra n tol a fb plan fs z hrow hfloor hcap
    exact endRow_keeps_reserve tol plan fs hrow hfloor hcap

end Sys2Proof.Proofs

/-! PROOFS. DecoderCommands: what each operation of DEC_SUBMIT does in its turn (R274, R278). -/

namespace Sys2Proof.Proofs

open Machine Laws

/-- Command `c` is operation `op` on decoder context `n`, which its partition owns, and its turn has come (R274). -/
def DecGate (d : Dev) (c : Cmd) (n op : Nat) : Prop :=
  n = sf c.entry 1 0 6 ∧ sf c.entry 8 0 2 = op ∧ d.ownerOf 3 n = c.part ∧ d.decTurn c = true

theorem DecGate.see {d : Dev} {c : Cmd} {n op : Nat} (h : DecGate d c n op) (hv : HostView) : DecGate (d.see hv) c n op := by
  simpa only [DecGate, see_ownerOf, see_decTurn] using h

/-- An operation whose turn has come runs on its context. -/
theorem DecGate.runs {d : Dev} {c : Cmd} {n op : Nat} (h : DecGate d c n op) (k : Nat → DecCtx → Dev) :
    d.decOp c op k = k n (d.dec n) := by
  obtain ⟨rfl, rfl, howner, hturn⟩ := h
  simp [Dev.decOp, howner, hturn]

theorem dec_configured {x : DecCtx} (h : x.cfg.isSome = true) : ¬ x.cfg.isNone = true := by
  simp [← Option.not_isSome, h]

section Moves

variable {s : State} {p asn n : Nat} {hv : HostView} {c : Cmd}

/-- R274: the descriptor of a CONFIG moves. -/
theorem decConfig_moves (hp : p < 128) (h : Starts (s.dev.see hv) p asn 0x91 c = true) (hgate : DecGate s.dev c n 0)
    (hlen : 0x28 ≤ dwAt c.entry 6) :
    ∃ t, exec (.decConfig p asn hv) s = .next t ∧ HostFramed s.dev t.dev ∧ t.dev.pip = s.dev.pip ∧
      (t.dev.cmd? p asn).map (·.phase) = some .moving := by
  refine moves_of_startMove (n := dwAt c.entry 6) h (runQuiet_starts Dev.decConfig (decide_eq_true hp) h) ?_
  rw [Dev.decConfig, (hgate.see hv).runs, if_neg (Nat.not_lt.mpr hlen)]

/-- R274: the unit of a DECODE moves to a context that is configured. -/
theorem decDecode_moves (hp : p < 128) (h : Starts (s.dev.see hv) p asn 0x91 c = true) (hgate : DecGate s.dev c n 1)
    (hcfg : (s.dev.dec n).cfg.isSome = true) :
    ∃ t, exec (.decDecode p asn hv) s = .next t ∧ HostFramed s.dev t.dev ∧ t.dev.pip = s.dev.pip ∧
      (t.dev.cmd? p asn).map (·.phase) = some .moving := by
  refine moves_of_startMove (n := dwAt c.entry 6) h (runQuiet_starts Dev.decDecode (decide_eq_true hp) h) ?_
  rw [Dev.decDecode, (hgate.see hv).runs, see_dec, if_neg (dec_configured hcfg)]

end Moves

/-- With no picture to go out, the pictures held but hidden are dropped. -/
theorem decFlush_hidden {d : Dev} {n : Nat} (hheld : (d.dec n).held.all (·.hide) = true) (hblocked : (d.dec n).blocked = []) :
    d.decFlush n = ((d.setDec n { d.dec n with held := [], blocked := [] }).freeStep, 0) := by
  have hout : ((d.dec n).held.filter fun p => !p.hide) = [] := by
    simpa [List.filter_eq_nil_iff] using hheld
  simp [Dev.decFlush, hout, hblocked, Dev.decDrainOut]

/-- What succeeds after a context's update and a free value leaves the rest of the device alone. -/
theorem setDec_succeed_framed (d : Dev) (n : Nat) (x : DecCtx) (c : Cmd) :
    WorkFramed [] d ((d.setDec n x).freeStep.succeed c) :=
  (setDec_framed d n x).trans ((WorkFramed.of_pip (.of_framed (freeStep_frame [] _))).trans (.of_host (succeed_framed _ _ _ _)))

theorem dec_freeStep (d : Dev) (n : Nat) : d.freeStep.dec n = d.dec n := rfl

/-- R274: DRAIN with no picture to go out completes. -/
theorem decDrain_completes {s : State} {p asn n : Nat} {hv : HostView} {c : Cmd} (hp : p < 128)
    (h : Starts (s.dev.see hv) p asn 0x91 c = true) (hgate : DecGate s.dev c n 2) (hcfg : (s.dev.dec n).cfg.isSome = true)
    (hheld : (s.dev.dec n).held.all (·.hide) = true) (hblocked : (s.dev.dec n).blocked = []) :
    ∃ t, exec (.decDrain p asn hv) s = .next t ∧ WorkFramed [] s.dev t.dev ∧ (t.dev.dec n).held = [] ∧
      (t.dev.dec n).blocked = [] ∧ t.dev.cmd? p asn = none := by
  obtain ⟨rfl, rfl⟩ := starts_names h
  let x : DecCtx := { s.dev.dec n with held := [], blocked := [] }
  have hflush : (s.dev.see hv).decFlush n = (((s.dev.see hv).setDec n x).freeStep, 0) := by
    rw [decFlush_hidden (by rwa [see_dec]) (by rwa [see_dec]), see_dec]
  have heq : (s.dev.see hv).decDrain c = ((s.dev.see hv).setDec n x).freeStep.succeed c := by
    rw [Dev.decDrain, (hgate.see hv).runs, see_dec, if_neg (dec_configured hcfg), hflush]
    dsimp only
    rw [dec_freeStep, dec_setDec, if_neg (not_not_intro rfl), if_neg (by decide)]
  refine ⟨_, runQuiet_starts Dev.decDrain (decide_eq_true hp) h, ?_⟩
  rw [withDev_dev, heq, dec_succeed, dec_freeStep, dec_setDec]
  exact ⟨(setDec_succeed_framed _ _ _ _).after_see, rfl, rfl, cmd?_succeed _ _ _ _⟩

/-- R274: RELEASE with no picture to go out frees the context's memory and configuration. -/
theorem decRelease_clears {s : State} {p asn n : Nat} {hv : HostView} {c : Cmd} (hp : p < 128)
    (h : Starts (s.dev.see hv) p asn 0x91 c = true) (hgate : DecGate s.dev c n 3)
    (hheld : (s.dev.dec n).held.all (·.hide) = true) (hblocked : (s.dev.dec n).blocked = []) :
    ∃ t, exec (.decRelease p asn hv) s = .next t ∧ WorkFramed [] s.dev t.dev ∧ t.dev.dec n = {} ∧
      t.dev.cmd? p asn = none := by
  obtain ⟨rfl, rfl⟩ := starts_names h
  let x : DecCtx := { s.dev.dec n with held := [], blocked := [] }
  let e : Dev := ((s.dev.see hv).setDec n x).freeStep
  have hflush : (s.dev.see hv).decFlush n = (e, 0) := by
    rw [decFlush_hidden (by rwa [see_dec]) (by rwa [see_dec]), see_dec]
  have hblock : (e.dec n).blocked = [] := by rw [dec_freeStep, dec_setDec]
  have heq : (s.dev.see hv).decRelease c = (e.setDec n {}).succeed c := by
    rw [Dev.decRelease, (hgate.see hv).runs, hflush]
    dsimp only
    rw [if_neg (not_not_intro hblock)]
  have hflushed : WorkFramed [] (s.dev.see hv) e :=
    (setDec_framed _ n x).trans (.of_pip (.of_framed (freeStep_frame [] _)))
  refine ⟨_, runQuiet_starts Dev.decRelease (decide_eq_true hp) h, ?_⟩
  rw [withDev_dev, heq, dec_succeed, dec_setDec]
  exact ⟨(hflushed.trans ((setDec_framed e n {}).trans (.of_host (succeed_framed _ _ _ _)))).after_see, rfl,
    cmd?_succeed _ _ _ _⟩

end Sys2Proof.Proofs

/-! PROOFS. DecoderUnits: units start, run out of their budget, end and give their pictures out (R274 to R278). -/

namespace Sys2Proof.Proofs

open Machine Laws

/-! ### Completing leaves the host's view -/

/-- What the last host view left: the accesses that fail and the vectors that are off. -/
def hostView (d : Dev) : List (Nat × Nat × Nat) × List (Nat × Nat) := (d.hostFails, d.vectorsOff)

theorem hostView_of_framed {pgs : List Page} {d t : Dev} (h : Framed pgs d t) : hostView t = hostView d :=
  (congrArg hostView h.1).symm

theorem hostView_journal (d : Dev) (p asn : Nat) (b : Body) : hostView (d.journal p asn b) = hostView d :=
  hostView_of_framed (journal_frame [] _ _ _ _)

theorem hostView_reclaim (d : Dev) (p asn : Nat) : hostView (d.reclaim p asn) = hostView d :=
  hostView_of_framed (reclaim_frame [] _ _ _)

theorem hostView_orphan (d : Dev) (p : PartId) (o : Orphan) : hostView (d.orphan p o) = hostView d := by
  unfold Dev.orphan
  dsimp only
  split
  · rfl
  · refine (hostView_of_framed (event_frame [] _ _ _ _ _ _ _)).trans ?_
    rfl

theorem hostView_cqInterrupt (d : Dev) (p q : Nat) : hostView (d.cqInterrupt p q) = hostView d := by
  unfold Dev.cqInterrupt
  split
  · rfl
  · refine (hostView_of_framed (msix_frame [] _ _ _)).trans ?_
    rfl

theorem hostView_postCq (d : Dev) (p q : Nat) (x : Queue) (e : List Nat) : hostView (d.postCq p q x e) = hostView d := by
  have written : hostView (if d.hostOk p (x.cqBase + 16 * x.cqTail) 16 then
      d.hostWrite p (x.cqBase + 16 * x.cqTail) (dwBytes e) else d) = hostView d := by
    split
    · exact hostView_of_framed (hostWrite_frame [] _ _ _ _)
    · rfl
  unfold Dev.postCq
  dsimp only
  split
  · exact (hostView_cqInterrupt _ _ _).trans written
  · exact written

theorem hostView_rctReply (d : Dev) (i ty : Nat) (l : List Byte) (o : Option Orphan) :
    hostView (d.rctReply i ty l o) = hostView d := by
  have sent : hostView (d.rctSend i ty l o) = hostView d := hostView_of_framed (rctSend_frame [] _ _ _ _ _)
  have posted : ∀ (t : Dev) (p : PartId), hostView (t.rctPosted p o) = hostView t := fun t p => by
    cases o with
    | none => rfl
    | some o => exact (hostView_reclaim _ _ _).trans (hostView_journal _ _ _ _)
  unfold Dev.rctReply
  dsimp only
  split
  · split
    · exact sent
    · exact (posted _ _).trans sent
  · exact sent

theorem hostView_complete (d : Dev) (c : Cmd) (st : Status) (result : Nat) :
    hostView (d.complete c st result) = hostView d := by
  unfold Dev.complete
  extract_lets removed host unlocked gone toOrphan
  have orphaned : ∀ o, hostView (toOrphan unlocked o) = hostView d := fun o =>
    (hostView_reclaim _ _ _).trans ((hostView_journal _ _ _ _).trans ((hostView_orphan _ _ _).trans (hostView_journal _ _ _ _)))
  split
  · exact orphaned _
  · split
    · exact (hostView_reclaim _ _ _).trans ((hostView_journal _ _ _ _).trans ((hostView_postCq _ _ _ _ _).trans
        (hostView_journal _ _ _ _)))
    · split
      · exact orphaned _
      · exact (hostView_rctReply _ _ _ _ _).trans (hostView_journal _ _ _ _)

/-- A frame of the host's part that keeps the host's view. -/
theorem HostFramed.with_view {d t : Dev} (h : HostFramed d t) (hview : hostView t = hostView d) :
    Framed [] { d with hst := t.hst } t := by
  obtain ⟨hfails, hvectors⟩ := Prod.mk.inj hview
  obtain ⟨a, b⟩ := h
  refine ⟨?_, b⟩
  rw [hfails, hvectors] at a
  exact a

/-- So what the pipes' work ends with leaves the host's view alone too. -/
theorem PipFramed.then_host {pgs : List Page} {d u t : Dev} (h : PipFramed pgs d u) (k : Framed [] { u with hst := t.hst } t) :
    Framed pgs { d with pip := t.pip, hst := t.hst } t := by
  obtain ⟨a, b⟩ := h
  obtain ⟨e, f⟩ := frame_mono (List.nil_subset pgs) k
  refine ⟨?_, f.trans b⟩
  have hpip : t.pip = u.pip := (congrArg Dev.pip e).symm
  rw [← a] at e
  rw [hpip]
  exact e

/-- Reports and the host's part leave the other pages as they were. -/
theorem HostFramed.rd_eq {d t : Dev} (h : HostFramed d t) {pg : Page} {F : Fld} (hF : fits F = true)
    (hpg : pg ∉ [Pg.EVT, Pg.SYS, Pg.NVS]) : t.rd pg F = d.rd pg F := rd_regsBut 0 0 hF hpg h.2

theorem WorkFramed.rd_eq {pgs : List Page} {d t : Dev} (h : WorkFramed pgs d t) {pg : Page} {F : Fld} (hF : fits F = true)
    (hpg : pg ∉ [Pg.EVT, Pg.SYS, Pg.NVS] ++ pgs) : t.rd pg F = d.rd pg F := rd_regsBut 0 0 hF hpg h.2

theorem dec_of_framed {pgs : List Page} {d t : Dev} (h : Framed pgs d t) (n : Nat) : t.dec n = d.dec n :=
  dec_of_pip (congrArg Dev.pip h.1).symm n

/-- A 16-bit counter counts up to 65,535 (R42). -/
theorem rd_bump_sixteen (d : Dev) (pg : Page) {F : Fld} (hwidth : F.width = 16) (hwrap : F.wrap = false) :
    (d.bump pg F).rd pg F = min (d.rd pg F + 1) 65535 := by
  rw [Dev.bump, rd_wr_same, hwidth, hwrap]
  exact Nat.mod_eq_of_lt (Nat.lt_of_le_of_lt (Nat.min_le_right _ _) (by decide))

/-! ### A unit starts -/

/-- Unit `u`, whose command is `c`, is the oldest of context `n`, the only one configured, and may start on engine `g`
(R274, R276). -/
structure MayDecode (d : Dev) (g n : Nat) (u : DecUnit) (r : List DecUnit) (c : Cmd) : Prop where
  units : (d.dec n).units = u :: r
  idle : d.decOn g = none
  takes : (d.dec n).takes g = true
  entropy : d.works (Pg.DECENT g) = true
  pixel : d.works (Pg.DECPIX g) = true
  errors : d.works (Pg.DECERR g) = true
  shed : d.shed < 2
  alone : d.pip.decs.all (fun e => e.1 = n) = true
  cmd : d.cmd? u.part u.asn = some c

/-- The unit leaves the queue, its sequence is noted, and the engine shows its context (R276, R279). -/
def unitTaken (d : Dev) (g n : Nat) (r : List DecUnit) (unsup : Bool) (seq : List Nat) : Dev :=
  (d.setDec n { d.dec n with units := r, unsupported := unsup, sequence := seq }).wr (Pg.DECENT g) Reg.DEC_ENT.CONTEXT n

theorem unitTaken_still (d : Dev) (g n : Nat) (r : List DecUnit) (unsup : Bool) (seq : List Nat) :
    PipStill [Pg.DECENT g] d (unitTaken d g n r unsup seq) :=
  (setDec_still _ d n _).trans (.of_still (wr_still _ _ _ _ (by decide) List.mem_cons_self))

theorem dec_unitTaken (d : Dev) (g n : Nat) (r : List DecUnit) (unsup : Bool) (seq : List Nat) :
    (unitTaken d g n r unsup seq).dec n = { d.dec n with units := r, unsupported := unsup, sequence := seq } :=
  dec_setDec _ _ _

theorem decErr_notReported (g : Nat) : Pg.DECERR g ∉ [Pg.EVT, Pg.SYS, Pg.NVS] := by
  have k : ∀ m < 2, 0xA8 + 3 * m ∉ [Pg.EVT, Pg.SYS, Pg.NVS] := by decide
  exact k _ (Nat.mod_lt _ (by decide))

theorem decErr_ne_decEnt (g : Nat) : Pg.DECERR g ≠ Pg.DECENT g := by
  have k : ∀ m < 2, 0xA8 + 3 * m ≠ 0xA6 + 3 * m := by decide
  exact k _ (Nat.mod_lt _ (by decide))

theorem rd_decErr_unitTaken (d : Dev) (g n : Nat) (r : List DecUnit) (unsup : Bool) (seq : List Nat) {F : Fld} (hF : fits F = true) :
    (unitTaken d g n r unsup seq).rd (Pg.DECERR g) F = d.rd (Pg.DECERR g) F :=
  rd_wr_page _ _ hF (by decide) (decErr_ne_decEnt g)

/-- Where no other context is configured, none has a unit that goes first (R274). -/
theorem not_decRival_of_alone {d : Dev} {n : Nat} (takes reserved : Nat × DecCtx → Bool)
    (h : d.pip.decs.all (fun e => e.1 = n) = true) :
    (d.pip.decs.any fun e => decide (e.1 ≠ n) && takes e && reserved e) = false := by
  rw [List.any_eq_false]
  intro e he
  have hn : e.1 = n := of_decide_eq_true (List.all_eq_true.mp h e he)
  simp [hn]

/-- Nothing holds such a unit where no other goes first. -/
theorem MayDecode.goes {d : Dev} {g n : Nat} {u : DecUnit} {r : List DecUnit} {c : Cmd} (h : MayDecode d g n u r c) {rival : Bool}
    (hrival : rival = false) :
    ¬ ((d.decOn g).isSome = true ∨ (!(d.dec n).takes g) = true ∨ (!d.works (Pg.DECENT g)) = true ∨
      (!d.works (Pg.DECPIX g)) = true ∨ (!d.works (Pg.DECERR g)) = true ∨ 2 ≤ d.shed ∨
      ((!u.reserved) = true ∧ rival = true)) := by
  simp [h.idle, h.takes, h.entropy, h.pixel, h.errors, h.shed, hrival]

/-- Such a unit of a supported sequence runs, without an assist request where none are posted. -/
theorem decStart_runs {d : Dev} {g n : Nat} {u : DecUnit} {r : List DecUnit} {c : Cmd} (bad : List Nat)
    (h : MayDecode d g n u r c) (hsup : (d.dec n).unsupported = false) (hassist : d.assisted (Pg.DECERR g) = false) :
    d.decStart g n none bad = (unitTaken d g n r false (d.dec n).sequence).updDec n fun x =>
      { x with run := some { part := u.part, asn := u.asn, tag := dw64 c.entry 9, engine := some g, started := d.clock } } := by
  have hassist : (unitTaken d g n r false (d.dec n).sequence).assisted (Pg.DECERR g) = false := by
    rw [← hassist, Dev.assisted, Dev.assisted, rd_decErr_unitTaken _ _ _ _ _ _ (by decide)]
  have hcmd : (unitTaken d g n r false (d.dec n).sequence).cmd? u.part u.asn = some c := h.cmd
  unfold unitTaken at hassist hcmd ⊢
  unfold Dev.decStart
  dsimp only
  rw [h.units]
  dsimp only
  rw [if_neg (h.goes (not_decRival_of_alone _ _ h.alone)), hsup]
  dsimp only [Option.getD_none]
  rw [hcmd]
  dsimp only
  rw [if_neg (by decide), if_neg (by rw [hassist]; decide)]
  rfl

/-- Such a unit of a sequence that is not supported is refused (R276). -/
theorem decStart_refuses {d : Dev} {g n : Nat} {u : DecUnit} {r : List DecUnit} {c : Cmd} {q : List Nat} (bad : List Nat)
    (h : MayDecode d g n u r c) (hsup : (d.dec n).cfg!.supports q = false) :
    d.decStart g n (some q) bad = (((unitTaken d g n r true q).bump (Pg.DECERR g) Reg.DEC_ERR.UNSUPP_CNT).raise (Pg.DECERR g)
      2).complete c DEC_UNSUPPORTED := by
  have hcmd : (unitTaken d g n r true q).cmd? u.part u.asn = some c := h.cmd
  unfold unitTaken at hcmd ⊢
  unfold Dev.decStart
  dsimp only
  rw [h.units]
  dsimp only
  rw [if_neg (h.goes (not_decRival_of_alone _ _ h.alone)), hsup]
  dsimp only [Option.getD_some]
  rw [Bool.not_false, hcmd]
  rfl

section Starts

variable {s : State} {g n : Nat} {u : DecUnit} {r : List DecUnit} {c : Cmd} {bad : List Nat}

/-- A free engine takes the oldest unit of a context. -/
theorem exec_decUnitStart (seq : Option (List Nat)) (hg : g < 2) (hn : n < 64)
    (hs : Ready s.dev = true) (hawake : s.dev.allAwake = true) :
    exec (.decUnitStart g n seq bad) s = .next (s.withDev (s.dev.decStart g n seq bad)) := by
  have hruns := runQuiet_runs (s := s)
    (fun d => (d.work [Pg.DECENT g, Pg.DECPIX g, Pg.DECERR g]).decStart g n seq bad)
    (show Instr.wellFormed (.decUnitStart g n seq bad) = true by simp [Instr.wellFormed, hg, hn]) hs
  rwa [work_awake _ _ hawake] at hruns

/-- R274, R276: the unit runs on the engine, which shows its context. -/
theorem unitStart_runs (hg : g < 2) (hn : n < 64) (hs : Ready s.dev = true)
    (hawake : s.dev.allAwake = true) (h : MayDecode s.dev g n u r c) (hsup : (s.dev.dec n).unsupported = false)
    (hassist : s.dev.assisted (Pg.DECERR g) = false) :
    ∃ t, exec (.decUnitStart g n none bad) s = .next t ∧ PipStill [Pg.DECENT g] s.dev t.dev ∧
      (t.dev.dec n).run = some
        { part := u.part, asn := u.asn, tag := dw64 c.entry 9, engine := some g, started := s.dev.clock } ∧
      (t.dev.dec n).units = r ∧ t.dev.rd (Pg.DECENT g) Reg.DEC_ENT.CONTEXT = n := by
  refine ⟨_, exec_decUnitStart _ hg hn hs hawake, ?_⟩
  rw [withDev_dev, decStart_runs bad h hsup hassist, dec_updDec, dec_unitTaken]
  refine ⟨(unitTaken_still _ _ _ _ _ _).trans (setDec_still _ _ _ _), rfl, rfl, ?_⟩
  exact (rd_wr_same _ _ _ _ _ _).trans (Nat.mod_eq_of_lt hn)

/-- R276: a unit of a sequence that is not supported is counted, and its DECODE completes with DEC_UNSUPPORTED. -/
theorem unitStart_refuses {q : List Nat} (hg : g < 2) (hn : n < 64)
    (hs : Ready s.dev = true) (hawake : s.dev.allAwake = true) (h : MayDecode s.dev g n u r c)
    (hsup : (s.dev.dec n).cfg!.supports q = false) (hpart : c.part = u.part) (hasn : c.asn = u.asn) :
    ∃ t, exec (.decUnitStart g n (some q) bad) s = .next t ∧
      Framed [Pg.DECENT g, Pg.DECERR g] { s.dev with pip := t.dev.pip, hst := t.dev.hst } t.dev ∧
      (t.dev.dec n).units = r ∧ (t.dev.dec n).unsupported = true ∧ (t.dev.dec n).run = (s.dev.dec n).run ∧
      t.dev.cmd? u.part u.asn = none ∧ t.dev.rd (Pg.DECERR g) Reg.DEC_ERR.UNSUPP_CNT =
        min (s.dev.rd (Pg.DECERR g) Reg.DEC_ERR.UNSUPP_CNT + 1) 65535 := by
  let t := unitTaken s.dev g n r true q
  let e := (t.bump (Pg.DECERR g) Reg.DEC_ERR.UNSUPP_CNT).raise (Pg.DECERR g) 2
  have hcounted : Framed [Pg.DECENT g, Pg.DECERR g] t e :=
    frame_trans (bump_frame _ _ _ (by decide) (by simp)) (raise_frame _ _ _ (by simp))
  have hframe : PipFramed [Pg.DECENT g, Pg.DECERR g] s.dev e :=
    ((unitTaken_still _ _ _ _ _ _).framed.mono (by simp)).trans (.of_framed hcounted)
  have hdone := complete_framed e c DEC_UNSUPPORTED 0
  have hdec : (e.complete c DEC_UNSUPPORTED).dec n = t.dec n :=
    (dec_of_pip hdone.pip n).trans (dec_of_framed hcounted n)
  have hcount : (e.complete c DEC_UNSUPPORTED).rd (Pg.DECERR g) Reg.DEC_ERR.UNSUPP_CNT =
      min (s.dev.rd (Pg.DECERR g) Reg.DEC_ERR.UNSUPP_CNT + 1) 65535 := by
    rw [hdone.rd_eq (by decide) (decErr_notReported g), rd_raise_block _ _ _ _ (by decide) (by decide)
      (decErr_notReported g), rd_bump_sixteen _ _ rfl rfl, rd_decErr_unitTaken _ _ _ _ _ _ (by decide)]
  refine ⟨_, exec_decUnitStart _ hg hn hs hawake, ?_⟩
  rw [withDev_dev, decStart_refuses bad h hsup]
  refine ⟨hframe.then_host (hdone.with_view (hostView_complete _ _ _ _)), ?_, ?_, ?_, ?_, hcount⟩
  · rw [hdec, dec_unitTaken]
  · rw [hdec, dec_unitTaken]
  · rw [hdec, dec_unitTaken]
  · rw [← hpart, ← hasn]
    exact complete_gone _ _ _ _

end Starts

/-! ### A picture runs out of its budget -/

/-- R278: its picture is closed, the engine free, and the watchdog counted. -/
theorem watchdog_closes {s : State} {g ix done n : Nat} {x : DecCtx} {r : DecRun} (hg : g < 2) (hs : Ready s.dev = true)
    (hon : s.dev.decOn g = some (n, x)) (hrun : x.run = some r) (hover : r.started + x.budget * 2 ^ 32 ≤ s.dev.clock) :
    ∃ t, exec (.decWatchdog g ix done) s = .next t ∧ PipFramed [Pg.DECERR g] s.dev t.dev ∧
      (t.dev.dec n).run = some { r with closed := r.closed ++ [(ix, done)], freed := true } ∧
      t.dev.rd (Pg.DECERR g) Reg.DEC_ERR.WD_CNT = min (s.dev.rd (Pg.DECERR g) Reg.DEC_ERR.WD_CNT + 1) 65535 ∧
      bitAt (t.dev.rd (Pg.DECERR g) Reg.HDR.INT_STAT) 1 = true := by
  let closed := s.dev.setDec n { x with run := some { r with closed := r.closed ++ [(ix, done)], freed := true } }
  let told := (closed.bump (Pg.DECERR g) Reg.DEC_ERR.WD_CNT).event (closed.ownerOf 3 n) (Pg.DECERR g) WARN 0x0702
    [BitVec.ofNat 8 n]
  have hclose : s.dev.decClose g ix done = told.raise (Pg.DECERR g) 1 := by
    simp only [Dev.decClose, hon, hrun, if_neg (Nat.not_lt.mpr hover)]
    rfl
  have htold : Framed [] (closed.bump (Pg.DECERR g) Reg.DEC_ERR.WD_CNT) told := event_frame [] _ _ _ _ _ _ _
  have hframe : Framed [Pg.DECERR g] closed (told.raise (Pg.DECERR g) 1) :=
    frame_trans (bump_frame _ _ _ (by decide) (by simp)) (frame_trans (frame_mono (List.nil_subset _) htold)
      (raise_frame _ _ _ (by simp)))
  refine ⟨_, runQuiet_runs (fun d => d.decClose g ix done) (decide_eq_true hg) hs, ?_⟩
  rw [withDev_dev, hclose]
  refine ⟨(setDec_still _ _ _ _).framed.trans (.of_framed hframe), ?_, ?_, intStat_raise _ _ (by decide)⟩
  · rw [dec_of_framed hframe, dec_setDec]
  · rw [rd_raise_block _ _ _ _ (by decide) (by decide) (decErr_notReported g),
      (HostFramed.of_framed htold).rd_eq (by decide) (decErr_notReported g), rd_bump_sixteen _ _ rfl rfl]
    rfl

/-! ### Pictures go out -/

/-- The pages that the output of a decoder context writes. -/
def outPages (y : DecCfg) : List Page := [Pg.DECPIX 0, Pg.DECPIX 1, (layerAt y.layer).1]

theorem decPix_mem (n : Nat) (y : DecCfg) : Pg.DECPIX n ∈ outPages y := by
  have k : ∀ m < 2, 0xA7 + 3 * m ∈ [Pg.DECPIX 0, Pg.DECPIX 1] := by decide
  exact List.mem_append_left [(layerAt y.layer).1] (k _ (Nat.mod_lt _ (by decide)))

theorem layer_mem (y : DecCfg) : (layerAt y.layer).1 ∈ outPages y := by simp [outPages]

/-- The pages that pictures go out on are not those of an entropy engine. -/
theorem decEnt_notMem_outPages (g : Nat) (y : DecCfg) : Pg.DECENT g ∉ [Pg.EVT, Pg.SYS, Pg.NVS] ++ outPages y := by
  have hpixel : ∀ m < 2, 0xA6 + 3 * m ∉ [Pg.EVT, Pg.SYS, Pg.NVS, Pg.DECPIX 0, Pg.DECPIX 1] := by decide
  have hlayer : ∀ m < 2, ∀ l < 16, 0xA6 + 3 * m ≠ 0xAC + l := by decide
  have hown : Pg.DECENT g ∉ [Pg.EVT, Pg.SYS, Pg.NVS, Pg.DECPIX 0, Pg.DECPIX 1] := hpixel _ (Nat.mod_lt _ (by decide))
  have hpage : Pg.DECENT g ≠ (layerAt y.layer).1 := hlayer _ (Nat.mod_lt _ (by decide)) _ (Nat.mod_lt _ (by decide))
  have hown : Pg.DECENT g ∉ [Pg.EVT, Pg.SYS, Pg.NVS, Pg.DECPIX 0, Pg.DECPIX 1] ++ [(layerAt y.layer).1] :=
    fun h => (List.mem_append.mp h).elim hown fun hlast => hpage (List.mem_singleton.mp hlast)
  exact hown

/-- A layer's set takes a picture: its page and the sets alone change. -/
theorem toLayerSet_only (d : Dev) (l : Nat) (b : LayerBuf) :
    ∃ t layers, Framed [(layerAt l).1] d t ∧ d.toLayerSet l b = { t with pip := { t.pip with layers := layers } } := by
  unfold Dev.toLayerSet
  extract_lets x grown room excess floor e
  have hdropped : Framed [(layerAt l).1] d e := by
    simp only [e]
    split
    · exact frame_trans (bump_frame _ _ _ (by decide) (by simp)) (raise_frame _ _ _ (by simp))
    · exact frame_refl _ _
  clear_value e grown
  split
  · exact ⟨d, d.pip.layers, frame_refl _ _, rfl⟩
  · split
    · exact ⟨d, _, frame_refl _ _, rfl⟩
    · exact ⟨e, _, hdropped, rfl⟩

theorem slotDeliver_framed (d : Dev) (p base size slots : Nat) (pos : RingPos) (bytes : Nat → Nat → List Byte) :
    Framed [] d (d.slotDeliver p base size slots pos bytes).1 := by
  have written : ∀ a l b m, Framed [] d ((d.hostWrite p a l).hostWrite p b m) := fun _ _ _ _ =>
    frame_trans (hostWrite_frame _ _ _ _ _) (hostWrite_frame _ _ _ _ _)
  have same := frame_refl [] d
  simp only [Dev.slotDeliver, apply_ite Prod.fst]
  split
  · exact same
  · split
    · exact same
    · split
      · exact same
      · split
        · exact same
        · exact written _ _ _ _

theorem ringXfer_framed (d : Dev) (owner pg obj : Nat) (pos : RingPos) : Framed [] d (d.ringXfer owner pg obj pos).1 := by
  simp only [Dev.ringXfer, apply_ite Prod.fst]
  split
  · exact event_frame _ _ _ _ _ _ _ _
  · exact frame_refl _ _

/-- `t` is `d` but for what the output of context `n` reaches: its pages, its ring, and what waits for it. -/
def OutKept (d t : Dev) (n : Nat) : Prop :=
  PipFramed (outPages (d.dec n).cfg!) d t ∧ ∃ ring blocked, t.dec n = { d.dec n with ring := ring, blocked := blocked }

theorem OutKept.refl (d : Dev) (n : Nat) : OutKept d d n := ⟨(PipStill.of_pip _ d d.pip).framed, _, _, rfl⟩

theorem OutKept.trans {d t u : Dev} {n : Nat} (h : OutKept d t n) (k : OutKept t u n) : OutKept d u n := by
  obtain ⟨hframe, ring, blocked, heq⟩ := h
  obtain ⟨kframe, ring', blocked', keq⟩ := k
  rw [heq] at kframe keq
  exact ⟨hframe.trans kframe, ring', blocked', keq⟩

theorem OutKept.of_framed {d t : Dev} {n : Nat} (h : Framed (outPages (d.dec n).cfg!) d t) : OutKept d t n :=
  ⟨.of_framed h, _, _, dec_of_framed h n⟩

theorem OutKept.of_ring (d : Dev) (n : Nat) (f : RingPos → RingPos) :
    OutKept d (d.updDec n fun x => { x with ring := f x.ring }) n := ⟨(setDec_still _ _ _ _).framed, _, _, dec_updDec _ _ _⟩

theorem OutKept.of_blocked (d : Dev) (n : Nat) (l : List (DecPic × Nat)) :
    OutKept d (d.updDec n fun x => { x with blocked := l }) n := ⟨(setDec_still _ _ _ _).framed, _, _, dec_updDec _ _ _⟩

theorem OutKept.of_layer (d : Dev) (n : Nat) (b : LayerBuf) : OutKept d (d.toLayerSet (d.dec n).cfg!.layer b) n := by
  obtain ⟨t, layers, hframe, heq⟩ := toLayerSet_only d (d.dec n).cfg!.layer b
  rw [heq]
  have hkept : OutKept d t n := .of_framed (frame_mono (by simp [outPages]) hframe)
  exact hkept.trans ⟨(PipStill.of_pip _ _ _).framed, _, _, rfl⟩

/-- A delivery that fails is reported, and its ring notes when. -/
theorem OutKept.then_missed {d t : Dev} {n : Nat} (h : OutKept d t n) (owner : Nat) (pg : Page) (pos : RingPos) :
    OutKept d ((t.ringXfer owner pg n pos).1.updDec n fun x =>
      { x with ring := { x.ring with warned := (t.ringXfer owner pg n pos).2.warned } }) n :=
  (h.trans (.of_framed (frame_mono (List.nil_subset _) (ringXfer_framed _ _ _ _ _)))).trans
    (.of_ring _ _ fun z => { z with warned := (t.ringXfer owner pg n pos).2.warned })

/-- A picture that goes out, or finds the ring full, or fails, keeps to that. -/
theorem decPut_kept (d : Dev) (n : Nat) (p : DecPic) (tag : Nat) : OutKept d (d.decPut n p tag).1 n := by
  have counted : ∀ t m, OutKept d t n → OutKept d (t.bump (Pg.DECPIX m) Reg.DEC_PIX.PIC_CNT) n := fun t m h =>
    h.trans (.of_framed (bump_frame _ _ _ (by decide) (by simp [decPix_mem])))
  unfold Dev.decPut
  extract_lets x y owner pg o
  have hcounted : OutKept d (d.bump pg Reg.DEC_PIX.PIC_CNT) n := counted d _ (.refl d n)
  split
  · obtain ⟨bs, pitch⟩ := decSlot p tag 0
    dsimp only
    split
    · exact hcounted.trans (.of_layer (d.bump pg Reg.DEC_PIX.PIC_CNT) n _)
    · exact hcounted.trans (.of_framed (bump_frame _ _ _ (by decide) (List.mem_append_right [Pg.EVT, Pg.SYS, Pg.NVS]
        (layer_mem (d.dec n).cfg!))))
  · have hsent : OutKept d _ n := .of_framed (frame_mono (List.nil_subset _)
      (slotDeliver_framed d owner y.ringAddr y.slotBytes y.slots x.ring fun seq _ => (decSlot p tag seq).1))
    generalize d.slotDeliver owner y.ringAddr y.slotBytes y.slots x.ring (fun seq _ => (decSlot p tag seq).1) = sent at hsent ⊢
    obtain ⟨t, pos, res⟩ := sent
    dsimp only at hsent ⊢
    cases res with
    | delivered => exact (counted _ _ hsent).trans (.of_ring _ _ fun _ => pos)
    | filled => exact hsent
    | failed => exact hsent.then_missed owner pg pos
    | tooBig => exact hsent.then_missed owner pg pos

/-- So do all that wait. -/
theorem decDrainOut_kept (n k : Nat) : ∀ (d : Dev) (ok bad : Nat), OutKept d (d.decDrainOut n k ok bad).1 n := by
  induction k with
  | zero => exact fun d _ _ => .refl d n
  | succ k ih =>
    intro d ok bad
    rw [Dev.decDrainOut]
    split
    · exact .refl d n
    · next p tag rest _ =>
      have put := decPut_kept d n p tag
      split
      · next heq => rwa [heq] at put
      · next heq =>
        rw [heq] at put
        exact (put.trans (.of_blocked _ _ _)).trans (ih _ _ _)
      · next heq =>
        rw [heq] at put
        exact (put.trans (.of_blocked _ _ _)).trans (ih _ _ _)

/-- What a unit's output leaves: engine-free contexts stay free of engines, and their pictures are decoded as they were. -/
theorem decOutput_spec {d : Dev} {n : Nat} (hfree : (d.dec n).run.bind (·.engine) = none) :
    WorkFramed (outPages (d.dec n).cfg!) d (d.decOutput n) ∧ ((d.decOutput n).dec n).run.bind (·.engine) = none ∧
      ((d.decOutput n).dec n).dpb = (d.dec n).dpb := by
  unfold Dev.decOutput
  split
  · exact ⟨.of_pip (PipStill.of_pip _ d d.pip).framed, hfree, rfl⟩
  · next r hrun =>
    have hout := decDrainOut_kept n (d.dec n).blocked.length d r.output r.failed
    generalize d.decDrainOut n (d.dec n).blocked.length r.output r.failed = res at hout ⊢
    obtain ⟨t, ok, bad⟩ := res
    obtain ⟨hframe, ring, blocked, hdec⟩ := hout
    dsimp only at hframe hdec ⊢
    have hset : ∀ run, WorkFramed (outPages (d.dec n).cfg!) d (t.updDec n fun x => { x with run := run }) ∧
        (t.updDec n fun x => { x with run := run }).dec n = { d.dec n with ring := ring, blocked := blocked, run := run } :=
      fun run => ⟨.of_pip (hframe.trans (setDec_still _ _ _ _).framed), by rw [dec_updDec, hdec]⟩
    have hrest := hset none
    generalize (t.updDec n fun x => { x with run := none }) = e at hrest ⊢
    obtain ⟨hkept, heq⟩ := hrest
    have hends : ∀ u, HostFramed e u → WorkFramed (outPages (d.dec n).cfg!) d u ∧ (u.dec n).run.bind (·.engine) = none ∧
        (u.dec n).dpb = (d.dec n).dpb := fun u hu => by
      rw [dec_of_pip hu.pip, heq]
      exact ⟨hkept.trans ((WorkFramed.of_host hu).mono (List.nil_subset _)), rfl, rfl⟩
    split
    · obtain ⟨hwait, heq⟩ := hset (some { r with output := ok, failed := bad })
      rw [heq]
      rw [hrun] at hfree
      exact ⟨hwait, hfree, rfl⟩
    · split
      · exact hends e (.of_framed (frame_refl _ _))
      · split
        · exact hends _ (complete_framed _ _ _ _)
        · exact hends _ (succeed_framed _ _ _ _)

/-! ### A unit ends -/

/-- The pages that the end of a unit on engine `g` writes. -/
def endPages (g : Nat) (y : DecCfg) : List Page := [Pg.DECENT g, Pg.DECERR g] ++ outPages y

/-- The unit's pages that count damage are not those of its entropy engine. -/
theorem decEnt_notMem_decErr (g : Nat) : Pg.DECENT g ∉ [Pg.EVT, Pg.SYS, Pg.NVS, Pg.DECERR g] := by
  have k : ∀ m < 2, 0xA6 + 3 * m ∉ [Pg.EVT, Pg.SYS, Pg.NVS, 0xA8 + 3 * m] := by decide
  exact k _ (Nat.mod_lt _ (by decide))

/-- What the pictures of a unit leave of its context (R275 to R277). -/
def unitLeaves (x : DecCtx) (r : DecRun) (pics : List Picture) (reorder : List Nat) : DecAcc :=
  pics.zipIdx.foldl (r.next x.cfg! reorder) { held := x.held, dpb := x.dpb, last := x.last, lost := x.lost }

/-- The flags of a unit are those of its pictures. -/
def unitFlags (a : DecAcc) : Nat := a.ps.foldl (fun f p => f ||| p.flags) 0

/-- The context whose unit has ended on engine `g`: the engine is free, its pictures wait for their output. -/
def unitEnded (x : DecCtx) (r : DecRun) (a : DecAcc) (g : Nat) : DecCtx :=
  { x with run := some { r with engine := none, flags := unitFlags a }, held := a.held, last := a.last, dpb := a.dpb, lost := a.lost,
           ran := g, blocked := (a.out.filter fun p => !p.hide).map fun p => (p.shown x.cfg!, r.tag) }

/-- R277: concealed pictures, and those whose references were replaced, are counted and reported. -/
def damageCounted (d : Dev) (g : Nat) (a : DecAcc) : Dev :=
  let t := (d.bump (Pg.DECERR g) Reg.DEC_ERR.CONCEAL_CNT 0 (a.ps.filter fun p => bitAt p.flags 0).length).bump (Pg.DECERR g)
    Reg.DEC_ERR.REF_SUBST_CNT 0 (a.ps.filter fun p => bitAt p.flags 1).length
  if unitFlags a % 4 ≠ 0 then t.raise (Pg.DECERR g) 0 else t

theorem damageCounted_frame (d : Dev) (g : Nat) (a : DecAcc) : Framed [Pg.DECERR g] d (damageCounted d g a) := by
  unfold damageCounted
  extract_lets t
  have h : Framed [Pg.DECERR g] d t :=
    frame_trans (bump_frame _ _ _ (by decide) (by simp)) (bump_frame _ _ _ (by decide) (by simp))
  split
  · exact frame_trans h (raise_frame _ _ _ (by simp))
  · exact h

/-- R276 to R278: the engine is free and counts the unit, and the decoded picture buffer is what its pictures leave. -/
theorem decEnd_frees {d : Dev} {n g : Nat} {pics : List Picture} {reorder : List Nat} {r : DecRun}
    (hrun : (d.dec n).run = some r) (hengine : r.engine = some g) (hasking : r.asking = [])
    (hclosed : r.closed.all (fun y => y.1 < pics.length) = true) :
    WorkFramed (endPages g (d.dec n).cfg!) d (d.decEnd n pics reorder) ∧
      ((d.decEnd n pics reorder).dec n).run.bind (·.engine) = none ∧
      (d.decEnd n pics reorder).rd (Pg.DECENT g) Reg.DEC_ENT.UNIT_CNT =
        (d.rd (Pg.DECENT g) Reg.DEC_ENT.UNIT_CNT + 1) % 2 ^ 32 ∧
      ((d.decEnd n pics reorder).dec n).dpb = (unitLeaves (d.dec n) r pics reorder).dpb := by
  let a := unitLeaves (d.dec n) r pics reorder
  let x := unitEnded (d.dec n) r a g
  let counted := (d.setDec n x).bump (Pg.DECENT g) Reg.DEC_ENT.UNIT_CNT
  let told := damageCounted counted g a
  have hgo : ¬ (r.asking ≠ [] ∨ (!r.closed.all fun e => e.1 < pics.length) = true) := by
    rw [hclosed]
    simp [hasking]
  have heq : d.decEnd n pics reorder = told.decOutput n := by
    unfold Dev.decEnd
    dsimp only
    rw [hrun]
    dsimp only
    rw [hengine]
    dsimp only
    rw [if_neg hgo]
    rfl
  have hcounted : PipFramed (endPages g (d.dec n).cfg!) d counted :=
    (setDec_still _ _ _ _).framed.trans (.of_framed (bump_frame _ _ _ (by decide) (by simp [endPages])))
  have htold : Framed [Pg.DECERR g] counted told := damageCounted_frame _ _ _
  have hdec : told.dec n = x := (dec_of_framed htold n).trans (dec_setDec _ _ _)
  obtain ⟨hout, hfree, hdpb⟩ := decOutput_spec (d := told) (n := n) (by rw [hdec]; rfl)
  have hcfg : (told.dec n).cfg! = (d.dec n).cfg! := by rw [hdec]; rfl
  rw [hcfg] at hout
  rw [hdec] at hdpb
  rw [heq]
  refine ⟨.trans (.of_pip (hcounted.trans (.of_framed (frame_mono ?_ htold)))) (hout.mono ?_), hfree, ?_, hdpb⟩
  · simp [endPages]
  · exact List.subset_append_right _ _
  · rw [hout.rd_eq (by decide) (decEnt_notMem_outPages g _), rd_regsBut _ _ (by decide) (decEnt_notMem_decErr g) htold.2]
    exact rd_wr_same _ _ _ _ _ _

/-- R276 to R278. -/
theorem unitEnd_frees {s : State} {n g : Nat} {pics : List Picture} {reorder : List Nat} {r : DecRun} (hv : HostView) (hn : n < 64)
    (hs : Ready s.dev = true) (hrun : (s.dev.dec n).run = some r) (hengine : r.engine = some g) (hasking : r.asking = [])
    (hclosed : r.closed.all (fun y => y.1 < pics.length) = true) :
    ∃ t, exec (.decUnitEnd n pics reorder hv) s = .next t ∧ WorkFramed (endPages g (s.dev.dec n).cfg!) s.dev t.dev ∧
      (t.dev.dec n).run.bind (·.engine) = none ∧
      t.dev.rd (Pg.DECENT g) Reg.DEC_ENT.UNIT_CNT = (s.dev.rd (Pg.DECENT g) Reg.DEC_ENT.UNIT_CNT + 1) % 2 ^ 32 ∧
      (t.dev.dec n).dpb = (unitLeaves (s.dev.dec n) r pics reorder).dpb := by
  have h := decEnd_frees (d := s.dev.see hv) (reorder := reorder) (by rwa [see_dec]) hengine hasking hclosed
  rw [see_dec, see_same (·.rd (Pg.DECENT g) Reg.DEC_ENT.UNIT_CNT) (fun _ _ _ _ => rfl) s.dev hv] at h
  obtain ⟨hframe, hfree, hcount, hdpb⟩ := h
  refine ⟨_, runQuiet_runs (fun d => (d.see hv).decEnd n pics reorder) (decide_eq_true hn) hs, ?_⟩
  rw [withDev_dev]
  exact ⟨hframe.after_see, hfree, hcount, hdpb⟩

/-! ### The output order -/

theorem length_insertPoc (p : DecPic) (l : List DecPic) : (insertPoc p l).length = l.length + 1 := by
  induction l with
  | nil => rfl
  | cons q r ih =>
    rw [insertPoc]
    split
    · rfl
    · exact congrArg Nat.succ ih

/-- Of the HEVC pictures `l` that wait, the first above the bound go out, after `o`. Beside those that waited or went out, there
is the picture itself where it is shown. -/
theorem next_splits (r : DecRun) (y : DecCfg) (reorder : List Nat) (a : DecAcc) (q : Picture) (i : Nat) (hcodec : y.codec ≠ 1) :
    ∃ o l : List DecPic, o.length + l.length = a.held.length + a.out.length + (if q.isShown then 1 else 0) ∧
      (r.next y reorder a (q, i)).out = o ++ l.take (l.length - reorder.getD i 0) ∧
      (r.next y reorder a (q, i)).held = l.drop (l.length - reorder.getD i 0) := by
  simp only [DecRun.next, if_neg hcodec]
  refine ⟨_, _, ?_, rfl, rfl⟩
  cases q.irap <;> cases q.isShown
  case false.false => simp; omega
  case false.true => simp [length_insertPoc]; omega
  case true.false => simp; omega
  case true.true => simp [length_insertPoc]; omega

/-- R275: an HEVC picture that is shown waits or goes out, and no more than the bound wait. -/
theorem next_outputs (r : DecRun) (y : DecCfg) (reorder : List Nat) (a : DecAcc) (q : Picture) (i : Nat) (hcodec : y.codec ≠ 1) :
    (r.next y reorder a (q, i)).held.length ≤ reorder.getD i 0 ∧
      (r.next y reorder a (q, i)).held.length + (r.next y reorder a (q, i)).out.length =
        a.held.length + a.out.length + (if q.isShown then 1 else 0) := by
  obtain ⟨o, l, hlength, hout, hheld⟩ := next_splits r y reorder a q i hcodec
  rw [hout, hheld, List.length_append, List.length_take, List.length_drop]
  omega

/-! ### The obligation -/

/-- Settles O37: each operation moves its data or changes its context, and each unit's command changes its context and registers of
its engine. -/
theorem decoders : Obligations.Decoders := by
  unfold Obligations.Decoders
  refine ⟨?config, ?decode, ?drain, ?release, ?start, ?refuse, ?watchdog, ?finish, ?output⟩
  case config =>
    intro s p asn n hv c hp _ h hn hop howner hturn hlen
    exact decConfig_moves hp h ⟨hn, hop, howner, hturn⟩ hlen
  case decode =>
    intro s p asn n hv c hp _ h hn hop howner hturn hcfg
    exact decDecode_moves hp h ⟨hn, hop, howner, hturn⟩ hcfg
  case drain =>
    intro s p asn n hv c hp _ h hn hop howner hturn hcfg hheld hblocked
    exact decDrain_completes hp h ⟨hn, hop, howner, hturn⟩ hcfg hheld hblocked
  case release =>
    intro s p asn n hv c hp _ h hn hop howner hturn hheld hblocked
    exact decRelease_clears hp h ⟨hn, hop, howner, hturn⟩ hheld hblocked
  case start =>
    intro s g n bad u r c hg hn _ hs hawake hunits hidle htakes hent hpix herr hshed halone hcmd hsup hassist
    exact unitStart_runs hg hn hs hawake
      ⟨hunits, hidle, htakes, hent, hpix, herr, hshed, halone, hcmd⟩ hsup hassist
  case refuse =>
    intro s g n bad q u r c hg hn _ _ _ hs hawake hunits hidle htakes hent hpix herr hshed halone hcmd hsup hpart hasn
    exact unitStart_refuses hg hn hs hawake
      ⟨hunits, hidle, htakes, hent, hpix, herr, hshed, halone, hcmd⟩ hsup hpart hasn
  case watchdog =>
    intro s g ix done n x r hg hs hon hrun hover
    exact watchdog_closes hg hs hon hrun hover
  case finish =>
    intro s g n pics reorder hv r hn _ hs hrun hengine hasking hclosed
    exact unitEnd_frees hv hn hs hrun hengine hasking hclosed
  case output =>
    intro r y reorder a q i hcodec
    exact next_outputs r y reorder a q i hcodec

end Sys2Proof.Proofs

/-! PROOFS. CodingComplete: every command of encoders and decoders completes with its main effect (R259 to R278). -/

namespace Sys2Proof.Proofs

open Machine Laws

/-- Settles O3: each clause is the main effect of one of the commands that O35, O36 and O37 describe. -/
theorem codingComplete : Obligations.CodingComplete := by
  unfold Obligations.CodingComplete
  refine ⟨?commands, ?engines⟩
  case commands =>
    rintro s _ rfl p asn op hv c hp _ h
    constructor
    case left =>
      rintro n rfl hn howner hturn
      have gate : ∀ {k}, sf c.entry 8 0 4 = k → EncGate s.dev c n k := fun hop => ⟨hn, hop, howner, hturn⟩
      refine ⟨?config, ?picture, ?collect, ?force, ?finish, ?release, ?ltr, ?sinkRead⟩
      case config =>
        intro hop hlen
        obtain ⟨t, ht, -, -, hmoves⟩ := encConfig_moves hp h (gate hop) hlen
        exact ⟨t, ht, hmoves⟩
      case picture =>
        intro hop hcfg hrel hsource hpitch hrow hlen
        obtain ⟨t, ht, -, -, hmoves⟩ := encPicture_moves hp h (gate hop) hcfg hrel hsource hpitch hrow hlen
        exact ⟨t, ht, hmoves⟩
      case collect =>
        intro b hop hhead hroom hshed
        obtain ⟨t, ht, -, -, hmoves⟩ := encCollect_moves hp h (gate hop) hhead hroom hshed
        exact ⟨t, ht, hmoves⟩
      case force =>
        intro hop hcfg hrel
        obtain ⟨t, ht, -, hforce, -⟩ := encForceIrap_forces hp h (gate hop) hcfg hrel
        exact ⟨t, ht, hforce⟩
      case finish =>
        intro hop hcfg hrel hidle hlater hnext _
        obtain ⟨t, ht, -, hfresh, -⟩ := encEnd_completes hp h (gate hop) hcfg hrel hidle hlater hnext
        exact ⟨t, ht, hfresh⟩
      case release =>
        intro hop hcfg _ hidle hlater hnext hend hframes
        obtain ⟨t, ht, -, hfree, -⟩ := encRelease_frees hp h (gate hop) hcfg hidle hlater hnext hend hframes
        exact ⟨t, ht, hfree⟩
      case ltr =>
        intro hop hcfg hrel hact hslot
        obtain ⟨t, ht, -, hacts, -⟩ := encLtr_waits hp h (gate hop) hcfg hrel hact hslot
        exact ⟨t, ht, hacts⟩
      case sinkRead =>
        intro b hop hrend hrendOwner hbuf hroom hshed
        obtain ⟨t, ht, -, -, hmoves⟩ := encSinkRead_moves hp h (gate hop) hrend hrendOwner hbuf hroom hshed
        exact ⟨t, ht, hmoves⟩
    case right =>
      rintro n rfl hn howner hturn
      have gate : ∀ {k}, sf c.entry 8 0 2 = k → DecGate s.dev c n k := fun hop => ⟨hn, hop, howner, hturn⟩
      refine ⟨?config, ?decode, ?drain, ?release⟩
      case config =>
        intro hop hlen
        obtain ⟨t, ht, -, -, hmoves⟩ := decConfig_moves hp h (gate hop) hlen
        exact ⟨t, ht, hmoves⟩
      case decode =>
        intro hop hcfg
        obtain ⟨t, ht, -, -, hmoves⟩ := decDecode_moves hp h (gate hop) hcfg
        exact ⟨t, ht, hmoves⟩
      case drain =>
        intro hop hcfg hheld hblocked
        obtain ⟨t, ht, -, hnone, -⟩ := decDrain_completes hp h (gate hop) hcfg hheld hblocked
        exact ⟨t, ht, hnone⟩
      case release =>
        intro hop hheld hblocked
        obtain ⟨t, ht, -, hfree, -⟩ := decRelease_clears hp h (gate hop) hheld hblocked
        exact ⟨t, ht, hfree⟩
  case engines =>
    rintro s _ rfl hs
    refine ⟨?start, ?pixelRow, ?row, ?commit, ?unitStart, ?watchdog, ?unitEnd⟩
    case start =>
      intro n hn poc _ qp _ target _ hdr hhdr hv q r hawake hready hworks hfree hrefs _ hshed hroom _ hplan hasked hassist halone
      obtain ⟨t, ht, -, -, -, hleft⟩ := pictureStart_begins poc qp target hn hs hawake
        ⟨hready, hworks, hfree, hrefs, hhdr, hshed, hplan, hasked, hassist⟩ hroom halone
      exact ⟨t, ht, hleft⟩
    case pixelRow =>
      intro n hn b hb e _ code y hpics hband hleft hahead hsyntax hcode
      obtain ⟨t, ht, -, hbands⟩ := pixelRowEnd_ends (e := e) hn hb hs hpics hband hleft hahead hsyntax hcode
      exact ⟨t, ht, hbands⟩
    case row =>
      intro n hn a _ fb _ plan _ fs y z hpics hbands hleft hpixel hfloor
      obtain ⟨t, ht, -, hcommitted⟩ := encRowEnd_commits (a := a) (plan := plan) (fs := fs) hn hs hpics hbands hleft hpixel hfloor
      exact ⟨t, ht, hcommitted⟩
    case commit =>
      intro n hn qp _ bs hv y z hpics hbands hhost hheld hready hnext hend hrel hlater hring hdone hlen hfixed hquality hmin hmax
      obtain ⟨t, ht, hframe, hctx⟩ := pictureCommit_queues hv hn hs ⟨hpics, hbands, hhost, hheld, hready, hnext, hend, hrel,
        hlater, hring, hdone, hlen, hfixed, hquality, hmin, hmax⟩
      refine ⟨t, ht, ?_⟩
      rw [hctx]
      rfl
    case unitStart =>
      intro g hg n hn bad u r c _ hawake hunits hidle htakes hent hpix herr hshed halone hcmd hsup hassist
      obtain ⟨t, ht, -, hrun, -⟩ := unitStart_runs hg hn hs hawake
        ⟨hunits, hidle, htakes, hent, hpix, herr, hshed, halone, hcmd⟩ hsup hassist
      exact ⟨t, ht, hrun⟩
    case watchdog =>
      intro g hg ix done n x r hon hrun hover
      obtain ⟨t, ht, -, hclosed, -⟩ := watchdog_closes (ix := ix) (done := done) hg hs hon hrun hover
      exact ⟨t, ht, hclosed⟩
    case unitEnd =>
      intro g _ n hn pics reorder hv r hrun hengine hasking hclosed
      obtain ⟨t, ht, -, hfree, -⟩ := unitEnd_frees (reorder := reorder) hv hn hs hrun hengine hasking hclosed
      exact ⟨t, ht, hfree⟩

end Sys2Proof.Proofs

/-! PROOFS. HostCounterexamples: statements about host memory and completions that a concrete state refutes. -/

namespace Sys2Proof.Proofs

open Machine Laws

/-! ### A host view brings vectors (R303) -/

/-- A host that has written nothing and masked vector 0 of function 0. -/
def masksVector : HostView := { vectorsOff := [(0, 0)] }

/-- Refutes O57: its last clause says that a host view changes the memory and the failing accesses alone, but a view also says
which MSI-X vectors the host has masked, and the device takes that over. -/
theorem not_hostMemoryReadsBack : ¬ Obligations.HostMemoryReadsBack := by
  unfold Obligations.HostMemoryReadsBack
  rintro ⟨-, -, -, seen⟩
  obtain ⟨-, hsame⟩ := seen {} masksVector rfl
  have hvectors : masksVector.vectorsOff = ({} : Dev).vectorsOff := congrArg Dev.vectorsOff hsame
  exact absurd hvectors (by decide)

/-! ### Commands whose queue pair was deleted (R304) -/

/-- A queue pair made anew after one of the same ID was deleted: its completion queue is empty. -/
def emptyQueue : Queue := { sqBase := 0, cqBase := 0x1000, sqDepth := 4, cqDepth := 4 }

/-- The device that has this queue pair and no other. -/
def queueRemade : Dev := { hst := { queues := [(queueKey 0 1, emptyQueue)] } }

/-- A command that was accepted from the queue pair deleted before. -/
def ofDeletedQueue : Cmd := { part := 0, queue := 1, asn := 5, cid := 7, idx := 0, entry := [0x80], gone := true }

/-- Its first completion entry lies below 2^64. -/
theorem emptyQueue_entry : emptyQueue.cqBase + 16 * emptyQueue.cqTail + 16 ≤ 2 ^ 64 := by
  have hbase : emptyQueue.cqBase = 4096 := rfl
  have htail : emptyQueue.cqTail = 0 := rfl
  rw [hbase, htail]
  omega

theorem emptyQueue_found : queueRemade.queue? ofDeletedQueue.part ofDeletedQueue.queue = some emptyQueue := by
  simp [Dev.queue?, queueRemade, ofDeletedQueue, Assoc.find]

/-- R304: its completion goes to the Orphan Completion log, and the new queue pair posts nothing. -/
theorem complete_ofDeletedQueue :
    ((queueRemade.complete ofDeletedQueue .SUCCESS 0).queue? 0 1).map (fun y => (y.cqTail, y.phase)) = some (0, true) := by
  decide

/-- Refutes O40: its first clause asks that a queue pair of the command's queue ID exists, but not that it is the one the
command came from; the completion of a command whose queue pair was deleted goes to the Orphan Completion log (R304), and a
queue pair made later under the same ID keeps its tail. -/
theorem not_completionsArePosted : ¬ Obligations.CompletionsArePosted := by
  unfold Obligations.CompletionsArePosted
  rintro ⟨posted, -⟩
  obtain ⟨-, -, htail⟩ := posted queueRemade ofDeletedQueue .SUCCESS 0 emptyQueue (by decide) emptyQueue_found
    emptyQueue_entry (by decide)
  rw [show ofDeletedQueue.part = 0 from rfl, show ofDeletedQueue.queue = 1 from rfl, complete_ofDeletedQueue] at htail
  exact absurd htail (by decide)

end Sys2Proof.Proofs

/-! PROOFS. LateData: DATA for a command that outlived its queue pair refutes two statements (R304, R320). -/

namespace Sys2Proof.Proofs

open Machine Laws

/-- The open session 3, attached to queue pair 0 of partition 64. -/
def remadeSession : Session :=
  { port := 0, addr := 9, part := 64, queue := 0, keyId := 0, dataKib := 8, nc := [], nd := [], state := .opened, key := [7] }

/-- A FW_STAGE of partition 64 that had a window of 8 KiB when its queue pair was deleted. -/
def ofDeletedSession : Cmd :=
  { part := 64, queue := 0, asn := 5, cid := 7, idx := 0, entry := [0x08], gone := true, phase := .moving,
    window := some (0, 8192) }

/-- Firmware runs; the queue pair was made anew, and a client has opened a session on it. -/
def sessionRemade : State :=
  { dev := { brd := { stage := 6 }, hst := { cmds := [(cmdKey 64 5, ofDeletedSession)], sessions := [(3, remadeSession)] } } }

/-- Its DATA: one byte for CID 7, ASN 5. -/
def latePayload : List Byte := leBytes 2 7 ++ zeros 2 ++ leBytes 4 5 ++ zeros 8 ++ [1]

/-- The DATA in a packet of session 3, in SEQ order. -/
def lateDataIn : RctIn :=
  let covered := rctHeader 3 3 17 1 0 0 ++ latePayload
  { type := 3, session := 3, seq := 1, ack := 0, sack := 0, payload := latePayload, covered := covered,
    mac := (Crypto.hmac [7] covered).take 16 }

/-- The packet's bytes. -/
def lateData : List Byte := lateDataIn.covered ++ lateDataIn.mac

set_option maxRecDepth 2000 in
theorem lateData_parses : rctParse lateData = some lateDataIn := by decide

/-- The client signs with the session's key (R318). -/
theorem lateData_mac : (Crypto.hmac remadeSession.key lateDataIn.covered).take 16 = lateDataIn.mac := by
  simp only [lateDataIn, remadeSession]

set_option maxRecDepth 2000 in
/-- R320: the command has no queue pair any more, so the DATA is outside every window and is discarded. -/
theorem lateData_discarded : ∃ t, exec (.rctData 0 lateData) sessionRemade = .next t ∧
    (t.dev.cmd? 64 5).map (·.rx) = some [] := ⟨_, rfl, by decide⟩

/-- The packet's byte is not among the command's, so no step that keeps it there is this one. -/
theorem lateData_not_kept {t : State} (ht : exec (.rctData 0 lateData) sessionRemade = .next t)
    {l : List (Nat × Byte)} (hl : l ≠ []) : (t.dev.cmd? 64 5).map (·.rx) ≠ some l := by
  obtain ⟨u, hu, hrx⟩ := lateData_discarded
  obtain rfl : t = u := Host.Outcome.next.inj (ht.symm.trans hu)
  rw [hrx]
  exact fun h => hl (Option.some.inj h).symm

theorem lateDataIn_bytes : ((lateDataIn.payload.drop 16).zipIdx.map fun e => (e.2, e.1)) ≠ [] := by decide

/-- Refutes O6: the clause on DATA finds the command by queue, CID and ASN, and also one that was accepted before its queue
pair was deleted; the DATA of such a command is discarded. -/
theorem not_networkComplete : ¬ Obligations.NetworkComplete := by
  unfold Obligations.NetworkComplete
  rintro ⟨packets, -, -⟩
  obtain ⟨-, data, -, -⟩ := packets sessionRemade _ rfl 0 (by decide) lateData lateDataIn remadeSession lateData_parses
    rfl rfl (by decide) (by decide) (by decide) lateData_mac rfl
  obtain ⟨t, ht, hrx⟩ := data ofDeletedSession (by decide) (by decide) rfl rfl (by decide) rfl (by decide) (by decide)
    (by decide) (by decide) (by decide) rfl (by decide) rfl
  exact lateData_not_kept ht lateDataIn_bytes hrx

/-- Refutes O42: as for O6, DATA of a command whose queue pair was deleted is discarded, and the third clause has it kept. -/
theorem not_remoteCommandTransport : ¬ Obligations.RemoteCommandTransport := by
  unfold Obligations.RemoteCommandTransport
  rintro ⟨-, -, data, -⟩
  obtain ⟨t, ht, -, hrx, -⟩ := data sessionRemade 0 lateData lateDataIn remadeSession ofDeletedSession lateData_parses
    rfl rfl rfl (by decide) (by decide) (by decide) (by decide) lateData_mac (by decide) rfl rfl rfl
    (by decide) rfl (by decide) (by decide) (by decide) (by decide) (by decide) rfl (by decide) rfl
  exact lateData_not_kept ht lateDataIn_bytes hrx

end Sys2Proof.Proofs

/-! PROOFS. Partitions: what completing a command leaves of partitions, pages and requests (R300, R335). -/

namespace Sys2Proof.Proofs

open Machine Laws

/-! ### Reports leave ENABLE alone -/

/-- Every partition is enabled as before. -/
def EnableKept (d t : Dev) : Prop := ∀ p, (t.part p).enable = (d.part p).enable

theorem EnableKept.refl (d : Dev) : EnableKept d d := fun _ => rfl

theorem EnableKept.trans {d t u : Dev} (h : EnableKept d t) (k : EnableKept t u) : EnableKept d u :=
  fun p => (k p).trans (h p)

theorem EnableKept.of_parts {d t : Dev} (h : t.hst.parts = d.hst.parts) : EnableKept d t := fun p => by
  simp only [Dev.part, h]

@[simp] theorem part_setPart (d : Dev) (p : PartId) (r : PartRec) : (d.setPart p r).part p = r := get_set_same _ _ _ _

theorem part_setPart_ne (d : Dev) {p q : PartId} (r : PartRec) (h : q ≠ p) : (d.setPart p r).part q = d.part q :=
  get_set_ne _ _ _ _ h

theorem setPart_enableKept (d : Dev) (p : PartId) {r : PartRec} (h : r.enable = (d.part p).enable) :
    EnableKept d (d.setPart p r) := fun q => by
  by_cases e : q = p
  · rw [e, part_setPart, h]
  · rw [part_setPart_ne d r e]

theorem wr_enableKept (d : Dev) (pg : Page) (F : Fld) (v i j : Nat) : EnableKept d (d.wr pg F v i j) := .of_parts rfl

theorem updPart_enableKept (d : Dev) (p : PartId) {f : PartRec → PartRec} (h : (f (d.part p)).enable = (d.part p).enable) :
    EnableKept d (d.updPart p f) := setPart_enableKept d p h

theorem msix_parts (d : Dev) (f v : Nat) : (d.msix f v).hst = d.hst := by
  unfold Dev.msix
  split <;> rfl

theorem hostWrite_hst (d : Dev) (p : PartId) (a : Nat) (l : List Byte) : (d.hostWrite p a l).hst = d.hst := by
  obtain ⟨m, e⟩ := hostWrite_only p l d a
  rw [e]

theorem rctSend_parts (d : Dev) (i ty : Nat) (l : List Byte) (o : Option Orphan) :
    (d.rctSend i ty l o).hst.parts = d.hst.parts := by
  unfold Dev.rctSend
  dsimp only
  split
  · rfl
  · split
    · split <;> rfl
    · split
      · rfl
      · split <;> rfl

theorem ringPut_parts (d : Dev) (p : PartId) (r : Ring) (n k : Nat) (rec : Bool → List Byte) :
    (d.ringPut p r n k rec).1.hst.parts = d.hst.parts := by
  unfold Dev.ringPut
  dsimp only
  by_cases hp : p < 64
  · rw [if_pos hp]
    split <;> split <;> simp only [msix_parts, hostWrite_hst]
  · rw [if_neg hp]
    dsimp only
    split
    · rfl
    · exact rctSend_parts _ _ _ _ _

theorem loseEvent_enableKept (d : Dev) (p : PartId) : EnableKept d (d.loseEvent p) := updPart_enableKept _ _ rfl

theorem postEvent_enableKept (d : Dev) (p : PartId) (e : Event) : EnableKept d (d.postEvent p e) := by
  unfold Dev.postEvent
  dsimp only
  refine iteInduction (motive := EnableKept d) (fun _ => .refl d) fun _ => ?_
  split
  · exact (EnableKept.of_parts (ringPut_parts _ _ _ _ _ _)).trans (updPart_enableKept _ _ rfl)
  · refine iteInduction (motive := EnableKept d) (fun _ => .of_parts rfl) fun _ => ?_
    refine iteInduction (motive := EnableKept d) (fun _ => ?_) fun _ => loseEvent_enableKept d p
    exact updPart_enableKept _ _ rfl

theorem mirror_parts (d : Dev) (e : Event) : (d.mirror e).hst.parts = d.hst.parts := by
  unfold Dev.mirror
  dsimp only
  split
  · rfl
  · split <;> rfl

theorem lossInterrupt_enableKept (d : Dev) : EnableKept d d.lossInterrupt := by
  have hmsix : ∀ f v, EnableKept d (d.msix f v) := fun f v => .of_parts (congrArg HostSt.parts (msix_parts d f v))
  unfold Dev.lossInterrupt
  dsimp only
  split
  · exact (hmsix _ _).trans ((postEvent_enableKept _ _ _).trans (.of_parts (mirror_parts _ _)))
  · exact hmsix _ _

theorem console_parts (d : Dev) (k v : Nat) : (d.console k v).hst.parts = d.hst.parts := by
  unfold Dev.console
  split <;> rfl

theorem event_enableKept (d : Dev) (p : PartId) (pg : Page) (cls code : Nat) (l : List Byte) (n : Nat) :
    EnableKept d (d.event p pg cls code l n) := by
  have posted : ∀ (x : Dev) (e : Event), EnableKept x
      (if cls = 0 ∧ p ≠ 0 then (x.postEvent p e).postEvent 0 e else x.postEvent p e) := fun x e =>
    iteInduction (motive := EnableKept x) (fun _ => (postEvent_enableKept x p e).trans (postEvent_enableKept _ 0 e))
      fun _ => postEvent_enableKept x p e
  have mirrored : ∀ (x : Dev) (e : Event) (b : Bool), EnableKept x
      (if b = true then (x.mirror e).lossInterrupt else x.mirror e) := fun x e b =>
    iteInduction (motive := EnableKept x) (fun _ => (EnableKept.of_parts (mirror_parts x e)).trans (lossInterrupt_enableKept _))
      fun _ => .of_parts (mirror_parts x e)
  unfold Dev.event
  dsimp only
  refine EnableKept.trans ?_ ((posted _ _).trans (mirrored _ _ _))
  refine .of_parts ?_
  have drawn : ∀ x : Dev × List Byte, x.1.hst.parts = d.hst.parts →
      ∀ (faults : Dev) k v, faults.hst.parts = x.1.hst.parts →
      (if cls ≤ 1 then (faults.bump Pg.EVT Reg.EVT.FAULT_LOG_CNT).console k v else x.1).hst.parts = d.hst.parts := by
    intro x hx faults k v hf
    split
    · rw [console_parts]; exact hf.trans hx
    · exact hx
  refine drawn _ ?_ _ _ _ rfl
  split <;> rfl

theorem interrupt_enableKept (d : Dev) (pg : Page) : EnableKept d (d.interrupt pg) := by
  have hmsix : ∀ f v, EnableKept d (d.msix f v) := fun f v => .of_parts (congrArg HostSt.parts (msix_parts d f v))
  unfold Dev.interrupt
  dsimp only
  split
  · exact (hmsix _ _).trans (event_enableKept _ _ _ _ _ _ _)
  · exact hmsix _ _

theorem raise_enableKept (d : Dev) (pg : Page) (b : Nat) : EnableKept d (d.raise pg b) := by
  unfold Dev.raise Dev.watch
  dsimp only
  split
  · exact interrupt_enableKept _ _
  · exact .of_parts rfl

theorem record_parts (d : Dev) (p asn : Nat) (b : Body) : (d.record p asn b).hst.parts = d.hst.parts := by
  unfold Dev.record
  rfl

theorem journal_enableKept (d : Dev) (p asn : Nat) (b : Body) : EnableKept d (d.journal p asn b) := by
  unfold Dev.journal
  dsimp only
  split
  · refine (EnableKept.of_parts (record_parts d p asn b)).trans (.trans ?_ (raise_enableKept _ _ _))
    exact .of_parts rfl
  · exact .of_parts (record_parts d p asn b)

theorem reclaim_parts (d : Dev) (p asn : Nat) : (d.reclaim p asn).hst.parts = d.hst.parts := by
  unfold Dev.reclaim
  split <;> rfl

theorem posted_enableKept (d : Dev) (p asn : Nat) : EnableKept d ((d.journal p asn .posted).reclaim p asn) :=
  (journal_enableKept _ _ _ _).trans (.of_parts (reclaim_parts _ _ _))

theorem orphan_enableKept (d : Dev) (p : PartId) (o : Orphan) : EnableKept d (d.orphan p o) := by
  unfold Dev.orphan
  dsimp only
  split
  · exact setPart_enableKept _ _ rfl
  · refine .trans ?_ (event_enableKept _ _ _ _ _ _ _)
    refine .trans (t := d.setPart p _) (setPart_enableKept d p ?_) ((wr_enableKept _ _ _ _ _ _).trans (wr_enableKept _ _ _ _ _ _))
    rfl

theorem postCq_parts (d : Dev) (p q : Nat) (x : Queue) (e : List Nat) : (d.postCq p q x e).hst.parts = d.hst.parts := by
  have interrupted : ∀ t : Dev, (t.cqInterrupt p q).hst.parts = t.hst.parts := fun t => by
    unfold Dev.cqInterrupt
    split
    · rfl
    · rw [msix_parts]; rfl
  have written : (if d.hostOk p (x.cqBase + 16 * x.cqTail) 16 then
      d.hostWrite p (x.cqBase + 16 * x.cqTail) (dwBytes e) else d).hst.parts = d.hst.parts := by
    split
    · rw [hostWrite_hst]
    · rfl
  unfold Dev.postCq
  dsimp only
  split
  · rw [interrupted]; exact written
  · exact written

theorem rctReply_enableKept (d : Dev) (i ty : Nat) (l : List Byte) (o : Option Orphan) :
    EnableKept d (d.rctReply i ty l o) := by
  have sent : EnableKept d (d.rctSend i ty l o) := .of_parts (rctSend_parts _ _ _ _ _)
  have posted : ∀ (t : Dev) (p : PartId), EnableKept t (t.rctPosted p o) := fun t p => by
    cases o with
    | none => exact .refl t
    | some o => exact posted_enableKept t p o.asn
  unfold Dev.rctReply
  dsimp only
  split
  · split
    · exact sent
    · exact sent.trans (posted _ _)
  · exact sent

theorem complete_enableKept (d : Dev) (c : Cmd) (st : Status) (result : Nat) : EnableKept d (d.complete c st result) := by
  unfold Dev.complete
  extract_lets removed host unlocked gone toOrphan
  have orphaned : ∀ o, EnableKept d (toOrphan unlocked o) := fun o =>
    (journal_enableKept unlocked _ _ _).trans ((orphan_enableKept _ _ _).trans (posted_enableKept _ _ _))
  split
  · exact orphaned _
  · split
    · exact (journal_enableKept unlocked _ _ _).trans ((EnableKept.of_parts (postCq_parts _ _ _ _ _)).trans
        (posted_enableKept _ _ _))
    · split
      · exact orphaned _
      · exact (journal_enableKept (unlocked.setQueue _ _ _) _ _ _).trans (rctReply_enableKept _ _ _ _ _)

theorem succeed_enableKept (d : Dev) (c : Cmd) (result : Nat) (st : Status) : EnableKept d (d.succeed c result st) :=
  (journal_enableKept _ _ _ _).trans (complete_enableKept _ _ _ _)

/-! ### Queue pairs and sessions go -/

theorem HostFramed.refl (d : Dev) : HostFramed d d := ⟨rfl, rfl⟩

theorem HostFramed.foldl {α : Type} {f : Dev → α → Dev} (l : List α) (hf : ∀ d a, HostFramed d (f d a)) (d : Dev) :
    HostFramed d (l.foldl f d) := by
  induction l generalizing d with
  | nil => exact .refl d
  | cons a l ih => exact (hf d a).trans (ih _)

theorem EnableKept.foldl {α : Type} {f : Dev → α → Dev} (l : List α) (hf : ∀ d a, EnableKept d (f d a)) (d : Dev) :
    EnableKept d (l.foldl f d) := by
  induction l generalizing d with
  | nil => exact .refl d
  | cons a l ih => exact (hf d a).trans (ih _)

theorem dropSession_kept (d : Dev) (id reason : Nat) :
    HostFramed d (d.dropSession id reason) ∧ EnableKept d (d.dropSession id reason) := by
  unfold Dev.dropSession
  split
  · exact ⟨.refl d, .refl d⟩
  · next s _ =>
    dsimp only
    constructor
    · refine HostFramed.trans (t := { d with hst := _ }) ⟨rfl, rfl⟩ (HostFramed.foldl _ (fun d x => ?_) _)
      split
      · exact (orphan_cmdsKept _ _ _).1.trans (posted_cmdsKept _ _ _).1
      · exact .refl _
    · refine EnableKept.trans (t := { d with hst := _ }) (.of_parts rfl) (EnableKept.foldl _ (fun d x => ?_) _)
      split
      · exact (orphan_enableKept _ _ _).trans (posted_enableKept _ _ _)
      · exact .refl _

theorem removeQueue_kept (d : Dev) (p q reason : Nat) :
    HostFramed d (d.removeQueue p q reason) ∧ EnableKept d (d.removeQueue p q reason) := by
  have dropped : ∀ t : Dev, HostFramed d t ∧ EnableKept d t → ∀ cs qs,
      HostFramed d { t with hst := { t.hst with queues := qs, cmds := cs } } ∧
      EnableKept d { t with hst := { t.hst with queues := qs, cmds := cs } } := fun t h cs qs =>
    ⟨h.1.trans ⟨rfl, rfl⟩, h.2.trans (.of_parts rfl)⟩
  unfold Dev.removeQueue
  dsimp only
  refine dropped _ ?_ _ _
  split
  · split
    · exact dropSession_kept _ _ _
    · exact ⟨.refl d, .refl d⟩
  · exact ⟨.refl d, .refl d⟩

theorem addAdmin_kept (d : Dev) (p : PartId) (x : Queue) : HostFramed d (d.addAdmin p x) ∧ EnableKept d (d.addAdmin p x) := by
  unfold Dev.addAdmin
  dsimp only
  split
  · exact ⟨⟨rfl, rfl⟩, (EnableKept.of_parts (t := d.setQueue p 0 x) rfl).trans (updPart_enableKept _ _ rfl)⟩
  · exact ⟨⟨rfl, rfl⟩, .of_parts rfl⟩

theorem setEnable_spec (d : Dev) (p : PartId) (en : Bool) :
    HostFramed d (d.setEnable p en) ∧ ((d.setEnable p en).part p).enable = en := by
  have hupd : HostFramed d (d.updPart p fun r => { r with enable := en }) := ⟨rfl, rfl⟩
  have hen : ((d.updPart p fun r => { r with enable := en }).part p).enable = en := by rw [Dev.updPart, part_setPart]
  have follows : ∀ t, HostFramed (d.updPart p fun r => { r with enable := en }) t ∧
      EnableKept (d.updPart p fun r => { r with enable := en }) t → HostFramed d t ∧ (t.part p).enable = en := fun t h =>
    ⟨hupd.trans h.1, (h.2 p).trans hen⟩
  unfold Dev.setEnable
  dsimp only
  split
  · exact ⟨hupd, hen⟩
  · split
    · exact follows _ (addAdmin_kept _ _ _)
    · exact follows _ (removeQueue_kept _ _ _ _)

end Sys2Proof.Proofs

/-! PROOFS. PartitionReset: a partition reset counts, a page moves to its new owner, parameter bytes read back (R33, R50, R335). -/

namespace Sys2Proof.Proofs

open Machine Laws

/-! ### A partition reset counts (R335) -/

theorem find_filter_of_kept {α : Type} (l : List (Nat × α)) {q : Nat × α → Bool} {k : Nat} (h : ∀ v, q (k, v) = true) :
    Assoc.find (l.filter q) k = Assoc.find l k := by
  induction l with
  | nil => rfl
  | cons e l ih =>
    by_cases hk : e.1 = k
    · have hq : q e = true := by rw [← hk] at h; exact h e.2
      rw [List.filter_cons_of_pos hq]
      simp [Assoc.find, hk]
    · rw [List.filter_cons]
      split <;> simpa [Assoc.find, hk] using ih

/-- A field that a clearing of registers does not pick reads as before. -/
theorem rd_clearRegs (d : Dev) {sel : Page → Fld → Nat → Bool} {pg : Page} {F : Fld} {i j : Nat} {e : Fld × Nat × Nat}
    (hkey : keyField (regKey pg F i j) = some e) (hsel : sel (keyPage (regKey pg F i j)) e.1 e.2.1 = false) :
    (d.clearRegs sel).rd pg F i j = d.rd pg F i j := by
  have hkept := find_filter_of_kept (k := regKey pg F i j) d.regs (q := fun e => match keyField e.1 with
    | none => true
    | some (F, i, _) => !sel (keyPage e.1) F i) fun v => by simp only [hkey, hsel, Bool.not_false]
  exact congrArg (·.getD (resetVal pg F i)) hkept

theorem encQuiesce_regs (d : Dev) (n : Nat) : (d.encQuiesce n).regs = d.regs := by
  have freed : ∀ (l : List EncSrc) (t : Dev), (l.foldl (fun d s => d.encFree n s) t).regs = t.regs := fun l => by
    induction l with
    | nil => exact fun _ => rfl
    | cons a l ih =>
      intro t
      rw [List.foldl_cons, ih]
      unfold Dev.encFree
      split <;> rfl
  unfold Dev.encQuiesce
  dsimp only
  obtain ⟨x, hx⟩ := retireAll_only (Dev.setEnc _ n _)
  rw [hx]
  exact freed _ _

theorem encQuiesces_regs (l : List Nat) (d : Dev) : (l.foldl (fun (d : Dev) n => d.encQuiesce n) d).regs = d.regs := by
  induction l generalizing d with
  | nil => rfl
  | cons n l ih => rw [List.foldl_cons, ih, encQuiesce_regs]

theorem resetCnt_field : keyField (regKey Pg.RST Reg.RST.PART_RESET_CNT 0 0) = some (Reg.RST.PART_RESET_CNT, 0, 0) := by
  decide

/-- Blanking the live views of fields leaves the registers alone. -/
theorem clearShown_rd (d : Dev) (sel : Page → Fld → Nat → Bool) (pg : Page) (F : Fld) (i j : Nat) :
    (d.clearShown sel).rd pg F i j = (d.clearRegs fun q G k => G.cls = .a && !showsLive q G && G ≠ Reg.HDR.STATE &&
      sel q G k).rd pg F i j := rfl

/-- The fields of classes A and B of another partition than 0 do not hold the count of resets. -/
theorem clearPartition_resetCnt (d : Dev) {p : PartId} (hp : p ≠ 0) :
    (d.clearPartition p).rd Pg.RST Reg.RST.PART_RESET_CNT = d.rd Pg.RST Reg.RST.PART_RESET_CNT ∧
      (d.clearPartition p).pip = d.pip := by
  unfold Dev.clearPartition
  dsimp only
  rw [if_neg hp]
  refine ⟨?_, rfl⟩
  rw [clearShown_rd]
  refine (rd_clearRegs _ resetCnt_field ?_).trans (rd_clearRegs _ resetCnt_field ?_)
  · rfl
  · rfl

theorem updPart_framed (d : Dev) (p : PartId) (f : PartRec → PartRec) : HostFramed d (d.updPart p f) := ⟨rfl, rfl⟩

theorem assistsOff_of_none {d : Dev} (sel : Assist → Bool) (how : Option Resolved) (h : d.pip.assists = []) :
    d.assistsOff sel how = d := by simp [Dev.assistsOff, h]

/-- R335: a reset of another partition than 0, with no assist request outstanding, is counted modulo 2^32. -/
theorem partitionReset_counts {d : Dev} {p : PartId} (cause : Nat) (pause : Bool) (hp : p ≠ 0) (hassists : d.pip.assists = []) :
    (d.partitionReset p cause pause).rd Pg.RST Reg.RST.PART_RESET_CNT =
      (d.rd Pg.RST Reg.RST.PART_RESET_CNT + 1) % 2 ^ Reg.RST.PART_RESET_CNT.width := by
  unfold Dev.partitionReset
  extract_lets queues unqueued unsessioned unringed cleared unassisted quiesced admitted counted
  have hhost : HostFramed d unringed :=
    (HostFramed.foldl queues (fun d q => (removeQueue_kept d p q 1).1) d).trans
      ((HostFramed.foldl _ (fun d id => (dropSession_kept d id 1).1) unqueued).trans (updPart_framed _ _ _))
  obtain ⟨hclear, hpip⟩ := clearPartition_resetCnt unringed hp
  have hnone : unassisted = cleared := assistsOff_of_none _ _ (by rw [hpip, hhost.pip, hassists])
  have hregs : admitted.regs = cleared.regs := by
    have hquiesced : quiesced.regs = unassisted.regs := encQuiesces_regs _ _
    rw [← hnone, ← hquiesced]
    unfold admitted
    split
    · unfold Dev.addAdmin
      dsimp only
      split <;> rfl
    · rfl
  have hcount : admitted.rd Pg.RST Reg.RST.PART_RESET_CNT = d.rd Pg.RST Reg.RST.PART_RESET_CNT := by
    rw [← hhost.rd_eq (by decide) (by decide), ← hclear]
    simp only [Dev.rd, hregs]
    rfl
  rw [rd_raise_block counted 0 0 0 (by decide) (by decide) (by decide)]
  unfold counted
  rw [rd_wr_ne _ _ (by decide), rd_wr_ne _ _ (by decide), Dev.bump, rd_wr_same, if_pos (by decide), hcount]

/-! ### A page moves (R50) -/

theorem owner_field (pg : Page) : keyField (regKey pg Reg.HDR.OWNER 0 0) = some (Reg.HDR.OWNER, 0, 0) := by
  have hkey : regKey pg Reg.HDR.OWNER 0 0 = (pg * 1024 + 3) * 32 := regKey_header (by decide) pg 0 0
  have hpage : keyPage (regKey pg Reg.HDR.OWNER 0 0) = pg := by
    have hdiv : ∀ n : Nat, (n * 1024 + 3) * 32 / 32 / 1024 = n := by omega
    rw [hkey, keyPage, hdiv]
  have hoff : keyOff (regKey pg Reg.HDR.OWNER 0 0) = 0xC := by rw [hkey, keyOff]; omega
  have hbit : regKey pg Reg.HDR.OWNER 0 0 % 32 = 0 := by rw [hkey]; omega
  rw [keyField, hpage, hoff, hbit, inDw_header pg (by decide)]
  decide

/-- An error of any page leaves the owners of pages alone. -/
theorem owner_error (d : Dev) (pg b : Nat) (q : Page) : (d.error q b).rd pg Reg.HDR.OWNER = d.rd pg Reg.HDR.OWNER := by
  have hwrite : ∀ (t : Dev) (F : Fld) (v : Nat), F ∈ Reg.HDR.all → Reg.HDR.OWNER.off / 4 ≠ F.off / 4 →
      (t.wr q F v).rd pg Reg.HDR.OWNER = t.rd pg Reg.HDR.OWNER := fun t F v hF hne => by
    obtain ⟨-, hlo, -⟩ := header_place hF
    refine rd_wr_ne t v ?_
    rw [regKey_header (by decide), regKey_header hF]
    have hplace : Reg.HDR.OWNER.off = 0xC ∧ Reg.HDR.OWNER.lo = 0 := ⟨rfl, rfl⟩
    obtain ⟨hoff, -, -⟩ := header_place hF
    omega
  unfold Dev.error
  rw [rd_watch _ _ _ _ (by decide)]
  dsimp only
  split
  · rw [freeStep_rd, hwrite _ _ _ (by decide) (by decide), hwrite _ _ _ (by decide) (by decide),
      hwrite _ _ _ (by decide) (by decide), hwrite _ _ _ (by decide) (by decide)]
  · rw [hwrite _ _ _ (by decide) (by decide), hwrite _ _ _ (by decide) (by decide)]

/-- Judging compare units leaves the owners of pages alone. -/
theorem owner_judgeHeld (d : Dev) (pg : Page) : d.judgeHeld.rd pg Reg.HDR.OWNER = d.rd pg Reg.HDR.OWNER := by
  have hset : ∀ (t : Dev) (u v : Nat), (t.setCmp u Reg.PCM.HELD v).rd pg Reg.HDR.OWNER = t.rd pg Reg.HDR.OWNER :=
    fun t u v => rd_wr_block t v 0 0 _ 0 (by decide) (by decide) (by decide)
  unfold Dev.judgeHeld
  induction List.range 32 generalizing d with
  | nil => rfl
  | cons u l ih =>
    rw [List.foldl_cons, ih]
    dsimp only
    split
    · rfl
    · split
      · rw [owner_error, hset]
      · rw [hset]

/-- R50: an ownable page moves to a partition of a function; with no assist request outstanding nothing else is resolved. -/
theorem movePage_owner {d : Dev} {pg : Page} {p : PartId} (hp : p < 64) (hkind : Pg.ownKind pg = 1)
    (hassists : d.pip.assists = []) : (d.movePage pg p).rd pg Reg.HDR.OWNER = p := by
  unfold Dev.movePage
  split
  · next hstays =>
    rcases hstays with hstays | hstays | hstays
    · exact absurd hstays (Nat.not_lt.mpr (Nat.le_of_lt_succ hp))
    · exact absurd hkind hstays
    · exact hstays
  · extract_lets moved resolved
    have hmoved : moved.rd pg Reg.HDR.OWNER = p := by
      refine (rd_clearRegs _ (owner_field pg) ?_).trans ?_
      · simp [Reg.HDR.OWNER]
      · rw [rd_wr_same]
        exact Nat.mod_eq_of_lt (Nat.lt_trans hp (by decide))
    have hnone : resolved = moved := assistsOff_of_none _ _ hassists
    split
    · rw [owner_judgeHeld, hnone, hmoved]
    · rw [hnone, hmoved]

/-! ### Parameter space (R33) -/

/-- Bytes written within the shadow bank all reach it. -/
theorem paramWrite_shadow (d : Dev) (k o : Nat) (l : List Byte) (hlow : 0x1000 ≤ o) (hhigh : o + l.length ≤ 0x20000) :
    ((d.paramWrite k o l).ctx k).shadow = setBytes o l.zipIdx (d.ctx k).shadow := by
  rw [Dev.paramWrite, Dev.updCtx, ctx_setCtx]
  refine foldl_congr_of_mem _ (fun b e he => ?_) _
  have hlt := List.snd_lt_of_mem_zipIdx he
  exact if_pos (by omega)

/-- They read back there but for reserved bits (R4). -/
theorem paramWrite_reads_back {d t : Dev} {k o : Nat} {l : List Byte} (hlow : 0x1000 ≤ o) (hhigh : o + l.length ≤ 0x20000)
    (hcap : t.cap = (d.paramWrite k o l).cap) :
    ((seqFrom o l.length).map fun i => t.paramByte k i) = l.zipIdx.map fun e => e.1 &&& byteMask (o + e.2) := by
  have hbank : (t.ctx k).shadow = setBytes o l.zipIdx (d.ctx k).shadow := by
    rw [← paramWrite_shadow d k o l hlow hhigh]
    simp only [Dev.ctx, hcap]
  refine List.ext_getElem (by simp [seqFrom]) fun j h _ => ?_
  have hj : j < l.length := by simpa [seqFrom] using h
  have hbyte := bytes_setBytes o 0 l (d.ctx k).shadow j hj
  rw [Nat.zero_add] at hbyte
  simp only [seqFrom, List.getElem_map, List.getElem_range, List.getElem_zipIdx, Nat.zero_add]
  rw [paramByte_shadow _ _ (by omega) (by omega), hbank, hbyte]

end Sys2Proof.Proofs

/-! PROOFS. Administration: partitions, resources, logs, aborts and assists have their main effect (R297 to R301, R314, R316, R335, R349). -/

namespace Sys2Proof.Proofs

open Machine Laws

/-! ### What the host shows changes no check -/

@[simp] theorem see_pcValid (d : Dev) (hv : HostView) (c : Cmd) : (d.see hv).pcValid c = d.pcValid c :=
  see_same (·.pcValid c) (fun _ _ _ _ => rfl) d hv

@[simp] theorem see_returnSize (d : Dev) (hv : HostView) : (d.see hv).returnSize = d.returnSize :=
  see_same (·.returnSize) (fun _ _ _ _ => rfl) d hv

@[simp] theorem see_assignField (d : Dev) (hv : HostView) (p k o n : Nat) :
    (d.see hv).assignField p k o n = d.assignField p k o n := see_same (·.assignField p k o n) (fun _ _ _ _ => rfl) d hv

@[simp] theorem see_assignBusy (d : Dev) (hv : HostView) (p k o n : Nat) :
    (d.see hv).assignBusy p k o n = d.assignBusy p k o n := see_same (·.assignBusy p k o n) (fun _ _ _ _ => rfl) d hv

@[simp] theorem see_assignOver (d : Dev) (hv : HostView) (p k o n : Nat) :
    (d.see hv).assignOver p k o n = d.assignOver p k o n := see_same (·.assignOver p k o n) (fun _ _ _ _ => rfl) d hv

@[simp] theorem see_cmdsOf (d : Dev) (hv : HostView) (p : PartId) : (d.see hv).cmdsOf p = d.cmdsOf p :=
  see_same (·.cmdsOf p) (fun _ _ _ _ => rfl) d hv

@[simp] theorem see_permitted (d : Dev) (hv : HostView) (g : Nat) : (d.see hv).permitted g = d.permitted g :=
  see_same (·.permitted g) (fun _ _ _ _ => rfl) d hv

@[simp] theorem see_rd (d : Dev) (hv : HostView) (pg : Page) (F : Fld) (i j : Nat) : (d.see hv).rd pg F i j = d.rd pg F i j :=
  see_same (·.rd pg F i j) (fun _ _ _ _ => rfl) d hv

/-! ### Partitions (R300, R335) -/

section Admin

variable {s : State} {p asn : Nat} {hv : HostView} {c : Cmd}

/-- R300: a PARTITION_CONFIG that its checks accept sets ENABLE. -/
theorem partitionConfig_enables (hp : p < 128) (h : Starts (s.dev.see hv) p asn 0x0A c = true) (hkey : pcKey c = false)
    (hreset : pcReset c = false) (hvalid : s.dev.pcValid c = true) :
    ∃ t, exec (.partitionConfig p asn hv) s = .next t ∧ (t.dev.part (pcPart c)).enable = decide (sf c.entry 8 0 1 = 1) := by
  refine ⟨_, runQuiet_starts Dev.partitionConfig (decide_eq_true hp) h, ?_⟩
  simp only [withDev_dev, Dev.partitionConfig, hkey, hreset, see_pcValid, hvalid, Bool.false_eq_true, or_self, if_false, if_true,
    Dev.pcApply]
  exact (succeed_enableKept _ _ _ _ _).trans (setEnable_spec _ _ _).2

/-- R335: with RESET the partition is reset, which is counted. -/
theorem partitionReset_counted (hp : p < 128) (h : Starts (s.dev.see hv) p asn 0x0A c = true) (hkey : pcKey c = false)
    (hreset : pcReset c = true) (hvalid : s.dev.pcValid c = true) (hassists : s.dev.pip.assists = []) :
    ∃ t, exec (.partitionReset p asn hv) s = .next t ∧ t.dev.rd Pg.RST Reg.RST.PART_RESET_CNT =
      (s.dev.rd Pg.RST Reg.RST.PART_RESET_CNT + 1) % 2 ^ Reg.RST.PART_RESET_CNT.width := by
  have hother : pcPart c ≠ 0 := fun h0 => by simp [Dev.pcValid, h0] at hvalid
  refine ⟨_, runQuiet_starts Dev.partitionResetCmd (decide_eq_true hp) h, ?_⟩
  simp only [withDev_dev, Dev.partitionResetCmd, hkey, hreset, see_pcValid, hvalid, Bool.false_eq_true, Bool.not_true, or_self,
    if_false, if_true, Dev.pcApply]
  rw [(succeed_framed _ _ _ _).rd_eq (by decide) (by decide)]
  refine (partitionReset_counts 1 _ hother ?_).trans ?_
  · rw [(setEnable_spec _ _ _).1.pip, (updPart_framed _ _ _).pip, see_pip, hassists]
  · rw [(setEnable_spec _ _ _).1.rd_eq (by decide) (by decide), (updPart_framed _ _ _).rd_eq (by decide) (by decide), see_rd]

/-- The quotas of partitions lie on pages that reports leave alone. -/
theorem qmg_notReported (p : PartId) : (qmg p).1 ∉ [Pg.EVT, Pg.SYS, Pg.NVS] := by
  have k : ∀ n < 4, 0xCA + n ∉ [Pg.EVT, Pg.SYS, Pg.NVS] := by decide
  exact k _ (Nat.mod_lt _ (by decide))

/-- R301: kind 5 gives a partition its quota of queue pairs. -/
theorem resourceAssign_quota (hp : p < 128) (h : Starts (s.dev.see hv) p asn 0x0B c = true) (hkind : sf c.entry 8 0 4 = 5)
    (hfield : s.dev.assignField (sf c.entry 1 0 7) 5 (sf c.entry 8 16 16) (dwAt c.entry 9) = false)
    (hbusy : s.dev.assignBusy (sf c.entry 1 0 7) 5 (sf c.entry 8 16 16) (dwAt c.entry 9) = false)
    (hover : s.dev.assignOver (sf c.entry 1 0 7) 5 (sf c.entry 8 16 16) (dwAt c.entry 9) = false) :
    ∃ t, exec (.resourceAssign p asn hv) s = .next t ∧
      t.dev.rd (qmg (sf c.entry 1 0 7)).1 Reg.QMG.QUOTA (qmg (sf c.entry 1 0 7)).2 = dwAt c.entry 9 := by
  have hmax : dwAt c.entry 9 ≤ 32768 := by
    simp only [Dev.assignField, Bool.or_eq_false_iff] at hfield
    have hrange : ¬ dwAt c.entry 9 = 0 ∧ dwAt c.entry 9 ≤ 32768 := by simpa using hfield.1.2
    exact hrange.2
  refine ⟨_, runQuiet_starts Dev.resourceAssign (decide_eq_true hp) h, ?_⟩
  simp only [withDev_dev, Dev.resourceAssign, hkind, see_assignField, see_assignBusy, see_assignOver, hfield, hbusy, hover,
    Bool.false_eq_true, if_false]
  rw [rd_regsBut _ 0 (by decide) (qmg_notReported _) (succeed_framed _ _ _ _).2]
  exact (rd_wr_same _ _ _ _ _ _).trans (Nat.mod_eq_of_lt (Nat.lt_of_le_of_lt hmax (by decide)))

/-! ### ABORT and assists (R314, R53, R55) -/

/-- R314: an ABORT that names no accepted command completes with 0. -/
theorem abort_of_none (hp : p < 128) (h : Starts (s.dev.see hv) p asn 0x0E c = true)
    (hnone : (s.dev.cmdsOf p).filter (fun y => y.queue = sf c.entry 8 0 16 && y.cid = sf c.entry 8 16 16 && y.asn ≠ asn) = []) :
    exec (.abort p asn hv) s = .next (s.withDev ((s.dev.see hv).succeed c 0)) := by
  obtain ⟨rfl, rfl⟩ := starts_names h
  have hgone : ((s.dev.see hv).cmdsOf c.part).filter (fun x => x.queue = sf c.entry 8 0 16 && x.cid = sf c.entry 8 16 16 &&
      !x.gone && x.asn ≠ c.asn) = [] := by
    rw [see_cmdsOf, List.filter_eq_nil_iff] at *
    intro x hx hmatch
    refine hnone x hx ?_
    simp only [Bool.and_eq_true] at hmatch ⊢
    exact ⟨hmatch.1.1, hmatch.2⟩
  rw [show exec (.abort c.part c.asn hv) s = _ from runQuiet_starts Dev.abort (decide_eq_true hp) h, Dev.abort, hgone]

/-- A decision of the power manager leaves the requests alone. -/
theorem powerDecide_pip (d : Dev) (g n : Nat) : (d.powerDecide g n).pip = d.pip := by
  unfold Dev.powerDecide Dev.enterState
  split
  · split <;> rfl
  · rfl

/-- R55: a reply in range to a request of FUNC 0x08 governs the decision, and the request is no longer outstanding. -/
theorem assistReply_resolves {a : Assist} (hp : p < 128) (h : Starts (s.dev.see hv) p asn 0x98 c = true)
    (hfind : (s.dev.pip.assists.find? fun y => y.part = p && y.tag = sf c.entry 1 0 16 && y.func = sf c.entry 1 16 8) = some a)
    (hfunc : a.func = 8) (hclear : replyClear 8 (fun i => dwAt c.entry (8 + i)) = true)
    (hgoverns : bitAt (dwAt c.entry 8) 0 = false)
    (hmin : 1 ≤ sf c.entry 9 0 3) (hmax : sf c.entry 9 0 3 ≤ s.dev.permitted a.object) :
    ∃ t, exec (.assistReply p asn hv) s = .next t ∧
      t.dev.pip.assists = s.dev.pip.assists.filter fun y => !(y.part = a.part && y.tag = a.tag) := by
  obtain ⟨rfl, rfl⟩ := starts_names h
  have hok : (s.dev.see hv).replyOk a (fun i => dwAt c.entry (8 + i)) = true := by
    simp only [Dev.replyOk, hfunc, hclear, see_permitted, Bool.true_and, Bool.and_eq_true, decide_eq_true_eq]
    exact ⟨hmin, hmax⟩
  refine ⟨_, runQuiet_starts Dev.assistReply (decide_eq_true hp) h, ?_⟩
  have hsix : ¬ a.func = 6 := by rw [hfunc]; decide
  simp only [withDev_dev, Dev.assistReply, Dev.replyTo, see_pip, hfind, hgoverns, hok, hsix, Bool.false_eq_true, Bool.not_true,
    false_and, or_self, if_false]
  rw [(succeed_framed _ _ _ _).pip]
  simp only [Dev.replyApply, hfunc, powerDecide_pip, Dev.dropAssist, see_pip]

end Admin

/-- R53: a request of FUNC 0x05 that reaches its deadline on a page without FALLBACK is no longer outstanding; its default is to
change nothing. -/
theorem assistDeadline_resolves {s : State} {part tag : Nat} {a : Assist} (hpart : part < 128) (htag : tag < 65536)
    (hs : Ready s.dev = true) (hfind : (s.dev.pip.assists.find? fun y => y.part = part && y.tag = tag) = some a)
    (hfunc : a.func = 5) (hfallback : s.dev.on a.page Reg.HDR.FALLBACK = false) :
    ∃ t, exec (.assistDeadline part tag) s = .next t ∧
      t.dev.pip.assists = s.dev.pip.assists.filter fun y => !(y.part = a.part && y.tag = a.tag) := by
  have hok : Instr.wellFormed (.assistDeadline part tag) = true := by simp [Instr.wellFormed, hpart, htag]
  have hstays : ((s.dev.dropAssist a (some .late)).bump a.page Reg.HDR.TIMEOUT_CNT).on a.page Reg.HDR.FALLBACK = false := by
    rw [← hfallback]
    exact congrArg (fun x => decide (x = 1)) (rd_wr_header (s.dev.dropAssist a (some .late)) a.page _
      (by decide) (by decide) (by decide))
  refine ⟨_, runQuiet_runs (fun d => d.assistTimeout part tag) hok hs, ?_⟩
  simp only [withDev_dev, Dev.assistTimeout, hfind, Dev.assistDefault, hfunc, hstays, Bool.false_eq_true, if_false]
  rfl

/-! ### Functions and pages (R297, R50) -/

/-- R297: with the host link up, the function count is what the host sets. -/
theorem vfEnable_sets {s : State} {n : Nat} (hn : n < 64) (hs : s.dev.stopped = false) (hlink : s.dev.hostLink = true)
    (hrun : s.dev.running = true) : ∃ t, exec (.vfEnable n) s = .next t ∧ t.dev.hst.numVfs = n := by
  refine ⟨_, runCmd_runs (fun d => d.vfEnable n) (decide_eq_true hn) hs, ?_⟩
  simp only [withDev_dev, Dev.vfEnable, hlink, hrun, Bool.not_true, Bool.false_eq_true, or_self, if_false]

/-- What a register write reaches is a page of the map. -/
theorem taken_page {d : Dev} {f pg o : Nat} (h : Taken d f pg o = true) : pg < 0xF3 := by
  simp only [Taken, Pg.isPage, Bool.and_eq_true, decide_eq_true_eq] at h
  obtain ⟨⟨⟨⟨⟨-, hmap, -⟩, -⟩, -⟩, -⟩, -⟩ := h
  exact hmap

/-- R50: a write of PAGE_OWNER moves the page. -/
theorem pageOwner_moves {s : State} {f pg v : Nat} (hf : f < 64) (hv : v < 2 ^ 32) (h : Taken s.dev f pg 0xC = true)
    (hkind : Pg.ownKind pg = 1) (hpart : v % 128 < 64) (hassists : s.dev.pip.assists = []) :
    ∃ t, exec (.pageOwner f pg v) s = .next t ∧ t.dev.rd pg Reg.HDR.OWNER = v % 128 := by
  have hok : Instr.wellFormed (.pageOwner f pg v) = true := by
    have hv : v < 4294967296 := hv
    simp [Instr.wellFormed, hf, hv, taken_page h]
  refine ⟨_, runCmd_runs (fun d => d.pageOwnerWrite f pg v) hok (taken_runs h), ?_⟩
  rw [withDev_dev, Dev.pageOwnerWrite, checkedWrite_taken _ _ _ _ _ h, if_neg (by decide)]
  exact movePage_owner hpart hkind hassists

/-! ### The data of a WRITE of parameter space arrives (R33, R310) -/

theorem moves_spec {d : Dev} {p asn op : Nat} {c : Cmd} (h : Moves d p asn op c = true) :
    d.cmd? p asn = some c ∧ c.part = p ∧ opcode c.entry = op ∧ c.phase = .moving ∧ c.received c.inBytes = true := by
  simp only [Moves, Bool.and_eq_true, decide_eq_true_eq] at h
  obtain ⟨⟨⟨⟨⟨⟨-, hcmd⟩, hpart⟩, -⟩, hop⟩, hphase⟩, hbytes⟩ := h
  exact ⟨hcmd, hpart, hop, hphase, hbytes⟩

/-- The end of a transfer does what its opcode's data does. -/
theorem dataTransferEnd_moved {s : State} {p asn op luma : Nat} {hv : HostView} {c : Cmd}
    (h : Moves (s.dev.see hv) p asn op c = true) :
    exec (.dataTransferEnd p asn hv luma) s = .next (s.withDev ((s.dev.see hv).moved c luma)) := by
  obtain ⟨hcmd, -, -, hphase, hbytes⟩ := moves_spec h
  have hready : Ready s.dev = true := by rw [← see_ready s.dev hv]; exact moves_ready h
  rw [show exec (.dataTransferEnd p asn hv luma) s = _ from runQuiet_runs (fun d => d.transferEnd hv p asn luma) rfl hready]
  simp [Dev.transferEnd, hcmd, hphase, hbytes]

/-- Without a scatter list the data lies at the pointer (R305). -/
theorem dataIn_plain {d : Dev} {c : Cmd} {i len : Nat} (hpart : c.part < 64) (hsgl : sf c.entry 0 8 1 = 0)
    (hok : d.hostOk c.part (dw64 c.entry i) len = true) :
    d.dataIn c i len = .ok (d.hostRead c.part (dw64 c.entry i) len) := by
  simp [Dev.dataIn, Dev.runs, hpart, hsgl, hok, Dev.hostRead, List.take_of_length_le]

theorem dataTransferEnd_writes {s : State} {p asn luma k : Nat} {hv : HostView} {c : Cmd}
    (h : Moves (s.dev.see hv) p asn 0x81 c = true) (hp : p < 64) (hspace : sf c.entry 8 0 2 = 1) (hsgl : sf c.entry 0 8 1 = 0)
    (hk : k = dwAt c.entry 1) (hok : (s.dev.see hv).hostOk p (dw64 c.entry 2) (dwAt c.entry 6) = true)
    (hlow : k * 0x40000 + 0x1000 ≤ dw64 c.entry 10) (hhigh : dw64 c.entry 10 + dwAt c.entry 6 ≤ k * 0x40000 + 0x20000) :
    ∃ t, exec (.dataTransferEnd p asn hv luma) s = .next t ∧
      ((seqFrom (paramOff c) (dwAt c.entry 6)).map fun i => t.dev.paramByte k i) =
        ((s.dev.see hv).hostRead p (dw64 c.entry 2) (dwAt c.entry 6)).zipIdx.map
          fun e => e.1 &&& byteMask (paramOff c + e.2) := by
  obtain ⟨-, rfl, hop, -⟩ := moves_spec h
  refine ⟨_, dataTransferEnd_moved h, ?_⟩
  have hlen : ((s.dev.see hv).hostRead c.part (dw64 c.entry 2) (dwAt c.entry 6)).length = dwAt c.entry 6 := by
    simp [Dev.hostRead]
  have hoff : paramOff c = dw64 c.entry 10 - k * 0x40000 := by rw [paramOff, hk]
  have hmoved : (s.dev.see hv).moved c luma = ((s.dev.see hv).paramWrite k (paramOff c)
      ((s.dev.see hv).hostRead c.part (dw64 c.entry 2) (dwAt c.entry 6))).succeed c := by
    simp only [Dev.moved, hop, Dev.writeEnd, dataIn_plain hp hsgl hok, hspace, hk]
  rw [withDev_dev, hmoved]
  have hback := paramWrite_reads_back (d := s.dev.see hv) (k := k) (o := paramOff c)
    (l := (s.dev.see hv).hostRead c.part (dw64 c.entry 2) (dwAt c.entry 6)) (by omega) (by rw [hlen]; omega)
    (congrArg Dev.cap (succeed_framed ((s.dev.see hv).paramWrite k (paramOff c)
      ((s.dev.see hv).hostRead c.part (dw64 c.entry 2) (dwAt c.entry 6))) c 0 .SUCCESS).1).symm
  rwa [hlen] at hback

/-- Settles O7: commands that give or take data start moving it; the others make their effect, which the completion that follows
and its reports leave alone. -/
theorem administrationComplete : Obligations.AdministrationComplete := by
  unfold Obligations.AdministrationComplete
  refine ⟨?commands, ?functions, ?deadline, ?owner, ?transfer⟩
  case commands =>
    rintro s _ rfl p asn op hv c hp _ h
    refine ⟨?identify, ?logRead, ?config, ?setKey, ?reset, ?capture, ?assign, ?abort, ?reply⟩
    case identify =>
      rintro rfl
      obtain ⟨t, ht, -, -, hmoves⟩ := moves_of_startMove (i := .identify p asn hv) (n := 0) h
        (runQuiet_starts Dev.identify (decide_eq_true hp) h) rfl
      exact ⟨t, ht, hmoves⟩
    case logRead =>
      rintro rfl hmin hmax
      obtain ⟨t, ht, -, -, hmoves⟩ := moves_of_startMove (i := .logRead p asn hv) (n := 0) h
        (runQuiet_starts Dev.logRead (decide_eq_true hp) h) (if_pos ⟨hmin, hmax⟩)
      exact ⟨t, ht, hmoves⟩
    case config =>
      rintro rfl hkey hreset hvalid
      exact partitionConfig_enables hp h hkey hreset hvalid
    case setKey =>
      rintro rfl hkey hvalid
      obtain ⟨t, ht, -, -, hmoves⟩ := moves_of_startMove (i := .partitionSetKey p asn hv) (n := 32) h
        (runQuiet_starts Dev.partitionSetKey (decide_eq_true hp) h)
        (by simp [Dev.partitionSetKey, hkey, hvalid])
      exact ⟨t, ht, hmoves⟩
    case reset =>
      rintro rfl hkey hreset hvalid _ hassists
      exact partitionReset_counted hp h hkey hreset hvalid hassists
    case capture =>
      rintro rfl hroom
      obtain ⟨t, ht, -, -, hmoves⟩ := moves_of_startMove (i := .returnCapture p asn hv) (n := 0) h
        (runQuiet_starts Dev.returnCapture (decide_eq_true hp) h)
        (if_neg (by rw [see_returnSize]; exact Nat.not_lt.mpr hroom))
      exact ⟨t, ht, hmoves⟩
    case assign =>
      rintro rfl hkind hfield hbusy hover
      exact resourceAssign_quota hp h hkind hfield hbusy hover
    case abort =>
      rintro rfl hnone
      exact abort_of_none hp h hnone
    case reply =>
      rintro a rfl hfind hfunc hclear hgoverns hmin hmax _ _ _
      exact assistReply_resolves hp h hfind hfunc hclear hgoverns hmin hmax
  case functions =>
    rintro s _ rfl hs n hn hlink hrun
    exact vfEnable_sets hn hs hlink hrun
  case deadline =>
    rintro s _ rfl hs part hpart tag htag a hfind hfunc hfallback
    exact assistDeadline_resolves hpart htag hs hfind hfunc hfallback
  case owner =>
    rintro s _ rfl f hf v hv pg _ h hkind hpart hassists
    exact pageOwner_moves hf hv h hkind hpart hassists
  case transfer =>
    rintro s _ rfl p _ asn _ luma _ k hv c h hp hspace hsgl hk hok hlow hhigh
    exact dataTransferEnd_writes h hp hspace hsgl hk hok hlow hhigh

end Sys2Proof.Proofs

/-! PROOFS. FailedPair: an activation that names no pair of the part refutes the statement about a pair that fails (R342). -/

namespace Sys2Proof.Proofs

open Machine Laws

/-- Firmware runs on pair 0, pair 1 is the standby, and the activation in progress names a pair 2. -/
def activatesNoPair : State :=
  { dev := { brd := { stage := 6 }, jnl := { activation := some { part := 0, asn := 5, slot := 1, persist := false, pair := 2 } } } }

/-- Pair 1 fails for good, but then the activation fails too, and the pair it loaded returns to STANDBY: whatever is not pair 0
is written as pair 1. -/
theorem mgmtPairFailure_shows_standby :
    ∃ t, exec (.mgmtPairFailure 1) activatesNoPair = .next t ∧ t.dev.pair 1 = 1 := ⟨_, rfl, by decide⟩

/-- Refutes O60: its second clause says that the pair of the activation in progress is not the remaining one, but not that it is
0 or 1. FW_ACTIVATE names the standby pair and so makes no other activation, but the clause holds of every state, and in one
whose activation names pair 2 the failed pair 1 reads STANDBY and not FAILED. -/
theorem not_failedPair : ¬ Obligations.FailedPair := by
  unfold Obligations.FailedPair
  rintro ⟨-, fails⟩
  obtain ⟨t, ht, hfailed, -⟩ := fails activatesNoPair 1 (by decide) (by decide) (by decide) (by decide) (by decide) (by decide)
  obtain ⟨u, hu, hstandby⟩ := mgmtPairFailure_shows_standby
  rw [hu] at ht
  rw [← Host.Outcome.next.inj ht, hstandby] at hfailed
  exact absurd hfailed (by decide)

end Sys2Proof.Proofs

/-! PROOFS. QueueOrder: steps take the queue from its front, and what stands behind waits (R33; log 1, 3 and 8). -/

namespace Sys2Proof.Proofs

open Machine Laws

/-- A command is one change of the device, the same whatever waits behind it. -/
theorem exec_ignores_queue (c : Instr) : ∃ f : Dev → Dev, ∀ s, exec c s = .next (s.withDev (f s.dev)) := by
  rcases exec_runs c with ⟨-, -, f, hf⟩ | ⟨-, -, f, hf⟩ | ⟨-, -, f, hf⟩
  · exact ⟨fun d => if c.wellFormed then f d else d, hf⟩
  · exact ⟨fun d => if c.wellFormed then if d.stopped then d else f d else d, hf⟩
  · exact ⟨fun d => if c.wellFormed then if d.stopped then d else if d.jnl.powerLoss then d else f d else d, hf⟩

/-- A step takes at most the front of the queue, and goes on. -/
theorem step_drops_front (s : State) : ∃ t, step s = .next t ∧ t.pending = s.pending.drop 1 := by
  obtain ⟨q, d⟩ := s
  cases q with
  | nil => exact ⟨_, step_empty d, rfl⟩
  | cons c rest =>
    obtain ⟨e, he⟩ := exec_changes_dev c { pending := rest, dev := d }
    exact ⟨_, (step_front c rest d).trans he, rfl⟩

theorem step_keeps_sane {s t : State} (hs : Sane s = true) (h : step s = .next t) : Sane t = true := by
  obtain ⟨u, hu, hdrop⟩ := step_drops_front s
  obtain rfl : u = t := Host.Outcome.next.inj (hu.symm.trans h)
  rw [Sane, List.all_eq_true] at hs ⊢
  exact fun c hc => hs c (List.mem_of_mem_drop (hdrop ▸ hc))

theorem run_drops_front (n : Nat) (s : State) :
    ∃ t, Host.Core.run core n s = .next t ∧ t.pending = s.pending.drop n := by
  induction n generalizing s with
  | zero => exact ⟨s, rfl, rfl⟩
  | succ n ih =>
    obtain ⟨t, ht, hdrop⟩ := step_drops_front s
    obtain ⟨u, hu, hrest⟩ := ih t
    exact ⟨u, (run_next n ht).trans hu, by rw [hrest, hdrop, List.drop_drop, Nat.add_comm]⟩

/-- A queue that runs out leaves the same device when `b` waits behind it, and the run goes on with `b`. -/
theorem run_past_queue (k : Nat) (a b : List Instr) {d e : Dev}
    (h : Host.Core.run core a.length { pending := a, dev := d } = .next { pending := [], dev := e }) :
    Host.Core.run core (a.length + k) { pending := a ++ b, dev := d } =
      Host.Core.run core k { pending := b, dev := e } := by
  induction a generalizing d with
  | nil =>
    obtain rfl : d = e := congrArg State.dev (Host.Outcome.next.inj h)
    rw [List.length_nil, Nat.zero_add, List.nil_append]
  | cons c rest ih =>
    obtain ⟨f, hf⟩ := exec_ignores_queue c
    have hstep : ∀ q, step { pending := c :: q, dev := d } = .next { pending := q, dev := f d } := fun q =>
      (step_front c q d).trans (hf _)
    rw [List.length_cons, run_next _ (hstep rest)] at h
    rw [List.length_cons, Nat.add_right_comm, List.cons_append, run_next _ (hstep _)]
    exact ih h

/-- Settles O50: both are what `step` says. -/
theorem stepRunsFront : Obligations.StepRunsFront := by
  unfold Obligations.StepRunsFront
  exact ⟨step_front, step_empty⟩

/-- Settles O52: a command changes the device alone, and the same way whatever waits behind it, so a run of the queue in
front goes on with what stands behind; one that names no object is then a step that changes nothing. -/
theorem queueRuns : Obligations.QueueRuns := by
  unfold Obligations.QueueRuns
  refine ⟨fun s t => step_keeps_sane, run_drops_front, fun a b d e h => run_past_queue 0 a b h, fun a b c d e h hc => ?_⟩
  have hskip : step { pending := c :: b, dev := e } = .next { pending := b, dev := e } :=
    (step_front c b e).trans (exec_of_illFormed c _ hc)
  exact (run_past_queue 1 a (c :: b) h).trans (run_next 0 hskip)

end Sys2Proof.Proofs

/-! PROOFS. Reset: what the state after reset holds (R350, R388, R404; log 4). -/

namespace Sys2Proof.Proofs

open Machine Laws

/-- Settles O56: the state after reset lists nothing, so every register reads its reset value. -/
theorem resetState : Obligations.ResetState := by
  unfold Obligations.ResetState
  refine ⟨⟨rfl, rfl, rfl, rfl, rfl, rfl⟩, ⟨?_, ?_, ?_, ?_, ?_⟩, rfl, rfl, rfl, rfl, wf_reset⟩
  all_goals decide

end Sys2Proof.Proofs

/-! PROOFS. ZeroSpeed: the end of ZERO_MS on a position channel whose page is disabled (R37, R371). -/

namespace Sys2Proof.Proofs

open Machine Laws

/-- Channel 0 is in quadrature mode, and its page is disabled. -/
def channelDisabled : State :=
  { dev := (({} : Dev).wr (Pg.PFB 0) Reg.PFB.MODE 1).wr (Pg.PFB 0) Reg.HDR.EN 0 }

/-- R37: the page counts nothing, and shows no speed. -/
theorem zeroSpeed_of_disabled : ∃ t, exec (.zeroSpeed 0) channelDisabled = .next t ∧
    t.dev.pfb 0 Reg.PFB.SPEED_VALID = 0 := ⟨_, rfl, by decide⟩

/-- Refutes O20: its last clause holds of every channel whose MODE is not 0, and ZERO_MS ends without effect on one whose
page has EN = 0, which then shows no valid speed (R37, R371). -/
theorem not_positionCounting : ¬ Obligations.PositionCounting := by
  unfold Obligations.PositionCounting
  rintro ⟨-, -, -, -, -, -, -, -, still⟩
  obtain ⟨t, ht, -, -, hvalid, -⟩ := still channelDisabled 0 (by decide) (by decide) (by decide)
  obtain ⟨u, hu, hinvalid⟩ := zeroSpeed_of_disabled
  rw [hu] at ht
  rw [← Host.Outcome.next.inj ht, hinvalid] at hvalid
  exact absurd hvalid (by decide)

end Sys2Proof.Proofs

/-! PROOFS. Timebase: writes of INCR, and the pulse per second (R351, R352). -/

namespace Sys2Proof.Proofs

open Machine Laws

/-- Registers of TMB are no registers that reports reach. -/
theorem tmb_notReported : Pg.TMB ∉ [Pg.EVT, Pg.SYS, Pg.NVS] := by decide

/-- A 64-bit pair of registers holds a 64-bit value. -/
theorem rd64_wr64 (d : Dev) (pg : Page) {L H : Fld} {v : Nat} (hL : L.width = 32) (hH : H.width = 32)
    (hne : regKey pg L 0 0 ≠ regKey pg H 0 0) (hv : v < 2 ^ 64) : (d.wr64 pg L H v).rd64 pg L H = v := by
  rw [Dev.wr64, Dev.rd64, rd_wr_ne _ _ hne, rd_wr_same, rd_wr_same, hL, hH]
  omega

theorem wr64_frame (d : Dev) {pgs : List Page} {pg : Page} {L H : Fld} (v : Nat) (hL : fits L = true)
    (hH : fits H = true) (h : pg ∈ pgs) : Framed pgs d (d.wr64 pg L H v) :=
  frame_of_still (still_trans (wr_still _ _ _ _ hL h) (wr_still _ _ _ _ hH h))

/-- The interrupt that a change of a page may signal leaves the pairs of that page as the change does. -/
theorem rd64_watch_block {d : Dev} {pg : Page} {L H : Fld} (k : Dev → Dev) (hL : fits L = true) (hH : fits H = true)
    (hpg : pg ∉ [Pg.EVT, Pg.SYS, Pg.NVS]) : (d.watch pg k).rd64 pg L H = (k d).rd64 pg L H := by
  unfold Dev.watch
  dsimp only
  split
  · have hregs : ((k d).interrupt pg).regsBut [Pg.EVT, Pg.SYS, Pg.NVS] = (k d).regsBut [Pg.EVT, Pg.SYS, Pg.NVS] :=
      (interrupt_frame [] (k d) pg).2
    rw [Dev.rd64, Dev.rd64, rd_regsBut _ _ hL hpg hregs, rd_regsBut _ _ hH hpg hregs]
  · rfl

theorem rd64_wr_header (d : Dev) (pg : Page) {L H G : Fld} (v : Nat) (hL : fits L = true) (hoffL : 0x100 ≤ L.off)
    (hH : fits H = true) (hoffH : 0x100 ≤ H.off) (hG : G ∈ Reg.HDR.all) :
    (d.wr pg G v).rd64 pg L H = d.rd64 pg L H := by
  rw [Dev.rd64, Dev.rd64, rd_wr_ne _ _ (regKey_header_ne_block pg pg 0 0 0 0 hG hL hoffL).symm,
    rd_wr_ne _ _ (regKey_header_ne_block pg pg 0 0 0 0 hG hH hoffH).symm]

/-- An error of a page leaves the pairs of its block. -/
theorem rd64_error (d : Dev) {pg : Page} {L H : Fld} (b : Nat) (hL : fits L = true) (hoffL : 0x100 ≤ L.off)
    (hH : fits H = true) (hoffH : 0x100 ≤ H.off) (hpg : pg ∉ [Pg.EVT, Pg.SYS, Pg.NVS]) :
    (d.error pg b).rd64 pg L H = d.rd64 pg L H := by
  have hwr : ∀ (d : Dev) (G : Fld) (v : Nat), G ∈ Reg.HDR.all → (d.wr pg G v).rd64 pg L H = d.rd64 pg L H :=
    fun d G v hG => rd64_wr_header d pg v hL hoffL hH hoffH hG
  rw [Dev.error, rd64_watch_block _ hL hH hpg]
  dsimp only
  split
  · exact (hwr _ _ _ (by decide)).trans ((hwr _ _ _ (by decide)).trans ((hwr _ _ _ (by decide)).trans (hwr _ _ _ (by decide))))
  · exact (hwr _ _ _ (by decide)).trans (hwr _ _ _ (by decide))

/-- An error of TMB sets its bit, and leaves INCR and what lies beside its page and reports. -/
theorem tmbError_spec (d : Dev) : Framed [Pg.TMB] d (d.error Pg.TMB 0) ∧
    (d.error Pg.TMB 0).rd64 Pg.TMB Reg.TMB.INCR_LO Reg.TMB.INCR_HI = d.rd64 Pg.TMB Reg.TMB.INCR_LO Reg.TMB.INCR_HI ∧
    bitAt ((d.error Pg.TMB 0).rd Pg.TMB Reg.HDR.ERR_STAT) 0 = true :=
  ⟨error_frame d _ 0 (by decide),
    rd64_error d 0 (by decide) (by decide) (by decide) (by decide) tmb_notReported, errStat_error d _ (by decide)⟩

/-! ### INCR -/

/-- A taken write of a half of INCR (R351). -/
theorem incr_runs {s : State} {f hi v : Nat} (hf : f < 64) (hv : v < 2 ^ 32) (hhi : hi < 2)
    (h : Taken s.dev f Pg.TMB (0x110 + 4 * hi) = true) :
    exec (.incr f hi v) s = .next (s.withDev (if hi = 0 then
        { s.dev with lowHeld := Assoc.put s.dev.lowHeld (halfKey f Pg.TMB 0x110) v }
      else
        let x := (Assoc.find s.dev.lowHeld (halfKey f Pg.TMB 0x110)).getD (s.dev.rd Pg.TMB Reg.TMB.INCR_LO) + 2 ^ 32 * v
        let d := { s.dev with lowHeld := Assoc.del s.dev.lowHeld (halfKey f Pg.TMB 0x110) }
        if 0x13FAE147B ≤ x ∧ x ≤ 0x14051EB85 then d.wr64 Pg.TMB Reg.TMB.INCR_LO Reg.TMB.INCR_HI x
        else d.error Pg.TMB 0)) := by
  have hok : Instr.wellFormed (.incr f hi v) = true := by
    have hv : v < 4294967296 := hv
    simp [Instr.wellFormed, hf, hv, hhi]
  simp only [exec, execIncr, hok]
  rw [runCmd_ok _ _ (taken_runs h), Dev.incrWrite, checkedWrite_block _ h (Nat.le_trans (by decide) (Nat.le_add_right _ _))]

/-- Settles O15: the write of the high half either writes the pair or is an error of TMB, which reaches no block register. -/
theorem timebaseRate : Obligations.TimebaseRate := by
  unfold Obligations.TimebaseRate
  refine ⟨fun s f v hf hv h => ?low, fun s f v lo hf hv h hlo hmin hmax => ?inside, fun s f v lo hf hv h hlo hout => ?outside⟩
  case low => exact incr_runs (hi := 0) hf hv (by decide) h
  case inside =>
    refine ⟨_, incr_runs (hi := 1) hf hv (by decide) h, ?_⟩
    simp only [hlo, Option.getD_some, if_neg Nat.one_ne_zero, if_pos (And.intro hmin hmax), withDev_dev]
    exact ⟨wr64_frame _ _ (by decide) (by decide) (by decide), rd64_wr64 _ _ rfl rfl (by decide) (by omega), rfl⟩
  case outside =>
    have hnot : ¬ (0x13FAE147B ≤ lo + 2 ^ 32 * v ∧ lo + 2 ^ 32 * v ≤ 0x14051EB85) := by omega
    refine ⟨_, incr_runs (hi := 1) hf hv (by decide) h, ?_⟩
    simp only [hlo, Option.getD_some, if_neg Nat.one_ne_zero, if_neg hnot, withDev_dev]
    obtain ⟨hframe, hincr, herr⟩ := tmbError_spec { s.dev with lowHeld := Assoc.del s.dev.lowHeld (halfKey f Pg.TMB 0x110) }
    have hheld : (Dev.error { s.dev with lowHeld := Assoc.del s.dev.lowHeld (halfKey f Pg.TMB 0x110) } Pg.TMB 0).lowHeld =
        Assoc.del s.dev.lowHeld (halfKey f Pg.TMB 0x110) := (congrArg Dev.lowHeld hframe.1).symm
    exact ⟨hheld.symm ▸ hframe, hincr, herr⟩

/-! ### The pulse per second -/

/-- A rising edge of PPS_IN writes the instant, counts, and raises bit 2 (R352). -/
theorem ppsIn_spec (d : Dev) : Framed [Pg.TMB] d d.ppsIn ∧
    d.ppsIn.rd64 Pg.TMB Reg.TMB.PPS_IN_NS_LO Reg.TMB.PPS_IN_NS_HI = d.ns ∧
    d.ppsIn.rd Pg.TMB Reg.TMB.PPS_IN_CNT = (d.rd Pg.TMB Reg.TMB.PPS_IN_CNT + 1) % 2 ^ 32 ∧
    bitAt (d.ppsIn.rd Pg.TMB Reg.HDR.INT_STAT) 2 = true := by
  have hns : d.ns < 2 ^ 64 := by
    have hlt := d.tb.isLt
    rw [Dev.ns]
    omega
  refine ⟨?frame, ?instant, ?count, intStat_raise _ _ (by decide)⟩
  case frame =>
    exact frame_trans (wr64_frame _ _ (by decide) (by decide) (by decide))
      (frame_trans (bump_frame _ _ _ (by decide) (by decide)) (raise_frame _ _ _ (by decide)))
  case instant =>
    rw [Dev.ppsIn, Dev.rd64, rd_raise_block _ _ _ _ (by decide) (by decide) tmb_notReported,
      rd_raise_block _ _ _ _ (by decide) (by decide) tmb_notReported, Dev.bump, rd_wr_ne _ _ (by decide), rd_wr_ne _ _ (by decide)]
    exact rd64_wr64 d _ rfl rfl (by decide) hns
  case count =>
    rw [Dev.ppsIn, rd_raise_block _ _ _ _ (by decide) (by decide) tmb_notReported, Dev.bump, rd_wr_same, Dev.wr64,
      rd_wr_ne _ _ (by decide), rd_wr_ne _ _ (by decide)]
    rfl

/-- Settles O17: the pin follows the enabled second and the end of its pulse, and an edge on PPS_IN is `Dev.ppsIn`. -/
theorem pulsePerSecond : Obligations.PulsePerSecond := by
  unfold Obligations.PulsePerSecond
  refine ⟨fun s hs hen => ?_, fun s hs hhigh => ?_, fun s hs => ⟨_, runCmd_ok _ s hs, ppsIn_spec s.dev⟩⟩
  · exact (runCmd_ok _ s hs).trans (by rw [Dev.ppsOut, if_pos hen])
  · exact (runCmd_ok _ s hs).trans (by rw [Dev.ppsOutFall, if_pos hhigh])

end Sys2Proof.Proofs

/-! PROOFS. PtpFrames: port times, what PTP ports leave unchanged, and the registers of a transmitter (R356 to R358). -/

namespace Sys2Proof.Proofs

open Machine Laws

/-- `t` is `d` but for what time holds beside its registers, registers of `pgs`, and what reports reach. -/
def TimFramed (pgs : List Page) (d t : Dev) : Prop := Framed pgs { d with tim := t.tim } t

theorem TimFramed.trans {pgs : List Page} {d t u : Dev} (h : TimFramed pgs d t) (k : TimFramed pgs t u) :
    TimFramed pgs d u := by
  refine ⟨?_, k.2.trans h.2⟩
  have a := h.1
  have b := k.1
  rw [← a] at b
  exact b

theorem TimFramed.of_framed {pgs : List Page} {d t : Dev} (h : Framed pgs d t) : TimFramed pgs d t := by
  obtain ⟨a, b⟩ := h
  refine ⟨?_, b⟩
  rw [← a]; rfl

theorem setPort_timFramed (pgs : List Page) (d : Dev) (n : Nat) (x : PtpPort) : TimFramed pgs d (d.setPort n x) :=
  ⟨rfl, rfl⟩

/-- Reports leave the ports alone. -/
theorem frame_port {pgs : List Page} {d t : Dev} (h : Framed pgs d t) (n : Nat) : t.port n = d.port n :=
  (congrArg (fun x : Dev => x.port n) h.1).symm

theorem port_raise (d : Dev) (pg : Page) (b n : Nat) : (d.raise pg b).port n = d.port n :=
  frame_port (pgs := [pg]) (raise_frame d pg b (by simp)) n

theorem port_event (d : Dev) (p : PartId) (pg : Page) (c k : Nat) (l : List Byte) (m n : Nat) :
    (d.event p pg c k l m).port n = d.port n := frame_port (event_frame [] d p pg c k l m) n

/-- A change of a port that raises a bit of its page. -/
theorem setPort_raise_timFramed (d : Dev) (n b : Nat) (x : PtpPort) :
    TimFramed [Pg.PTP n] d ((d.setPort n x).raise (Pg.PTP n) b) :=
  (setPort_timFramed _ d n x).trans (.of_framed (raise_frame _ _ _ (by simp)))

/-- What frames the device with another power state frames the device but for that. -/
theorem TimFramed.but_pow {pgs : List Page} {d t : Dev} {p : PowerSt} (h : TimFramed pgs { d with pow := p } t) :
    Framed pgs { d with tim := t.tim, pow := t.pow } t := by
  obtain ⟨a, b⟩ := h
  refine ⟨?_, b⟩
  rw [← a]; rfl

theorem setPort_still (d : Dev) (n : Nat) (x : PtpPort) : Still [] { d with tim := (d.setPort n x).tim } (d.setPort n x) :=
  ⟨rfl, rfl⟩

/-! ### Port times -/

@[simp] theorem port_setPort_same (d : Dev) (p : Nat) (x : PtpPort) : (d.setPort p x).port p = x := get_set_same _ _ _ _

theorem port_setPort_ne (d : Dev) {p q : Nat} (x : PtpPort) (h : q ≠ p) : (d.setPort p x).port q = d.port q :=
  get_set_ne _ _ _ _ h

theorem time_setPort (d : Dev) (n v : Nat) : ((d.setPort n { d.port n with time := v }).port n).time = v := by
  rw [port_setPort_same]

theorem time_portMove_same (d : Dev) (p : Nat) (v : Int) :
    ((d.portMove p v).port p).time = (((d.port p).time + v) % (portWrap : Int)).toNat := by
  rw [Dev.portMove, port_setPort_same]

theorem port_portMove_ne (d : Dev) {p q : Nat} (v : Int) (h : q ≠ p) : (d.portMove p v).port q = d.port q :=
  port_setPort_ne d _ h

/-- A port's time moves forward modulo its range. -/
theorem time_portMove_nat (d : Dev) (p n : Nat) : ((d.portMove p n).port p).time = ((d.port p).time + n) % portWrap := by
  rw [time_portMove_same]
  norm_cast

theorem word_fits {v : Nat} (h : v < 2 ^ 32) : v < 4294967296 := h

/-! ### The transmitter's registers -/

/-- A write of TX_CTRL leaves its fields (R358). -/
def txLoaded (d : Dev) (n v : Nat) : Dev :=
  ((d.wr (Pg.PTP n) Reg.PTP.TX_LEN (bits v 0 9)).wr (Pg.PTP n) Reg.PTP.TX_SUBIF (bits v 12 2)).wr (Pg.PTP n) Reg.PTP.TX_TAG
    (bits v 16 8)

/-- The frame in TX_DATA of the length that a write of TX_CTRL gives. -/
def txBytes (d : Dev) (n v : Nat) : List Byte :=
  ((List.range 64).flatMap fun k => leBytes 4 (d.rd (Pg.PTP n) Reg.PTP.TX_DATA k)).take (bits v 0 9)

theorem txLoaded_still (d : Dev) (n v : Nat) : Still [Pg.PTP n] d (txLoaded d n v) :=
  have hwr : ∀ (d : Dev) (F : Fld) (v : Nat), fits F = true → Still [Pg.PTP n] d (d.wr (Pg.PTP n) F v) :=
    fun d F v hF => wr_still d v 0 0 hF (List.mem_singleton_self _)
  still_trans (hwr _ _ _ (by decide)) (still_trans (hwr _ _ _ (by decide)) (hwr _ _ _ (by decide)))

@[simp] theorem txLoaded_port (d : Dev) (n v m : Nat) : (txLoaded d n v).port m = d.port m := rfl

/-- What another register of the page holds, a write of TX_CTRL leaves. -/
theorem rd_txLoaded (d : Dev) (n v i : Nat) {F : Fld} (hlo : F.lo < 32) (hoff : F.at (i % F.cnt) (0 % F.cnt2) / 4 ≠ 0x160 / 4) :
    (txLoaded d n v).rd (Pg.PTP n) F i = d.rd (Pg.PTP n) F i := by
  have hwr : ∀ (d : Dev) (G : Fld) (v : Nat), G ∈ [Reg.PTP.TX_LEN, Reg.PTP.TX_SUBIF, Reg.PTP.TX_TAG] →
      (d.wr (Pg.PTP n) G v).rd (Pg.PTP n) F i = d.rd (Pg.PTP n) F i := fun d G v hG => by
    have k : ∀ G ∈ [Reg.PTP.TX_LEN, Reg.PTP.TX_SUBIF, Reg.PTP.TX_TAG], G.lo < 32 ∧
        G.at (0 % G.cnt) (0 % G.cnt2) / 4 = 0x160 / 4 := by decide
    obtain ⟨hlo', hat⟩ := k G hG
    refine rd_wr_ne d v (regKey_ne hlo hlo' (.inl fun h => hoff ?_))
    rw [← hat]
    exact Nat.add_left_cancel h
  exact (hwr _ _ _ (by decide)).trans ((hwr _ _ _ (by decide)).trans (hwr _ _ _ (by decide)))

theorem txLoaded_en (d : Dev) (n v : Nat) : (txLoaded d n v).on (Pg.PTP n) Reg.HDR.EN = d.on (Pg.PTP n) Reg.HDR.EN := by
  rw [Dev.on, Dev.on, rd_txLoaded _ _ _ _ (by decide) (by decide)]

theorem txBytes_txLoaded (d : Dev) (n v : Nat) : txBytes (txLoaded d n v) n v = txBytes d n v := by
  have hdata : ∀ k, (txLoaded d n v).rd (Pg.PTP n) Reg.PTP.TX_DATA k = d.rd (Pg.PTP n) Reg.PTP.TX_DATA k := fun k => by
    refine rd_txLoaded _ _ _ _ (by decide) ?_
    simp only [Fld.at, Reg.PTP.TX_DATA]
    omega
  simp only [txBytes, hdata]

end Sys2Proof.Proofs


/-! PROOFS. PtpPorts: port times, the FIFOs and the transmitter (R356 to R358; log 106, 145 and 146). -/

namespace Sys2Proof.Proofs

open Machine Laws

/-! ### SET_CTRL -/

theorem setGo_runs {s : State} {f n v : Nat} (hf : f < 64) (hn : n < 2) (hv : v < 2 ^ 32)
    (h : Taken s.dev f (Pg.PTP n) 0x118 = true) :
    exec (.setGo f n v) s = .next (s.withDev (s.dev.portSet n v)) := by
  have hok : Instr.wellFormed (.setGo f n v) = true := by simp [Instr.wellFormed, hf, hn, word_fits hv]
  simp only [exec, execSetGo, hok]
  rw [runCmd_ok _ _ (taken_runs h), Dev.portSetWrite, checkedWrite_block _ h (by decide)]

theorem adjGo_runs {s : State} {f n v : Nat} (hf : f < 64) (hn : n < 2) (hv : v < 2 ^ 32)
    (h : Taken s.dev f (Pg.PTP n) 0x118 = true) :
    exec (.adjGo f n v) s = .next (s.withDev (s.dev.portSet n v)) := setGo_runs hf hn hv h

/-- SET_GO alone loads the port time. -/
theorem portSet_loads {d : Dev} {n v : Nat} (hset : bitAt v 0 = true) (hadj : bitAt v 1 = false) :
    d.portSet n v = d.setPort n { d.port n with time :=
      ((d.rd64 (Pg.PTP n) Reg.PTP.SET_SEC_LO Reg.PTP.SET_SEC_HI * 10 ^ 9 + d.rd (Pg.PTP n) Reg.PTP.SET_NS) * 2 ^ 32)
        % portWrap } := by
  simp only [Dev.portSet, hset, hadj, if_true, Bool.false_eq_true, if_false]

/-- ADJ_GO alone moves the port time. -/
theorem portSet_adjusts {d : Dev} {n v : Nat} (hset : bitAt v 0 = false) (hadj : bitAt v 1 = true) :
    d.portSet n v = d.portMove n (sgn 64 (d.rd64 (Pg.PTP n) Reg.PTP.ADJ_NS_LO Reg.PTP.ADJ_NS_HI) * 2 ^ 32 +
      (d.rd (Pg.PTP n) Reg.PTP.ADJ_FRAC : Nat)) := by
  simp only [Dev.portSet, hset, hadj, if_true, Bool.false_eq_true, if_false]

/-- A sum within the range of port time is the time after the move. -/
theorem time_portMove_of_range {d : Dev} {n : Nat} {x : Int} (hmin : 0 ≤ (d.port n).time + x)
    (hmax : (d.port n).time + x < portWrap) : (((d.portMove n x).port n).time : Int) = (d.port n).time + x := by
  rw [time_portMove_same, Int.emod_eq_of_lt hmin hmax, Int.toNat_of_nonneg hmin]

/-! ### The FIFOs -/

theorem rxPop_runs {s : State} {f n v : Nat} (hf : f < 64) (hn : n < 2) (hv : v < 2 ^ 32)
    (h : Taken s.dev f (Pg.PTP n) 0x150 = true) (hpop : bitAt v 0 = true) :
    exec (.rxPop f n v) s =
      .next (s.withDev (s.dev.setPort n { s.dev.port n with rx := (s.dev.port n).rx.drop 1 })) := by
  have hok : Instr.wellFormed (.rxPop f n v) = true := by simp [Instr.wellFormed, hf, hn, word_fits hv]
  simp only [exec, execRxPop, hok]
  rw [runCmd_ok _ _ (taken_runs h), Dev.ptpPop, checkedWrite_block _ h (by decide), if_pos hpop]

theorem tsPop_runs {s : State} {f n v : Nat} (hf : f < 64) (hn : n < 2) (hv : v < 2 ^ 32)
    (h : Taken s.dev f (Pg.PTP n) 0x174 = true) (hpop : bitAt v 0 = true) :
    exec (.tsPop f n v) s =
      .next (s.withDev (s.dev.setPort n { s.dev.port n with ts := (s.dev.port n).ts.drop 1 })) := by
  have hok : Instr.wellFormed (.tsPop f n v) = true := by simp [Instr.wellFormed, hf, hn, word_fits hv]
  simp only [exec, execTsPop, hok]
  rw [runCmd_ok _ _ (taken_runs h), Dev.ptpTsPop, checkedWrite_block _ h (by decide), if_pos hpop]

/-! ### The transmitter -/

/-- A taken write of TX_CTRL (R37, R358). -/
theorem txGo_runs {s : State} {f n v : Nat} (hf : f < 64) (hn : n < 2) (hv : v < 2 ^ 32)
    (h : Taken s.dev f (Pg.PTP n) 0x160 = true) :
    exec (.txGo f n v) s = .next (s.withDev (
      if !bitAt v 31 ∨ (s.dev.port n).tx.isSome then txLoaded s.dev n v
      else if s.dev.on (Pg.PTP n) Reg.HDR.EN then
        (txLoaded s.dev n v).ptpBegin n (bits v 12 2) (bits v 16 8) (txBytes s.dev n v)
      else (txLoaded s.dev n v).setPort n
        { s.dev.port n with tx := some (bits v 12 2, bits v 16 8, 0), held := some (txBytes s.dev n v) })) := by
  have hok : Instr.wellFormed (.txGo f n v) = true := by simp [Instr.wellFormed, hf, hn, word_fits hv]
  simp only [exec, execTxGo, hok]
  rw [runCmd_ok _ _ (taken_runs h), Dev.ptpSend, checkedWrite_block _ h (by decide), ← txLoaded_en _ _ v,
    ← txBytes_txLoaded]
  rfl

/-- GO on an idle transmitter sends the frame, or holds it while the page is disabled (R37, R358; log 106). -/
theorem txGo_idle {s : State} {f n v : Nat} (hf : f < 64) (hn : n < 2) (hv : v < 2 ^ 32)
    (h : Taken s.dev f (Pg.PTP n) 0x160 = true) (hgo : bitAt v 31 = true) (hidle : (s.dev.port n).tx = none) :
    exec (.txGo f n v) s = .next (s.withDev (
      if s.dev.on (Pg.PTP n) Reg.HDR.EN then
        (txLoaded s.dev n v).ptpBegin n (bits v 12 2) (bits v 16 8) (txBytes s.dev n v)
      else (txLoaded s.dev n v).setPort n
        { s.dev.port n with tx := some (bits v 12 2, bits v 16 8, 0), held := some (txBytes s.dev n v) })) := by
  rw [txGo_runs hf hn hv h, if_neg (by simp [hgo, hidle])]

theorem txGo_busy {s : State} {f n v : Nat} (hf : f < 64) (hn : n < 2) (hv : v < 2 ^ 32)
    (h : Taken s.dev f (Pg.PTP n) 0x160 = true) (hbusy : (s.dev.port n).tx ≠ none) :
    exec (.txGo f n v) s = .next (s.withDev (txLoaded s.dev n v)) := by
  rw [txGo_runs hf hn hv h, if_pos (.inr (Option.isSome_iff_ne_none.mpr hbusy))]

/-- The beginning of a frame leaves all but its page's registers, its port and what is sent. -/
theorem ptpBegin_still (d : Dev) (n v sub tag : Nat) (l : List Byte) :
    Still [Pg.PTP n] { d with tim := ((txLoaded d n v).ptpBegin n sub tag l).tim,
                              outs := ((txLoaded d n v).ptpBegin n sub tag l).outs } ((txLoaded d n v).ptpBegin n sub tag l) :=
  ⟨rfl, (txLoaded_still d n v).2⟩

theorem ptpBegin_sends (d : Dev) (n v sub tag : Nat) (l : List Byte) :
    (((txLoaded d n v).ptpBegin n sub tag l).port n).tx = some (sub, tag, (d.port n).time) ∧
      ((txLoaded d n v).ptpBegin n sub tag l).outs = Out.ptp n sub (withFcs l) :: d.outs :=
  ⟨congrArg PtpPort.tx (port_setPort_same (txLoaded d n v) n _), rfl⟩

/-- The frame has left: its egress timestamp, at an instant since its beginning, joins the FIFO (R357, R358; log 145). -/
theorem ptpSent_eq {d : Dev} {n sub tag since : Nat} (htx : (d.port n).tx = some (sub, tag, since))
    (hsince : since ≤ (d.port n).time) (htime : (d.port n).time < portWrap) (hheld : (d.port n).held = none)
    (hroom : (d.port n).ts.length < 16) :
    d.ptpSent n = (d.freeStep.setPort n { d.port n with
      tx := none,
      ts := (d.port n).ts ++ [(tag, portStamp (since + (Config.freeValue d.free).toNat % ((d.port n).time - since + 1))
        (sgn 16 (d.rd (Pg.PTP n) Reg.PTP.EGR_ASYM_PS)))] }).raise (Pg.PTP n) 1 := by
  have htook : ((d.port n).time + portWrap - since) % portWrap = (d.port n).time - since := by
    rw [Nat.sub_add_comm hsince, Nat.add_mod_right, Nat.mod_eq_of_lt (Nat.lt_of_le_of_lt (Nat.sub_le _ _) htime)]
  simp only [Dev.ptpSent, hheld, htx, Option.isSome_none, Bool.false_eq_true, if_false, htook, if_neg (Nat.not_le.mpr hroom)]

theorem ptpTxDone_runs {s : State} {n : Nat} (hn : n < 2) (hs : s.dev.stopped = false) :
    exec (.ptpTxDone n) s = .next (s.withDev (s.dev.ptpSent n)) := by
  have hok : Instr.wellFormed (.ptpTxDone n) = true := decide_eq_true hn
  simp only [exec, execPtpTxDone, hok]
  exact runCmd_ok _ s hs

/-! ### The receiver -/

theorem ptpRx_runs {s : State} {n sub : Nat} (fr : List Byte) (hn : n < 2) (hsub : sub < 4) (hs : s.dev.stopped = false)
    (hawake : s.dev.allAwake = true) :
    exec (.ptpRx n sub fr) s = .next (s.withDev (s.dev.ptpReceive n sub (s.dev.netOwn n sub) fr)) := by
  have hok : Instr.wellFormed (.ptpRx n sub fr) = true := by simp [Instr.wellFormed, hn, hsub]
  simp only [exec, execPtpRx, hok]
  rw [runCmd_ok _ s hs, work_awake _ _ hawake]

/-- A PTP frame that finds room joins the FIFO (R357, R358). -/
theorem ptpReceive_room {d : Dev} {n sub : Nat} {own : List (List Byte)} {fr : List Byte} (hptp : isPtp own fr = true)
    (hroom : (d.port n).rx.length < 64) :
    d.ptpReceive n sub own fr = (Dev.setPort { d with pow := { d.pow with ptpSeen := Assoc.put d.pow.ptpSeen n d.ns } } n
      { d.port n with rx := (d.port n).rx ++ [⟨sub, portStamp (d.port n).time
        (-sgn 16 (d.rd (Pg.PTP n) Reg.PTP.ING_ASYM_PS)), fr⟩] }).raise (Pg.PTP n) 0 := by
  simp only [Dev.ptpReceive, hptp, Bool.not_true, Bool.false_eq_true, if_false, if_neg (Nat.not_le.mpr hroom)]
  rfl

theorem ptpReceive_full {d : Dev} {n sub : Nat} {own : List (List Byte)} {fr : List Byte} (hptp : isPtp own fr = true)
    (hfull : 64 ≤ (d.port n).rx.length) : d.ptpReceive n sub own fr = d.ptpOverflow n := by
  simp only [Dev.ptpReceive, hptp, Bool.not_true, Bool.false_eq_true, if_false, if_pos hfull]

/-- Overflow counts, may warn, and raises bit 2; the FIFO stays (R358). -/
theorem ptpOverflow_spec (d : Dev) (n : Nat) :
    TimFramed [Pg.PTP n] d (d.ptpOverflow n) ∧ ((d.ptpOverflow n).port n).rx = (d.port n).rx ∧
      bitAt ((d.ptpOverflow n).rd (Pg.PTP n) Reg.HDR.INT_STAT) 2 = true := by
  have hcount : Framed [Pg.PTP n] d (d.bump (Pg.PTP n) Reg.PTP.RX_OVF_CNT) := bump_frame _ _ _ (by decide) (by simp)
  unfold Dev.ptpOverflow
  extract_lets counted x warned
  have hwarned : TimFramed [Pg.PTP n] counted warned ∧ (warned.port n).rx = (counted.port n).rx := by
    unfold warned
    split
    · exact ⟨(setPort_timFramed _ _ _ _).trans (.of_framed (event_frame _ _ _ _ _ _ _ _)),
        by rw [port_event, port_setPort_same]⟩
    · exact ⟨.of_framed (frame_refl _ _), rfl⟩
  obtain ⟨hframe, hrx⟩ := hwarned
  refine ⟨((TimFramed.of_framed hcount).trans hframe).trans (.of_framed (raise_frame _ _ _ (by simp))), ?_,
    intStat_raise _ _ (by decide)⟩
  rw [port_raise, hrx]
  rfl

/-- Settles O18: each write reaches the port as its meaning says, and the events of the two FIFOs add an entry or count an
overflow. -/
theorem ptpPorts : Obligations.PtpPorts := by
  unfold Obligations.PtpPorts
  refine ⟨?set, ?adjust, ?popFrame, ?popStamp, ?send, ?hold, ?busy, ?sent, ?received, ?overflow⟩
  case set =>
    intro s f n v hf hn hv h hset hadj hrange
    refine ⟨_, setGo_runs hf hn hv h, ?_⟩
    rw [withDev_dev, portSet_loads hset hadj, Nat.mod_eq_of_lt hrange]
    exact ⟨setPort_still _ _ _, time_setPort _ _ _, setPort_tb _ _ _⟩
  case adjust =>
    intro s f n v hf hn hv h hset hadj hmin hmax
    refine ⟨_, adjGo_runs hf hn hv h, ?_⟩
    rw [withDev_dev, portSet_adjusts hset hadj]
    exact ⟨setPort_still _ _ _, time_portMove_of_range hmin hmax⟩
  case popFrame =>
    intro s f n v hf hn hv h hpop
    exact ⟨_, rxPop_runs hf hn hv h hpop, setPort_still _ _ _, by rw [withDev_dev, port_setPort_same]⟩
  case popStamp =>
    intro s f n v hf hn hv h hpop
    exact ⟨_, tsPop_runs hf hn hv h hpop, setPort_still _ _ _, by rw [withDev_dev, port_setPort_same]⟩
  case send =>
    intro s f n v hf hn hv h hgo hidle hen
    refine ⟨_, txGo_idle hf hn hv h hgo hidle, ?_⟩
    rw [withDev_dev, if_pos hen]
    exact ⟨ptpBegin_still _ _ _ _ _ _, ptpBegin_sends _ _ _ _ _ (txBytes s.dev n v)⟩
  case hold =>
    intro s f n v hf hn hv h hgo hidle hen
    refine ⟨_, txGo_idle hf hn hv h hgo hidle, ?_⟩
    rw [withDev_dev, if_neg (ne_true_of_eq_false hen), port_setPort_same]
    exact ⟨⟨rfl, (txLoaded_still _ _ _).2⟩, rfl, rfl, rfl⟩
  case busy =>
    intro s f n v hf hn hv h hbusy
    exact ⟨_, txGo_busy hf hn hv h hbusy, txLoaded_still _ _ _, rfl⟩
  case sent =>
    intro s n sub tag since hn hs htx hsince htime hheld hroom
    refine ⟨_, ptpTxDone_runs hn hs, ?_⟩
    rw [withDev_dev, ptpSent_eq htx hsince htime hheld hroom, port_raise, port_setPort_same]
    exact ⟨(TimFramed.of_framed (freeStep_frame _ _)).trans (setPort_raise_timFramed _ _ _ _), rfl, rfl,
      intStat_raise _ _ (by decide)⟩
  case received =>
    intro s n sub fr hn hsub hs hawake hptp hroom
    refine ⟨_, ptpRx_runs fr hn hsub hs hawake, ?_⟩
    rw [withDev_dev, ptpReceive_room hptp hroom, port_raise, port_setPort_same]
    exact ⟨(setPort_raise_timFramed _ _ _ _).but_pow, rfl, intStat_raise _ _ (by decide)⟩
  case overflow =>
    intro s n sub fr hn hsub hs hawake hptp hfull
    refine ⟨_, ptpRx_runs fr hn hsub hs hawake, ?_⟩
    rw [withDev_dev, ptpReceive_full hptp hfull]
    exact ptpOverflow_spec s.dev n

end Sys2Proof.Proofs

/-! PROOFS. TickFrame: what a tick counts and sends beside the time (R27, R113, R123 to R125, R348). -/

namespace Sys2Proof.Proofs

open Machine Laws

/-- `t` is `d` but for registers that count or report time, the spans in which blocks were busy, Head Link transmitters, PRBS
checkers, what the lanes send, and the count of free values. -/
structure Counts (d t : Dev) : Prop where
  rest : { d with regs := t.regs, free := t.free, outs := t.outs, cap := t.cap, pip := t.pip } = t
  regs : t.regsBut Pg.counting = d.regsBut Pg.counting
  outs : ∃ l, t.outs = l ++ d.outs
  cap : { t.cap with groups := d.cap.groups, prbs := d.cap.prbs, prbsGen := d.cap.prbsGen } = d.cap
  pip : { t.pip with spans := d.pip.spans } = d.pip

theorem Counts.refl (d : Dev) : Counts d d := ⟨rfl, rfl, ⟨[], rfl⟩, rfl, rfl⟩

theorem Counts.trans {d t u : Dev} (h : Counts d t) (k : Counts t u) : Counts d u := by
  obtain ⟨l, hl⟩ := h.outs
  obtain ⟨m, hm⟩ := k.outs
  refine ⟨?_, k.regs.trans h.regs, ⟨m ++ l, by rw [hm, hl, List.append_assoc]⟩,
    (congrArg (fun c : CaptureSt => { c with groups := d.cap.groups, prbs := d.cap.prbs, prbsGen := d.cap.prbsGen })
      k.cap).trans h.cap,
    (congrArg (fun p : PipeSt => { p with spans := d.pip.spans }) k.pip).trans h.pip⟩
  have a := h.rest
  have b := k.rest
  rw [← a] at b
  exact b

theorem Counts.foldl {α : Type} {f : Dev → α → Dev} (l : List α) (hf : ∀ d, ∀ a ∈ l, Counts d (f d a)) (d : Dev) :
    Counts d (l.foldl f d) := by
  induction l generalizing d with
  | nil => exact .refl d
  | cons a r ih =>
    exact (hf d a List.mem_cons_self).trans (ih (fun d b hb => hf d b (List.mem_cons_of_mem _ hb)) _)

theorem Counts.of_still {pgs : List Page} {d t : Dev} (h : Still pgs d t) (hpgs : pgs ⊆ Pg.counting) : Counts d t := by
  obtain ⟨hrest, hregs⟩ := h
  have hregs := regsBut_mono hpgs hregs
  rw [← hrest] at hregs ⊢
  exact ⟨rfl, hregs, ⟨[], rfl⟩, rfl, rfl⟩

theorem wr_counts (d : Dev) {pg : Page} {F : Fld} (v i : Nat) (hF : fits F = true) (hpg : pg ∈ Pg.counting) :
    Counts d (d.wr pg F v i) := .of_still (wr_still d v i 0 hF hpg) (List.Subset.refl _)

theorem emit_counts (d : Dev) (o : Out) : Counts d (d.emit o) := ⟨rfl, rfl, ⟨[o], rfl⟩, rfl, rfl⟩

theorem setGroup_counts (d : Dev) (g : Nat) (x : Group) : Counts d (d.setGroup g x) := ⟨rfl, rfl, ⟨[], rfl⟩, rfl, rfl⟩

theorem prbsGen_counts (d : Dev) (l : List (Nat × Nat)) : Counts d { d with cap := { d.cap with prbsGen := l } } :=
  ⟨rfl, rfl, ⟨[], rfl⟩, rfl, rfl⟩

theorem prbs_counts (d : Dev) (l : List (Nat × Checker)) : Counts d { d with cap := { d.cap with prbs := l } } :=
  ⟨rfl, rfl, ⟨[], rfl⟩, rfl, rfl⟩

theorem spans_counts (d : Dev) (l : List (Nat × List (Nat × Nat))) :
    Counts d { d with pip := { d.pip with spans := l } } := ⟨rfl, rfl, ⟨[], rfl⟩, rfl, rfl⟩

theorem free_counts (d : Dev) (n : Nat) : Counts d { d with free := n } := ⟨rfl, rfl, ⟨[], rfl⟩, rfl, rfl⟩

/-! ### Pages that count -/

theorem quad_counting (lane : Nat) : (quad lane).1 ∈ Pg.counting := List.mem_append_right _ (quad_mem lane)

theorem setPage_counting (x : Nat) : (setAt x).1 ∈ Pg.counting := by
  have k : ∀ m < 2, 0x91 + m ∈ Pg.counting := by decide
  exact k _ (Nat.mod_lt _ (by decide))

theorem spine_counting (n : Nat) : Pg.SPN n ∈ Pg.counting := by
  have k : ∀ m < 4, 0x0C + m ∈ Pg.counting := by decide
  exact k _ (Nat.mod_lt _ (by decide))

theorem tallies_counting : ∀ e ∈ tallies, fits e.2 = true ∧ e.1 ∈ Pg.counting := by decide

/-! ### The lanes send -/

theorem drive_counts (d : Dev) (phys : Nat) (bs : List Bool) : Counts d (d.drive phys bs) := emit_counts _ _

/-- A checker takes the bits of its own lane's generator in near-end loopback (R123, R124). -/
theorem prbsReceive_counts (d : Dev) (phys : Nat) (bs : List Bool) : Counts d (d.prbsReceive phys bs) := by
  by_cases hcode : d.lane phys Reg.HLQ.PRBS_CHK = 0 ∨ 5 ≤ d.lane phys Reg.HLQ.PRBS_CHK
  · rw [Dev.prbsReceive, if_pos hcode]
    exact .refl d
  · rcases hrun : bs.foldl (checkBit (d.lane phys Reg.HLQ.PRBS_CHK)) ((Assoc.find d.cap.prbs phys).getD {}, 0, 0, 0)
      with ⟨c, n, e, l⟩
    rw [prbsReceive_eq hcode hrun]
    exact (prbs_counts d _).trans
      (.of_still (countPrbs_still _ _ _ _ _ _) (by simpa using quad_counting phys))

theorem sendPrbs_counts (d : Dev) (g l : Nat) : Counts d (d.sendPrbs g l) := by
  have sent : ∀ (x : Dev) (h : List (Nat × Nat)) (bs : List Bool), Counts x
      (if bs = [] then { x with cap := { x.cap with prbsGen := h } }
        else Dev.drive { x with cap := { x.cap with prbsGen := h } } (d.physOf l) bs) := fun x h bs => by
    split
    · exact prbsGen_counts _ _
    · exact (prbsGen_counts _ _).trans (drive_counts _ _ _)
  have looped : ∀ (x : Dev) (bs : List Bool), Counts x
      (if x.lane (d.physOf l) Reg.HLQ.LOOPBACK ∈ [1, 2] then x.prbsReceive (d.physOf l) bs else x) := fun x bs => by
    split
    · exact prbsReceive_counts _ _ _
    · exact .refl x
  unfold Dev.sendPrbs
  extract_lets p code
  split
  · exact prbsGen_counts _ _
  · cases Assoc.find d.cap.prbsGen p with
    | some h => exact (sent d _ _).trans (looped _ _)
    | none => exact ((free_counts d _).trans (sent _ _ _)).trans (looped _ _)

theorem sendGathering_counts (d : Dev) (g : Nat) : Counts d (d.sendGathering g) := by
  unfold Dev.sendGathering
  extract_lets
  exact (setGroup_counts _ _ _).trans (.foldl _ (fun d _ _ => .foldl _ (fun d _ _ => drive_counts _ _ _) d) _)

theorem groupTick_counts (d : Dev) (g : Nat) : Counts d (d.groupTick g) := by
  unfold Dev.groupTick
  extract_lets st r
  split
  · exact .refl d
  · split
    · exact .foldl _ (fun d _ _ => sendPrbs_counts _ _ _) d
    · split
      · exact .refl d
      · exact sendGathering_counts _ _

theorem linesTick_counts (d : Dev) : Counts d d.linesTick := .foldl _ (fun d g _ => groupTick_counts d g) d

/-! ### The counts grow -/

theorem tally_counts (d : Dev) : Counts d d.tally := by
  unfold Dev.tally
  extract_lets v events waits rebuilds
  have hevents : Counts d events := .foldl _ (fun t e he => by
    obtain ⟨hF, hpg⟩ := tallies_counting _ (List.fst_mem_of_mem_zipIdx he)
    exact wr_counts t _ _ hF hpg) d
  have hwaits : Counts events waits :=
    .foldl _ (fun t n _ => wr_counts t _ _ (by decide) (spine_counting n)) _
  have hrebuilds : Counts waits rebuilds := .foldl _ (fun t x _ => by
    split
    · exact wr_counts t _ _ (by decide) (setPage_counting x)
    · exact .refl t) _
  exact ((hevents.trans hwaits).trans hrebuilds).trans (free_counts _ _)

theorem meter_counts (d : Dev) : Counts d d.meter :=
  .foldl _ (fun d pg _ => by
    split
    · exact spans_counts _ _
    · exact .refl d) d

/-- The end of the pause in fetching shows in the registers of firmware management (R348). -/
theorem seamDue_counts (d : Dev) : Counts d d.seamDue := by
  unfold Dev.seamDue
  split
  · split
    · unfold Dev.seamOver
      split
      · exact .refl d
      · exact (wr_counts _ _ _ (by decide) (by decide)).trans (wr_counts _ _ _ (by decide) (by decide))
    · exact .refl d
  · exact .refl d

end Sys2Proof.Proofs

/-! PROOFS. IdleTicks: the Timebase and the port times over any number of ticks (R350, R356; log 3). -/

namespace Sys2Proof.Proofs

open Machine Laws

/-- INCR, in 2^-32 ns (R350). -/
def incrOf (d : Dev) : Nat := d.rd64 Pg.TMB Reg.TMB.INCR_LO Reg.TMB.INCR_HI

theorem incrOf_of_regsBut {d t : Dev} (h : t.regsBut Pg.counting = d.regsBut Pg.counting) : incrOf t = incrOf d := by
  simp only [incrOf, Dev.rd64, rd_regsBut _ _ (by decide : fits Reg.TMB.INCR_LO = true) (by decide : Pg.TMB ∉ Pg.counting) h,
    rd_regsBut _ _ (by decide : fits Reg.TMB.INCR_HI = true) (by decide : Pg.TMB ∉ Pg.counting) h]

/-! ### One tick -/

/-- A tick's part in time: the counts of elapsed and powered ticks, the Timebase and the port times (R350, R356). -/
def timeMoved (d : Dev) : Dev :=
  (({ d with elapsed := d.elapsed + 1, tb := d.tb + BitVec.ofNat 96 (incrOf d),
             jnl := { d.jnl with powered := d.jnl.powered + 1 } } : Dev).portMove 0 (incrOf d)).portMove 1 (incrOf d)

theorem time_timeMoved (d : Dev) {p : Nat} (hp : p < 2) :
    ((timeMoved d).port p).time = ((d.port p).time + incrOf d) % portWrap := by
  obtain rfl | rfl : p = 0 ∨ p = 1 := by omega
  · rw [timeMoved, port_portMove_ne _ _ (by decide), time_portMove_nat]
    rfl
  · rw [timeMoved, time_portMove_nat, port_portMove_ne _ _ (by decide)]
    rfl

theorem tick_of_stopped {d : Dev} (h : d.stopped = true) : d.tick = { d with elapsed := d.elapsed + 1 } := if_pos h

/-- While clocks run and no step waits, a tick moves the time and then counts and sends. -/
theorem tick_counts {d : Dev} (hrun : d.stopped = false) (hstep : d.tim.step = none) : Counts (timeMoved d) d.tick := by
  have hrun' : ({ d with elapsed := d.elapsed + 1 } : Dev).stopped = false := hrun
  have hdue : (timeMoved d).stepDue = timeMoved d := by
    have hnone : (timeMoved d).tim.step = none := hstep
    simp only [Dev.stepDue, hnone]
  have htick : d.tick = (timeMoved d).stepDue.seamDue.meter.tally.linesTick := by
    rw [Dev.tick, if_neg (ne_true_of_eq_false hrun')]
    rfl
  rw [htick, hdue]
  exact (((seamDue_counts _).trans (meter_counts _)).trans (tally_counts _)).trans (linesTick_counts _)

/-! ### Any number of ticks -/

/-- What `n` ticks make of `d` while clocks run and no step waits. -/
structure Idled (n : Nat) (d e : Dev) : Prop where
  tb : e.tb = d.tb + BitVec.ofNat 96 (n * incrOf d)
  ports : ∀ p < 2, (e.port p).time % portWrap = ((d.port p).time + n * incrOf d) % portWrap
  rest : { d with tb := e.tb, elapsed := d.elapsed + n, regs := e.regs, free := e.free, outs := e.outs, cap := e.cap,
                  pip := e.pip, tim := e.tim, jnl := { d.jnl with powered := d.jnl.powered + n } } = e
  regs : e.regsBut Pg.counting = d.regsBut Pg.counting
  outs : ∃ l, e.outs = l ++ d.outs
  cap : { e.cap with groups := d.cap.groups, prbs := d.cap.prbs, prbsGen := d.cap.prbsGen } = d.cap
  pip : { e.pip with spans := d.pip.spans } = d.pip
  tim : { e.tim with ports := d.tim.ports } = d.tim

theorem Idled.zero (d : Dev) : Idled 0 d d :=
  ⟨by simp, fun p _ => by rw [Nat.zero_mul, Nat.add_zero], rfl, rfl, ⟨[], rfl⟩, rfl, rfl, rfl⟩

theorem Idled.trans {m n : Nat} {d t e : Dev} (h : Idled m d t) (k : Idled n t e) : Idled (m + n) d e := by
  have hincr := incrOf_of_regsBut h.regs
  obtain ⟨l, hl⟩ := h.outs
  obtain ⟨r, hr⟩ := k.outs
  refine ⟨?tb, fun p hp => ?ports, ?rest, k.regs.trans h.regs, ⟨r ++ l, by rw [hr, hl, List.append_assoc]⟩,
    (congrArg (fun c : CaptureSt => { c with groups := d.cap.groups, prbs := d.cap.prbs, prbsGen := d.cap.prbsGen })
      k.cap).trans h.cap,
    (congrArg (fun p : PipeSt => { p with spans := d.pip.spans }) k.pip).trans h.pip,
    (congrArg (fun x : TimeSt => { x with ports := d.tim.ports }) k.tim).trans h.tim⟩
  case tb => rw [k.tb, h.tb, hincr, BitVec.add_assoc, ← BitVec.ofNat_add, Nat.add_mul]
  case ports =>
    rw [k.ports p hp, hincr, Nat.add_mod, h.ports p hp, ← Nat.add_mod, Nat.add_assoc, Nat.add_mul]
  case rest =>
    have a := h.rest
    have b := k.rest
    rw [← a] at b
    simp only [Nat.add_assoc] at b
    exact b

theorem tick_idled {d : Dev} (hrun : d.stopped = false) (hstep : d.tim.step = none) : Idled 1 d d.tick := by
  have hcounts := tick_counts hrun hstep
  generalize d.tick = e at hcounts ⊢
  obtain ⟨hrest, hregs, houts, hcap, hpip⟩ := hcounts
  refine ⟨?_, fun p hp => ?_, ?_, hregs, houts, hcap, hpip, ?_⟩
  · rw [← hrest, Nat.one_mul]
    rfl
  · have hport : e.port p = (timeMoved d).port p := by rw [← hrest]; rfl
    rw [hport, time_timeMoved d hp, Nat.mod_mod, Nat.one_mul]
  · rw [← hrest]
    rfl
  · rw [← hrest]
    rfl

theorem Idled.stopped {n : Nat} {d e : Dev} (h : Idled n d e) : e.stopped = d.stopped := by
  rw [← h.rest]
  rfl

theorem Idled.step {n : Nat} {d e : Dev} (h : Idled n d e) : e.tim.step = d.tim.step := by
  rw [← h.tim]

/-- On an empty queue each step is one tick (log 3). -/
theorem run_idled (n : Nat) {d : Dev} (hrun : d.stopped = false) (hstep : d.tim.step = none) :
    ∃ e, Host.Core.run core n { pending := [], dev := d } = .next { pending := [], dev := e } ∧ Idled n d e := by
  induction n generalizing d with
  | zero => exact ⟨d, rfl, .zero d⟩
  | succ n ih =>
    have hone := tick_idled hrun hstep
    obtain ⟨e, he, hidled⟩ := ih (hone.stopped.trans hrun) (hone.step.trans hstep)
    exact ⟨e, (run_next n (step_empty d)).trans he, Nat.add_comm n 1 ▸ hone.trans hidled⟩

theorem run_stopped (n : Nat) {d : Dev} (h : d.stopped = true) :
    Host.Core.run core n { pending := [], dev := d } =
      .next { pending := [], dev := { d with elapsed := d.elapsed + n } } := by
  induction n generalizing d with
  | zero => rfl
  | succ n ih =>
    have hstill : ({ d with elapsed := d.elapsed + 1 } : Dev).stopped = true := h
    rw [run_next n (step_empty d), tick_of_stopped h, ih hstill, Nat.add_assoc, Nat.add_comm 1 n]

/-- Settles O55: a tick moves the time by INCR, which no tick writes, and what it counts and sends lies beside the time; so
for any number of ticks. -/
theorem idleTicks : Obligations.IdleTicks := by
  unfold Obligations.IdleTicks
  refine ⟨fun n d hrun hstep => ?_, fun n d => run_stopped n⟩
  obtain ⟨e, he, htb, hports, hrest, hregs, houts, hcap, hpip, htim⟩ := run_idled n hrun hstep
  exact ⟨e, he, htb, hports, hrest, hregs, houts, hcap, hpip, htim⟩

end Sys2Proof.Proofs

/-! PROOFS. Tripped: a tripped device hears nothing but power-on (R396, R27). -/

namespace Sys2Proof.Proofs

open Machine Laws

/-! ### What reaches a device without clocks changes nothing once it has tripped -/

theorem stopped_of_tripped {d : Dev} (h : d.pow.tripped = true) : d.stopped = true := by
  simp [Dev.stopped, h]

theorem hears_of_tripped {d : Dev} (h : d.pow.tripped = true) : d.hears = false := by
  simp [Dev.hears, h]

theorem shutdown_of_tripped {d : Dev} (crc ms : Nat) (h : d.pow.tripped = true) : d.shutdown crc ms = d := by
  simp [Dev.shutdown, hears_of_tripped h]

theorem perstLow_of_tripped {d : Dev} (h : d.pow.tripped = true) : d.perstLow = d := by
  simp [Dev.perstLow, hears_of_tripped h]

theorem perstHigh_of_tripped {d : Dev} (sel : Nat) (h : d.pow.tripped = true) : d.perstHigh sel = d := by
  simp [Dev.perstHigh, hears_of_tripped h]

theorem powerFails_of_tripped {d : Dev} (h : d.pow.tripped = true) : d.powerFails = d := by
  simp [Dev.powerFails, hears_of_tripped h]

theorem powerFailEnds_of_tripped {d : Dev} (h : d.pow.tripped = true) : d.powerFailEnds = d := by
  simp [Dev.powerFailEnds, hears_of_tripped h]

theorem pllLoss_of_tripped {d : Dev} (n k : Nat) (h : d.pow.tripped = true) : d.pllLoss n k = d := by
  simp [Dev.pllLoss, h]

/-! ### What a command leaves -/

/-- Still tripped, and the same but for the record of which supplies and PLLs are good. -/
structure TripKept (d e : Dev) : Prop where
  tripped : e.pow.tripped = true
  rest : { d with pow := e.pow } = e

theorem TripKept.of_eq {d e : Dev} (h : d.pow.tripped = true) (he : e = d) : TripKept d e := by
  subst he
  exact ⟨h, rfl⟩

theorem powerOff_keepsTrip {d : Dev} (brown : Bool) (h : d.pow.tripped = true) : TripKept d (d.powerOff brown) := by
  unfold Dev.powerOff
  split
  · exact .of_eq h rfl
  · exact ⟨h, rfl⟩

theorem pllRelock_keepsTrip {d : Dev} (n k : Nat) (h : d.pow.tripped = true) : TripKept d (d.pllRelock n k) := ⟨h, rfl⟩

/-- A command that reaches a device without clocks makes its change, or none (log 8). -/
theorem runAlways_keepsTrip {ok : Bool} (f : Dev → Dev) {s : State} (h : s.dev.pow.tripped = true)
    (hf : TripKept s.dev (f s.dev)) : ∃ e, runAlways ok f s = .next (s.withDev e) ∧ TripKept s.dev e := by
  cases ok with
  | false => exact ⟨s.dev, rfl, .of_eq h rfl⟩
  | true => exact ⟨f s.dev, rfl, hf⟩

/-- Of the commands that reach a device without clocks, power-on alone leaves the tripped state (R396). -/
theorem exec_keepsTrip (c : Instr) {s : State} (h : s.dev.pow.tripped = true)
    (hc : ∀ sel perst damaged repaired, c ≠ .pwrOkRise sel perst damaged repaired) :
    ∃ e, exec c s = .next (s.withDev e) ∧ TripKept s.dev e := by
  cases halways : c.always with
  | false => exact ⟨s.dev, exec_of_stopped c (stopped_of_tripped h) halways, .of_eq h rfl⟩
  | true =>
    unfold Instr.always at halways
    split at halways
    case h_1 crc ms => exact runAlways_keepsTrip (·.shutdown crc ms) h (.of_eq h (shutdown_of_tripped crc ms h))
    case h_2 sel perst damaged repaired => exact absurd rfl (hc sel perst damaged repaired)
    case h_3 n k => exact runAlways_keepsTrip (·.pllLoss n k) h (.of_eq h (pllLoss_of_tripped n k h))
    case h_4 n k => exact runAlways_keepsTrip (·.pllRelock n k) h (pllRelock_keepsTrip n k h)
    case h_5 sel => exact runAlways_keepsTrip (·.perstHigh sel) h (.of_eq h (perstHigh_of_tripped sel h))
    case h_6 => exact runAlways_keepsTrip (·.perstLow) h (.of_eq h (perstLow_of_tripped h))
    case h_7 => exact runAlways_keepsTrip (·.powerFails) h (.of_eq h (powerFails_of_tripped h))
    case h_8 => exact runAlways_keepsTrip (·.powerOff false) h (powerOff_keepsTrip false h)
    case h_9 => exact runAlways_keepsTrip (·.powerOff true) h (powerOff_keepsTrip true h)
    case h_10 => exact runAlways_keepsTrip (·.powerFailEnds) h (.of_eq h (powerFailEnds_of_tripped h))
    case h_11 => exact absurd halways Bool.false_ne_true

/-! ### What any number of steps leaves -/

/-- As `TripKept`, but for the count of elapsed ticks. -/
structure TripLasts (d e : Dev) : Prop where
  tripped : e.pow.tripped = true
  rest : { d with pow := e.pow, elapsed := e.elapsed } = e

theorem TripLasts.trans {d e f : Dev} (h : TripLasts d e) (k : TripLasts e f) : TripLasts d f := by
  refine ⟨k.tripped, ?_⟩
  have hrest := k.rest
  rw [← h.rest] at hrest
  exact hrest

theorem TripKept.lasts {d e : Dev} (h : TripKept d e) : TripLasts d e :=
  ⟨h.tripped, congrArg (fun x : Dev => { x with elapsed := e.elapsed }) h.rest⟩

theorem tick_tripLasts {d : Dev} (h : d.pow.tripped = true) : TripLasts d d.tick := by
  rw [tick_of_stopped (stopped_of_tripped h)]
  exact ⟨h, rfl⟩

/-- No power-on waits. -/
def NoPowerOn (q : List Instr) : Prop :=
  ∀ c ∈ q, ∀ sel perst damaged repaired, c ≠ .pwrOkRise sel perst damaged repaired

theorem step_tripLasts {s : State} (h : s.dev.pow.tripped = true) (hq : NoPowerOn s.pending) :
    ∃ t, step s = .next t ∧ t.pending = s.pending.drop 1 ∧ TripLasts s.dev t.dev := by
  obtain ⟨q, d⟩ := s
  cases q with
  | nil => exact ⟨_, step_empty d, rfl, tick_tripLasts h⟩
  | cons c rest =>
    obtain ⟨e, he, hkept⟩ := exec_keepsTrip c (s := { pending := rest, dev := d }) h (hq c List.mem_cons_self)
    exact ⟨_, (step_front c rest d).trans he, rfl, hkept.lasts⟩

theorem run_tripLasts (n : Nat) {s : State} (h : s.dev.pow.tripped = true) (hq : NoPowerOn s.pending) :
    ∃ t, Host.Core.run core n s = .next t ∧ t.pending = s.pending.drop n ∧ TripLasts s.dev t.dev := by
  induction n generalizing s with
  | zero => exact ⟨s, rfl, rfl, h, rfl⟩
  | succ n ih =>
    obtain ⟨t, ht, hdrop, hlasts⟩ := step_tripLasts h hq
    obtain ⟨u, hu, hrest, hlater⟩ := ih hlasts.tripped fun c hc => hq c (List.mem_of_mem_drop (hdrop ▸ hc))
    exact ⟨u, (run_next n ht).trans hu, by rw [hrest, hdrop, List.drop_drop, Nat.add_comm], hlasts.trans hlater⟩

/-- Settles O54: what reaches a device without clocks asks whether it has tripped, but for the record of supplies and PLLs,
and a tick of such a device counts itself alone; so for every step, by induction on their number. -/
theorem tripHolds : Obligations.TripHolds := by
  unfold Obligations.TripHolds
  refine ⟨fun c s h hc => ?_, fun n s h hq => ?_⟩
  · obtain ⟨e, he, hkept⟩ := exec_keepsTrip c h hc
    exact ⟨_, he, hkept.tripped, hkept.rest⟩
  · obtain ⟨t, ht, hdrop, hlasts⟩ := run_tripLasts n h hq
    exact ⟨t, ht, hdrop, hlasts.tripped, hlasts.rest⟩

end Sys2Proof.Proofs

/-! PROOFS. ThermalTrip: a reading that brings a trip, whatever the other sensors read (R386, R390, R396). -/

namespace Sys2Proof.Proofs

open Machine Laws

/-! ### The hottest sensor -/

/-- One more reading leaves the hottest, or takes its place. -/
theorem hottest_append (l : List (Int × Nat)) (e : Int × Nat) :
    ∃ m, hottest (l ++ [e]) = some m ∧ e.1 ≤ m.1 ∧ ∀ k, hottest l = some k → k.1 ≤ m.1 := by
  simp only [hottest, List.foldl_append, List.foldl_cons, List.foldl_nil]
  generalize List.foldl _ none l = before
  cases before with
  | none => exact ⟨e, rfl, Int.le_refl _, fun k hk => nomatch hk⟩
  | some k =>
    by_cases hlt : k.1 < e.1
    · exact ⟨e, if_pos hlt, Int.le_refl _, fun _ hk => Option.some.inj hk ▸ Int.le_of_lt hlt⟩
    · exact ⟨k, if_neg hlt, Int.not_lt.mp hlt, fun _ hk => Option.some.inj hk ▸ Int.le_refl _⟩

/-- No reading is above the hottest: the readings come from the end of the list, so the induction is over its reverse. -/
theorem hottest_reverse_of_mem {l : List (Int × Nat)} {e : Int × Nat} (h : e ∈ l) :
    ∃ m, hottest l.reverse = some m ∧ e.1 ≤ m.1 := by
  induction l with
  | nil => exact absurd h List.not_mem_nil
  | cons a r ih =>
    obtain ⟨m, hm, ha, hr⟩ := hottest_append r.reverse a
    refine ⟨m, (congrArg hottest List.reverse_cons).trans hm, ?_⟩
    rcases List.mem_cons.mp h with he | he
    · exact he ▸ ha
    · obtain ⟨k, hk, hle⟩ := ih he
      exact Int.le_trans hle (hr k hk)

theorem hottest_of_mem {l : List (Int × Nat)} {e : Int × Nat} (h : e ∈ l) : ∃ m, hottest l = some m ∧ e.1 ≤ m.1 := by
  have hrev := hottest_reverse_of_mem (List.mem_reverse.mpr h)
  rwa [List.reverse_reverse] at hrev

/-! ### A sample that trips -/

/-- The sensors' records after a sample (R386, R387). -/
def sampled (d : Dev) (l : List (Option Int)) : Dev :=
  { d with pow := { d.pow with sensors := (List.range 61).map fun i =>
    (i, (d.sensor i).sampled (d.sensed (sensorGroup i)) (l.getD i none)) } }

/-- What the trip is judged by: readings of the powered sensors that are not broken (R386, R396). -/
def judged (d : Dev) (l : List (Option Int)) : List (Int × Nat) :=
  ((List.range 61).filter fun i => d.sensed (sensorGroup i) && !d.brokenSensor i).map fun i =>
    ((l.getD i none).getD (d.reading i), i)

theorem mem_judged {d : Dev} {l : List (Option Int)} {i : Nat} {x : Int} (hi : i < 61) (hx : l[i]? = some (some x))
    (hsensed : d.sensed (sensorGroup i) = true) (hwhole : d.brokenSensor i = false) : (x, i) ∈ judged d l := by
  refine List.mem_map.mpr ⟨i, ?_, by simp [List.getD_eq_getElem?_getD, hx]⟩
  simp [hi, hsensed, hwhole]

theorem ite_eq_some {p : Prop} [Decidable p] {x y : Option Nat} (hx : ∃ c, x = some c) (hy : ∃ c, y = some c) :
    ∃ c, (if p then x else y) = some c := by
  split
  · exact hx
  · exact hy

/-- The fixed trip has no condition but the reading (R390). -/
theorem tripCause_of_fixed (d : Dev) {t : Int} (r : Option Int) (h : 16 * 140 ≤ t) : ∃ c, d.tripCause t r = some c := by
  unfold Dev.tripCause
  exact ite_eq_some ⟨0, rfl⟩ (ite_eq_some ⟨1, rfl⟩ ⟨2, if_pos h⟩)

/-- Rate of rise that the hottest reading is judged with (R389). -/
def riseOf (d : Dev) (m : Int × Nat) : Option Int := d.rise m.1 m.2 (d.earlier.map (·.1))

theorem sensorSample_trips {d : Dev} {l : List (Option Int)} {m : Int × Nat} (hm : hottest (judged d l) = some m)
    (hcause : ∀ r, ∃ c, d.tripCause m.1 r = some c) : ∃ record, d.sensorSample l = (sampled d l).trip record := by
  have hfirst : ∃ c, ((hottest (judged d l)).bind fun m =>
      ((sampled d l).tripCause m.1 (riseOf (sampled d l) m)).map fun c => (m, c)) = some (m, c) := by
    obtain ⟨c, hc⟩ := hcause (riseOf (sampled d l) m)
    exact ⟨c, by rw [hm]; exact congrArg (Option.map fun c => (m, c)) hc⟩
  obtain ⟨c, hc⟩ := hfirst
  unfold Dev.sensorSample
  dsimp only
  split
  case h_1 => exact ⟨_, rfl⟩
  case h_2 hnone => exact absurd (hc.symm.trans hnone) (Option.some_ne_none _)

/-- What a trip does (R396): THERM_TRIP_N goes low and no clock runs. -/
theorem trip_spec (d : Dev) (record : List Byte) :
    (d.trip record).pow.tripped = true ∧ (d.trip record).stopped = true ∧
      Out.pin PIN_THERM_TRIP_N 0 false ∈ (d.trip record).outs ∧ (d.trip record).regs = d.regs :=
  ⟨rfl, stopped_of_tripped rfl, List.mem_cons_self, rfl⟩

theorem sensorSample_runs {s : State} {l : List (Option Int)} (hl : l.length = 61) (hs : s.dev.stopped = false) :
    exec (.sensorSample l) s = .next (s.withDev (s.dev.sensorSample l)) :=
  runCmd_runs (fun d => d.sensorSample l) (decide_eq_true hl) hs

/-- Settles O59: the hottest sensor reads no less than the sensor at 140 °C, so the fixed trip has its cause where no other
threshold has. -/
theorem fixedTrip : Obligations.FixedTrip := by
  unfold Obligations.FixedTrip
  intro s l i x hl hruns hi hx hsensed hwhole hhot
  obtain ⟨m, hm, hle⟩ := hottest_of_mem (mem_judged hi hx hsensed hwhole)
  obtain ⟨record, htrip⟩ := sensorSample_trips hm fun r => tripCause_of_fixed s.dev r (Int.le_trans hhot hle)
  refine ⟨_, sensorSample_runs hl hruns, ?_⟩
  rw [withDev_dev, htrip]
  exact trip_spec (sampled s.dev l) record

end Sys2Proof.Proofs

/-! PROOFS. Shedding: a shed level that no part shows refutes the statement about throttling and shedding (R392, R398). -/

namespace Sys2Proof.Proofs

open Machine Laws

/-- Cool, with 9 for the shed level, in a field of three bits. -/
def overShed : State :=
  { dev := { brd := { stage := 6 }, regs := [(regKey Pg.THM Reg.THM.SHED_LEVEL 0 0, 9)] } }

/-- One level less, 8, is cut to the field. -/
theorem shedStep_of_overShed : ∃ t, exec .shedStep overShed = .next t ∧ t.dev.shed = 0 := ⟨_, rfl, by decide⟩

/-- Refutes O46: its clause on a shed level that falls does not say that the level lies in 0 to 4 (R392), nor that it fits its
field. Each write cuts its value to the field, so no part shows 9; but the clause speaks of every state, and in one that holds 9
there the level falls to 0 and not to 8. -/
theorem not_thermal : ¬ Obligations.Thermal := by
  unfold Obligations.Thermal
  rintro ⟨-, -, -, -, -, -, falls, -⟩
  obtain ⟨t, ht, -, hshed, -⟩ := falls overShed (by decide) (by decide) (by decide)
  obtain ⟨u, hu, hzero⟩ := shedStep_of_overShed
  rw [hu] at ht
  rw [← Host.Outcome.next.inj ht, hzero] at hshed
  exact absurd hshed (by decide)

end Sys2Proof.Proofs
